-- ==== Sys2Proof/Word.lean ====
section
/-! DEFINITION. The word types of the model: a byte, the 4,096-byte block every slot-cell moves (R33),
and the trailer of a member sector (R98). -/

namespace Sys2Proof

/-- One byte. -/
abbrev Byte := BitVec 8

/-- One block of 4,096 bytes: byte `j` is bits `8j+7` to `8j` (R33). -/
abbrev Block := BitVec 32768

/-- The 16-byte trailer of a member sector, little-endian (R98). -/
abbrev Trailer := BitVec 128

/-- A 512-bit digest or key (R8, R408). -/
abbrev Digest := BitVec 512

end Sys2Proof
end

