-- ==== Sys2Proof/Config.lean ====
section
/-! DEFINITION. What an implementation or a board fixes, and the free values: constants without a body, so that no
proof can see what they are.  Log entries 3, 7, 9 and 11. -/

namespace Sys2Proof.Config

/-- A free value of `w` bits, the `n`-th drawn: what the spec draws at random or leaves open (log entry 9). -/
opaque free (w : Nat) (n : Nat) : BitVec w

/-- What a counter object holds once it is counted past its largest value (no rule says; log entry 11). -/
opaque counterPastMax (key value : Nat) : Nat

/-- True on the ordering code KA2460-D36, false on KA2460-D24 (R1, R2). -/
opaque d36 : Bool

/-- fw_serial (R498, factory-assigned). -/
opaque serial : List Byte
/-- fw_manufacture_time (R498, factory-assigned). -/
opaque manufactureTime : Nat
/-- fw_device_key (R498, factory-assigned). -/
opaque deviceKey : List Byte
/-- gh_field_mac (R498, factory-assigned), 48 bits. -/
opaque fieldMac : BitVec 48
/-- pc_mac_address of link `l` (R386, factory-assigned), 48 bits. -/
opaque linkMac (l : Nat) : BitVec 48
/-- fw_vendor_key_digest (R470, fused). -/
opaque vendorKeyDigest : Digest
/-- The vendor's ML-DSA-87 image key (R56, R57). -/
opaque vendorKey : List Byte
/-- The catalogue of counter events that gb_event_catalogue carries for a block kind (R532). -/
opaque eventCatalogue : List Byte

/-- The base field of a room descriptor, a handle or address whose value no rule states, by room key and generation (R279). -/
opaque roomBase (key gen : Nat) : BitVec 64
/-- The shelf serial, 20 ASCII characters (R314; no layout of the descriptor gives its place). -/
opaque shelfSerial : List Byte
/-- The UUID reported for a namespace by its NGUID (R315; its value is not stated). -/
opaque nsUuid (nguid : Nat) : BitVec 128
/-- IP addresses configured on the network ports: IPv6, bytes as text (R310; no object holds them). -/
opaque portAddresses : List (Bool × List Byte)

/-- The 16 bytes of metadata of a descriptor sector, by member namespace and member LBA (R197 states none; log entry 117). -/
opaque descMeta (wing lba : Nat) : BitVec 128

/-- SHA3-512 (FIPS 202; R51, R460, R492). -/
opaque sha3 (m : List Byte) : Digest
/-- KMAC256 with a 256-bit output (SP 800-185; R408, R489). -/
opaque kmac256 (key : List Byte) (m : List Byte) (label : String) : BitVec 256
/-- KMAC256 with a 512-bit output (R408). -/
opaque kmac512 (key : List Byte) (m : List Byte) (label : String) : Digest
/-- ML-DSA-87 verification in pure form with a context string (FIPS 204; R56, R460, R493). -/
opaque mldsaVerify (key : List Byte) (context : String) (m : List Byte) (signature : List Byte) : Bool
/-- ML-DSA-87 signature under the device key (R493). -/
opaque mldsaSign (context : String) (m : List Byte) : List Byte
/-- KMAC256 with a 288-bit output (R270, R408). -/
opaque kmac288 (key : List Byte) (m : List Byte) (label : String) : BitVec 288
/-- One block under the AES-256-GCM keystream of a packet: the 288 bits of key and salt (R270), its ESP sequence number as IV (R269),
from the position of its payload on (R416).  The same function encrypts and decrypts. -/
opaque gcmCrypt (key : BitVec 288) (seq : Nat) (b : Block) : Block
/-- AES-256-XTS encryption of one block under a 512-bit key and a 128-bit tweak (R417). -/
opaque xtsEncrypt (key : Digest) (tweak : BitVec 128) (b : Block) : Block
/-- AES-256-XTS decryption (R417). -/
opaque xtsDecrypt (key : Digest) (tweak : BitVec 128) (b : Block) : Block
/-- AES key wrap of a 256-bit key (RFC 3394; R407). -/
opaque keyWrap (kek key : BitVec 256) : BitVec 320
/-- AES key unwrap; none when the check fails (RFC 3394; R407). -/
opaque keyUnwrap (kek : BitVec 256) (wrapped : BitVec 320) : Option (BitVec 256)

end Sys2Proof.Config
end

