-- ==== Sys2Proof/Syntax.lean ====
section
/-! DEFINITION. The commands of the KA2460: one constructor per row of the table of operations, with what the outside
supplies. -/

namespace Sys2Proof

/-- What a host or endpoint I/O command is (R311, R505). -/
inductive CmdOp where
  | read | write | flush | writeZeroes | dsm | resRegister | resAcquire | resRelease | resReport
  | roomOpen | roomModify | roomClose | other
  deriving DecidableEq, Repr

/-- Where a command came from: an association, the service endpoint, or a connection that has no association yet (R68,
R306, R506). -/
inductive CmdSrc where
  | assoc (index : Nat) | endpoint | conn (qpn : Nat)
  deriving DecidableEq, Repr

/-- An I/O command capsule, or a command fetched by the endpoint, as its fields (R71, R105, R311, R313, R331, R280). -/
structure Capsule where
  /-- The sender. -/
  src : CmdSrc := .endpoint
  /-- The connection's controller queue-pair number. -/
  qpn : Nat := 0
  /-- The submission queue. -/
  sqid : Nat := 0
  /-- The command identifier. -/
  cid : Nat := 0
  /-- The command. -/
  op : CmdOp := .other
  /-- The namespace. -/
  nsid : Nat := 0
  /-- The first LBA. -/
  slba : Nat := 0
  /-- Blocks. -/
  nlb : Nat := 0
  /-- Force Unit Access. -/
  fua : Bool := false
  /-- A field the table of commands marks as refused is set (PRINFO, DTYPE, PSDT of the endpoint; R311, R505). -/
  refused : Bool := false
  /-- Deallocate attribute of Dataset Management. -/
  ad : Bool := false
  /-- Ranges of Dataset Management: first LBA, blocks. -/
  ranges : List (Nat × Nat) := []
  /-- The data descriptor is one Keyed SGL Data Block descriptor. -/
  keyed : Bool := true
  /-- Its sub type. -/
  sub : Nat := 0
  /-- Its address field. -/
  address : Nat := 0
  /-- Its key field. -/
  key : Nat := 0
  /-- Command-specific words of the reservation and room commands: action, type, flags, length; of a Read or Write of the
  endpoint the pages of its PRP entries. -/
  cdw : List Nat := []
  /-- Message number of its capsule on a spread connection. -/
  msg : Nat := 0
  /-- Data carried for a command of that kind: reservation keys. -/
  keys : List Nat := []
  deriving DecidableEq, Repr

/-- A packet of a connection as it arrives (R263 to R301): what its headers say and what the engine finds. -/
structure Packet where
  /-- Destination QP number. -/
  qpn : Nat := 0
  /-- SPI of its ESP header, 32 bits, where it has one. -/
  spi : Option Nat := none
  /-- ESP sequence number. -/
  seq : Nat := 0
  /-- Its ICV passes. -/
  icv : Bool := true
  /-- Marked CE. -/
  ce : Bool := false
  /-- Base transport opcode. -/
  opcode : Nat := 0
  /-- PSN. -/
  psn : Nat := 0
  /-- The waypoint header of a spread-mode packet, 16 bytes (R293); none in standard mode. -/
  waypoint : List Byte := []
  /-- Total bytes of a standard-mode message: the DMA length of its RETH. -/
  dmaLength : Nat := 0
  /-- Payload bytes of this packet. -/
  bytes : Nat := 4096
  /-- R_Key. -/
  key : Nat := 0
  /-- Virtual address of the message's start. -/
  address : Nat := 0
  /-- The pull a READ response answers: its arrival sequence. -/
  arrival : Nat := 0
  /-- The LBA of that pull. -/
  lba : Nat := 0
  /-- Staged frame that brought it, 0 none. -/
  frame : Nat := 0
  /-- Payload as it is on the wire, under the transport protection. -/
  data : Block := 0
  /-- The capsule a SEND carries. -/
  cap : Capsule := {}
  /-- PSN, or message number, an Acknowledge names. -/
  number : Nat := 0
  /-- NAK code of an Acknowledge that is one: 0 PSN Sequence Error, 1 Invalid Request, 2 Remote Access Error. -/
  nak : Option Nat := none
  /-- Steward work queue whose head transfer an Acknowledge ends. -/
  work : Option Nat := none
  /-- Packets of its message a SACK shows received. -/
  got : List Nat := []
  deriving DecidableEq, Repr

/-- The head of a received frame, as its fields (R352 to R361). -/
structure FrameHead where
  /-- Destination address. -/
  dst : Nat := 0
  /-- EtherType behind the tags. -/
  etype : Nat := 0
  /-- Opcode of a MAC control frame. -/
  macOp : Nat := 0
  /-- 802.1Q tags carried. -/
  tags : Nat := 0
  /-- The outer TPID is 0x88A8. -/
  outer88a8 : Bool := false
  /-- VID of the tag. -/
  vid : Nat := 0
  /-- PCP of the tag. -/
  pcp : Nat := 0
  /-- DSCP of an IP frame. -/
  dscp : Option Nat := none
  /-- IPv4 protocol or IPv6 next header, 0 where the frame is not IP. -/
  proto : Nat := 0
  /-- UDP destination port, 0 where there is none. -/
  udp : Nat := 0
  /-- Queue pair of a transport packet, 0 none. -/
  qpn : Nat := 0
  /-- The packet carries data that a NET_IN cell moves into a bed. -/
  payload : Bool := false
  /-- The first bytes of the frame, at most 128. -/
  first : List Byte := []
  deriving DecidableEq, Repr

/-- What the gatehouse's inputs read in one tick (R423): feeds, board, bays, bank, rails and presence. -/
structure TickIn where
  /-- Feeds A and B: mV, mA (negative reverse). -/
  feeds : List (Nat × Int) := [(0, 0), (0, 0)]
  /-- GH_VSEL, mV. -/
  vsel : Nat := 0
  /-- GH_VBUS, mV. -/
  vbus : Nat := 0
  /-- Board current, mA. -/
  board : Nat := 0
  /-- BAY_VRAIL, mV. -/
  bayRail : Nat := 0
  /-- Bays: BAY_VOUTn mV, current mA. -/
  bays : List (Nat × Nat) := []
  /-- GH_VBANK, mV. -/
  bank : Nat := 0
  /-- PG_RAILn. -/
  good : List Bool := []
  /-- BAY_PRSNTn_N low. -/
  low : List Bool := []
  deriving DecidableEq, Repr

/-- The data of a Fabrics Connect (R306 to R310). -/
structure ConnectData where
  /-- The connection's controller queue-pair number. -/
  qpn : Nat := 0
  /-- The command identifier. -/
  cid : Nat := 0
  /-- The queue. -/
  qid : Nat := 0
  /-- SQSIZE. -/
  sqsize : Nat := 31
  /-- Keep Alive Timeout, ms. -/
  kato : Nat := 0
  /-- Controller ID, 0xFFFF at an admin Connect. -/
  cntlid : Nat := 0xFFFF
  /-- Host Identifier, 128 bits. -/
  hostid : Nat := 0
  /-- Host NQN. -/
  hostnqn : List Byte := []
  /-- The subsystem named is the discovery subsystem. -/
  discovery : Bool := false
  /-- The subsystem named is this one. -/
  known : Bool := true
  deriving DecidableEq, Repr

/-- What an examined drive holds (R345). -/
inductive DriveContent where
  | thisShelf | blank | otherShelf | invalid
  deriving DecidableEq, Repr

/-- What a tagged message of the object protocol carries besides its body (R489, R490). -/
structure FieldMsg where
  /-- Session id. -/
  session : Nat := 0
  /-- Message counter. -/
  counter : Nat := 0
  /-- Request number, echoed in the reply. -/
  request : Nat := 0
  /-- Its tag. -/
  tag : BitVec 256 := 0#256
  /-- The link whose management VLAN it came on, none for the field network. -/
  vlan : Option Nat := none
  deriving DecidableEq, Repr

/-- The error registers of the endpoint's configuration space as the service host last wrote them (R511, R512). -/
structure EpErrRegs where
  /-- Uncorrectable Error Mask. -/
  mask : Nat := 4194304
  /-- Uncorrectable Error Severity. -/
  severity : Nat := 4595760
  /-- Correctable Error Mask. -/
  corMask : Nat := 24576
  /-- Reporting enables of Device Control: bit 0 correctable, 1 non-fatal, 2 fatal. -/
  enables : Nat := 0
  deriving DecidableEq, Repr

/-- A host registrant of a namespace (R338). -/
structure Registrant where
  /-- 128 bits (R338). -/
  hostid : Nat := 0
  /-- 64 bits (R338). -/
  rkey : Nat := 0
  /-- flags bit 0 (R338). -/
  holder : Bool := false
  deriving DecidableEq, Repr

/-- Namespace table entry (R338) with the volatile parts of a namespace. -/
structure Namespace where
  /-- 1 to 1,024 (R338). -/
  nsid : Nat := 0
  /-- layout id (R137, R338). -/
  layout : BitVec 16 := 0#16
  /-- 1 or 2 (R139, R338). -/
  wing : Nat := 1
  /-- 0 to 6 (R332, R338). -/
  rtype : Nat := 0
  /-- 16 bits (R154, R338). -/
  creationGen : Nat := 1
  /-- extent base (R142, R338). -/
  base : Nat := 0
  /-- 32 bits (R142, R338). -/
  rows : Nat := 0
  /-- at most 124 (R332, R338). -/
  registrants : List Registrant := []
  /-- 32 bits (R338, R418). -/
  keyGen : Nat := 1
  /-- 32 bits (R338). -/
  resGen : Nat := 0
  /-- party_mask, as the descriptor records it (R337, R338). -/
  partyMask : Nat := 65535
  /-- 128 bits (R335, R338). -/
  nguid : Nat := 0
  /-- shelf time (R338). -/
  created : Nat := 0
  /-- deletion in progress (R336). -/
  deleting : Bool := false
  /-- waiting for the descriptor commit (R335). -/
  creating : Bool := false
  /-- read-ahead: next LBA, count, most recent first, at most 64 (R126). -/
  streams : List (Nat × Nat) := []
  deriving DecidableEq, Repr

/-- Lost-block log entry (R178). -/
structure LostEntry where
  /-- first host LBA (R178). -/
  first : Nat := 0
  /-- blocks (R178). -/
  blocks : Nat := 0
  /-- 1 to 7 (R178, R218). -/
  cause : Nat := 0
  /-- shelf time (R178). -/
  time : Nat := 0
  /-- stripe of first (R178). -/
  stripe : Nat := 0
  deriving DecidableEq, Repr

/-- Lost-block log page of a namespace (R178). -/
structure LostPage where
  /-- 1 to 1,024 (R178). -/
  nsid : Nat := 0
  /-- 32 bits (R178). -/
  changes : Nat := 0
  /-- flags bit 0 (R178). -/
  widened : Bool := false
  /-- at most 4,096 (R178). -/
  entries : List LostEntry := []
  deriving DecidableEq, Repr

/-- Placement log entry (R149). -/
structure LogEntry where
  /-- 16 bits (R149). -/
  gen : Nat := 0
  /-- kind: LOSS or RETURN (R149). -/
  loss : Bool := true
  /-- 0 to 23 (R149). -/
  bay : Nat := 0
  /-- state (R149). -/
  done : Bool := false
  /-- shelf time (R149). -/
  start : Nat := 0
  /-- bitmap of R153: (NSID, stripe) done (R153). -/
  bits : List (Nat × Nat) := []
  /-- rebuild work started (R161). -/
  started : Bool := false
  deriving DecidableEq, Repr

/-- Placement of one wing (R149 to R154). -/
structure Placement where
  /-- 16 bits (R149, R160). -/
  gen : Nat := 1
  /-- up to 64 (R149, R569). -/
  log : List LogEntry := []
  /-- h[bay] (R152, R160). -/
  home : List Nat := List.replicate 24 1
  /-- entries that have left the log since it was last empty (the model's own, log entry 101) (R152). -/
  past : List LogEntry := []
  /-- bays lost, LOSS waiting (R569). -/
  pendingLoss : List Nat := []
  /-- bays with an accepted drive waiting for RETURN (R569, R570). -/
  waitingReturn : List Nat := []
  deriving DecidableEq, Repr

/-- A member sector: its place, its data and its 16 bytes of metadata (R98, R199). -/
structure Sector where
  /-- member LBA (R147). -/
  lba : Nat := 0
  /-- 4,096 bytes (R98). -/
  data : Block := 0#32768
  /-- 128 bits (R98, R199). -/
  trl : BitVec 128 := 0#128
  deriving DecidableEq, Repr

/-- What a shelf descriptor of a wing records (R197). -/
structure Descriptor where
  /-- wing (R197). -/
  wing : Nat := 1
  /-- 64 bits (R197). -/
  generation : Nat := 0
  /-- 1 single, 2 paired (R197). -/
  config : Nat := 1
  /-- member blocks per drive (R197). -/
  memberSize : Nat := 0
  /-- namespace table (R338). -/
  namespaces : List Namespace := []
  /-- placement log and home generations (R149, R152). -/
  placement : Placement := {}
  /-- lost-block log pages (R178). -/
  lostPages : List LostPage := []
  /-- 0 or 1 (R407). -/
  wrapState : Nat := 0
  /-- 320 bits (R407). -/
  wrapped : Nat := 0
  /-- shelf time of the write (R197). -/
  written : Nat := 0
  deriving DecidableEq, Repr

/-- A shelf descriptor as a drive returns it: its content and the fields of its header that are checked (R197). -/
structure DescCopy where
  /-- bay (R197). -/
  bay : Nat := 0
  /-- content (R197). -/
  desc : Descriptor := {}
  /-- 32 bits (R197). -/
  magic : Nat := 1146309707
  /-- 16 bits (R197). -/
  format : Nat := 2
  /-- bytes of the descriptor (R197). -/
  length : Nat := 0
  /-- 512 bits (R197). -/
  digest : Nat := 0
  deriving DecidableEq, Repr

/-- What a drive returns with a completion: the block and metadata of a one-sector read, the sectors of a journal zone that read as written, or a shelf descriptor. -/
structure DriveData where
  /-- 4,096 bytes (R98, R108). -/
  data : Block := 0#32768
  /-- 128 bits (R98). -/
  trl : BitVec 128 := 0#128
  /-- sectors of a zone, by member LBA (R199, R571). -/
  sectors : List Sector := []
  /-- descriptor copy (R197). -/
  desc : Option DescCopy := none
  deriving DecidableEq, Repr

/-- What the units, the drives and the vault present when a Muster step ends (R457). -/
structure MusterIn where
  /-- units that failed their self-test (R458). -/
  failed : List Nat := []
  /-- comparators that asserted (R206). -/
  comparators : List Bool := [true, true, true]
  /-- pages of the vault that read otherwise than written: image, page, content (R208, R211). -/
  vault : List (Nat × Nat × Block) := []
  /-- rate and width at which the endpoint's link came up, none without a service host (R499, R519). -/
  link : Option (Nat × Nat) := none
  deriving DecidableEq, Repr

/-- A ledger record: its header (R189) and its blocks. -/
structure LedgerRec where
  /-- 64 bits (R189, R190). -/
  sealNo : Nat := 0
  /-- 1 to 5 (R189). -/
  kind : Nat := 1
  /-- 1 or 2 (R189). -/
  wing : Nat := 1
  /-- flags bit 0 (R189). -/
  fua : Bool := false
  /-- flags bit 1 (R189). -/
  zero : Bool := false
  /-- flags bit 2 (R88, R189). -/
  superseded : Bool := false
  /-- flags bit 3 (R87, R189). -/
  eligible : Bool := false
  /-- flags bit 4 (R189). -/
  applyBegun : Bool := false
  /-- 16 bits (R189). -/
  nsid : Nat := 0
  /-- layout id (R189). -/
  layout : BitVec 16 := 0#16
  /-- first host LBA (R189). -/
  first : Nat := 0
  /-- stripe (R189). -/
  stripe : Nat := 0
  /-- 64 bits (R189). -/
  arrival : Nat := 0
  /-- 16 bits (R189). -/
  assoc : Nat := 0
  /-- 16 bits (R189). -/
  sqid : Nat := 0
  /-- 16 bits (R189). -/
  cid : Nat := 0
  /-- 16 bits (R189). -/
  keyGen : Nat := 0
  /-- 64 bits (R189). -/
  target : Nat := 0
  /-- 1 to 16 blocks of a waybill without ZERO (R189). -/
  blocks : List Block := []
  /-- blocks zeroed (pos of a ZERO waybill) (R189). -/
  zeroed : Nat := 0
  deriving DecidableEq, Repr

/-- The commands (spec/opcode_table.json, 256 rows). -/
inductive Instr where
  /-- Cycle 0 of slot 0 of each leg arrives, and every action requested to take effect at a leg boundary takes effect. (R13) -/
  | legBoundary
  /-- Loss of REFCLK is detected, the PLL enters holdover and the mode reacts. (R30) -/
  | refclkLoss
  /-- The reference has been present for 10 ms, the PLL relocks and the previous mode resumes. (R30) -/
  | refclkRelock
  /-- Holdover ends with the reference still absent, so a guestbook record is written and a warm reset performed. (R30) -/
  | holdoverEnd
  /-- A compiler-empty cell fires and moves nothing. (R36) -/
  | noneCmd (slot lane word : Nat)
  /-- A cell moves received payload from a network port into a bed. (R72) -/
  | netIn (slot lane word : Nat)
  /-- A cell moves payload from a bed to a network port. (R109) -/
  | netOut (slot lane word : Nat) (bytes : Nat)
  /-- A cell performs one cipher pass on a bed and writes the result back. (R76) -/
  | cipher (slot lane word : Nat) (good : Bool)
  /-- A cell moves drive read data into a bed. (R108) -/
  | driveIn (slot lane word : Nat)
  /-- A cell moves member write data from a bed to a root port. (R81) -/
  | driveOut (slot lane word : Nat)
  /-- A cell moves a block into a parity unit row job. (R157) -/
  | parityIn (slot lane word : Nat)
  /-- A cell moves P, Q or reconstructed blocks from a parity unit into a bed. (R158) -/
  | parityOut (slot lane word : Nat)
  /-- A cell moves leg-packet frames to the sister-link MAC. (R236) -/
  | sisterOut (slot lane word : Nat)
  /-- A cell moves leg-packet frames from the sister-link MAC into the shadow. (R240) -/
  | sisterIn (slot lane word : Nat)
  /-- A cell reads a stripe-cache or slab block from HBM3E into a bed. (R107) -/
  | cacheRd (slot lane word : Nat)
  /-- A cell writes a bed into the protected slab or stripe cache. (R85) -/
  | cacheWr (slot lane word : Nat)
  /-- A cell fetches or spills a queue-pair context. (R275) -/
  | context (slot lane word : Nat)
  /-- A cell carries a journal record to a root port. (R201) -/
  | journal (slot lane word : Nat)
  /-- A cell moves service host data between the endpoint and a bed. (R506) -/
  | endpoint (slot lane word : Nat)
  /-- A cell moves flush or replay data between HBM3E and the vault. (R208) -/
  | vault (slot lane word : Nat)
  /-- A cell carries capsules, completions, doorbells or control messages between stewards and engines. (R35) -/
  | control (slot lane word : Nat)
  /-- A cell carries cluster counter dumps into HBM3E. (R538) -/
  | dump (slot lane word : Nat)
  /-- The END fragment of a tt_shadow_image write replaces store 2 or is discarded during a check or switch. (R566) -/
  | shadowImageEnd (cls : Nat) (image : List Byte)
  /-- A write of 1 to tt_check starts the conformance checker on store 2. (R57) -/
  | ttCheck (cls value : Nat)
  /-- The checker finishes and sets the store accepted or rejected and tt_check_result ready. (R57) -/
  | ttCheckDone
  /-- A write to tt_switch requests a switch to an accepted store or is refused. (R59) -/
  | ttSwitch (cls value : Nat)
  /-- The digest recheck of the target store completes and the switch is scheduled or refused. (R59) -/
  | ttSwitchDigestDone
  /-- A party class without berths in the new image empties and the pending switch proceeds. (R60) -/
  | ttSwitchClassEmpty
  /-- The class has not emptied within 64 legs and the switch is refused with cause 0x15. (R60) -/
  | ttSwitchClassTimeout
  /-- A write of 1 copies accepted store 2 into store 3. (R478) -/
  | ttShadowToF1 (cls value : Nat)
  /-- A capsule passes ESP and parsing, is stamped with the arrival sequence and entered in the range table. (R68) -/
  | capsuleAccept (p : Packet)
  /-- Once P, Q and the intent's copy are in place, all member writes of a full stripe are issued. (R81) -/
  | fullStripeIssue (arrival stripe : Nat)
  /-- No acknowledgement within 8 legs moves the copy path to the journal zones. (R90) -/
  | copyAckTimeout (leg : Nat)
  /-- The ledger begins applying the eligible waybills of a stripe, choosing reads row by row. (R94) -/
  | applyStart (nsid stripe : Nat)
  /-- A drive returns a completion entry for a command on one of its queues. (R340) -/
  | driveCompletion (bay queue cid : Nat) (good : Bool) (d : DriveData)
  /-- Once earlier overlapping commands release a block, a Read chooses its source and fixes it. (R106) -/
  | blockFix (arrival lba : Nat)
  /-- A member read outstanding for ce_read_hedge is treated as an erasure and reconstruction starts. (R341) -/
  | readHedge (arrival lba : Nat)
  /-- ce_read_room_hold elapses and the pins of a read-room Read are released. (R118) -/
  | readRoomHoldExpiry (arrival : Nat)
  /-- A host RDMA READ request on a read room is served from pinned content or refused. (R117) -/
  | roomRdmaRead (p : Packet)
  /-- A containment cause arises and the bay's port is closed, commands returned and the bay made lost. (R344) -/
  | bayContain (bay cause : Nat)
  /-- A RETURN for an accepted drive in a lost bay is entered once 25 log entries are free. (R569) -/
  | returnEvent (wing bay : Nat)
  /-- The controller holds a due stripe and copies or reconstructs its moved strips to their destinations. (R164) -/
  | rebuildStripe
  /-- Every rebuild write of a stripe completes, its bits are set and its completion record is sent. (R164) -/
  | rebuildStripeDone (nsid stripe : Nat)
  /-- The night watch reads a stripe, checks every row and corrects, reports or loses it. (R183) -/
  | patrolStripe (wing : Nat)
  /-- A queued rewrite request is served before the next patrol stripe. (R186) -/
  | patrolRewrite
  /-- A write to pe_rebuild_rate changes the rebuild limit at the next leg boundary. (R173) -/
  | peRebuildRateWrite (cls value : Nat)
  /-- A write to pe_patrol_enable stops the patrol after its row or resumes it at the cursor. (R188) -/
  | pePatrolEnableWrite (cls value : Nat)
  /-- A write of 1 clears pe_patrol_log. (R478) -/
  | pePatrolLogClear (cls value : Nat)
  /-- The power-fail detector trips and the controller enters Holdup and begins the flush. (R207) -/
  | pfTrip (seen : List Bool)
  /-- The flush writes its end page and the controller warm-resets or bleeds to Vigil. (R210) -/
  | flushEndPage (mw : Nat)
  /-- The bank falls to 20 V before the end page and the flush stops with a partial image. (R211) -/
  | bankFloorReached
  /-- A comparator disagreeing with the other two for over 1 s is marked suspect. (R206) -/
  | comparatorSuspect (comparator : Nat)
  /-- A journal record's writes complete on every bay of its triple and its items are held. (R202) -/
  | journalRecordHeld (wing jseq : Nat)
  /-- A shelf descriptor generation is committed once every present drive's write completes. (R197) -/
  | descriptorCommit
  /-- A write to lg_ledger_size changes the ledger size at the next leg boundary. (R228) -/
  | lgLedgerSizeWrite (cls value : Nat)
  /-- A change of flush profile resets the measured power and recomputes the ledger size. (R222) -/
  | lgFlushProfileWrite (cls value : Nat)
  /-- The gatehouse sends a SISTER_SB frame every 1 ms. (R242) -/
  | sisterSbTx (lines : Nat)
  /-- A valid SISTER_SB frame is received and its claims, mode and bay flag are taken. (R242) -/
  | sisterSbRx (frame : List Byte) (lines : Nat)
  /-- No valid frame for 5 ms declares the sideband silent and the other sister's claims 0. (R242) -/
  | sidebandSilent (lines : Nat)
  /-- The former owner releases its bay outputs after 1 ms of the new owner's frames. (R244) -/
  | bayOwnerRelease
  /-- A leg packet is received, checked, held in the shadow and answered with ACK or NAK. (R240) -/
  | legPacketRx (frames : List (List Byte))
  /-- An ACK whose digest matches counts the leg's copy as held. (R240) -/
  | legPacketAck (frame : List Byte)
  /-- A NAK or mismatched ACK fails the copy path at once. (R240) -/
  | legPacketNak (frame : List Byte)
  /-- si_silence_legs pass without a leg packet and the standby sends REQUEST. (R249) -/
  | holderSilence (wing : Nat)
  /-- A GRANT arrives and the standby or cold spare takes the wing with the granted claim. (R250) -/
  | wardenGrant (m : FieldMsg) (wing claim lease : Nat)
  /-- A REFUSE arrives and the sender stays standby or yields the wing. (R248) -/
  | wardenRefuse (m : FieldMsg) (wing claim lease : Nat)
  /-- No warden reply within si_warden_timeout leads to fallback or standby. (R250) -/
  | wardenTimeout (wing : Nat)
  /-- si_holdoff_legs pass and the standby takes the wing by quorum or yields. (R250) -/
  | holdoffExpiry (wing key : Nat)
  /-- Every si_lease_renew the holder sends RENEW for each wing it holds. (R248) -/
  | renew
  /-- A member or journal write completes with Reservation Conflict and the holder checks the drive's key. (R234) -/
  | reservationConflict (bay queue cid key : Nat)
  /-- A Reservation Acquire preempt completes and the drive is won or refused. (R233) -/
  | driveWon (wing bay holder : Nat) (keys : List Nat) (good : Bool)
  /-- Quorum or a drive is not won within si_preempt_timeout, so undone drives are made lost or preempts stop. (R251) -/
  | preemptTimeout (wing : Nat)
  /-- One second after a failed quorum the taker tries again. (R251) -/
  | quorumRetry (wing : Nat)
  /-- A RESYNC_REQ frame makes the holder snapshot its slab and send it. (R260) -/
  | resyncReq (frame : List Byte)
  /-- A matching RESYNC_DONE makes the sister link the copy path again. (R260) -/
  | resyncDone (frame : List Byte)
  /-- A write to si_handback starts the return of a wing to the other sister. (R261) -/
  | siHandback (cls value : Nat)
  /-- A HANDBACK frame makes the recipient request and take the wing. (R261) -/
  | handback (frame : List Byte)
  /-- No claim within 1 s of HANDBACK reopens the wing with TIMEOUT. (R261) -/
  | handbackTimeout (wing : Nat)
  /-- A write of 1 to si_promote promotes a cold spare. (R258) -/
  | siPromote (cls value : Nat)
  /-- A connection request is accepted or rejected and a QP number assigned. (R266) -/
  | cmReq (priv : List Byte) (hostQpn link resources depth mtu : Nat)
  /-- A packet of pulled write data arrives, is ICV-checked and staged. (R271) -/
  | rdmaReadResponse (p : Packet)
  /-- An RDMA WRITE packet into a push room is placed in a fresh pool 1 bed. (R281) -/
  | rdmaWritePush (p : Packet)
  /-- An Acknowledge or NAK arrives and retransmission proceeds go-back-N. (R299) -/
  | acknowledge (p : Packet)
  /-- A congestion notification for a connection arrives. (R302) -/
  | cnp (p : Packet)
  /-- A SACK arrives and missing packets older than tr_spread_rto are resent. (R296) -/
  | sack (p : Packet)
  /-- Every tr_spread_ack_interval a SACK for the oldest incomplete message is sent. (R296) -/
  | sackInterval (qpn : Nat)
  /-- A spread message not complete or not acknowledged within tr_spread_timeout ends the connection. (R298) -/
  | spreadTimeout (qpn msg : Nat)
  /-- tr_ack_timeout passes without acknowledgement and the requester resends or gives up. (R299) -/
  | ackTimeout (qpn : Nat)
  /-- A write to tr_rekey rekeys a connection's outbound direction. (R273) -/
  | trRekey (cls qpn : Nat)
  /-- tr_rekey_overlap after the first packet under the new count, the old count is retired. (R273) -/
  | rekeyOverlapEnd (qpn : Nat)
  /-- A spilled context arrives and the waiting packets of its queue pair are processed in order. (R275) -/
  | contextFetchDone (qpn : Nat)
  /-- A wait entry not satisfied in tr_chain_wait_timeout completes with TIMEOUT and stops its queue. (R290) -/
  | waitEntryTimeout (queue : Nat)
  /-- An admin or I/O Connect creates an association or queue pair or is refused. (R307) -/
  | fabricsConnect (c : ConnectData)
  /-- A Fabrics Property Get returns CAP, VS, CC or CSTS. (R311) -/
  | propertyGet (src : CmdSrc) (cid offset : Nat)
  /-- A Fabrics Property Set writes CC, with CC.SHN completing after every command. (R311) -/
  | propertySet (src : CmdSrc) (cid offset value : Nat)
  /-- A Fabrics Disconnect ends the association. (R309) -/
  | disconnect (src : CmdSrc) (cid : Nat)
  /-- Identify CNS 01h returns the controller data structure. (R314) -/
  | identifyController (src : CmdSrc) (cid cns : Nat)
  /-- Identify CNS 00h returns a namespace data structure. (R315) -/
  | identifyNamespace (src : CmdSrc) (cid nsid : Nat)
  /-- Identify CNS 02h lists active namespaces. (R315) -/
  | activeNamespaceList (src : CmdSrc) (cid nsid : Nat)
  /-- Identify CNS 03h returns the NGUID and UUID descriptors. (R315) -/
  | namespaceDescriptorList (src : CmdSrc) (cid nsid : Nat)
  /-- Get Log Page returns one of the listed pages. (R316) -/
  | getLogPage (src : CmdSrc) (cid lid nsid offset length : Nat) (rae : Bool)
  /-- Set Features changes a listed feature or is refused. (R319) -/
  | setFeatures (src : CmdSrc) (cid fid nsid value : Nat) (save : Bool)
  /-- Get Features returns a feature's current value or capabilities. (R319) -/
  | getFeatures (src : CmdSrc) (cid fid nsid sel : Nat)
  /-- A fragment of a firmware package is received into the open download. (R321) -/
  | firmwareImageDownload (src : CmdSrc) (cid offset : Nat) (data : List Byte)
  /-- Firmware Commit verifies the package and stores or activates it by its commit action. (R322) -/
  | firmwareCommit (src : CmdSrc) (cid action slot : Nat)
  /-- The new firmware reports ready on every steward and Drain's activation cause clears. (R467) -/
  | firmwareActivationReady
  /-- New firmware not ready within MTFA forces a warm reset. (R467) -/
  | mtfaTimeout
  /-- An Abort is decided at the completion gate of its queue. (R325) -/
  | abortCmd (src : CmdSrc) (cid sqid target : Nat)
  /-- A Keep Alive restarts the association's keep alive timer. (R308) -/
  | keepAlive (src : CmdSrc) (cid : Nat)
  /-- The keep alive timer expires and the association ends. (R308) -/
  | katoExpiry (assoc : Nat)
  /-- An AER is held to report the next unmasked event. (R318) -/
  | asynchronousEventRequest (src : CmdSrc) (cid : Nat)
  /-- A Read command is checked before admission and its pieces queued. (R104) -/
  | readCmd (arrival : Nat)
  /-- A Write command is checked and split into full-stripe and partial parts. (R78) -/
  | writeCmd (arrival : Nat)
  /-- A Flush completes when every earlier write of the namespace is acknowledged. (R92) -/
  | flushCmd (arrival : Nat)
  /-- Write Zeroes is split at stripe boundaries into ZERO waybills. (R313) -/
  | writeZeroes (arrival : Nat)
  /-- Dataset Management with AD writes ZERO waybills per range, or does nothing. (R313) -/
  | datasetManagement (arrival : Nat)
  /-- A Reservation Register changes the registrant list and completes at descriptor commit. (R331) -/
  | reservationRegister (arrival : Nat)
  /-- A Reservation Acquire takes, preempts or preempts and aborts a reservation. (R333) -/
  | reservationAcquire (arrival : Nat)
  /-- A Reservation Release releases or clears a reservation. (R331) -/
  | reservationRelease (arrival : Nat)
  /-- A Reservation Report returns the namespace's reservation state. (R332) -/
  | reservationReport (arrival : Nat)
  /-- Room Open allocates a push or read room and returns its key. (R280) -/
  | roomOpen (arrival : Nat)
  /-- Room Modify requests a new length or rights for a room. (R285) -/
  | roomModify (arrival : Nat)
  /-- Room Close puts a room in closing. (R286) -/
  | roomClose (arrival : Nat)
  /-- A room still closing after tr_room_close_timeout is closed and open messages refused. (R286) -/
  | roomCloseTimeout (room : Nat)
  /-- A power state request starts entry to PS1 or PS2 or a return to PS0. (R329) -/
  | cePowerStateSet (cls value : Nat)
  /-- The slab is empty and every command since the request has completed, so PS2 entry succeeds. (R329) -/
  | ps2EntryComplete
  /-- Entry to PS2 not done within ce_ps_entry_limit fails with Operation Denied. (R329) -/
  | psEntryLimitExpiry
  /-- A write of 1 creates a namespace from the new-namespace objects. (R335) -/
  | ceNsCreate (cls value : Nat)
  /-- A write of an NSID deletes the namespace and crypto-erases its extent. (R336) -/
  | ceNsDelete (cls value : Nat)
  /-- A write to ce_ns_party_mask changes namespace visibility and raises notice 0x00. (R337) -/
  | nsPartyMaskWrite (cls nsid value : Nat)
  /-- A drive I/O command outlives ce_drive_io_timeout and is aborted. (R342) -/
  | driveIoTimeout (bay queue cid : Nat)
  /-- A drive admin command outlives ce_drive_admin_timeout and is aborted. (R342) -/
  | driveAdminTimeout (bay cid : Nat)
  /-- Neither command nor Abort completes within ce_drive_abort_wait and the bay is contained. (R342) -/
  | driveAbortWaitExpiry (bay queue cid : Nat)
  /-- A write of a bay number contains that bay. (R343) -/
  | ceBayContain (cls value : Nat)
  /-- Presence in a lost or empty bay starts training, enabling and identifying the drive. (R345) -/
  | driveExamine (bay : Nat)
  /-- Examination ends and the drive is accepted or refused. (R345) -/
  | driveExamineDone (bay size link : Nat) (fit queues cache : Bool) (content : DriveContent)
  /-- A drive misses a training, CC.EN or queue-creation bound and is refused. (R345) -/
  | driveExamineTimeout (bay : Nat)
  /-- A write of a bay number starts examination of its drive. (R345) -/
  | ceBayRelease (cls value : Nat)
  /-- A write of a bay number lets a foreign drive's namespaces be recreated. (R345) -/
  | ceBayAccept (cls value : Nat)
  /-- The head of a received frame arrives and is judged by checks 4 to 8 and classified. (R352) -/
  | rxFrameHead (link : Nat) (head : FrameHead)
  /-- A frame ends and checks 1 to 3 are made. (R352) -/
  | rxFrameEnd (frame len : Nat) (fcs : Bool) (corrected uncorrected : Nat)
  /-- A link pause frame pauses every class for its time. (R362) -/
  | pauseFrame (link quanta : Nat)
  /-- A PFC frame pauses each enabled class for its time. (R362) -/
  | pfcFrame (link mask : Nat) (quanta : List Nat)
  /-- A class's pause time runs out. (R363) -/
  | pauseExpiry (link tc : Nat)
  /-- A class paused without break for pc_pause_storm_limit is logged. (R365) -/
  | pauseStorm (link tc : Nat)
  /-- Half the pause time passes with occupancy still high and the PFC frame is resent. (R366) -/
  | pfcRefresh (link : Nat)
  /-- At a frame boundary a link chooses the next frame among eligible classes. (R370) -/
  | txFrameBoundary (link : Nat) (stomp : Bool)
  /-- A link goes down, the frame in transmission is cut and egress frames discarded. (R372) -/
  | linkDown (link : Nat)
  /-- A link comes up and is logged. (R372) -/
  | linkUp (link : Nat)
  /-- A Sync message is received and the port clock steered toward lock. (R375) -/
  | ptpSync (link : Nat) (offset : Int)
  /-- pc_ptp_loss passes without a Sync and PTP enters holdover. (R375) -/
  | ptpLoss
  /-- A read of a statistics object returns and clears its count. (R385) -/
  | statisticsRead (cls ix sub : Nat)
  /-- A porter port draws a bed of a pool half for a cell or fails EXHAUSTED. (R392) -/
  | draw (port pool half owner : Nat)
  /-- A posted draw receives a bed of the smallest fitting pool. (R391) -/
  | drawBySize (size half unit : Nat)
  /-- A SHARE adds a reference to a bed. (R399) -/
  | shareCmd (handle unit : Nat)
  /-- A RELEASE removes a holder's reference from a bed. (R399) -/
  | releaseCmd (handle unit : Nat)
  /-- The owner's FREE returns a bed or leaves it freeing. (R399) -/
  | freeCmd (handle unit : Nat)
  /-- The owner's HANDOVER names a new owner of a bed. (R399) -/
  | handover (handle unit dest : Nat)
  /-- The END of a cy_owner_root write holds the owner root key or is refused. (R406) -/
  | cyOwnerRootWrite (cls : Nat) (value : List Byte)
  /-- A write of 1 derives K_host for cy_host_key_hostid into cy_host_key. (R409) -/
  | cyHostKeyDerive (cls value : Nat)
  /-- A KMAC256 derivation completes 96 cycles after it starts and enters the key store. (R413) -/
  | keyDerivationDone
  /-- A write of a core number resets that cipher core. (R419) -/
  | cyCoreReset (cls value : Nat)
  /-- A pass detects a fault in its core and returns RESET for reassignment. (R420) -/
  | coreFault (core : Nat) (passes pulls : List (Nat × Nat))
  /-- Every 1 µs the gatehouse evaluates every switch, feed and rail. (R423) -/
  | ghTick (t : TickIn)
  /-- A feed stays within limits for 10 ms and becomes valid. (R424) -/
  | feedValid (feed : Nat)
  /-- Twenty ticks after the break the new feed's FET pair is turned on. (R425) -/
  | feedMake
  /-- A higher-priority feed valid for gh_feed_return_delay is selected. (R426) -/
  | feedReturn (feed : Nat)
  /-- A switch's accumulator reaches its let-through energy and the switch trips. (R433) -/
  | faultTimerExpiry (switch : Nat)
  /-- A switch without power-good within its timeout trips. (R433) -/
  | pgTimeout (switch : Nat)
  /-- A tripped switch's off time ends and it is turned on again. (R433) -/
  | offTimeEnd (switch : Nat)
  /-- After 100 ms below the limit the fault accumulator clears. (R429) -/
  | accumulatorClear (switch : Nat)
  /-- After 60 s of power-good the consecutive trip count returns to 0. (R434) -/
  | tripCountClear (switch : Nat)
  /-- A write of 1 unlatches the board switch and clears its count. (R434) -/
  | ghBoardUnlatch (cls value : Nat)
  /-- A write of a bay number unlatches that bay switch. (R434) -/
  | ghBayUnlatch (cls bay : Nat)
  /-- BAY_PRSNTn_N low for 250 ms makes the bay ready to turn on. (R435) -/
  | presenceDebounced (bay : Nat)
  /-- gh_bay_stagger after the previous bay, the next ready bay is turned on. (R435) -/
  | bayStagger
  /-- A carrier is removed and its bay turned off within two ticks. (R436) -/
  | carrierRemoval (bay : Nat)
  /-- A bay empty long enough has its off time, count and latch cleared. (R436) -/
  | bayEmptyClear (bay : Nat)
  /-- A write to gh_bay_enable turns a bay on or off without a trip. (R435) -/
  | ghBayEnableWrite (cls bay value : Nat)
  /-- Every 100 µs the gatehouse samples its quantities and adds energy. (R438) -/
  | measurementSample
  /-- Every 10 ms the gatehouse publishes the bank figures to the ledger. (R444) -/
  | bankPublish
  /-- The bank reaches V_t and is held in the float band. (R440) -/
  | chargeTargetReached
  /-- V_t not reached within 60 s of a charge start is logged. (R440) -/
  | chargeTimeout
  /-- A ceiling write starts a charge or bleeds the bank to the new V_t. (R440) -/
  | ghBankEnergyCeilingWrite (cls value : Nat)
  /-- With no valid feed the bank is bled to the residue and Vigil entered. (R441) -/
  | bankBleedDone
  /-- At gh_bank_measure_time or first float the gatehouse measures the bank. (R442) -/
  | capacitanceMeasure
  /-- A write of 1 starts a bank measurement. (R442) -/
  | ghBankMeasure (cls value : Nat)
  /-- A measurement ends and C and ESR are stored and checked. (R443) -/
  | bankMeasureDone (c esr : Nat)
  /-- The gatehouse enables each used rail in order after the previous power-good and delay. (R446) -/
  | railSequence
  /-- A rail without PG within gh_rail_pg_timeout fails the sequence. (R446) -/
  | railPgTimeout
  /-- A used rail's PG falls for longer than the deglitch and every rail is turned off. (R447) -/
  | railFault (rail : Nat)
  /-- Every 60 s shelf time is saved. (R449) -/
  | shelfTimeSave
  /-- Once a second while locked, shelf time is stepped or slewed to the port clock. (R450) -/
  | ptpCompare
  /-- A write of a TIME value steps shelf time unless PTP is locked. (R451) -/
  | ghTimeSet (cls value : Nat)
  /-- The gatehouse leaves power-on reset, samples SISTER_ID and resumes saved time. (R18) -/
  | gatehousePowerOnReset (pin : Bool)
  /-- A feed is selected with the board switch free and Muster starts. (R454) -/
  | vigilExit
  /-- A write of 1 releases a controller held by fw_start_policy. (R455) -/
  | fwStart (cls value : Nat)
  /-- A Muster step ends and the next begins. (R457) -/
  | musterStepEnd (step : Nat) (r : MusterIn)
  /-- A warm reset restarts Muster at step 3, ends associations and clears volatile objects. (R455) -/
  | warmReset (roots : Bool)
  /-- A write of 1 requests a warm reset. (R458) -/
  | fwWarmReset (cls value : Nat)
  /-- A write of 1 drains the slab, releases lanterns and turns the rails off. (R466) -/
  | fwShutdown (cls value : Nat)
  /-- The slab has not emptied within 10 s and the shutdown ends with TIMEOUT. (R466) -/
  | shutdownTimeout
  /-- A package written in recovery is checked, stored in slot 1 and a warm reset started. (R464) -/
  | fwRecoveryImage (cls : Nat) (data : List Byte)
  /-- The END of an fw_owner_key write holds the owner key once or is refused. (R459) -/
  | fwOwnerKeyWrite (cls : Nat) (value : List Byte)
  /-- Firmware running fw_confirm_time without a warm reset raises fw_rollback_floor. (R462) -/
  | fwConfirmExpiry
  /-- A write of a unit id starts a partial reset of that unit. (R468) -/
  | fwUnitReset (cls value : Nat)
  /-- A reset unit reports ready and its cells reopen at the next leg boundary. (R468) -/
  | unitReady (unit : Nat)
  /-- A unit not ready within its limit stays closed with its stated consequence. (R468) -/
  | unitReadyLimit (unit : Nat)
  /-- A steward silent for 100 ms is reset. (R469) -/
  | stewardWatchdog (steward : Nat)
  /-- A die above its trip temperature for 10 ms asserts THERM_TRIP_N, drops the rails and latches. (R558) -/
  | thermalTrip (die : Nat)
  /-- 100 ms after bay power-good DRV_PERSTn_N is released. (R552) -/
  | drvPerstRelease (bay : Nat)
  /-- A HELLO starts a session and draws a CHALLENGE or silence. (R493) -/
  | hello (vlan : Option Nat) (nonce cls : Nat) (key : List Byte)
  /-- An AUTH is verified and the session opened with AUTH_OK. (R493) -/
  | auth (session : Nat) (signature : List Byte)
  /-- No AUTH within 2 s of the CHALLENGE frees the session id. (R493) -/
  | authTimeout (session : Nat)
  /-- A CLOSE message ends a session. (R489) -/
  | close (m : FieldMsg) (body : List Byte)
  /-- A session without an accepted message for fw_session_idle ends. (R494) -/
  | sessionIdle (session : Nat)
  /-- A READ message reads up to 16 objects in item order. (R486) -/
  | fieldRead (m : FieldMsg) (body : List Byte)
  /-- A WRITE message writes up to 16 objects in item order. (R486) -/
  | fieldWrite (m : FieldMsg) (body : List Byte)
  /-- A write to an object without behaviour of its own stores the value. (R476) -/
  | objectWrite (cls ix sub : Nat) (value : List Byte)
  /-- A DOMAIN_READ returns a fragment from the cursor and advances it. (R482) -/
  | domainRead (m : FieldMsg) (body : List Byte)
  /-- A DOMAIN_WRITE stages a fragment and applies the block at END. (R483) -/
  | domainWrite (m : FieldMsg) (body : List Byte)
  /-- Staging without a fragment for 10 s is discarded. (R483) -/
  | stagingTimeout (session : Option Nat)
  /-- A datagram not reassembled within 100 ms is discarded. (R488) -/
  | reassemblyTimeout (source : Nat)
  /-- A change to a credential entry ends every session opened under it. (R492) -/
  | credentialWrite (cls ix sub : Nat) (value : List Byte)
  /-- A doorbell write starts a mailbox request served with ep_bar2_class. (R497) -/
  | bar2Doorbell (type : Nat) (body : List Byte)
  /-- A write to ep_bar2_class is accepted only through BAR2 or a custodian session. (R507) -/
  | epBar2ClassWrite (bar2 : Bool) (cls value : Nat)
  /-- A BAR0 doorbell write makes the endpoint fetch submission entries. (R505) -/
  | epDoorbell (qid : Nat) (cq : Bool) (value : Nat)
  /-- The endpoint creates an I/O submission queue. (R505) -/
  | createIoSubmissionQueue (src : CmdSrc) (cid qid size cqid : Nat) (pc : Bool) (base : Nat)
  /-- The endpoint creates an I/O completion queue. (R505) -/
  | createIoCompletionQueue (src : CmdSrc) (cid qid size vector : Nat) (pc ien : Bool) (base : Nat)
  /-- The endpoint deletes an I/O submission queue. (R505) -/
  | deleteIoSubmissionQueue (src : CmdSrc) (cid qid : Nat)
  /-- The endpoint deletes an I/O completion queue. (R505) -/
  | deleteIoCompletionQueue (src : CmdSrc) (cid qid : Nat)
  /-- A completion for an endpoint read arrives and its tag retires or the command fails. (R514) -/
  | epReadCompletion (tag : Nat) (good : Bool) (data : Block) (cap : Option Capsule)
  /-- An endpoint read's completion timeout expires and its tag retires. (R513) -/
  | epCompletionTimeout (tag : Nat)
  /-- A PCIe error is detected, logged and signalled under AER. (R512) -/
  | epError (uncorrectable : Bool) (errBit header : Nat) (regs : EpErrRegs)
  /-- Bus Master Enable is cleared, requests stop and completions are held. (R515) -/
  | busMasterClear (mem : Bool)
  /-- Bus Master Enable is set and held completion entries are written. (R516) -/
  | busMasterSet (mem : Bool) (mrrs : Nat)
  /-- An FLR, link loss, Surprise Down or EP_PERST_N partially resets the endpoint. (R517) -/
  | functionLevelReset (cause : Nat)
  /-- 100 ms after the last tag retires the endpoint restores defaults and reports ready. (R517) -/
  | epResetDone (link : Option (Nat × Nat))
  /-- The endpoint enters D3hot and answers configuration requests only. (R503) -/
  | d3hotEntry
  /-- A change of MSI-X or INTx enable re-signals pending conditions. (R509) -/
  | interruptModeChange (msix fnMask intxDisable : Bool) (intms : Nat)
  /-- A write of 1 empties the main guestbook and stores record 0xC002. (R523) -/
  | gbClear (cls value : Nat)
  /-- A new gatehouse section record is copied into the main guestbook within 1 ms. (R525) -/
  | gateCopy
  /-- A gb_window read returns whole records from the cursor with gap records. (R528) -/
  | gbWindowRead (m : FieldMsg) (body : List Byte)
  /-- Every gb_dump_interval legs all counters are sampled into a snapshot. (R538) -/
  | clusterDump
  /-- A counter configuration write takes effect at the next leg boundary and clears the counter. (R534) -/
  | counterConfigWrite (cls block i value : Nat)
  /-- A gb_filter write takes effect at the next leg boundary. (R537) -/
  | filterWrite (cls slot : Nat) (value : List Byte)
  /-- Every 60 s the seconds and energy tally counts are written. (R531) -/
  | tallySave
  /-- The gatehouse supply falls below 6.0 V, so the gatehouse stops with the feeds absent and the bank run down. (R543) -/
  | gatehousePowerLoss
  /-- The controller, opening a session to the warden, receives the warden's CHALLENGE, verifies it and sends AUTH. (R495) -/
  | challenge (session : Nat) (nonce key signature : List Byte)
  /-- The warden's AUTH_OK arrives and the controller's lantern session opens. (R495) -/
  | authOk (m : FieldMsg) (body : List Byte)
  /-- Every 1 ms a REQUEST without reply, or the first RENEW after a quorum takeover, is resent. (R250) -/
  | lanternResend (wing : Nat)
  /-- The endpoint returns from D3hot to D0 and writes its waiting completions and interrupts. (R503) -/
  | d0Entry
  /-- Once per millisecond the gatehouse reads every die's temperature sensor and updates temperatures, peaks and threshold warnings. (R558) -/
  | temperatureRead (temps : List Int)
  /-- A Function Mask or vector Mask bit clears, and a pending MSI-X message whose PBA bit is set is sent once. (R509) -/
  | interruptUnmask (vector : Option Nat)
  /-- A write to the endpoint's CC register in BAR0 enables, disables or shuts down its NVMe controller. (R504) -/
  | epCcWrite (value sqDepth cqDepth sqBase cqBase : Nat)
  /-- A neighbour discovery message for the controller's field-network address arrives and is answered. (R488) -/
  | neighbourDiscovery (address : Nat)
  deriving DecidableEq, Repr

end Sys2Proof
end

