-- ==== Sys2Proof/WellFormed.lean ====
section
/-! DEFINITION. Which commands are well formed: each operand fits the field or the numbering the spec gives it (R8, R12,
R34, R35, R189, R266, R347, R423, R471, R490).  A command outside these bounds cannot be sent; its meaning is total all
the same (log entry 4). -/

namespace Sys2Proof

/-- A wing is numbered 1 or 2 (R139). -/
def isWing (w : Nat) : Bool := w == 1 || w == 2

/-- An association has 16 bits and a connection's QP number 24 (R266, R306). -/
def CmdSrc.wf : CmdSrc → Bool
  | .assoc i => decide (i < 2 ^ 16)
  | .endpoint => true
  | .conn q => decide (q < 2 ^ 24)

/-- The fields of a capsule fit (R71, R313). -/
def Capsule.wf (c : Capsule) : Bool :=
  c.src.wf && decide (c.qpn < 2 ^ 24) && decide (c.sqid < 2 ^ 16) && decide (c.cid < 2 ^ 16) && decide (c.nsid < 2 ^ 32) &&
    decide (c.slba < 2 ^ 64) && decide (c.nlb ≤ 2 ^ 16) && decide (c.address < 2 ^ 64) && decide (c.key < 2 ^ 32) &&
    decide (c.ranges.length ≤ 256)

/-- The fields of a packet fit (R264, R272, R292). -/
def Packet.wf (p : Packet) : Bool :=
  decide (p.qpn < 2 ^ 24) && p.spi.all (· < 2 ^ 32) && decide (p.seq < 2 ^ 32) && decide (p.opcode < 256) &&
    decide (p.psn < 2 ^ 24) && decide (p.key < 2 ^ 32) && decide (p.address < 2 ^ 64) && decide (p.bytes ≤ 4096) &&
    (p.waypoint.isEmpty || p.waypoint.length == 16) && p.nak.all (· < 2 ^ 8) &&
    p.work.all (· < 4096) && p.cap.wf

/-- The fields of a frame head fit (R353, R355). -/
def FrameHead.wf (h : FrameHead) : Bool :=
  decide (h.dst < 2 ^ 48) && decide (h.etype < 2 ^ 16) && decide (h.vid < 4096) && decide (h.pcp < 8) &&
    decide (h.proto < 256) && decide (h.udp < 2 ^ 16) && h.dscp.all (· < 64) && decide (h.first.length ≤ 128)

/-- The fields of a Connect fit (R306). -/
def ConnectData.wf (c : ConnectData) : Bool :=
  decide (c.qpn < 2 ^ 24) && decide (c.cid < 2 ^ 16) && decide (c.qid < 2 ^ 16) && decide (c.sqsize < 2 ^ 16) &&
    decide (c.kato < 2 ^ 32) && decide (c.cntlid < 2 ^ 16) && decide (c.hostid < 2 ^ 128)

/-- The fields of a tagged message fit (R490). -/
def FieldMsg.wf (m : FieldMsg) : Bool :=
  m.vlan.all (· < 32) && decide (m.session < 2 ^ 32) && decide (m.counter < 2 ^ 64) && decide (m.request < 2 ^ 32)

/-- The sectors a drive returns lie in its LBA range, and the fields of a descriptor's header fit (R197, R199). -/
def DriveData.wf (d : DriveData) : Bool :=
  (d.sectors.all fun x => decide (x.lba < 2 ^ 64)) &&
    (d.desc.all fun c => decide (c.bay < 24 ∧ c.magic < 2 ^ 32 ∧ c.format < 2 ^ 16 ∧ c.length < 2 ^ 32 ∧ c.digest < 2 ^ 512))

/-- The endpoint's error registers fit (R511). -/
def EpErrRegs.wf (r : EpErrRegs) : Bool :=
  decide (r.mask < 2 ^ 32) && decide (r.severity < 2 ^ 32) && decide (r.corMask < 2 ^ 32) && decide (r.enables < 16)

/-- The operands of a command fit. -/
def Instr.wf : Instr → Bool
  | .legBoundary => true
  | .refclkLoss => true
  | .refclkRelock => true
  | .holdoverEnd => true
  | .noneCmd slot lane word => decide (slot < 64) && decide (lane < 64) && decide (word < 2 ^ 64)
  | .netIn slot lane word => decide (slot < 64) && decide (lane < 64) && decide (word < 2 ^ 64)
  | .netOut slot lane word bytes => decide (slot < 64) && decide (lane < 64) && decide (word < 2 ^ 64) &&
    decide (bytes < 2 ^ 13)
  | .cipher slot lane word _ => decide (slot < 64) && decide (lane < 64) && decide (word < 2 ^ 64)
  | .driveIn slot lane word => decide (slot < 64) && decide (lane < 64) && decide (word < 2 ^ 64)
  | .driveOut slot lane word => decide (slot < 64) && decide (lane < 64) && decide (word < 2 ^ 64)
  | .parityIn slot lane word => decide (slot < 64) && decide (lane < 64) && decide (word < 2 ^ 64)
  | .parityOut slot lane word => decide (slot < 64) && decide (lane < 64) && decide (word < 2 ^ 64)
  | .sisterOut slot lane word => decide (slot < 64) && decide (lane < 64) && decide (word < 2 ^ 64)
  | .sisterIn slot lane word => decide (slot < 64) && decide (lane < 64) && decide (word < 2 ^ 64)
  | .cacheRd slot lane word => decide (slot < 64) && decide (lane < 64) && decide (word < 2 ^ 64)
  | .cacheWr slot lane word => decide (slot < 64) && decide (lane < 64) && decide (word < 2 ^ 64)
  | .context slot lane word => decide (slot < 64) && decide (lane < 64) && decide (word < 2 ^ 64)
  | .journal slot lane word => decide (slot < 64) && decide (lane < 64) && decide (word < 2 ^ 64)
  | .endpoint slot lane word => decide (slot < 64) && decide (lane < 64) && decide (word < 2 ^ 64)
  | .vault slot lane word => decide (slot < 64) && decide (lane < 64) && decide (word < 2 ^ 64)
  | .control slot lane word => decide (slot < 64) && decide (lane < 64) && decide (word < 2 ^ 64)
  | .dump slot lane word => decide (slot < 64) && decide (lane < 64) && decide (word < 2 ^ 64)
  | .shadowImageEnd cls _ => decide (cls < 4)
  | .ttCheck cls value => decide (cls < 4) && decide (value < 2 ^ 64)
  | .ttCheckDone => true
  | .ttSwitch cls value => decide (cls < 4) && decide (value < 2 ^ 64)
  | .ttSwitchDigestDone => true
  | .ttSwitchClassEmpty => true
  | .ttSwitchClassTimeout => true
  | .ttShadowToF1 cls value => decide (cls < 4) && decide (value < 2 ^ 64)
  | .capsuleAccept p => p.wf
  | .fullStripeIssue arrival stripe => decide (arrival < 2 ^ 64) && decide (stripe < 2 ^ 32)
  | .copyAckTimeout leg => decide (leg < 2 ^ 64)
  | .applyStart nsid stripe => decide (nsid < 2 ^ 32) && decide (stripe < 2 ^ 32)
  | .driveCompletion bay queue cid _ d => decide (bay < 24) && decide (queue < 2 ^ 16) && decide (cid < 2 ^ 16) &&
    d.wf
  | .blockFix arrival lba => decide (arrival < 2 ^ 64) && decide (lba < 2 ^ 64)
  | .readHedge arrival lba => decide (arrival < 2 ^ 64) && decide (lba < 2 ^ 64)
  | .readRoomHoldExpiry arrival => decide (arrival < 2 ^ 64)
  | .roomRdmaRead p => p.wf
  | .bayContain bay cause => decide (bay < 24) && decide (cause < 2 ^ 8)
  | .returnEvent wing bay => isWing wing && decide (bay < 24)
  | .rebuildStripe => true
  | .rebuildStripeDone nsid stripe => decide (nsid < 2 ^ 32) && decide (stripe < 2 ^ 32)
  | .patrolStripe wing => isWing wing
  | .patrolRewrite => true
  | .peRebuildRateWrite cls value => decide (cls < 4) && decide (value < 2 ^ 64)
  | .pePatrolEnableWrite cls value => decide (cls < 4) && decide (value < 2 ^ 64)
  | .pePatrolLogClear cls value => decide (cls < 4) && decide (value < 2 ^ 64)
  | .pfTrip seen => seen.length == 3
  | .flushEndPage mw => decide (mw < 2 ^ 32)
  | .bankFloorReached => true
  | .comparatorSuspect comparator => decide (comparator < 3)
  | .journalRecordHeld wing jseq => isWing wing && decide (jseq < 2 ^ 64)
  | .descriptorCommit => true
  | .lgLedgerSizeWrite cls value => decide (cls < 4) && decide (value < 2 ^ 64)
  | .lgFlushProfileWrite cls value => decide (cls < 4) && decide (value < 2 ^ 64)
  | .sisterSbTx lines => decide (lines < 2 ^ 24)
  | .sisterSbRx _ lines => decide (lines < 2 ^ 24)
  | .sidebandSilent lines => decide (lines < 2 ^ 24)
  | .bayOwnerRelease => true
  | .legPacketRx frames => (decide (frames.all fun f => decide (f.length ≤ 4136)))
  | .legPacketAck _ => true
  | .legPacketNak _ => true
  | .holderSilence wing => isWing wing
  | .wardenGrant m wing claim lease => m.wf && isWing wing && decide (claim < 2 ^ 64) && decide (lease < 2 ^ 32)
  | .wardenRefuse m wing claim lease => m.wf && isWing wing && decide (claim < 2 ^ 64) && decide (lease < 2 ^ 32)
  | .wardenTimeout wing => isWing wing
  | .holdoffExpiry wing key => isWing wing && decide (key < 2 ^ 64)
  | .renew => true
  | .reservationConflict bay queue cid key => decide (bay < 24) && decide (queue < 2 ^ 16) &&
    decide (cid < 2 ^ 16) && decide (key < 2 ^ 64)
  | .driveWon wing bay holder keys _ => isWing wing && decide (bay < 24) && decide (holder < 2 ^ 64) &&
    keys.all (· < 2 ^ 64)
  | .preemptTimeout wing => isWing wing
  | .quorumRetry wing => isWing wing
  | .resyncReq _ => true
  | .resyncDone _ => true
  | .siHandback cls value => decide (cls < 4) && decide (value < 2 ^ 64)
  | .handback _ => true
  | .handbackTimeout wing => isWing wing
  | .siPromote cls value => decide (cls < 4) && decide (value < 2 ^ 64)
  | .cmReq priv hostQpn link resources depth mtu => priv.length == 32 && decide (hostQpn < 2 ^ 24) &&
    decide (link < 33) && decide (resources < 2 ^ 8) && decide (depth < 2 ^ 16) && decide (mtu < 2 ^ 16)
  | .rdmaReadResponse p => p.wf
  | .rdmaWritePush p => p.wf
  | .acknowledge p => p.wf
  | .cnp p => p.wf
  | .sack p => p.wf
  | .sackInterval qpn => decide (qpn < 2 ^ 24)
  | .spreadTimeout qpn msg => decide (qpn < 2 ^ 24) && decide (msg < 2 ^ 32)
  | .ackTimeout qpn => decide (qpn < 2 ^ 24)
  | .trRekey cls qpn => decide (cls < 4) && decide (qpn < 2 ^ 24)
  | .rekeyOverlapEnd qpn => decide (qpn < 2 ^ 24)
  | .contextFetchDone qpn => decide (qpn < 2 ^ 24)
  | .waitEntryTimeout queue => decide (queue < 2 ^ 16)
  | .fabricsConnect c => c.wf
  | .propertyGet src cid offset => src.wf && decide (cid < 2 ^ 16) && decide (offset < 2 ^ 64)
  | .propertySet src cid offset value => src.wf && decide (cid < 2 ^ 16) && decide (offset < 2 ^ 64) &&
    decide (value < 2 ^ 64)
  | .disconnect src cid => src.wf && decide (cid < 2 ^ 16)
  | .identifyController src cid cns => src.wf && decide (cid < 2 ^ 16) && decide (cns < 2 ^ 8)
  | .identifyNamespace src cid nsid => src.wf && decide (cid < 2 ^ 16) && decide (nsid < 2 ^ 32)
  | .activeNamespaceList src cid nsid => src.wf && decide (cid < 2 ^ 16) && decide (nsid < 2 ^ 32)
  | .namespaceDescriptorList src cid nsid => src.wf && decide (cid < 2 ^ 16) && decide (nsid < 2 ^ 32)
  | .getLogPage src cid lid nsid offset length _ => src.wf && decide (cid < 2 ^ 16) && decide (lid < 2 ^ 8) &&
    decide (nsid < 2 ^ 32) && decide (offset < 2 ^ 64) && decide (length < 2 ^ 34)
  | .setFeatures src cid fid nsid value _ => src.wf && decide (cid < 2 ^ 16) && decide (fid < 2 ^ 8) &&
    decide (nsid < 2 ^ 32) && decide (value < 2 ^ 64)
  | .getFeatures src cid fid nsid sel => src.wf && decide (cid < 2 ^ 16) && decide (fid < 2 ^ 8) &&
    decide (nsid < 2 ^ 32) && decide (sel < 8)
  | .firmwareImageDownload src cid offset _ => src.wf && decide (cid < 2 ^ 16) && decide (offset < 2 ^ 64)
  | .firmwareCommit src cid action slot => src.wf && decide (cid < 2 ^ 16) && decide (action < 8) && decide (slot < 8)
  | .firmwareActivationReady => true
  | .mtfaTimeout => true
  | .abortCmd src cid sqid target => src.wf && decide (cid < 2 ^ 16) && decide (sqid < 2 ^ 16) &&
    decide (target < 2 ^ 16)
  | .keepAlive src cid => src.wf && decide (cid < 2 ^ 16)
  | .katoExpiry assoc => decide (assoc < 2 ^ 16)
  | .asynchronousEventRequest src cid => src.wf && decide (cid < 2 ^ 16)
  | .readCmd arrival => decide (arrival < 2 ^ 64)
  | .writeCmd arrival => decide (arrival < 2 ^ 64)
  | .flushCmd arrival => decide (arrival < 2 ^ 64)
  | .writeZeroes arrival => decide (arrival < 2 ^ 64)
  | .datasetManagement arrival => decide (arrival < 2 ^ 64)
  | .reservationRegister arrival => decide (arrival < 2 ^ 64)
  | .reservationAcquire arrival => decide (arrival < 2 ^ 64)
  | .reservationRelease arrival => decide (arrival < 2 ^ 64)
  | .reservationReport arrival => decide (arrival < 2 ^ 64)
  | .roomOpen arrival => decide (arrival < 2 ^ 64)
  | .roomModify arrival => decide (arrival < 2 ^ 64)
  | .roomClose arrival => decide (arrival < 2 ^ 64)
  | .roomCloseTimeout room => decide (room < 2 ^ 18)
  | .cePowerStateSet cls value => decide (cls < 4) && decide (value < 2 ^ 64)
  | .ps2EntryComplete => true
  | .psEntryLimitExpiry => true
  | .ceNsCreate cls value => decide (cls < 4) && decide (value < 2 ^ 64)
  | .ceNsDelete cls value => decide (cls < 4) && decide (value < 2 ^ 64)
  | .nsPartyMaskWrite cls nsid value => decide (cls < 4) && decide (nsid < 2 ^ 32) && decide (value < 2 ^ 64)
  | .driveIoTimeout bay queue cid => decide (bay < 24) && decide (queue < 2 ^ 16) && decide (cid < 2 ^ 16)
  | .driveAdminTimeout bay cid => decide (bay < 24) && decide (cid < 2 ^ 16)
  | .driveAbortWaitExpiry bay queue cid => decide (bay < 24) && decide (queue < 2 ^ 16) && decide (cid < 2 ^ 16)
  | .ceBayContain cls value => decide (cls < 4) && decide (value < 2 ^ 64)
  | .driveExamine bay => decide (bay < 24)
  | .driveExamineDone bay size link _ _ _ _ => decide (bay < 24) && decide (size < 2 ^ 64) && decide (link < 2 ^ 8)
  | .driveExamineTimeout bay => decide (bay < 24)
  | .ceBayRelease cls value => decide (cls < 4) && decide (value < 2 ^ 64)
  | .ceBayAccept cls value => decide (cls < 4) && decide (value < 2 ^ 64)
  | .rxFrameHead link head => decide (link < 33) && head.wf
  | .rxFrameEnd frame len _ corrected uncorrected => decide (frame < 2 ^ 64) && decide (len < 2 ^ 16) &&
    decide (corrected < 2 ^ 32) && decide (uncorrected < 2 ^ 32)
  | .pauseFrame link quanta => decide (link < 33) && decide (quanta < 2 ^ 16)
  | .pfcFrame link mask quanta => decide (link < 33) && decide (mask < 2 ^ 8) && quanta.length == 8 &&
    quanta.all (· < 2 ^ 16)
  | .pauseExpiry link tc => decide (link < 33) && decide (tc < 8)
  | .pauseStorm link tc => decide (link < 33) && decide (tc < 8)
  | .pfcRefresh link => decide (link < 33)
  | .txFrameBoundary link _ => decide (link < 33)
  | .linkDown link => decide (link < 33)
  | .linkUp link => decide (link < 33)
  | .ptpSync link offset => decide (link < 33) && decide (-2 ^ 63 ≤ offset ∧ offset < 2 ^ 63)
  | .ptpLoss => true
  | .statisticsRead cls ix sub => decide (cls < 4) && decide (ix < 2 ^ 16) && decide (sub < 256)
  | .draw port pool half owner => decide (port < 256) && decide (pool < 8) && decide (half < 2) &&
    decide (owner < 256)
  | .drawBySize size half unit => decide (size < 2 ^ 32) && decide (half < 2) && decide (unit < 256)
  | .shareCmd handle unit => decide (handle < 2 ^ 32) && decide (unit < 256)
  | .releaseCmd handle unit => decide (handle < 2 ^ 32) && decide (unit < 256)
  | .freeCmd handle unit => decide (handle < 2 ^ 32) && decide (unit < 256)
  | .handover handle unit dest => decide (handle < 2 ^ 32) && decide (unit < 256) && decide (dest < 256)
  | .cyOwnerRootWrite cls _ => decide (cls < 4)
  | .cyHostKeyDerive cls value => decide (cls < 4) && decide (value < 2 ^ 64)
  | .keyDerivationDone => true
  | .cyCoreReset cls value => decide (cls < 4) && decide (value < 2 ^ 64)
  | .coreFault core passes pulls => decide (core < 16) &&
    (passes.all fun p => decide (p.1 < 2 ^ 64 ∧ p.2 < 2 ^ 64)) &&
    (pulls.all fun p => decide (p.1 < 2 ^ 64 ∧ p.2 < 2 ^ 20))
  | .ghTick t => t.feeds.length == 2 && t.bays.length ≤ 24 && t.low.length ≤ 24 && t.good.length ≤ 12
  | .feedValid feed => decide (feed < 2)
  | .feedMake => true
  | .feedReturn feed => decide (feed < 2)
  | .faultTimerExpiry switch => decide (switch < 25)
  | .pgTimeout switch => decide (switch < 25)
  | .offTimeEnd switch => decide (switch < 25)
  | .accumulatorClear switch => decide (switch < 25)
  | .tripCountClear switch => decide (switch < 25)
  | .ghBoardUnlatch cls value => decide (cls < 4) && decide (value < 2 ^ 64)
  | .ghBayUnlatch cls bay => decide (cls < 4) && decide (bay < 24)
  | .presenceDebounced bay => decide (bay < 24)
  | .bayStagger => true
  | .carrierRemoval bay => decide (bay < 24)
  | .bayEmptyClear bay => decide (bay < 24)
  | .ghBayEnableWrite cls bay value => decide (cls < 4) && decide (bay < 24) && decide (value < 2 ^ 64)
  | .measurementSample => true
  | .bankPublish => true
  | .chargeTargetReached => true
  | .chargeTimeout => true
  | .ghBankEnergyCeilingWrite cls value => decide (cls < 4) && decide (value < 2 ^ 64)
  | .bankBleedDone => true
  | .capacitanceMeasure => true
  | .ghBankMeasure cls value => decide (cls < 4) && decide (value < 2 ^ 64)
  | .bankMeasureDone c esr => decide (c < 2 ^ 64) && decide (esr < 2 ^ 64)
  | .railSequence => true
  | .railPgTimeout => true
  | .railFault rail => decide (rail < 12)
  | .shelfTimeSave => true
  | .ptpCompare => true
  | .ghTimeSet cls value => decide (cls < 4) && decide (value < 2 ^ 64)
  | .gatehousePowerOnReset _ => true
  | .vigilExit => true
  | .fwStart cls value => decide (cls < 4) && decide (value < 2 ^ 64)
  | .musterStepEnd step r => decide (step < 16) && r.comparators.length == 3 && r.failed.all (· < 256)
  | .warmReset _ => true
  | .fwWarmReset cls value => decide (cls < 4) && decide (value < 2 ^ 64)
  | .fwShutdown cls value => decide (cls < 4) && decide (value < 2 ^ 64)
  | .shutdownTimeout => true
  | .fwRecoveryImage cls _ => decide (cls < 4)
  | .fwOwnerKeyWrite cls _ => decide (cls < 4)
  | .fwConfirmExpiry => true
  | .fwUnitReset cls value => decide (cls < 4) && decide (value < 2 ^ 64)
  | .unitReady unit => decide (unit < 256)
  | .unitReadyLimit unit => decide (unit < 256)
  | .stewardWatchdog steward => decide (steward < 8)
  | .thermalTrip die => decide (die < 4)
  | .drvPerstRelease bay => decide (bay < 24)
  | .hello vlan nonce cls _ => vlan.all (· < 32) && decide (nonce < 2 ^ 256) && decide (cls < 4)
  | .auth session _ => decide (session < 2 ^ 32)
  | .authTimeout session => decide (session < 2 ^ 32)
  | .close m _ => m.wf
  | .sessionIdle session => decide (session < 2 ^ 32)
  | .fieldRead m _ => m.wf
  | .fieldWrite m _ => m.wf
  | .objectWrite cls ix sub _ => decide (cls < 4) && decide (ix < 2 ^ 16) && decide (sub < 256)
  | .domainRead m _ => m.wf
  | .domainWrite m _ => m.wf
  | .stagingTimeout session => session.all (· < 2 ^ 32)
  | .reassemblyTimeout source => decide (source < 2 ^ 128)
  | .credentialWrite cls ix sub _ => decide (cls < 4) && decide (ix < 2 ^ 16) && decide (sub < 256)
  | .bar2Doorbell type _ => decide (type < 2 ^ 16)
  | .epBar2ClassWrite _ cls value => decide (cls < 4) && decide (value < 2 ^ 64)
  | .epDoorbell qid _ value => decide (qid < 2 ^ 16) && decide (value < 2 ^ 64)
  | .createIoSubmissionQueue src cid qid size cqid _ base => src.wf && decide (cid < 2 ^ 16) &&
    decide (qid < 2 ^ 16) && decide (size < 2 ^ 16) && decide (cqid < 2 ^ 16) && decide (base < 2 ^ 64)
  | .createIoCompletionQueue src cid qid size vector _ _ base => src.wf && decide (cid < 2 ^ 16) &&
    decide (qid < 2 ^ 16) && decide (size < 2 ^ 16) && decide (vector < 2 ^ 16) && decide (base < 2 ^ 64)
  | .deleteIoSubmissionQueue src cid qid => src.wf && decide (cid < 2 ^ 16) && decide (qid < 2 ^ 16)
  | .deleteIoCompletionQueue src cid qid => src.wf && decide (cid < 2 ^ 16) && decide (qid < 2 ^ 16)
  | .epReadCompletion tag _ _ cap => decide (tag < 128) && cap.all (·.wf)
  | .epCompletionTimeout tag => decide (tag < 128)
  | .epError _ errBit header regs => decide (errBit < 32) && decide (header < 2 ^ 128) && regs.wf
  | .busMasterClear _ => true
  | .busMasterSet _ mrrs => decide (mrrs < 2 ^ 13)
  | .functionLevelReset cause => decide (cause < 2 ^ 8)
  | .epResetDone link => (link.all fun p => decide (p.1 < 2 ^ 8 ∧ p.2 < 2 ^ 8))
  | .d3hotEntry => true
  | .interruptModeChange _ _ _ intms => decide (intms < 2 ^ 32)
  | .gbClear cls value => decide (cls < 4) && decide (value < 2 ^ 64)
  | .gateCopy => true
  | .gbWindowRead m _ => m.wf
  | .clusterDump => true
  | .counterConfigWrite cls block i value => decide (cls < 4) && decide (block < 2 ^ 16) && decide (i < 8) &&
    decide (value < 2 ^ 64)
  | .filterWrite cls slot value => decide (cls < 4) && decide (slot < 16) && value.length == 48
  | .tallySave => true
  | .gatehousePowerLoss => true
  | .challenge session _ _ _ => decide (session < 2 ^ 32)
  | .authOk m _ => m.wf
  | .lanternResend wing => isWing wing
  | .d0Entry => true
  | .temperatureRead temps => temps.length == 4
  | .interruptUnmask vector => vector.all (· < 64)
  | .epCcWrite value sqDepth cqDepth sqBase cqBase => decide (value < 2 ^ 64) && decide (sqDepth < 2 ^ 12) &&
    decide (cqDepth < 2 ^ 12) && decide (sqBase < 2 ^ 64) && decide (cqBase < 2 ^ 64)
  | .neighbourDiscovery address => decide (address < 2 ^ 128)

end Sys2Proof
end

