-- ==== Sys2Proof/Decode.lean ====
section
/-! DEFINITION. The decoder asked of every row.  The table of operations gives its rows no bits: the block takes
commands, not encoded instructions. -/

namespace Sys2Proof

/-- The command that a word spells by the table's bits: no row gives bits, so none (log entry 67). -/
def decodeTableWord (_nbits _w : Nat) : Option Instr := none

end Sys2Proof
end

