-- ==== Sys2Proof/Machine/Bits.lean ====
section
/-! DEFINITION. Byte-order, bit-field and check-sum helpers (R8, R35, R98, R198, R521). -/

namespace Sys2Proof.Machine

/-- The value of little-endian bytes (R8). -/
def leNat : List Byte → Nat
  | [] => 0
  | b :: r => b.toNat + 256 * leNat r

/-- The value of big-endian bytes (R8). -/
def beNat (l : List Byte) : Nat := leNat l.reverse

/-- `k` little-endian bytes of `n` (R8). -/
def leBytes : Nat → Nat → List Byte
  | 0, _ => []
  | k + 1, n => BitVec.ofNat 8 n :: leBytes k (n / 256)

/-- `k` big-endian bytes of `n` (R8). -/
def beBytes (k n : Nat) : List Byte := (leBytes k n).reverse

/-- `n` bytes from offset `off`. -/
def slice (l : List Byte) (off n : Nat) : List Byte := (l.drop off).take n

/-- The little-endian field of `n` bytes at `off`. -/
def field (l : List Byte) (off n : Nat) : Nat := leNat (slice l off n)

/-- The big-endian field of `n` bytes at `off`. -/
def beField (l : List Byte) (off n : Nat) : Nat := beNat (slice l off n)

/-- Bits [hi:lo] of `n` (R9). -/
def bits (n hi lo : Nat) : Nat := n / 2 ^ lo % 2 ^ (hi + 1 - lo)

/-- Bit `i` of `n` (R9). -/
def bit (n i : Nat) : Bool := n / 2 ^ i % 2 == 1

/-- `n` with bit `i` set to `b`. -/
def setBit (n i : Nat) (b : Bool) : Nat :=
  if bit n i == b then n else if b then n + 2 ^ i else n - 2 ^ i

/-- 1 for true, 0 for false. -/
def b2n (b : Bool) : Nat := if b then 1 else 0

/-- The two's complement encoding of `i` in `w` bits (R472). -/
def encInt (w : Nat) (i : Int) : Nat := (BitVec.ofInt w i).toNat

/-- The integer a `w`-bit two's complement word encodes (R472). -/
def decInt (w : Nat) (n : Nat) : Int := (BitVec.ofNat w n).toInt

/-- `⌈a / b⌉`. -/
def ceilDiv (a b : Nat) : Nat := (a + b - 1) / b

/-- One step of a CRC with the polynomial taken most significant bit first, `w` bits wide. -/
def crcShiftUp (w poly : Nat) : Nat → Nat → Nat
  | 0, c => c
  | k + 1, c =>
    let t := if bit c (w - 1) then (c * 2 % 2 ^ w) ^^^ poly else c * 2
    crcShiftUp w poly k t

/-- CRC-8, polynomial 0x07, initial value 0, not reflected (R35). -/
def crc8 (l : List Byte) : Nat :=
  l.foldl (fun c b => crcShiftUp 8 7 8 (c ^^^ b.toNat)) 0

/-- One byte of a reflected CRC of 32 bits. -/
def crcShiftDown (poly : Nat) : Nat → Nat → Nat
  | 0, c => c
  | k + 1, c => crcShiftDown poly k (if c % 2 == 1 then (c / 2) ^^^ poly else c / 2)

/-- CRC-32 of IEEE 802.3 (R98, R521 where a rule names it). -/
def crc32 (l : List Byte) : Nat :=
  (l.foldl (fun c b => crcShiftDown 0xEDB88320 8 (c ^^^ b.toNat)) 0xFFFFFFFF) ^^^ 0xFFFFFFFF

/-- CRC-32C (Castagnoli; R98, R189, R521 where a rule names it). -/
def crc32c (l : List Byte) : Nat :=
  (l.foldl (fun c b => crcShiftDown 0x82F63B78 8 (c ^^^ b.toNat)) 0xFFFFFFFF) ^^^ 0xFFFFFFFF

/-- Look a key up in an association list. -/
def lookup {α β : Type} [BEq α] (l : List (α × β)) (k : α) (d : β) : β :=
  match l.find? (fun p => p.1 == k) with
  | some p => p.2
  | none => d

/-- Set a key of an association list, keeping its place. -/
def assign {α β : Type} [BEq α] : List (α × β) → α → β → List (α × β)
  | [], k, v => [(k, v)]
  | p :: r, k, v => if p.1 == k then (k, v) :: r else p :: assign r k v

/-- Apply `f` to entry `i` of a list. -/
def modAt {α : Type} (l : List α) (i : Nat) (f : α → α) : List α := l.modify i f

/-- Apply `f` to the first entry that meets `p`. -/
def modFirst {α : Type} (p : α → Bool) (f : α → α) : List α → List α
  | [] => []
  | x :: r => if p x then f x :: r else x :: modFirst p f r

/-- Remove the first entry that meets `p`. -/
def dropFirst {α : Type} (p : α → Bool) : List α → List α
  | [] => []
  | x :: r => if p x then r else x :: dropFirst p r

/-- Add a member to a list without repeats. -/
def addNew {α : Type} [BEq α] (l : List α) (x : α) : List α := if l.contains x then l else l ++ [x]

/-- Bytes of a block, byte 0 first (R33). -/
def blockBytes (b : Block) : List Byte := leBytes 4096 b.toNat

/-- The block of 4,096 bytes, byte 0 first. -/
def blockOf (l : List Byte) : Block := BitVec.ofNat 32768 (leNat l)

/-- The sum of a list of numbers. -/
def sumN (l : List Nat) : Nat := l.foldl (· + ·) 0

/-- The least of `d` and the members of a list. -/
def minN (d : Nat) (l : List Nat) : Nat := l.foldl Nat.min d

/-- The greatest of `d` and the members of a list. -/
def maxN (d : Nat) (l : List Nat) : Nat := l.foldl Nat.max d

/-- Insert by a key, keeping entries of equal key in order of insertion. -/
def insertBy {α : Type} (key : α → Nat) (x : α) : List α → List α
  | [] => [x]
  | y :: r => if key x < key y then x :: y :: r else y :: insertBy key x r

/-- Stable sort by a key. -/
def sortBy {α : Type} (key : α → Nat) (l : List α) : List α :=
  l.foldl (fun acc x => insertBy key x acc) []

/-- ASCII bytes of a string. -/
def ascii (s : String) : List Byte := s.toList.map (fun c => BitVec.ofNat 8 c.toNat)

end Sys2Proof.Machine
end

