-- ==== Sys2Proof/Machine/State.lean ====
section
/-! DEFINITION. The state of the KA2460 as plain data: everything the spec gives the machine, the reasons a step can
stop, and the state after reset.  INVENTORY.md lists every field with its rule and its reset value. -/

namespace Sys2Proof.Machine

/-- The six modes of R31, R453 (fw_mode codes 0 to 5). -/
inductive Mode where
  | vigil | muster | standby | service | drain | holdup
  deriving DecidableEq, Repr

/-- Root PLL (R28, R30). -/
inductive PllState where
  | off | locked | holdover
  deriving DecidableEq, Repr

/-- Pattern the sequencer runs (R64, tt_state). -/
inductive Pattern where
  | musterPattern | image | holdupPattern
  deriving DecidableEq, Repr

/-- tt_store_state (R57, R67). -/
inductive StoreState where
  | empty | loaded | accepted | rejected | active
  deriving DecidableEq, Repr

/-- Steps of a timetable switch (R59, R60). -/
inductive SwitchPhase where
  | digest | classWait (legs : Nat) | scheduled
  deriving DecidableEq, Repr

/-- Lantern state of a wing (si_lantern_state, R262). -/
inductive LanternState where
  | standby | holder | taking | yielding
  deriving DecidableEq, Repr

/-- ANA state of a wing (R254). -/
inductive AnaState where
  | optimized | change | inaccessible
  deriving DecidableEq, Repr

/-- Copy path of a wing (lg_copy_path, R90, R228). -/
inductive CopyPath where
  | none | sisterLink | journalZones
  deriving DecidableEq, Repr

/-- Bay state on the data side (ce_bay_state, R346). -/
inductive BayState where
  | empty | examining | inUse | contained | refused
  deriving DecidableEq, Repr

/-- One RESULT object (R472, R478): ready, sequence and the value bytes from byte 8. -/
structure Rslt where
  /-- 1 bit (R472, R481). -/
  ready : Bool := true
  /-- 32 bits (R472, R478). -/
  seq : Nat := 0
  /-- up to 56 bytes; bytes beyond read 0 (R472). -/
  value : List Byte := []
  deriving DecidableEq, Repr

/-- Clocks of the main dies. -/
structure ClockSt where
  /-- 3 values (R28, R30). -/
  pll : PllState := .off
  /-- 1 bit (R17, R30, R456). -/
  refclk : Bool := false
  /-- 1 bit: the reference is outside its specification or absent, whatever powers it (R30, R547). -/
  refLost : Bool := false
  /-- 1 bit (R30). -/
  musterHalted : Bool := false
  /-- 10 ns counter (R29). -/
  stamp : Nat := 0
  /-- 1 bit (R29). -/
  stampArmed : Bool := false
  deriving DecidableEq, Repr

/-- One of the four image stores (R58). -/
structure Store where
  /-- up to 536,170 bytes (R51, R58, R67). -/
  image : List Byte := []
  /-- 5 values (R57, R67). -/
  state : StoreState := .empty
  /-- 8 bits (R57, R67). -/
  cause : Nat := 0
  /-- cells (leg, slot, lane) whose word in SRAM differs from that of the vault copy, with the word (R41, R58). -/
  flaws : List ((Nat × Nat × Nat) × Nat) := []
  deriving DecidableEq, Repr

/-- A run of tt_switch (R59, R60). -/
structure SwitchReq where
  /-- store 2 to 4 (R59). -/
  target : Nat := 0
  /-- 3 values (R59, R60). -/
  phase : SwitchPhase := .digest
  /-- 1 bit (R59). -/
  report : Bool := false
  deriving DecidableEq, Repr

/-- The timetable sequencer (chapter The timetable). -/
structure TtSt where
  /-- 3 values (R64, R67). -/
  pattern : Pattern := .musterPattern
  /-- 4 stores (R58). -/
  stores : List Store := [{}, {}, {}, {}]
  /-- 1 bit (R57). -/
  checkBusy : Bool := false
  /-- optional (R59, R60). -/
  switch : Option SwitchReq := none
  /-- cause due one leg after the switch (R59). -/
  switchReport : Option Nat := none
  /-- 0 to 15 (R12). -/
  leg : Nat := 0
  /-- 0 to 63, slot last reached (R12). -/
  slot : Nat := 0
  /-- lanes of that slot whose cell has fired (R32, R38). -/
  fired : List Nat := []
  /-- 64 bits (tt_leg_count) (R67). -/
  legCount : Nat := 0
  /-- 1 bit (R29, R67). -/
  legStarted : Bool := false
  /-- unit ids (R65). -/
  closedUnits : List Nat := []
  /-- unit ids (R65). -/
  closePend : List Nat := []
  /-- unit ids (R65). -/
  reopenPend : List Nat := []
  /-- leg, slot, lane of cells to reload (R41). -/
  reload : List (Nat × Nat × Nat) := []
  /-- berth classes closed by R60 (R60). -/
  closedClasses : List Nat := []
  /-- admission reopens at the next leg boundary (R60). -/
  reopenClasses : Bool := false
  /-- 1 bit, Holdup pattern due at the next leg boundary (R64). -/
  holdupPend : Bool := false
  /-- store to activate at step 13 or on takeover (R62, R63). -/
  activatePend : Option Nat := none
  deriving DecidableEq, Repr

/-- A piece of a command (R44). -/
structure Piece where
  /-- 64 bits (R44, R68). -/
  arrival : Nat := 0
  /-- 64 bits (R44). -/
  lba : Nat := 0
  /-- 1 to 16 (R44). -/
  blocks : Nat := 0
  /-- berth class (R43). -/
  cls : Nat := 0
  /-- 0 to 3 (R43). -/
  port : Nat := 0
  /-- 0 to 2,047 (R44). -/
  assoc : Nat := 0
  /-- virtual time (R44). -/
  start : Nat := 0
  /-- virtual time (R44). -/
  finish : Nat := 0
  /-- 1 bit, counted once in lg_admission_waits (R102, R228). -/
  waited : Bool := false
  /-- 1 bit, counted once in pe_accumulator_waits (R157, R160). -/
  waitedSet : Bool := false
  deriving DecidableEq, Repr

/-- Admission: weighted fair queueing per berth class (R44, R45). -/
structure AdmSt where
  /-- pieces waiting, arrival order (R44). -/
  queue : List Piece := []
  /-- class, virtual time (R44). -/
  vt : List (Nat × Nat) := []
  /-- (class, association), last finish (R44). -/
  last : List ((Nat × Nat) × Nat) := []
  /-- (class, port), berths left in this leg (R44). -/
  left : List ((Nat × Nat) × Nat) := []
  /-- classes stopped until the next leg boundary (R44, R45). -/
  stopped : List Nat := []
  deriving DecidableEq, Repr

/-- Completion statuses the spec names (R71 to R334). -/
inductive Status where
  | success | invalidOpcode | invalidField | invalidNamespace | lbaOutOfRange | reservationConflict
  | sglTypeInvalid | namespaceNotReady | dataTransferError | internalError | abortRequested | abortedPreempt
  | abortLimit | unrecoveredRead | writeFault | anaInaccessible | anaTransition | connectBusy | connectInvalid
  | connectInvalidHost | invalidLogPage | featureNotChangeable | operationDenied | overlappingRange
  | invalidFirmwareImage | capacityExceeded | commandSequence | invalidQueueId | invalidQueueSize
  | invalidVector | invalidCq | invalidQueueDeletion | asyncLimit
  deriving DecidableEq, Repr

/-- Where a block of a command stands on its way. -/
inductive BStage where
  | queued        -- its piece is not admitted (R70)
  | blocked       -- admitted, waiting for an earlier overlapping command (R121)
  | pulling       -- RDMA READ or endpoint read asked for (R72)
  | staged        -- payload waiting for its NET_IN or ENDPOINT cell
  | sourcing      -- a Read whose source is being fetched (R106, R112)
  | inBed         -- data in a bed, before the cipher pass
  | ciphered      -- after the cipher pass
  | done          -- sealed, written, sent, pinned or lost: nothing more to move
  deriving DecidableEq, Repr

/-- One block of a command in flight (R104, R121). -/
structure BlockSt where
  /-- 64 bits (R119). -/
  lba : Nat := 0
  /-- first LBA of its piece (R44). -/
  piece : Nat := 0
  /-- 8 values (R70, R121). -/
  stage : BStage := .queued
  /-- 1 bit (R119, R121). -/
  released : Bool := false
  /-- 1 bit (R110, R113). -/
  lost : Bool := false
  /-- bed handle (R389). -/
  bed : Option Nat := none
  /-- ZERO sector: stored bytes not encrypted (R417). -/
  zero : Bool := false
  /-- block in the protected slab, waybill not sealed (R85). -/
  slabbed : Bool := false
  /-- slab content before the seal (R85). -/
  data : Block := 0#32768
  /-- failures of R77 (R77). -/
  repulls : Nat := 0
  /-- reassignments of R420 (R420). -/
  resets : Nat := 0
  /-- cores that returned RESET (R420). -/
  cores : List Nat := []
  /-- slot at which its bounded path began (R50). -/
  t0 : Nat := 0
  /-- 1 bit (R341). -/
  hedged : Bool := false
  /-- counted in ce_overlap_waits (R132). -/
  waited : Bool := false
  /-- counted in ce_read_apply_waits (R112, R132). -/
  applyWait : Bool := false
  /-- its present member returned it unreadable (R108, R114). -/
  unread : Bool := false
  /-- received frame its data came in, 0 none (R77, R381). -/
  frame : Nat := 0
  /-- PSN or message number of its RDMA READ request (R72, R299). -/
  psn : Nat := 0
  deriving DecidableEq, Repr

/-- A part of a write (R78) and how it stands with its acknowledgement rule (R89). -/
structure Part where
  /-- stripe number (R78, R144). -/
  stripe : Nat := 0
  /-- first LBA (R78). -/
  first : Nat := 0
  /-- blocks (R78). -/
  blocks : Nat := 0
  /-- 1 bit (R78). -/
  full : Bool := false
  /-- a piece was admitted at ledger size 0 (R102). -/
  sizeZero : Bool := false
  /-- its first piece is admitted (R80). -/
  admitted : Bool := false
  /-- seals of its waybills (R85). -/
  seals : List Nat := []
  /-- waybills not yet sealed (R85). -/
  left : Nat := 0
  /-- seal of the intent (R80). -/
  intent : Option Nat := none
  /-- intent waits for earlier overlapping writes (R80, R86). -/
  intentDue : Bool := false
  /-- full-stripe member writes issued (R81). -/
  issued : Bool := false
  /-- members whose full-stripe write is not completed (R81). -/
  writing : List Nat := []
  /-- Write Fault (R84). -/
  fault : Bool := false
  /-- its blocks that wait are counted in ce_overlap_waits (R121, R132). -/
  waited : Bool := false
  deriving DecidableEq, Repr

/-- An accepted command and its range-table entry (R68, R119); removed when its completion is sent (R122). -/
structure Cmd where
  /-- 64 bits (R68). -/
  arrival : Nat := 0
  /-- the capsule (R68, R189). -/
  cap : Capsule := {}
  /-- R312 passed (R312). -/
  checked : Bool := false
  /-- network port (R43). -/
  port : Nat := 0
  /-- 0 to 15 (R42). -/
  party : Nat := 0
  /-- association index, 2,048 for the endpoint (R44, R189). -/
  assoc : Nat := 0
  /-- room generation at admission (R73, R115). -/
  roomGen : Nat := 0
  /-- parts of a write (R78). -/
  parts : List Part := []
  /-- per-block release state (R119). -/
  blocks : List BlockSt := []
  /-- completion decided, its capsule not sent (R109, R122). -/
  status : Option Status := none
  /-- association ended or controller yielded: no completion (R255, R309). -/
  dropped : Bool := false
  /-- shelf time of acceptance (R531). -/
  time : Nat := 0
  /-- slot of acceptance, counted since the timetable started (R539's age) (R539). -/
  slot : Nat := 0
  /-- accepted during PS2 entry (R329). -/
  sincePs2 : Bool := false
  /-- 1 bit: the namespace was active for its association at its acceptance (R337). -/
  active : Bool := true
  /-- 1 bit: the reservation state at its acceptance permits it (R312, R331, R332). -/
  permitted : Bool := true
  /-- recognised as a retry already done (R256). -/
  retry : Bool := false
  /-- dword 0 of its completion, 32 bits (R280). -/
  dw0 : Nat := 0
  /-- data its completion returns (R332). -/
  answer : List Byte := []
  deriving DecidableEq, Repr

/-- What a drive command is for (R340). -/
inductive DriveUse where
  | blockRead (arrival lba : Nat)                        -- host read of a member
  | fill (nsid lba cls no : Nat)                         -- read-ahead or run-ahead (R125)
  | row (job member : Nat)                               -- input of a row job
  | rowWrite (job member : Nat)                          -- output of a row job
  | fullStripe (arrival stripe member : Nat)             -- R81
  | journal (wing jseq : Nat)                            -- R201
  | zoneRead (wing : Nat)                                -- R212
  | descriptor (generation : Nat)                        -- R197
  | descRead (wing place part : Nat)                     -- R197: copy A or B, its header or the rest
  | patrolRewrite (nsid stripe row member : Nat)         -- R186
  | preempt (wing step : Nat)                            -- R233
  | keyRegister (wing : Nat)                             -- R232
  | reservationReport (wing : Nat)                       -- R234
  | examine (step : Nat)                                 -- R345
  | driveAbort (cid : Nat)                               -- R342
  | hostIdent                                            -- R232
  | memberNs (wing : Nat)                                -- R140
  | cacheOff (size link : Nat) (blank wipe : Bool)       -- R339: what the drive is accepted with once its cache is off
  | nsDelete                                             -- R345
  deriving DecidableEq, Repr

/-- A drive command's operation. -/
inductive DriveOp where
  | read | write | report | register | acquire | create | delete | feature | identify | abort
  deriving DecidableEq, Repr

/-- What a drive command carries beside its place: the fields of a Reservation Register and a Reservation Acquire (R233), the Host
Identifier (R232), the size and format of a member namespace, blocks, data bytes and metadata bytes of a sector, and whether protection
information is enabled (R140). -/
inductive DriveArg where
  | none
  | register (rrega crkey nrkey : Nat)
  | acquire (racqa rtype crkey prkey : Nat)
  | hostId (id : Nat)
  | cache (on : Bool)
  | format (blocks data metadata : Nat) (pi : Bool)
  deriving DecidableEq, Repr

/-- A command on one of a drive's queues (R340). -/
structure DriveCmd where
  /-- 0 to 23 (R340). -/
  bay : Nat := 0
  /-- 0 admin, 1 to 12 (R340). -/
  queue : Nat := 0
  /-- command identifier (R340). -/
  cid : Nat := 0
  /-- operation (R340). -/
  op : DriveOp := .read
  /-- member namespace (R140). -/
  nsid : Nat := 0
  /-- member LBA (R147). -/
  lba : Nat := 0
  /-- sectors (R81). -/
  blocks : Nat := 0
  /-- purpose (R340). -/
  use : DriveUse := .examine 0
  /-- fields it carries (R140, R232, R233). -/
  arg : DriveArg := .none
  /-- sectors to write (R98). -/
  sectors : List Sector := []
  /-- beds holding the data (R401). -/
  beds : List Nat := []
  /-- sectors not yet moved by a cell (R32). -/
  toMove : Nat := 0
  /-- doorbell rung (R340). -/
  outstanding : Bool := true
  /-- repeated once (R342). -/
  repeated : Bool := false
  /-- a drive Abort was sent (R342). -/
  aborting : Bool := false
  /-- result is discarded (hedge, reset) (R341, R468). -/
  discard : Bool := false
  /-- held for reissue after a root-port reset (R469). -/
  held : Bool := false
  deriving DecidableEq, Repr

/-- A response capsule or completion entry that does not end a range-table entry: admin commands and commands refused
at once. -/
structure Reply where
  src : CmdSrc := .endpoint
  sqid : Nat := 0
  cid : Nat := 0
  status : Status := .success
  dw0 : Nat := 0
  data : List Byte := []
  deriving DecidableEq, Repr

/-- What a transfer moves: its next stage between two units (R39). -/
inductive Job where
  | pullRequest (arrival lba : Nat)                      -- CONTROL, RDMA READ request (R72)
  | payloadIn (arrival lba : Nat) (data : Block) (bad : Bool) (frame : Nat) (esp : Nat × Nat)  -- NET_IN of pulled data (R72)
  | roomIn (room offset : Nat) (data : Block) (bad : Bool) (frame : Nat) (esp : Nat × Nat)     -- NET_IN of push-room data (R281)
  | waitIn (tag : Nat)                                   -- NET_IN of a waiting packet's payload (R276)
  | frameIn (frame : Nat)                                -- NET_IN of a frame without data for a bed (R377)
  | cipherBlock (arrival lba : Nat)                      -- CIPHER of a command's block (R76, R109)
  | slabWrite (arrival lba : Nat)                        -- CACHE_WR into the slab (R85)
  | cacheFill (nsid lba bed no : Nat)                    -- CACHE_WR of a provisional entry (R125)
  | roomPin (arrival lba : Nat)                          -- CACHE_WR of a read-room Read (R116)
  | slabRead (arrival lba sealNo : Nat)                  -- CACHE_RD from the slab (R106)
  | cacheRead (arrival lba : Nat)                        -- CACHE_RD from the stripe cache (R106)
  | rowCache (job member : Nat)                          -- CACHE_RD of an entry a row job consumes (R129)
  | pullRead (pull index : Nat)                          -- CACHE_RD of a read-room pull (R117)
  | pullCipher (pull index : Nat)                        -- CIPHER of a read-room pull (R117)
  | pullOut (pull index : Nat)                           -- NET_OUT of a read-room pull (R117)
  | blockOut (arrival lba : Nat)                         -- NET_OUT of a Read's block (R109)
  | driveIn (use : DriveUse) (data : Block) (trl : BitVec 128)   -- DRIVE_IN (R108)
  | driveOut (bay queue cid : Nat)                       -- DRIVE_OUT (R81, R98)
  | parityIn (job member bed : Nat) (trl : BitVec 128)   -- PARITY_IN (R157)
  | parityTapIn (arrival lba : Nat)                      -- PARITY_IN replacing a discarded tap (R77)
  | parityOut (job member : Nat)                         -- PARITY_OUT of a row job (R158)
  | parityFull (arrival stripe row : Nat) (isQ : Bool)   -- PARITY_OUT of a full stripe (R83)
  | journal (bay wing jseq : Nat)                        -- JOURNAL (R201)
  | legFrame (leg index : Nat)                           -- SISTER_OUT (R236)
  | snapshotFrame (index : Nat)                          -- SISTER_OUT (R260)
  | shadowFrame (index : Nat)                            -- SISTER_IN (R240)
  | response (arrival : Nat)                             -- CONTROL response capsule (R109, R122)
  | reply (r : Reply)                                    -- CONTROL completion of another command (R35)
  | contextFetch (qpn : Nat)                             -- CONTEXT (R275)
  | contextSpill (qpn : Nat)                             -- CONTEXT (R275)
  | endpointIn (arrival lba : Nat) (data : Block)        -- ENDPOINT (R506)
  | endpointOut (arrival lba : Nat)                      -- ENDPOINT (R506)
  | vaultPage (index : Nat)                              -- VAULT (R208)
  | vaultConsumed                                        -- VAULT, the consumed page (R209)
  | dump (part : Nat)                                    -- DUMP (R538)
  deriving DecidableEq, Repr

/-- A ready transfer (R39): its class, operation class and, where its place is fixed, its units. -/
structure Transfer where
  /-- berth class (R39). -/
  cls : Nat := 0
  /-- operation class (R39). -/
  opc : Nat := 0
  /-- unit id, or any (R39). -/
  src : Option Nat := none
  /-- unit id, or any (R39). -/
  snk : Option Nat := none
  /-- arrival sequence (R39). -/
  seq : Nat := 0
  /-- first global slot at which it is ready (R39, R158). -/
  notBefore : Nat := 0
  /-- what it moves (R39). -/
  job : Job := .response 0
  deriving DecidableEq, Repr

/-- Content of a held bed (R389, R390). -/
structure Bed where
  /-- 32 bits (R389). -/
  handle : Nat := 0
  /-- 4,096 bytes (R389). -/
  data : Block := 0#32768
  /-- POISON (R77). -/
  poison : Bool := false
  /-- holds data (R420). -/
  valid : Bool := true
  /-- transport tag present (R282). -/
  tagged : Bool := true
  /-- nsid, LBA of the entry it derives from (R129, R130). -/
  provisional : Option (Nat × Nat) := none
  /-- received frame its content came in, 0 none (R381). -/
  frame : Nat := 0
  /-- rekey count and ESP sequence number of its content (R271, R412). -/
  esp : Nat × Nat := (0, 0)
  deriving DecidableEq, Repr

/-- Bed state word (R390). -/
structure BedWord where
  /-- pool, half and index (R389). -/
  handle : Nat := 0
  /-- 0 free, 1 held, 2 freeing (R390). -/
  state : Nat := 0
  /-- 4 bits (R390). -/
  gen : Nat := 0
  /-- unit id (R390). -/
  owner : Nat := 0
  /-- 10 bits (R390). -/
  count : Nat := 0
  deriving DecidableEq, Repr

/-- The porter (chapter The porter). -/
structure PorterSt where
  /-- beds per pool (R387, R403). -/
  counts : List Nat := [131072, 16384, 2048, 512, 128]
  /-- po_resize_state (R388, R403). -/
  resize : Nat := 0
  /-- state words that differ from free, generation 0 (R390). -/
  words : List BedWord := []
  /-- pool half (pool × 2 + half), beds returned, last returned first (R397, R398). -/
  freed : List (Nat × List Nat) := []
  /-- pool half, beds of it drawn at least once (R397). -/
  used : List (Nat × Nat) := []
  /-- contents of held beds (R389). -/
  beds : List Bed := []
  /-- porter port, bed drawn for a cell of the next slot (R392, R394). -/
  drawn : List (Nat × Nat) := []
  /-- porter ports whose draw for a cell of the next slot found no free bed (R392, R393). -/
  missed : List Nat := []
  /-- 0 none to 3 black (R402). -/
  levels : List Nat := [0, 0, 0, 0, 0]
  /-- pool half, draws failed in this second (R403). -/
  failedDraws : List (Nat × Nat) := []
  /-- lowest free beds at a leg boundary since last read (R403). -/
  freeMin : List (Option Nat) := [none, none, none, none, none]
  deriving DecidableEq, Repr

/-- A host association: one NVMe controller (R306 to R309). -/
structure Assoc where
  /-- 0 to 2,047 (R306). -/
  index : Nat := 0
  /-- 128 bits (R267). -/
  hostid : Nat := 0
  /-- host NQN (R42). -/
  nqn : List Byte := []
  /-- 0 to 15 (R42, R307). -/
  party : Nat := 0
  /-- ms, 0 off (R308). -/
  kato : Nat := 0
  /-- I/O queue pairs granted (R307). -/
  grant : Nat := 0
  /-- Set Features Number of Queues done (R307, R319). -/
  granted : Bool := false
  /-- first I/O Connect seen (R319). -/
  ioConnected : Bool := false
  /-- sqid, controller QP number (R307). -/
  queues : List (Nat × Nat) := []
  /-- CC, 32 bits (R311). -/
  cc : Nat := 0
  /-- CSTS.RDY (R311). -/
  ready : Bool := false
  /-- CC.SHN waiting for every command (R311). -/
  shutdown : Bool := false
  /-- CSTS.SHST complete (R311). -/
  shutdownDone : Bool := false
  /-- cids of outstanding AERs, at most 8 (R311, R318). -/
  aers : List Nat := []
  /-- type, information, log page waiting (R318). -/
  events : List (Nat × Nat × Nat) := []
  /-- type, information masked until the log is read (R318). -/
  masked : List (Nat × Nat) := []
  /-- Aborts outstanding, at most 4 (R326). -/
  aborts : Nat := 0
  /-- Changed Namespace List (R316). -/
  changedNs : List Nat := []
  /-- Error Information: sqid, cid, status, newest first, at most 64 (R316). -/
  errorLog : List (Nat × Nat × Nat) := []
  /-- Reservation Notification: type, nsid (R334). -/
  resLog : List (Nat × Nat) := []
  /-- gatehouse tick at which its keep alive timer restarted (R308). -/
  alive : Nat := 0
  /-- errors logged, 64 bits (R316). -/
  errorCount : Nat := 0
  /-- entries logged (R334). -/
  resLogCount : Nat := 0
  /-- nsid, mask of FID 0x82 (R319). -/
  resMask : List (Nat × Nat) := []
  /-- kelvin, FID 0x04 (R319). -/
  tempThreshold : Nat := 65535
  /-- FID 0x0B, 32 bits (R319). -/
  aenConfig : Nat := 0
  /-- discovery controller (R310). -/
  discovery : Bool := false
  deriving DecidableEq, Repr

/-- A reservation command waiting for its descriptor commit (R331). -/
structure ResCmd where
  /-- namespace (R331). -/
  nsid : Nat := 0
  /-- descriptor generation awaited (R331). -/
  generation : Nat := 0
  /-- arrivals that must complete first (R333). -/
  victims : List Nat := []
  /-- state judged until the commit (R331). -/
  before : Namespace := {}
  /-- 64 bits (R331). -/
  arrival : Nat := 0
  /-- notifications due at the commit: hostid, type (R334). -/
  notes : List (Nat × Nat) := []
  deriving DecidableEq, Repr

/-- Stripe-cache entry (R125 to R129). -/
structure CacheEntry where
  /-- namespace (R125). -/
  nsid : Nat := 0
  /-- host LBA (R125). -/
  lba : Nat := 0
  /-- at-rest ciphertext (R125). -/
  data : Block := 0#32768
  /-- ZERO sector (R417). -/
  zero : Bool := false
  /-- confirmed or provisional (R125). -/
  confirmed : Bool := false
  /-- fill in flight (R128). -/
  filling : Bool := false
  /-- cancelled while filling, or removed while pinned (R118, R128). -/
  cancelled : Bool := false
  /-- arrivals whose read-room pins hold it (R116). -/
  pins : List Nat := []
  /-- number of its fill (R125, R128). -/
  no : Nat := 0
  deriving DecidableEq, Repr

/-- Pins of one read-room Read (R118). -/
structure RoomRead where
  /-- arrival sequence (R118). -/
  arrival : Nat := 0
  /-- room index (R118). -/
  room : Nat := 0
  /-- byte offset (R118). -/
  offset : Nat := 0
  /-- blocks (R118). -/
  blocks : Nat := 0
  /-- first LBA (R118). -/
  first : Nat := 0
  /-- namespace (R118). -/
  nsid : Nat := 0
  /-- blocks pulled at least once (R118). -/
  pulled : List Nat := []
  /-- response capsule sent (R118). -/
  answered : Bool := false
  deriving DecidableEq, Repr

/-- One block of a read-room pull (R117). -/
structure PullBlock where
  /-- namespace (R117). -/
  nsid : Nat := 0
  /-- host LBA (R117). -/
  lba : Nat := 0
  /-- the pinned content it started under (R118). -/
  data : Block := 0#32768
  /-- ZERO sector (R417). -/
  zero : Bool := false
  /-- bed (R117). -/
  bed : Option Nat := none
  /-- sent (R117). -/
  left : Bool := false
  /-- the Read whose pin it is served from (R118). -/
  arrival : Nat := 0
  /-- cores that returned it (R420). -/
  cores : List Nat := []
  deriving DecidableEq, Repr

/-- A host RDMA READ on a read room being served (R117). -/
structure RoomPull where
  /-- number (R117). -/
  id : Nat := 0
  /-- connection (R117). -/
  qpn : Nat := 0
  /-- room index (R117). -/
  room : Nat := 0
  /-- read class of the party (R117). -/
  cls : Nat := 0
  /-- its blocks (R117). -/
  blocks : List PullBlock := []
  deriving DecidableEq, Repr

/-- A firmware slot (R461 to R463). -/
structure FwSlot where
  /-- holds a package (R463). -/
  present : Bool := false
  /-- up to 16 MiB (R460). -/
  package : List Byte := []
  /-- 8 characters (R460). -/
  revision : List Byte := []
  /-- 32 bits (R460). -/
  security : Nat := 0
  deriving DecidableEq, Repr

/-- A replayed Write that a retry may match (R256). -/
structure Retry where
  /-- 128 bits (R256). -/
  hostid : Nat := 0
  /-- 16 bits (R256). -/
  sqid : Nat := 0
  /-- 16 bits (R256). -/
  cid : Nat := 0
  /-- namespace (R256). -/
  nsid : Nat := 0
  /-- first LBA (R256). -/
  first : Nat := 0
  /-- blocks (R256). -/
  blocks : Nat := 0
  /-- arrival of the replayed command (R256). -/
  arrival : Nat := 0
  deriving DecidableEq, Repr

/-- The command engine's host side. -/
structure CeSt where
  /-- 64 bits (R68, R69). -/
  arrivalNext : Nat := 1
  /-- range table and commands in flight (R119). -/
  cmds : List Cmd := []
  /-- up to 2,048 (R306). -/
  assocs : List Assoc := []
  /-- the endpoint's controller features (R505). -/
  endpointAssoc : Assoc := { index := 2048 }
  /-- up to 1,024 (R338). -/
  namespaces : List Namespace := []
  /-- one per namespace with losses (R178). -/
  lostPages : List LostPage := []
  /-- ready transfers in order of readiness; the virtual output queues hold those of their routes (R376, R377) (R39). -/
  ready : List Transfer := []
  /-- read-room pulls being served (R117). -/
  pulls : List RoomPull := []
  /-- numbering of pulls (the model's own) (R117). -/
  pullNext : Nat := 0
  /-- stripe-cache index, most recently used first (R125, R127). -/
  cache : List CacheEntry := []
  /-- bytes in force since Muster (R132). -/
  cacheSize : Nat := 25769803776
  /-- pin sets (R118). -/
  roomReads : List RoomRead := []
  /-- reservation commands waiting (R331). -/
  resCmds : List ResCmd := []
  /-- NSID and descriptor generation of a ce_ns_create run (R335). -/
  createRun : Option (Nat × Nat) := none
  /-- NSID and phase of a ce_ns_delete run (0 draining, else generation) (R336). -/
  deleteRun : Option (Nat × Nat) := none
  /-- association, cid of Aborts outstanding (R326). -/
  aborts : List (Nat × Nat) := []
  /-- association with the open download (2,048 endpoint) (R321). -/
  download : Option Nat := none
  /-- offset, bytes received (R321). -/
  fragments : List (Nat × List Byte) := []
  /-- 0 to 2 (R327, R346). -/
  ps : Nat := 0
  /-- operational state before PS2 (R330). -/
  psBefore : Nat := 0
  /-- PS2 entry in progress: arrival at t; requester and cid (R329). -/
  psEntry : Option (Nat × Option (CmdSrc × Nat)) := none
  /-- capsules waiting for a range-table entry (R119). -/
  rangeWait : List Capsule := []
  /-- replayed Writes not yet matched (R256). -/
  retries : List Retry := []
  /-- blocks of host data read (R317). -/
  hostRead : Nat := 0
  /-- numbering of fills (the model's own) (R128). -/
  fillNext : Nat := 0
  /-- blocks of host data written (R317). -/
  hostWritten : Nat := 0
  deriving DecidableEq, Repr

/-- The drive of a bay as the controller knows it (R340 to R345). -/
structure Drive where
  /-- 5 values (ce_bay_state) (R346). -/
  state : BayState := .empty
  /-- ce_bay_link, 8 bits (R346). -/
  link : Nat := 0
  /-- ce_bay_accept written (R345). -/
  accepted : Bool := false
  /-- blocks (R140, R143). -/
  memberSize : Nat := 0
  /-- created its member namespaces (R345). -/
  blank : Bool := false
  /-- wing, key registered (R232). -/
  registered : List (Nat × Nat) := []
  /-- wings whose Acquire has succeeded under the present claim (R233, R235). -/
  acquired : List Nat := []
  /-- Host Identifier set on the drive, 128 bits (R232). -/
  hostId : Nat := 0
  /-- member namespaces: NSID, blocks (R140). -/
  members : List (Nat × Nat) := []
  /-- link disabled (R344). -/
  linkHeld : Bool := false
  /-- DRV_PERSTn_N low (R552). -/
  perst : Bool := true
  /-- DRV_REFCLKn driven (R548). -/
  refclk : Bool := false
  /-- queue, commands completed OK (32 bits) (R289). -/
  counts : List (Nat × Nat) := []
  deriving DecidableEq, Repr

/-- Towards the drives. -/
structure DriveSt where
  /-- 24 drives (R340). -/
  bays : List Drive := List.replicate 24 {}
  /-- commands outstanding or held (R340). -/
  cmds : List DriveCmd := []
  /-- command identifiers (R340). -/
  nextCid : Nat := 0
  deriving DecidableEq, Repr

/-- What a row job serves (R156, R568). -/
inductive RowUse where
  | apply
  | recon (arrival lba : Nat)
  | rebuild
  | patrol
  | resync
  | replay
  deriving DecidableEq, Repr

/-- An input a row job has taken. -/
structure RowIn where
  /-- member index (R134). -/
  member : Nat := 0
  /-- 4,096 bytes (R134). -/
  data : Block := 0#32768
  /-- trailer (R98). -/
  trl : Trailer := 0#128
  deriving DecidableEq, Repr

/-- A new data block of a row. -/
structure RowNew where
  /-- member index (R94). -/
  member : Nat := 0
  /-- 4,096 bytes (R94). -/
  data : Block := 0#32768
  /-- ZERO (R98, R189). -/
  zero : Bool := false
  deriving DecidableEq, Repr

/-- A member sector a row job writes. -/
structure RowOut where
  /-- member index (R94). -/
  member : Nat := 0
  /-- 4,096 bytes (R94). -/
  data : Block := 0#32768
  /-- trailer (R98). -/
  trl : Trailer := 0#128
  /-- bay (R94, R164). -/
  bay : Nat := 0
  /-- member LBA (R147). -/
  lba : Nat := 0
  deriving DecidableEq, Repr

/-- A row job of a parity unit (R156, R157). -/
structure RowJob where
  /-- number (R156). -/
  id : Nat := 0
  /-- 0x30 to 0x37 once taken (R568). -/
  unit : Option Nat := none
  /-- purpose (R156). -/
  use : RowUse := .apply
  /-- namespace (R156). -/
  nsid : Nat := 0
  /-- stripe (R144). -/
  stripe : Nat := 0
  /-- block within the strip (R144). -/
  row : Nat := 0
  /-- berth class (R568). -/
  cls : Nat := 0
  /-- a RETURN copy, no reconstruction (R164). -/
  copy : Bool := false
  /-- members to read, not asked for yet (R173, R187). -/
  issue : List Nat := []
  /-- members asked for and not taken in (R94, R111). -/
  want : List Nat := []
  /-- members taken in (R157). -/
  got : List RowIn := []
  /-- absent and unreadable members (R135). -/
  erased : List Nat := []
  /-- new data blocks of the row (R94). -/
  newData : List RowNew := []
  /-- seal_seq to write (R99). -/
  sealNo : Nat := 0
  /-- results formed (R158). -/
  computed : Bool := false
  /-- sectors still to be handed to their drives (R94, R164). -/
  outs : List RowOut := []
  /-- members whose write has not completed (R97). -/
  writing : List Nat := []
  /-- provisional entries consumed: namespace, LBA (R129). -/
  prov : List (Nat × Nat) := []
  /-- members whose PARITY_IN transfer is counted in pe_row_job_waits (R160). -/
  waited : List Nat := []
  /-- members whose present drive returned the block unreadable (R114, R169). -/
  unread : List Nat := []
  /-- members whose new data has been handed over (R94, R129). -/
  sent : List Nat := []
  deriving DecidableEq, Repr

/-- An accumulator set of a full-stripe part (R156, R157). -/
structure Accum where
  /-- command (R157). -/
  arrival : Nat := 0
  /-- stripe (R157). -/
  stripe : Nat := 0
  /-- 0x30 to 0x37 (R157). -/
  unit : Nat := 0
  /-- bytes of the set, 2 × s (R156). -/
  bytes : Nat := 0
  /-- row, running P (R83). -/
  p : List (Nat × Block) := []
  /-- row, running Q (R83). -/
  q : List (Nat × Block) := []
  /-- LBAs streamed in (R83). -/
  taken : List Nat := []
  /-- row, bed of P (R83). -/
  pOut : List (Nat × Nat) := []
  /-- row, bed of Q (R83). -/
  qOut : List (Nat × Nat) := []
  /-- poisoned, to be recomputed (R77). -/
  discarded : Bool := false
  /-- P and Q have left (R157). -/
  freed : Bool := false
  deriving DecidableEq, Repr

/-- The parity engine. -/
structure ParitySt where
  /-- row jobs, at most 64 per unit (R156, R568). -/
  jobs : List RowJob := []
  /-- numbering (R156). -/
  nextJob : Nat := 0
  /-- accumulator sets (R156). -/
  accums : List Accum := []
  deriving DecidableEq, Repr

/-- A stripe held by the rebuild (R164). -/
structure Hold where
  /-- wing (R164). -/
  wing : Nat := 1
  /-- namespace (R164). -/
  nsid : Nat := 0
  /-- stripe (R164). -/
  stripe : Nat := 0
  /-- generations known when it was held (R164). -/
  events : List Nat := []
  /-- member, bay, member LBA of the strip (R164). -/
  dests : List (Nat × Nat × Nat) := []
  /-- rows not finished (R164). -/
  rowsLeft : Nat := 0
  /-- rows under R176 (R176). -/
  lostRows : Nat := 0
  /-- blocks lost (R176). -/
  lostBlocks : Nat := 0
  /-- completion record made, copy awaited (R164, R166). -/
  recorded : Bool := false
  deriving DecidableEq, Repr

/-- A rewrite request of a host read (R114, R186). -/
structure PatrolReq where
  /-- namespace (R186). -/
  nsid : Nat := 0
  /-- stripe (R186). -/
  stripe : Nat := 0
  /-- block within the strip (R186). -/
  row : Nat := 0
  /-- member (R186). -/
  member : Nat := 0
  /-- reconstructed ciphertext (R186). -/
  data : Block := 0#32768
  /-- highest seal among the members read (R184). -/
  sealNo : Nat := 0
  deriving DecidableEq, Repr

/-- pe_patrol_log entry (R188). -/
structure PatrolLog where
  /-- shelf time (R188). -/
  time : Nat := 0
  /-- stripe (R188). -/
  stripe : Nat := 0
  /-- namespace (R188). -/
  nsid : Nat := 0
  /-- block within the strip (R188). -/
  row : Nat := 0
  /-- wing (R188). -/
  wing : Nat := 0
  /-- 1 or 2 (R188). -/
  cause : Nat := 0
  /-- bit map (R188). -/
  bays : Nat := 0
  deriving DecidableEq, Repr

/-- Rebuild and the night watch. -/
structure RebuildSt where
  /-- tier, wing, NSID, stripe in order (R170, R171). -/
  order : List (Nat × Nat × Nat × Nat) := []
  /-- order due at the next leg boundary (R171). -/
  reorder : Bool := false
  /-- held stripes (R164). -/
  held : List Hold := []
  /-- bytes of member reads left in this leg, with the remainder carried (R173). -/
  budget : Nat := 0
  /-- wings whose tier 0 is non-empty (R174). -/
  tier0 : List Nat := []
  /-- bytes left (R187). -/
  patrolBudget : Nat := 0
  /-- wing, NSID, stripe under patrol (R183, R185). -/
  patrolHeld : Option (Nat × Nat × Nat) := none
  /-- patrolling (R180, R188). -/
  patrolOn : Bool := true
  /-- up to 1,024 (R186). -/
  requests : List PatrolReq := []
  /-- requests dropped in this second (R186). -/
  requestDrops : Nat := 0
  /-- stripes from the start of the pass, wings 1 and 2 (R180). -/
  cursor : List Nat := [0, 0]
  /-- rows and blocks of the stripe under patrol lost under R176 (R176, R183). -/
  patrolLost : Nat × Nat := (0, 0)
  /-- every row of the stripe under patrol is decided (R183). -/
  patrolDone : Bool := false
  /-- up to 256 (R188). -/
  log : List PatrolLog := []
  /-- wing, shelf time the pass began (R180). -/
  passStart : List (Nat × Nat) := []
  /-- wing, rows, corrections, uncorrectable of the pass (R180). -/
  passRows : List (Nat × Nat × Nat × Nat) := []
  /-- NSID and stripe of holds a reset cut off (R167, R188). -/
  cut : List (Nat × Nat) := []
  /-- rebuild reads of the last 195,313 legs: leg count, wing (R188). -/
  readLog : List (Nat × Nat) := []
  deriving DecidableEq, Repr

/-- A journal record as a bay's zone holds it, its digest and sector CRCs good (R198, R213, R571). -/
structure JCopy where
  /-- bay (R213). -/
  bay : Nat := 0
  /-- wing (R198). -/
  wing : Nat := 1
  /-- 64 bits (R198). -/
  jseq : Nat := 0
  /-- member LBA of its header sector (R196, R571). -/
  lba : Nat := 131072
  /-- 0 to 2 the place in the triple, 3 re-homed or substitute (R198). -/
  copy : Nat := 0
  /-- lowest jseq of the zone still holding an unfreed item when it was written (R198). -/
  tail : Nat := 0
  /-- seal range (R198, R200). -/
  range : Nat := 0
  /-- claim number of its writer, 0 in the single configuration (R198). -/
  claim : Nat := 0
  /-- payload sectors (R198). -/
  sectors : Nat := 0
  /-- directory and blocks (R198). -/
  items : List LedgerRec := []
  deriving DecidableEq, Repr

/-- A record of the ledger index and how far it has come. -/
structure Rec extends LedgerRec where
  /-- the copy path holds it (R87, R90). -/
  copyHeld : Bool := false
  /-- every member write of the apply completed (R97). -/
  applied : Bool := false
  /-- free or retire record made (R97, R100). -/
  finalMade : Bool := false
  /-- that record is held on the copy path (R97). -/
  finalHeld : Bool := false
  /-- arrival of the superseding intent (R88, R106). -/
  supersededBy : Nat := 0
  /-- its acknowledgement may come before its apply (R103, R226). -/
  ackGuard : Bool := true
  /-- replayed from the vault copy (R217). -/
  fromVault : Bool := false
  deriving DecidableEq, Repr

/-- A journal record (R198). -/
structure JRec where
  /-- 64 bits (R198). -/
  jseq : Nat := 0
  /-- wing (R198). -/
  wing : Nat := 1
  /-- seal range (R200). -/
  range : Nat := 0
  /-- 0 for the triple, 3 re-homed (R198). -/
  copy : Nat := 0
  /-- 1 to 62 records (R198). -/
  items : List LedgerRec := []
  /-- bays whose copy is not complete (R202). -/
  pending : List Nat := []
  /-- bays written or to be written (R200). -/
  bays : List Nat := []
  /-- goes ahead (re-homing, carry-forward) (R203, R204). -/
  urgent : Bool := false
  /-- the record holds its items (R202). -/
  held : Bool := false
  /-- lost bay whose copies it re-homes (R204). -/
  forBay : Option Nat := none
  /-- carries forward a zone's oldest record (R203). -/
  carry : Bool := false
  /-- jseq of the records it copies (R203, R204). -/
  origins : List Nat := []
  deriving DecidableEq, Repr

/-- Journal zone of one bay and wing (R196, R571). -/
structure Zone where
  /-- wing (R196). -/
  wing : Nat := 1
  /-- bay (R196). -/
  bay : Nat := 0
  /-- member LBA of the next record (R571). -/
  head : Nat := 131072
  /-- jseq, first LBA, blocks, from tail to head (R198, R571). -/
  records : List (Nat × Nat × Nat) := []
  deriving DecidableEq, Repr

/-- A vault image (R208, R209). -/
structure VaultImage where
  /-- 0 A, 1 B (R208, R209). -/
  image : Nat := 0
  /-- flush profile in force (R208). -/
  profile : Nat := 0
  /-- flush_seq (R208). -/
  seq : Nat := 0
  /-- 0 empty, 1 partial, 2 complete, 3 consumed (R228). -/
  state : Nat := 0
  /-- shelf time at the trip (R208). -/
  time : Nat := 0
  /-- 0 or 1, 0xFF single (R208). -/
  sister : Nat := 255
  /-- bits of the wings flushed (R208). -/
  wings : Nat := 0
  /-- claim_w1, claim_w2 (R208). -/
  claims : List Nat := [0, 0]
  /-- highest seals (R208). -/
  sealHi : List Nat := [0, 0]
  /-- highest arrival (R208). -/
  arrivalHi : Nat := 0
  /-- ledger size in force, bytes (R208). -/
  inForce : Nat := 0
  /-- slab occupancy, bytes (R208). -/
  occupied : Nat := 0
  /-- records and blocks of its index and data segments, in ascending seal order (R208). -/
  records : List LedgerRec := []
  /-- pages written, from the header on (R208, R211). -/
  pages : Nat := 0
  /-- pages that read otherwise than written (R211). -/
  flaws : List (Nat × Block) := []
  /-- consumed page: shelf time, claim numbers (R209). -/
  consumed : Option (Nat × List Nat) := none
  deriving DecidableEq, Repr

/-- A flush in progress (R208). -/
structure FlushSt where
  /-- 0 A or 1 B (R209). -/
  image : Nat := 0
  /-- pages written (R208). -/
  pages : Nat := 0
  /-- pages to write (R208). -/
  total : Nat := 0
  /-- the leg boundary after the trip has passed (R207). -/
  boundary : Bool := false
  /-- shelf time (R208). -/
  start : Nat := 0
  deriving DecidableEq, Repr

/-- Progress of an apply or replay of a stripe (R87, R215). -/
structure Group where
  /-- wing (R87). -/
  wing : Nat := 1
  /-- namespace (R87). -/
  nsid : Nat := 0
  /-- stripe (R87). -/
  stripe : Nat := 0
  /-- highest seal of the group (R99). -/
  sealNo : Nat := 0
  /-- seals applied together (R87). -/
  seals : List Nat := []
  /-- rows not finished (R94). -/
  rowsLeft : Nat := 0
  /-- rows under R567 (R567). -/
  lostRows : Nat := 0
  /-- blocks lost (R567). -/
  lostBlocks : Nat := 0
  /-- replay group (R215). -/
  replay : Bool := false
  /-- intent being resynchronised (R100). -/
  intent : Option Nat := none
  deriving DecidableEq, Repr

/-- A descriptor copy read from a drive, and how far it has come (R197). -/
structure DescRead where
  /-- what the drive returned (R197). -/
  copy : DescCopy := {}
  /-- 0 copy A, 1 copy B (R196, R197). -/
  place : Nat := 0
  /-- member namespace read (R140, R197). -/
  wing : Nat := 1
  /-- the sectors after the header are coming in (R197). -/
  rest : Bool := false
  /-- every sector is in (R197). -/
  whole : Bool := false
  /-- DRIVE_IN cells still to move (R197). -/
  left : Nat := 0
  deriving DecidableEq, Repr

/-- The ledger. -/
structure LedgerSt where
  /-- protected slab and header area: unfreed waybills and unretired intents (R192). -/
  recs : List Rec := []
  /-- next seal per wing (R190, R228). -/
  sealNext : List Nat := [1, 1]
  /-- records made in this leg, in order (R201, R236). -/
  legRecs : List LedgerRec := []
  /-- records of packets whose copy failed, for the journal zones only (R90, R241). -/
  journalDue : List LedgerRec := []
  /-- next jseq per wing (R198). -/
  jseqNext : List Nat := [1, 1]
  /-- journal records in flight or with unfreed items (R201). -/
  jrecs : List JRec := []
  /-- journal zones (R196). -/
  zones : List Zone := []
  /-- re-homings under way: wing, lost bay, substitute, items, leg it started (R204). -/
  rehomeRuns : List (Nat × Nat × Nat × Nat × Nat) := []
  /-- image read for the replay, pages left (R212, R457). -/
  vaultRead : Option (Nat × Nat) := none
  /-- bays lost whose copies are to be re-homed (R204). -/
  rehome : List Nat := []
  /-- applies in progress (R87). -/
  applies : List Group := []
  /-- groups of the replay set still to start, in order (R214, R215). -/
  replaySet : List Group := []
  /-- journal records read for the replay (R212, R213). -/
  replayReads : List JCopy := []
  /-- records of kinds 3 to 5 found for the replay (R213, R219). -/
  replayFinals : List LedgerRec := []
  /-- shelf time the replay began (R228). -/
  replayStart : Nat := 0
  /-- wing being replayed (R212). -/
  replayWing : Option Nat := none
  /-- ledger size in force, bytes (R223, R228). -/
  inForce : Nat := 0
  /-- occupancy above the size in force (R225). -/
  narrowing : Bool := false
  /-- s_allowed due at the next leg boundary (R224). -/
  recompute : Bool := false
  /-- R226 cause (R226). -/
  energyDrain : Bool := false
  /-- 0 good, 1 excluded, 2 suspect (R206, R228). -/
  comparators : List Nat := [0, 0, 0]
  /-- flush in progress (R208). -/
  flush : Option FlushSt := none
  /-- images A and B (R209). -/
  images : List VaultImage := [{}, {}]
  /-- last flush_seq (R208). -/
  flushSeq : Nat := 0
  /-- vault image in use for replay (R219). -/
  replayed : Option Nat := none
  /-- committed descriptor generation (R197, R228). -/
  descGen : Nat := 0
  /-- generation being written, bays pending (R197). -/
  descWriting : Option (Nat × List Nat) := none
  /-- descriptors of the generation being written, one a wing (R197). -/
  descOut : List Descriptor := []
  /-- descriptor copies read (R197). -/
  descReads : List DescRead := []
  /-- a further generation is due (R197). -/
  descAgain : Bool := false
  /-- blank shelf (R20). -/
  descBlank : Bool := true
  /-- 1 single, 2 paired (R20, R197). -/
  descConfig : Nat := 1
  /-- 0 or 1 (R407). -/
  wrapState : Nat := 0
  /-- 320 bits (R407). -/
  wrapped : Nat := 0
  /-- published voltage mV, C µF, ceiling µJ, state (R444). -/
  bankPub : List Nat := [0, 0, 0, 0]
  deriving DecidableEq, Repr

/-- A taking of a wing (R233, R250 to R253). -/
structure Takeover where
  /-- 0 Muster, 1 grant, 2 quorum, 3 hand-back, 4 promotion (R250). -/
  path : Nat := 0
  /-- 64 bits (R230). -/
  claim : Nat := 0
  /-- quorum required (R251). -/
  quorum : Bool := false
  /-- bays won (R233). -/
  won : List Nat := []
  /-- bays refused (R233). -/
  refused : List Nat := []
  /-- bays preempt was issued to (R233). -/
  asked : List Nat := []
  /-- preempts stopped until the retry (R251). -/
  stopped : Bool := false
  /-- the claim stands (R253). -/
  stands : Bool := false
  /-- shelf time of the trigger (R262). -/
  trigger : Nat := 0
  /-- 0 preempting, 1 zones being read, 2 replaying, 3 replayed (R253). -/
  phase : Nat := 0
  /-- bay, holder key reported (R233, R257). -/
  reports : List (Nat × Nat) := []
  /-- a holder defends its wing (R252). -/
  defend : Bool := false
  deriving DecidableEq, Repr

/-- Lantern of one wing. -/
structure Wing where
  /-- 4 values (R262). -/
  state : LanternState := .standby
  /-- 64 bits (R229, R262). -/
  claim : Nat := 0
  /-- highest claim seen (R238, R262). -/
  seen : Nat := 0
  /-- 3 values (R254). -/
  ana : AnaState := .inaccessible
  /-- admission open (R253, R255). -/
  open_ : Bool := false
  /-- takeover in progress (R250). -/
  takeover : Option Takeover := none
  /-- µs, as last granted (R262). -/
  lease : Nat := 0
  /-- shelf time the lease ends (R252). -/
  leaseEnd : Nat := 0
  /-- 3 values (R90, R228). -/
  copyPath : CopyPath := .none
  /-- reason and attempts of a REQUEST outstanding (R250). -/
  request : Option (Nat × Nat) := none
  /-- first RENEW after quorum not yet answered (R253). -/
  renewFirst : Bool := false
  /-- waiting si_holdoff_legs (R250). -/
  holdoff : Bool := false
  /-- 0 none, 1 draining, 2 HANDBACK sent, 3 receiving (R261). -/
  handback : Nat := 0
  /-- shelf time of the first Acquire (R235). -/
  preemptStart : Nat := 0
  /-- winning claim and cause of a yield due at the next leg boundary (R255). -/
  yieldFor : Option (Nat × Nat) := none
  /-- shelf time si_retry_window ends in which retried Writes are recognised (R256). -/
  retryEnd : Option Nat := none
  deriving DecidableEq, Repr

/-- A leg packet sent and not settled (R236, R240). -/
structure LegPacket where
  /-- sender's leg (R237). -/
  leg : Nat := 0
  /-- its records (R236). -/
  recs : List LedgerRec := []
  /-- 512 bits (R239). -/
  digest : Nat := 0
  /-- frames not yet moved by SISTER_OUT (R236). -/
  frames : List (List Byte) := []
  /-- frames not yet moved by SISTER_IN (R240). -/
  framesLeft : Nat := 0
  /-- legs since its last SISTER_OUT cell (R90). -/
  age : Nat := 0
  /-- association entries (R238). -/
  assoc : List (Nat × Bool × Nat) := []
  /-- wings whose copy its acknowledgement governs (R90, R241). -/
  governs : List Nat := []
  /-- SNAPSHOT flag (R237, R260). -/
  snapshot : Bool := false
  /-- bytes 0 to 63 of its head (R238, R239). -/
  head : List Byte := []
  deriving DecidableEq, Repr

/-- Association entry received (R238). -/
structure ShadowAssoc where
  /-- association (R238). -/
  index : Nat := 0
  /-- 128 bits (R238). -/
  hostid : Nat := 0
  deriving DecidableEq, Repr

/-- Sisters and the lantern. -/
structure SisterSt where
  /-- 0 or 1, sampled from SISTER_ID (R18, R262). -/
  id : Nat := 0
  /-- 1 bit (R19). -/
  idConflict : Bool := false
  /-- wings 1 and 2 (R262). -/
  wings : List Wing := [{}, {}]
  /-- 1 bit (R243, R262). -/
  bayOwner : Bool := false
  /-- driving the bay gate lines (R244). -/
  bayDriving : Bool := false
  /-- levels sampled (R244). -/
  baySampled : List Bool := List.replicate 24 false
  /-- no change until the former owner releases (R244). -/
  bayFrozen : Bool := false
  /-- ms of frames with the new owner's flag (R244). -/
  ownerMs : Nat := 0
  /-- changes of an ANA state (R316). -/
  anaChanges : Nat := 0
  /-- sideband silent (R242, R262). -/
  silent : Bool := false
  /-- other sister's claims (R242). -/
  sbOther : List Nat := [0, 0]
  /-- other sister's mode (R242). -/
  sbMode : Nat := 0
  /-- other sister's bay-owner flag (R242). -/
  sbOwner : Bool := false
  /-- ms since the last valid frame (R242). -/
  sbSince : Nat := 0
  /-- shelf time of the last silence (R250). -/
  sbSilentAt : Nat := 0
  /-- ledger digest L sent (R239). -/
  digestTx : Nat := 0
  /-- ledger digest L of the shadow (R239). -/
  digestRx : Nat := 0
  /-- leg packets not settled (R236, R240). -/
  packets : List LegPacket := []
  /-- shadow slab (R194). -/
  shadow : List LedgerRec := []
  /-- association entries (R238). -/
  shadowAssocs : List ShadowAssoc := []
  /-- association changes of this leg: index, connected, hostid (R236). -/
  assocChanges : List (Nat × Bool × Nat) := []
  /-- legs since a packet with a valid HEAD (si_legs_since_packet) (R249, R262). -/
  silence : Nat := 0
  /-- a leg packet has been acknowledged or refused since step 12 of Muster (R240, R457). -/
  answered : Bool := false
  /-- si_resync_state (R260, R262). -/
  resync : Nat := 0
  /-- snapshot at the next leg boundary (R260). -/
  snapshotDue : Bool := false
  /-- snapshot frames not yet moved by SISTER_OUT (R260). -/
  snapshot : List (List Byte) := []
  /-- L of the snapshot or of the last packet acknowledged (R239). -/
  snapDigest : Nat := 0
  /-- sister link is the copy path again at the next leg boundary (R260). -/
  linkAgain : Bool := false
  /-- leg packets queued behind a snapshot (R260). -/
  queued : List LegPacket := []
  /-- packets whose frames wait for SISTER_IN cells (R240). -/
  incoming : List LegPacket := []
  /-- highest seal_hi received, wings 1 and 2 (R191, R238). -/
  shadowSeals : List Nat := [0, 0]
  /-- highest arrival_hi received (R191, R238). -/
  shadowArrival : Nat := 0
  /-- leg S of the snapshot (R260). -/
  snapLeg : Nat := 0
  /-- shelf time the resynchronisation began (R260). -/
  resyncStart : Nat := 0
  /-- bytes of the last snapshot (si_resync_bytes) (R262). -/
  resyncBytes : Nat := 0
  /-- si_warden_state (R262). -/
  wardenState : Nat := 0
  /-- 0 none, 1 HELLO sent, 2 AUTH sent, 3 open (R495). -/
  wardenSession : Nat := 0
  /-- session id (R495). -/
  wardenId : Nat := 0
  /-- 256 bits (R495). -/
  wardenNonce : Nat := 0
  /-- K_s of the session to the warden (R489, R493, R495). -/
  wardenKs : BitVec 256 := 0#256
  /-- counter (R490). -/
  wardenTx : Nat := 0
  /-- counter (R490). -/
  wardenRx : Nat := 0
  /-- op and wing waiting for the session (R495). -/
  wardenOut : List (Nat × Nat) := []
  /-- promoted cold spare (R258). -/
  promoted : Bool := false
  /-- claim granted by the warden (R258). -/
  promoteClaim : Option Nat := none
  deriving DecidableEq, Repr

/-- One direction of a connection's ESP protection (R268 to R273). -/
structure Sa where
  /-- full rekey count (R270, R273). -/
  rekey : Nat := 0
  /-- rekey count still accepted during the overlap (R273). -/
  old : Option Nat := none
  /-- last sequence number sent, or highest verified (R269, R272). -/
  seq : Nat := 0
  /-- verified numbers within the window of 4,096 (R272). -/
  seen : List Nat := []
  /-- highest number verified under the old count (R273). -/
  oldSeq : Nat := 0
  /-- verified numbers under the old count (R273). -/
  oldSeen : List Nat := []
  deriving DecidableEq, Repr

/-- An incomplete spread-mode message (R293 to R298). -/
structure Msg where
  /-- message number (R293). -/
  number : Nat := 0
  /-- total bytes (R293). -/
  length : Nat := 0
  /-- packets received (R295). -/
  bits : List Nat := []
  /-- bitmap full, delivery waits (R295). -/
  complete : Bool := false
  /-- shelf time its first packet arrived (R298). -/
  time : Nat := 0
  /-- room key, 0 none (R284). -/
  room : Nat := 0
  /-- room generation at its start (R284). -/
  gen : Nat := 0
  /-- pull it answers, 0 none (R293). -/
  arrival : Nat := 0
  /-- tr_spread_timeout when it started, ns (R298, R304). -/
  limit : Nat := 0
  /-- capsule it carries, until it is delivered (R295). -/
  capsule : Option Capsule := none
  deriving DecidableEq, Repr

/-- A spread-mode message sent and not acknowledged (R296, R298). -/
structure SentMsg where
  /-- message number (R293). -/
  number : Nat := 0
  /-- total bytes (R293). -/
  bytes : Nat := 0
  /-- shelf time its first packet was sent (R298). -/
  start : Nat := 0
  /-- shelf time it was sent last (R296). -/
  last : Nat := 0
  /-- tr_spread_timeout when it started, ns (R298, R304). -/
  limit : Nat := 0
  deriving DecidableEq, Repr

/-- An RDMA connection (R263 to R303). -/
structure Conn where
  /-- controller QP number, 24 bits (R265). -/
  qpn : Nat := 0
  /-- 128 bits (R266). -/
  hostid : Nat := 0
  /-- host QP number (R266). -/
  hostQpn : Nat := 0
  /-- QID of the request (R266). -/
  qid : Nat := 0
  /-- network port (R43). -/
  port : Nat := 0
  /-- link index (R347). -/
  link : Nat := 0
  /-- association, once connected (R307). -/
  assoc : Option Nat := none
  /-- spread mode in force (R292). -/
  spread : Bool := false
  /-- 48 bits (R270). -/
  claimGen : Nat := 0
  /-- RDMA READs allowed, at most 16 (R267). -/
  depth : Nat := 16
  /-- host to controller (R269). -/
  rx : Sa := {}
  /-- controller to host (R269). -/
  tx : Sa := {}
  /-- next PSN expected (R299). -/
  psn : Nat := 0
  /-- gap NAK sent (R299). -/
  nakSent : Bool := false
  /-- packets placed and not acknowledged (R299). -/
  unacked : Nat := 0
  /-- next PSN to send (R299). -/
  txPsn : Nat := 0
  /-- oldest PSN not acknowledged (R299). -/
  txOldest : Nat := 0
  /-- resends of the oldest PSN (R299). -/
  tries : Nat := 0
  /-- standard-mode message in progress: room, generation, next offset (R284). -/
  roomMsg : Option (Nat × Nat × Nat) := none
  /-- incomplete messages, at most 64 (R297). -/
  msgs : List Msg := []
  /-- lowest message not delivered (R295). -/
  nextMsg : Nat := 1
  /-- messages sent and not acknowledged (R296, R298). -/
  txMsgs : List SentMsg := []
  /-- r, MB/s (R302). -/
  rate : Nat := 100000
  /-- g, MB/s (R302). -/
  goal : Nat := 100000
  /-- a, 0 to 1,024 (R302). -/
  estimate : Nat := 0
  /-- s (R302). -/
  gap : Nat := 4
  /-- CNP in this leg (R302). -/
  cnp : Bool := false
  /-- bytes sent in this leg (R303). -/
  sent : Nat := 0
  /-- shelf time of the last CNP sent (R301). -/
  lastCnp : Option Nat := none
  /-- context on chip (R274, R275). -/
  cached : Bool := true
  /-- spill in flight (R278). -/
  spilling : Bool := false
  /-- fetch in flight (R275). -/
  fetching : Bool := false
  /-- use order (R275). -/
  lastUse : Nat := 0
  /-- slot from which the bound of its fetch counts (R275, R278). -/
  fetchAt : Nat := 0
  /-- host RDMA READs outstanding (R267). -/
  reads : Nat := 0
  deriving DecidableEq, Repr

/-- A room (R279). -/
structure Room where
  /-- 18 bits (R279). -/
  index : Nat := 0
  /-- 14 bits (R279). -/
  tag : Nat := 0
  /-- 16 bits (R279). -/
  gen : Nat := 0
  /-- controller QP number (R279). -/
  owner : Nat := 0
  /-- 0 none, 1 push, 2 read, 3 sister (R279). -/
  kind : Nat := 0
  /-- right (R279). -/
  rd : Bool := false
  /-- right (R279). -/
  wr : Bool := false
  /-- 0 free, 1 open, 2 closing, 3 closed (R279). -/
  state : Nat := 0
  /-- bytes (R279). -/
  length : Nat := 0
  /-- 32 bits (R279). -/
  openLegs : Nat := 0
  /-- offset, bed of a push room (R281). -/
  beds : List (Nat × Nat) := []
  /-- messages open (R286). -/
  openMsgs : Nat := 0
  /-- the whole leg had no open message (R286). -/
  quiet : Bool := false
  /-- tr_room_close_timeout passed (R286). -/
  cut : Bool := false
  /-- pending Modify: length, wr, rd (R285). -/
  modify : Option (Nat × Bool × Bool) := none
  /-- tr_room_close_timeout when it was opened, ns (R286, R304). -/
  closeLimit : Nat := 0
  /-- arrivals of its Room Closes (R280, R286). -/
  closers : List Nat := []
  /-- arrivals of the Room Modifies pending (R280, R285). -/
  modifiers : List Nat := []
  /-- earlier generations still in use: gen, length, wr, rd (R284). -/
  gens : List (Nat × Nat × Bool × Bool) := []
  deriving DecidableEq, Repr

/-- A packet in the waiting room (R276). -/
structure Waiting where
  /-- QP number (R276). -/
  qpn : Nat := 0
  /-- its headers (R276). -/
  packet : Packet := {}
  /-- bed of its payload (R276). -/
  bed : Option Nat := none
  /-- order of arrival (R276). -/
  tag : Nat := 0
  deriving DecidableEq, Repr

/-- Entry of a steward work queue (R289 to R291); a transfer whose provisional source has been cancelled is stale. -/
inductive WorkEntry where
  | waitQueue (queue n : Nat) | waitDrive (bay queue n : Nat) | transfer (nsid lba : Nat) (stale : Bool)
  deriving DecidableEq, Repr

/-- A steward work queue (R289). -/
structure WorkQueue where
  /-- 0 to 4,095 (R289). -/
  id : Nat := 0
  /-- in order (R289). -/
  entries : List WorkEntry := []
  /-- completions with OK, 32 bits (R289). -/
  count : Nat := 0
  /-- stopped until restarted (R290). -/
  stopped : Bool := false
  deriving DecidableEq, Repr

/-- The transport engine. -/
structure TransportSt where
  /-- live connections (R274). -/
  conns : List Conn := []
  /-- index (with the admin bit), reuse field given last (R265). -/
  reuse : List (Nat × Nat) := []
  /-- rooms ever opened, by index (R279). -/
  rooms : List Room := []
  /-- at most 512 (R276). -/
  waiting : List Waiting := []
  /-- QP numbers whose fetch is queued (R275). -/
  fetches : List Nat := []
  /-- 4,096 work queues that differ from empty (R289). -/
  queues : List WorkQueue := []
  /-- use order of contexts (R275). -/
  useClock : Nat := 0
  /-- order of waiting packets (R276). -/
  waitTag : Nat := 0
  deriving DecidableEq, Repr

/-- Pause of one class on one link (R362 to R365). -/
structure PauseSt where
  /-- 0 to 7 (R362). -/
  tc : Nat := 0
  /-- quanta of the pause in force (R362). -/
  quanta : Nat := 0
  /-- the count waits for the frame in progress (R363). -/
  pending : Bool := false
  /-- shelf time the unbroken pause began (R365). -/
  since : Nat := 0
  /-- 0x3004 written for this pause (R365). -/
  logged : Bool := false
  deriving DecidableEq, Repr

/-- A frame in an egress buffer (R369, R370). -/
structure EgressFrame where
  /-- class (R368). -/
  tc : Nat := 0
  /-- length (R370). -/
  bytes : Nat := 0
  /-- virtual start (R370). -/
  start : Nat := 0
  /-- virtual finish (R370). -/
  finish : Nat := 0
  /-- marked bad (R380). -/
  bad : Bool := false
  /-- tag inserted (R368). -/
  tagged : Option Nat := none
  /-- sequenceId of a PTP event message (R373). -/
  ptp : Option Nat := none
  /-- on the management VLAN (R368). -/
  mgmt : Bool := false
  deriving DecidableEq, Repr

/-- A frame in an ingress staging buffer (R354). -/
structure StagedFrame where
  /-- number (R354). -/
  id : Nat := 0
  /-- link index (R354). -/
  link : Nat := 0
  /-- class (R357). -/
  tc : Nat := 0
  /-- bytes reserved or held (R354). -/
  bytes : Nat := 0
  /-- head passed under cut-through (R353, R379). -/
  passed : Bool := false
  /-- switch output (R361). -/
  output : Nat := 0
  /-- frame ended (R354). -/
  ended : Bool := false
  /-- discard cause judged on the head, 0 none (R352). -/
  cause : Nat := 0
  /-- first bytes of the frame, at most 128 (R360). -/
  first : List Byte := []
  /-- its packet carries data a NET_IN cell moves into a bed (R354). -/
  payload : Bool := false
  /-- queue pair it names, 0 none (R377). -/
  qpn : Nat := 0
  /-- tag delivered with it: PCP and VID (R358). -/
  tag : Option Nat := none
  /-- receive stamp of a PTP event message, ns (R373). -/
  stamp : Option Nat := none
  deriving DecidableEq, Repr

/-- One link (l = 0 to 31; 32 is the sister link). -/
structure Link where
  /-- 1 bit (R386). -/
  up : Bool := false
  /-- Mb/s (R386). -/
  rate : Nat := 0
  /-- lanes of its port it uses, and whether each is inverted (R348). -/
  lanes : List (Nat × Bool) := []
  /-- paused classes (R362). -/
  pauses : List PauseSt := []
  /-- frame in transmission (R370). -/
  sending : Option EgressFrame := none
  /-- virtual time (R370). -/
  vt : Nat := 0
  /-- class, last finish (R370). -/
  last : List (Nat × Nat) := []
  /-- egress allotment, entry order (R369). -/
  frames : List EgressFrame := []
  /-- steward frames that wait for room in it (R369). -/
  waiting : List EgressFrame := []
  /-- pause and PFC frames for the next frame boundary: classes, time (R366). -/
  flow : List (Nat × Nat) := []
  /-- classes for which XOFF was sent (R366). -/
  xoff : List Nat := []
  deriving DecidableEq, Repr

/-- Network ports and the switch core. -/
structure PortSt where
  /-- links 0 to 31 and the sister link (R348, R386). -/
  links : List Link := List.replicate 33 {}
  /-- pc_port_state (R386). -/
  portState : List Nat := [0, 0, 0, 0]
  /-- port mode in force (R347, R350). -/
  portMode : List Nat := [0, 0, 0, 0]
  /-- media in force (R349, R350). -/
  portMedia : List Nat := [0, 0, 0, 0]
  /-- lane reversal in force, 1 bit each (R348, R350). -/
  laneReverse : List Nat := [0, 0, 0, 0]
  /-- lane polarity in force, 8 bits each (R348, R350). -/
  lanePolarity : List Nat := [0, 0, 0, 0]
  /-- staging buffers (R354). -/
  staged : List StagedFrame := []
  /-- numbering (R354). -/
  nextFrame : Nat := 0
  /-- sample: v, depth, age (R384). -/
  voqNow : List (Nat × Nat × Nat) := []
  /-- peaks: v, depth, age (R384). -/
  voqPeak : List (Nat × Nat × Nat) := []
  /-- sw discard samples, newest first, at most 16 (R360). -/
  discards : List (List Nat) := []
  /-- pc_ptp_tx_stamps: sequenceId, link, ns (R373). -/
  stamps : List (Nat × Nat × Nat) := []
  /-- port clock, TAI ns (R373). -/
  clockNs : Nat := 0
  /-- 16-bit fraction (R373). -/
  clockFrac : Nat := 0
  /-- steering, ppb (R373). -/
  clockStep : Int := 0
  /-- pc_ptp_state (R375, R386). -/
  ptpState : Nat := 0
  /-- consecutive Syncs within 100 ns (R375). -/
  ptpGood : Nat := 0
  /-- pc_ptp_offset (R386). -/
  ptpOffset : Int := 0
  /-- shelf time of the last Sync (R375). -/
  ptpLast : Nat := 0
  /-- sequenceId of the next event message sent (R373). -/
  ptpSeq : Nat := 0
  /-- link, uncorrectable codewords of this second (R385). -/
  fecSecond : List (Nat × Nat) := []
  /-- bad cut-through frames of this second: egress, engine (R380, R381). -/
  badSecond : Nat × Nat := (0, 0)
  deriving DecidableEq, Repr

/-- A derived key, named by what it is derived from (R408, R413). -/
structure DerivedKey where
  /-- 1 XTS, 2 ESP (R408). -/
  mode : Nat := 0
  /-- key slot (R410). -/
  slot : Nat := 0
  /-- key generation, or rekey count (R418). -/
  gen : Nat := 0
  /-- ESP direction (R270). -/
  dir : Nat := 0
  /-- ESP QP number (R270). -/
  qpn : Nat := 0
  deriving DecidableEq, Repr

/-- A cipher request (R412). -/
structure CipherReq where
  /-- command (R412). -/
  arrival : Nat := 0
  /-- host LBA (R412). -/
  lba : Nat := 0
  /-- 1 to 4 (R405). -/
  op : Nat := 0
  /-- core assigned (R414, R415). -/
  core : Option Nat := none
  /-- parity unit of its stripe (R83, R414). -/
  tap : Option Nat := none
  /-- keys it names (R413). -/
  keys : List DerivedKey := []
  /-- read-room pull and block it serves in place of a command (R117, R412). -/
  pull : Option (Nat × Nat) := none
  deriving DecidableEq, Repr

/-- The cipher engine. -/
structure CipherSt where
  /-- K_own in use, 256 bits (R406). -/
  ownerRoot : Option Nat := none
  /-- K_own held by the gatehouse (R406). -/
  ownerRootNext : Option Nat := none
  /-- K_dev, 256 bits (R407). -/
  devKey : Option Nat := none
  /-- slot, mode, owner, key_gen, id (R410, R411). -/
  slots : List (Nat × Nat × Nat × Nat × Nat) := []
  /-- at most 8,192 keys, most recently used first (R413). -/
  store : List DerivedKey := []
  /-- derivations queued or running (R413). -/
  derivs : List DerivedKey := []
  /-- 64 keys per core, most recently used first (R415). -/
  caches : List (List DerivedKey) := List.replicate 16 []
  /-- 0 ready, 1 resetting, 2 closed (R422). -/
  coreState : List Nat := List.replicate 16 0
  /-- association indices of the GHASH failures of this second (R416). -/
  ghashFails : List Nat := []
  /-- requests (R412). -/
  reqs : List CipherReq := []
  /-- slot, generation to evict at the next leg boundary (R418). -/
  purge : List (Nat × Nat) := []
  deriving DecidableEq, Repr

/-- One feed (R424 to R427). -/
structure Feed where
  /-- mV (R438, R452). -/
  mv : Nat := 0
  /-- mA, signed (R427). -/
  ma : Int := 0
  /-- consecutive ticks under (R424). -/
  underT : Nat := 0
  /-- consecutive ticks over (R424). -/
  overT : Nat := 0
  /-- consecutive ticks of reverse current (R427). -/
  reverse : Nat := 0
  /-- ticks between the rising limit and 62,000 mV (R424). -/
  inRange : Nat := 0
  /-- 1 bit (R424). -/
  valid : Bool := false
  /-- turned off under R427 (R427, R452). -/
  blocked : Bool := false
  /-- FET pair on (R425). -/
  pairOn : Bool := false
  /-- ticks valid (R426). -/
  validTicks : Nat := 0
  /-- 0 absent, 1 valid, 2 under, 3 over, 4 blocked (R452). -/
  state : Nat := 0
  deriving DecidableEq, Repr

/-- The board switch or a bay switch (R429 to R434). -/
structure Switch where
  /-- FET on (R429). -/
  on : Bool := false
  /-- mV (R429). -/
  vout : Nat := 0
  /-- mA (R429). -/
  ma : Nat := 0
  /-- accumulator, pJ (R429). -/
  acc : Nat := 0
  /-- ticks below the limit (R429). -/
  below : Nat := 0
  /-- power-good given (R431). -/
  good : Bool := false
  /-- ticks since turn-on (R433). -/
  onTicks : Nat := 0
  /-- ticks with power-good and the fault timer not running (R434). -/
  goodTicks : Nat := 0
  /-- ticks of off time left (R433). -/
  offTicks : Nat := 0
  /-- consecutive trips, 0 to 7 (R433, R452). -/
  trips : Nat := 0
  /-- latched off (R433). -/
  latched : Bool := false
  /-- attempt time of the last trip, ns (R452). -/
  attempt : Nat := 0
  /-- mA in force since turn-on (R452). -/
  limit : Nat := 0
  /-- µJ in force since turn-on (R452). -/
  letThrough : Nat := 0
  /-- power-good threshold in mV in force since turn-on, bays (R452). -/
  pgMv : Nat := 0
  /-- power-good timeout in ns in force since turn-on (R452). -/
  pgTimeout : Nat := 0
  deriving DecidableEq, Repr

/-- Presence of a bay (R435, R436). -/
structure BayPin where
  /-- BAY_PRSNTn_N low (R435). -/
  low : Bool := false
  /-- ticks low (R435). -/
  lowTicks : Nat := 0
  /-- debounced (gh_bay_present) (R435, R452). -/
  present : Bool := false
  /-- ticks empty (R436). -/
  empty : Nat := 0
  /-- ticks empty that clear the count (R436). -/
  needEmpty : Nat := 0
  deriving DecidableEq, Repr

/-- The gatehouse (chapter The gatehouse). -/
structure GateSt where
  /-- shelf time, TAI ns, 64 bits (R449). -/
  now : Nat := 0
  /-- saved shelf time (R449). -/
  saved : Nat := 0
  /-- ticks since power-on reset (R423). -/
  ticks : Nat := 0
  /-- feeds A and B (R424). -/
  feeds : List Feed := [{}, {}]
  /-- 0 none, 1 A, 2 B (R425, R452). -/
  selected : Nat := 0
  /-- target feed, ticks since the break (R425). -/
  changeover : Option (Nat × Nat) := none
  /-- tick of the last changeover (R426). -/
  lastChange : Nat := 0
  /-- a changeover has happened (R426). -/
  changed : Bool := false
  /-- GH_VSEL mV (R452). -/
  vsel : Nat := 0
  /-- board switch (R429). -/
  board : Switch := {}
  /-- bay switches (R429). -/
  bays : List Switch := List.replicate 24 {}
  /-- presence (R435). -/
  pins : List BayPin := List.replicate 24 {}
  /-- tick of the last bay turn-on (R435). -/
  stagger : Option Nat := none
  /-- GH_IGATE on (R439, R441). -/
  igate : Bool := false
  /-- hold-up stage on (R439, R441). -/
  huDrv : Bool := false
  /-- GH_BLEED closed (R440, R441). -/
  bleed : Bool := false
  /-- charger running (R440). -/
  charging : Bool := false
  /-- tick at which the charge began (R440). -/
  chargeAt : Nat := 0
  /-- bank voltage, mV (R452). -/
  bankMv : Nat := 0
  /-- gh_bank_state (R452). -/
  bankState : Nat := 0
  /-- measurement running (true: by gh_bank_measure) (R442). -/
  measuring : Option Bool := none
  /-- postponed (R442). -/
  measurePend : Bool := false
  /-- time, C, ESR, at most 180 (R443, R531). -/
  capHistory : List (Nat × Nat × Nat) := []
  /-- gatehouse seconds of the last history entry (R443, R531). -/
  capAt : Nat := 0
  /-- gh_rail_state (R452). -/
  rails : List Nat := List.replicate 12 0
  /-- PG_RAILn (R446). -/
  railGood : List Bool := List.replicate 12 false
  /-- ticks PG low (R447). -/
  railLow : List Nat := List.replicate 12 0
  /-- rails still to be enabled: enable, delay and power-good timeout in ns as taken at the start; the first is the one under way (R446). -/
  sequencing : Option (List (Nat × Nat × Nat)) := none
  /-- gh_time_source (R449, R452). -/
  timeSource : Nat := 0
  /-- offset still to slew, ns (R450). -/
  slew : Int := 0
  /-- THERM_TRIP_N asserted (R558). -/
  thermTrip : Bool := false
  /-- m°C (R558, R561). -/
  temps : List Int := [0, 0, 0, 0]
  /-- ms above the trip temperature (R558). -/
  hotMs : List Nat := [0, 0, 0, 0]
  /-- samples of the last 10 ms, newest first, at most 100 (R438). -/
  samples : List (List Int) := []
  /-- energy of feeds A and B and bays 0 to 23, units of 100 pJ (R438, R452). -/
  energy : List Nat := List.replicate 26 0
  /-- mV (gh_bay_rail_voltage) (R452). -/
  bayRail : Nat := 0
  /-- energy of feeds A and B not yet in the tally, units of 100 pJ (R531). -/
  feedUnsaved : List Nat := [0, 0]
  /-- ticks since the last enable or power-good of the rail sequence (R446). -/
  railWait : Nat := 0
  /-- record 0x2204 written for this charge (R440). -/
  chargeLogged : Bool := false
  /-- what a bleed runs to: 0 none, 1 the residue and Vigil, 2 the new target voltage, 3 a measurement (R440, R441, R442). -/
  bleedGoal : Nat := 0
  /-- the bank is held at its target voltage (R440). -/
  floatBand : Bool := false
  /-- orderly turn-off: position in reverse order, ticks waited (R448). -/
  railsOff : Option (Nat × Nat) := none
  /-- supply at 6.0 V or more (R543). -/
  powered : Bool := true
  /-- gatehouse seconds not yet written (R531). -/
  seconds : Nat := 0
  /-- rail seconds not yet written (R531). -/
  railSeconds : Nat := 0
  deriving DecidableEq, Repr

/-- A cause that keeps Muster at its step (R457 to R464). -/
inductive MusterHold where
  | none | reference | selfTest | devKey | config | sisterId | store | policy | recovery | store3
  deriving DecidableEq, Repr

/-- Phase of a partial reset (R468). -/
inductive ResetPhase where
  | requested | closed | ready
  deriving DecidableEq, Repr

/-- A partial reset in progress (R468). -/
structure UnitReset where
  /-- unit id (R468). -/
  unit : Nat := 0
  /-- 3 values (R468). -/
  phase : ResetPhase := .requested
  /-- runs fw_unit_reset_result (R470). -/
  byObject : Bool := false
  /-- runs cy_core_reset_result (R422). -/
  byCore : Bool := false
  /-- 0 a write, 1 an automatic trigger (R468). -/
  trigger : Nat := 0
  /-- shelf time of the request (R468). -/
  start : Nat := 0
  /-- requests returned (R468). -/
  returned : Nat := 0
  deriving DecidableEq, Repr

/-- Modes, bring-up and partial resets. -/
structure ModeSt where
  /-- 6 values (fw_mode) (R31, R453, R470). -/
  mode : Mode := .vigil
  /-- mode before the first Drain cause (R454, R465). -/
  before : Mode := .service
  /-- Drain causes that hold (bits of fw_drain_causes) (R465, R470). -/
  causes : List Nat := []
  /-- 0 to 13 (fw_muster_step) (R457, R470). -/
  step : Nat := 0
  /-- why Muster waits (R457). -/
  hold : MusterHold := .none
  /-- held by fw_start_policy (R455). -/
  held : Bool := false
  /-- fw_start was written, or the controller was promoted (R455). -/
  released : Bool := false
  /-- shelf time the step began (R457). -/
  stepStart : Nat := 0
  /-- firmware slots 1 and 2 (R463). -/
  slots : List FwSlot := [{}, {}]
  /-- fw_active_slot (R470). -/
  active : Nat := 1
  /-- fw_next_slot (R470). -/
  next : Nat := 0
  /-- warm resets before step 13 (R463). -/
  failedBoots : Nat := 0
  /-- fw_boot_state (R470). -/
  boot : Nat := 0
  /-- shelf time the running firmware first ran in Service or Standby (R462). -/
  ranFrom : Option Nat := none
  /-- 2,592 bytes (R459). -/
  ownerKey : List Byte := []
  /-- partial resets in progress (R468). -/
  resets : List UnitReset := []
  /-- fw_shutdown in progress (R466). -/
  shutdown : Bool := false
  /-- slot, requester, cid of an activation (R323, R467). -/
  activation : Option (Nat × CmdSrc × Nat) := none
  /-- wing, bay absent, refused or not ready when step 7 ended, its LOSS not yet entered (R457, R570). -/
  absentAt7 : List (Nat × Nat) := []
  /-- new firmware reported (R467). -/
  activationReady : Bool := false
  /-- 1 bit: the stewards restart with the new firmware, their cells closed (R65, R467). -/
  restarting : Bool := false
  /-- stewards that failed self-test (R458). -/
  closedStewards : List Nat := []
  /-- units that failed self-test (R458). -/
  failedUnits : List Nat := []
  /-- configuration in force: 0 unknown, 1 single, 2 paired (R20). -/
  shelfConfig : Nat := 0
  deriving DecidableEq, Repr

/-- A staged DOMAIN write (R483). -/
structure Staging where
  /-- object (index × 256 + subindex) (R483). -/
  key : Nat := 0
  /-- staged so far (R483). -/
  bytes : List Byte := []
  /-- shelf time of its last fragment (R483). -/
  last : Nat := 0
  deriving DecidableEq, Repr

/-- A field-network or management-VLAN session (R490 to R494). -/
structure Session where
  /-- session id, 32 bits (R489). -/
  id : Nat := 0
  /-- 0 to 15 (R492). -/
  credential : Nat := 0
  /-- 0 to 3 (R492). -/
  cls : Nat := 0
  /-- path: the link of the management VLAN, none the field network (R485, R496). -/
  vlan : Option Nat := none
  /-- AUTH_OK sent (R493). -/
  opened : Bool := false
  /-- highest counter accepted (R490). -/
  rx : Nat := 0
  /-- last counter sent (R490). -/
  tx : Nat := 0
  /-- SHA3-512 of the HELLO and CHALLENGE bodies, 64 bytes (R493). -/
  hello : List Byte := []
  /-- nonce_c and nonce_d, 64 bytes (R493). -/
  nonces : List Byte := []
  /-- K_s of the session (R489, R493). -/
  ks : BitVec 256 := 0#256
  /-- caller public key (R492, R493). -/
  key : List Byte := []
  /-- shelf time of the last accepted message (R494). -/
  last : Nat := 0
  /-- class asked in HELLO (R492). -/
  asked : Nat := 0
  /-- object, read cursor (R482). -/
  cursors : List (Nat × Nat) := []
  /-- staged write (R483). -/
  staging : Option Staging := none
  deriving DecidableEq, Repr

/-- The object dictionary and its paths. -/
structure DictSt where
  /-- numeric objects written, in force from the next leg boundary: key, value (R386). -/
  objNext : List (Nat × Nat) := []
  /-- DOMAIN objects written, in force from the next leg boundary (R356, R386). -/
  blobNext : List (Nat × List Byte) := []
  /-- fw_dictionary_scope (R485, R498). -/
  scope : Bool := false
  /-- at most 8 (R494). -/
  sessions : List Session := []
  /-- object, read cursor (R482, R497). -/
  bar2Cursors : List (Nat × Nat) := []
  /-- staged write (R483, R497). -/
  bar2Staging : Option Staging := none
  /-- request body, 4,096 bytes (R497). -/
  bar2Request : List Byte := []
  /-- reply body (R497). -/
  bar2Reply : List Byte := []
  /-- datagrams being reassembled: source, bytes (R488). -/
  reassembly : List (Nat × Nat) := []
  deriving DecidableEq, Repr

/-- An endpoint queue (R504, R505). -/
structure EpQueue where
  /-- queue id (R505). -/
  id : Nat := 0
  /-- entries (R504). -/
  depth : Nat := 0
  /-- head (R505). -/
  head : Nat := 0
  /-- tail (R505). -/
  tail : Nat := 0
  /-- completion queue of a submission queue (R505). -/
  cq : Nat := 0
  /-- IV (R510). -/
  vector : Nat := 0
  /-- interrupts enabled (R509). -/
  ints : Bool := false
  /-- host address (R505). -/
  base : Nat := 0
  /-- completion entries the host has not freed (R516). -/
  posted : Nat := 0
  deriving DecidableEq, Repr

/-- An outstanding read (R513). -/
structure EpTag where
  /-- 0 to 127 (R513). -/
  tag : Nat := 0
  /-- command it serves, 0 for queue entries (R513). -/
  arrival : Nat := 0
  /-- block (R513). -/
  lba : Nat := 0
  /-- 0 data, 1 submission entry, 2 PRP list, 3 its completion is discarded (R513). -/
  use : Nat := 0
  /-- submission queue of an entry fetch (R505). -/
  sq : Nat := 0
  /-- host address (R513). -/
  address : Nat := 0
  /-- offset of its bytes in the block (R513). -/
  place : Nat := 0
  /-- bytes asked for (R513). -/
  len : Nat := 0
  deriving DecidableEq, Repr

/-- The service endpoint. -/
structure EndpointSt where
  /-- ep_link_state (R520). -/
  link : Nat := 0
  /-- ep_link_rate (R520). -/
  rate : Nat := 0
  /-- ep_link_width (R520). -/
  width : Nat := 0
  /-- D3hot (R503). -/
  d3 : Bool := false
  /-- Bus Master Enable (R515). -/
  busMaster : Bool := false
  /-- Memory Space Enable (R503). -/
  memSpace : Bool := false
  /-- Interrupt Disable (R509). -/
  intxDisable : Bool := false
  /-- MSI-X Enable (R509). -/
  msix : Bool := false
  /-- Function Mask (R509). -/
  fnMask : Bool := false
  /-- vector Mask bits (R509). -/
  vecMask : List Bool := List.replicate 64 true
  /-- Pending Bit Array (R509). -/
  pba : List Bool := List.replicate 64 false
  /-- INTMS/INTMC mask (R509). -/
  intms : Nat := 0
  /-- INTA asserted (R509). -/
  inta : Bool := false
  /-- CC, 32 bits (R504). -/
  cc : Nat := 0
  /-- AQA, 32 bits, as last used (R504). -/
  aqa : Nat := 0
  /-- ASQ, 64 bits, as last used (R504). -/
  asq : Nat := 0
  /-- ACQ, 64 bits, as last used (R504). -/
  acq : Nat := 0
  /-- CSTS.RDY (R504). -/
  ready : Bool := false
  /-- CSTS.SHST (R504). -/
  shst : Nat := 0
  /-- submission queues (R504). -/
  sqs : List EpQueue := []
  /-- completion queues (R504). -/
  cqs : List EpQueue := []
  /-- outstanding reads (R513). -/
  tags : List EpTag := []
  /-- reads waiting for a tag (R513). -/
  tagWait : List EpTag := []
  /-- completion queue, entry held (R515, R516). -/
  heldCq : List (Nat × Reply) := []
  /-- completions waiting for D0 (R503). -/
  d3Cq : List (Nat × Reply) := []
  /-- interrupts waiting for D0 (R503). -/
  d3Int : List Nat := []
  /-- partial reset in progress (R517). -/
  resetting : Bool := false
  /-- tags timed out during the reset (R517). -/
  resetTimeouts : Nat := 0
  /-- shelf time the reset was requested (R517). -/
  resetAt : Nat := 0
  /-- uncorrectable error status (R512). -/
  aerStatus : Nat := 0
  /-- uncorrectable error mask (R512). -/
  aerMask : Nat := 4194304
  /-- uncorrectable error severity (1 fatal) (R511). -/
  aerSeverity : Nat := 4595760
  /-- correctable error status (R512). -/
  corStatus : Nat := 0
  /-- correctable error mask (R512). -/
  corMask : Nat := 24576
  /-- 128 bits (R512). -/
  headerLog : Nat := 0
  /-- First Error Pointer (R512). -/
  firstError : Nat := 0
  /-- Device Control: bit 0 COR, 1 NONFATAL, 2 FATAL (R512). -/
  errEnables : Nat := 0
  /-- class, errors this second, bit of the first (R512). -/
  errRecs : List (Nat × Nat × Nat) := []
  /-- ep_subsystem_id in force (R500, R520). -/
  subsystem : Nat := 0
  /-- ep_sris in force (R499, R520). -/
  sris : Bool := false
  /-- the reset follows a loss of the link (R517, R519). -/
  linkLost : Bool := false
  /-- Max Read Request Size, bytes (R502, R513). -/
  mrrs : Nat := 512
  deriving DecidableEq, Repr

/-- A guestbook record (R521). -/
structure GbRecord where
  /-- G (R521). -/
  gate : Bool := false
  /-- S and its count (R521, R527). -/
  suppressed : Option Nat := none
  /-- 0 to 7 (R521). -/
  severity : Nat := 0
  /-- 16 bits (R521). -/
  code : Nat := 0
  /-- storage sequence (R521, R523). -/
  seq : Nat := 0
  /-- shelf time (R521). -/
  time : Nat := 0
  /-- 16 to 1,024 (R521). -/
  length : Nat := 16
  /-- payload bytes (R522). -/
  payload : List Byte := []
  deriving DecidableEq, Repr

/-- Token bucket of a code (R527). -/
structure Bucket where
  /-- 16 bits (R527). -/
  code : Nat := 0
  /-- tokens × 10^9 (R527). -/
  tokens : Nat := 0
  /-- shelf time of the last refill (R527). -/
  time : Nat := 0
  /-- records suppressed since the last stored (R527). -/
  pending : Nat := 0
  deriving DecidableEq, Repr

/-- A record store: the main guestbook or the gatehouse section (R523, R525). -/
structure Guestbook where
  /-- stored records, ascending storage (R523). -/
  records : List GbRecord := []
  /-- 32 bits (R523). -/
  seqNext : Nat := 1
  /-- buckets that are not full or hold a count (R527). -/
  buckets : List Bucket := []
  deriving DecidableEq, Repr

/-- A precise sample (R539). -/
structure Sample where
  /-- tt_leg_count (R539). -/
  leg : Nat := 0
  /-- 0 to 63 (R539). -/
  slot : Nat := 0
  /-- 0 to 63 (R539). -/
  lane : Nat := 0
  /-- slot-cell word (R539). -/
  cell : BitVec 64 := 0#64
  /-- arrival sequence (R539). -/
  arrival : Nat := 0
  /-- namespace (R539). -/
  nsid : Nat := 0
  /-- room key (R539). -/
  room : Nat := 0
  /-- LBA or offset (R539). -/
  address : Nat := 0
  /-- ns (R539). -/
  age : Nat := 0
  /-- ns (R539). -/
  wait : Nat := 0
  deriving DecidableEq, Repr

/-- Counter block of a unit (R533). -/
structure UnitCtr where
  /-- block number (R533). -/
  block : Nat := 0
  /-- 48 bits each (R533). -/
  counters : List Nat := List.replicate 8 0
  /-- 8 bits (R534). -/
  overflow : Nat := 0
  /-- 32 bits each (R533). -/
  config : List Nat := List.replicate 8 0
  /-- counter, word in force at the next leg boundary (R534). -/
  configNext : List (Nat × Nat) := []
  /-- counter, count, nsid, lba held under R535 (R535). -/
  pending : List (Nat × Nat × Nat × Nat) := []
  deriving DecidableEq, Repr

/-- A counter snapshot (R538). -/
structure Snapshot where
  /-- 32 bits (R538). -/
  seq : Nat := 0
  /-- tt_leg_count (R538). -/
  leg : Nat := 0
  /-- shelf time (R538). -/
  time : Nat := 0
  /-- counter blocks that differ from reset (R538). -/
  units : List UnitCtr := []
  /-- VOQ: v, depth, age (R538). -/
  voqs : List (Nat × Nat × Nat) := []
  deriving DecidableEq, Repr

/-- Guestbook, tally and counters. -/
structure BookSt where
  /-- 4 MiB (R523). -/
  main : Guestbook := {}
  /-- 64 KiB (R525). -/
  gate : Guestbook := {}
  /-- gb_gate_merged (R525, R540). -/
  merged : Nat := 0
  /-- new section records are copied (R525). -/
  copying : Bool := false
  /-- counter blocks that differ from reset (R533). -/
  units : List UnitCtr := []
  /-- slot, filter in force (R537). -/
  filters : List (Nat × List Byte) := []
  /-- slot, filter in force at the next leg boundary (R537). -/
  filterNext : List (Nat × List Byte) := []
  /-- at most 4,096 (R539). -/
  samples : List Sample := []
  /-- samples of cells that consumed a provisional entry: sample, NSID, LBA (R535, R539). -/
  samplePend : List (Sample × Nat × Nat) := []
  /-- matching cells since the last sample (R539). -/
  sampleCount : Nat := 0
  /-- snapshots of the ring in force since Muster (R540). -/
  dumpSlots : Nat := 1024
  /-- snapshots written (R538). -/
  dumpSeq : Nat := 0
  /-- legs since the last snapshot (R538). -/
  dumpLegs : Nat := 0
  /-- DUMP cells of the snapshot still to move (R538). -/
  dumping : Nat := 0
  /-- counters sampled for the snapshot in progress (R538). -/
  dumpHold : List UnitCtr := []
  /-- leg count sampled (R538). -/
  dumpLeg : Nat := 0
  /-- shelf time sampled (R538). -/
  dumpTime : Nat := 0
  /-- VOQ samples sampled (R538). -/
  dumpVoq : List (Nat × Nat × Nat) := []
  /-- snapshots held, oldest first (R538). -/
  dumps : List Snapshot := []
  deriving DecidableEq, Repr

/-- What leaves the package. -/
inductive Out where
  /-- The outcome of a bed operation returns to its issuer, with the handle (R391, R400). -/
  | bedReturn (unit handle outcome : Nat)
  /-- A response capsule or completion: status, dw0, data, host key invalidated (R109, R322). -/
  | capsule (src : CmdSrc) (sqid cid : Nat) (status : Status) (dw0 : Nat) (data : List Byte) (inval : Option Nat)
  /-- An RDMA READ request for write data (R72), with its waypoint header on a spread connection (R293). -/
  | rdmaRead (qpn address key bytes : Nat) (waypoint : List Byte)
  /-- An RDMA WRITE packet of read data (R109), with its waypoint header on a spread connection (R293). -/
  | rdmaWrite (qpn address key : Nat) (waypoint : List Byte) (esp : Nat × Nat) (data : Block)
  /-- A block of an RDMA READ response from a read room (R117), with its waypoint header on a spread connection (R293). -/
  | roomData (qpn offset : Nat) (waypoint : List Byte) (esp : Nat × Nat) (data : Block)
  /-- A NAK and its code: 0 PSN Sequence Error, 1 Invalid Request, 2 Remote Access Error (R264, R284, R299). -/
  | nak (qpn code : Nat)
  /-- An acknowledgement: PSN, or message number on a spread connection (R296, R299). -/
  | ack (qpn psn : Nat)
  /-- A SACK: message and the bits it shows received (R296). -/
  | sack (qpn msg : Nat) (got : List Nat)
  /-- A CNP (R301). -/
  | cnp (qpn : Nat)
  /-- Packets sent again from a PSN, or those of a message named by offset (R296, R299). -/
  | resend (qpn from_ : Nat) (offsets : List Nat)
  /-- A connection reply or reject: queue-pair number, responder resources, initiator depth, private data (R266, R267). -/
  | cmReply (accepted : Bool) (qpn resources depth : Nat) (priv : List Byte)
  /-- A drive command's doorbell (R340). -/
  | doorbell (bay queue cid : Nat) (op : DriveOp) (lba blocks : Nat) (arg : DriveArg)
  /-- A sector of a member write leaves for its drive: its LBA, data and trailer (R32, R98). -/
  | sector (bay queue cid lba : Nat) (data : Block) (trl : BitVec 128)
  /-- A frame on the sister link (R236, R237). -/
  | sisterFrame (frame : List Byte)
  /-- A SISTER_SB frame (R242). -/
  | sideband (frame : List Byte)
  /-- A page written to the vault: image, page from the start of the image, content (R208, R209). -/
  | vaultPage (image page : Nat) (data : Block)
  /-- A datagram of the field network or the management VLAN: header fields, body, tag where it has one (R489). -/
  | field (vlan : Option Nat) (session type counter request : Nat) (body : List Byte) (tag : Option (BitVec 256))
  /-- A frame leaves a link: class, bytes, ended bad (R370, R380). -/
  | txFrame (link tc bytes : Nat) (bad : Bool)
  /-- A pause or PFC frame: link, enabled classes, time in quanta (R366). -/
  | pfc (link mask time : Nat)
  /-- A completion entry written to an endpoint completion queue (R505). -/
  | cqEntry (cq sqid cid : Nat) (status : Status) (dw0 : Nat)
  /-- A block written to host memory through the endpoint: address and length of each page part (R506). -/
  | epWrite (spans : List (Nat × Nat)) (data : Block)
  /-- A memory read request of the endpoint: tag, use, address (R513). -/
  | epRead (tag use address : Nat)
  /-- An MSI-X message (R509). -/
  | msix (vector : Nat)
  /-- INTA asserted or deasserted (R509). -/
  | inta (asserted : Bool)
  /-- A PCIe error message: 0 correctable, 1 non-fatal, 2 fatal (R512). -/
  | errMessage (kind : Nat)
  /-- A statistics object is read: its value (R385). -/
  | value (ix sub : Nat) (v : List Byte)
  /-- A neighbour advertisement of an address (R488). -/
  | neighbour (address : Nat)
  /-- A wait or transfer entry of a steward work queue ends (R290). -/
  | workDone (queue outcome : Nat)
  deriving DecidableEq, Repr

/-- The KA2460: every piece of state the spec gives the package, and the commands that wait. -/
structure State where
  /-- objects of the dictionary that differ from their defaults: key (index × 256 + subindex), value, keys rising (R471, R475). -/
  objs : List (Nat × Nat) := []
  /-- STR and DOMAIN objects written: key, bytes (R472, R482). -/
  blobs : List (Nat × List Byte) := []
  /-- RESULT objects that differ from reset: key, content (R472, R478). -/
  results : List (Nat × Rslt) := []
  /-- clocks (R28). -/
  clk : ClockSt := {}
  /-- timetable sequencer (R57). -/
  tt : TtSt := {}
  /-- admission (R44). -/
  adm : AdmSt := {}
  /-- command engine, host side (R68). -/
  ce : CeSt := {}
  /-- drives (R340). -/
  drives : DriveSt := {}
  /-- placement of wings 1 and 2 (R149). -/
  places : List Placement := [{}, {}]
  /-- parity engine (R156). -/
  pe : ParitySt := {}
  /-- rebuild and night watch (R164). -/
  rb : RebuildSt := {}
  /-- ledger (R192). -/
  lg : LedgerSt := {}
  /-- sisters and the lantern (R229). -/
  si : SisterSt := {}
  /-- transport engine (R263). -/
  tr : TransportSt := {}
  /-- ports and switch core (R347). -/
  pc : PortSt := {}
  /-- porter (R387). -/
  po : PorterSt := {}
  /-- cipher engine (R405). -/
  cy : CipherSt := {}
  /-- gatehouse (R423). -/
  gh : GateSt := {}
  /-- modes and bring-up (R453). -/
  md : ModeSt := {}
  /-- object dictionary and its paths (R471). -/
  dict : DictSt := {}
  /-- service endpoint (R499). -/
  ep : EndpointSt := {}
  /-- guestbook, tally, counters (R521). -/
  book : BookSt := {}
  /-- what has left the package, newest first (the model's own) (R68). -/
  out : List Out := []
  /-- free values drawn so far (the model's own) (R335). -/
  fresh : Nat := 0
  /-- commands waiting, first in, first out (the model's own, asked for) (R68). -/
  pending : List Instr := []
  deriving DecidableEq, Repr

/-- Reasons to stop with a fault.  The block has none: the spec answers what it calls a fault with an effect on its
state (a status, a record, a mode), so no meaning raises this one.  Safe: nothing reaches it. -/
inductive Fault where
  /-- Raised by nobody; the type must have a name for a stop. Safe. -/
  | none
  deriving DecidableEq, Repr

/-- Reasons to refuse a command. -/
inductive Refusal where
  /-- A command whose meaning is not written yet, by its mnemonic: raised by the arms of exec alone. Safe. -/
  | notModelled (mnemonic : String)
  deriving DecidableEq, Repr

/-- The machine right after reset: the gatehouse has left its power-on reset with no feed valid and the rails off
(R18, R454: Vigil); every field at the value INVENTORY.md names for it (log entries 1 and 2). -/
def State.reset : State := { gh := { now := Config.manufactureTime, saved := Config.manufactureTime } }

end Sys2Proof.Machine
end

