-- ==== Sys2Proof/Machine/Formats.lean ====
section
/-! DEFINITION. The stored and sent byte formats of the ledger and the sisters: record headers (R189), journal records (R198, R199,
R571), vault images (R208 to R211), shelf descriptors (R197, R338), leg packets (R237 to R239) and SISTER_SB frames (R242). -/

namespace Sys2Proof

open Machine

/-! ### Ledger records (R189) -/

/-- The flags byte of a record header. -/
def LedgerRec.flags (r : LedgerRec) : Nat :=
  b2n r.fua + 2 * b2n r.zero + 4 * b2n r.superseded + 8 * b2n r.eligible + 16 * b2n r.applyBegun

/-- The pos field: the place of the first block where a waybill has blocks, the blocks zeroed of a ZERO waybill, else 0. -/
def LedgerRec.posField (r : LedgerRec) (place : Nat) : Nat := if r.kind = 1 then (if r.zero then r.zeroed else place) else 0

/-- The 64-byte header of a record, little-endian, closed by a CRC-32C over its first 60 bytes (R189). -/
def LedgerRec.head (r : LedgerRec) (place : Nat) : List Byte :=
  let h := leBytes 8 r.sealNo ++ leBytes 1 r.kind ++ leBytes 1 r.wing ++ leBytes 1 r.flags ++ leBytes 1 r.blocks.length ++
    leBytes 2 r.nsid ++ leBytes 2 r.layout.toNat ++ leBytes 8 r.first ++ leBytes 8 r.stripe ++ leBytes 8 r.arrival ++
    leBytes 2 r.assoc ++ leBytes 2 r.sqid ++ leBytes 2 r.cid ++ leBytes 2 r.keyGen ++ leBytes 8 r.target ++
    leBytes 4 (r.posField place)
  h ++ leBytes 4 (crc32c h)

/-- A record header as read: the record without its blocks, how many it has, and where the first one lies; none where its CRC fails
(R189). -/
def recOfHead (l : List Byte) : Option (LedgerRec × Nat × Nat) :=
  if l.length = 64 ∧ field l 60 4 = crc32c (l.take 60) then
    let f := field l 10 1
    let zero := field l 8 1 == 1 && bit f 1
    some ({ sealNo := field l 0 8, kind := field l 8 1, wing := field l 9 1, fua := bit f 0, zero := bit f 1, superseded := bit f 2,
            eligible := bit f 3, applyBegun := bit f 4, nsid := field l 12 2, layout := BitVec.ofNat 16 (field l 14 2),
            first := field l 16 8, stripe := field l 24 8, arrival := field l 32 8, assoc := field l 40 2, sqid := field l 42 2,
            cid := field l 44 2, keyGen := field l 46 2, target := field l 48 8, zeroed := if zero then field l 56 4 else 0 },
          field l 11 1, field l 56 4)
  else none

end Sys2Proof

namespace Sys2Proof.Machine

/-- The headers of records whose blocks follow one another from a place on. -/
def headsFrom : Nat → List LedgerRec → List (List Byte)
  | _, [] => []
  | p, r :: l => r.head p :: headsFrom (p + r.blocks.length) l

/-- The blocks of records, in their order. -/
def blocksOf (l : List LedgerRec) : List Block := l.flatMap (·.blocks)

/-- Blocks of records. -/
def itemBlocks (l : List LedgerRec) : Nat := sumN (l.map fun i => i.blocks.length)

/-- SHA3-512 of bytes, as bytes. -/
def sha3Bytes (m : List Byte) : List Byte := leBytes 64 (Config.sha3 m).toNat

/-- Bytes padded with zeros, or cut, to `n`. -/
def padTo (n : Nat) (l : List Byte) : List Byte := l.take n ++ List.replicate (n - l.length) 0#8

/-- Records of headers whose blocks lie in a list that starts at a place: none where a header fails its CRC. -/
def recsOf (base : Nat) (blocks : List Block) (heads : List (List Byte)) : Option (List LedgerRec) :=
  heads.mapM fun h => (recOfHead h).map fun x => { x.1 with blocks := (blocks.drop (x.2.2 - base)).take x.2.1 }

/-! ### Journal records (R198, R199, R571) -/

/-- The 16 bytes of metadata of a journal sector, big-endian: jseq, index, CRC-32C (R199). -/
def journalMeta (jseq index : Nat) (b : Block) : BitVec 128 :=
  BitVec.ofNat 128 (jseq * 2 ^ 64 + index * 2 ^ 48 + crc32c (blockBytes b))

/-- The jseq and index of a journal sector whose CRC passes; one that was never written or fails counts as lower than all (R571). -/
def sectorMark (x : Sector) : Option (Nat × Nat) :=
  if bits x.trl.toNat 31 0 = crc32c (blockBytes x.data) then some (bits x.trl.toNat 127 64, bits x.trl.toNat 63 48) else none

/-- Bytes 0 to 63 of a journal record's header sector (R198). -/
def JCopy.lead (c : JCopy) : List Byte :=
  [0x4B#8, 0x4C#8, 0x4A#8, 0x52#8] ++ leBytes 2 1 ++ leBytes 1 c.wing ++ leBytes 1 c.copy ++ leBytes 8 c.jseq ++ leBytes 8 c.tail ++
    leBytes 8 c.range ++ leBytes 8 c.claim ++ leBytes 2 c.items.length ++ leBytes 2 (itemBlocks c.items) ++ List.replicate 20 0#8

/-- The directory of a journal record: pos counts payload sectors from 1 (R198). -/
def JCopy.directory (c : JCopy) : List Byte := padTo 3968 (headsFrom 1 c.items).flatten

/-- The sectors of a journal record, each with its metadata, at its place in the zone (R198, R199). -/
def JCopy.write (c : JCopy) : List Sector :=
  let payload := blocksOf c.items
  let digest := sha3Bytes (c.lead ++ c.directory ++ payload.flatMap blockBytes)
  let all := blockOf (c.lead ++ digest ++ c.directory) :: payload
  (all.zip (List.range all.length)).map fun x => { lba := c.lba + x.2, data := x.1, trl := journalMeta c.jseq x.2 x.1 }

/-- The record whose header sector is `x`, among the sectors of a zone: none where magic, format, digest or a sector's CRC fails
(R198, R199, R213). -/
def recordAt (bay : Nat) (l : List Sector) (x : Sector) : Option JCopy :=
  let b := blockBytes x.data
  let jseq := field b 8 8
  let n := field b 42 2
  let body := (List.range n).filterMap fun i => l.find? fun y => y.lba == x.lba + 1 + i && sectorMark y == some (jseq, i + 1)
  let heads := (List.range (field b 40 2)).map fun i => slice b (128 + 64 * i) 64
  if sectorMark x = some (jseq, 0) ∧ b.take 6 = [0x4B#8, 0x4C#8, 0x4A#8, 0x52#8, 1#8, 0#8] ∧ body.length = n ∧
      slice b 64 64 = sha3Bytes (b.take 64 ++ b.drop 128 ++ body.flatMap fun y => blockBytes y.data) then
    (recsOf 1 (body.map (·.data)) heads).map fun items =>
      { bay := bay, wing := field b 6 1, jseq := jseq, lba := x.lba, copy := field b 7 1, tail := field b 16 8,
        range := field b 24 8, claim := field b 32 8, sectors := n, items := items }
  else none

/-- The records of a zone from its tail to its head, in jseq order: the head is the latest record whose digest checks, and its tail
field names the first one; records outside that span, and those that fail, are disregarded (R571). -/
def zoneCopies (bay : Nat) (l : List Sector) : List JCopy :=
  let good := sortBy (·.jseq) (l.filterMap (recordAt bay l))
  match good.getLast? with
  | some h => good.filter fun c => decide (h.tail ≤ c.jseq)
  | none => []

/-! ### Vault images (R208 to R211) -/

/-- Segments that hold `n` pages of content (R208). -/
def segments (n : Nat) : Nat := ceilDiv n 1023

/-- Index and data segments of a flush (R208). -/
def flushSegments (l : List LedgerRec) : Nat × Nat := (segments (ceilDiv l.length 64), segments (itemBlocks l))

/-- Pages of an image: header, segments, end page (R208). -/
def flushPages (l : List LedgerRec) : Nat := 2 + 1024 * ((flushSegments l).1 + (flushSegments l).2)

/-- The vault page of block `b` of the data segments, behind `index` index segments (R208). -/
def dataPage (index b : Nat) : Nat := 1 + 1024 * (index + b / 1023) + b % 1023

/-- The headers of an image's index: pos is the vault page of the first block (R208). -/
def vaultHeads (index : Nat) : Nat → List LedgerRec → List (List Byte)
  | _, [] => []
  | b, r :: l => r.head (dataPage index b) :: vaultHeads index (b + r.blocks.length) l

/-- The header page of an image (R208). -/
def VaultImage.headerPage (v : VaultImage) : Block :=
  let s := flushSegments v.records
  let h := [0x4B#8, 0x4C#8, 0x56#8, 0x49#8] ++ leBytes 2 1 ++ leBytes 1 v.image ++ leBytes 1 v.profile ++ leBytes 8 v.seq ++
    leBytes 8 v.time ++ leBytes 1 v.sister ++ leBytes 1 v.wings ++ leBytes 2 0 ++ leBytes 4 s.1 ++ leBytes 4 s.2 ++
    leBytes 4 v.records.length ++ leBytes 8 (v.claims.getD 0 0) ++ leBytes 8 (v.claims.getD 1 0) ++ leBytes 8 (v.sealHi.getD 0 0) ++
    leBytes 8 (v.sealHi.getD 1 0) ++ leBytes 8 v.arrivalHi ++ leBytes 8 v.inForce ++ leBytes 8 v.occupied ++ List.replicate 32 0#8
  blockOf (h ++ sha3Bytes h)

/-- Content page `p` of segment `g`: 64 record headers of the index, or one block of the data (R208). -/
def VaultImage.content (v : VaultImage) (g p : Nat) : Block :=
  let index := (flushSegments v.records).1
  if g < index then
    blockOf (((vaultHeads index 0 v.records).drop (64 * (1023 * g + p))).take 64).flatten
  else (blocksOf v.records).getD (1023 * (g - index) + p) 0#32768

/-- The seals of an image's blocks, in their order. -/
def blockSeals (l : List LedgerRec) : List Nat := l.flatMap fun r => List.replicate r.blocks.length r.sealNo

/-- First and last seal of a segment: of the records of an index segment, of the blocks of a data segment (R208). -/
def VaultImage.segmentSeals (v : VaultImage) (g : Nat) : Nat × Nat :=
  let index := (flushSegments v.records).1
  let l := if g < index then ((v.records.map (·.sealNo)).drop (64 * 1023 * g)).take (64 * 1023)
    else ((blockSeals v.records).drop (1023 * (g - index))).take 1023
  (l.headD 0, l.getLastD 0)

/-- The digest of 1,023 content pages (R208). -/
def segmentDigest (pages : List Block) : List Byte := sha3Bytes (pages.flatMap blockBytes)

/-- The trailer page of a segment (R208). -/
def VaultImage.trailerPage (v : VaultImage) (g : Nat) : Block :=
  let s := v.segmentSeals g
  blockOf (leBytes 8 v.seq ++ leBytes 4 g ++ leBytes 1 (if g < (flushSegments v.records).1 then 1 else 2) ++ leBytes 3 0 ++
    leBytes 8 s.1 ++ leBytes 8 s.2 ++ segmentDigest ((List.range 1023).map (v.content g)))

/-- The end page: flush_seq, the segment count and the digest of all segment digests in order (R208; the widths of its fields are the
model's choice, log entry 116). -/
def VaultImage.endPage (v : VaultImage) : Block :=
  let s := flushSegments v.records
  blockOf (leBytes 8 v.seq ++ leBytes 8 (s.1 + s.2) ++
    sha3Bytes ((List.range (s.1 + s.2)).flatMap fun g => segmentDigest ((List.range 1023).map (v.content g))))

/-- Page `p` of an image as the flush writes it (R208). -/
def VaultImage.page (v : VaultImage) (p : Nat) : Block :=
  if p = 0 then v.headerPage
  else if p + 1 = flushPages v.records then v.endPage
  else if (p - 1) % 1024 = 1023 then v.trailerPage ((p - 1) / 1024)
  else v.content ((p - 1) / 1024) ((p - 1) % 1024)

/-- The consumed page of a replayed image: flush_seq, shelf time and the controller's claim numbers (R209; its place after the end page
and the widths of its fields are the model's choice, log entry 116). -/
def VaultImage.consumedPage (v : VaultImage) (time : Nat) (claims : List Nat) : Block :=
  blockOf (leBytes 8 v.seq ++ leBytes 8 time ++ leBytes 8 (claims.getD 0 0) ++ leBytes 8 (claims.getD 1 0))

/-- Page `p` of an image as it reads. -/
def VaultImage.reads (v : VaultImage) (p : Nat) : Block := lookup v.flaws p (v.page p)

/-- The header page is written and its digest checks (R208, R211). -/
def VaultImage.headerGood (v : VaultImage) : Bool :=
  let b := (blockBytes (v.reads 0)).take 192
  decide (0 < v.pages) && (!(v.flaws.any fun x => x.1 == 0) || (b.drop 128 == sha3Bytes (b.take 128)))

/-- Segment `g` is written whole and its content passes the digest of its trailer page, as they read (R211). -/
def VaultImage.segmentGood (v : VaultImage) (g : Nat) : Bool :=
  let first := 1 + 1024 * g
  decide (first + 1024 ≤ v.pages) &&
    (!(v.flaws.any fun x => decide (first ≤ x.1) && decide (x.1 < first + 1024)) ||
     slice (blockBytes (v.reads (first + 1023))) 32 64 == segmentDigest ((List.range 1023).map fun p => v.reads (first + p)))

/-- Every index segment passes. -/
def VaultImage.indexGood (v : VaultImage) : Bool := (List.range (flushSegments v.records).1).all v.segmentGood

/-- Seals of the waybills with a block in a failed or missing segment (R211): blocks lie in seal order behind the index. -/
def unflushed (v : VaultImage) : Nat → List LedgerRec → List Nat
  | _, [] => []
  | b, r :: l =>
    let index := (flushSegments v.records).1
    let good := (List.range r.blocks.length).all fun i => v.segmentGood (index + (b + i) / 1023)
    (if good then [] else [r.sealNo]) ++ unflushed v (b + r.blocks.length) l

/-- Segments of an image that fail or are missing (R211). -/
def VaultImage.badSegments (v : VaultImage) : Nat :=
  let s := flushSegments v.records
  ((List.range (s.1 + s.2)).filter fun g => !v.segmentGood g).length

/-! ### Shelf descriptors (R149, R152, R178, R197, R338, R407) -/

/-- An entry of the namespace table (R338). -/
def nsEntry (n : Namespace) : List Byte :=
  let reg (r : Registrant) : List Byte := leBytes 16 r.hostid ++ leBytes 8 r.rkey ++ leBytes 1 (b2n r.holder) ++ leBytes 7 0
  padTo 4096 (leBytes 2 n.nsid ++ leBytes 2 n.layout.toNat ++ leBytes 1 n.wing ++ leBytes 1 n.rtype ++ leBytes 2 n.creationGen ++
    leBytes 8 n.base ++ leBytes 4 n.rows ++ leBytes 2 n.partyMask ++ leBytes 1 n.registrants.length ++ leBytes 1 0 ++
    leBytes 4 n.keyGen ++ leBytes 4 n.resGen ++ leBytes 16 n.nguid ++ leBytes 8 n.created ++ List.replicate 72 0#8 ++
    n.registrants.flatMap reg)

/-- The namespace table: 1,024 entries, that of a namespace at the place of its NSID, an unused one with NSID 0 (R338). -/
def nsTable (l : List Namespace) : List Byte :=
  (List.range 1024).flatMap fun i => match l.find? fun n => n.nsid == i + 1 with
    | some n => nsEntry n
    | none => List.replicate 4096 0#8

/-- An entry of the placement log (R149). -/
def logEntryBytes (e : LogEntry) : List Byte :=
  leBytes 2 e.gen ++ leBytes 1 (if e.loss then 1 else 2) ++ leBytes 1 e.bay ++ leBytes 1 (if e.done then 2 else 1) ++ leBytes 3 0 ++
    leBytes 8 e.start

/-- A section of a descriptor behind its 16-byte header: type, length of its content, reserved (R197). -/
def section_ (type : Nat) (l : List Byte) : List Byte := leBytes 4 type ++ leBytes 4 l.length ++ leBytes 8 0 ++ l

/-- The wrapped device key section (R407). -/
def devKeyBytes (state wrapped : Nat) : List Byte := leBytes 1 state ++ leBytes 7 0 ++ leBytes 40 wrapped

end Sys2Proof.Machine

namespace Sys2Proof

open Machine

/-- A lost-block page (R178). -/
def LostPage.bytes (p : LostPage) : List Byte :=
  leBytes 4 p.entries.length ++ leBytes 4 p.changes ++ leBytes 1 (b2n p.widened) ++ List.replicate 7 0#8 ++
  p.entries.flatMap fun e => leBytes 8 e.first ++ leBytes 4 e.blocks ++ leBytes 1 e.cause ++ leBytes 3 0 ++ leBytes 8 e.time ++
    leBytes 8 e.stripe

/-- The lost-block pages of a descriptor, one for each namespace of its table by rising NSID (R197; log entry 117). -/
def Descriptor.pages (d : Descriptor) : List LostPage :=
  (sortBy (·.nsid) d.namespaces).map fun n => (d.lostPages.find? fun p => p.nsid == n.nsid).getD { nsid := n.nsid }

/-- The sections of a descriptor, in the order of R197, types 1 to 5 (log entry 117). -/
def Descriptor.sections (d : Descriptor) : List Byte :=
  section_ 1 (nsTable d.namespaces) ++ section_ 2 (d.placement.log.flatMap logEntryBytes) ++
    section_ 3 (d.placement.home.flatMap (leBytes 2)) ++ section_ 4 (d.pages.flatMap LostPage.bytes) ++
    section_ 5 (devKeyBytes d.wrapState d.wrapped)

/-- Bytes of a descriptor, header included (R197). -/
def Descriptor.length (d : Descriptor) : Nat :=
  128 + (16 + 4194304) + (16 + 16 * d.placement.log.length) + (16 + 2 * d.placement.home.length) +
    (16 + sumN (d.pages.map fun p => 16 + 32 * p.entries.length)) + (16 + 48)

/-- Bytes 0 to 63 of the descriptor header (R197). -/
def Descriptor.lead (d : Descriptor) : List Byte :=
  [0x4B#8, 0x4C#8, 0x53#8, 0x44#8] ++ leBytes 2 2 ++ leBytes 1 d.wing ++ leBytes 1 d.config ++ leBytes 8 d.generation ++
    leBytes 8 d.length ++ leBytes 8 d.memberSize ++ leBytes 8 d.written ++ List.replicate 24 0#8

/-- The digest of a descriptor: over bytes 0 to 63 and everything behind the digest (R197). -/
def Descriptor.digest (d : Descriptor) : Digest := Config.sha3 (d.lead ++ d.sections)

/-- Sector `i` of a descriptor (R197). -/
def Descriptor.sector (d : Descriptor) (i : Nat) : Block :=
  blockOf (slice (d.lead ++ leBytes 64 d.digest.toNat ++ d.sections) (4096 * i) 4096)

/-- The header of a copy is one of a descriptor of this format and may be followed (R197). -/
def DescCopy.known (c : DescCopy) : Bool :=
  c.magic == 0x44534C4B && c.format == 2 && decide (128 < c.length) && decide (c.length ≤ 268435456)

/-- A copy is valid: its digest checks over the bytes its length spans (R197). -/
def DescCopy.valid (c : DescCopy) : Bool := c.known && c.length == c.desc.length && c.digest == c.desc.digest.toNat

end Sys2Proof

namespace Sys2Proof.Machine

/-! ### Frames of the sister link (R237 to R240, R260, R261) -/

/-- The fields of a sister-link frame header (R237). -/
structure SisterHead where
  /-- type. -/
  type : Nat
  /-- sister id of the sender. -/
  sender : Nat
  /-- frame within the packet. -/
  index : Nat
  /-- bit 0 SNAPSHOT. -/
  flags : Nat
  /-- sender's leg. -/
  leg : Nat
  /-- claim_w1. -/
  claim1 : Nat
  /-- claim_w2. -/
  claim2 : Nat
  deriving DecidableEq, Repr

/-- A frame: its 40-byte header, big-endian, and its payload (R237). -/
def sisterFrame (h : SisterHead) (payload : List Byte) : List Byte :=
  let b := beBytes 1 h.type ++ beBytes 1 h.sender ++ beBytes 2 h.index ++ beBytes 2 payload.length ++ beBytes 2 h.flags ++
    beBytes 8 h.leg ++ beBytes 8 h.claim1 ++ beBytes 8 h.claim2
  b ++ beBytes 4 (crc32c (b ++ payload)) ++ beBytes 4 0 ++ payload

/-- A received frame: its header and payload; none where its length is wrong or its CRC fails (R237). -/
def frameOf (l : List Byte) : Option (SisterHead × List Byte) :=
  let payload := l.drop 40
  if 40 ≤ l.length ∧ payload.length = beField l 4 2 ∧ beField l 32 4 = crc32c (l.take 32 ++ payload) then
    some ({ type := beField l 0 1, sender := beField l 1 1, index := beField l 2 2, flags := beField l 6 2, leg := beField l 8 8,
            claim1 := beField l 16 8, claim2 := beField l 24 8 }, payload)
  else none

/-- An association entry (R238). -/
def assocEntry (a : Nat × Bool × Nat) : List Byte :=
  beBytes 2 a.1 ++ beBytes 1 (b2n a.2.1) ++ beBytes 5 0 ++ beBytes 16 a.2.2

/-- Frames of a packet (R238): the head with up to 62 headers, 64 more each, a block each, 170 association entries each. -/
def packetFrames (recs : List LedgerRec) (assoc : List (Nat × Bool × Nat)) : Nat :=
  1 + ceilDiv (recs.length - 62) 64 + itemBlocks recs + ceilDiv assoc.length 170

/-- Bytes 0 to 63 of a leg packet head (R238). -/
def packetHead (recs : List LedgerRec) (assoc : List (Nat × Bool × Nat)) (hi : List Nat) (arrival mode : Nat) : List Byte :=
  beBytes 2 recs.length ++ beBytes 2 (itemBlocks recs) ++ beBytes 2 assoc.length ++ beBytes 2 (packetFrames recs assoc) ++
    beBytes 8 (hi.getD 0 0) ++ beBytes 8 (hi.getD 1 0) ++ beBytes 8 arrival ++ beBytes 1 mode ++ List.replicate 31 0#8

/-- The ledger digest after a packet (R239): the digest before it, its head, its record headers, blocks and association entries, in
frame order.  A record's pos is the index of its first BLOCK frame (R238; counted within the packet's frames, log entry 118). -/
def chainDigest (before : List Byte) (head : List Byte) (recs : List LedgerRec) (assoc : List (Nat × Bool × Nat)) : Nat :=
  let place := 1 + ceilDiv (recs.length - 62) 64
  (Config.sha3 (before ++ head ++ (headsFrom place recs).flatten ++ (blocksOf recs).flatMap blockBytes ++
    assoc.flatMap assocEntry)).toNat

/-- Cut a list into pieces of `n` (with fuel). -/
def pieces {α : Type} (n : Nat) : Nat → List α → List (List α)
  | 0, _ => []
  | _, [] => []
  | k + 1, l => l.take n :: pieces n k (l.drop n)

/-- The payloads of a packet's frames with their types, in order: HEAD, RECORDS, BLOCK, ASSOC (R238). -/
def packetPayloads (head : List Byte) (digest : Nat) (recs : List LedgerRec) (assoc : List (Nat × Bool × Nat)) :
    List (Nat × List Byte) :=
  let heads := headsFrom (1 + ceilDiv (recs.length - 62) 64) recs
  (1, head ++ leBytes 64 digest ++ (heads.take 62).flatten) ::
    ((pieces 64 heads.length (heads.drop 62)).map fun l => (2, l.flatten)) ++
    ((blocksOf recs).map fun b => (3, blockBytes b)) ++
    ((pieces 170 assoc.length assoc).map fun l => (4, l.flatMap assocEntry))

/-- What the frames of a packet hold: record headers, blocks, association entries. -/
def assocOfEntry (l : List Byte) : Nat × Bool × Nat := (beField l 0 2, beField l 2 1 == 1, beField l 8 16)

/-- The records and association entries of a packet's frames, given with their types: none where a header fails its CRC (R238). -/
def packetRecs (l : List (Nat × List Byte)) : Option (List LedgerRec × List (Nat × Bool × Nat)) :=
  let heads := l.flatMap fun x =>
    if x.1 = 1 then pieces 64 (x.2.length / 64) (x.2.drop 128) else if x.1 = 2 then pieces 64 (x.2.length / 64) x.2 else []
  let blocks := (l.filter fun x => x.1 == 3).map fun x => blockOf x.2
  let place := 1 + (l.filter fun x => x.1 == 2).length
  let assoc := l.flatMap fun x => if x.1 = 4 then (pieces 24 (x.2.length / 24) x.2).map assocOfEntry else []
  (recsOf place blocks heads).map fun r => (r, assoc)

/-! ### SISTER_SB (R242) -/

/-- A SISTER_SB frame, 32 bytes, big-endian (R242). -/
def sidebandFrame (sister mode flags claim1 claim2 bays : Nat) : List Byte :=
  let b := beBytes 1 sister ++ beBytes 1 mode ++ beBytes 1 flags ++ beBytes 1 0 ++ beBytes 8 claim1 ++ beBytes 8 claim2 ++
    beBytes 3 bays ++ beBytes 5 0
  b ++ beBytes 4 (crc32c b)

/-- A valid SISTER_SB frame: 32 bytes whose CRC passes (R242). -/
def sidebandGood (l : List Byte) : Bool := decide (l.length = 32) && beField l 28 4 == crc32c (l.take 28)

end Sys2Proof.Machine

namespace Sys2Proof

/-! ### Packets (R293) -/

/-- The SPI of a packet is one of its connection, host to controller (R268, R269). -/
def Packet.spiGood (p : Packet) : Bool :=
  match p.spi with | some v => Machine.bits v 31 30 == 1 && Machine.bits v 23 0 == p.qpn | none => false

/-- The rekey field of a packet's SPI (R269). -/
def Packet.rekey (p : Packet) : Nat := match p.spi with | some v => Machine.bits v 29 24 | none => 0

/-- Message number in the waypoint header of a packet (R8, R293). -/
def Packet.msg (p : Packet) : Nat := Machine.beField p.waypoint 4 4

/-- A packet is a SACK: the flag of its waypoint header (R293). -/
def Packet.isSack (p : Packet) : Bool := Machine.bit (Machine.beField p.waypoint 0 1) 2

/-- Byte offset within its message in the waypoint header of a packet (R8, R293). -/
def Packet.msgOffset (p : Packet) : Nat := Machine.beField p.waypoint 8 4

/-- Total bytes of the message of a packet: the waypoint header's where it has one, else its RETH's (R8, R293). -/
def Packet.size (p : Packet) : Nat := if p.waypoint.isEmpty then p.dmaLength else Machine.beField p.waypoint 12 4

end Sys2Proof
end

