-- ==== Sys2Proof/Machine/Mods.lean ====
section
/-! DEFINITION. One update per field of State: every effect is built from these. -/

namespace Sys2Proof.Machine

/-- Change `objs` alone. -/
def State.modObjs (f : List (Nat × Nat) → List (Nat × Nat)) (s : State) : State := { s with objs := f s.objs }

/-- Change `blobs` alone. -/
def State.modBlobs (f : List (Nat × List Byte) → List (Nat × List Byte)) (s : State) : State := { s with blobs := f s.blobs }

/-- Change `results` alone. -/
def State.modResults (f : List (Nat × Rslt) → List (Nat × Rslt)) (s : State) : State := { s with results := f s.results }

/-- Change `clk` alone. -/
def State.modClk (f : ClockSt → ClockSt) (s : State) : State := { s with clk := f s.clk }

/-- Change `tt` alone. -/
def State.modTt (f : TtSt → TtSt) (s : State) : State := { s with tt := f s.tt }

/-- Change `adm` alone. -/
def State.modAdm (f : AdmSt → AdmSt) (s : State) : State := { s with adm := f s.adm }

/-- Change `ce` alone. -/
def State.modCe (f : CeSt → CeSt) (s : State) : State := { s with ce := f s.ce }

/-- Change `drives` alone. -/
def State.modDrives (f : DriveSt → DriveSt) (s : State) : State := { s with drives := f s.drives }

/-- Change `places` alone. -/
def State.modPlaces (f : List Placement → List Placement) (s : State) : State := { s with places := f s.places }

/-- Change `pe` alone. -/
def State.modPe (f : ParitySt → ParitySt) (s : State) : State := { s with pe := f s.pe }

/-- Change `rb` alone. -/
def State.modRb (f : RebuildSt → RebuildSt) (s : State) : State := { s with rb := f s.rb }

/-- Change `lg` alone. -/
def State.modLg (f : LedgerSt → LedgerSt) (s : State) : State := { s with lg := f s.lg }

/-- Change `si` alone. -/
def State.modSi (f : SisterSt → SisterSt) (s : State) : State := { s with si := f s.si }

/-- Change `tr` alone. -/
def State.modTr (f : TransportSt → TransportSt) (s : State) : State := { s with tr := f s.tr }

/-- Change `pc` alone. -/
def State.modPc (f : PortSt → PortSt) (s : State) : State := { s with pc := f s.pc }

/-- Change `po` alone. -/
def State.modPo (f : PorterSt → PorterSt) (s : State) : State := { s with po := f s.po }

/-- Change `cy` alone. -/
def State.modCy (f : CipherSt → CipherSt) (s : State) : State := { s with cy := f s.cy }

/-- Change `gh` alone. -/
def State.modGh (f : GateSt → GateSt) (s : State) : State := { s with gh := f s.gh }

/-- Change `md` alone. -/
def State.modMd (f : ModeSt → ModeSt) (s : State) : State := { s with md := f s.md }

/-- Change `dict` alone. -/
def State.modDict (f : DictSt → DictSt) (s : State) : State := { s with dict := f s.dict }

/-- Change `ep` alone. -/
def State.modEp (f : EndpointSt → EndpointSt) (s : State) : State := { s with ep := f s.ep }

/-- Change `book` alone. -/
def State.modBook (f : BookSt → BookSt) (s : State) : State := { s with book := f s.book }

/-- Change `out` alone. -/
def State.modOut (f : List Out → List Out) (s : State) : State := { s with out := f s.out }

/-- Change `fresh` alone. -/
def State.modFresh (f : Nat → Nat) (s : State) : State := { s with fresh := f s.fresh }

/-- Change `pending` alone. -/
def State.modPending (f : List Instr → List Instr) (s : State) : State := { s with pending := f s.pending }

end Sys2Proof.Machine
end

