-- ==== Sys2Proof/Machine/Objects.lean ====
section
/-! DEFINITION. The object dictionary of stepping B0 (R471 to R475): every object the tables of the spec list, with its
type, access kind, class, default, range and persistence.  The index of an object is named as the object is. -/

namespace Sys2Proof.Machine

/-- Object types (R472); a width is in bytes, a DOMAIN carries its limit for writes. -/
inductive OTy where
  | bool | u (w : Nat) | i (w : Nat) | str | domain (limit : Nat) | action | result
  deriving DecidableEq, Repr

/-- Access kinds (R473). -/
inductive Acc where
  | ro | rw | wo | const
  deriving DecidableEq, Repr

/-- Defaults: one value, one per subindex, the subindex less one, or by ordering code (D36, D24). -/
inductive Dflt where
  | same (v : Nat) | perSub (l : List Nat) | subLess1 | byCode (d36 d24 : Nat)
  deriving DecidableEq, Repr

/-- A row of an object table: first index, how many indexes, subindexes, type, access, class (0 observer, 1 operator,
2 custodian, 3 factory), default, ranges (none: every value of the type), persistence (0 volatile, 1 stored,
2 factory), statistics (R385), Vigil-reachable (R485). -/
structure ObjRow where
  ix : Nat
  count : Nat
  lo : Nat
  hi : Nat
  ty : OTy
  acc : Acc
  cls : Nat
  dflt : Dflt
  ranges : List (Int × Int)
  persist : Nat
  stats : Bool
  vigil : Bool
  deriving DecidableEq, Repr

/-- The key of an object: index and subindex (R471). -/
abbrev objKey (ix sub : Nat) : Nat := ix * 256 + sub

namespace Obj

/-- 0xA000:00 (R67). -/
def tt_state : Nat := 0xA000
/-- 0xA001:01–04 (R67). -/
def tt_store_state : Nat := 0xA001
/-- 0xA002:01–04 (R67). -/
def tt_store_image_id : Nat := 0xA002
/-- 0xA003:01–04 (R67). -/
def tt_store_cause : Nat := 0xA003
/-- 0xA004:01–04 (R67). -/
def tt_store_security_version : Nat := 0xA004
/-- 0xA010:00 (R67). -/
def tt_shadow_image : Nat := 0xA010
/-- 0xA011:00 (R67). -/
def tt_check : Nat := 0xA011
/-- 0xA012:00 (R67). -/
def tt_check_result : Nat := 0xA012
/-- 0xA013:00 (R67). -/
def tt_switch : Nat := 0xA013
/-- 0xA014:00 (R67). -/
def tt_switch_result : Nat := 0xA014
/-- 0xA015:00 (R67). -/
def tt_shadow_to_f1 : Nat := 0xA015
/-- 0xA020:00 (R67). -/
def tt_leg_count : Nat := 0xA020
/-- 0xA021:00 (R67). -/
def tt_round_legs : Nat := 0xA021
/-- 0xA022:00 (R67). -/
def tt_cell_check_errors : Nat := 0xA022
/-- 0xA030:01–40 (R67). -/
def tt_class_berths : Nat := 0xA030
/-- 0xA031:01–40 (R67). -/
def tt_class_bound : Nat := 0xA031
/-- 0xA032:01–40 (R67). -/
def tt_class_used : Nat := 0xA032
/-- 0xA033:01–40 (R67). -/
def tt_class_run_empty : Nat := 0xA033
/-- 0xA034:01–40 (R67). -/
def tt_class_closed : Nat := 0xA034
/-- 0xA035:01–40 (R67). -/
def tt_class_gate_waits : Nat := 0xA035
/-- 0xA036:01–40 (R67). -/
def tt_class_bound_excess : Nat := 0xA036
/-- 0xA040:01–5F (R67). -/
def tt_unit_closed : Nat := 0xA040
/-- 0xA050:01–20 (R67). -/
def tt_party_rule_nqn : Nat := 0xA050
/-- 0xA051:01–20 (R67). -/
def tt_party_rule_party : Nat := 0xA051
/-- 0xA052:00 (R67). -/
def tt_default_party : Nat := 0xA052
/-- 0xA053:00 (R67). -/
def tt_default_weight : Nat := 0xA053
/-- 0xA054:00 (R67). -/
def tt_association_weights : Nat := 0xA054
/-- 0xA060:00 (R67). -/
def tt_rollback_floor : Nat := 0xA060
/-- 0x6800:00 (R132). -/
def ce_range_entries_max : Nat := 0x6800
/-- 0x6801:00 (R132). -/
def ce_range_entries_used : Nat := 0x6801
/-- 0x6802:00 (R132). -/
def ce_range_full_waits : Nat := 0x6802
/-- 0x6803:00 (R132). -/
def ce_overlap_waits : Nat := 0x6803
/-- 0x6810:00 (R132). -/
def ce_stripe_cache_size : Nat := 0x6810
/-- 0x6811:00 (R132). -/
def ce_provisional_limit : Nat := 0x6811
/-- 0x6812:00 (R132). -/
def ce_readahead_window : Nat := 0x6812
/-- 0x6813:00 (R132). -/
def ce_readahead_trigger : Nat := 0x6813
/-- 0x6814:00 (R132). -/
def ce_readahead_streams : Nat := 0x6814
/-- 0x6815:00 (R132). -/
def ce_read_room_hold : Nat := 0x6815
/-- 0x6820:00 (R132). -/
def ce_cache_used : Nat := 0x6820
/-- 0x6821:00 (R132). -/
def ce_cache_pinned : Nat := 0x6821
/-- 0x6830:00 (R132). -/
def ce_read_slab_hits : Nat := 0x6830
/-- 0x6831:00 (R132). -/
def ce_read_cache_hits : Nat := 0x6831
/-- 0x6832:00 (R132). -/
def ce_read_member_blocks : Nat := 0x6832
/-- 0x6833:00 (R132). -/
def ce_read_reconstructed : Nat := 0x6833
/-- 0x6834:00 (R132). -/
def ce_read_unreadable : Nat := 0x6834
/-- 0x6835:00 (R132). -/
def ce_read_lost : Nat := 0x6835
/-- 0x6836:00 (R132). -/
def ce_read_apply_waits : Nat := 0x6836
/-- 0x6840:00 (R132). -/
def ce_prov_fills : Nat := 0x6840
/-- 0x6841:00 (R132). -/
def ce_prov_promoted : Nat := 0x6841
/-- 0x6842:00 (R132). -/
def ce_prov_cancelled : Nat := 0x6842
/-- 0x6843:00 (R132). -/
def ce_prov_evicted : Nat := 0x6843
/-- 0x6844:00 (R132). -/
def ce_prov_retracts : Nat := 0x6844
/-- 0x6850:00 (R132). -/
def ce_room_reads : Nat := 0x6850
/-- 0x6851:00 (R132). -/
def ce_room_hold_expiries : Nat := 0x6851
/-- 0x7000:00 (R160). -/
def pe_units : Nat := 0x7000
/-- 0x7001:00 (R160). -/
def pe_row_jobs : Nat := 0x7001
/-- 0x7002:00 (R160). -/
def pe_accumulator_bytes : Nat := 0x7002
/-- 0x7003:00 (R160). -/
def pe_table_entries : Nat := 0x7003
/-- 0x7004:00 (R160). -/
def pe_member_area_base : Nat := 0x7004
/-- 0x7010:01–02 (R160). -/
def pe_placement_gen : Nat := 0x7010
/-- 0x7011:01–02 (R160). -/
def pe_placement_log : Nat := 0x7011
/-- 0x7012:01–18 (R160). -/
def pe_home_gen_w1 : Nat := 0x7012
/-- 0x7013:01–18 (R160). -/
def pe_home_gen_w2 : Nat := 0x7013
/-- 0x7014:01–02 (R160). -/
def pe_member_size : Nat := 0x7014
/-- 0x7015:01–18 (R160). -/
def pe_bay_lost : Nat := 0x7015
/-- 0x7020:01–08 (R160). -/
def pe_unit_in_blocks : Nat := 0x7020
/-- 0x7021:01–08 (R160). -/
def pe_unit_out_blocks : Nat := 0x7021
/-- 0x7022:00 (R160). -/
def pe_accumulator_waits : Nat := 0x7022
/-- 0x7023:00 (R160). -/
def pe_row_job_waits : Nat := 0x7023
/-- 0x7024:01–07 (R160). -/
def pe_rows_by_case : Nat := 0x7024
/-- 0x7025:00 (R160). -/
def pe_rows_unrecoverable : Nat := 0x7025
/-- 0x7026:00 (R160). -/
def pe_trailer_rejects : Nat := 0x7026
/-- 0x7400+n:01 (R160). -/
def pe_ns_layout_id : Nat := 0x7400
/-- 0x7400+n:02 (R160). -/
def pe_ns_wing : Nat := 0x7400
/-- 0x7400+n:03 (R160). -/
def pe_ns_rows : Nat := 0x7400
/-- 0x7400+n:04 (R160). -/
def pe_ns_extent_base : Nat := 0x7400
/-- 0x7400+n:05 (R160). -/
def pe_ns_capacity : Nat := 0x7400
/-- 0x7400+n:06 (R160). -/
def pe_ns_creation_gen : Nat := 0x7400
/-- 0x7400+n:07 (R160). -/
def pe_ns_spare_used : Nat := 0x7400
/-- 0x7400+n:08 (R160). -/
def pe_ns_unplaced : Nat := 0x7400
/-- 0x7100:01–02 (R188). -/
def pe_rebuild_state : Nat := 0x7100
/-- 0x7101:00 (R188). -/
def pe_rebuild_rate : Nat := 0x7101
/-- 0x7102:00 (R188). -/
def pe_rebuild_rate_max : Nat := 0x7102
/-- 0x7103:00 (R188). -/
def pe_rebuild_double_floor : Nat := 0x7103
/-- 0x7104:00 (R188). -/
def pe_rebuild_runahead : Nat := 0x7104
/-- 0x7105:01–02 (R188). -/
def pe_rebuild_due : Nat := 0x7105
/-- 0x7106:01–02 (R188). -/
def pe_rebuild_done : Nat := 0x7106
/-- 0x7107:01–02 (R188). -/
def pe_rebuild_tier0 : Nat := 0x7107
/-- 0x7108:01–02 (R188). -/
def pe_rebuild_rate_now : Nat := 0x7108
/-- 0x7109:01–02 (R188). -/
def pe_rebuild_eta : Nat := 0x7109
/-- 0x710A:00 (R188). -/
def pe_rebuild_reads : Nat := 0x710A
/-- 0x710B:00 (R188). -/
def pe_rebuild_writes : Nat := 0x710B
/-- 0x710C:00 (R188). -/
def pe_rebuild_q_rows : Nat := 0x710C
/-- 0x710D:00 (R188). -/
def pe_rebuild_rows_lost : Nat := 0x710D
/-- 0x710E:00 (R188). -/
def pe_rebuild_repeats : Nat := 0x710E
/-- 0x7110:00 (R188). -/
def pe_lost_blocks : Nat := 0x7110
/-- 0x7111:00 (R188). -/
def pe_lost_widened : Nat := 0x7111
/-- 0x7200:00 (R188). -/
def pe_patrol_enable : Nat := 0x7200
/-- 0x7201:00 (R188). -/
def pe_patrol_rate : Nat := 0x7201
/-- 0x7202:01–02 (R188). -/
def pe_patrol_cursor : Nat := 0x7202
/-- 0x7203:01–02 (R188). -/
def pe_patrol_passes : Nat := 0x7203
/-- 0x7204:01–02 (R188). -/
def pe_patrol_last_end : Nat := 0x7204
/-- 0x7205:01–02 (R188). -/
def pe_patrol_last_seconds : Nat := 0x7205
/-- 0x7206:00 (R188). -/
def pe_patrol_rows : Nat := 0x7206
/-- 0x7207:00 (R188). -/
def pe_patrol_trailer_faults : Nat := 0x7207
/-- 0x7208:00 (R188). -/
def pe_patrol_located : Nat := 0x7208
/-- 0x7209:00 (R188). -/
def pe_patrol_rewrites : Nat := 0x7209
/-- 0x720A:00 (R188). -/
def pe_patrol_uncorrectable : Nat := 0x720A
/-- 0x720B:00 (R188). -/
def pe_patrol_skipped : Nat := 0x720B
/-- 0x720C:00 (R188). -/
def pe_patrol_queue : Nat := 0x720C
/-- 0x720D:00 (R188). -/
def pe_patrol_queue_drops : Nat := 0x720D
/-- 0x720E:00 (R188). -/
def pe_patrol_log : Nat := 0x720E
/-- 0x720F:00 (R188). -/
def pe_patrol_log_clear : Nat := 0x720F
/-- 0x8000:00 (R228). -/
def lg_ledger_size : Nat := 0x8000
/-- 0x8001:00 (R228). -/
def lg_ledger_allowed : Nat := 0x8001
/-- 0x8002:00 (R228). -/
def lg_ledger_in_force : Nat := 0x8002
/-- 0x8003:00 (R228). -/
def lg_slab_used : Nat := 0x8003
/-- 0x8004:00 (R228). -/
def lg_shadow_used : Nat := 0x8004
/-- 0x8005:01–02 (R228). -/
def lg_seal_next : Nat := 0x8005
/-- 0x8006:00 (R228). -/
def lg_waybills : Nat := 0x8006
/-- 0x8007:00 (R228). -/
def lg_intents : Nat := 0x8007
/-- 0x8008:01–02 (R228). -/
def lg_copy_path : Nat := 0x8008
/-- 0x8009:00 (R228). -/
def lg_admission_waits : Nat := 0x8009
/-- 0x800A:00 (R228). -/
def lg_copy_fallbacks : Nat := 0x800A
/-- 0x8010:00 (R228). -/
def lg_flush_profile : Nat := 0x8010
/-- 0x8011:00 (R228). -/
def lg_flush_power : Nat := 0x8011
/-- 0x8012:00 (R228). -/
def lg_flush_power_measured : Nat := 0x8012
/-- 0x8013:00 (R228). -/
def lg_usable_energy : Nat := 0x8013
/-- 0x8014:00 (R228). -/
def lg_flush_margin : Nat := 0x8014
/-- 0x8015:00 (R228). -/
def lg_flush_efficiency : Nat := 0x8015
/-- 0x8016:00 (R228). -/
def lg_bank_floor : Nat := 0x8016
/-- 0x8017:00 (R228). -/
def lg_flush_rate : Nat := 0x8017
/-- 0x8018:00 (R228). -/
def lg_narrow_events : Nat := 0x8018
/-- 0x8020:00 (R228). -/
def lg_pf_threshold : Nat := 0x8020
/-- 0x8021:00 (R228). -/
def lg_pf_deglitch : Nat := 0x8021
/-- 0x8022:01–03 (R228). -/
def lg_pf_comparator_state : Nat := 0x8022
/-- 0x8023:00 (R228). -/
def lg_pf_vote : Nat := 0x8023
/-- 0x8030:00 (R228). -/
def lg_holdup_events : Nat := 0x8030
/-- 0x8031:00 (R228). -/
def lg_last_flush_bytes : Nat := 0x8031
/-- 0x8032:00 (R228). -/
def lg_last_flush_time : Nat := 0x8032
/-- 0x8033:01–02 (R228). -/
def lg_vault_image_state : Nat := 0x8033
/-- 0x8034:01–02 (R228). -/
def lg_vault_flush_seq : Nat := 0x8034
/-- 0x8040:00 (R228). -/
def lg_journal_zone_blocks : Nat := 0x8040
/-- 0x8041:01–18 (R228). -/
def lg_journal_zone_used : Nat := 0x8041
/-- 0x8042:00 (R228). -/
def lg_journal_records : Nat := 0x8042
/-- 0x8043:00 (R228). -/
def lg_carry_forward : Nat := 0x8043
/-- 0x8044:00 (R228). -/
def lg_rehome_pending : Nat := 0x8044
/-- 0x8045:00 (R228). -/
def lg_rehome_items : Nat := 0x8045
/-- 0x8046:00 (R228). -/
def lg_descriptor_generation : Nat := 0x8046
/-- 0x8050:00 (R228). -/
def lg_replay_records : Nat := 0x8050
/-- 0x8051:00 (R228). -/
def lg_replay_duplicate_rows : Nat := 0x8051
/-- 0x8052:00 (R228). -/
def lg_replay_rewritten_rows : Nat := 0x8052
/-- 0x8053:00 (R228). -/
def lg_replay_lost_blocks : Nat := 0x8053
/-- 0x8054:00 (R228). -/
def lg_replay_vote_conflicts : Nat := 0x8054
/-- 0x8055:00 (R228). -/
def lg_replay_time : Nat := 0x8055
/-- 0xB000:00 (R262). -/
def si_sister_id : Nat := 0xB000
/-- 0xB001:01–02 (R262). -/
def si_lantern_state : Nat := 0xB001
/-- 0xB002:01–02 (R262). -/
def si_claim : Nat := 0xB002
/-- 0xB003:01–02 (R262). -/
def si_claim_seen : Nat := 0xB003
/-- 0xB004:00 (R262). -/
def si_bay_owner : Nat := 0xB004
/-- 0xB005:00 (R262). -/
def si_sideband_silent : Nat := 0xB005
/-- 0xB010:00 (R262). -/
def si_link_state : Nat := 0xB010
/-- 0xB011:00 (R262). -/
def si_silence_legs : Nat := 0xB011
/-- 0xB012:00 (R262). -/
def si_legs_since_packet : Nat := 0xB012
/-- 0xB013:00 (R262). -/
def si_packets_sent : Nat := 0xB013
/-- 0xB014:00 (R262). -/
def si_packets_acked : Nat := 0xB014
/-- 0xB015:00 (R262). -/
def si_frames_discarded : Nat := 0xB015
/-- 0xB016:00 (R262). -/
def si_naks : Nat := 0xB016
/-- 0xB020:00 (R262). -/
def si_warden_address : Nat := 0xB020
/-- 0xB021:00 (R262). -/
def si_lease_renew : Nat := 0xB021
/-- 0xB022:01–02 (R262). -/
def si_lease_time : Nat := 0xB022
/-- 0xB023:00 (R262). -/
def si_warden_timeout : Nat := 0xB023
/-- 0xB024:00 (R262). -/
def si_warden_state : Nat := 0xB024
/-- 0xB030:00 (R262). -/
def si_quorum : Nat := 0xB030
/-- 0xB031:00 (R262). -/
def si_fallback_enable : Nat := 0xB031
/-- 0xB032:00 (R262). -/
def si_holdoff_legs : Nat := 0xB032
/-- 0xB033:00 (R262). -/
def si_preempt_timeout : Nat := 0xB033
/-- 0xB034:00 (R262). -/
def si_backoffs : Nat := 0xB034
/-- 0xB040:00 (R262). -/
def si_handback : Nat := 0xB040
/-- 0xB041:00 (R262). -/
def si_handback_result : Nat := 0xB041
/-- 0xB042:00 (R262). -/
def si_promote : Nat := 0xB042
/-- 0xB043:00 (R262). -/
def si_promote_result : Nat := 0xB043
/-- 0xB050:00 (R262). -/
def si_takeovers : Nat := 0xB050
/-- 0xB051:00 (R262). -/
def si_last_takeover : Nat := 0xB051
/-- 0xB052:00 (R262). -/
def si_last_takeover_ns : Nat := 0xB052
/-- 0xB053:00 (R262). -/
def si_retry_window : Nat := 0xB053
/-- 0xB054:00 (R262). -/
def si_retries_recognised : Nat := 0xB054
/-- 0xB060:00 (R262). -/
def si_resync_state : Nat := 0xB060
/-- 0xB061:00 (R262). -/
def si_resync_bytes : Nat := 0xB061
/-- 0x4000:00 (R304). -/
def tr_contexts_max : Nat := 0x4000
/-- 0x4001:00 (R304). -/
def tr_contexts_onchip : Nat := 0x4001
/-- 0x4002:00 (R304). -/
def tr_contexts_used : Nat := 0x4002
/-- 0x4003:00 (R304). -/
def tr_context_fetches : Nat := 0x4003
/-- 0x4004:00 (R304). -/
def tr_context_spills : Nat := 0x4004
/-- 0x4005:00 (R304). -/
def tr_fetch_bound_excess : Nat := 0x4005
/-- 0x4006:00 (R304). -/
def tr_waiting_room_used : Nat := 0x4006
/-- 0x4007:00 (R304). -/
def tr_waiting_room_drops : Nat := 0x4007
/-- 0x4010:00 (R304). -/
def tr_connect_rejects : Nat := 0x4010
/-- 0x4011:00 (R304). -/
def tr_stale_qpn : Nat := 0x4011
/-- 0x4012:00 (R304). -/
def tr_connection_errors : Nat := 0x4012
/-- 0x4013:00 (R304). -/
def tr_ack_timeout : Nat := 0x4013
/-- 0x4014:00 (R304). -/
def tr_retry_count : Nat := 0x4014
/-- 0x4020:00 (R304). -/
def tr_esp_icv_fail : Nat := 0x4020
/-- 0x4021:00 (R304). -/
def tr_esp_replay_drops : Nat := 0x4021
/-- 0x4022:00 (R304). -/
def tr_rekey : Nat := 0x4022
/-- 0x4023:00 (R304). -/
def tr_rekey_result : Nat := 0x4023
/-- 0x4024:00 (R304). -/
def tr_rekey_overlap : Nat := 0x4024
/-- 0x4030:00 (R304). -/
def tr_rooms_max : Nat := 0x4030
/-- 0x4031:00 (R304). -/
def tr_rooms_open : Nat := 0x4031
/-- 0x4032:00 (R304). -/
def tr_rooms_per_assoc : Nat := 0x4032
/-- 0x4033:00 (R304). -/
def tr_room_close_timeout : Nat := 0x4033
/-- 0x4034:00 (R304). -/
def tr_room_refusals : Nat := 0x4034
/-- 0x4035:00 (R304). -/
def tr_room_close_timeouts : Nat := 0x4035
/-- 0x4036:00 (R304). -/
def tr_room_view : Nat := 0x4036
/-- 0x4040:00 (R304). -/
def tr_spread_enable : Nat := 0x4040
/-- 0x4041:00 (R304). -/
def tr_spread_timeout : Nat := 0x4041
/-- 0x4042:00 (R304). -/
def tr_spread_ack_interval : Nat := 0x4042
/-- 0x4043:00 (R304). -/
def tr_spread_rto : Nat := 0x4043
/-- 0x4044:00 (R304). -/
def tr_spread_msgs_max : Nat := 0x4044
/-- 0x4045:00 (R304). -/
def tr_spread_duplicates : Nat := 0x4045
/-- 0x4046:00 (R304). -/
def tr_spread_timeouts : Nat := 0x4046
/-- 0x4050:00 (R304). -/
def tr_chain_wait_timeout : Nat := 0x4050
/-- 0x4051:01–08 (R304). -/
def tr_chain_wait_outcomes : Nat := 0x4051
/-- 0x4060:00 (R304). -/
def tr_cnp_interval : Nat := 0x4060
/-- 0x4061:00 (R304). -/
def tr_cc_cut_gap : Nat := 0x4061
/-- 0x4062:00 (R304). -/
def tr_cc_hold : Nat := 0x4062
/-- 0x4063:00 (R304). -/
def tr_cc_step : Nat := 0x4063
/-- 0x4064:00 (R304). -/
def tr_cc_rate_min : Nat := 0x4064
/-- 0x4065:00 (R304). -/
def tr_cnp_sent : Nat := 0x4065
/-- 0x4066:00 (R304). -/
def tr_cc_cuts : Nat := 0x4066
/-- 0x6000:00 (R346). -/
def ce_associations_max : Nat := 0x6000
/-- 0x6001:00 (R346). -/
def ce_associations_used : Nat := 0x6001
/-- 0x6002:00 (R346). -/
def ce_ioq_max : Nat := 0x6002
/-- 0x6003:00 (R346). -/
def ce_ioq_used : Nat := 0x6003
/-- 0x6004:00 (R346). -/
def ce_ioq_per_assoc : Nat := 0x6004
/-- 0x6005:00 (R346). -/
def ce_shelf_uuid : Nat := 0x6005
/-- 0x6006:00 (R346). -/
def ce_kato_expiries : Nat := 0x6006
/-- 0x6010:00 (R346). -/
def ce_host_power_control : Nat := 0x6010
/-- 0x6011:00 (R346). -/
def ce_power_state : Nat := 0x6011
/-- 0x6012:00 (R346). -/
def ce_power_state_set : Nat := 0x6012
/-- 0x6013:00 (R346). -/
def ce_power_state_result : Nat := 0x6013
/-- 0x6014:00 (R346). -/
def ce_ps_entry_limit : Nat := 0x6014
/-- 0x6020:00 (R346). -/
def ce_admin_hosts : Nat := 0x6020
/-- 0x6030:00 (R346). -/
def ce_aborts : Nat := 0x6030
/-- 0x6031:00 (R346). -/
def ce_aborts_done : Nat := 0x6031
/-- 0x6040:00 (R346). -/
def ce_ns_new_nsid : Nat := 0x6040
/-- 0x6041:00 (R346). -/
def ce_ns_new_wing : Nat := 0x6041
/-- 0x6042:00 (R346). -/
def ce_ns_new_layout_id : Nat := 0x6042
/-- 0x6043:00 (R346). -/
def ce_ns_new_blocks : Nat := 0x6043
/-- 0x6044:00 (R346). -/
def ce_ns_create : Nat := 0x6044
/-- 0x6045:00 (R346). -/
def ce_ns_create_result : Nat := 0x6045
/-- 0x6046:00 (R346). -/
def ce_ns_delete : Nat := 0x6046
/-- 0x6047:00 (R346). -/
def ce_ns_delete_result : Nat := 0x6047
/-- 0x6100:00 (R346). -/
def ce_drive_io_timeout : Nat := 0x6100
/-- 0x6101:00 (R346). -/
def ce_drive_admin_timeout : Nat := 0x6101
/-- 0x6102:00 (R346). -/
def ce_drive_abort_wait : Nat := 0x6102
/-- 0x6103:00 (R346). -/
def ce_read_hedge : Nat := 0x6103
/-- 0x6104:00 (R346). -/
def ce_auto_format : Nat := 0x6104
/-- 0x6110:01–18 (R346). -/
def ce_bay_state : Nat := 0x6110
/-- 0x6111:01–18 (R346). -/
def ce_bay_link : Nat := 0x6111
/-- 0x6112:00 (R346). -/
def ce_bay_contain : Nat := 0x6112
/-- 0x6113:00 (R346). -/
def ce_bay_release : Nat := 0x6113
/-- 0x6114:00 (R346). -/
def ce_bay_accept : Nat := 0x6114
/-- 0x6120:00 (R346). -/
def ce_drive_timeouts : Nat := 0x6120
/-- 0x6121:00 (R346). -/
def ce_containments : Nat := 0x6121
/-- 0x6122:00 (R346). -/
def ce_hedged_reads : Nat := 0x6122
/-- 0x6400+n:01 (R346). -/
def ce_ns_party_mask : Nat := 0x6400
/-- 0x6400+n:02 (R346). -/
def ce_ns_nguid : Nat := 0x6400
/-- 0x6400+n:03 (R346). -/
def ce_ns_rtype : Nat := 0x6400
/-- 0x6400+n:04 (R346). -/
def ce_ns_registrants : Nat := 0x6400
/-- 0x6400+n:05 (R346). -/
def ce_ns_res_gen : Nat := 0x6400
/-- 0x3000:01–04 (R386). -/
def pc_port_mode : Nat := 0x3000
/-- 0x3001:01–04 (R386). -/
def pc_port_state : Nat := 0x3001
/-- 0x3002:01–04 (R386). -/
def pc_media : Nat := 0x3002
/-- 0x3003:01–04 (R386). -/
def pc_lane_reverse : Nat := 0x3003
/-- 0x3004:01–04 (R386). -/
def pc_lane_polarity : Nat := 0x3004
/-- 0x3005:01–04 (R386). -/
def pc_mcast_hash : Nat := 0x3005
/-- 0x3006:01–04 (R386). -/
def pc_pcp_map : Nat := 0x3006
/-- 0x3007:01–04 (R386). -/
def pc_dscp_map : Nat := 0x3007
/-- 0x3008:00 (R386). -/
def pc_mgmt_vid : Nat := 0x3008
/-- 0x3009:00 (R386). -/
def pc_pfc_xoff : Nat := 0x3009
/-- 0x300A:00 (R386). -/
def pc_pfc_xon : Nat := 0x300A
/-- 0x300B:00 (R386). -/
def pc_pause_time_tx : Nat := 0x300B
/-- 0x300C:00 (R386). -/
def pc_egress_tc_limit : Nat := 0x300C
/-- 0x300D:00 (R386). -/
def pc_staging_bytes : Nat := 0x300D
/-- 0x300E:00 (R386). -/
def pc_egress_bytes : Nat := 0x300E
/-- 0x300F:00 (R386). -/
def pc_pause_storm_limit : Nat := 0x300F
/-- 0x3010:01–21 (R386). -/
def pc_link_up : Nat := 0x3010
/-- 0x3011:01–21 (R386). -/
def pc_link_rate : Nat := 0x3011
/-- 0x3012:01–20 (R386). -/
def pc_mac_address : Nat := 0x3012
/-- 0x3013:01–20 (R386). -/
def pc_flow_mode : Nat := 0x3013
/-- 0x3014:01–20 (R386). -/
def pc_pfc_enable : Nat := 0x3014
/-- 0x3015:01–20 (R386). -/
def pc_pvid : Nat := 0x3015
/-- 0x3016:01–20 (R386). -/
def pc_vid_accept : Nat := 0x3016
/-- 0x3017:01–20 (R386). -/
def pc_tc_source : Nat := 0x3017
/-- 0x3018:01–20 (R386). -/
def pc_rx_strip : Nat := 0x3018
/-- 0x3019:01–20 (R386). -/
def pc_paused : Nat := 0x3019
/-- 0x301A:01–21 (R386). -/
def pc_ptp_ingress_latency : Nat := 0x301A
/-- 0x301B:01–21 (R386). -/
def pc_ptp_egress_latency : Nat := 0x301B
/-- 0x3020–0x3027:01–20 (R386). -/
def pc_tx_tag : Nat := 0x3020
/-- 0x3040:00 (R386). -/
def pc_ptp_enable : Nat := 0x3040
/-- 0x3041:00 (R386). -/
def pc_ptp_link : Nat := 0x3041
/-- 0x3042:00 (R386). -/
def pc_ptp_domain : Nat := 0x3042
/-- 0x3043:00 (R386). -/
def pc_ptp_transport : Nat := 0x3043
/-- 0x3044:00 (R386). -/
def pc_ptp_state : Nat := 0x3044
/-- 0x3045:00 (R386). -/
def pc_ptp_offset : Nat := 0x3045
/-- 0x3046:00 (R386). -/
def pc_clock_time : Nat := 0x3046
/-- 0x3047:00 (R386). -/
def pc_clock_rate_adj : Nat := 0x3047
/-- 0x3048:00 (R386). -/
def pc_ptp_tx_stamps : Nat := 0x3048
/-- 0x3049:00 (R386). -/
def pc_ptp_loss : Nat := 0x3049
/-- 0x3050:00 (R386). -/
def pc_sister_media : Nat := 0x3050
/-- 0x3100:01–21 (R386). -/
def pc_rx_frames : Nat := 0x3100
/-- 0x3101:01–21 (R386). -/
def pc_rx_bytes : Nat := 0x3101
/-- 0x3102:01–21 (R386). -/
def pc_rx_runts : Nat := 0x3102
/-- 0x3103:01–21 (R386). -/
def pc_rx_oversize : Nat := 0x3103
/-- 0x3104:01–21 (R386). -/
def pc_rx_fcs_errors : Nat := 0x3104
/-- 0x3105:01–20 (R386). -/
def pc_rx_staging_drops : Nat := 0x3105
/-- 0x3106:01–20 (R386). -/
def pc_rx_filtered : Nat := 0x3106
/-- 0x3107:01–20 (R386). -/
def pc_rx_vlan_discards : Nat := 0x3107
/-- 0x3108:01–20 (R386). -/
def pc_rx_unclassified : Nat := 0x3108
/-- 0x3109:01–20 (R386). -/
def pc_rx_pause_frames : Nat := 0x3109
/-- 0x310A:01–20 (R386). -/
def pc_rx_pause_ignored : Nat := 0x310A
/-- 0x310B:01–21 (R386). -/
def pc_tx_frames : Nat := 0x310B
/-- 0x310C:01–21 (R386). -/
def pc_tx_bytes : Nat := 0x310C
/-- 0x310D:01–20 (R386). -/
def pc_tx_pause_frames : Nat := 0x310D
/-- 0x310E:01–20 (R386). -/
def pc_tx_stomped : Nat := 0x310E
/-- 0x310F:01–21 (R386). -/
def pc_tx_link_down_drops : Nat := 0x310F
/-- 0x3110:01–21 (R386). -/
def pc_fec_corrected : Nat := 0x3110
/-- 0x3111:01–21 (R386). -/
def pc_fec_uncorrected : Nat := 0x3111
/-- 0x3112:01–20 (R386). -/
def pc_pause_storms : Nat := 0x3112
/-- 0x3130:00 (R386). -/
def pc_discard_samples : Nat := 0x3130
/-- 0x3800:01–05 (R386). -/
def sw_ct_ingress : Nat := 0x3800
/-- 0x3801:01–04 (R386). -/
def sw_ct_egress : Nat := 0x3801
/-- 0x3802:00 (R386). -/
def sw_ct_threshold : Nat := 0x3802
/-- 0x3803:00 (R386). -/
def sw_roce_tc : Nat := 0x3803
/-- 0x3804:00 (R386). -/
def sw_cnp_tc : Nat := 0x3804
/-- 0x3805:00 (R386). -/
def sw_mgmt_tc : Nat := 0x3805
/-- 0x3806:00 (R386). -/
def sw_strict_tc7 : Nat := 0x3806
/-- 0x3810–0x3817:01–20 (R386). -/
def sw_tc_weight : Nat := 0x3810
/-- 0x3820:00 (R386). -/
def sw_voq_limit : Nat := 0x3820
/-- 0x3821:00 (R386). -/
def sw_voq_now : Nat := 0x3821
/-- 0x3822:00 (R386). -/
def sw_voq_peak : Nat := 0x3822
/-- 0x3830:00 (R386). -/
def sw_ct_bad_egress : Nat := 0x3830
/-- 0x3831:00 (R386). -/
def sw_ct_bad_engine : Nat := 0x3831
/-- 0x3832:00 (R386). -/
def sw_mcast_descriptors : Nat := 0x3832
/-- 0x3833:00 (R386). -/
def sw_mcast_residue : Nat := 0x3833
/-- 0x3834:00 (R386). -/
def sw_mcast_reset : Nat := 0x3834
/-- 0x3835:01–07 (R386). -/
def sw_discards : Nat := 0x3835
/-- 0x9000:01–05 (R403). -/
def po_bed_size : Nat := 0x9000
/-- 0x9001:01–05 (R403). -/
def po_count : Nat := 0x9001
/-- 0x9002:01–05 (R403). -/
def po_count_next : Nat := 0x9002
/-- 0x9003:00 (R403). -/
def po_resize_state : Nat := 0x9003
/-- 0x9004:01–05 (R403). -/
def po_free : Nat := 0x9004
/-- 0x9005:01–05 (R403). -/
def po_free_min : Nat := 0x9005
/-- 0x9006:01–05 (R403). -/
def po_amber : Nat := 0x9006
/-- 0x9007:01–05 (R403). -/
def po_red : Nat := 0x9007
/-- 0x9008:01–05 (R403). -/
def po_black : Nat := 0x9008
/-- 0x9009:00 (R403). -/
def po_hysteresis : Nat := 0x9009
/-- 0x900A:01–05 (R403). -/
def po_level : Nat := 0x900A
/-- 0x900B:01–05 (R403). -/
def po_draws : Nat := 0x900B
/-- 0x900C:01–05 (R403). -/
def po_exhausted : Nat := 0x900C
/-- 0x900D:01–05 (R403). -/
def po_level_legs : Nat := 0x900D
/-- 0x9010:01–04 (R403). -/
def po_refused : Nat := 0x9010
/-- 0x9011:00 (R403). -/
def po_queue_used : Nat := 0x9011
/-- 0x9012:00 (R403). -/
def po_queue_waits : Nat := 0x9012
/-- 0x9013:00 (R403). -/
def po_bed_view : Nat := 0x9013
/-- 0x5000:00 (R422). -/
def cy_cores : Nat := 0x5000
/-- 0x5001:00 (R422). -/
def cy_key_slots : Nat := 0x5001
/-- 0x5002:00 (R422). -/
def cy_key_slots_used : Nat := 0x5002
/-- 0x5003:00 (R422). -/
def cy_key_store_entries : Nat := 0x5003
/-- 0x5004:00 (R422). -/
def cy_core_cache_entries : Nat := 0x5004
/-- 0x5005:00 (R422). -/
def cy_slot_view : Nat := 0x5005
/-- 0x5010:01–10 (R422). -/
def cy_core_state : Nat := 0x5010
/-- 0x5011:01–10 (R422). -/
def cy_core_passes : Nat := 0x5011
/-- 0x5012:01–10 (R422). -/
def cy_core_cache_loads : Nat := 0x5012
/-- 0x5013:00 (R422). -/
def cy_derivations : Nat := 0x5013
/-- 0x5014:00 (R422). -/
def cy_key_late : Nat := 0x5014
/-- 0x5015:00 (R422). -/
def cy_ghash_failures : Nat := 0x5015
/-- 0x5016:00 (R422). -/
def cy_retries : Nat := 0x5016
/-- 0x5017:00 (R422). -/
def cy_retry_failures : Nat := 0x5017
/-- 0x5018:00 (R422). -/
def cy_core_reset : Nat := 0x5018
/-- 0x5019:00 (R422). -/
def cy_core_reset_result : Nat := 0x5019
/-- 0x5020:00 (R422). -/
def cy_owner_root_state : Nat := 0x5020
/-- 0x5021:00 (R422). -/
def cy_owner_root : Nat := 0x5021
/-- 0x5022:00 (R422). -/
def cy_owner_root_result : Nat := 0x5022
/-- 0x5023:00 (R422). -/
def cy_dev_key_state : Nat := 0x5023
/-- 0x5030:00 (R422). -/
def cy_host_key_hostid : Nat := 0x5030
/-- 0x5031:00 (R422). -/
def cy_host_key_derive : Nat := 0x5031
/-- 0x5032:00 (R422). -/
def cy_host_key : Nat := 0x5032
/-- 0x5400+n:01 (R422). -/
def cy_ns_key_gen : Nat := 0x5400
/-- 0x5400+n:02 (R422). -/
def cy_ns_key_slot : Nat := 0x5400
/-- 0x2000:01–02 (R452). -/
def gh_feed_voltage : Nat := 0x2000
/-- 0x2001:01–02 (R452). -/
def gh_feed_current : Nat := 0x2001
/-- 0x2002:01–02 (R452). -/
def gh_feed_power : Nat := 0x2002
/-- 0x2003:01–02 (R452). -/
def gh_feed_energy : Nat := 0x2003
/-- 0x2004:01–02 (R452). -/
def gh_feed_state : Nat := 0x2004
/-- 0x2005:00 (R452). -/
def gh_feed_selected : Nat := 0x2005
/-- 0x2006:00 (R452). -/
def gh_feed_priority : Nat := 0x2006
/-- 0x2007:00 (R452). -/
def gh_feed_uv_rising : Nat := 0x2007
/-- 0x2008:00 (R452). -/
def gh_feed_uv_falling : Nat := 0x2008
/-- 0x2009:00 (R452). -/
def gh_feed_return_delay : Nat := 0x2009
/-- 0x200A:00 (R452). -/
def gh_feed_changeovers : Nat := 0x200A
/-- 0x2010:00 (R452). -/
def gh_board_state : Nat := 0x2010
/-- 0x2011:00 (R452). -/
def gh_bus_voltage : Nat := 0x2011
/-- 0x2012:00 (R452). -/
def gh_board_current : Nat := 0x2012
/-- 0x2013:00 (R452). -/
def gh_board_limit : Nat := 0x2013
/-- 0x2014:00 (R452). -/
def gh_board_let_through : Nat := 0x2014
/-- 0x2015:00 (R452). -/
def gh_inrush_slew : Nat := 0x2015
/-- 0x2016:00 (R452). -/
def gh_board_pg_timeout : Nat := 0x2016
/-- 0x2017:00 (R452). -/
def gh_board_trips : Nat := 0x2017
/-- 0x2018:00 (R452). -/
def gh_board_off_remaining : Nat := 0x2018
/-- 0x2019:00 (R452). -/
def gh_board_unlatch : Nat := 0x2019
/-- 0x201A:00 (R452). -/
def gh_board_unlatch_result : Nat := 0x201A
/-- 0x201B:00 (R452). -/
def gh_holdup_bus_voltage : Nat := 0x201B
/-- 0x2100:01–18 (R452). -/
def gh_bay_state : Nat := 0x2100
/-- 0x2101:01–18 (R452). -/
def gh_bay_voltage : Nat := 0x2101
/-- 0x2102:01–18 (R452). -/
def gh_bay_current : Nat := 0x2102
/-- 0x2103:01–18 (R452). -/
def gh_bay_power : Nat := 0x2103
/-- 0x2104:01–18 (R452). -/
def gh_bay_energy : Nat := 0x2104
/-- 0x2105:01–18 (R452). -/
def gh_bay_limit : Nat := 0x2105
/-- 0x2106:01–18 (R452). -/
def gh_bay_let_through : Nat := 0x2106
/-- 0x2107:01–18 (R452). -/
def gh_bay_pg_threshold : Nat := 0x2107
/-- 0x2108:01–18 (R452). -/
def gh_bay_pg_timeout : Nat := 0x2108
/-- 0x2109:01–18 (R452). -/
def gh_bay_slew : Nat := 0x2109
/-- 0x210A:01–18 (R452). -/
def gh_bay_sense : Nat := 0x210A
/-- 0x210B:01–18 (R452). -/
def gh_bay_enable : Nat := 0x210B
/-- 0x210C:01–18 (R452). -/
def gh_bay_present : Nat := 0x210C
/-- 0x210D:01–18 (R452). -/
def gh_bay_trips : Nat := 0x210D
/-- 0x210E:01–18 (R452). -/
def gh_bay_off_remaining : Nat := 0x210E
/-- 0x210F:01–18 (R452). -/
def gh_bay_attempt_time : Nat := 0x210F
/-- 0x2110:01–18 (R452). -/
def gh_bay_trip_count : Nat := 0x2110
/-- 0x2111:00 (R452). -/
def gh_bay_unlatch : Nat := 0x2111
/-- 0x2112:00 (R452). -/
def gh_bay_unlatch_result : Nat := 0x2112
/-- 0x2113:00 (R452). -/
def gh_bay_stagger : Nat := 0x2113
/-- 0x2114:00 (R452). -/
def gh_bay_rail_voltage : Nat := 0x2114
/-- 0x2200:00 (R452). -/
def gh_bank_voltage : Nat := 0x2200
/-- 0x2201:00 (R452). -/
def gh_bank_capacitance : Nat := 0x2201
/-- 0x2202:00 (R452). -/
def gh_bank_energy_ceiling : Nat := 0x2202
/-- 0x2203:00 (R452). -/
def gh_bank_energy : Nat := 0x2203
/-- 0x2204:00 (R452). -/
def gh_bank_target_voltage : Nat := 0x2204
/-- 0x2205:00 (R452). -/
def gh_bank_state : Nat := 0x2205
/-- 0x2206:00 (R452). -/
def gh_bank_voltage_limit : Nat := 0x2206
/-- 0x2207:00 (R452). -/
def gh_bank_charge_power : Nat := 0x2207
/-- 0x2208:00 (R452). -/
def gh_bank_c_nominal : Nat := 0x2208
/-- 0x2209:00 (R452). -/
def gh_bank_c_warn : Nat := 0x2209
/-- 0x220A:00 (R452). -/
def gh_bank_esr : Nat := 0x220A
/-- 0x220B:00 (R452). -/
def gh_bank_esr_limit : Nat := 0x220B
/-- 0x220C:00 (R452). -/
def gh_bank_residue : Nat := 0x220C
/-- 0x220D:00 (R452). -/
def gh_bank_measure : Nat := 0x220D
/-- 0x220E:00 (R452). -/
def gh_bank_measure_result : Nat := 0x220E
/-- 0x220F:00 (R452). -/
def gh_bank_measure_time : Nat := 0x220F
/-- 0x2210:00 (R452). -/
def gh_bank_last_measure : Nat := 0x2210
/-- 0x2300:01–0C (R452). -/
def gh_rail_used : Nat := 0x2300
/-- 0x2301:01–0C (R452). -/
def gh_rail_order : Nat := 0x2301
/-- 0x2302:01–0C (R452). -/
def gh_rail_delay : Nat := 0x2302
/-- 0x2303:01–0C (R452). -/
def gh_rail_pg_timeout : Nat := 0x2303
/-- 0x2304:01–0C (R452). -/
def gh_rail_light_drop : Nat := 0x2304
/-- 0x2305:01–0C (R452). -/
def gh_rail_state : Nat := 0x2305
/-- 0x2306:00 (R452). -/
def gh_rail_pg_deglitch : Nat := 0x2306
/-- 0x2307:00 (R452). -/
def gh_rail_faults : Nat := 0x2307
/-- 0x2400:00 (R452). -/
def gh_shelf_time : Nat := 0x2400
/-- 0x2401:00 (R452). -/
def gh_time_source : Nat := 0x2401
/-- 0x2402:00 (R452). -/
def gh_time_set : Nat := 0x2402
/-- 0x2403:00 (R452). -/
def gh_time_set_result : Nat := 0x2403
/-- 0x2404:00 (R452). -/
def gh_time_offset : Nat := 0x2404
/-- 0x2405:00 (R452). -/
def gh_calendar_trim : Nat := 0x2405
/-- 0xE000:00 (R470). -/
def fw_mode : Nat := 0xE000
/-- 0xE001:00 (R470). -/
def fw_start_policy : Nat := 0xE001
/-- 0xE002:00 (R470). -/
def fw_start : Nat := 0xE002
/-- 0xE003:00 (R470). -/
def fw_shutdown : Nat := 0xE003
/-- 0xE004:00 (R470). -/
def fw_shutdown_result : Nat := 0xE004
/-- 0xE005:00 (R470). -/
def fw_muster_step : Nat := 0xE005
/-- 0xE006:01–0D (R470). -/
def fw_muster_times : Nat := 0xE006
/-- 0xE007:00 (R470). -/
def fw_drain_causes : Nat := 0xE007
/-- 0xE008:00 (R470). -/
def fw_warm_reset : Nat := 0xE008
/-- 0xE009:00 (R470). -/
def fw_warm_resets : Nat := 0xE009
/-- 0xE010:01–02 (R470). -/
def fw_slot_revision : Nat := 0xE010
/-- 0xE011:01–02 (R470). -/
def fw_slot_security_version : Nat := 0xE011
/-- 0xE012:00 (R470). -/
def fw_active_slot : Nat := 0xE012
/-- 0xE013:00 (R470). -/
def fw_next_slot : Nat := 0xE013
/-- 0xE014:00 (R470). -/
def fw_rollback_floor : Nat := 0xE014
/-- 0xE015:00 (R470). -/
def fw_confirm_time : Nat := 0xE015
/-- 0xE016:00 (R470). -/
def fw_boot_state : Nat := 0xE016
/-- 0xE017:00 (R470). -/
def fw_package_cause : Nat := 0xE017
/-- 0xE018:00 (R470). -/
def fw_recovery_image : Nat := 0xE018
/-- 0xE020:00 (R470). -/
def fw_vendor_key_digest : Nat := 0xE020
/-- 0xE021:00 (R470). -/
def fw_owner_key : Nat := 0xE021
/-- 0xE022:00 (R470). -/
def fw_owner_key_state : Nat := 0xE022
/-- 0xE023:00 (R470). -/
def fw_owner_key_digest : Nat := 0xE023
/-- 0xE024:00 (R470). -/
def fw_owner_key_result : Nat := 0xE024
/-- 0xE030:00 (R470). -/
def fw_unit_reset : Nat := 0xE030
/-- 0xE031:00 (R470). -/
def fw_unit_reset_result : Nat := 0xE031
/-- 0xE032:00 (R470). -/
def fw_root_reset_limit : Nat := 0xE032
/-- 0xE033:00 (R470). -/
def fw_unit_resets : Nat := 0xE033
/-- 0x1000:00 (R498). -/
def fw_vendor_name : Nat := 0x1000
/-- 0x1001:00 (R498). -/
def fw_part_name : Nat := 0x1001
/-- 0x1002:00 (R498). -/
def fw_ordering_code : Nat := 0x1002
/-- 0x1003:00 (R498). -/
def fw_stepping : Nat := 0x1003
/-- 0x1004:00 (R498). -/
def fw_hbm_capacity : Nat := 0x1004
/-- 0x1005:00 (R498). -/
def fw_serial : Nat := 0x1005
/-- 0x1006:00 (R498). -/
def fw_manufacture_time : Nat := 0x1006
/-- 0x1007:00 (R498). -/
def fw_device_key : Nat := 0x1007
/-- 0x1008:00 (R498). -/
def fw_device_key_digest : Nat := 0x1008
/-- 0x1010:00 (R498). -/
def fw_dictionary_scope : Nat := 0x1010
/-- 0x1011:00 (R498). -/
def fw_dictionary_version : Nat := 0x1011
/-- 0x1100:00 (R498). -/
def gh_field_mac : Nat := 0x1100
/-- 0x1101:00 (R498). -/
def gh_field_address : Nat := 0x1101
/-- 0x1102:00 (R498). -/
def gh_plca_node_id : Nat := 0x1102
/-- 0x1103:00 (R498). -/
def gh_plca_node_count : Nat := 0x1103
/-- 0x1104:00 (R498). -/
def gh_plca_burst : Nat := 0x1104
/-- 0x1105:00 (R498). -/
def gh_plca_to : Nat := 0x1105
/-- 0x1106:00 (R498). -/
def gh_field_link : Nat := 0x1106
/-- 0x1107:00 (R498). -/
def gh_field_rx_frames : Nat := 0x1107
/-- 0x1108:00 (R498). -/
def gh_field_tx_frames : Nat := 0x1108
/-- 0x1109:00 (R498). -/
def gh_field_rx_drops : Nat := 0x1109
/-- 0x1200:00 (R498). -/
def fw_sessions_max : Nat := 0x1200
/-- 0x1201:00 (R498). -/
def fw_sessions_open : Nat := 0x1201
/-- 0x1202:00 (R498). -/
def fw_session_idle : Nat := 0x1202
/-- 0x1203:00 (R498). -/
def fw_session_view : Nat := 0x1203
/-- 0x1204:00 (R498). -/
def fw_auth_failures : Nat := 0x1204
/-- 0x1205:00 (R498). -/
def fw_tag_failures : Nat := 0x1205
/-- 0x1206:00 (R498). -/
def fw_counter_drops : Nat := 0x1206
/-- 0x1300:01–10 (R498). -/
def fw_cred_digest : Nat := 0x1300
/-- 0x1301:01–10 (R498). -/
def fw_cred_class : Nat := 0x1301
/-- 0x1302:01–10 (R498). -/
def fw_cred_role : Nat := 0x1302
/-- 0x1303:01–10 (R498). -/
def fw_cred_secret : Nat := 0x1303
/-- 0x1304:01–10 (R498). -/
def fw_cred_label : Nat := 0x1304
/-- 0x1F10:01–04 (R498). -/
def fw_violations : Nat := 0x1F10
/-- 0xD000:00 (R520). -/
def ep_vendor_id : Nat := 0xD000
/-- 0xD001:00 (R520). -/
def ep_device_id : Nat := 0xD001
/-- 0xD002:00 (R520). -/
def ep_subsystem_id : Nat := 0xD002
/-- 0xD003:00 (R520). -/
def ep_sris : Nat := 0xD003
/-- 0xD004:00 (R520). -/
def ep_rom_enable : Nat := 0xD004
/-- 0xD005:00 (R520). -/
def ep_party : Nat := 0xD005
/-- 0xD006:00 (R520). -/
def ep_bar2_class : Nat := 0xD006
/-- 0xD010:00 (R520). -/
def ep_link_state : Nat := 0xD010
/-- 0xD011:00 (R520). -/
def ep_link_rate : Nat := 0xD011
/-- 0xD012:00 (R520). -/
def ep_link_width : Nat := 0xD012
/-- 0xD013:00 (R520). -/
def ep_power_state : Nat := 0xD013
/-- 0xD014:00 (R520). -/
def ep_interrupt_mode : Nat := 0xD014
/-- 0xD020:00 (R520). -/
def ep_tag_pool : Nat := 0xD020
/-- 0xD021:00 (R520). -/
def ep_tags_outstanding : Nat := 0xD021
/-- 0xD022:00 (R520). -/
def ep_tag_waits : Nat := 0xD022
/-- 0xD023:00 (R520). -/
def ep_cpl_timeouts : Nat := 0xD023
/-- 0xD024:00 (R520). -/
def ep_bme_discards : Nat := 0xD024
/-- 0xD025:00 (R520). -/
def ep_held_entries : Nat := 0xD025
/-- 0xD030:01–03 (R520). -/
def ep_errors : Nat := 0xD030
/-- 0xD031:00 (R520). -/
def ep_resets : Nat := 0xD031
/-- 0xD032:00 (R520). -/
def ep_commands_dropped : Nat := 0xD032
/-- 0xD040:00 (R520). -/
def ep_ioq_max : Nat := 0xD040
/-- 0xD041:00 (R520). -/
def ep_ioq_used : Nat := 0xD041
/-- 0xC000:00 (R540). -/
def gb_size : Nat := 0xC000
/-- 0xC001:00 (R540). -/
def gb_used : Nat := 0xC001
/-- 0xC002:00 (R540). -/
def gb_seq_next : Nat := 0xC002
/-- 0xC003:00 (R540). -/
def gb_seq_oldest : Nat := 0xC003
/-- 0xC004:00 (R540). -/
def gb_window : Nat := 0xC004
/-- 0xC005:01–08 (R540). -/
def gb_dropped : Nat := 0xC005
/-- 0xC006:01–08 (R540). -/
def gb_overwritten : Nat := 0xC006
/-- 0xC007:00 (R540). -/
def gb_suppressed : Nat := 0xC007
/-- 0xC008:00 (R540). -/
def gb_rate_default : Nat := 0xC008
/-- 0xC009:00 (R540). -/
def gb_burst_default : Nat := 0xC009
/-- 0xC010:01–20 (R540). -/
def gb_rate_code : Nat := 0xC010
/-- 0xC011:01–20 (R540). -/
def gb_rate_rate : Nat := 0xC011
/-- 0xC012:01–20 (R540). -/
def gb_rate_burst : Nat := 0xC012
/-- 0xC020:00 (R540). -/
def gb_clear : Nat := 0xC020
/-- 0xC021:00 (R540). -/
def gb_clear_result : Nat := 0xC021
/-- 0xC030:00 (R540). -/
def gb_gate_size : Nat := 0xC030
/-- 0xC031:00 (R540). -/
def gb_gate_window : Nat := 0xC031
/-- 0xC032:00 (R540). -/
def gb_gate_merged : Nat := 0xC032
/-- 0xC033:00 (R540). -/
def gb_gate_suppressed : Nat := 0xC033
/-- 0xC034:01–08 (R540). -/
def gb_gate_dropped : Nat := 0xC034
/-- 0xC035:01–08 (R540). -/
def gb_gate_overwritten : Nat := 0xC035
/-- 0xC100:00 (R540). -/
def gb_dump_interval : Nat := 0xC100
/-- 0xC101:00 (R540). -/
def gb_dump_slots : Nat := 0xC101
/-- 0xC102:00 (R540). -/
def gb_dump : Nat := 0xC102
/-- 0xC103:00 (R540). -/
def gb_dumps_skipped : Nat := 0xC103
/-- 0xC110:01–10 (R540). -/
def gb_filter : Nat := 0xC110
/-- 0xC120:00 (R540). -/
def gb_sample_block : Nat := 0xC120
/-- 0xC121:00 (R540). -/
def gb_sample_filter : Nat := 0xC121
/-- 0xC122:00 (R540). -/
def gb_sample_period : Nat := 0xC122
/-- 0xC123:00 (R540). -/
def gb_samples : Nat := 0xC123
/-- 0xC124:00 (R540). -/
def gb_samples_lost : Nat := 0xC124
/-- 0xC130:00 (R540). -/
def gb_event_catalogue : Nat := 0xC130
/-- 0xC400+b:01 (R540). -/
def gb_unit_cycles : Nat := 0xC400
/-- 0xC400+b:02–09 (R540). -/
def gb_unit_counter : Nat := 0xC400
/-- 0xC400+b:0A (R540). -/
def gb_unit_overflow : Nat := 0xC400
/-- 0xC600+b:01–08 (R540). -/
def gb_unit_config : Nat := 0xC600
/-- 0x2800:00 (R540). -/
def gh_tally_gatehouse_seconds : Nat := 0x2800
/-- 0x2801:00 (R540). -/
def gh_tally_rail_seconds : Nat := 0x2801
/-- 0x2802:00 (R540). -/
def gh_tally_power_cycles : Nat := 0x2802
/-- 0x2803:00 (R540). -/
def gh_tally_gatehouse_resets : Nat := 0x2803
/-- 0x2804:01–02 (R540). -/
def gh_tally_feed_energy : Nat := 0x2804
/-- 0x2805:01–18 (R540). -/
def gh_tally_bay_insertions : Nat := 0x2805
/-- 0x2806:01–18 (R540). -/
def gh_tally_bay_trips : Nat := 0x2806
/-- 0x2807:00 (R540). -/
def gh_tally_board_trips : Nat := 0x2807
/-- 0x2808:00 (R540). -/
def gh_tally_capacitance : Nat := 0x2808
/-- 0x2809:00 (R540). -/
def gh_tally_holdups : Nat := 0x2809
/-- 0x280A:00 (R540). -/
def gh_tally_partial_flushes : Nat := 0x280A
/-- 0x280B:00 (R540). -/
def gh_tally_vault_erase_max : Nat := 0x280B
/-- 0x280C:00 (R540). -/
def gh_tally_vault_erase_mean : Nat := 0x280C
/-- 0x280D:00 (R540). -/
def gh_tally_vault_bytes : Nat := 0x280D
/-- 0x280E:00 (R540). -/
def gh_tally_vault_erase_rating : Nat := 0x280E
/-- 0x280F:00 (R540). -/
def gh_tally_takeovers : Nat := 0x280F
/-- 0x2810:00 (R540). -/
def gh_tally_warm_resets : Nat := 0x2810
/-- 0x2811:00 (R540). -/
def gh_tally_blocks_lost : Nat := 0x2811
/-- 0x2812:00 (R540). -/
def gh_tally_rollback_fw : Nat := 0x2812
/-- 0x2813:00 (R540). -/
def gh_tally_rollback_tt : Nat := 0x2813
/-- 0x2500:01–04 (R561). -/
def gh_die_temperature : Nat := 0x2500
/-- 0x2501:01–04 (R561). -/
def gh_die_temperature_peak : Nat := 0x2501
/-- 0x2502:00 (R561). -/
def gh_therm_trip_main : Nat := 0x2502
/-- 0x2503:00 (R561). -/
def gh_therm_trip_gatehouse : Nat := 0x2503
/-- 0x2504:00 (R561). -/
def gh_therm_trips : Nat := 0x2504

end Obj

/-- The objects of indexes 0x1000 on. -/
def objTable10 : List ObjRow := [
  ⟨0x1000, 1, 0, 0, .str, .const, 0, .same 0, [], 2, false, false⟩,
  ⟨0x1001, 1, 0, 0, .str, .const, 0, .same 0, [], 2, false, false⟩,
  ⟨0x1002, 1, 0, 0, .str, .const, 0, .same 0, [], 2, false, false⟩,
  ⟨0x1003, 1, 0, 0, .u 1, .const, 0, .same 176, [], 2, false, false⟩,
  ⟨0x1004, 1, 0, 0, .u 1, .const, 0, .byCode 36 24, [], 2, false, false⟩,
  ⟨0x1005, 1, 0, 0, .str, .const, 0, .same 0, [], 2, false, false⟩,
  ⟨0x1006, 1, 0, 0, .u 8, .const, 0, .same 0, [], 2, false, false⟩,
  ⟨0x1007, 1, 0, 0, .domain 0, .const, 0, .same 0, [], 2, false, false⟩,
  ⟨0x1008, 1, 0, 0, .domain 0, .const, 0, .same 0, [], 2, false, false⟩,
  ⟨0x1010, 1, 0, 0, .u 1, .ro, 0, .same 0, [], 0, false, false⟩,
  ⟨0x1011, 1, 0, 0, .u 2, .const, 0, .same 1, [], 2, false, false⟩]

/-- The objects of indexes 0x1100 on. -/
def objTable11 : List ObjRow := [
  ⟨0x1100, 1, 0, 0, .domain 0, .const, 0, .same 0, [], 2, false, false⟩,
  ⟨0x1101, 1, 0, 0, .domain 0, .ro, 0, .same 0, [], 0, false, false⟩,
  ⟨0x1102, 1, 0, 0, .u 1, .rw, 2, .same 255, [(0, 255)], 1, false, false⟩,
  ⟨0x1103, 1, 0, 0, .u 1, .rw, 2, .same 8, [(2, 255)], 1, false, false⟩,
  ⟨0x1104, 1, 0, 0, .u 1, .rw, 2, .same 0, [(0, 255)], 1, false, false⟩,
  ⟨0x1105, 1, 0, 0, .u 1, .rw, 2, .same 32, [(1, 255)], 1, false, false⟩,
  ⟨0x1106, 1, 0, 0, .u 1, .ro, 0, .same 0, [], 0, false, false⟩,
  ⟨0x1107, 1, 0, 0, .u 8, .ro, 0, .same 0, [], 0, true, false⟩,
  ⟨0x1108, 1, 0, 0, .u 8, .ro, 0, .same 0, [], 0, true, false⟩,
  ⟨0x1109, 1, 0, 0, .u 8, .ro, 0, .same 0, [], 0, true, false⟩]

/-- The objects of indexes 0x1200 on. -/
def objTable12 : List ObjRow := [
  ⟨0x1200, 1, 0, 0, .u 1, .const, 0, .same 8, [], 2, false, false⟩,
  ⟨0x1201, 1, 0, 0, .u 1, .ro, 0, .same 0, [], 0, false, false⟩,
  ⟨0x1202, 1, 0, 0, .u 4, .rw, 2, .same 60000, [(1000, 3600000)], 1, false, false⟩,
  ⟨0x1203, 1, 0, 0, .domain 0, .ro, 0, .same 0, [], 0, false, false⟩,
  ⟨0x1204, 1, 0, 0, .u 8, .ro, 0, .same 0, [], 0, true, false⟩,
  ⟨0x1205, 1, 0, 0, .u 8, .ro, 0, .same 0, [], 0, true, false⟩,
  ⟨0x1206, 1, 0, 0, .u 8, .ro, 0, .same 0, [], 0, true, false⟩]

/-- The objects of indexes 0x1300 on. -/
def objTable13 : List ObjRow := [
  ⟨0x1300, 1, 1, 16, .domain 64, .rw, 2, .same 0, [], 1, false, false⟩,
  ⟨0x1301, 1, 1, 16, .u 1, .rw, 2, .same 0, [(0, 2)], 1, false, false⟩,
  ⟨0x1302, 1, 1, 16, .u 1, .rw, 2, .same 0, [(0, 1)], 1, false, false⟩,
  ⟨0x1303, 1, 1, 16, .domain 32, .wo, 2, .same 0, [], 1, false, false⟩,
  ⟨0x1304, 1, 1, 16, .str, .rw, 2, .same 0, [], 1, false, false⟩]

/-- The objects of indexes 0x1F00 on. -/
def objTable1F : List ObjRow := [
  ⟨0x1F10, 1, 1, 4, .u 8, .ro, 0, .same 0, [], 0, true, false⟩]

/-- The objects of indexes 0x2000 on. -/
def objTable20 : List ObjRow := [
  ⟨0x2000, 1, 1, 2, .u 4, .ro, 0, .same 0, [], 0, false, false⟩,
  ⟨0x2001, 1, 1, 2, .u 4, .ro, 0, .same 0, [], 0, false, false⟩,
  ⟨0x2002, 1, 1, 2, .u 4, .ro, 0, .same 0, [], 0, false, false⟩,
  ⟨0x2003, 1, 1, 2, .u 8, .ro, 0, .same 0, [], 0, false, false⟩,
  ⟨0x2004, 1, 1, 2, .u 1, .ro, 0, .same 0, [], 0, false, false⟩,
  ⟨0x2005, 1, 0, 0, .u 1, .ro, 0, .same 0, [], 0, false, false⟩,
  ⟨0x2006, 1, 0, 0, .u 1, .rw, 2, .same 0, [(0, 1)], 1, false, false⟩,
  ⟨0x2007, 1, 0, 0, .u 4, .rw, 2, .same 8800, [(8200, 58000)], 1, false, false⟩,
  ⟨0x2008, 1, 0, 0, .u 4, .rw, 2, .same 8600, [(8000, 57900)], 1, false, false⟩,
  ⟨0x2009, 1, 0, 0, .u 8, .rw, 2, .same 1000000000, [(10000000, 60000000000)], 1, false, false⟩,
  ⟨0x200A, 1, 0, 0, .u 8, .ro, 0, .same 0, [], 0, true, false⟩,
  ⟨0x2010, 1, 0, 0, .u 1, .ro, 0, .same 0, [], 0, false, false⟩,
  ⟨0x2011, 1, 0, 0, .u 4, .ro, 0, .same 0, [], 0, false, false⟩,
  ⟨0x2012, 1, 0, 0, .u 4, .ro, 0, .same 0, [], 0, false, false⟩,
  ⟨0x2013, 1, 0, 0, .u 4, .rw, 2, .same 30000, [(5000, 40000)], 1, false, false⟩,
  ⟨0x2014, 1, 0, 0, .u 4, .rw, 2, .same 5000000, [(500000, 10000000)], 1, false, false⟩,
  ⟨0x2015, 1, 0, 0, .u 2, .rw, 2, .same 2000, [(200, 20000)], 1, false, false⟩,
  ⟨0x2016, 1, 0, 0, .u 4, .rw, 2, .same 100000000, [(10000000, 1000000000)], 1, false, false⟩,
  ⟨0x2017, 1, 0, 0, .u 1, .ro, 0, .same 0, [], 0, false, false⟩,
  ⟨0x2018, 1, 0, 0, .u 8, .ro, 0, .same 0, [], 0, false, false⟩,
  ⟨0x2019, 1, 0, 0, .action, .wo, 2, .same 0, [], 0, false, false⟩,
  ⟨0x201A, 1, 0, 0, .result, .ro, 2, .same 0, [], 0, false, false⟩,
  ⟨0x201B, 1, 0, 0, .u 4, .rw, 2, .same 36000, [(9000, 54000)], 1, false, false⟩]

/-- The objects of indexes 0x2100 on. -/
def objTable21 : List ObjRow := [
  ⟨0x2100, 1, 1, 24, .u 1, .ro, 0, .same 0, [], 0, false, false⟩,
  ⟨0x2101, 1, 1, 24, .u 4, .ro, 0, .same 0, [], 0, false, false⟩,
  ⟨0x2102, 1, 1, 24, .u 4, .ro, 0, .same 0, [], 0, false, false⟩,
  ⟨0x2103, 1, 1, 24, .u 4, .ro, 0, .same 0, [], 0, false, false⟩,
  ⟨0x2104, 1, 1, 24, .u 8, .ro, 0, .same 0, [], 0, false, false⟩,
  ⟨0x2105, 1, 1, 24, .u 4, .rw, 2, .same 6500, [(1000, 12000)], 1, false, false⟩,
  ⟨0x2106, 1, 1, 24, .u 4, .rw, 2, .same 2000000, [(100000, 5000000)], 1, false, false⟩,
  ⟨0x2107, 1, 1, 24, .u 4, .rw, 2, .same 10800, [(9000, 11800)], 1, false, false⟩,
  ⟨0x2108, 1, 1, 24, .u 4, .rw, 2, .same 50000000, [(5000000, 500000000)], 1, false, false⟩,
  ⟨0x2109, 1, 1, 24, .u 2, .rw, 2, .same 1200, [(100, 12000)], 1, false, false⟩,
  ⟨0x210A, 1, 1, 24, .u 4, .rw, 2, .same 2000, [(500, 10000)], 1, false, false⟩,
  ⟨0x210B, 1, 1, 24, .bool, .rw, 1, .same 1, [], 1, false, false⟩,
  ⟨0x210C, 1, 1, 24, .bool, .ro, 0, .same 0, [], 0, false, false⟩,
  ⟨0x210D, 1, 1, 24, .u 1, .ro, 0, .same 0, [], 0, false, false⟩,
  ⟨0x210E, 1, 1, 24, .u 8, .ro, 0, .same 0, [], 0, false, false⟩,
  ⟨0x210F, 1, 1, 24, .u 8, .ro, 0, .same 0, [], 0, false, false⟩,
  ⟨0x2110, 1, 1, 24, .u 8, .ro, 0, .same 0, [], 0, true, false⟩,
  ⟨0x2111, 1, 0, 0, .action, .wo, 2, .same 0, [], 0, false, false⟩,
  ⟨0x2112, 1, 0, 0, .result, .ro, 2, .same 0, [], 0, false, false⟩,
  ⟨0x2113, 1, 0, 0, .u 4, .rw, 2, .same 50000000, [(0, 1000000000)], 1, false, false⟩,
  ⟨0x2114, 1, 0, 0, .u 4, .ro, 0, .same 0, [], 0, false, false⟩]

/-- The objects of indexes 0x2200 on. -/
def objTable22 : List ObjRow := [
  ⟨0x2200, 1, 0, 0, .u 4, .ro, 0, .same 0, [], 0, false, false⟩,
  ⟨0x2201, 1, 0, 0, .u 4, .ro, 0, .same 0, [], 1, false, false⟩,
  ⟨0x2202, 1, 0, 0, .u 4, .rw, 2, .same 18000000, [(1000000, 24000000)], 1, false, false⟩,
  ⟨0x2203, 1, 0, 0, .u 4, .ro, 0, .same 0, [], 0, false, false⟩,
  ⟨0x2204, 1, 0, 0, .u 4, .ro, 0, .same 0, [], 0, false, false⟩,
  ⟨0x2205, 1, 0, 0, .u 1, .ro, 0, .same 0, [], 0, false, false⟩,
  ⟨0x2206, 1, 0, 0, .u 4, .const, 0, .same 56000, [], 2, false, false⟩,
  ⟨0x2207, 1, 0, 0, .u 4, .rw, 2, .same 10000, [(1000, 30000)], 1, false, false⟩,
  ⟨0x2208, 1, 0, 0, .u 4, .rw, 2, .same 12000, [(1000, 40000)], 1, false, false⟩,
  ⟨0x2209, 1, 0, 0, .u 4, .rw, 2, .same 9000, [(0, 40000)], 1, false, false⟩,
  ⟨0x220A, 1, 0, 0, .u 4, .ro, 0, .same 0, [], 1, false, false⟩,
  ⟨0x220B, 1, 0, 0, .u 4, .rw, 2, .same 100000, [(10000, 1000000)], 1, false, false⟩,
  ⟨0x220C, 1, 0, 0, .u 4, .rw, 2, .same 2500000, [(500000, 2500000)], 1, false, false⟩,
  ⟨0x220D, 1, 0, 0, .action, .wo, 2, .same 0, [], 0, false, false⟩,
  ⟨0x220E, 1, 0, 0, .result, .ro, 1, .same 0, [], 0, false, false⟩,
  ⟨0x220F, 1, 0, 0, .u 4, .rw, 2, .same 10800, [(0, 86399)], 1, false, false⟩,
  ⟨0x2210, 1, 0, 0, .u 8, .ro, 0, .same 0, [], 1, false, false⟩]

/-- The objects of indexes 0x2300 on. -/
def objTable23 : List ObjRow := [
  ⟨0x2300, 1, 1, 12, .bool, .rw, 2, .same 1, [], 1, false, false⟩,
  ⟨0x2301, 1, 1, 12, .u 1, .rw, 2, .subLess1, [(0, 11)], 1, false, false⟩,
  ⟨0x2302, 1, 1, 12, .u 4, .rw, 2, .same 1000000, [(0, 100000000)], 1, false, false⟩,
  ⟨0x2303, 1, 1, 12, .u 4, .rw, 2, .same 10000000, [(100000, 100000000)], 1, false, false⟩,
  ⟨0x2304, 1, 1, 12, .bool, .rw, 2, .same 0, [], 1, false, false⟩,
  ⟨0x2305, 1, 1, 12, .u 1, .ro, 0, .same 0, [], 0, false, false⟩,
  ⟨0x2306, 1, 0, 0, .u 4, .rw, 2, .same 20000, [(2000, 1000000)], 1, false, false⟩,
  ⟨0x2307, 1, 0, 0, .u 4, .ro, 0, .same 0, [], 0, true, false⟩]

/-- The objects of indexes 0x2400 on. -/
def objTable24 : List ObjRow := [
  ⟨0x2400, 1, 0, 0, .u 8, .ro, 0, .same 0, [], 0, false, false⟩,
  ⟨0x2401, 1, 0, 0, .u 1, .ro, 0, .same 0, [], 0, false, false⟩,
  ⟨0x2402, 1, 0, 0, .action, .wo, 2, .same 0, [], 0, false, false⟩,
  ⟨0x2403, 1, 0, 0, .result, .ro, 2, .same 0, [], 0, false, false⟩,
  ⟨0x2404, 1, 0, 0, .i 8, .ro, 0, .same 0, [], 0, false, false⟩,
  ⟨0x2405, 1, 0, 0, .i 4, .ro, 0, .same 0, [], 1, false, false⟩]

/-- The objects of indexes 0x2500 on. -/
def objTable25 : List ObjRow := [
  ⟨0x2500, 1, 1, 4, .i 4, .ro, 0, .same 0, [], 0, false, false⟩,
  ⟨0x2501, 1, 1, 4, .i 4, .ro, 0, .same 0, [], 0, true, false⟩,
  ⟨0x2502, 1, 0, 0, .i 4, .const, 0, .same 112000, [], 2, false, false⟩,
  ⟨0x2503, 1, 0, 0, .i 4, .const, 0, .same 120000, [], 2, false, false⟩,
  ⟨0x2504, 1, 0, 0, .u 4, .ro, 0, .same 0, [], 1, false, false⟩]

/-- The objects of indexes 0x2800 on. -/
def objTable28 : List ObjRow := [
  ⟨0x2800, 1, 0, 0, .u 4, .ro, 0, .same 0, [], 1, false, false⟩,
  ⟨0x2801, 1, 0, 0, .u 4, .ro, 0, .same 0, [], 1, false, false⟩,
  ⟨0x2802, 1, 0, 0, .u 4, .ro, 0, .same 0, [], 1, false, false⟩,
  ⟨0x2803, 1, 0, 0, .u 4, .ro, 0, .same 0, [], 1, false, false⟩,
  ⟨0x2804, 1, 1, 2, .u 8, .ro, 0, .same 0, [], 1, false, false⟩,
  ⟨0x2805, 1, 1, 24, .u 4, .ro, 0, .same 0, [], 1, false, false⟩,
  ⟨0x2806, 1, 1, 24, .u 4, .ro, 0, .same 0, [], 1, false, false⟩,
  ⟨0x2807, 1, 0, 0, .u 4, .ro, 0, .same 0, [], 1, false, false⟩,
  ⟨0x2808, 1, 0, 0, .domain 0, .ro, 0, .same 0, [], 1, false, false⟩,
  ⟨0x2809, 1, 0, 0, .u 4, .ro, 0, .same 0, [], 1, false, false⟩,
  ⟨0x280A, 1, 0, 0, .u 4, .ro, 0, .same 0, [], 1, false, false⟩,
  ⟨0x280B, 1, 0, 0, .u 4, .ro, 0, .same 0, [], 1, false, false⟩,
  ⟨0x280C, 1, 0, 0, .u 4, .ro, 0, .same 0, [], 1, false, false⟩,
  ⟨0x280D, 1, 0, 0, .u 8, .ro, 0, .same 0, [], 1, false, false⟩,
  ⟨0x280E, 1, 0, 0, .u 4, .const, 0, .same 60000, [], 2, false, false⟩,
  ⟨0x280F, 1, 0, 0, .u 4, .ro, 0, .same 0, [], 1, false, false⟩,
  ⟨0x2810, 1, 0, 0, .u 4, .ro, 0, .same 0, [], 1, false, false⟩,
  ⟨0x2811, 1, 0, 0, .u 8, .ro, 0, .same 0, [], 1, false, false⟩,
  ⟨0x2812, 1, 0, 0, .u 4, .ro, 0, .same 0, [], 1, false, false⟩,
  ⟨0x2813, 1, 0, 0, .u 4, .ro, 0, .same 0, [], 1, false, false⟩]

/-- The objects of indexes 0x3000 on. -/
def objTable30 : List ObjRow := [
  ⟨0x3000, 1, 1, 4, .u 1, .rw, 2, .same 0, [(0, 4)], 1, false, false⟩,
  ⟨0x3001, 1, 1, 4, .u 1, .ro, 0, .same 0, [], 0, false, false⟩,
  ⟨0x3002, 1, 1, 4, .u 1, .rw, 2, .same 0, [(0, 2)], 1, false, false⟩,
  ⟨0x3003, 1, 1, 4, .bool, .rw, 2, .same 0, [], 1, false, false⟩,
  ⟨0x3004, 1, 1, 4, .u 1, .rw, 2, .same 0, [], 1, false, false⟩,
  ⟨0x3005, 1, 1, 4, .domain 512, .rw, 1, .same 0, [], 1, false, false⟩,
  ⟨0x3006, 1, 1, 4, .u 4, .rw, 1, .same 16434824, [], 1, false, false⟩,
  ⟨0x3007, 1, 1, 4, .domain 64, .rw, 1, .same 0, [], 1, false, false⟩,
  ⟨0x3008, 1, 0, 0, .u 2, .rw, 2, .same 0, [(0, 4094)], 1, false, false⟩,
  ⟨0x3009, 1, 0, 0, .u 4, .rw, 1, .same 65536, [(16384, 524288)], 1, false, false⟩,
  ⟨0x300A, 1, 0, 0, .u 4, .rw, 1, .same 32768, [], 1, false, false⟩,
  ⟨0x300B, 1, 0, 0, .u 2, .rw, 1, .same 65535, [(256, 65535)], 1, false, false⟩,
  ⟨0x300C, 1, 0, 0, .u 4, .rw, 1, .same 65536, [(8192, 524288)], 1, false, false⟩,
  ⟨0x300D, 1, 0, 0, .u 4, .const, 0, .same 1048576, [], 2, false, false⟩,
  ⟨0x300E, 1, 0, 0, .u 4, .const, 0, .same 524288, [], 2, false, false⟩,
  ⟨0x300F, 1, 0, 0, .u 4, .rw, 1, .same 100000000, [(1000000, 4000000000)], 1, false, false⟩,
  ⟨0x3010, 1, 1, 33, .bool, .ro, 0, .same 0, [], 0, false, false⟩,
  ⟨0x3011, 1, 1, 33, .u 4, .ro, 0, .same 0, [], 0, false, false⟩,
  ⟨0x3012, 1, 1, 32, .domain 6, .rw, 2, .same 0, [], 1, false, false⟩,
  ⟨0x3013, 1, 1, 32, .u 1, .rw, 1, .same 2, [(0, 2)], 1, false, false⟩,
  ⟨0x3014, 1, 1, 32, .u 1, .rw, 1, .same 8, [], 1, false, false⟩,
  ⟨0x3015, 1, 1, 32, .u 2, .rw, 1, .same 1, [(0, 4094)], 1, false, false⟩,
  ⟨0x3016, 1, 1, 32, .domain 512, .rw, 1, .same 0, [], 1, false, false⟩,
  ⟨0x3017, 1, 1, 32, .u 1, .rw, 1, .same 0, [(0, 1)], 1, false, false⟩,
  ⟨0x3018, 1, 1, 32, .u 1, .rw, 1, .same 255, [], 1, false, false⟩,
  ⟨0x3019, 1, 1, 32, .u 1, .ro, 0, .same 0, [], 0, false, false⟩,
  ⟨0x301A, 1, 1, 33, .i 4, .rw, 2, .same 0, [(-100000, 100000)], 1, false, false⟩,
  ⟨0x301B, 1, 1, 33, .i 4, .rw, 2, .same 0, [(-100000, 100000)], 1, false, false⟩,
  ⟨0x3020, 8, 1, 32, .u 2, .rw, 1, .same 0, [], 1, false, false⟩,
  ⟨0x3040, 1, 0, 0, .bool, .rw, 1, .same 1, [], 1, false, false⟩,
  ⟨0x3041, 1, 0, 0, .u 1, .rw, 1, .same 0, [(0, 31)], 1, false, false⟩,
  ⟨0x3042, 1, 0, 0, .u 1, .rw, 1, .same 0, [(0, 255)], 1, false, false⟩,
  ⟨0x3043, 1, 0, 0, .u 1, .rw, 1, .same 2, [(0, 2)], 1, false, false⟩,
  ⟨0x3044, 1, 0, 0, .u 1, .ro, 0, .same 0, [], 0, false, false⟩,
  ⟨0x3045, 1, 0, 0, .i 8, .ro, 0, .same 0, [], 0, false, false⟩,
  ⟨0x3046, 1, 0, 0, .u 8, .ro, 0, .same 0, [], 0, false, false⟩,
  ⟨0x3047, 1, 0, 0, .i 4, .ro, 0, .same 0, [], 0, false, false⟩,
  ⟨0x3048, 1, 0, 0, .domain 0, .ro, 0, .same 0, [], 0, false, false⟩,
  ⟨0x3049, 1, 0, 0, .u 8, .rw, 2, .same 3000000000, [(100000000, 60000000000)], 1, false, false⟩,
  ⟨0x3050, 1, 0, 0, .u 1, .rw, 2, .same 0, [(0, 0), (2, 2)], 1, false, false⟩]

/-- The objects of indexes 0x3100 on. -/
def objTable31 : List ObjRow := [
  ⟨0x3100, 1, 1, 33, .u 8, .ro, 0, .same 0, [], 0, true, false⟩,
  ⟨0x3101, 1, 1, 33, .u 8, .ro, 0, .same 0, [], 0, true, false⟩,
  ⟨0x3102, 1, 1, 33, .u 8, .ro, 0, .same 0, [], 0, true, false⟩,
  ⟨0x3103, 1, 1, 33, .u 8, .ro, 0, .same 0, [], 0, true, false⟩,
  ⟨0x3104, 1, 1, 33, .u 8, .ro, 0, .same 0, [], 0, true, false⟩,
  ⟨0x3105, 1, 1, 32, .u 8, .ro, 0, .same 0, [], 0, true, false⟩,
  ⟨0x3106, 1, 1, 32, .u 8, .ro, 0, .same 0, [], 0, true, false⟩,
  ⟨0x3107, 1, 1, 32, .u 8, .ro, 0, .same 0, [], 0, true, false⟩,
  ⟨0x3108, 1, 1, 32, .u 8, .ro, 0, .same 0, [], 0, true, false⟩,
  ⟨0x3109, 1, 1, 32, .u 8, .ro, 0, .same 0, [], 0, true, false⟩,
  ⟨0x310A, 1, 1, 32, .u 8, .ro, 0, .same 0, [], 0, true, false⟩,
  ⟨0x310B, 1, 1, 33, .u 8, .ro, 0, .same 0, [], 0, true, false⟩,
  ⟨0x310C, 1, 1, 33, .u 8, .ro, 0, .same 0, [], 0, true, false⟩,
  ⟨0x310D, 1, 1, 32, .u 8, .ro, 0, .same 0, [], 0, true, false⟩,
  ⟨0x310E, 1, 1, 32, .u 8, .ro, 0, .same 0, [], 0, true, false⟩,
  ⟨0x310F, 1, 1, 33, .u 8, .ro, 0, .same 0, [], 0, true, false⟩,
  ⟨0x3110, 1, 1, 33, .u 8, .ro, 0, .same 0, [], 0, true, false⟩,
  ⟨0x3111, 1, 1, 33, .u 8, .ro, 0, .same 0, [], 0, true, false⟩,
  ⟨0x3112, 1, 1, 32, .u 8, .ro, 0, .same 0, [], 0, true, false⟩,
  ⟨0x3130, 1, 0, 0, .domain 0, .ro, 0, .same 0, [], 0, false, false⟩]

/-- The objects of indexes 0x3800 on. -/
def objTable38 : List ObjRow := [
  ⟨0x3800, 1, 1, 5, .u 1, .rw, 1, .perSub [0x7F, 0x7F, 0x7F, 0x7F, 0], [], 1, false, false⟩,
  ⟨0x3801, 1, 1, 4, .u 1, .rw, 1, .same 127, [], 1, false, false⟩,
  ⟨0x3802, 1, 0, 0, .u 2, .const, 0, .same 256, [], 2, false, false⟩,
  ⟨0x3803, 1, 0, 0, .u 1, .rw, 1, .same 3, [(0, 7)], 1, false, false⟩,
  ⟨0x3804, 1, 0, 0, .u 1, .rw, 1, .same 6, [(0, 7)], 1, false, false⟩,
  ⟨0x3805, 1, 0, 0, .u 1, .rw, 1, .same 7, [(0, 7)], 1, false, false⟩,
  ⟨0x3806, 1, 0, 0, .bool, .rw, 1, .same 1, [], 1, false, false⟩,
  ⟨0x3810, 8, 1, 32, .u 2, .rw, 1, .same 16, [(1, 1024)], 1, false, false⟩,
  ⟨0x3820, 1, 0, 0, .u 4, .rw, 2, .same 262144, [(65536, 4194304)], 1, false, false⟩,
  ⟨0x3821, 1, 0, 0, .domain 0, .ro, 0, .same 0, [], 0, false, false⟩,
  ⟨0x3822, 1, 0, 0, .domain 0, .ro, 0, .same 0, [], 0, true, false⟩,
  ⟨0x3830, 1, 0, 0, .u 8, .ro, 0, .same 0, [], 0, true, false⟩,
  ⟨0x3831, 1, 0, 0, .u 8, .ro, 0, .same 0, [], 0, true, false⟩,
  ⟨0x3832, 1, 0, 0, .u 8, .ro, 0, .same 0, [], 0, true, false⟩,
  ⟨0x3833, 1, 0, 0, .u 8, .ro, 0, .same 0, [], 0, true, false⟩,
  ⟨0x3834, 1, 0, 0, .u 8, .ro, 0, .same 0, [], 0, true, false⟩,
  ⟨0x3835, 1, 1, 7, .u 8, .ro, 0, .same 0, [], 0, true, false⟩]

/-- The objects of indexes 0x4000 on. -/
def objTable40 : List ObjRow := [
  ⟨0x4000, 1, 0, 0, .u 4, .const, 0, .same 65536, [], 2, false, false⟩,
  ⟨0x4001, 1, 0, 0, .u 2, .const, 0, .same 8192, [], 2, false, false⟩,
  ⟨0x4002, 1, 0, 0, .u 4, .ro, 0, .same 0, [], 0, false, false⟩,
  ⟨0x4003, 1, 0, 0, .u 8, .ro, 0, .same 0, [], 0, true, false⟩,
  ⟨0x4004, 1, 0, 0, .u 8, .ro, 0, .same 0, [], 0, true, false⟩,
  ⟨0x4005, 1, 0, 0, .u 8, .ro, 0, .same 0, [], 0, true, false⟩,
  ⟨0x4006, 1, 0, 0, .u 2, .ro, 0, .same 0, [], 0, false, false⟩,
  ⟨0x4007, 1, 0, 0, .u 8, .ro, 0, .same 0, [], 0, true, false⟩,
  ⟨0x4010, 1, 0, 0, .u 8, .ro, 0, .same 0, [], 0, true, false⟩,
  ⟨0x4011, 1, 0, 0, .u 8, .ro, 0, .same 0, [], 0, true, false⟩,
  ⟨0x4012, 1, 0, 0, .u 8, .ro, 0, .same 0, [], 0, true, false⟩,
  ⟨0x4013, 1, 0, 0, .u 4, .rw, 1, .same 262144, [(16384, 67108864)], 1, false, false⟩,
  ⟨0x4014, 1, 0, 0, .u 1, .rw, 1, .same 7, [(1, 7)], 1, false, false⟩,
  ⟨0x4020, 1, 0, 0, .u 8, .ro, 0, .same 0, [], 0, true, false⟩,
  ⟨0x4021, 1, 0, 0, .u 8, .ro, 0, .same 0, [], 0, true, false⟩,
  ⟨0x4022, 1, 0, 0, .action, .wo, 1, .same 0, [], 0, false, false⟩,
  ⟨0x4023, 1, 0, 0, .result, .ro, 1, .same 0, [], 0, false, false⟩,
  ⟨0x4024, 1, 0, 0, .u 4, .rw, 2, .same 1000000, [(100000, 100000000)], 1, false, false⟩,
  ⟨0x4030, 1, 0, 0, .u 4, .const, 0, .same 262144, [], 2, false, false⟩,
  ⟨0x4031, 1, 0, 0, .u 4, .ro, 0, .same 0, [], 0, false, false⟩,
  ⟨0x4032, 1, 0, 0, .u 2, .rw, 1, .same 128, [(0, 4096)], 1, false, false⟩,
  ⟨0x4033, 1, 0, 0, .u 4, .rw, 1, .same 10000000, [(1000000, 100000000)], 1, false, false⟩,
  ⟨0x4034, 1, 0, 0, .u 8, .ro, 0, .same 0, [], 0, true, false⟩,
  ⟨0x4035, 1, 0, 0, .u 8, .ro, 0, .same 0, [], 0, true, false⟩,
  ⟨0x4036, 1, 0, 0, .domain 0, .ro, 0, .same 0, [], 0, false, false⟩,
  ⟨0x4040, 1, 0, 0, .bool, .rw, 2, .same 1, [], 1, false, false⟩,
  ⟨0x4041, 1, 0, 0, .u 4, .rw, 1, .same 10000000, [(1000000, 100000000)], 1, false, false⟩,
  ⟨0x4042, 1, 0, 0, .u 4, .rw, 1, .same 8000, [(1000, 100000)], 1, false, false⟩,
  ⟨0x4043, 1, 0, 0, .u 4, .rw, 1, .same 200000, [(5000, 5000000)], 1, false, false⟩,
  ⟨0x4044, 1, 0, 0, .u 4, .const, 0, .byCode 4194304 2097152, [], 2, false, false⟩,
  ⟨0x4045, 1, 0, 0, .u 8, .ro, 0, .same 0, [], 0, true, false⟩,
  ⟨0x4046, 1, 0, 0, .u 8, .ro, 0, .same 0, [], 0, true, false⟩,
  ⟨0x4050, 1, 0, 0, .u 4, .rw, 2, .same 10000000, [(100000, 1000000000)], 1, false, false⟩,
  ⟨0x4051, 1, 1, 8, .u 8, .ro, 0, .same 0, [], 0, true, false⟩,
  ⟨0x4060, 1, 0, 0, .u 4, .rw, 1, .same 50000, [(5000, 1000000)], 1, false, false⟩,
  ⟨0x4061, 1, 0, 0, .u 1, .rw, 1, .same 4, [(1, 64)], 1, false, false⟩,
  ⟨0x4062, 1, 0, 0, .u 1, .rw, 1, .same 16, [(1, 255)], 1, false, false⟩,
  ⟨0x4063, 1, 0, 0, .u 4, .rw, 1, .same 200, [(1, 10000)], 1, false, false⟩,
  ⟨0x4064, 1, 0, 0, .u 4, .rw, 1, .same 100, [(100, 10000)], 1, false, false⟩,
  ⟨0x4065, 1, 0, 0, .u 8, .ro, 0, .same 0, [], 0, true, false⟩,
  ⟨0x4066, 1, 0, 0, .u 8, .ro, 0, .same 0, [], 0, true, false⟩]

/-- The objects of indexes 0x5000 on. -/
def objTable50 : List ObjRow := [
  ⟨0x5000, 1, 0, 0, .u 1, .const, 0, .same 16, [], 2, false, false⟩,
  ⟨0x5001, 1, 0, 0, .u 4, .const, 0, .same 65536, [], 2, false, false⟩,
  ⟨0x5002, 1, 0, 0, .u 4, .ro, 0, .same 0, [], 0, false, false⟩,
  ⟨0x5003, 1, 0, 0, .u 2, .const, 0, .same 8192, [], 2, false, false⟩,
  ⟨0x5004, 1, 0, 0, .u 1, .const, 0, .same 64, [], 2, false, false⟩,
  ⟨0x5005, 1, 0, 0, .domain 0, .ro, 0, .same 0, [], 0, false, false⟩,
  ⟨0x5010, 1, 1, 16, .u 1, .ro, 0, .same 0, [], 0, false, false⟩,
  ⟨0x5011, 1, 1, 16, .u 8, .ro, 0, .same 0, [], 0, true, false⟩,
  ⟨0x5012, 1, 1, 16, .u 8, .ro, 0, .same 0, [], 0, true, false⟩,
  ⟨0x5013, 1, 0, 0, .u 8, .ro, 0, .same 0, [], 0, true, false⟩,
  ⟨0x5014, 1, 0, 0, .u 8, .ro, 0, .same 0, [], 0, true, false⟩,
  ⟨0x5015, 1, 0, 0, .u 8, .ro, 0, .same 0, [], 0, true, false⟩,
  ⟨0x5016, 1, 0, 0, .u 8, .ro, 0, .same 0, [], 0, true, false⟩,
  ⟨0x5017, 1, 0, 0, .u 8, .ro, 0, .same 0, [], 0, true, false⟩,
  ⟨0x5018, 1, 0, 0, .action, .wo, 2, .same 0, [], 0, false, false⟩,
  ⟨0x5019, 1, 0, 0, .result, .ro, 2, .same 0, [], 0, false, false⟩,
  ⟨0x5020, 1, 0, 0, .u 1, .ro, 0, .same 0, [], 1, false, true⟩,
  ⟨0x5021, 1, 0, 0, .domain 32, .wo, 2, .same 0, [], 1, false, true⟩,
  ⟨0x5022, 1, 0, 0, .result, .ro, 2, .same 0, [], 0, false, true⟩,
  ⟨0x5023, 1, 0, 0, .u 1, .ro, 0, .same 0, [], 0, false, false⟩,
  ⟨0x5030, 1, 0, 0, .domain 16, .rw, 2, .same 0, [], 0, false, false⟩,
  ⟨0x5031, 1, 0, 0, .action, .wo, 2, .same 0, [], 0, false, false⟩,
  ⟨0x5032, 1, 0, 0, .result, .ro, 2, .same 0, [], 0, false, false⟩]

/-- The objects of indexes 0x5400 on. -/
def objTable54 : List ObjRow := [
  ⟨0x5400, 1024, 1, 1, .u 4, .ro, 0, .same 0, [], 1, false, false⟩,
  ⟨0x5400, 1024, 2, 2, .u 2, .ro, 0, .same 0, [], 0, false, false⟩]

/-- The objects of indexes 0x6000 on. -/
def objTable60 : List ObjRow := [
  ⟨0x6000, 1, 0, 0, .u 2, .const, 0, .same 2048, [], 2, false, false⟩,
  ⟨0x6001, 1, 0, 0, .u 2, .ro, 0, .same 0, [], 0, false, false⟩,
  ⟨0x6002, 1, 0, 0, .u 4, .const, 0, .same 65536, [], 2, false, false⟩,
  ⟨0x6003, 1, 0, 0, .u 4, .ro, 0, .same 0, [], 0, false, false⟩,
  ⟨0x6004, 1, 0, 0, .u 2, .rw, 1, .same 128, [(1, 65535)], 1, false, false⟩,
  ⟨0x6005, 1, 0, 0, .domain 0, .ro, 0, .same 0, [], 1, false, false⟩,
  ⟨0x6006, 1, 0, 0, .u 8, .ro, 0, .same 0, [], 0, true, false⟩,
  ⟨0x6010, 1, 0, 0, .bool, .rw, 2, .same 0, [], 1, false, false⟩,
  ⟨0x6011, 1, 0, 0, .u 1, .ro, 0, .same 0, [], 0, false, false⟩,
  ⟨0x6012, 1, 0, 0, .action, .wo, 1, .same 0, [], 0, false, false⟩,
  ⟨0x6013, 1, 0, 0, .result, .ro, 1, .same 0, [], 0, false, false⟩,
  ⟨0x6014, 1, 0, 0, .u 4, .rw, 1, .same 100000000, [(1000000, 1000000000)], 1, false, false⟩,
  ⟨0x6020, 1, 0, 0, .domain 256, .rw, 2, .same 0, [], 1, false, false⟩,
  ⟨0x6030, 1, 0, 0, .u 8, .ro, 0, .same 0, [], 0, true, false⟩,
  ⟨0x6031, 1, 0, 0, .u 8, .ro, 0, .same 0, [], 0, true, false⟩,
  ⟨0x6040, 1, 0, 0, .u 2, .rw, 2, .same 0, [(0, 1024)], 0, false, false⟩,
  ⟨0x6041, 1, 0, 0, .u 1, .rw, 2, .same 1, [(1, 2)], 0, false, false⟩,
  ⟨0x6042, 1, 0, 0, .u 2, .rw, 2, .same 0, [], 0, false, false⟩,
  ⟨0x6043, 1, 0, 0, .u 8, .rw, 2, .same 0, [], 0, false, false⟩,
  ⟨0x6044, 1, 0, 0, .action, .wo, 2, .same 0, [], 0, false, false⟩,
  ⟨0x6045, 1, 0, 0, .result, .ro, 2, .same 0, [], 0, false, false⟩,
  ⟨0x6046, 1, 0, 0, .action, .wo, 2, .same 0, [], 0, false, false⟩,
  ⟨0x6047, 1, 0, 0, .result, .ro, 2, .same 0, [], 0, false, false⟩]

/-- The objects of indexes 0x6100 on. -/
def objTable61 : List ObjRow := [
  ⟨0x6100, 1, 0, 0, .u 8, .rw, 2, .same 1000000000, [(10000000, 30000000000)], 1, false, false⟩,
  ⟨0x6101, 1, 0, 0, .u 8, .rw, 2, .same 10000000000, [(1000000000, 60000000000)], 1, false, false⟩,
  ⟨0x6102, 1, 0, 0, .u 8, .rw, 2, .same 100000000, [(1000000, 10000000000)], 1, false, false⟩,
  ⟨0x6103, 1, 0, 0, .u 4, .rw, 1, .same 2000000, [(0, 0), (100000, 1000000000)], 1, false, false⟩,
  ⟨0x6104, 1, 0, 0, .bool, .rw, 2, .same 1, [], 1, false, false⟩,
  ⟨0x6110, 1, 1, 24, .u 1, .ro, 0, .same 0, [], 0, false, false⟩,
  ⟨0x6111, 1, 1, 24, .u 1, .ro, 0, .same 0, [], 0, false, false⟩,
  ⟨0x6112, 1, 0, 0, .action, .wo, 2, .same 0, [], 0, false, false⟩,
  ⟨0x6113, 1, 0, 0, .action, .wo, 2, .same 0, [], 0, false, false⟩,
  ⟨0x6114, 1, 0, 0, .action, .wo, 2, .same 0, [], 0, false, false⟩,
  ⟨0x6120, 1, 0, 0, .u 8, .ro, 0, .same 0, [], 0, true, false⟩,
  ⟨0x6121, 1, 0, 0, .u 4, .ro, 0, .same 0, [], 0, true, false⟩,
  ⟨0x6122, 1, 0, 0, .u 8, .ro, 0, .same 0, [], 0, true, false⟩]

/-- The objects of indexes 0x6400 on. -/
def objTable64 : List ObjRow := [
  ⟨0x6400, 1024, 1, 1, .u 2, .rw, 2, .same 65535, [], 1, false, false⟩,
  ⟨0x6400, 1024, 2, 2, .domain 0, .ro, 0, .same 0, [], 1, false, false⟩,
  ⟨0x6400, 1024, 3, 3, .u 1, .ro, 0, .same 0, [], 1, false, false⟩,
  ⟨0x6400, 1024, 4, 4, .u 1, .ro, 0, .same 0, [], 1, false, false⟩,
  ⟨0x6400, 1024, 5, 5, .u 4, .ro, 0, .same 0, [], 1, false, false⟩]

/-- The objects of indexes 0x6800 on. -/
def objTable68 : List ObjRow := [
  ⟨0x6800, 1, 0, 0, .u 4, .const, 0, .same 262144, [], 2, false, false⟩,
  ⟨0x6801, 1, 0, 0, .u 4, .ro, 0, .same 0, [], 0, false, false⟩,
  ⟨0x6802, 1, 0, 0, .u 8, .ro, 0, .same 0, [], 0, true, false⟩,
  ⟨0x6803, 1, 0, 0, .u 8, .ro, 0, .same 0, [], 0, true, false⟩,
  ⟨0x6810, 1, 0, 0, .u 8, .rw, 2, .byCode 25769803776 15032385536, [(0, 30064771072)], 1, false, false⟩,
  ⟨0x6811, 1, 0, 0, .u 2, .rw, 1, .same 125, [(0, 500)], 1, false, false⟩,
  ⟨0x6812, 1, 0, 0, .u 4, .rw, 1, .same 1048576, [(0, 16777216)], 1, false, false⟩,
  ⟨0x6813, 1, 0, 0, .u 1, .rw, 1, .same 3, [(2, 16)], 1, false, false⟩,
  ⟨0x6814, 1, 0, 0, .u 1, .const, 0, .same 64, [], 2, false, false⟩,
  ⟨0x6815, 1, 0, 0, .u 4, .rw, 1, .same 2000000, [(100000, 100000000)], 1, false, false⟩,
  ⟨0x6820, 1, 0, 0, .u 8, .ro, 0, .same 0, [], 0, false, false⟩,
  ⟨0x6821, 1, 0, 0, .u 8, .ro, 0, .same 0, [], 0, false, false⟩,
  ⟨0x6830, 1, 0, 0, .u 8, .ro, 0, .same 0, [], 0, true, false⟩,
  ⟨0x6831, 1, 0, 0, .u 8, .ro, 0, .same 0, [], 0, true, false⟩,
  ⟨0x6832, 1, 0, 0, .u 8, .ro, 0, .same 0, [], 0, true, false⟩,
  ⟨0x6833, 1, 0, 0, .u 8, .ro, 0, .same 0, [], 0, true, false⟩,
  ⟨0x6834, 1, 0, 0, .u 8, .ro, 0, .same 0, [], 0, true, false⟩,
  ⟨0x6835, 1, 0, 0, .u 8, .ro, 0, .same 0, [], 0, true, false⟩,
  ⟨0x6836, 1, 0, 0, .u 8, .ro, 0, .same 0, [], 0, true, false⟩,
  ⟨0x6840, 1, 0, 0, .u 8, .ro, 0, .same 0, [], 0, true, false⟩,
  ⟨0x6841, 1, 0, 0, .u 8, .ro, 0, .same 0, [], 0, true, false⟩,
  ⟨0x6842, 1, 0, 0, .u 8, .ro, 0, .same 0, [], 0, true, false⟩,
  ⟨0x6843, 1, 0, 0, .u 8, .ro, 0, .same 0, [], 0, true, false⟩,
  ⟨0x6844, 1, 0, 0, .u 8, .ro, 0, .same 0, [], 0, true, false⟩,
  ⟨0x6850, 1, 0, 0, .u 8, .ro, 0, .same 0, [], 0, true, false⟩,
  ⟨0x6851, 1, 0, 0, .u 8, .ro, 0, .same 0, [], 0, true, false⟩]

/-- The objects of indexes 0x7000 on. -/
def objTable70 : List ObjRow := [
  ⟨0x7000, 1, 0, 0, .u 1, .const, 0, .same 8, [], 2, false, false⟩,
  ⟨0x7001, 1, 0, 0, .u 1, .const, 0, .same 64, [], 2, false, false⟩,
  ⟨0x7002, 1, 0, 0, .u 4, .const, 0, .same 1048576, [], 2, false, false⟩,
  ⟨0x7003, 1, 0, 0, .u 2, .const, 0, .same 506, [], 2, false, false⟩,
  ⟨0x7004, 1, 0, 0, .u 8, .const, 0, .same 1048576, [], 2, false, false⟩,
  ⟨0x7010, 1, 1, 2, .u 2, .ro, 0, .same 1, [], 1, false, false⟩,
  ⟨0x7011, 1, 1, 2, .domain 0, .ro, 0, .same 0, [], 1, false, false⟩,
  ⟨0x7012, 1, 1, 24, .u 2, .ro, 0, .same 1, [], 1, false, false⟩,
  ⟨0x7013, 1, 1, 24, .u 2, .ro, 0, .same 1, [], 1, false, false⟩,
  ⟨0x7014, 1, 1, 2, .u 8, .ro, 0, .same 0, [], 1, false, false⟩,
  ⟨0x7015, 1, 1, 24, .bool, .ro, 0, .same 0, [], 0, false, false⟩,
  ⟨0x7020, 1, 1, 8, .u 8, .ro, 0, .same 0, [], 0, true, false⟩,
  ⟨0x7021, 1, 1, 8, .u 8, .ro, 0, .same 0, [], 0, true, false⟩,
  ⟨0x7022, 1, 0, 0, .u 8, .ro, 0, .same 0, [], 0, true, false⟩,
  ⟨0x7023, 1, 0, 0, .u 8, .ro, 0, .same 0, [], 0, true, false⟩,
  ⟨0x7024, 1, 1, 7, .u 8, .ro, 0, .same 0, [], 0, true, false⟩,
  ⟨0x7025, 1, 0, 0, .u 8, .ro, 0, .same 0, [], 0, true, false⟩,
  ⟨0x7026, 1, 0, 0, .u 8, .ro, 0, .same 0, [], 0, true, false⟩]

/-- The objects of indexes 0x7100 on. -/
def objTable71 : List ObjRow := [
  ⟨0x7100, 1, 1, 2, .u 1, .ro, 0, .same 0, [], 0, false, false⟩,
  ⟨0x7101, 1, 0, 0, .u 4, .rw, 1, .same 180000, [(0, 180000)], 1, false, false⟩,
  ⟨0x7102, 1, 0, 0, .u 4, .const, 0, .same 180000, [], 2, false, false⟩,
  ⟨0x7103, 1, 0, 0, .u 4, .const, 0, .same 90000, [], 2, false, false⟩,
  ⟨0x7104, 1, 0, 0, .u 1, .rw, 1, .same 2, [(0, 8)], 1, false, false⟩,
  ⟨0x7105, 1, 1, 2, .u 8, .ro, 0, .same 0, [], 0, false, false⟩,
  ⟨0x7106, 1, 1, 2, .u 8, .ro, 0, .same 0, [], 0, false, false⟩,
  ⟨0x7107, 1, 1, 2, .u 8, .ro, 0, .same 0, [], 0, false, false⟩,
  ⟨0x7108, 1, 1, 2, .u 4, .ro, 0, .same 0, [], 0, false, false⟩,
  ⟨0x7109, 1, 1, 2, .u 4, .ro, 0, .same 0, [], 0, false, false⟩,
  ⟨0x710A, 1, 0, 0, .u 8, .ro, 0, .same 0, [], 0, true, false⟩,
  ⟨0x710B, 1, 0, 0, .u 8, .ro, 0, .same 0, [], 0, true, false⟩,
  ⟨0x710C, 1, 0, 0, .u 8, .ro, 0, .same 0, [], 0, true, false⟩,
  ⟨0x710D, 1, 0, 0, .u 8, .ro, 0, .same 0, [], 0, true, false⟩,
  ⟨0x710E, 1, 0, 0, .u 8, .ro, 0, .same 0, [], 0, true, false⟩,
  ⟨0x7110, 1, 0, 0, .u 8, .ro, 0, .same 0, [], 1, false, false⟩,
  ⟨0x7111, 1, 0, 0, .u 4, .ro, 0, .same 0, [], 1, false, false⟩]

/-- The objects of indexes 0x7200 on. -/
def objTable72 : List ObjRow := [
  ⟨0x7200, 1, 0, 0, .bool, .rw, 1, .same 1, [], 1, false, false⟩,
  ⟨0x7201, 1, 0, 0, .u 4, .rw, 1, .same 4000, [(0, 180000)], 1, false, false⟩,
  ⟨0x7202, 1, 1, 2, .u 8, .ro, 0, .same 0, [], 1, false, false⟩,
  ⟨0x7203, 1, 1, 2, .u 4, .ro, 0, .same 0, [], 1, false, false⟩,
  ⟨0x7204, 1, 1, 2, .u 8, .ro, 0, .same 0, [], 1, false, false⟩,
  ⟨0x7205, 1, 1, 2, .u 4, .ro, 0, .same 0, [], 1, false, false⟩,
  ⟨0x7206, 1, 0, 0, .u 8, .ro, 0, .same 0, [], 0, true, false⟩,
  ⟨0x7207, 1, 0, 0, .u 8, .ro, 0, .same 0, [], 0, true, false⟩,
  ⟨0x7208, 1, 0, 0, .u 8, .ro, 0, .same 0, [], 0, true, false⟩,
  ⟨0x7209, 1, 0, 0, .u 8, .ro, 0, .same 0, [], 0, true, false⟩,
  ⟨0x720A, 1, 0, 0, .u 8, .ro, 0, .same 0, [], 0, true, false⟩,
  ⟨0x720B, 1, 0, 0, .u 8, .ro, 0, .same 0, [], 0, true, false⟩,
  ⟨0x720C, 1, 0, 0, .u 2, .ro, 0, .same 0, [], 0, false, false⟩,
  ⟨0x720D, 1, 0, 0, .u 8, .ro, 0, .same 0, [], 0, true, false⟩,
  ⟨0x720E, 1, 0, 0, .domain 0, .ro, 0, .same 0, [], 1, false, false⟩,
  ⟨0x720F, 1, 0, 0, .action, .wo, 1, .same 0, [], 0, false, false⟩]

/-- The objects of indexes 0x7400 on. -/
def objTable74 : List ObjRow := [
  ⟨0x7400, 1024, 1, 1, .u 2, .ro, 0, .same 0, [], 1, false, false⟩,
  ⟨0x7400, 1024, 2, 2, .u 1, .ro, 0, .same 0, [], 1, false, false⟩,
  ⟨0x7400, 1024, 3, 3, .u 4, .ro, 0, .same 0, [], 1, false, false⟩,
  ⟨0x7400, 1024, 4, 4, .u 8, .ro, 0, .same 0, [], 1, false, false⟩,
  ⟨0x7400, 1024, 5, 5, .u 8, .ro, 0, .same 0, [], 1, false, false⟩,
  ⟨0x7400, 1024, 6, 6, .u 2, .ro, 0, .same 0, [], 1, false, false⟩,
  ⟨0x7400, 1024, 7, 7, .u 8, .ro, 0, .same 0, [], 0, false, false⟩,
  ⟨0x7400, 1024, 8, 8, .u 8, .ro, 0, .same 0, [], 0, false, false⟩]

/-- The objects of indexes 0x8000 on. -/
def objTable80 : List ObjRow := [
  ⟨0x8000, 1, 0, 0, .u 8, .rw, 2, .same 1073741824, [(0, 2147483648)], 1, false, false⟩,
  ⟨0x8001, 1, 0, 0, .u 8, .ro, 0, .same 0, [], 0, false, false⟩,
  ⟨0x8002, 1, 0, 0, .u 8, .ro, 0, .same 0, [], 0, false, false⟩,
  ⟨0x8003, 1, 0, 0, .u 8, .ro, 0, .same 0, [], 0, false, false⟩,
  ⟨0x8004, 1, 0, 0, .u 8, .ro, 0, .same 0, [], 0, false, false⟩,
  ⟨0x8005, 1, 1, 2, .u 8, .ro, 0, .same 1, [], 0, false, false⟩,
  ⟨0x8006, 1, 0, 0, .u 4, .ro, 0, .same 0, [], 0, false, false⟩,
  ⟨0x8007, 1, 0, 0, .u 4, .ro, 0, .same 0, [], 0, false, false⟩,
  ⟨0x8008, 1, 1, 2, .u 1, .ro, 0, .same 0, [], 0, false, false⟩,
  ⟨0x8009, 1, 0, 0, .u 8, .ro, 0, .same 0, [], 0, true, false⟩,
  ⟨0x800A, 1, 0, 0, .u 4, .ro, 0, .same 0, [], 0, true, false⟩,
  ⟨0x8010, 1, 0, 0, .u 1, .rw, 2, .same 0, [(0, 1)], 1, false, false⟩,
  ⟨0x8011, 1, 0, 0, .u 4, .ro, 0, .same 55000, [], 0, false, false⟩,
  ⟨0x8012, 1, 0, 0, .u 4, .ro, 0, .same 0, [], 1, false, false⟩,
  ⟨0x8013, 1, 0, 0, .u 4, .ro, 0, .same 0, [], 0, false, false⟩,
  ⟨0x8014, 1, 0, 0, .u 2, .const, 0, .same 1250, [], 2, false, false⟩,
  ⟨0x8015, 1, 0, 0, .u 2, .const, 0, .same 850, [], 2, false, false⟩,
  ⟨0x8016, 1, 0, 0, .u 4, .const, 0, .same 20000, [], 2, false, false⟩,
  ⟨0x8017, 1, 0, 0, .u 8, .const, 0, .same 8000000000, [], 2, false, false⟩,
  ⟨0x8018, 1, 0, 0, .u 4, .ro, 0, .same 0, [], 1, false, false⟩,
  ⟨0x8020, 1, 0, 0, .u 4, .rw, 2, .same 8400, [(7000, 56000)], 1, false, false⟩,
  ⟨0x8021, 1, 0, 0, .u 4, .rw, 2, .same 50000, [(30000, 1000000)], 1, false, false⟩,
  ⟨0x8022, 1, 1, 3, .u 1, .ro, 0, .same 0, [], 0, false, false⟩,
  ⟨0x8023, 1, 0, 0, .u 1, .ro, 0, .same 2, [], 0, false, false⟩,
  ⟨0x8030, 1, 0, 0, .u 4, .ro, 0, .same 0, [], 1, false, false⟩,
  ⟨0x8031, 1, 0, 0, .u 8, .ro, 0, .same 0, [], 1, false, false⟩,
  ⟨0x8032, 1, 0, 0, .u 8, .ro, 0, .same 0, [], 1, false, false⟩,
  ⟨0x8033, 1, 1, 2, .u 1, .ro, 0, .same 0, [], 1, false, false⟩,
  ⟨0x8034, 1, 1, 2, .u 8, .ro, 0, .same 0, [], 1, false, false⟩,
  ⟨0x8040, 1, 0, 0, .u 4, .const, 0, .same 917504, [], 2, false, false⟩,
  ⟨0x8041, 1, 1, 24, .u 4, .ro, 0, .same 0, [], 0, false, false⟩,
  ⟨0x8042, 1, 0, 0, .u 8, .ro, 0, .same 0, [], 0, true, false⟩,
  ⟨0x8043, 1, 0, 0, .u 8, .ro, 0, .same 0, [], 0, true, false⟩,
  ⟨0x8044, 1, 0, 0, .u 4, .ro, 0, .same 0, [], 0, false, false⟩,
  ⟨0x8045, 1, 0, 0, .u 8, .ro, 0, .same 0, [], 0, true, false⟩,
  ⟨0x8046, 1, 0, 0, .u 8, .ro, 0, .same 0, [], 1, false, false⟩,
  ⟨0x8050, 1, 0, 0, .u 8, .ro, 0, .same 0, [], 0, false, false⟩,
  ⟨0x8051, 1, 0, 0, .u 8, .ro, 0, .same 0, [], 0, false, false⟩,
  ⟨0x8052, 1, 0, 0, .u 8, .ro, 0, .same 0, [], 0, false, false⟩,
  ⟨0x8053, 1, 0, 0, .u 8, .ro, 0, .same 0, [], 0, false, false⟩,
  ⟨0x8054, 1, 0, 0, .u 4, .ro, 0, .same 0, [], 0, false, false⟩,
  ⟨0x8055, 1, 0, 0, .u 8, .ro, 0, .same 0, [], 0, false, false⟩]

/-- The objects of indexes 0x9000 on. -/
def objTable90 : List ObjRow := [
  ⟨0x9000, 1, 1, 5, .u 4, .const, 0, .perSub [256, 4096, 16384, 65536, 262144], [], 2, false, false⟩,
  ⟨0x9001, 1, 1, 5, .u 4, .ro, 0, .same 0, [], 0, false, false⟩,
  ⟨0x9002, 1, 1, 5, .u 4, .rw, 2, .perSub [131072, 16384, 2048, 512, 128], [], 1, false, false⟩,
  ⟨0x9003, 1, 0, 0, .u 1, .ro, 0, .same 0, [], 0, false, false⟩,
  ⟨0x9004, 1, 1, 5, .u 4, .ro, 0, .same 0, [], 0, false, false⟩,
  ⟨0x9005, 1, 1, 5, .u 4, .ro, 0, .same 0, [], 0, true, false⟩,
  ⟨0x9006, 1, 1, 5, .u 2, .rw, 1, .same 256, [], 1, false, false⟩,
  ⟨0x9007, 1, 1, 5, .u 2, .rw, 1, .same 128, [], 1, false, false⟩,
  ⟨0x9008, 1, 1, 5, .u 2, .rw, 1, .same 32, [(1, 511)], 1, false, false⟩,
  ⟨0x9009, 1, 0, 0, .u 2, .rw, 1, .same 16, [(1, 128)], 1, false, false⟩,
  ⟨0x900A, 1, 1, 5, .u 1, .ro, 0, .same 0, [], 0, false, false⟩,
  ⟨0x900B, 1, 1, 5, .u 8, .ro, 0, .same 0, [], 0, true, false⟩,
  ⟨0x900C, 1, 1, 5, .u 8, .ro, 0, .same 0, [], 0, true, false⟩,
  ⟨0x900D, 1, 1, 5, .u 8, .ro, 0, .same 0, [], 0, true, false⟩,
  ⟨0x9010, 1, 1, 4, .u 8, .ro, 0, .same 0, [], 0, true, false⟩,
  ⟨0x9011, 1, 0, 0, .u 2, .ro, 0, .same 0, [], 0, false, false⟩,
  ⟨0x9012, 1, 0, 0, .u 8, .ro, 0, .same 0, [], 0, true, false⟩,
  ⟨0x9013, 1, 0, 0, .domain 0, .ro, 0, .same 0, [], 0, false, false⟩]

/-- The objects of indexes 0xA000 on. -/
def objTableA0 : List ObjRow := [
  ⟨0xA000, 1, 0, 0, .u 1, .ro, 0, .same 0, [], 0, false, false⟩,
  ⟨0xA001, 1, 1, 4, .u 1, .ro, 0, .same 0, [], 0, false, false⟩,
  ⟨0xA002, 1, 1, 4, .u 8, .ro, 0, .same 0, [], 0, false, false⟩,
  ⟨0xA003, 1, 1, 4, .u 1, .ro, 0, .same 0, [], 0, false, false⟩,
  ⟨0xA004, 1, 1, 4, .u 4, .ro, 0, .same 0, [], 0, false, false⟩,
  ⟨0xA010, 1, 0, 0, .domain 536170, .wo, 2, .same 0, [], 1, false, false⟩,
  ⟨0xA011, 1, 0, 0, .action, .wo, 2, .same 0, [], 0, false, false⟩,
  ⟨0xA012, 1, 0, 0, .result, .ro, 1, .same 0, [], 0, false, false⟩,
  ⟨0xA013, 1, 0, 0, .action, .wo, 2, .same 0, [], 0, false, false⟩,
  ⟨0xA014, 1, 0, 0, .result, .ro, 1, .same 0, [], 0, false, false⟩,
  ⟨0xA015, 1, 0, 0, .action, .wo, 2, .same 0, [], 0, false, false⟩,
  ⟨0xA020, 1, 0, 0, .u 8, .ro, 0, .same 0, [], 0, false, false⟩,
  ⟨0xA021, 1, 0, 0, .u 1, .ro, 0, .same 0, [], 0, false, false⟩,
  ⟨0xA022, 1, 0, 0, .u 8, .ro, 0, .same 0, [], 0, true, false⟩,
  ⟨0xA030, 1, 1, 64, .u 2, .ro, 0, .same 0, [], 0, false, false⟩,
  ⟨0xA031, 1, 1, 64, .u 4, .ro, 0, .same 0, [], 0, false, false⟩,
  ⟨0xA032, 1, 1, 64, .u 8, .ro, 0, .same 0, [], 0, true, false⟩,
  ⟨0xA033, 1, 1, 64, .u 8, .ro, 0, .same 0, [], 0, true, false⟩,
  ⟨0xA034, 1, 1, 64, .u 8, .ro, 0, .same 0, [], 0, true, false⟩,
  ⟨0xA035, 1, 1, 64, .u 8, .ro, 0, .same 0, [], 0, true, false⟩,
  ⟨0xA036, 1, 1, 64, .u 8, .ro, 0, .same 0, [], 0, true, false⟩,
  ⟨0xA040, 1, 1, 95, .bool, .ro, 0, .same 0, [], 0, false, false⟩,
  ⟨0xA050, 1, 1, 32, .str, .rw, 1, .same 0, [], 1, false, false⟩,
  ⟨0xA051, 1, 1, 32, .u 1, .rw, 1, .same 0, [(0, 15)], 1, false, false⟩,
  ⟨0xA052, 1, 0, 0, .u 1, .rw, 1, .same 0, [(0, 15)], 1, false, false⟩,
  ⟨0xA053, 1, 0, 0, .u 2, .rw, 1, .same 16, [(1, 1024)], 1, false, false⟩,
  ⟨0xA054, 1, 0, 0, .domain 4096, .rw, 1, .same 0, [], 0, false, false⟩,
  ⟨0xA060, 1, 0, 0, .u 4, .ro, 0, .same 0, [], 1, false, false⟩]

/-- The objects of indexes 0xB000 on. -/
def objTableB0 : List ObjRow := [
  ⟨0xB000, 1, 0, 0, .u 1, .ro, 0, .same 0, [], 0, false, false⟩,
  ⟨0xB001, 1, 1, 2, .u 1, .ro, 0, .same 0, [], 0, false, false⟩,
  ⟨0xB002, 1, 1, 2, .u 8, .ro, 0, .same 0, [], 0, false, false⟩,
  ⟨0xB003, 1, 1, 2, .u 8, .ro, 0, .same 0, [], 0, false, false⟩,
  ⟨0xB004, 1, 0, 0, .bool, .ro, 0, .same 0, [], 0, false, false⟩,
  ⟨0xB005, 1, 0, 0, .bool, .ro, 0, .same 0, [], 0, false, false⟩,
  ⟨0xB010, 1, 0, 0, .u 1, .ro, 0, .same 0, [], 0, false, false⟩,
  ⟨0xB011, 1, 0, 0, .u 2, .rw, 2, .same 2048, [(512, 16384)], 1, false, false⟩,
  ⟨0xB012, 1, 0, 0, .u 4, .ro, 0, .same 0, [], 0, false, false⟩,
  ⟨0xB013, 1, 0, 0, .u 8, .ro, 0, .same 0, [], 0, true, false⟩,
  ⟨0xB014, 1, 0, 0, .u 8, .ro, 0, .same 0, [], 0, true, false⟩,
  ⟨0xB015, 1, 0, 0, .u 8, .ro, 0, .same 0, [], 0, true, false⟩,
  ⟨0xB016, 1, 0, 0, .u 8, .ro, 0, .same 0, [], 0, true, false⟩,
  ⟨0xB020, 1, 0, 0, .str, .rw, 2, .same 0, [], 1, false, false⟩,
  ⟨0xB021, 1, 0, 0, .u 4, .rw, 2, .same 1000000, [(250000, 5000000)], 1, false, false⟩,
  ⟨0xB022, 1, 1, 2, .u 4, .ro, 0, .same 0, [], 0, false, false⟩,
  ⟨0xB023, 1, 0, 0, .u 4, .rw, 2, .same 2000000, [(1000000, 100000000)], 1, false, false⟩,
  ⟨0xB024, 1, 0, 0, .u 1, .ro, 0, .same 0, [], 0, false, false⟩,
  ⟨0xB030, 1, 0, 0, .u 1, .const, 0, .same 13, [], 2, false, false⟩,
  ⟨0xB031, 1, 0, 0, .bool, .rw, 2, .same 1, [], 1, false, false⟩,
  ⟨0xB032, 1, 0, 0, .u 2, .ro, 0, .same 0, [], 0, false, false⟩,
  ⟨0xB033, 1, 0, 0, .u 8, .rw, 2, .same 1000000000, [(10000000, 10000000000)], 1, false, false⟩,
  ⟨0xB034, 1, 0, 0, .u 4, .ro, 0, .same 0, [], 0, true, false⟩,
  ⟨0xB040, 1, 0, 0, .action, .wo, 1, .same 0, [], 0, false, false⟩,
  ⟨0xB041, 1, 0, 0, .result, .ro, 1, .same 0, [], 0, false, false⟩,
  ⟨0xB042, 1, 0, 0, .action, .wo, 1, .same 0, [], 0, false, true⟩,
  ⟨0xB043, 1, 0, 0, .result, .ro, 1, .same 0, [], 0, false, true⟩,
  ⟨0xB050, 1, 0, 0, .u 4, .ro, 0, .same 0, [], 1, false, false⟩,
  ⟨0xB051, 1, 0, 0, .u 8, .ro, 0, .same 0, [], 1, false, false⟩,
  ⟨0xB052, 1, 0, 0, .u 8, .ro, 0, .same 0, [], 1, false, false⟩,
  ⟨0xB053, 1, 0, 0, .u 8, .rw, 1, .same 2000000000, [(0, 10000000000)], 1, false, false⟩,
  ⟨0xB054, 1, 0, 0, .u 8, .ro, 0, .same 0, [], 0, true, false⟩,
  ⟨0xB060, 1, 0, 0, .u 1, .ro, 0, .same 0, [], 0, false, false⟩,
  ⟨0xB061, 1, 0, 0, .u 8, .ro, 0, .same 0, [], 0, false, false⟩]

/-- The objects of indexes 0xC000 on. -/
def objTableC0 : List ObjRow := [
  ⟨0xC000, 1, 0, 0, .u 4, .const, 0, .same 4194304, [], 2, false, false⟩,
  ⟨0xC001, 1, 0, 0, .u 4, .ro, 0, .same 0, [], 0, false, false⟩,
  ⟨0xC002, 1, 0, 0, .u 4, .ro, 0, .same 1, [], 0, false, false⟩,
  ⟨0xC003, 1, 0, 0, .u 4, .ro, 0, .same 1, [], 0, false, false⟩,
  ⟨0xC004, 1, 0, 0, .domain 0, .ro, 0, .same 0, [], 0, false, false⟩,
  ⟨0xC005, 1, 1, 8, .u 8, .ro, 0, .same 0, [], 0, true, false⟩,
  ⟨0xC006, 1, 1, 8, .u 8, .ro, 0, .same 0, [], 0, true, false⟩,
  ⟨0xC007, 1, 0, 0, .u 8, .ro, 0, .same 0, [], 0, true, false⟩,
  ⟨0xC008, 1, 0, 0, .u 2, .rw, 1, .same 16, [(1, 1024)], 1, false, false⟩,
  ⟨0xC009, 1, 0, 0, .u 2, .rw, 1, .same 64, [(1, 1024)], 1, false, false⟩,
  ⟨0xC010, 1, 1, 32, .u 2, .rw, 1, .same 0, [], 1, false, false⟩,
  ⟨0xC011, 1, 1, 32, .u 2, .rw, 1, .same 16, [(1, 1024)], 1, false, false⟩,
  ⟨0xC012, 1, 1, 32, .u 2, .rw, 1, .same 64, [(1, 1024)], 1, false, false⟩,
  ⟨0xC020, 1, 0, 0, .action, .wo, 1, .same 0, [], 0, false, false⟩,
  ⟨0xC021, 1, 0, 0, .result, .ro, 1, .same 0, [], 0, false, false⟩,
  ⟨0xC030, 1, 0, 0, .u 4, .const, 0, .same 65536, [], 2, false, true⟩,
  ⟨0xC031, 1, 0, 0, .domain 0, .ro, 0, .same 0, [], 0, false, true⟩,
  ⟨0xC032, 1, 0, 0, .u 4, .ro, 0, .same 0, [], 0, false, true⟩,
  ⟨0xC033, 1, 0, 0, .u 8, .ro, 0, .same 0, [], 0, true, true⟩,
  ⟨0xC034, 1, 1, 8, .u 8, .ro, 0, .same 0, [], 0, true, true⟩,
  ⟨0xC035, 1, 1, 8, .u 8, .ro, 0, .same 0, [], 0, true, true⟩]

/-- The objects of indexes 0xC100 on. -/
def objTableC1 : List ObjRow := [
  ⟨0xC100, 1, 0, 0, .u 4, .rw, 1, .same 195313, [(0, 0), (64, 16777215)], 1, false, false⟩,
  ⟨0xC101, 1, 0, 0, .u 2, .rw, 2, .same 1024, [(2, 4096)], 1, false, false⟩,
  ⟨0xC102, 1, 0, 0, .domain 0, .ro, 0, .same 0, [], 0, false, false⟩,
  ⟨0xC103, 1, 0, 0, .u 8, .ro, 0, .same 0, [], 0, true, false⟩,
  ⟨0xC110, 1, 1, 16, .domain 48, .rw, 1, .same 0, [], 0, false, false⟩,
  ⟨0xC120, 1, 0, 0, .u 2, .rw, 1, .same 0, [], 0, false, false⟩,
  ⟨0xC121, 1, 0, 0, .u 1, .rw, 1, .same 0, [(0, 15)], 0, false, false⟩,
  ⟨0xC122, 1, 0, 0, .u 4, .rw, 1, .same 0, [], 0, false, false⟩,
  ⟨0xC123, 1, 0, 0, .domain 0, .ro, 0, .same 0, [], 0, true, false⟩,
  ⟨0xC124, 1, 0, 0, .u 8, .ro, 0, .same 0, [], 0, true, false⟩,
  ⟨0xC130, 1, 0, 0, .domain 0, .const, 0, .same 0, [], 2, false, false⟩]

/-- The objects of indexes 0xC400 on. -/
def objTableC4 : List ObjRow := [
  ⟨0xC401, 6, 1, 1, .u 8, .ro, 0, .same 0, [], 0, false, false⟩,
  ⟨0xC401, 6, 2, 9, .u 8, .ro, 0, .same 0, [], 0, false, false⟩,
  ⟨0xC401, 6, 10, 10, .u 1, .ro, 0, .same 0, [], 0, false, false⟩,
  ⟨0xC408, 24, 1, 1, .u 8, .ro, 0, .same 0, [], 0, false, false⟩,
  ⟨0xC408, 24, 2, 9, .u 8, .ro, 0, .same 0, [], 0, false, false⟩,
  ⟨0xC408, 24, 10, 10, .u 1, .ro, 0, .same 0, [], 0, false, false⟩,
  ⟨0xC420, 16, 1, 1, .u 8, .ro, 0, .same 0, [], 0, false, false⟩,
  ⟨0xC420, 16, 2, 9, .u 8, .ro, 0, .same 0, [], 0, false, false⟩,
  ⟨0xC420, 16, 10, 10, .u 1, .ro, 0, .same 0, [], 0, false, false⟩,
  ⟨0xC430, 10, 1, 1, .u 8, .ro, 0, .same 0, [], 0, false, false⟩,
  ⟨0xC430, 10, 2, 9, .u 8, .ro, 0, .same 0, [], 0, false, false⟩,
  ⟨0xC430, 10, 10, 10, .u 1, .ro, 0, .same 0, [], 0, false, false⟩,
  ⟨0xC440, 16, 1, 1, .u 8, .ro, 0, .same 0, [], 0, false, false⟩,
  ⟨0xC440, 16, 2, 9, .u 8, .ro, 0, .same 0, [], 0, false, false⟩,
  ⟨0xC440, 16, 10, 10, .u 1, .ro, 0, .same 0, [], 0, false, false⟩,
  ⟨0xC450, 4, 1, 1, .u 8, .ro, 0, .same 0, [], 0, false, false⟩,
  ⟨0xC450, 4, 2, 9, .u 8, .ro, 0, .same 0, [], 0, false, false⟩,
  ⟨0xC450, 4, 10, 10, .u 1, .ro, 0, .same 0, [], 0, false, false⟩,
  ⟨0xC458, 8, 1, 1, .u 8, .ro, 0, .same 0, [], 0, false, false⟩,
  ⟨0xC458, 8, 2, 9, .u 8, .ro, 0, .same 0, [], 0, false, false⟩,
  ⟨0xC458, 8, 10, 10, .u 1, .ro, 0, .same 0, [], 0, false, false⟩]

/-- The objects of indexes 0xC500 on. -/
def objTableC5 : List ObjRow := [
  ⟨0xC500, 64, 1, 1, .u 8, .ro, 0, .same 0, [], 0, false, false⟩,
  ⟨0xC500, 64, 2, 9, .u 8, .ro, 0, .same 0, [], 0, false, false⟩,
  ⟨0xC500, 64, 10, 10, .u 1, .ro, 0, .same 0, [], 0, false, false⟩]

/-- The objects of indexes 0xC600 on. -/
def objTableC6 : List ObjRow := [
  ⟨0xC601, 6, 1, 8, .u 4, .rw, 1, .same 0, [], 0, false, false⟩,
  ⟨0xC608, 24, 1, 8, .u 4, .rw, 1, .same 0, [], 0, false, false⟩,
  ⟨0xC620, 16, 1, 8, .u 4, .rw, 1, .same 0, [], 0, false, false⟩,
  ⟨0xC630, 10, 1, 8, .u 4, .rw, 1, .same 0, [], 0, false, false⟩,
  ⟨0xC640, 16, 1, 8, .u 4, .rw, 1, .same 0, [], 0, false, false⟩,
  ⟨0xC650, 4, 1, 8, .u 4, .rw, 1, .same 0, [], 0, false, false⟩,
  ⟨0xC658, 8, 1, 8, .u 4, .rw, 1, .same 0, [], 0, false, false⟩]

/-- The objects of indexes 0xC700 on. -/
def objTableC7 : List ObjRow := [
  ⟨0xC700, 64, 1, 8, .u 4, .rw, 1, .same 0, [], 0, false, false⟩]

/-- The objects of indexes 0xD000 on. -/
def objTableD0 : List ObjRow := [
  ⟨0xD000, 1, 0, 0, .u 2, .const, 0, .same 8074, [], 2, false, false⟩,
  ⟨0xD001, 1, 0, 0, .u 2, .const, 0, .same 9312, [], 2, false, false⟩,
  ⟨0xD002, 1, 0, 0, .u 2, .rw, 2, .same 0, [], 1, false, false⟩,
  ⟨0xD003, 1, 0, 0, .bool, .rw, 2, .same 0, [], 1, false, false⟩,
  ⟨0xD004, 1, 0, 0, .bool, .rw, 2, .same 1, [], 1, false, false⟩,
  ⟨0xD005, 1, 0, 0, .u 1, .rw, 2, .same 0, [(0, 15)], 1, false, false⟩,
  ⟨0xD006, 1, 0, 0, .u 1, .rw, 2, .same 2, [(0, 2)], 1, false, false⟩,
  ⟨0xD010, 1, 0, 0, .u 1, .ro, 0, .same 0, [], 0, false, false⟩,
  ⟨0xD011, 1, 0, 0, .u 1, .ro, 0, .same 0, [], 0, false, false⟩,
  ⟨0xD012, 1, 0, 0, .u 1, .ro, 0, .same 0, [], 0, false, false⟩,
  ⟨0xD013, 1, 0, 0, .u 1, .ro, 0, .same 0, [], 0, false, false⟩,
  ⟨0xD014, 1, 0, 0, .u 1, .ro, 0, .same 0, [], 0, false, false⟩,
  ⟨0xD020, 1, 0, 0, .u 1, .const, 0, .same 128, [], 2, false, false⟩,
  ⟨0xD021, 1, 0, 0, .u 1, .ro, 0, .same 0, [], 0, false, false⟩,
  ⟨0xD022, 1, 0, 0, .u 8, .ro, 0, .same 0, [], 0, true, false⟩,
  ⟨0xD023, 1, 0, 0, .u 8, .ro, 0, .same 0, [], 0, true, false⟩,
  ⟨0xD024, 1, 0, 0, .u 8, .ro, 0, .same 0, [], 0, true, false⟩,
  ⟨0xD025, 1, 0, 0, .u 2, .ro, 0, .same 0, [], 0, false, false⟩,
  ⟨0xD030, 1, 1, 3, .u 8, .ro, 0, .same 0, [], 0, true, false⟩,
  ⟨0xD031, 1, 0, 0, .u 8, .ro, 0, .same 0, [], 0, true, false⟩,
  ⟨0xD032, 1, 0, 0, .u 8, .ro, 0, .same 0, [], 0, true, false⟩,
  ⟨0xD040, 1, 0, 0, .u 1, .const, 0, .same 63, [], 2, false, false⟩,
  ⟨0xD041, 1, 0, 0, .u 1, .ro, 0, .same 0, [], 0, false, false⟩]

/-- The objects of indexes 0xE000 on. -/
def objTableE0 : List ObjRow := [
  ⟨0xE000, 1, 0, 0, .u 1, .ro, 0, .same 0, [], 0, false, true⟩,
  ⟨0xE001, 1, 0, 0, .u 1, .rw, 2, .same 0, [(0, 2)], 1, false, true⟩,
  ⟨0xE002, 1, 0, 0, .action, .wo, 1, .same 0, [], 0, false, true⟩,
  ⟨0xE003, 1, 0, 0, .action, .wo, 2, .same 0, [], 0, false, false⟩,
  ⟨0xE004, 1, 0, 0, .result, .ro, 1, .same 0, [], 0, false, false⟩,
  ⟨0xE005, 1, 0, 0, .u 1, .ro, 0, .same 0, [], 0, false, false⟩,
  ⟨0xE006, 1, 1, 13, .u 4, .ro, 0, .same 0, [], 0, false, false⟩,
  ⟨0xE007, 1, 0, 0, .u 1, .ro, 0, .same 0, [], 0, false, false⟩,
  ⟨0xE008, 1, 0, 0, .action, .wo, 2, .same 0, [], 0, false, false⟩,
  ⟨0xE009, 1, 0, 0, .u 4, .ro, 0, .same 0, [], 1, false, false⟩,
  ⟨0xE010, 1, 1, 2, .str, .ro, 0, .same 0, [], 1, false, false⟩,
  ⟨0xE011, 1, 1, 2, .u 4, .ro, 0, .same 0, [], 1, false, false⟩,
  ⟨0xE012, 1, 0, 0, .u 1, .ro, 0, .same 1, [], 1, false, false⟩,
  ⟨0xE013, 1, 0, 0, .u 1, .ro, 0, .same 0, [], 1, false, false⟩,
  ⟨0xE014, 1, 0, 0, .u 4, .ro, 0, .same 0, [], 1, false, false⟩,
  ⟨0xE015, 1, 0, 0, .u 4, .rw, 2, .same 600, [(60, 86400)], 1, false, false⟩,
  ⟨0xE016, 1, 0, 0, .u 1, .ro, 0, .same 0, [], 0, false, true⟩,
  ⟨0xE017, 1, 0, 0, .u 1, .ro, 0, .same 0, [], 0, false, false⟩,
  ⟨0xE018, 1, 0, 0, .domain 16777216, .wo, 2, .same 0, [], 0, false, true⟩,
  ⟨0xE020, 1, 0, 0, .domain 0, .const, 0, .same 0, [], 2, false, false⟩,
  ⟨0xE021, 1, 0, 0, .domain 2592, .wo, 2, .same 0, [], 1, false, true⟩,
  ⟨0xE022, 1, 0, 0, .u 1, .ro, 0, .same 0, [], 1, false, true⟩,
  ⟨0xE023, 1, 0, 0, .domain 0, .ro, 0, .same 0, [], 1, false, false⟩,
  ⟨0xE024, 1, 0, 0, .result, .ro, 2, .same 0, [], 0, false, true⟩,
  ⟨0xE030, 1, 0, 0, .action, .wo, 2, .same 0, [], 0, false, false⟩,
  ⟨0xE031, 1, 0, 0, .result, .ro, 2, .same 0, [], 0, false, false⟩,
  ⟨0xE032, 1, 0, 0, .u 8, .rw, 2, .same 10000000000, [(1000000000, 60000000000)], 1, false, false⟩,
  ⟨0xE033, 1, 0, 0, .u 8, .ro, 0, .same 0, [], 0, true, false⟩]

/-- The object rows that can hold an index, by its high byte. -/
def objGroup (g : Nat) : List ObjRow :=
  if g == 0x10 then objTable10
  else if g == 0x11 then objTable11
  else if g == 0x12 then objTable12
  else if g == 0x13 then objTable13
  else if g == 0x1F then objTable1F
  else if g == 0x20 then objTable20
  else if g == 0x21 then objTable21
  else if g == 0x22 then objTable22
  else if g == 0x23 then objTable23
  else if g == 0x24 then objTable24
  else if g == 0x25 then objTable25
  else if g == 0x28 then objTable28
  else if g == 0x30 then objTable30
  else if g == 0x31 then objTable31
  else if g == 0x38 then objTable38
  else if g == 0x40 then objTable40
  else if g == 0x50 then objTable50
  else if decide (0x54 ≤ g) && decide (g ≤ 0x57) then objTable54
  else if g == 0x60 then objTable60
  else if g == 0x61 then objTable61
  else if decide (0x64 ≤ g) && decide (g ≤ 0x67) then objTable64
  else if g == 0x68 then objTable68
  else if g == 0x70 then objTable70
  else if g == 0x71 then objTable71
  else if g == 0x72 then objTable72
  else if decide (0x74 ≤ g) && decide (g ≤ 0x77) then objTable74
  else if g == 0x80 then objTable80
  else if g == 0x90 then objTable90
  else if g == 0xA0 then objTableA0
  else if g == 0xB0 then objTableB0
  else if g == 0xC0 then objTableC0
  else if g == 0xC1 then objTableC1
  else if g == 0xC4 then objTableC4
  else if g == 0xC5 then objTableC5
  else if g == 0xC6 then objTableC6
  else if g == 0xC7 then objTableC7
  else if g == 0xD0 then objTableD0
  else if g == 0xE0 then objTableE0
  else []

/-- The row of an object, none where no table lists it (R471). -/
def objRow (ix sub : Nat) : Option ObjRow :=
  (objGroup (ix / 256)).find? fun r =>
    decide (r.ix ≤ ix) && decide (ix < r.ix + r.count) && decide (r.lo ≤ sub) && decide (sub ≤ r.hi)

/-- A default at a subindex. -/
def Dflt.at (d : Dflt) (sub : Nat) : Nat :=
  match d with
  | .same v => v
  | .perSub l => l.getD (sub - 1) 0
  | .subLess1 => sub - 1
  | .byCode a b => if Config.d36 then a else b

/-- The default value of an object key, 0 where no object is. -/
def objDefault (key : Nat) : Nat :=
  match objRow (key / 256) (key % 256) with
  | some r => r.dflt.at (key % 256)
  | none => 0

/-- The bytes of a numeric type (R472). -/
def OTy.width : OTy → Nat
  | .bool => 1
  | .u w => w
  | .i w => w
  | _ => 0

/-- Objects the gatehouse serves in every mode (R485). -/
def ObjRow.gatehouse (r : ObjRow) : Bool :=
  (decide (0x1000 ≤ r.ix) && decide (r.ix ≤ 0x2FFF)) || r.vigil

end Sys2Proof.Machine
end

