-- ==== Sys2Proof/Machine/Ops.lean ====
section
/-! DEFINITION. The operations every family shares: objects, RESULTs, the silent rule, free values, outputs, and the
guestbook. -/

namespace Sys2Proof.Machine

/-! ### Objects (R471 to R475) -/

/-- Insert, replace or remove a key so that keys stay strictly rising and no entry equals its default. -/
def objPut (key v : Nat) : List (Nat × Nat) → List (Nat × Nat)
  | [] => if v = objDefault key then [] else [(key, v)]
  | p :: r =>
    if key < p.1 then (if v = objDefault key then p :: r else (key, v) :: p :: r)
    else if key = p.1 then (if v = objDefault key then r else (key, v) :: r)
    else p :: objPut key v r

/-- The value of a key in the canonical list. -/
def objGet (key : Nat) : List (Nat × Nat) → Nat
  | [] => objDefault key
  | p :: r => if p.1 = key then p.2 else objGet key r

/-- Keys strictly rising, all above `lo` where one is given. -/
def objRising : Option Nat → List (Nat × Nat) → Bool
  | _, [] => true
  | lo, p :: r => (match lo with | none => true | some k => decide (k < p.1)) && objRising (some p.1) r

/-- The canonical form of the object list: keys strictly rising, no entry equal to its default. -/
def objsWf (l : List (Nat × Nat)) : Bool := objRising none l && l.all fun p => p.2 != objDefault p.1

/-- The value of an object held in State.objs. -/
def State.get (s : State) (ix : Nat) (sub : Nat := 0) : Nat := objGet (objKey ix sub) s.objs

/-- Set an object held in State.objs. -/
def State.put (ix sub v : Nat) (s : State) : State := s.modObjs (objPut (objKey ix sub) v)

/-- The largest value a numeric object's type holds. -/
def objMax (ix sub : Nat) : Nat :=
  match objRow ix sub with
  | some r => 2 ^ (8 * r.ty.width) - 1
  | none => 0

/-- A count raised by `n`.  A tally count stays at its maximum (R531); no rule says what another counter holds past its
maximum: a free value (log entry 11). -/
def countUp (ix sub v n : Nat) : Nat :=
  if v + n ≤ objMax ix sub then v + n
  else if ix / 256 = 0x28 then objMax ix sub
  else Config.counterPastMax (objKey ix sub) (v + n)

/-- Add `n` to a counter object. -/
def State.count (ix sub : Nat) (n : Nat) (s : State) : State :=
  if n = 0 then s else s.put ix sub (countUp ix sub (s.get ix sub) n)

/-- Add 1 to a counter object. -/
def State.tick (ix : Nat) (sub : Nat := 0) (s : State) : State := s.count ix sub 1

/-- The bytes of a STR or DOMAIN object, `d` where nothing was written. -/
def State.blob (s : State) (ix sub : Nat) (d : List Byte := []) : List Byte := lookup s.blobs (objKey ix sub) d

/-- Set the bytes of a STR or DOMAIN object. -/
def State.putBlob (ix sub : Nat) (v : List Byte) (s : State) : State :=
  s.modBlobs fun l => assign l (objKey ix sub) v

/-! ### Outputs and free values -/

/-- Something leaves the package (log entry 6). -/
def State.emit (o : Out) (s : State) : State := s.modOut fun l => o :: l

/-- Several things leave, in order. -/
def State.emits (l : List Out) (s : State) : State := l.foldl (fun t o => t.emit o) s

/-- The next free value of `w` bits (log entry 9). -/
def State.freeVal (s : State) (w : Nat) : Nat := (Config.free w s.fresh).toNat

/-- The free value has been drawn. -/
def State.drawn (s : State) : State := s.modFresh (· + 1)

/-! ### Outcome codes (R15) -/

namespace Oc
/-- OK (R15). -/
def ok : Nat := 0
/-- RESET (R15). -/
def reset : Nat := 1
/-- POISON (R15). -/
def poison : Nat := 2
/-- EXHAUSTED (R15). -/
def exhausted : Nat := 3
/-- DENIED (R15). -/
def denied : Nat := 4
/-- TIMEOUT (R15). -/
def timeout : Nat := 5
/-- STALE (R15). -/
def stale : Nat := 6
/-- LOST (R15). -/
def lost : Nat := 7
end Oc

/-! ### RESULTs and actions (R476 to R481) -/

/-- The content of a RESULT; at reset ready 1, sequence 0, value zero (R481). -/
def State.result (s : State) (ix : Nat) : Rslt := lookup s.results (objKey ix 0) {}

/-- Replace the content of a RESULT. -/
def State.putResult (ix : Nat) (r : Rslt) (s : State) : State := s.modResults fun l => assign l (objKey ix 0) r

/-- A run starts: ready 0, sequence and value kept (R478). -/
def State.startRun (ix : Nat) (s : State) : State := s.putResult ix { s.result ix with ready := false }

/-- A run ends: value, sequence raised by 1, ready 1, as one update (R478). No run in progress: nothing. -/
def State.endRun (ix : Nat) (value : List Byte) (s : State) : State :=
  let r := s.result ix
  if r.ready then s else s.putResult ix { ready := true, seq := (r.seq + 1) % 2 ^ 32, value := value }

/-- The value "outcome code" (R472). -/
def outcomeVal (o : Nat) : List Byte := [BitVec.ofNat 8 o]

/-- The value "outcome code; X" (R472): X begins at byte 16 of the RESULT. -/
def outcomeWith (o : Nat) (x : List Byte) : List Byte := BitVec.ofNat 8 o :: (List.replicate 7 0#8 ++ x)

/-- An access under R476 is counted at the class of the caller. -/
def State.violation (cls : Nat) (s : State) : State := s.tick Obj.fw_violations (cls + 1)

/-- The object exists for the caller in the present scope (R476, R485). -/
def State.inScope (s : State) (r : ObjRow) : Bool := r.gatehouse || s.dict.scope

/-- A write of class `cls` reaches the object (R474, R476, R485). -/
def State.mayWrite (s : State) (cls ix sub : Nat) : Bool :=
  match objRow ix sub with
  | none => false
  | some r => s.inScope r && decide (r.cls ≤ cls) && (r.acc == .rw || r.acc == .wo)

/-- A read of class `cls` reaches the object (R474, R476, R485). -/
def State.mayRead (s : State) (cls ix sub : Nat) : Bool :=
  match objRow ix sub with
  | none => false
  | some r => s.inScope r && decide (r.cls ≤ cls) && r.acc != .wo

/-- A write to an ACTION with a RESULT (R476, R478, R479): `run` is the run, started once the write is accepted. -/
def State.action (cls ix res : Nat) (run : State → State) (s : State) : State :=
  if s.mayWrite cls ix 0 && (s.result res).ready then run (s.startRun res) else s.violation cls

/-- A write to a trigger (R478): accepted values act at once, others are ignored and counted. -/
def State.trigger (cls ix : Nat) (accepts : Bool) (act : State → State) (s : State) : State :=
  if s.mayWrite cls ix 0 && accepts then act s else s.violation cls

/-- A write to an object whose write has behaviour of its own (R476, R477). -/
def State.guarded (cls ix sub : Nat) (accepts : Bool) (act : State → State) (s : State) : State :=
  if s.mayWrite cls ix sub && accepts then act s else s.violation cls

/-! ### Guestbook (R521 to R527) -/

/-- Payload bytes from fields of (size, value), in order (R522). -/
def payload (l : List (Nat × Nat)) : List Byte := l.flatMap fun p => leBytes p.1 p.2

/-- The length of a record: a multiple of 8, header included, at most 1,024 (R521). -/
def recLen (p : List Byte) : Nat := Nat.min 1024 ((16 + p.length + 7) / 8 * 8)

/-- The next storage sequence: 0xFFFFFFFF is followed by 1 (R523). -/
def seqAfter (q : Nat) : Nat := if q ≥ 2 ^ 32 - 1 then 1 else q + 1

/-- Bytes stored. -/
def Guestbook.used (g : Guestbook) : Nat := sumN (g.records.map (·.length))

/-- Overwrite eligible records in ascending sequence until `need` bytes are free (R524): what is left, and the
severities overwritten. -/
def gbMakeRoom (cap need sev : Nat) : List GbRecord → Nat → List GbRecord × List Nat
  | [], _ => ([], [])
  | r :: rest, used =>
    if used + need ≤ cap then (r :: rest, [])
    else if r.severity ≤ sev then
      let p := gbMakeRoom cap need sev rest (used - r.length)
      (p.1, r.severity :: p.2)
    else
      let p := gbMakeRoom cap need sev rest used
      (r :: p.1, p.2)

/-- Store a record (R523, R524): the store, whether it was dropped, the severities overwritten. -/
def Guestbook.store (cap : Nat) (r : GbRecord) (g : Guestbook) : Guestbook × Bool × List Nat :=
  let used := g.used
  let eligible := sumN ((g.records.filter fun x => decide (x.severity ≤ r.severity)).map (·.length))
  if used + r.length ≤ cap then
    ({ g with records := g.records ++ [{ r with seq := g.seqNext }], seqNext := seqAfter g.seqNext }, false, [])
  else if cap - used + eligible < r.length then (g, true, [])
  else
    let p := gbMakeRoom cap r.length r.severity g.records used
    ({ g with records := p.1 ++ [{ r with seq := g.seqNext }], seqNext := seqAfter g.seqNext }, false, p.2)

/-- Rate and burst of a code (R527): the first entry of gb_rate_code that names it, else the defaults. -/
def State.rateOf (s : State) (code : Nat) : Nat × Nat :=
  match (List.range 32).find? fun i => s.get Obj.gb_rate_code (i + 1) == code && code != 0 with
  | some i => (s.get Obj.gb_rate_rate (i + 1), s.get Obj.gb_rate_burst (i + 1))
  | none => (s.get Obj.gb_rate_default, s.get Obj.gb_burst_default)

/-- The bucket of a code, full where none is listed. -/
def Guestbook.bucket (g : Guestbook) (code burst now : Nat) : Bucket :=
  match g.buckets.find? fun b => b.code == code with
  | some b => b
  | none => { code := code, tokens := burst * 1000000000, time := now, pending := 0 }

/-- Replace the bucket of a code. -/
def Guestbook.setBucket (b : Bucket) (g : Guestbook) : Guestbook :=
  { g with buckets := b :: g.buckets.filter fun x => x.code != b.code }

/-- A bucket refilled to `now` (R527); tokens are counted in parts of 10^9. -/
def Bucket.refill (rate burst now : Nat) (b : Bucket) : Bucket :=
  { b with tokens := Nat.min (burst * 1000000000) (b.tokens + rate * (now - b.time)), time := now }

/-- The limiter (R527): the book with its bucket charged, and the suppressed count the record carries, none where it is
suppressed. -/
def gbLimit (rate burst now sev code : Nat) (g : Guestbook) : Guestbook × Option Nat :=
  if code = 0xC002 then (g, some 0)
  else
    let b := (g.bucket code burst now).refill rate burst now
    if 1000000000 ≤ b.tokens then (g.setBucket { b with tokens := b.tokens - 1000000000, pending := 0 }, some b.pending)
    else if sev = 7 then (g.setBucket { b with pending := 0 }, some b.pending)
    else (g.setBucket { b with pending := b.pending + 1 }, none)

/-- Capacity of the main guestbook (R523). -/
def gbMainCap : Nat := 4194304
/-- Capacity of the gatehouse section (R525). -/
def gbGateCap : Nat := 65536

/-- Count what a store dropped and overwrote under R524, at the given objects. -/
def State.gbCounts (dropIx overIx sev : Nat) (dropped : Bool) (ow : List Nat) (s : State) : State :=
  let s := if dropped then s.tick dropIx (sev + 1) else s
  ow.foldl (fun t v => t.tick overIx (v + 1)) s

/-- The record a limiter let through: S and the pending count where there is one (R527). -/
def mkRecord (gate : Bool) (supp sev code now : Nat) (p : List Byte) : GbRecord :=
  let p' := if supp = 0 then p else leBytes 4 supp ++ p
  { gate := gate, suppressed := if supp = 0 then none else some supp, severity := sev, code := code, time := now,
    length := recLen p', payload := p' }

/-- Store a record in the main guestbook (R523, R524, R527). -/
def State.recordMain (sev code : Nat) (p : List Byte) (s : State) : State :=
  let rb := s.rateOf code
  let lim := gbLimit rb.1 rb.2 s.gh.now sev code s.book.main
  match lim.2 with
  | none => (s.modBook fun b => { b with main := lim.1 }).tick Obj.gb_suppressed
  | some n =>
    let st := lim.1.store gbMainCap (mkRecord false n sev code s.gh.now p)
    (s.modBook fun b => { b with main := st.1 }).gbCounts Obj.gb_dropped Obj.gb_overwritten sev st.2.1 st.2.2

/-- Store a record in the gatehouse section (R525). -/
def State.recordGate (sev code : Nat) (p : List Byte) (s : State) : State :=
  let rb := s.rateOf code
  let lim := gbLimit rb.1 rb.2 s.gh.now sev code s.book.gate
  match lim.2 with
  | none => (s.modBook fun b => { b with gate := lim.1 }).tick Obj.gb_gate_suppressed
  | some n =>
    let st := lim.1.store gbGateCap (mkRecord true n sev code s.gh.now p)
    (s.modBook fun b => { b with gate := st.1 }).gbCounts
      Obj.gb_gate_dropped Obj.gb_gate_overwritten sev st.2.1 st.2.2

/-- Records go to the section: a gatehouse record, and every record in Vigil, Holdup, and Muster before step 5 ends
(R525). -/
def State.toSection (s : State) (code : Nat) : Bool :=
  code / 4096 == 2 || s.md.mode == .vigil || s.md.mode == .holdup ||
    (s.md.mode == .muster && decide (s.md.step ≤ 5))

/-- Write a guestbook record of a severity and a code (R521 to R527). -/
def State.record (sev code : Nat) (p : List (Nat × Nat)) (s : State) : State :=
  if s.toSection code then s.recordGate sev code (payload p) else s.recordMain sev code (payload p)

/-- The payload of a record of the section; the suppressed count it carries stays at its front. -/
def State.copyRecord (r : GbRecord) (s : State) : State :=
  let st := s.book.main.store gbMainCap r
  (s.modBook fun b => { b with main := st.1, merged := r.seq }).gbCounts Obj.gb_dropped Obj.gb_overwritten r.severity
    st.2.1 st.2.2

/-- Copy the section records above gb_gate_merged into the main guestbook, in section order (R525). -/
def State.copySection (s : State) : State :=
  (s.book.gate.records.filter fun r => decide (s.book.merged < r.seq)).foldl (fun t r => t.copyRecord r) s

/-! ### Placement lookups shared by families -/

/-- Modify the entry of a wing (1 or 2) in a list of two. -/
def modWing {α : Type} (l : List α) (w : Nat) (f : α → α) : List α := l.modify (w - 1) f

/-- The wing entry of the lantern. -/
def State.wing (s : State) (w : Nat) : Wing := s.si.wings.getD (w - 1) {}

/-- Change the wing entry of the lantern. -/
def State.modWingSt (w : Nat) (f : Wing → Wing) (s : State) : State :=
  s.modSi fun x => { x with wings := modWing x.wings w f }

/-- The placement of a wing. -/
def State.place (s : State) (w : Nat) : Placement := s.places.getD (w - 1) {}

/-- The drive of a bay. -/
def State.drive (s : State) (bay : Nat) : Drive := s.drives.bays.getD bay {}

/-- Change the drive of a bay. -/
def State.modDrive (bay : Nat) (f : Drive → Drive) (s : State) : State :=
  s.modDrives fun d => { d with bays := d.bays.modify bay f }

/-- A namespace that exists, by NSID. -/
def State.ns? (s : State) (nsid : Nat) : Option Namespace := s.ce.namespaces.find? fun n => n.nsid == nsid

/-- A namespace by NSID, the empty one where none exists. -/
def State.ns (s : State) (nsid : Nat) : Namespace := (s.ns? nsid).getD {}

/-- Change a namespace. -/
def State.modNs (nsid : Nat) (f : Namespace → Namespace) (s : State) : State :=
  s.modCe fun c => { c with namespaces := modFirst (fun n => n.nsid == nsid) f c.namespaces }

end Sys2Proof.Machine
end

