-- ==== Sys2Proof/Machine/Counters.lean ====
section
/-! DEFINITION. Unit counters, filters, precise samples and cluster dumps (R533 to R539). -/

namespace Sys2Proof.Machine

/-! ### Filters (R537) -/

/-- What a filter looks at in the operation an event belongs to (R537). -/
structure OpInfo where
  /-- 0 read, 1 write, 2 other command, 3 no host operation. -/
  kind : Nat := 3
  arrival : Nat := 0
  qpn : Nat := 0
  assoc : Nat := 0
  sqid : Nat := 0
  nsid : Nat := 0
  room : Nat := 0
  /-- LBA, or byte offset within the room. -/
  address : Nat := 0
  /-- Slot of acceptance. -/
  slot : Nat := 0
  deriving DecidableEq, Repr

/-- The filter that matches everything: gb_filter's default, all any (R537, R540). -/
def anyFilter : List Byte :=
  [7#8] ++ List.replicate 23 0#8 ++ List.replicate 8 0xFF#8 ++ List.replicate 8 0xFF#8 ++ List.replicate 8 0#8

/-- The filter in force in a slot (R537). -/
def State.filterOf (s : State) (slot : Nat) : List Byte := lookup s.book.filters slot anyFilter

/-- The master of an operation matches the filter's (R537). -/
def masterMatch (f : List Byte) (o : OpInfo) : Bool :=
  let m := field f 4 4
  match field f 1 1 with
  | 0 => true
  | 1 => o.qpn == m
  | 2 => o.assoc == m
  | 3 => o.assoc == m && o.sqid == field f 2 2
  | _ => false

/-- An event of a berth class matches a filter (R537). -/
def filterMatch (f : List Byte) (o : OpInfo) (cls : Nat) : Bool :=
  let kind := field f 0 1
  let nsid := field f 8 2
  let room := field f 12 4
  let anyOp := kind % 8 == 7 && field f 1 1 == 0 && nsid == 0 && room == 0
  bit (field f 32 8) cls &&
  (if o.kind = 3 then anyOp
   else bit kind o.kind && masterMatch f o && (nsid == 0 || nsid == o.nsid) && (room == 0 || room == o.room) &&
     (nsid == 0 || (decide (field f 16 8 ≤ o.address) && decide (o.address ≤ field f 24 8))))

/-! ### Counter blocks (R533 to R536) -/

/-- The counter block of a number; at reset where none is listed. -/
def State.unitCtr (s : State) (b : Nat) : UnitCtr := (s.book.units.find? fun u => u.block == b).getD { block := b }

/-- Change a counter block. -/
def State.modUnitCtr (b : Nat) (f : UnitCtr → UnitCtr) (s : State) : State :=
  s.modBook fun k => { k with
    units := if k.units.any (fun u => u.block == b) then modFirst (fun u => u.block == b) f k.units
      else k.units ++ [f { block := b }] }

/-- Raise counter `i` by `n`: at 2^48 it wraps, and carries into the next counter or sets its overflow bit (R534). -/
def UnitCtr.addN : Nat → Nat → Nat → UnitCtr → UnitCtr
  | 0, _, _, u => u
  | f + 1, i, n, u =>
    let v := u.counters.getD i 0 + n
    let u' := { u with counters := u.counters.set i (v % 2 ^ 48) }
    let w := v / 2 ^ 48
    if w = 0 then u'
    else if i < 7 ∧ bit (u.config.getD i 0) 30 = true then UnitCtr.addN f (i + 1) w u'
    else { u' with overflow := setBit u'.overflow i true }

/-- Raise counter `i` of a block. -/
def UnitCtr.add (i n : Nat) (u : UnitCtr) : UnitCtr := UnitCtr.addN 8 i n u

/-- The configuration word counts this event for this operation (R533, R537). -/
def State.counts (s : State) (cfg ev qual cls : Nat) (o : OpInfo) : Bool :=
  bit cfg 31 && ev != 0 && bits cfg 15 8 == ev && (ev != 6 || bits cfg 7 0 == qual) &&
  (!bit cfg 23 || filterMatch (s.filterOf (bits cfg 27 24)) o cls)

/-- An event of a unit, `n` times; one that consumes a provisional entry is held pending (R533, R535). -/
def State.unitEvent (b ev qual n cls : Nat) (o : OpInfo) (prov : Option (Nat × Nat)) (s : State) : State :=
  (List.range 8).foldl (fun t i =>
    if t.counts ((t.unitCtr b).config.getD i 0) ev qual cls o then
      t.modUnitCtr b fun u => match prov with
        | some p => { u with pending := u.pending ++ [(i, n, p.1, p.2)] }
        | none => u.add i n
    else t) s

/-- A request is returned by a unit with an outcome (event 0x06, R533). -/
def State.returned (b outcome : Nat) (s : State) : State := s.unitEvent b 6 outcome 1 0x24 {} none

/-- Periods of a unit's clock in a leg: CK_CTRL for the stewards and the command engine, CK_DATA for the others
(R28). -/
def unitPeriods (b : Nat) : Nat := if b = 0x53 ∨ (0x58 ≤ b ∧ b ≤ 0x5F) then 4096 else 8192

/-- The cycle counter of a unit: its clock's periods since the timetable started, to the slot last reached (R28, R533;
log entry 16). -/
def State.unitCycles (s : State) (b : Nat) : Nat :=
  (s.tt.legCount * 64 + s.tt.slot) * (unitPeriods b / 64) % 2 ^ 64

/-! ### Samples (R539) -/

/-- A sample enters the buffer of 4,096, or is counted lost (R539). -/
def State.addSample (x : Sample) (s : State) : State :=
  if s.book.samples.length < 4096 then s.modBook fun b => { b with samples := b.samples ++ [x] }
  else s.tick Obj.gb_samples_lost

/-- Sample a fired cell that carried a transfer, where its unit is the block named and its turn has come (R539). -/
def State.sampleCell (src snk lane : Nat) (x : Sample) (cls : Nat) (o : OpInfo) (prov : Option (Nat × Nat)) (s : State) :
    State :=
  let period := s.get Obj.gb_sample_period
  let block := s.get Obj.gb_sample_block
  if period = 0 ∨ !(block == src || block == snk || block == 0x100 + lane) ∨
      !filterMatch (s.filterOf (s.get Obj.gb_sample_filter)) o cls then s
  else
    let n := s.book.sampleCount + 1
    if n < period then s.modBook fun b => { b with sampleCount := n }
    else
      let s1 := s.modBook fun b => { b with sampleCount := 0 }
      match prov with
      | some p => s1.modBook fun b => { b with samplePend := b.samplePend ++ [(x, p.1, p.2)] }
      | none => s1.addSample x

/-! ### Promotion and cancellation of provisional entries (R130, R535) -/

/-- An entry was promoted: counts and samples held for it are added. -/
def State.countKept (nsid lba : Nat) (s : State) : State :=
  let hit (p : Nat × Nat × Nat × Nat) : Bool := p.2.2.1 == nsid && p.2.2.2 == lba
  let f (u : UnitCtr) : UnitCtr :=
    (u.pending.filter hit).foldl (fun v p => v.add p.1 p.2.1) { u with pending := u.pending.filter fun p => !hit p }
  let s1 := s.modBook fun b => { b with
    units := b.units.map f, samplePend := b.samplePend.filter fun p => !(p.2.1 == nsid && p.2.2 == lba) }
  (s.book.samplePend.filter fun p => p.2.1 == nsid && p.2.2 == lba).foldl (fun t p => t.addSample p.1) s1

/-- Entries of a namespace were cancelled: counts and samples held for them are dropped. -/
def State.countDropped (nsid : Nat) (p : Nat → Bool) (s : State) : State :=
  s.modBook fun b => { b with
    units := b.units.map fun u => { u with pending := u.pending.filter fun q => !(q.2.2.1 == nsid && p q.2.2.2) },
    samplePend := b.samplePend.filter fun q => !(q.2.1 == nsid && p q.2.2) }

/-! ### Configuration words and filters (R534, R537) -/

/-- Configuration words and filters requested take effect; a counter whose word is written starts at 0 (R534, R537). -/
def State.countersAtBoundary (s : State) : State :=
  let f (u : UnitCtr) : UnitCtr :=
    let v := u.configNext.foldl (fun x p =>
      { x with config := x.config.set p.1 p.2, counters := x.counters.set p.1 0,
               overflow := setBit x.overflow p.1 false }) u
    { v with configNext := [] }
  s.modBook fun b => { b with
    units := b.units.map f,
    filters := b.filterNext.foldl (fun l p => assign l p.1 p.2) b.filters, filterNext := [] }

/-- The bits of a configuration word a write keeps: 31, 30 (counters 0 to 6), 27 to 24, 23, 15 to 0 (R533, R477). -/
def configMask (i v : Nat) : Nat := v &&& (if i = 7 then 0x8F80FFFF else 0xCF80FFFF)

/-- A write to gb_unit_config of a block and counter (R534). -/
def State.counterConfig (cls block i value : Nat) (s : State) : State :=
  s.guarded cls (Obj.gb_unit_config + block) (i + 1) true fun t =>
    t.modUnitCtr block fun u => { u with configNext := assign u.configNext i (configMask i value) }

/-- COUNTER_CONFIG_WRITE (R534). -/
def execCounterConfigWrite (cls block i value : Nat) (s : State) : Host.Outcome State Fault Refusal :=
  .next (s.counterConfig cls block i value)

/-- A filter as it is kept: its reserved fields read as zero whatever was written to them (R10, R537). -/
def filterKept (v : List Byte) : List Byte :=
  v.take 10 ++ [0#8, 0#8] ++ slice v 12 28 ++ List.replicate 8 0#8

/-- A write to gb_filter (R537): 48 bytes, in force from the next leg boundary. -/
def State.filterWrite (cls slot : Nat) (value : List Byte) (s : State) : State :=
  s.guarded cls Obj.gb_filter (slot + 1) (value.length == 48) fun t =>
    t.modBook fun b => { b with filterNext := assign b.filterNext slot (filterKept value) }

/-- FILTER_WRITE (R537). -/
def execFilterWrite (cls slot : Nat) (value : List Byte) (s : State) : Host.Outcome State Fault Refusal :=
  .next (s.filterWrite cls slot value)

/-! ### Cluster dumps (R538) -/

/-- DUMP cells of one snapshot: 37,120 bytes at 4,096 bytes a cell (R33, R538). -/
def dumpCells : Nat := 10

/-- Sample every counter for a snapshot, or skip it while one is being written (R538). -/
def State.dumpDue (s : State) : State :=
  let s1 := s.modBook fun b => { b with dumpLegs := 0 }
  if s.book.dumping ≠ 0 then s1.tick Obj.gb_dumps_skipped
  else
    let s2 := s1.modBook fun b => { b with
      dumping := dumpCells, dumpHold := b.units, dumpLeg := s.tt.legCount, dumpTime := s.gh.now, dumpVoq := s.pc.voqNow }
    s2.modCe fun c => { c with ready := c.ready ++ (List.range dumpCells).map fun i =>
      ({ cls := 0x26, opc := 0x11, notBefore := s.tt.legCount * 64 + s.tt.slot, job := .dump i } : Transfer) }

/-- CLUSTER_DUMP (R538): the interval's legs have passed since the last sampling. -/
def execClusterDump (s : State) : Host.Outcome State Fault Refusal :=
  let n := s.get Obj.gb_dump_interval
  .next (if n ≠ 0 ∧ n ≤ s.book.dumpLegs then s.dumpDue else s)

/-- A DUMP cell moved one part; the last one makes the snapshot readable (R538). -/
def State.dumpMoved (s : State) : State :=
  let b := s.book
  if b.dumping ≤ 1 then
    let x : Snapshot := { seq := b.dumpSeq + 1, leg := b.dumpLeg, time := b.dumpTime, units := b.dumpHold, voqs := b.dumpVoq }
    let l := b.dumps ++ [x]
    s.modBook fun b => { b with
      dumping := 0, dumpSeq := b.dumpSeq + 1, dumpHold := [], dumpVoq := [], dumps := l.drop (l.length - b.dumpSlots) }
  else s.modBook fun b => { b with dumping := b.dumping - 1 }

end Sys2Proof.Machine
end

