-- ==== Sys2Proof/Machine/Layout.lean ====
section
/-! DEFINITION. Double parity and the declustered layout: the field, the syndromes, layout ids, where a member lies,
spare assignment and placement generations (R133 to R155), and the member trailer (R98). -/

namespace Sys2Proof.Machine

/-! ### The field and the syndromes (R133, R134) -/

/-- Every byte of a block has the value `b`. -/
def spread (b : Byte) : Block := blockOf (List.replicate 4096 b)

/-- The mask 0x01 in every byte. -/
def ones01 : Block := BitVec.ofNat 32768 ((2 ^ 32768 - 1) / 255)

/-- The mask 0x7F in every byte. -/
def ones7F : Block := BitVec.ofNat 32768 ((2 ^ 32768 - 1) / 255 * 127)

/-- Every byte of a block multiplied by g = 0x02 in GF(2^8) with 0x11D (R133): shifted left, and where bit 7 leaves a byte, 0x1D
added. -/
def gfDouble (b : Block) : Block :=
  let top := (b >>> 7) &&& ones01
  ((b &&& ones7F) <<< 1) ^^^ (top ^^^ (top <<< 2) ^^^ (top <<< 3) ^^^ (top <<< 4))

/-- Every byte multiplied by g^n. -/
def gfPow : Nat → Block → Block
  | 0, b => b
  | n + 1, b => gfDouble (gfPow n b)

/-- One byte multiplied by 2 in the field. -/
def gfByte2 (n : Nat) : Nat := if n < 128 then n * 2 else (n * 2 - 256) ^^^ 0x1D

/-- g^n as a byte. -/
def gfExp : Nat → Nat
  | 0 => 1
  | n + 1 => gfByte2 (gfExp n)

/-- log_g of a non-zero byte, 0 to 254 (R183). -/
def gfLog (b : Nat) : Nat := ((List.range 255).find? fun n => gfExp n == b).getD 0

/-- Every byte divided by a non-zero byte: multiplied by g^(255 − log). -/
def gfDivBlock (b : Block) (c : Nat) : Block := gfPow ((255 - gfLog c) % 255) b

/-- P over data members (R134). -/
def parityP (l : List (Nat × Block)) : Block := l.foldl (fun a d => a ^^^ d.2) 0

/-- Q over data members, each named by its index (R134). -/
def parityQ (l : List (Nat × Block)) : Block := l.foldl (fun a d => a ^^^ gfPow d.1 d.2) 0

/-- D_x alone from P (case 3, R135). -/
def solveP (present : List (Nat × Block)) (p : Block) : Block := p ^^^ parityP present

/-- D_x alone from Q (case 6, R135). -/
def solveQ (x : Nat) (present : List (Nat × Block)) (q : Block) : Block := gfPow ((255 - x) % 255) (q ^^^ parityQ present)

/-- D_x and D_y from P and Q, x < y (case 7, R135). -/
def solvePQ (x y : Nat) (present : List (Nat × Block)) (p q : Block) : Block × Block :=
  let p' := p ^^^ parityP present
  let q' := q ^^^ parityQ present
  let dx := gfDivBlock (gfPow ((255 - x) % 255) q' ^^^ gfPow (y - x) p') (1 ^^^ gfExp (y - x))
  (dx, p' ^^^ dx)

/-- The case of R135 by the erased members of a row, none with three or more (k data members). -/
def rowCase (k : Nat) (erased : List Nat) : Option Nat :=
  let d := (erased.filter fun m => decide (m < k)).length
  let p := erased.contains k
  let q := erased.contains (k + 1)
  if erased.length = 0 ∨ 3 ≤ erased.length then none
  else if d = 0 then (if p && q then some 4 else if p then some 1 else some 2)
  else if d = 1 then (if p then some 6 else if q then some 5 else some 3)
  else some 7

/-- The k members a reconstruction of a row reads, by its erased members (R111, R135). -/
def rowReads (k : Nat) (erased : List Nat) : List Nat :=
  let data := (List.range k).filter fun m => !erased.contains m
  match rowCase k erased with
  | some 3 => data ++ [k]
  | some 5 => data ++ [k]
  | some 6 => data ++ [k + 1]
  | some 7 => data ++ [k, k + 1]
  | some _ => data
  | none => data

/-- Value of a member among blocks read. -/
def memberOf (l : List (Nat × Block)) (m : Nat) : Block := lookup l m 0

/-- Every data block of a row from what was read and the erased set (R135). -/
def rowData (k : Nat) (erased : List Nat) (got : List (Nat × Block)) : List (Nat × Block) :=
  let present := got.filter fun d => decide (d.1 < k) && !erased.contains d.1
  let p := memberOf got k
  let q := memberOf got (k + 1)
  match erased.filter fun m => decide (m < k) with
  | [x] => (x, if erased.contains k then solveQ x present q else solveP present p) :: present
  | [x, y] =>
    let a := Nat.min x y
    let b := Nat.max x y
    let r := solvePQ a b present p q
    (a, r.1) :: (b, r.2) :: present
  | _ => present

/-! ### Layout ids (R137, R138) -/

/-- k (R137). -/
def layK (l : BitVec 16) : Nat := bits l.toNat 15 11
/-- strip code (R137). -/
def layStrip (l : BitVec 16) : Nat := bits l.toNat 10 9
/-- spare slots S (R137). -/
def laySpare (l : BitVec 16) : Nat := bits l.toNat 8 7
/-- variant v (R137). -/
def layVariant (l : BitVec 16) : Nat := bits l.toNat 6 0
/-- Strip size in blocks, s_b (R137). -/
def layS (l : BitVec 16) : Nat := [4, 16, 64, 0].getD (layStrip l) 0
/-- Stripe width w. -/
def layW (l : BitVec 16) : Nat := layK l + 2
/-- Host blocks of a stripe, k × s_b. -/
def layBlocks (l : BitVec 16) : Nat := layK l * layS l

/-- A layout id is valid (R138). -/
def layValid (l : BitVec 16) : Bool :=
  decide (4 ≤ layK l) && decide (layK l ≤ 22) && decide (layStrip l ≤ 2) && decide (laySpare l ≤ 2) &&
  (layK l != 22 || laySpare l == 0)

/-! ### Addresses (R144 to R147) -/

/-- Stripe of a host LBA (R144). -/
def stripeOf (l : BitVec 16) (lba : Nat) : Nat := lba / layBlocks l
/-- Data member of a host LBA (R144). -/
def memberIx (l : BitVec 16) (lba : Nat) : Nat := lba % layBlocks l / layS l
/-- Block within the strip of a host LBA (R144). -/
def stripBlock (l : BitVec 16) (lba : Nat) : Nat := lba % layBlocks l % layS l
/-- The host LBA of a data member's block (R144). -/
def hostLba (l : BitVec 16) (stripe member u : Nat) : Nat := stripe * layBlocks l + member * layS l + u

/-- a_t (R145). -/
def rotA (l : BitVec 16) (t : Nat) : Nat := 1 + (t + layVariant l) % 22
/-- b_t (R145). -/
def rotB (l : BitVec 16) (t : Nat) : Nat := (t / 22 + layVariant l + layK l) % 23
/-- The inverse modulo 23 (R146). -/
def inv23 (a : Nat) : Nat := ((List.range 23).find? fun i => a * i % 23 == 1).getD 0
/-- The table entry of a stripe (R144, R145). -/
def rotEntry (stripe : Nat) : Nat := stripe / 24 % 506
/-- The bay at a ring position under the entry of a stripe (R146). -/
def ringBay (l : BitVec 16) (stripe x : Nat) : Nat :=
  let t := rotEntry stripe
  if x = 23 then 23 else inv23 (rotA l t) * ((x + 23 - rotB l t) % 23) % 23
/-- The home bay of a member (R146). -/
def homeBay (l : BitVec 16) (stripe member : Nat) : Nat := ringBay l stripe ((stripe % 24 + member) % 24)
/-- Host capacity in blocks (R142). -/
def nsCapacity (n : Namespace) : Nat := n.rows * 24 * layBlocks n.layout

/-- The block of a stripe's member as the stripe cache names it: its host LBA, and beyond the namespace's capacity the blocks of P and Q,
which run-ahead fills too (R168; log entry 107). -/
def cacheLba (n : Namespace) (stripe m u : Nat) : Nat :=
  if m < layK n.layout then hostLba n.layout stripe m u
  else nsCapacity n + (stripe * 2 + (m - layK n.layout)) * layS n.layout + u
/-- The stripe, member and block within the strip of a block the stripe cache names. -/
def cachePlace (n : Namespace) (lba : Nat) : Nat × Nat × Nat :=
  let x := lba - nsCapacity n
  let b := layS n.layout
  if lba < nsCapacity n then (stripeOf n.layout lba, memberIx n.layout lba, stripBlock n.layout lba)
  else (x / (2 * b), layK n.layout + x % (2 * b) / b, x % b)
/-- Member LBA of block 0 of a member's home strip (R147). -/
def homeLba (n : Namespace) (stripe member : Nat) : Nat :=
  n.base + (stripe / 24 * (layW n.layout + laySpare n.layout) + member) * layS n.layout
/-- Member LBA of block 0 of spare slot `j` of a stripe's row (R147). -/
def spareLba (n : Namespace) (stripe j : Nat) : Nat :=
  n.base + (stripe / 24 * (layW n.layout + laySpare n.layout) + layW n.layout + j) * layS n.layout
/-- Stripes of a namespace. -/
def nsStripes (n : Namespace) : Nat := n.rows * 24
/-- Member blocks of the extent (R142). -/
def extentBlocks (l : BitVec 16) (rows : Nat) : Nat := rows * (layW l + laySpare l) * layS l

/-! ### Placement (R149 to R154, R162) -/

/-- A place of a strip: bay and member LBA of its block 0, or unplaced. -/
abbrev StripAt := Option (Nat × Nat)

/-- The assignment state of one row while the log is walked: member places and slots assigned, each with the stripe and
member it was assigned to. -/
structure RowMap where
  at_ : List ((Nat × Nat) × StripAt)
  slots : List ((Nat × Nat) × (Nat × Nat))
  lost : List Nat
  deriving DecidableEq, Repr

/-- Home places of every strip of a row (R147). -/
def rowHome (n : Namespace) (row : Nat) : RowMap :=
  { at_ := (List.range 24).flatMap fun c => (List.range (layW n.layout)).map fun m =>
      ((c, m), some (homeBay n.layout (row * 24 + c) m, homeLba n (row * 24 + c) m)),
    slots := [], lost := [] }

/-- The first destination of R150 for a strip of stripe `c`, with the slot it takes. -/
def spareFor (n : Namespace) (row c : Nat) (rm : RowMap) : Option (Nat × Nat) :=
  let w := layW n.layout
  let here := rm.at_.filterMap fun p => if p.1.1 = c then p.2.map (·.1) else none
  ((List.range (24 - w)).map (· + w)).findSome? fun p =>
    let b := ringBay n.layout (row * 24 + c) ((c + p) % 24)
    if rm.lost.contains b || here.contains b then none
    else ((List.range (laySpare n.layout)).find? fun j => !(rm.slots.any fun s => s.1 == (b, j))).map fun j => (b, j)

/-- Move one strip of a lost bay (R150, R151). -/
def moveStrip (n : Namespace) (row : Nat) (rm : RowMap) (key : Nat × Nat) : RowMap :=
  match spareFor n row key.1 rm with
  | some (b, j) =>
    { rm with at_ := assign rm.at_ key (some (b, spareLba n (row * 24 + key.1) j)),
              slots := rm.slots ++ [((b, j), key)] }
  | none => { rm with at_ := assign rm.at_ key none }

/-- One event of the log applied to a row, whole (R150, R152, R162). -/
def rowEvent (n : Namespace) (row : Nat) (rm : RowMap) (e : LogEntry) : RowMap :=
  if e.loss then
    let moved := rm.at_.filterMap fun p => match p.2 with
      | some q => if q.1 = e.bay then some p.1 else none
      | none => none
    moved.foldl (moveStrip n row) { rm with lost := addNew rm.lost e.bay }
  else
    let home := (List.range 24).flatMap fun c => (List.range (layW n.layout)).filterMap fun m =>
      if homeBay n.layout (row * 24 + c) m = e.bay then some (c, m) else none
    { rm with
      at_ := home.foldl (fun a k => assign a k (some (e.bay, homeLba n (row * 24 + k.1) k.2))) rm.at_,
      slots := rm.slots.filter fun s => !home.contains s.2,
      lost := rm.lost.filter (· != e.bay) }

/-- The row once every event of a list is complete (R162). -/
def rowAfter (n : Namespace) (row : Nat) (l : List LogEntry) : RowMap := l.foldl (rowEvent n row) (rowHome n row)

/-- The place of a strip in a row map. -/
def RowMap.place (rm : RowMap) (c m : Nat) : StripAt := lookup rm.at_ (c, m) none

/-- The event moves this strip: before it lay on the lost bay, or its home returns (R150, R152). -/
def movesStrip (n : Namespace) (stripe m : Nat) (before : RowMap) (e : LogEntry) : Bool :=
  if e.loss then (match before.place (stripe % 24) m with | some q => q.1 == e.bay | none => false)
  else homeBay n.layout stripe m == e.bay

end Sys2Proof.Machine

namespace Sys2Proof

open Machine in
/-- The event's work on the stripe is complete: it is done, or its bit is set (R153). -/
def LogEntry.setFor (e : LogEntry) (nsid stripe : Nat) : Bool := e.done || e.bits.contains (nsid, stripe)

end Sys2Proof

namespace Sys2Proof.Machine

/-- Log entries in generation order are kept in the order they were entered; each with the row map before it. -/
def withBefore (n : Namespace) (row : Nat) : RowMap → List LogEntry → List (RowMap × LogEntry)
  | _, [] => []
  | rm, e :: r => (rm, e) :: withBefore n row (rowEvent n row rm e) r

/-- a is later than b among 16-bit generations (R154). -/
def genLater (a b : Nat) : Bool :=
  let d := (a + 65536 - b) % 65536
  decide (1 ≤ d) && decide (d ≤ 32767)

/-- The placement generation after `g`: never 0 (R149). -/
def genNext (g : Nat) : Nat := if 65535 ≤ g then 1 else g + 1

/-- Insert an entry before the first one of a later generation. -/
def insertReturn (e : LogEntry) : List LogEntry → List LogEntry
  | [] => [e]
  | x :: r => if genLater x.gen e.gen then e :: x :: r else x :: insertReturn e r

end Sys2Proof.Machine

namespace Sys2Proof

open Machine in
/-- Every event that still shapes a location: the log, with the entries that have left it put back at their generations.
A destination is assigned when its event is entered and stands until a RETURN writes the strip home (R150, R152), so what has
left the log goes on counting for the entries that stay (log entry 101). -/
def Placement.effLog (p : Placement) : List LogEntry := p.past.foldl (fun l e => insertReturn e l) p.log

open Machine in
/-- What a descriptor keeps of a placement: the log and the home generations; the bitmaps come from the ledger's records (R167, R197),
and the generation is the latest one they name (log entry 117). -/
def Placement.stored (p : Placement) : Placement :=
  let gens := p.home ++ p.log.map (·.gen)
  { gen := gens.foldl (fun m g => if genLater g m then g else m) (p.home.headD 1),
    log := p.log.map fun e => { e with bits := [], started := false }, home := p.home }

open Machine in
/-- A placement as a descriptor gives it (R197): where it carries no entries that have left the log, the home generations tell of the
RETURNs that followed a LOSS kept there (R152; log entry 101). -/
def Placement.adopted (p : Placement) : Placement :=
  let back (b : Nat) : Option LogEntry :=
    let h := p.home.getD b 1
    if p.log.any fun e => e.loss && e.bay == b && genLater h e.gen then some { gen := h, loss := false, bay := b, done := true }
    else none
  if p.past.isEmpty then { p with past := (List.range 24).filterMap back } else p

end Sys2Proof

namespace Sys2Proof.Machine

/-- The current place of a member and whether its bay was lost after it was put there (R153). -/
def currentPlace (n : Namespace) (stripe m : Nat) (log : List LogEntry) : StripAt × Bool :=
  let row := stripe / 24
  (withBefore n row (rowHome n row) log).foldl
    (fun p x =>
      if movesStrip n stripe m x.1 x.2 && x.2.setFor n.nsid stripe then
        ((rowEvent n row x.1 x.2).place (stripe % 24) m, false)
      else
        match p.1 with
        | some q => (p.1, p.2 || (x.2.loss && x.2.bay == q.1))
        | none => p)
    (some (homeBay n.layout stripe m, homeLba n stripe m), false)

/-- The placement generation of a member (R154). -/
def memberGen (n : Namespace) (stripe m : Nat) (p : Placement) : Nat :=
  let h := p.home.getD (homeBay n.layout stripe m) 1
  let g0 := if genLater h n.creationGen then h else n.creationGen
  let row := stripe / 24
  (withBefore n row (rowHome n row) p.effLog).foldl
    (fun g x => if movesStrip n stripe m x.1 x.2 && x.2.setFor n.nsid stripe then x.2.gen else g) g0

end Sys2Proof.Machine

namespace Sys2Proof

open Machine in
/-- A bay that is lost in the wing: its last event is a LOSS, or a LOSS of it waits to be entered (R149, R569). -/
def Placement.lostBay (p : Placement) (bay : Nat) : Bool :=
  p.pendingLoss.contains bay ||
  (p.effLog.foldl (fun acc e => if e.bay = bay then e.loss else acc) false)

end Sys2Proof

namespace Sys2Proof.Machine

/-- The drive of a bay can be read and written (R84): its bay is in use. -/
def State.bayInUse (s : State) (bay : Nat) : Bool := (s.drive bay).state == .inUse

/-- The place of a member where it is present, none where it is absent (R84, R153); a bay that was absent when step 7 of Muster ended is
so until its LOSS is entered (R570). -/
def State.memberAt (s : State) (n : Namespace) (stripe m : Nat) : StripAt :=
  let p := s.place n.wing
  match currentPlace n stripe m p.effLog with
  | (some q, false) => if s.bayInUse q.1 && !p.pendingLoss.contains q.1 && !s.md.absentAt7.contains (n.wing, q.1) then some q else none
  | _ => none

/-- Absent members of a stripe (R84). -/
def State.absent (s : State) (n : Namespace) (stripe : Nat) : List Nat :=
  (List.range (layW n.layout)).filter fun m => (s.memberAt n stripe m).isNone

/-- The generation written into and expected in a member's sectors (R154). -/
def State.stripeGen (s : State) (n : Namespace) (stripe m : Nat) : Nat := memberGen n stripe m (s.place n.wing)

/-! ### The member trailer (R98, R99, R108) -/

/-- Trailer flags (R98). -/
structure TFlags where
  full : Bool := false
  apply : Bool := false
  rebuilt : Bool := false
  replay : Bool := false
  zero : Bool := false
  deriving DecidableEq, Repr

/-- Trailer bytes 0 to 11 as a number: bits [127:32] (R98). -/
def trailerHead (sealNo gen layout member : Nat) (f : TFlags) : Nat :=
  sealNo % 2 ^ 48 * 2 ^ 48 + gen % 2 ^ 16 * 2 ^ 32 + layout % 2 ^ 16 * 2 ^ 16 + member % 256 * 2 ^ 8 +
  b2n f.full * 128 + b2n f.apply * 64 + b2n f.rebuilt * 32 + b2n f.replay * 16 + b2n f.zero * 8

/-- The trailer of a sector, its CRC over the data bytes and trailer bytes 0 to 11 (R98). -/
def mkTrailer (sealNo gen layout member : Nat) (f : TFlags) (data : Block) : Trailer :=
  let h := trailerHead sealNo gen layout member f
  BitVec.ofNat 128 (h * 2 ^ 32 + crc32c (blockBytes data ++ beBytes 12 h))

/-- seal_seq of a trailer. -/
def tSeal (t : Trailer) : Nat := bits t.toNat 127 80
/-- stripe_gen of a trailer. -/
def tGen (t : Trailer) : Nat := bits t.toNat 79 64
/-- layout_id of a trailer. -/
def tLayout (t : Trailer) : Nat := bits t.toNat 63 48
/-- member of a trailer. -/
def tMember (t : Trailer) : Nat := bits t.toNat 47 40
/-- APPLY of a trailer. -/
def tApply (t : Trailer) : Bool := bit t.toNat 38
/-- ZERO of a trailer. -/
def tZero (t : Trailer) : Bool := bit t.toNat 35

/-- The trailer check of R108. -/
def trailerGood (t : Trailer) (data : Block) (gen layout member : Nat) : Bool :=
  tLayout t == layout && tMember t == member && tGen t == gen &&
  bits t.toNat 31 0 == crc32c (blockBytes data ++ beBytes 12 (t.toNat / 2 ^ 32))

/-- a is later than b among 48-bit seals (R99). -/
def sealLater (a b : Nat) : Bool :=
  let d := (a % 2 ^ 48 + 2 ^ 48 - b % 2 ^ 48) % 2 ^ 48
  decide (1 ≤ d) && decide (d ≤ 2 ^ 47 - 1)

/-- The later of two seals (R99, R184). -/
def sealMax (a b : Nat) : Nat := if sealLater b a then b else a

end Sys2Proof.Machine
end

