-- ==== Sys2Proof/Machine/Porter.lean ====
section
/-! DEFINITION. The porter: bed pools, draws, references, watermarks (R387 to R403). -/

namespace Sys2Proof.Machine

/-- Bytes of a bed of each pool (R387). -/
def bedSize (pool : Nat) : Nat := [256, 4096, 16384, 65536, 262144].getD pool 0

/-- A bed handle (R389). -/
def mkHandle (pool half gen index : Nat) : Nat :=
  pool % 8 * 2 ^ 29 + half % 2 * 2 ^ 28 + gen % 16 * 2 ^ 24 + index % 2 ^ 19

/-- The pool a handle names (R389). -/
def hPool (h : Nat) : Nat := bits h 31 29
/-- The half a handle names (R389). -/
def hHalf (h : Nat) : Nat := bits h 28 28
/-- The generation a handle carries (R389). -/
def hGen (h : Nat) : Nat := bits h 27 24
/-- The bed a handle names, its generation left out. -/
def hBed (h : Nat) : Nat := mkHandle (hPool h) (hHalf h) 0 (bits h 18 0)
/-- The pool half of a handle, pool × 2 + half. -/
def hPH (h : Nat) : Nat := hPool h * 2 + hHalf h

/-- The state word of a bed; free with generation 0 where none is listed (R390). -/
def PorterSt.word (p : PorterSt) (h : Nat) : BedWord :=
  match p.words.find? fun w => w.handle == hBed h with
  | some w => w
  | none => { handle := hBed h }

/-- Replace the state word of a bed. -/
def PorterSt.setWord (w : BedWord) (p : PorterSt) : PorterSt :=
  { p with words := w :: p.words.filter fun x => x.handle != w.handle }

/-- The 32 bits of a state word (R390). -/
def BedWord.bits (w : BedWord) : Nat := w.state * 2 ^ 30 + w.gen * 2 ^ 26 + w.owner * 2 ^ 18 + w.count

/-- Beds of a pool half. -/
def PorterSt.halfCount (p : PorterSt) (ph : Nat) : Nat := p.counts.getD (ph / 2) 0 / 2

/-- Beds of a pool half that are not free. -/
def PorterSt.busy (p : PorterSt) (ph : Nat) : Nat :=
  (p.words.filter fun w => hPH w.handle == ph && w.state != 0).length

/-- Free beds of a pool half. -/
def PorterSt.freeHalf (p : PorterSt) (ph : Nat) : Nat := p.halfCount ph - p.busy ph

/-- Free beds of a pool, both halves (po_free). -/
def PorterSt.free (p : PorterSt) (pool : Nat) : Nat := p.freeHalf (pool * 2) + p.freeHalf (pool * 2 + 1)

/-- The bed the next draw of a half receives: the last returned, else the lowest never drawn (R398 leaves it open; log
entry 12). -/
def PorterSt.pick (p : PorterSt) (ph : Nat) : Option (Nat × PorterSt) :=
  match lookup p.freed ph [] with
  | b :: r => some (b, { p with freed := assign p.freed ph r })
  | [] =>
    let n := lookup p.used ph 0
    if n < p.halfCount ph then some (mkHandle (ph / 2) (ph % 2) 0 n, { p with used := assign p.used ph (n + 1) })
    else none

/-- A draw (R392): the bed becomes held, count 1, with its owner; none when the half holds no free bed. -/
def PorterSt.draw (ph owner : Nat) (p : PorterSt) : Option (Nat × PorterSt) :=
  match p.pick ph with
  | none => none
  | some (b, q) =>
    let w := q.word b
    let h := b + w.gen * 2 ^ 24
    some (h, { q.setWord { w with state := 1, owner := owner, count := 1 } with
      beds := { handle := h, valid := false } :: q.beds })

/-- A bed becomes free: generation + 1, its handle returned, its content gone; its last owner stays named (R390, R399). -/
def PorterSt.retire (w : BedWord) (p : PorterSt) : PorterSt :=
  let q := p.setWord { w with state := 0, gen := (w.gen + 1) % 16, count := 0 }
  { q with freed := assign q.freed (hPH w.handle) (w.handle :: lookup q.freed (hPH w.handle) []),
           beds := q.beds.filter fun b => hBed b.handle != w.handle }

/-- Operation codes carried in record 0x9001 (log entry 13). -/
inductive BedOp where
  | share | release | free | handover
  deriving DecidableEq, Repr

/-- The number of an operation in record 0x9001. -/
def BedOp.code : BedOp → Nat
  | .share => 0
  | .release => 1
  | .free => 2
  | .handover => 3

/-- What refuses an operation, none where it is accepted (R399). -/
def bedRefusal (op : BedOp) (h unit : Nat) (w : BedWord) : Option Nat :=
  if w.gen ≠ hGen h then some Oc.stale
  else match op with
    | .share => if w.state = 0 then some Oc.stale else if 1023 ≤ w.count then some Oc.exhausted else none
    | .release =>
      if w.state = 0 then some Oc.stale else if w.state = 1 ∧ w.count < 2 then some Oc.denied else none
    | .free =>
      if w.state = 0 ∨ w.state = 2 then some Oc.stale else if w.owner ≠ unit then some Oc.denied else none
    | .handover =>
      if w.state = 0 ∨ w.state = 2 then some Oc.stale else if w.owner ≠ unit then some Oc.denied else none

/-- The effect of an accepted operation (R399). -/
def PorterSt.accept (op : BedOp) (w : BedWord) (dest : Nat) (p : PorterSt) : PorterSt :=
  match op with
  | .share => p.setWord { w with count := w.count + 1 }
  | .release =>
    if w.state = 2 ∧ w.count ≤ 1 then p.retire w else p.setWord { w with count := w.count - 1 }
  | .free =>
    if w.count ≤ 1 then p.retire w else p.setWord { w with state := 2, count := w.count - 1 }
  | .handover => p.setWord { w with owner := dest }

/-- The subindex of po_refused under which a refusal counts (R403). -/
def refusedSub (op : BedOp) (outcome : Nat) : Nat :=
  if outcome = Oc.exhausted then 4
  else match op with
    | .free => if outcome = Oc.denied then 1 else 2
    | .handover => if outcome = Oc.denied then 1 else 2
    | .release => 3
    | .share => 2

/-- An operation on a bed (R399, R400): the outcome and the state after. -/
def State.bedOp (op : BedOp) (h unit dest : Nat) (s : State) : Nat × State :=
  let w := s.po.word h
  match bedRefusal op h unit w with
  | none => (Oc.ok, s.modPo (·.accept op w dest))
  | some o =>
    (o, (s.tick Obj.po_refused (refusedSub op o)).record 4 0x9001
      [(4, h), (1, op.code), (1, unit), (1, w.owner), (4, w.bits), (1, o)])

/-- SHARE by a unit inside another effect. -/
def State.shareBed (h unit : Nat) (s : State) : State := (s.bedOp .share h unit 0).2
/-- FREE by the owner inside another effect. -/
def State.freeBed (h unit : Nat) (s : State) : State := (s.bedOp .free h unit 0).2
/-- FREE by whatever unit owns the bed. -/
def State.freeOwned (h : Nat) (s : State) : State := s.freeBed h (s.po.word h).owner
/-- A draw that failed is counted; record 0x9003 follows once a second (R392, R403). -/
def State.drawFailed (ph : Nat) (s : State) : State :=
  (s.tick Obj.po_exhausted (ph / 2 + 1)).modPo fun p =>
    { p with failedDraws := assign p.failedDraws ph (lookup p.failedDraws ph 0 + 1) }

/-- A posted draw of a pool half inside another effect: the handle, none when exhausted (R392). -/
def State.drawBed (ph owner : Nat) (s : State) : Option Nat × State :=
  match s.po.draw ph owner with
  | some (h, p) => (some h, (s.modPo fun _ => p).tick Obj.po_draws (ph / 2 + 1))
  | none => (none, s.drawFailed ph)

/-- The smallest pool that fits a size, none above 256 KiB (R391). -/
def poolFor (size : Nat) : Option Nat := (List.range 5).find? fun p => decide (size ≤ bedSize p)

/-- The content of a bed. -/
def State.bed (s : State) (h : Nat) : Bed := (s.po.beds.find? fun b => b.handle == h).getD { handle := h, valid := false }

/-- Change the content of a held bed. -/
def State.modBed (h : Nat) (f : Bed → Bed) (s : State) : State :=
  s.modPo fun p => { p with beds := modFirst (fun b => b.handle == h) f p.beds }

/-- A block enters a bed (R389). -/
def State.fillBed (h : Nat) (data : Block) (poison tagged : Bool) (s : State) : State :=
  s.modBed h fun b => { b with data := data, poison := poison, valid := true, tagged := tagged, provisional := none, frame := 0 }

/-- At a partial reset the porter issues FREE for every bed the unit owns (R401). -/
def State.freeOfUnit (unit : Nat) (s : State) : State :=
  ((s.po.words.filter fun w => w.state == 1 && w.owner == unit).map fun w => w.handle + w.gen * 2 ^ 24).foldl
    (fun t h => t.freeBed h unit) s

/-- The level of a pool by its free beds and its present level (R402). -/
def poolLevel (beds free amber red black hyst now : Nat) : Nat :=
  let mark (w : Nat) : Nat := beds * w / 1024
  let up (w : Nat) : Nat := mark w + beds * hyst / 1024
  let inAt (l w : Nat) : Bool := if l ≤ now then decide (free ≤ up w) else decide (free < mark w)
  if inAt 3 black then 3 else if inAt 2 red then 2 else if inAt 1 amber then 1 else 0

/-- Compare one pool with its watermarks at a leg boundary (R402, R403). -/
def State.watermark (pool : Nat) (s : State) : State :=
  let old := s.po.levels.getD pool 0
  let free := s.po.free pool
  let lv := poolLevel (s.po.counts.getD pool 0) free (s.get Obj.po_amber (pool + 1)) (s.get Obj.po_red (pool + 1))
    (s.get Obj.po_black (pool + 1)) (s.get Obj.po_hysteresis) old
  let s1 := s.modPo fun p => { p with
    levels := p.levels.set pool lv,
    freeMin := p.freeMin.modify pool fun m => some (match m with | some v => Nat.min v free | none => free) }
  let s2 := if 2 ≤ lv then s1.tick Obj.po_level_legs (pool + 1) else s1
  if lv = old then s2
  else
    let sev := if lv = 3 ∨ old = 3 then 5 else if lv = 2 then 4 else 3
    s2.record sev 0x9002 [(4, pool), (1, old), (1, lv), (4, free)]

/-- Every pool at a leg boundary. -/
def State.watermarks (s : State) : State := (List.range 5).foldl (fun t p => t.watermark p) s

/-- The highest level over pools that hold blocks of party work: pool 1's (R402). -/
def State.level (s : State) (pool : Nat) : Nat := s.po.levels.getD pool 0

/-- Record 0x9003 for the draws failed in the second that ended (R403). -/
def State.drawRecords (s : State) : State :=
  (s.po.failedDraws.foldl (fun t p => if p.2 = 0 then t else t.record 4 0x9003 [(4, p.1 / 2), (4, p.1 % 2), (4, p.2)])
    s).modPo fun p => { p with failedDraws := [] }

/-- A pool configuration is valid (R388). -/
def poolsValid (l : List Nat) : Bool :=
  l.all (fun c => c % 2 == 0) &&
  decide (sumN ((List.range 5).map fun p => l.getD p 0 / 2 * bedSize p) ≤ 100663296) &&
  (List.range 5).all fun p => decide ([16384, 8192, 256, 64, 16].getD p 0 ≤ l.getD p 0)

/-- The pools are divided at Muster (R387, R388): every bed free. -/
def State.dividePools (s : State) : State :=
  let want := (List.range 5).map fun p => s.get Obj.po_count_next (p + 1)
  let fresh (c : List Nat) (r : Nat) : PorterSt → PorterSt := fun p =>
    { p with counts := c, resize := r, words := [], freed := [], used := [], beds := [], drawn := [],
             missed := [], levels := [0, 0, 0, 0, 0] }
  if poolsValid want then
    s.modPo (fresh want (if want = [131072, 16384, 2048, 512, 128] then 0 else 1))
  else
    (s.modPo (fresh s.po.counts 2)).record 5 0x9004
      ((want.map fun c => (4, c)) ++ (s.po.counts.map fun c => (4, c)))

/-- DRAW (R392, R394): porter port `port` draws a bed for the cell that names it in the next slot; its owner is the
cell's unit that is no pool. -/
def execDraw (port pool half owner : Nat) (s : State) : Host.Outcome State Fault Refusal :=
  let ph := pool * 2 + half % 2
  match s.po.draw ph owner with
  | some (h, p) => .next (s.modPo fun _ => { p with drawn := assign p.drawn port h, missed := p.missed.filter (· != port) })
  | none => .next ((s.drawFailed ph).modPo fun p => { p with missed := addNew p.missed port })

/-- DRAW_BY_SIZE (R391, R392): the smallest fitting pool; above 256 KiB DENIED; no fall over to a larger pool. -/
def execDrawBySize (size half unit : Nat) (s : State) : Host.Outcome State Fault Refusal :=
  match poolFor size with
  | none => .next (s.emit (.bedReturn unit 0 Oc.denied))
  | some pool =>
    let r := s.drawBed (pool * 2 + half % 2) unit
    match r.1 with
    | some h => .next (r.2.emit (.bedReturn unit h Oc.ok))
    | none => .next (r.2.emit (.bedReturn unit 0 Oc.exhausted))

/-- The outcome of a bed operation is returned to its issuer (R400). -/
def State.bedCommand (op : BedOp) (h unit dest : Nat) (s : State) : State :=
  let r := s.bedOp op h unit dest
  r.2.emit (.bedReturn unit h r.1)

/-- SHARE (R399). -/
def execShareCmd (handle unit : Nat) (s : State) : Host.Outcome State Fault Refusal :=
  .next (s.bedCommand .share handle unit 0)

/-- RELEASE (R399). -/
def execReleaseCmd (handle unit : Nat) (s : State) : Host.Outcome State Fault Refusal :=
  .next (s.bedCommand .release handle unit 0)

/-- FREE (R399). -/
def execFreeCmd (handle unit : Nat) (s : State) : Host.Outcome State Fault Refusal :=
  .next (s.bedCommand .free handle unit 0)

/-- HANDOVER (R399). -/
def execHandover (handle unit dest : Nat) (s : State) : Host.Outcome State Fault Refusal :=
  .next (s.bedCommand .handover handle unit dest)

end Sys2Proof.Machine
end

