-- ==== Sys2Proof/Machine/Image.lean ====
section
/-! DEFINITION. Timetable images: units, slot-cells, the image format and the conformance checker (R32 to R57, R563,
R564). -/

namespace Sys2Proof.Machine

/-! ### Units (R34) -/

/-- Kinds of unit (unit table of R33, R34). -/
inductive UKind where
  | net | sister | endpoint | root | cipher | parity | pool | hbm | vault | ledger | transport | engine | steward
  deriving DecidableEq, Repr

/-- The kind of a unit id, none where it is reserved or 0x00. -/
def unitKind (u : Nat) : Option UKind :=
  if 1 ≤ u ∧ u ≤ 4 then some .net
  else if u = 5 then some .sister
  else if u = 6 then some .endpoint
  else if 0x08 ≤ u ∧ u ≤ 0x1F then some .root
  else if 0x20 ≤ u ∧ u ≤ 0x2F then some .cipher
  else if 0x30 ≤ u ∧ u ≤ 0x37 then some .parity
  else if u = 0x38 ∨ u = 0x39 then some .pool
  else if 0x40 ≤ u ∧ u ≤ 0x4F then some .hbm
  else if u = 0x50 then some .vault
  else if u = 0x51 then some .ledger
  else if u = 0x52 then some .transport
  else if u = 0x53 then some .engine
  else if 0x58 ≤ u ∧ u ≤ 0x5F then some .steward
  else none

/-- The unit is on the east die; units on both dies are never counted as crossing (R34). -/
def unitEast (u : Nat) : Bool :=
  u == 3 || u == 4 || u == 5 || (decide (0x14 ≤ u) && decide (u ≤ 0x1F)) || (decide (0x28 ≤ u) && decide (u ≤ 0x2F)) ||
  (decide (0x34 ≤ u) && decide (u ≤ 0x37)) || u == 0x39 || (decide (0x48 ≤ u) && decide (u ≤ 0x4F)) ||
  (decide (0x5C ≤ u) && decide (u ≤ 0x5F))

/-- The unit lies on both dies. -/
def unitBoth (u : Nat) : Bool := u == 0x51 || u == 0x52 || u == 0x53

/-- A cell between the two units crosses dies. -/
def crosses (a b : Nat) : Bool := !unitBoth a && !unitBoth b && unitEast a != unitEast b

/-- Source ports per slot of a kind. -/
def UKind.srcPorts : UKind → Nat
  | .net => 2 | .sister => 2 | .endpoint => 1 | .root => 1 | .cipher => 2 | .parity => 1 | .pool => 32 | .hbm => 1
  | .vault => 1 | .ledger => 4 | .transport => 4 | .engine => 4 | .steward => 1

/-- Sink ports per slot of a kind. -/
def UKind.snkPorts : UKind → Nat
  | .net => 2 | .sister => 2 | .endpoint => 1 | .root => 1 | .cipher => 2 | .parity => 2 | .pool => 32 | .hbm => 1
  | .vault => 1 | .ledger => 4 | .transport => 4 | .engine => 4 | .steward => 1

/-- The root port unit of a bay. -/
def rootUnit (bay : Nat) : Nat := 0x08 + bay

/-! ### Operation and berth classes (R35) -/

namespace Opc
/-- NONE. -/
def none : Nat := 0x00
/-- NET_IN. -/
def netIn : Nat := 0x01
/-- NET_OUT. -/
def netOut : Nat := 0x02
/-- CIPHER. -/
def cipher : Nat := 0x03
/-- DRIVE_IN. -/
def driveIn : Nat := 0x04
/-- DRIVE_OUT. -/
def driveOut : Nat := 0x05
/-- PARITY_IN. -/
def parityIn : Nat := 0x06
/-- PARITY_OUT. -/
def parityOut : Nat := 0x07
/-- SISTER_OUT. -/
def sisterOut : Nat := 0x08
/-- SISTER_IN. -/
def sisterIn : Nat := 0x09
/-- CACHE_RD. -/
def cacheRd : Nat := 0x0A
/-- CACHE_WR. -/
def cacheWr : Nat := 0x0B
/-- CONTEXT. -/
def context : Nat := 0x0C
/-- JOURNAL. -/
def journal : Nat := 0x0D
/-- ENDPOINT. -/
def endpoint : Nat := 0x0E
/-- VAULT. -/
def vault : Nat := 0x0F
/-- CONTROL. -/
def control : Nat := 0x10
/-- DUMP. -/
def dump : Nat := 0x11
end Opc

namespace Bc
/-- rebuild. -/
def rebuild : Nat := 0x20
/-- night watch. -/
def patrol : Nat := 0x21
/-- ledger. -/
def ledger : Nat := 0x22
/-- sister link. -/
def sister : Nat := 0x23
/-- control. -/
def control : Nat := 0x24
/-- context spill. -/
def context : Nat := 0x25
/-- counter dump. -/
def dump : Nat := 0x26
/-- vault. -/
def vault : Nat := 0x27
end Bc

/-! ### Slot-cells (R35) -/

/-- A slot-cell word taken apart (R35). -/
structure CellWord where
  src : Nat
  snk : Nat
  opc : Nat
  berth : Nat
  kind : Nat
  client : Nat
  pool : Nat
  tap : Bool
  xd : Bool
  rsv : Nat
  chk : Nat
  deriving DecidableEq, Repr

/-- The fields of a slot-cell word (R35). -/
def cellWord (w : Nat) : CellWord :=
  { src := bits w 63 56, snk := bits w 55 48, opc := bits w 47 42, berth := bits w 41 36, kind := bits w 35 34,
    client := bits w 33 28, pool := bits w 27 25, tap := bit w 24, xd := bit w 23, rsv := bits w 22 8,
    chk := bits w 7 0 }

/-- The chk field of a word is correct: CRC-8 over bits [63:8] as seven bytes from bit 63 downward (R35). -/
def cellChkGood (w : Nat) : Bool :=
  crc8 ((beBytes 8 w).take 7) == bits w 7 0

/-- The parity unit a tapped CIPHER cell streams into: 4 × (core ÷ 8) + (core mod 4) (R35). -/
def tapUnit (core : Nat) : Nat := 0x30 + 4 * (core / 8) + core % 4

/-! ### Image format (R51 to R56) -/

/-- Bytes of an ML-DSA-87 signature (R56). -/
def sigLen : Nat := 4627

/-- Header fields of an image (R51). -/
def imgLegs (i : List Byte) : Nat := field i 0x00C 1
/-- config (R51). -/
def imgConfig (i : List Byte) : Nat := field i 0x00D 1
/-- sister (R51). -/
def imgSister (i : List Byte) : Nat := field i 0x00E 1
/-- image_id (R51). -/
def imgId (i : List Byte) : Nat := field i 0x010 8
/-- security_version (R51). -/
def imgSecurity (i : List Byte) : Nat := field i 0x018 4
/-- bay_width of a bay (R51). -/
def imgBayWidth (i : List Byte) (bay : Nat) : Nat := field i (0x028 + bay) 1
/-- off_cells (R51). -/
def imgOffCells (i : List Byte) : Nat := field i 0x044 4
/-- off_budget (R51). -/
def imgOffBudget (i : List Byte) : Nat := field i 0x048 4
/-- off_bounds (R51). -/
def imgOffBounds (i : List Byte) : Nat := field i 0x04C 4
/-- off_berthmap (R51). -/
def imgOffBerthmap (i : List Byte) : Nat := field i 0x050 4
/-- off_sig (R51). -/
def imgOffSig (i : List Byte) : Nat := field i 0x054 4

/-- The word of a cell (R52). -/
def imgCell (i : List Byte) (leg slot lane : Nat) : Nat :=
  field i (imgOffCells i + ((leg * 64 + slot) * 64 + lane) * 8) 8

/-- The words of one slot, lanes 0 to 63. -/
def imgSlot (i : List Byte) (leg slot : Nat) : List Nat := (List.range 64).map (imgCell i leg slot)

/-- Every (leg, slot) of the round. -/
def imgSlots (i : List Byte) : List (Nat × Nat) :=
  (List.range (imgLegs i)).flatMap fun l => (List.range 64).map fun s => (l, s)

/-- The cells of the round with their leg and slot. -/
def imgCells (i : List Byte) : List (Nat × Nat × CellWord) :=
  (imgSlots i).flatMap fun p => (imgSlot i p.1 p.2).map fun w => (p.1, p.2, cellWord w)

/-- berths[port] of a class (R53). -/
def imgBerths (i : List Byte) (cls port : Nat) : Nat := field i (imgOffBudget i + 16 * cls + 4 + 2 * port) 2
/-- piece of a class (R53). -/
def imgPiece (i : List Byte) (cls : Nat) : Nat := field i (imgOffBudget i + 16 * cls + 2) 2
/-- share of a class (R53). -/
def imgShare (i : List Byte) (cls : Nat) : Nat := field i (imgOffBudget i + 16 * cls + 12) 2
/-- jshare of a class (R53). -/
def imgJshare (i : List Byte) (cls : Nat) : Nat := field i (imgOffBudget i + 16 * cls + 14) 2
/-- bound_ns of a class (R54). -/
def imgBound (i : List Byte) (cls : Nat) : Nat := field i (imgOffBounds i + 16 * cls) 4
/-- target_ns of a class (R54). -/
def imgTarget (i : List Byte) (cls : Nat) : Nat := field i (imgOffBounds i + 16 * cls + 4) 4
/-- fixed_ns of a class (R54). -/
def imgFixed (i : List Byte) (cls : Nat) : Nat := field i (imgOffBounds i + 16 * cls + 8) 4
/-- path of a class (R54). -/
def imgPath (i : List Byte) (cls : Nat) : Nat := field i (imgOffBounds i + 16 * cls + 12) 1
/-- Berths of a class summed over ports. -/
def imgBerthSum (i : List Byte) (cls : Nat) : Nat := sumN ((List.range 4).map (imgBerths i cls))
/-- The signature count (R56). -/
def imgSigCount (i : List Byte) : Nat := field i (imgOffSig i) 2
/-- The stored digest bytes (R56). -/
def imgDigest (i : List Byte) : List Byte := slice i (imgOffSig i + 4) 64
/-- The digest recomputed (R56, R59). -/
def imgSha (i : List Byte) : List Byte := leBytes 64 (Config.sha3 (i.take (imgOffSig i))).toNat

/-! ### The conformance checker (R57) -/

/-- What the rules judge an image against (R57). -/
structure CheckEnv where
  shelfConfig : Nat
  sisterId : Nat
  floor : Nat
  ownerKey : List Byte
  deriving DecidableEq, Repr

/-- Rule 0x01 FORMAT. -/
def chkFormat (i : List Byte) : Bool :=
  slice i 0 4 == [0x4B#8, 0x54#8, 0x54#8, 0x49#8] && field i 4 2 == 3 && field i 6 2 == 256

/-- Rule 0x02 LENGTH; gaps before and between the sections pass (log entry 103). -/
def chkLength (i : List Byte) : Bool :=
  field i 8 4 == i.length && (imgSigCount i == 1 || imgSigCount i == 2) &&
  field i 8 4 == imgOffSig i + 68 + sigLen * imgSigCount i && decide (256 ≤ imgOffCells i) &&
  imgOffBudget i == imgOffCells i + imgLegs i * 32768 && decide (imgOffBudget i + 1024 ≤ imgOffBounds i) &&
  decide (imgOffBounds i + 1024 ≤ imgOffBerthmap i) && decide (imgOffBerthmap i + 256 ≤ imgOffSig i)

/-- A signature over the digest, the `n`-th of the block (R56). -/
def chkSignature (i key : List Byte) (n : Nat) : Bool :=
  Config.mldsaVerify key "KA2460 IMAGE" (imgDigest i) (slice i (imgOffSig i + 68 + sigLen * n) sigLen)

/-- Rule 0x05 OWNER_SIG. -/
def chkOwner (e : CheckEnv) (i : List Byte) : Bool :=
  e.ownerKey.isEmpty || (imgSigCount i == 2 && chkSignature i e.ownerKey 1)

/-- Rule 0x07 CONFIG; configuration 0 is not yet known: a blank shelf before its first accepted image. -/
def chkConfig (e : CheckEnv) (i : List Byte) : Bool :=
  if imgConfig i = 1 then
    (e.shelfConfig == 0 || e.shelfConfig == 1) && imgSister i == 0xFF && e.sisterId == 0
  else if imgConfig i = 2 then
    (e.shelfConfig == 0 || e.shelfConfig == 2) && imgSister i == e.sisterId
  else if imgConfig i = 3 then e.shelfConfig == 2 && imgSister i == e.sisterId
  else false

/-- Rule 0x08 BAYS: 4 single, 2 paired. -/
def chkBays (i : List Byte) : Bool :=
  (List.range 24).all fun b => imgBayWidth i b == 0 || imgBayWidth i b == (if imgConfig i = 1 then 4 else 2)

/-- Rule 0x09 HBM. -/
def chkHbm (i : List Byte) : Bool := decide (field i 0x00F 1 ≤ if Config.d36 then 36 else 24)

/-- Rule 0x0A CELL_CHECK. -/
def chkCells (i : List Byte) : Bool :=
  (imgSlots i).all fun p => (imgSlot i p.1 p.2).all cellChkGood

/-- Rule 0x0B ENCODING, one cell (R34, R36); kinds that do not suit the operation class are left to rule 0x0C (log entry 103). -/
def cellEncoding (c : CellWord) : Bool :=
  decide (c.opc ≤ 0x11) && !(decide (0x28 ≤ c.berth) && decide (c.berth ≤ 0x3E)) && c.pool != 5 && c.pool != 6 &&
  c.kind != 3 && c.rsv == 0 && (c.src == 0 || (unitKind c.src).isSome) && (c.snk == 0 || (unitKind c.snk).isSome) &&
  (if c.opc = 0 then
    c.src == 0 && c.snk == 0 && c.berth == 0x3F && c.kind == 0 && c.client == 0 && !c.tap && !c.xd && c.pool == 7
   else c.berth != 0x3F)

/-- The kinds an operation class allows, source and sink (R35, R563). -/
def pairKinds (opc : Nat) (a b : UKind) : Bool :=
  match opc with
  | 0x01 => a == .net && b == .pool
  | 0x02 => a == .pool && b == .net
  | 0x03 => a == .pool && b == .cipher
  | 0x04 => a == .root && b == .pool
  | 0x05 => a == .pool && b == .root
  | 0x06 => a == .pool && b == .parity
  | 0x07 => a == .parity && b == .pool
  | 0x08 => (a == .pool || a == .hbm) && b == .sister
  | 0x09 => a == .sister && (b == .pool || b == .hbm)
  | 0x0A => a == .hbm && b == .pool
  | 0x0B => a == .pool && b == .hbm
  | 0x0C => (a == .hbm && b == .transport) || (a == .transport && b == .hbm)
  | 0x0D => (a == .pool || a == .hbm) && b == .root
  | 0x0E => (a == .endpoint && b == .pool) || (a == .pool && b == .endpoint)
  | 0x0F => (a == .hbm && b == .vault) || (a == .vault && b == .hbm)
  | 0x10 =>
    let ctl (k : UKind) : Bool := k == .steward || k == .ledger || k == .transport || k == .engine
    ctl a && ctl b
  | 0x11 => b == .hbm
  | _ => false

/-- Rule 0x0C PAIRING, one cell (R563). -/
def cellPairing (c : CellWord) : Bool :=
  if c.opc = 0 then true
  else
    match unitKind c.src, unitKind c.snk with
    | some a, some b =>
      pairKinds c.opc a b && (c.opc != 0x10 || c.src != c.snk) &&
      (c.kind != 2 || (decide (c.client ≤ 3) && (unitBoth c.src || unitBoth c.snk)))
    | _, _ => false

/-- Rule 0x0D CROSS_DIE, one cell. -/
def cellCross (c : CellWord) : Bool := c.opc == 0 || c.xd == crosses c.src c.snk

/-- How often `u` stands in a list. -/
def times (l : List Nat) (u : Nat) : Nat := (l.filter fun x => x == u).length

/-- A list of numbers without repeats. -/
def distinct : List Nat → Bool
  | [] => true
  | x :: r => !r.contains x && distinct r

/-- Rule 0x0E DOUBLE_BOOK, one slot (R37, R563); the stream of a tapped CIPHER cell takes no sink port (log entry 103). -/
def slotBooking (l : List CellWord) : Bool :=
  let cs := l.filter fun c => c.opc != 0
  let outs := cs.map (·.src)
  let ins := cs.map (·.snk) ++ (cs.filter fun c => c.opc == Opc.cipher).map (·.src)
  let porter := (cs.filter fun c => c.kind == 1).map (·.client)
  let engine := (cs.filter fun c => c.kind == 2).map fun c =>
    if unitBoth c.src then (c.src * 64 + c.client) * 2 else (c.snk * 64 + c.client) * 2 + 1
  (outs.all fun u => decide (times outs u ≤ ((unitKind u).map UKind.srcPorts).getD 0)) &&
  (ins.all fun u => decide (times ins u ≤ ((unitKind u).map UKind.snkPorts).getD 0)) && distinct porter && distinct engine

/-- Cells of a class, operation class and leg that meet a condition. -/
def cellCount (cs : List (Nat × Nat × CellWord)) (p : Nat → CellWord → Bool) : Nat :=
  (cs.filter fun x => p x.1 x.2.2).length

/-- Rule 0x0F, a party class in a leg. -/
def budgetParty (i : List Byte) (cs : List (Nat × Nat × CellWord)) (cls leg : Nat) : Bool :=
  let wr := decide (0x10 ≤ cls)
  ((List.range 4).all fun p => decide (imgBerths i cls p ≤ cellCount cs fun l c =>
    l == leg && c.berth == cls && (if wr then c.opc == Opc.netIn && c.src == p + 1 else c.opc == Opc.netOut && c.snk == p + 1))) &&
  decide (imgBerthSum i cls ≤ cellCount cs fun l c => l == leg && c.berth == cls && c.opc == Opc.cipher) &&
  (!wr || decide (imgBerthSum i cls ≤ cellCount cs fun l c => l == leg && c.berth == cls && c.opc == Opc.cacheWr))

/-- Link cells per leg of a root port in one direction (R172). -/
def linkCells (width : Nat) : Nat := if width = 4 then 40 else 20

/-- The cells a share asks on a port over the round (R564). -/
def shareCells (share width legs : Nat) : Nat := ceilDiv (share * linkCells width * legs) 1000

/-- Rule 0x0F BUDGET. -/
def chkBudget (i : List Byte) : Bool :=
  let cs := imgCells i
  let legs := imgLegs i
  let ports := (List.range 24).filter fun b => imgBayWidth i b != 0
  ((List.range 32).all fun c => (List.range legs).all fun l => budgetParty i cs c l) &&
  ((List.range 8).all fun k =>
    let cls := 0x20 + k
    ports.all fun b =>
      let need := shareCells (imgShare i cls) (imgBayWidth i b) legs
      decide (need ≤ cellCount cs fun _ c => c.berth == cls && c.opc == Opc.driveIn && c.src == rootUnit b) &&
      decide (need ≤ cellCount cs fun _ c => c.berth == cls && c.opc == Opc.driveOut && c.snk == rootUnit b)) &&
  decide (1 ≤ imgJshare i Bc.ledger) &&
  (ports.all fun b =>
    let jc (p : Nat → Bool) : Nat := cellCount cs fun l c =>
      p l && c.berth == Bc.ledger && c.opc == Opc.journal && c.snk == rootUnit b
    decide (shareCells (imgJshare i Bc.ledger) (imgBayWidth i b) legs ≤ jc fun _ => true) &&
    (List.range legs).all fun l => decide (1 ≤ jc fun x => x == l))

/-- Rule 0x10 PIECE. -/
def chkPiece (i : List Byte) : Bool :=
  (List.range 32).all fun c =>
    let bs := ((List.range 4).map (imgBerths i c)).filter fun b => b != 0
    let p := imgPiece i c
    if bs.isEmpty then p == 0 else decide (1 ≤ p) && decide (p ≤ 16) && bs.all fun b => decide (p ≤ b)

/-- Stages of a path (R49). -/
inductive Stage where
  | cell (opc : Nat) | legEnd | sisterOut
  deriving DecidableEq, Repr

/-- The stages of a path in order (R49). -/
def pathStages (p : Nat) : List Stage :=
  match p with
  | 1 => [.cell Opc.cipher, .cell Opc.netOut]
  | 2 => [.cell Opc.netIn, .cell Opc.cipher]
  | 3 => [.cell Opc.netIn, .cell Opc.cipher, .cell Opc.cacheWr, .legEnd, .sisterOut]
  | 4 => [.cell Opc.netIn, .cell Opc.cipher, .cell Opc.cacheWr]
  | _ => []

/-- The minimum fixed time of a path, ns (R49). -/
def pathFixed (p : Nat) : Nat :=
  match p with
  | 1 => 680 | 2 => 560 | 3 => 1400 | 4 => 560 | _ => 0

/-- The stage wait over cells given as (position in the round, crosses), sorted (R48): the worst start is just after the
start of a cell's slot; none where there is no cell. -/
def waitOf (cs : List (Nat × Bool)) (a slots : Nat) : Option Nat :=
  if a = 0 then some 0
  else if cs.isEmpty then none
  else
    some (maxN 0 (cs.map fun c =>
      let s := c.1
      let k := (cs.filter fun x => decide (x.1 ≤ s)).length + a - 1
      let q := k / cs.length
      let x := cs.getD (k % cs.length) (0, false)
      (x.1 + q * slots + 1 - s) * 80 + (if x.2 then 15 else 0)))

/-- W(b, o) on port `q` for a class (R48). -/
def stageWait (i : List Byte) (cs : List (Nat × Nat × CellWord)) (cls opc q : Nat) : Option Nat :=
  let net := opc == Opc.netIn || opc == Opc.netOut
  let mine := cs.filter fun x => x.2.2.berth == cls && x.2.2.opc == opc &&
    (!net || (if opc = Opc.netIn then x.2.2.src else x.2.2.snk) == q + 1)
  let a := if net then imgBerths i cls q else imgBerthSum i cls
  let key := fun (x : Nat × Bool) => x.1 * 2 + b2n x.2
  waitOf (sortBy key (mine.map fun x => (x.1 * 64 + x.2.1, x.2.2.xd))) a (imgLegs i * 64)

/-- W of SISTER_OUT on path 3 (R48): none where a leg has no such cell. -/
def sisterWait (i : List Byte) (cs : List (Nat × Nat × CellWord)) : Option Nat :=
  let ends := (List.range (imgLegs i)).map fun l =>
    maxN 0 ((cs.filter fun x => x.1 == l && x.2.2.berth == Bc.sister && x.2.2.opc == Opc.sisterOut).map fun x =>
      (x.2.1 + 1) * 80 + (if x.2.2.xd then 15 else 0))
  if ends.all fun e => e != 0 then some (maxN 0 ends) else none

/-- The sum of a path's stage waits on a port. -/
def pathWait (i : List Byte) (cs : List (Nat × Nat × CellWord)) (cls q : Nat) : List Stage → Option Nat
  | [] => some 0
  | st :: r =>
    let w := match st with
      | .cell o => stageWait i cs cls o q
      | .legEnd => some 5120
      | .sisterOut => sisterWait i cs
    match w, pathWait i cs cls q r with
    | some a, some b => some (a + b)
    | _, _ => none

/-- The path of a class (R49). -/
def pathFor (i : List Byte) (cls : Nat) : Nat :=
  if 0x20 ≤ cls ∨ imgBerthSum i cls = 0 then 0
  else if cls < 0x10 then 1
  else if imgConfig i = 1 then 4 else 3

/-- Rule 0x11 BOUND. -/
def chkBound (i : List Byte) : Bool :=
  let cs := imgCells i
  (imgConfig i == 1 || (sisterWait i cs).isSome) &&
  (List.range 64).all fun c =>
    let p := imgPath i c
    p == pathFor i c &&
    (p == 0 ||
      (decide (pathFixed p ≤ imgFixed i c) && decide (imgBound i c ≤ imgTarget i c) &&
       ((List.range 4).filter fun q => imgBerths i c q != 0).all fun q =>
         match pathWait i cs c q (pathStages p) with
         | some w => decide (w + imgFixed i c ≤ imgBound i c)
         | none => false))

/-- Parties the berth map defines (R55). -/
def mapParties (i : List Byte) : List Nat :=
  ((List.range 16).filter fun k => bit (field i (imgOffBerthmap i + 16 * k + 3) 1) 0).map fun k =>
    field i (imgOffBerthmap i + 16 * k) 1

/-- Rule 0x12 BERTH_MAP. -/
def chkMap (i : List Byte) : Bool :=
  ((List.range 16).all fun k =>
    let o := imgOffBerthmap i + 16 * k
    !bit (field i (o + 3) 1) 0 ||
      (decide (field i o 1 ≤ 15) && field i (o + 1) 1 == field i o 1 && field i (o + 2) 1 == field i o 1 + 0x10)) &&
  (List.range 32).all fun c => imgBerthSum i c == 0 || (mapParties i).contains (c % 16)

/-- The cause of an image (R57): rule 0x14 first, then the rules in table order, the first that fails. -/
def checkImage (e : CheckEnv) (vendorKey i : List Byte) : Nat :=
  if i.isEmpty then 0x14
  else if !chkFormat i then 0x01
  else if !chkLength i then 0x02
  else if imgDigest i != imgSha i then 0x03
  else if !chkSignature i vendorKey 0 then 0x04
  else if !chkOwner e i then 0x05
  else if imgSecurity i < e.floor then 0x06
  else if !chkConfig e i then 0x07
  else if !chkBays i then 0x08
  else if !chkHbm i then 0x09
  else if !chkCells i then 0x0A
  else if !(imgCells i).all fun x => cellEncoding x.2.2 then 0x0B
  else if !(imgCells i).all fun x => cellPairing x.2.2 then 0x0C
  else if !(imgCells i).all fun x => cellCross x.2.2 then 0x0D
  else if !(imgSlots i).all fun p => slotBooking ((imgSlot i p.1 p.2).map cellWord) then 0x0E
  else if !chkBudget i then 0x0F
  else if !chkPiece i then 0x10
  else if !chkBound i then 0x11
  else if !chkMap i then 0x12
  else if !(decide (1 ≤ imgLegs i) && decide (imgLegs i ≤ 16)) then 0x13
  else 0x00

end Sys2Proof.Machine
end

