-- ==== Sys2Proof/Machine/Rom.lean ====
section
/-! DEFINITION. The built-in patterns held in mask ROM: the Muster pattern and the Holdup pattern (R64).  Which slots and lanes
their cells take is not specified; the model places them as follows (log entry 102). -/

namespace Sys2Proof.Machine

/-- The word of a cell from its fields, its chk field formed (R35). -/
def cellCode (src snk opc berth kind client pool : Nat) : Nat :=
  let w := src * 2 ^ 56 + snk * 2 ^ 48 + opc * 2 ^ 42 + berth * 2 ^ 36 + kind * 2 ^ 34 + client * 2 ^ 28 + pool * 2 ^ 25 +
    (if crosses src snk then 2 ^ 23 else 0)
  w + crc8 ((beBytes 8 w).take 7)

/-- A compiler-empty cell (R36). -/
def noneCode : Nat := cellCode 0 0 Opc.none 0x3F 0 0 7

/-- A cell that draws a bed of pool 1 at its sink, through the porter port of its lane. -/
def drawCode (lane src snk opc berth : Nat) : Nat := cellCode src snk opc berth 1 lane 1

/-- A cell that draws no bed. -/
def moveCode (src snk opc berth : Nat) : Nat := cellCode src snk opc berth 0 0 7

/-- The drive cells of a root port in the Muster pattern: of a leg's 64 slots an x4 link has 32 DRIVE_IN, 32 DRIVE_OUT and 8
JOURNAL, an x2 link half of each (R64). -/
def romDrive (x4 : Bool) (slot lane bay : Nat) : Nat :=
  let step := if x4 then 2 else 4
  let pool := 0x38 + slot / step % 2
  if slot % step = 0 then drawCode lane (rootUnit bay) pool Opc.driveIn Bc.ledger
  else if slot % step = 1 then moveCode pool (rootUnit bay) Opc.driveOut Bc.ledger
  else noneCode

/-- The JOURNAL cells of a root port in the Muster pattern: the western bays first, the eastern ones half a period on (R64). -/
def romJournal (x4 : Bool) (slot bay : Nat) : Nat :=
  let period := if x4 then 8 else 16
  let first := (if x4 then 0 else 2) + (if bay < 12 then 0 else period / 2)
  if slot % period = first then moveCode (0x38 + slot / period % 2) (rootUnit bay) Opc.journal Bc.ledger else noneCode

/-- The cells of a parity unit in the Muster pattern: 32 PARITY_IN, 16 PARITY_OUT (R64). -/
def romParity (slot lane unit : Nat) : Nat :=
  if slot % 2 = 0 then moveCode (0x38 + slot / 2 % 2) unit Opc.parityIn Bc.ledger
  else if slot % 4 = 1 then drawCode lane unit (0x38 + slot / 4 % 2) Opc.parityOut Bc.ledger
  else noneCode

/-- The 16 VAULT cells from the HBM channels to the vault that both patterns hold (R64). -/
def romFlush (slot : Nat) : Nat :=
  if slot % 4 = 2 then moveCode (0x40 + (slot + 8) % 16) 0x50 Opc.vault Bc.vault else noneCode

/-- A CONTROL cell between the command engine and a steward, in either direction by turns. -/
def romControl (slot : Nat) : Nat :=
  let w := 0x58 + slot % 8
  if slot / 8 % 2 = 0 then cellCode 0x53 w Opc.control Bc.control 2 0 7 else cellCode w 0x53 Opc.control Bc.control 2 0 7

/-- The Muster pattern: the word of a slot and lane, the same in every leg (R64). -/
def romMuster (x4 : Bool) (slot lane : Nat) : Nat :=
  if lane < 24 then romDrive x4 slot lane lane
  else if lane < 48 then romJournal x4 slot (lane - 24)
  else if lane < 56 then romParity slot lane (0x30 + (lane - 48))
  else if lane = 56 then drawCode lane (0x40 + slot % 16) (0x38 + slot / 16 % 2) Opc.cacheRd Bc.ledger
  else if lane = 57 then moveCode (0x38 + slot / 16 % 2) (0x40 + slot % 16) Opc.cacheWr Bc.ledger
  else if lane = 58 then
    if slot % 4 = 0 then moveCode 0x50 (0x40 + (slot + 8) % 16) Opc.vault Bc.vault else romFlush slot
  else if lane = 59 then
    if slot % 2 = 0 then moveCode (0x40 + (slot + 4) % 16) 0x05 Opc.sisterOut Bc.sister
    else moveCode 0x05 (0x40 + (slot + 4) % 16) Opc.sisterIn Bc.sister
  else if lane = 60 then romControl slot
  else noneCode

/-- The Holdup pattern: 16 VAULT cells from the HBM channels to the vault and 16 CONTROL cells in every leg (R64). -/
def romHoldup (slot lane : Nat) : Nat :=
  if lane = 58 then romFlush slot
  else if lane = 60 ∧ slot % 4 = 1 then romControl slot
  else noneCode

end Sys2Proof.Machine
end

