-- ==== Sys2Proof/Machine/Timetable.lean ====
section
/-! DEFINITION. The timetable sequencer: stores, the checker's runs, switching, closed cells (R57 to R67, R565, R566). -/

namespace Sys2Proof.Machine

/-- Store `n`, 1 to 4 (R58). -/
def State.store (s : State) (n : Nat) : Store := s.tt.stores.getD (n - 1) {}

/-- Change store `n`. -/
def State.modStore (n : Nat) (f : Store → Store) (s : State) : State :=
  s.modTt fun t => { t with stores := t.stores.modify (n - 1) f }

/-- The active image, empty while a built-in pattern runs (R64). -/
def State.activeImage (s : State) : List Byte := if s.tt.pattern = .image then (s.store 1).image else []

/-- Berths of a class on a port in the active image (R43). -/
def State.berths (s : State) (cls port : Nat) : Nat := imgBerths s.activeImage cls port

/-- The shelf's configuration: the committed descriptor's, on a blank shelf that of the first image accepted, 0 where
neither is known (R20, R57). -/
def State.config (s : State) : Nat := if s.lg.descBlank then s.md.shelfConfig else s.lg.descConfig

/-- Paired configuration in force. -/
def State.paired (s : State) : Bool := s.config == 2

/-- What the checker judges against (R57). -/
def State.checkEnv (s : State) : CheckEnv :=
  { shelfConfig := s.config, sisterId := s.si.id, floor := s.get Obj.gh_tally_rollback_tt, ownerKey := s.md.ownerKey }

/-- Check a store and set its state and cause (R57): the cause. -/
def State.checkStore (n : Nat) (s : State) : Nat × State :=
  let c := checkImage s.checkEnv Config.vendorKey (s.store n).image
  (c, if c = 0x14 then s
      else s.modStore n fun x => { x with state := if c = 0 then .accepted else .rejected, cause := c })

/-- A blank shelf takes its configuration from the first image accepted at this Muster (R57, R62). -/
def State.learnConfig (n : Nat) (s : State) : State :=
  if s.lg.descBlank && s.md.shelfConfig == 0 && (s.store n).state == .accepted then
    s.modMd fun m => { m with shelfConfig := if imgConfig (s.store n).image = 1 then 1 else 2 }
  else s

/-- The value of tt_check_result and tt_switch_result (R565). -/
def causeVal (cause : Nat) : List Byte :=
  let o := if cause = 0 then Oc.ok else if cause = 0x15 then Oc.timeout else if cause = 0x16 then Oc.reset else Oc.denied
  outcomeWith o [BitVec.ofNat 8 cause]

/-- A run of tt_switch ends with a cause (R565). -/
def State.endSwitch (cause : Nat) (s : State) : State :=
  (s.modTt fun t => { t with switch := none }).endRun Obj.tt_switch_result (causeVal cause)

/-- The END fragment of a tt_shadow_image write (R483, R566). -/
def State.shadowEnd (cls : Nat) (image : List Byte) (s : State) : State :=
  let busy := s.tt.checkBusy || (match s.tt.switch with | some q => q.target == 2 | none => false)
  s.guarded cls Obj.tt_shadow_image 0 (!busy && decide (image.length ≤ 536170)) fun t =>
    t.modStore 2 fun _ => { image := image, state := .loaded, cause := 0 }

/-- SHADOW_IMAGE_END (R566): store 2 is replaced and reads loaded, or the block is discarded during a check or a switch
that names store 2. -/
def execShadowImageEnd (cls : Nat) (image : List Byte) (s : State) : Host.Outcome State Fault Refusal :=
  .next (s.shadowEnd cls image)

/-- A write to tt_check (R57). -/
def State.ttCheck (cls value : Nat) (s : State) : State :=
  s.action cls Obj.tt_check Obj.tt_check_result (fun t =>
    if value = 1 then t.modTt fun x => { x with checkBusy := true }
    else t.endRun Obj.tt_check_result (outcomeVal Oc.denied)) 

/-- TT_CHECK (R57). -/
def execTtCheck (cls value : Nat) (s : State) : Host.Outcome State Fault Refusal := .next (s.ttCheck cls value)

/-- TT_CHECK_DONE (R57, R565): the checker finishes. -/
def execTtCheckDone (s : State) : Host.Outcome State Fault Refusal :=
  .next (if s.tt.checkBusy then
    let r := s.checkStore 2
    (r.2.modTt fun t => { t with checkBusy := false }).endRun Obj.tt_check_result (causeVal r.1)
  else s)

/-- A write to tt_switch (R59): refused with the store's cause where the store is not accepted. -/
def State.ttSwitch (cls value : Nat) (s : State) : State :=
  s.action cls Obj.tt_switch Obj.tt_switch_result fun t =>
    if 2 ≤ value ∧ value ≤ 4 then
      let st := t.store value
      match st.state with
      | .accepted => t.modTt fun x => { x with switch := some { target := value, phase := .digest, report := true } }
      | .rejected => t.endSwitch st.cause
      | _ => t.endSwitch 0x14
    else t.endRun Obj.tt_switch_result (outcomeVal Oc.denied)

/-- TT_SWITCH (R59). -/
def execTtSwitch (cls value : Nat) (s : State) : Host.Outcome State Fault Refusal := .next (s.ttSwitch cls value)

/-- The berth class of a command's blocks: its party's read or write class, class 0x24 for the endpoint (R43, R506). -/
def Cmd.classOf (c : Cmd) : Nat :=
  if c.cap.src = .endpoint then 0x24 else if c.cap.op = .read then c.party else 0x10 + c.party

/-- A party class has queued or admitted work (R60). -/
def State.classBusy (s : State) (cls : Nat) : Bool :=
  (s.adm.queue.any fun p => p.cls == cls) ||
  s.ce.cmds.any fun c => c.status.isNone && (c.cap.op == .read || c.cap.op == .write) && c.classOf == cls

/-- Party classes with work and no berths in an image (R60). -/
def State.blockedClasses (s : State) (image : List Byte) : List Nat :=
  (List.range 32).filter fun c => imgBerthSum image c == 0 && s.classBusy c

/-- The digest of the target matches: the switch waits for its classes or for the boundary (R59, R60). -/
def State.digestGood (q : SwitchReq) (s : State) : State :=
  let cs := s.blockedClasses (s.store q.target).image
  if cs.isEmpty then s.modTt fun t => { t with switch := some { q with phase := .scheduled } }
  else s.modTt fun t => { t with switch := some { q with phase := .classWait 0 }, closedClasses := cs }

/-- TT_SWITCH_DIGEST_DONE (R59, R60). -/
def execTtSwitchDigestDone (s : State) : Host.Outcome State Fault Refusal :=
  .next (match s.tt.switch with
  | some q =>
    if q.phase = .digest then
      let i := (s.store q.target).image
      if imgDigest i = imgSha i then s.digestGood q else s.endSwitch 0x03
    else s
  | none => s)

/-- TT_SWITCH_CLASS_EMPTY (R60): the closed classes have emptied. -/
def execTtSwitchClassEmpty (s : State) : Host.Outcome State Fault Refusal :=
  .next (match s.tt.switch with
  | some q =>
    match q.phase with
    | .classWait _ =>
      if s.tt.closedClasses.any s.classBusy then s
      else s.modTt fun t => { t with switch := some { q with phase := .scheduled } }
    | _ => s
  | none => s)

/-- TT_SWITCH_CLASS_TIMEOUT (R60): 64 legs without emptying refuse the switch with cause 0x15; admission reopens at the
next leg boundary. -/
def execTtSwitchClassTimeout (s : State) : Host.Outcome State Fault Refusal :=
  .next (match s.tt.switch with
  | some q =>
    match q.phase with
    | .classWait n =>
      if 64 ≤ n ∧ s.tt.closedClasses.any s.classBusy then
        (s.endSwitch 0x15).modTt fun t => { t with reopenClasses := true }
      else s
    | _ => s
  | none => s)

/-- A write to tt_shadow_to_f1, a trigger (R478): accepted store 2 is copied into store 3. -/
def State.shadowToF1 (cls value : Nat) (s : State) : State :=
  s.trigger cls Obj.tt_shadow_to_f1 (value == 1 && (s.store 2).state == .accepted) fun t =>
    t.modStore 3 fun _ => t.store 2

/-- TT_SHADOW_TO_F1 (R478). -/
def execTtShadowToF1 (cls value : Nat) (s : State) : Host.Outcome State Fault Refusal := .next (s.shadowToF1 cls value)

/-- The stores after image `n` becomes active (R59): the old active image moves to store 4; store 2 empties; store 3
keeps its image.  With none active before, what store 1 holds goes to store 4 all the same (log entry 104). -/
def rotateStores (n : Nat) (l : List Store) : List Store :=
  let old := l.getD 0 {}
  let new := { l.getD (n - 1) {} with state := StoreState.active }
  let back : Store := if old.image.isEmpty then {} else if old.state = .active then { old with state := .accepted } else old
  if n = 1 then l.set 0 new
  else if n = 2 then [new, {}, l.getD 2 {}, back]
  else if n = 3 then [new, l.getD 1 {}, l.getD 2 {}, back]
  else [new, l.getD 1 {}, l.getD 2 {}, back]

/-- An image becomes active at a leg boundary (R59, R62): leg 0, the stores, the rollback floor (never lowered, R531). -/
def State.activate (n : Nat) (s : State) : State :=
  let v := imgSecurity (s.store n).image
  let t := (s.modTt fun t => { t with stores := rotateStores n t.stores, pattern := .image, leg := 0 }).modCy fun y => { y with
    reqs := y.reqs.map fun r => { r with core := none } }
  if s.get Obj.gh_tally_rollback_tt < v then t.put Obj.gh_tally_rollback_tt 0 v else t

/-- The scheduled switch at a leg boundary (R59); in Holdup a pending one is cancelled with cause 0x16 (R64). -/
def State.switchAtBoundary (s : State) : State :=
  match s.tt.switch with
  | none => s
  | some q =>
    if s.tt.pattern = .holdupPattern then
      if q.report then s.endSwitch 0x16 else s.modTt fun t => { t with switch := none }
    else
      match q.phase with
      | .scheduled =>
        ((s.modTt fun t => { t with switch := none, closedClasses := [],
                                     switchReport := if q.report then some 0 else t.switchReport }).activate q.target)
      | .classWait n => s.modTt fun t => { t with switch := some { q with phase := .classWait (n + 1) } }
      | .digest => s

/-- tt_switch_result becomes ready one leg after the switch (R59). -/
def State.switchReportDue (s : State) : State :=
  match s.tt.switchReport with
  | some c => (s.modTt fun t => { t with switchReport := none }).endRun Obj.tt_switch_result (causeVal c)
  | none => s

/-- Close every cell of a unit from the next leg boundary (R65). -/
def State.closeUnit (u : Nat) (s : State) : State :=
  s.modTt fun t => { t with closePend := addNew t.closePend u, reopenPend := t.reopenPend.filter (· != u) }

/-- Reopen the cells of a unit at the next leg boundary (R65). -/
def State.reopenUnit (u : Nat) (s : State) : State :=
  s.modTt fun t => { t with reopenPend := addNew t.reopenPend u, closePend := t.closePend.filter (· != u) }

/-- Closures and reopenings take effect (R65). -/
def State.closuresAtBoundary (s : State) : State :=
  s.modTt fun t => { t with
    closedUnits := (t.closePend.foldl addNew t.closedUnits).filter fun u => !t.reopenPend.contains u,
    closePend := [], reopenPend := [] }

/-! ### The cell at a place of the leg (R32, R38, R58, R64) -/

/-- The word the pattern in force gives a slot and lane of a leg: the vault copy of the active image's cell (R52, R58), or the mask
ROM's (R64). -/
def State.cellOf (s : State) (leg slot lane : Nat) : Nat :=
  match s.tt.pattern with
  | .image => imgCell (s.store 1).image leg slot lane
  | .musterPattern => romMuster (!s.paired) slot lane
  | .holdupPattern => romHoldup slot lane

/-- The word of the present leg. -/
def State.cellAt (s : State) (slot lane : Nat) : Nat := s.cellOf s.tt.leg slot lane

/-- The word the SRAM copy holds there where it differs from the vault copy (R41, R58). -/
def State.flawAt (s : State) (slot lane : Nat) : Option Nat :=
  match s.tt.pattern with
  | .image => ((s.store 1).flaws.find? fun f => f.1 == (s.tt.leg, slot, lane)).map (·.2)
  | _ => none

/-- The word the sequencer reads for a slot and lane: that of the SRAM copy. -/
def State.cellRead (s : State) (slot lane : Nat) : Nat := (s.flawAt slot lane).getD (s.cellAt slot lane)

/-- Cells that failed their check are loaded from the vault copy (R41). -/
def State.reloadCells (s : State) : State :=
  (s.modStore 1 fun x => { x with flaws := x.flaws.filter fun f => !s.tt.reload.contains f.1 }).modTt fun t => { t with reload := [] }

/-- Loss of power: what SRAM held is taken from the vault copies again (R58). -/
def State.reloadStores (s : State) : State :=
  s.modTt fun t => { t with stores := t.stores.map fun x => { x with flaws := [] } }

end Sys2Proof.Machine
end

