-- ==== Sys2Proof/Machine/Flow.lean ====
section
/-! DEFINITION. What every engine shares: ready transfers, commands and their blocks, completions, ledger records, drive
commands, the stripe cache, and the passes that carry work on after an effect (R39, R68 to R130, R189 to R193, R340). -/

namespace Sys2Proof

/-- The blocks of a range contain an LBA. -/
def inSpan (lba : Nat) (r : Nat × Nat) : Bool := decide (r.1 ≤ lba) && decide (lba < r.1 + r.2)

/-- The association index of a sender, 2,048 for the endpoint. -/
def CmdSrc.ix : CmdSrc → Nat
  | .assoc i => i
  | .endpoint => 2048
  | .conn _ => 2049

/-- A waybill covers a block (R106). -/
def LedgerRec.covers (r : LedgerRec) (lba : Nat) : Bool :=
  r.kind == 1 && inSpan lba (r.first, if r.zero then r.zeroed else r.blocks.length)

/-- The stored block of a waybill at an LBA: zero for a ZERO waybill. -/
def LedgerRec.blockAt (r : LedgerRec) (lba : Nat) : Block := if r.zero then 0 else r.blocks.getD (lba - r.first) 0

end Sys2Proof

namespace Sys2Proof.Machine

/-! ### Ready transfers (R39) -/

/-- Slots counted since reset: the leg count and the slot last reached. -/
def State.slotNow (s : State) : Nat := s.tt.legCount * 64 + s.tt.slot

/-- A transfer becomes ready at slot `nb`. -/
def State.pushAt (nb cls opc : Nat) (src snk : Option Nat) (seq : Nat) (job : Job) (s : State) : State :=
  s.modCe fun c => { c with
    ready := c.ready ++ [{ cls := cls, opc := opc, src := src, snk := snk, seq := seq, notBefore := nb, job := job }] }

/-- A transfer becomes ready: its data is in place by cycle 0 of the next slot (R39). -/
def State.push (cls opc : Nat) (src snk : Option Nat) (seq : Nat) (job : Job) (s : State) : State :=
  s.pushAt (s.slotNow + 1) cls opc src snk seq job

/-- Transfers that meet `p` are withdrawn. -/
def State.dropJobs (p : Job → Bool) (s : State) : State :=
  s.modCe fun c => { c with ready := c.ready.filter fun t => !p t.job }

/-- The pool unit of a bed: 0x38 west, 0x39 east (R34, R389). -/
def bedUnit (h : Nat) : Nat := 0x38 + hHalf h

/-- The command a transfer belongs to, 0 where it belongs to none. -/
def Job.arrival : Job → Nat
  | .pullRequest a _ => a
  | .payloadIn a _ _ _ _ _ => a
  | .cipherBlock a _ => a
  | .slabWrite a _ => a
  | .roomPin a _ => a
  | .slabRead a _ _ => a
  | .cacheRead a _ => a
  | .blockOut a _ => a
  | .parityTapIn a _ => a
  | .parityFull a _ _ _ => a
  | .response a => a
  | .endpointIn a _ _ => a
  | .endpointOut a _ => a
  | .driveIn (.blockRead a _) _ _ => a
  | _ => 0

end Sys2Proof.Machine

namespace Sys2Proof

/-- The offset of an endpoint command's data in its first host page, that of PRP1 (R505, R506). -/
def Capsule.prpOff (c : Capsule) : Nat := c.cdw.getD 0 c.address % 4096

/-- Host page `k` of an endpoint command: that of its PRP entries, contiguous from PRP1 where none are given (R505, R506). -/
def Capsule.page (c : Capsule) (k : Nat) : Nat := c.cdw.getD k (c.address + 4096 * k) / 4096 * 4096

/-- The parts of a block in host memory, address and length: one page, or two where the data starts within a page. -/
def Capsule.spans (c : Capsule) (lba : Nat) : List (Nat × Nat) :=
  let i := lba - c.slba
  let off := c.prpOff
  if off = 0 then [(c.page i, 4096)] else [(c.page i + off, 4096 - off), (c.page (i + 1), off)]

/-- Host pages of an endpoint command. -/
def Capsule.pages (c : Capsule) : Nat := c.nlb + (if c.prpOff = 0 then 0 else 1)

/-- An endpoint command has a PRP list: its data lies in more than two pages (R505). -/
def Capsule.hasList (c : Capsule) : Bool := (c.op == .read || c.op == .write) && decide (2 < c.pages)

/-- The address of a block waits for the PRP list: all but that of a block in the page of PRP1. -/
def Capsule.inList (c : Capsule) (lba : Nat) : Bool := c.hasList && (lba != c.slba || c.prpOff != 0)

end Sys2Proof

namespace Sys2Proof.Machine

/-! ### The endpoint's completions and interrupts (R503, R509, R515, R516) -/

/-- An MSI-X message of a vector, or its PBA bit where a block holds it (R509). -/
def State.msixRaise (v : Nat) (s : State) : State :=
  if s.ep.fnMask || s.ep.vecMask.getD v true || !s.ep.busMaster then
    s.modEp fun e => { e with pba := e.pba.set v true }
  else s.emit (.msix v)

/-- Some completion queue with interrupts enabled holds an unmasked interrupt (R509). -/
def EndpointSt.intCondition (e : EndpointSt) : Bool :=
  e.cqs.any fun q => q.ints && decide (0 < q.posted) && !bit e.intms q.vector

/-- INTA follows the interrupt condition while INTx is the mechanism (R509). -/
def State.intaUpdate (s : State) : State :=
  let want := !s.ep.msix && !s.ep.intxDisable && s.ep.intCondition && !s.ep.d3
  if want == s.ep.inta then s else (s.modEp fun e => { e with inta := want }).emit (.inta want)

/-- A completion queue gained an entry (R509, R510). -/
def State.cqInterrupt (cq : Nat) (s : State) : State :=
  match s.ep.cqs.find? fun q => q.id == cq with
  | some q => if q.ints && s.ep.msix then s.msixRaise q.vector else s.intaUpdate
  | none => s

/-- Write a completion entry to its queue (R505). -/
def State.cqWrite (cq : Nat) (r : Reply) (s : State) : State :=
  let put (q : EpQueue) : EpQueue := { q with tail := (q.tail + 1) % Nat.max 1 q.depth, posted := q.posted + 1 }
  let s1 := s.modEp fun e => { e with cqs := modFirst (fun q => q.id == cq) put e.cqs }
  (s1.emit (.cqEntry cq r.sqid r.cid r.status r.dw0)).cqInterrupt cq

/-- The completion queue has room: one entry of its depth stays free. -/
def EndpointSt.cqRoom (e : EndpointSt) (cq : Nat) : Bool :=
  match e.cqs.find? fun q => q.id == cq with
  | some q => decide (q.posted + 1 < q.depth)
  | none => true

/-- A completion of the endpoint's controller: written, or held in D3hot, without Bus Master Enable or for want of room
(R503, R515, R516). -/
def State.epComplete (r : Reply) (s : State) : State :=
  let cq := match s.ep.sqs.find? fun q => q.id == r.sqid with | some q => q.cq | none => 0
  if s.ep.d3 then s.modEp fun e => { e with d3Cq := e.d3Cq ++ [(cq, r)] }
  else if !s.ep.busMaster || (s.ep.heldCq.any fun x => x.1 == cq) || !s.ep.cqRoom cq then
    s.modEp fun e => { e with heldCq := e.heldCq ++ [(cq, r)] }
  else s.cqWrite cq r

/-! ### Replies -/

/-- A completion with nothing in the range table is due in a CONTROL cell (R35, R43). -/
def State.reply (r : Reply) (s : State) : State :=
  s.push Bc.control Opc.control none none s.ce.arrivalNext (.reply r)

/-- A completion by its fields. -/
def State.respond (src : CmdSrc) (sqid cid : Nat) (status : Status) (s : State) : State :=
  s.reply { src := src, sqid := sqid, cid := cid, status := status }

/-- A completion with data or a dword 0. -/
def State.respondWith (src : CmdSrc) (sqid cid dw0 : Nat) (data : List Byte) (s : State) : State :=
  s.reply { src := src, sqid := sqid, cid := cid, dw0 := dw0, data := data }

/-- An association by its index; the endpoint's controller at 2,048. -/
def State.assoc? (s : State) (i : Nat) : Option Assoc :=
  if i = 2048 then some s.ce.endpointAssoc else s.ce.assocs.find? fun a => a.index == i

/-- Change an association. -/
def State.modAssoc (i : Nat) (f : Assoc → Assoc) (s : State) : State :=
  s.modCe fun c => if i = 2048 then { c with endpointAssoc := f c.endpointAssoc }
    else { c with assocs := modFirst (fun a => a.index == i) f c.assocs }

/-- The connection with a queue-pair number. -/
def State.conn? (s : State) (qpn : Nat) : Option Conn := s.tr.conns.find? fun c => c.qpn == qpn

/-- Change a connection. -/
def State.modConn (qpn : Nat) (f : Conn → Conn) (s : State) : State :=
  s.modTr fun t => { t with conns := modFirst (fun c => c.qpn == qpn) f t.conns }

/-! ### Commands and the range table (R68 to R70, R119 to R122) -/

/-- The command of an arrival sequence. -/
def State.cmd? (s : State) (a : Nat) : Option Cmd := s.ce.cmds.find? fun c => c.arrival == a

/-- Change a command. -/
def State.modCmd (a : Nat) (f : Cmd → Cmd) (s : State) : State :=
  s.modCe fun x => { x with cmds := modFirst (fun c => c.arrival == a) f x.cmds }

/-- A block of a command. -/
def Cmd.blk? (c : Cmd) (lba : Nat) : Option BlockSt := c.blocks.find? fun b => b.lba == lba

/-- Change a block of a command. -/
def State.modBlk (a lba : Nat) (f : BlockSt → BlockSt) (s : State) : State :=
  s.modCmd a fun c => { c with blocks := modFirst (fun b => b.lba == lba) f c.blocks }

/-- Write Zeroes, or Dataset Management with Deallocate (R120, R313). -/
def Cmd.zeroKind (c : Cmd) : Bool := c.cap.op == .writeZeroes || (c.cap.op == .dsm && c.cap.ad)

/-- A write-kind command (R120). -/
def Cmd.writeKind (c : Cmd) : Bool := c.cap.op == .write || c.zeroKind

/-- The LBA ranges of a command, first and blocks (R119). -/
def Cmd.ranges (c : Cmd) : List (Nat × Nat) :=
  if c.cap.op = .dsm then c.cap.ranges
  else if c.cap.op = .read ∨ c.cap.op = .write ∨ c.cap.op = .writeZeroes then [(c.cap.slba, c.cap.nlb)] else []

/-- The command's range contains a block it has not released (R119, R121). -/
def Cmd.holds (c : Cmd) (lba : Nat) : Bool :=
  (c.ranges.any (inSpan lba)) &&
  (if c.zeroKind && !c.parts.isEmpty then c.parts.any fun p => inSpan lba (p.first, p.blocks) && decide (0 < p.left)
   else if c.blocks.isEmpty then c.writeKind || c.cap.op == .read
   else c.blocks.any fun b => b.lba == lba && !b.released)

/-- Two commands overlap as kinds (R120). -/
def kindsMeet (c d : Cmd) : Bool := c.cap.nsid == d.cap.nsid && (c.writeKind || d.writeKind)

/-- Every earlier overlapping command has released the block (R121). -/
def State.clear (s : State) (c : Cmd) (lba : Nat) : Bool :=
  s.ce.cmds.all fun d => !(decide (d.arrival < c.arrival) && kindsMeet c d && d.holds lba)

/-- Modify a part of a command, found by its first LBA. -/
def State.modPart (a first : Nat) (f : Part → Part) (s : State) : State :=
  s.modCmd a fun c => { c with parts := modFirst (fun p => p.first == first) f c.parts }

/-- The part of a command that contains a block. -/
def Cmd.partOf (c : Cmd) (lba : Nat) : Option Part := c.parts.find? fun p => inSpan lba (p.first, p.blocks)

/-- Mark a command's outcome: its response capsule is due (R89, R109, R122).  A dropped command gets none. -/
def State.finish (a : Nat) (st : Status) (s : State) : State :=
  match s.cmd? a with
  | some c =>
    if c.status.isSome then s
    else if c.dropped then s.modCe fun x => { x with cmds := x.cmds.filter fun d => d.arrival != a }
    else (s.modCmd a fun c => { c with status := some st }).push Bc.control Opc.control none none a (.response a)
  | none => s

/-- Every bed a command's blocks hold is released (R75). -/
def State.freeCmdBeds (a : Nat) (s : State) : State :=
  match s.cmd? a with
  | some c =>
    (c.blocks.foldl (fun t b => match b.bed with | some h => t.freeOwned h | none => t) s).modCmd a fun c =>
      { c with blocks := c.blocks.map fun b => { b with bed := none } }
  | none => s

/-- Everything a command still has in motion is withdrawn: transfers, cipher requests, member reads, row jobs of its
reconstructions, accumulator sets with the P and Q they have given out. -/
def State.stopCmd (a : Nat) (s : State) : State :=
  let recon (j : RowJob) : Bool := match j.use with | .recon b _ => b == a | _ => false
  let s1 := s.dropJobs fun j => j.arrival == a && (match j with | .response _ => false | _ => true)
  let s2 := s1.modCy fun y => { y with reqs := y.reqs.filter fun r => r.arrival != a }
  let s3 := s2.modDrives fun d => { d with cmds := d.cmds.map fun x =>
    match x.use with | .blockRead b _ => if b = a then { x with discard := true } else x | _ => x }
  let s4 := (s3.pe.accums.filter fun m => m.arrival == a).foldl (fun t m =>
    (m.pOut ++ m.qOut).foldl (fun u b => u.freeOwned b.2) t) s3
  s4.modPe fun p => { p with jobs := p.jobs.filter fun j => !recon j, accums := p.accums.filter fun m => m.arrival != a }

/-! ### Ledger records (R189 to R193) -/

/-- The next seal of a wing (R190). -/
def State.sealNext (s : State) (w : Nat) : Nat := s.lg.sealNext.getD (w - 1) 1

/-- The highest seal issued in a wing. -/
def State.sealHi (s : State) (w : Nat) : Nat := s.sealNext w - 1

/-- Seal a waybill or an intent: it takes the wing's next seal and belongs to this leg (R85, R190, R201). -/
def State.sealRec (r : LedgerRec) (guard : Bool) (s : State) : State :=
  let n := s.sealNext r.wing
  let q := { r with sealNo := n }
  s.modLg fun l => { l with
    sealNext := l.sealNext.set (r.wing - 1) (n + 1),
    recs := l.recs ++ [{ q with ackGuard := guard }],
    legRecs := l.legRecs ++ [q] }

/-- A free, retire or rebuild-done record is made in this leg (R97, R100, R167). -/
def State.makeFinal (kind w nsid stripe target : Nat) (layout : BitVec 16) (s : State) : State :=
  s.modLg fun l => { l with legRecs := l.legRecs ++
    [{ sealNo := s.sealHi w, kind := kind, wing := w, nsid := nsid, stripe := stripe, target := target, layout := layout }] }

/-- Free a waybill or retire an intent: its record is made once (R97, R100). -/
def State.finalRec (r : Rec) (s : State) : State :=
  if r.finalMade then s
  else
    let same (x : Rec) : Bool := x.sealNo == r.sealNo && x.wing == r.wing
    let s1 := s.modLg fun l => { l with recs := modFirst same (fun x => { x with finalMade := true }) l.recs }
    s1.makeFinal (if r.kind = 2 then 4 else 3) r.wing r.nsid r.stripe r.sealNo r.layout

/-- Slab occupancy in bytes (R193). -/
def State.slabUsed (s : State) : Nat := 4096 * sumN (s.lg.recs.map fun r => r.blocks.length)

/-- Unfreed waybills in the index (R192). -/
def State.waybills (s : State) : Nat := (s.lg.recs.filter fun r => r.kind == 1).length
/-- Bytes of blocks in the slab whose waybill is not sealed yet. -/
def State.slabPending (s : State) : Nat :=
  4096 * sumN (s.ce.cmds.map fun c => (c.blocks.filter fun b => b.slabbed).length)

/-- Waybills of pieces admitted and not sealed yet, whose places in the index are theirs (R192; log entry 108). -/
def State.waybillsDue (s : State) : Nat :=
  sumN (s.ce.cmds.map fun c => if c.cap.op = .write ∧ c.status.isNone then
    ((c.blocks.filter fun b => b.stage != .queued && b.stage != .done &&
      !((c.partOf b.lba).any (·.full))).foldl (fun l b => addNew l b.piece) []).length else 0)
/-- The index has no place for one more waybill (R192). -/
def State.indexFull (s : State) : Bool := decide (524288 ≤ s.waybills + s.waybillsDue)
/-- Unretired intents in the index (R192). -/
def State.intents (s : State) : Nat := (s.lg.recs.filter fun r => r.kind == 2).length

/-- An apply or replay of the stripe is in progress (R87, R112). -/
def State.applying (s : State) (nsid stripe : Nat) : Bool :=
  s.lg.applies.any fun g => g.nsid == nsid && g.stripe == stripe

/-- An apply, replay or resynchronisation of a row of a stripe is in progress (R112). -/
def State.rowApplying (s : State) (nsid stripe row : Nat) : Bool :=
  let lay := (s.ns nsid).layout
  s.lg.applies.any fun g => g.nsid == nsid && g.stripe == stripe && (g.intent.isSome ||
    s.lg.recs.any fun r => r.wing == g.wing && g.seals.contains r.sealNo &&
      (List.range (layK lay)).any fun m =>
        let lba := hostLba lay stripe m row
        decide (r.first ≤ lba) && decide (lba < r.first + r.blocks.length + r.zeroed))

/-- Full-stripe member writes of the stripe are in progress (R81). -/
def State.fullWriting (s : State) (nsid stripe : Nat) : Bool :=
  s.ce.cmds.any fun c => c.cap.nsid == nsid && c.parts.any fun p => p.full && p.stripe == stripe && p.issued &&
    !p.writing.isEmpty

/-- The rebuild holds the stripe (R166). -/
def State.rebuildHolds (s : State) (nsid stripe : Nat) : Bool :=
  s.rb.held.any fun h => h.nsid == nsid && h.stripe == stripe

/-! ### Drive commands (R340) -/

/-- The queue of a drive command by its use (R340). -/
def driveQueue (use : DriveUse) (party stripe : Nat) : Nat :=
  match use with
  | .blockRead .. => 1 + party % 4
  | .fill _ _ cls _ => if cls = Bc.rebuild then 11 else 1 + party % 4
  | .row .. => 5 + stripe % 4
  | .rowWrite .. => 5 + stripe % 4
  | .fullStripe .. => 5 + stripe % 4
  | .journal .. => 9
  | .zoneRead _ => 9
  | .descriptor _ => 10
  | .descRead .. => 10
  | .patrolRewrite .. => 12
  | _ => 0

/-- The depth of a drive queue (R340). -/
def queueDepth (queue : Nat) : Nat := if queue = 0 then 32 else if queue ≤ 8 then 512 else 256

/-- The root port of a bay is in a partial reset: nothing is started on it (R468, R469). -/
def State.portInReset (s : State) (bay : Nat) : Bool := s.md.resets.any fun r => r.unit == rootUnit bay && r.phase != .ready

/-- A drive queue has room for one more command (R340), and its port may start one (R468). -/
def State.queueRoom (s : State) (bay queue : Nat) : Bool :=
  !s.portInReset bay && decide ((s.drives.cmds.filter fun d => d.bay == bay && d.queue == queue && d.outstanding).length < queueDepth queue)

/-- A read or write of a wing may be sent to a drive: during and after a takeover, only once the drive is won (R235). -/
def State.driveWon (bay : Nat) (d : DriveCmd) (s : State) : Bool :=
  !(d.op == .read || d.op == .write) ||
  (match (s.wing d.nsid).takeover with
  | some t => t.won.contains bay
  | none => (s.wing d.nsid).state != .holder || (s.drive bay).acquired.contains d.nsid)

/-- Issue a command on a drive's queue: its doorbell is rung as soon as the queue has room (R340) and the drive is won
(R235). -/
def State.issueDrive (d : DriveCmd) (s : State) : State :=
  let cid := s.drives.nextCid
  let ring := s.queueRoom d.bay d.queue && s.driveWon d.bay d
  let s1 := s.modDrives fun x => { x with cmds := x.cmds ++ [{ d with cid := cid, outstanding := ring }], nextCid := cid + 1 }
  if ring then s1.emit (.doorbell d.bay d.queue cid d.op d.lba d.blocks d.arg) else s1

/-- A command that waited for room in a queue has its doorbell rung (R340). -/
def State.ringNext (bay queue : Nat) (s : State) : State :=
  if s.queueRoom bay queue then
    match s.drives.cmds.find? fun d => d.bay == bay && d.queue == queue && !d.outstanding && !d.held && s.driveWon bay d with
    | some d =>
      let f (x : DriveCmd) : DriveCmd := { x with outstanding := true }
      (s.modDrives fun x => { x with cmds := modFirst (fun y => y == d) f x.cmds }).emit
        (.doorbell d.bay d.queue d.cid d.op d.lba d.blocks d.arg)
    | none => s
  else s

/-- Read one member sector. -/
def State.readMember (bay wing lba queue : Nat) (use : DriveUse) (s : State) : State :=
  s.issueDrive { bay := bay, queue := queue, op := .read, nsid := wing, lba := lba, blocks := 1, use := use }

/-- Write member sectors: one DRIVE_OUT cell per sector carries them (R32, R81). -/
def State.writeMember (bay wing queue cls seq : Nat) (use : DriveUse) (sectors : List Sector) (beds : List Nat) (s : State) :
    State :=
  let cid := s.drives.nextCid
  let s1 := s.issueDrive
    { bay := bay, queue := queue, op := .write, nsid := wing, lba := (sectors.map (·.lba)).headD 0,
      blocks := sectors.length, use := use, sectors := sectors, beds := beds, toMove := sectors.length }
  (List.range sectors.length).foldl (fun t i =>
    t.push cls Opc.driveOut (beds[i]?.map bedUnit) (some (rootUnit bay)) seq (.driveOut bay queue cid)) s1

/-- The drive command of a bay, queue and identifier. -/
def State.driveCmd? (s : State) (bay queue cid : Nat) : Option DriveCmd :=
  s.drives.cmds.find? fun d => d.bay == bay && d.queue == queue && d.cid == cid

/-- Change a drive command. -/
def State.modDriveCmd (bay queue cid : Nat) (f : DriveCmd → DriveCmd) (s : State) : State :=
  let same (d : DriveCmd) : Bool := d.bay == bay && d.queue == queue && d.cid == cid
  s.modDrives fun x => { x with cmds := modFirst same f x.cmds }

/-- A drive command leaves its queue. -/
def State.dropDriveCmd (bay queue cid : Nat) (s : State) : State :=
  (s.modDrives fun x => { x with
    cmds := x.cmds.filter fun d => !(d.bay == bay && d.queue == queue && d.cid == cid) }).ringNext bay queue

/-! ### Chained queues (R289 to R291) -/

/-- The count a wait entry has reached (R289). -/
def countReached (c n : Nat) : Bool := decide ((c + 2 ^ 32 - n % 2 ^ 32) % 2 ^ 32 < 2 ^ 31)

/-- A completion count by its target. -/
def State.targetCount (s : State) : WorkEntry → Option Nat
  | .waitQueue q _ => some ((s.tr.queues.find? fun x => x.id == q).elim 0 (·.count))
  | .waitDrive bay q _ => some (lookup (s.drive bay).counts q 0)
  | .transfer .. => none

/-- The condition of a wait entry holds. -/
def State.waitMet (s : State) (e : WorkEntry) : Bool :=
  match e, s.targetCount e with
  | .waitQueue _ n, some c => countReached c n
  | .waitDrive _ _ n, some c => countReached c n
  | _, _ => false

/-- The head entry of a work queue completes with OK (R289). -/
def State.workNext (id : Nat) (s : State) : State :=
  let f (x : WorkQueue) : WorkQueue := { x with entries := x.entries.drop 1, count := (x.count + 1) % 2 ^ 32 }
  s.modTr fun t => { t with queues := modFirst (fun x => x.id == id) f t.queues }

/-- The target of a wait entry as record 0x4006 names it: a work queue by its number, a drive queue as 65,536 + 256 × bay + queue (log
entry 20). -/
def WorkEntry.target : WorkEntry → Nat
  | .waitQueue q _ => q
  | .waitDrive bay q _ => 65536 + 256 * bay + q
  | .transfer .. => 0

/-- Wait entries at the heads of queues end other than OK: their queues stop at them, and so do the wait entries that wait on those
queues (R290). -/
def State.endWaits (outcome : Nat) : Nat → List Nat → State → State
  | 0, _, s => s
  | _, [], s => s
  | f + 1, id :: r, s =>
    let target := match s.tr.queues.find? fun q => q.id == id with
      | some q => (q.entries.head?.map WorkEntry.target).getD 0
      | none => 0
    let stop (x : WorkQueue) : WorkQueue := { x with stopped := true }
    let s1 := (s.modTr fun t => { t with queues := modFirst (fun x => x.id == id) stop t.queues }).emit (.workDone id outcome)
    let s2 := (s1.tick Obj.tr_chain_wait_outcomes (outcome + 1)).record 5 0x4006 [(4, id), (4, target), (1, outcome)]
    let next := s2.tr.queues.filter fun q => match q.entries with
      | .waitQueue n _ :: _ => n == id && !q.stopped
      | _ => false
    State.endWaits outcome f (r ++ next.map (·.id)) s2

/-- A wait entry ends other than OK (R290). -/
def State.waitEnds (id outcome : Nat) (s : State) : State := State.endWaits outcome s.tr.queues.length [id] s

/-- A work queue's head is a transfer whose source has been cancelled (R291). -/
def WorkQueue.staleHead (q : WorkQueue) : Bool := !q.stopped && (match q.entries with | .transfer _ _ true :: _ => true | _ => false)

/-- The stale head transfer of a queue completes with STALE, and so does every wait on that queue (R290, R291). -/
def State.workStaled (id : Nat) (s : State) : State :=
  let f (x : WorkQueue) : WorkQueue := { x with entries := x.entries.drop 1 }
  let s1 := (s.modTr fun t => { t with queues := modFirst (fun x => x.id == id) f t.queues }).emit (.workDone id Oc.stale)
  (s1.tr.queues.filter fun q => match q.entries with
    | .waitQueue n _ :: _ => n == id && !q.stopped
    | _ => false).foldl (fun t q => t.waitEnds q.id Oc.stale) s1

/-- Wait entries at the heads of their queues that are satisfied complete with OK, stale transfers with STALE (R289, R291). -/
def State.serveWaits : Nat → State → State
  | 0, s => s
  | f + 1, s =>
    match s.tr.queues.find? fun q => !q.stopped && (match q.entries with | e :: _ => s.waitMet e | [] => false) with
    | some q =>
      let s1 := (s.workNext q.id).emit (.workDone q.id Oc.ok)
      State.serveWaits f (s1.tick Obj.tr_chain_wait_outcomes 1)
    | none => match s.tr.queues.find? WorkQueue.staleHead with
      | some q => State.serveWaits f (s.workStaled q.id)
      | none => s

/-- Entries waiting in every work queue. -/
def State.workLeft (s : State) : Nat := sumN (s.tr.queues.map fun q => q.entries.length) + 1

/-- An entry joins a work queue. -/
def State.enqueueWork (id : Nat) (e : WorkEntry) (s : State) : State :=
  let add (x : WorkQueue) : WorkQueue := { x with entries := x.entries ++ [e] }
  let s1 := s.modTr fun t => { t with
    queues := if t.queues.any fun x => x.id == id then modFirst (fun x => x.id == id) add t.queues else t.queues ++ [add { id := id }] }
  s1.serveWaits s1.workLeft

/-- Firmware posts an entry to a work queue (R289, R290): a wait entry that names its own queue is denied, one whose condition holds at
the head of its queue is satisfied at once. -/
def State.postWork (id : Nat) (e : WorkEntry) (s : State) : Nat × State :=
  match e with
  | .waitQueue q _ => if q = id then (Oc.denied, s) else (Oc.ok, s.enqueueWork id e)
  | _ => (Oc.ok, s.enqueueWork id e)

/-- Provisional entries of blocks have left the index unpromoted: transfers from them are stale (R291). -/
def State.workStale (nsid : Nat) (lbas : List Nat) (s : State) : State :=
  let f (e : WorkEntry) : WorkEntry := match e with
    | .transfer n l old => .transfer n l (old || (n == nsid && lbas.contains l))
    | x => x
  let t := s.modTr fun t => { t with queues := t.queues.map fun q => { q with entries := q.entries.map f } }
  if lbas.isEmpty then s else t.serveWaits t.workLeft

/-! ### The stripe cache (R125 to R130) -/

/-- The indexed entry of a block, filling and cancelled ones left out. -/
def State.cacheAt (s : State) (nsid lba : Nat) : Option CacheEntry :=
  s.ce.cache.find? fun e => e.nsid == nsid && e.lba == lba && !e.filling && !e.cancelled

/-- Entries, fills in flight included, that the index names for a block. -/
def State.cacheNames (s : State) (nsid lba : Nat) : Bool :=
  s.ce.cache.any fun e => e.nsid == nsid && e.lba == lba && !e.cancelled

/-- Blocks removed from the index: pinned and filling entries stay without it, the others leave; provisional ones are
counted as cancelled (R118, R128). -/
def State.cacheRemove (nsid : Nat) (p : Nat → Bool) (s : State) : State :=
  let hit (e : CacheEntry) : Bool := e.nsid == nsid && p e.lba && !e.cancelled
  let prov := (s.ce.cache.filter fun e => hit e && !e.confirmed).map (·.lba)
  let drop (e : CacheEntry) : CacheEntry := if hit e then { e with cancelled := true } else e
  (((s.modCe fun c => { c with
    cache := (c.cache.map drop).filter fun e => !e.cancelled || e.filling || !e.pins.isEmpty }).count
      Obj.ce_prov_cancelled 0 prov.length).countDropped nsid p).workStale nsid prov

/-- Provisional entries of a block are cancelled by a write to its member (R128). -/
def State.cacheCancelProv (nsid lba : Nat) (s : State) : State :=
  let hit (e : CacheEntry) : Bool := e.nsid == nsid && e.lba == lba && !e.confirmed && !e.cancelled
  let prov := (s.ce.cache.filter hit).map (·.lba)
  let drop (e : CacheEntry) : CacheEntry := if hit e then { e with cancelled := true } else e
  (((s.modCe fun c => { c with
    cache := (c.cache.map drop).filter fun e => !e.cancelled || e.filling || !e.pins.isEmpty }).count
      Obj.ce_prov_cancelled 0 prov.length).countDropped nsid (· == lba)).workStale nsid prov

/-- An entry is used: it becomes the most recently used (R127). -/
def State.cacheTouch (nsid lba : Nat) (s : State) : State :=
  s.modCe fun c => match c.cache.find? fun e => e.nsid == nsid && e.lba == lba && !e.cancelled with
    | some e => { c with cache := e :: dropFirst (fun x => x == e) c.cache }
    | none => c

/-- Promote a provisional entry (R129). -/
def State.cachePromote (nsid lba : Nat) (s : State) : State :=
  match s.cacheAt nsid lba with
  | some e =>
    if e.confirmed then s
    else ((s.modCe fun c => { c with cache := modFirst (fun x => x == e) (fun x => { x with confirmed := true }) c.cache }).tick
      Obj.ce_prov_promoted).countKept nsid lba
  | none => s

/-- Blocks the stripe cache holds. -/
def State.cacheBlocks (s : State) : Nat := s.ce.cacheSize / 4096

/-- The last entry that meets `p` leaves. -/
def dropLast' (p : CacheEntry → Bool) (l : List CacheEntry) : List CacheEntry := (dropFirst p l.reverse).reverse

/-- Evict one entry for room: provisional first, least recently filled first, then confirmed unpinned ones, least
recently used first; pinned entries never (R127). -/
def State.cacheEvict (s : State) : State :=
  let prov (e : CacheEntry) : Bool := !e.confirmed && !e.filling && e.pins.isEmpty
  let conf (e : CacheEntry) : Bool := e.confirmed && e.pins.isEmpty
  match s.ce.cache.reverse.find? prov with
  | some e =>
    (((s.modCe fun c => { c with cache := dropLast' prov c.cache }).tick Obj.ce_prov_evicted).countDropped e.nsid (· == e.lba)).workStale
      e.nsid [e.lba]
  | none => s.modCe fun c => { c with cache := dropLast' conf c.cache }

/-- Room for one more entry. -/
def State.cacheRoom (s : State) : State := if s.cacheBlocks ≤ s.ce.cache.length then s.cacheEvict else s

/-- Provisional entries at most ce_provisional_limit of the cache (R127): at the limit no fill is issued; that an older entry is not
evicted for it is the model's choice (log entry 109). -/
def State.provRoom (s : State) : Bool :=
  decide ((s.ce.cache.filter fun e => !e.confirmed).length < s.cacheBlocks * s.get Obj.ce_provisional_limit / 1000)

/-- Enter a block in the cache as its most recently used entry, where room can be made. -/
def State.cacheInsert (e : CacheEntry) (s : State) : State :=
  let t := s.cacheRoom
  if t.ce.cache.length < t.cacheBlocks then t.modCe fun c => { c with cache := e :: c.cache } else t

/-- Drop the pins of a command; an entry no longer indexed leaves with its last pin (R118). -/
def State.unpin (arrival : Nat) (s : State) : State :=
  let drop (e : CacheEntry) : CacheEntry := { e with pins := e.pins.filter (· != arrival) }
  s.modCe fun c => { c with
    cache := (c.cache.map drop).filter fun e => !e.cancelled || e.filling || !e.pins.isEmpty }

/-! ### Berth classes and modes -/

/-- Admission of pieces of a command is open: the mode and the wing (R253, R255, R329, R465). -/
def State.admissionOpen (s : State) (c : Cmd) : Bool :=
  let w := (s.ns c.cap.nsid).wing
  (s.wing w).open_ && (s.md.mode == .service || (s.md.mode == .drain && c.sincePs2 && s.md.causes.all (· == 0)))

/-- The condition of R106: an applied or superseded waybill is no source for a command. -/
def Rec.usable (r : Rec) (arrival lba : Nat) : Bool :=
  r.covers lba && !r.applied && !(r.superseded && decide (r.supersededBy < arrival))

/-- The usable covering waybill with the highest seal (R106). -/
def State.usableRec (s : State) (nsid arrival lba : Nat) : Option Rec :=
  (s.lg.recs.filter fun r => r.nsid == nsid && r.usable arrival lba).foldl
    (fun m r => match m with | some x => if x.sealNo < r.sealNo then some r else m | none => some r) none

/-! ### Lost blocks (R178, R179) -/

/-- The lost-block page of a namespace. -/
def State.lostPage (s : State) (nsid : Nat) : LostPage :=
  (s.ce.lostPages.find? fun p => p.nsid == nsid).getD { nsid := nsid }

/-- Replace a lost-block page. -/
def State.putLostPage (p : LostPage) (s : State) : State :=
  s.modCe fun c => { c with
    lostPages := if c.lostPages.any (fun q => q.nsid == p.nsid)
      then modFirst (fun q => q.nsid == p.nsid) (fun _ => p) c.lostPages else c.lostPages ++ [p] }

/-- The block is named in the lost-block page (R113). -/
def State.isLost (s : State) (nsid lba : Nat) : Bool :=
  (s.lostPage nsid).entries.any fun e => inSpan lba (e.first, e.blocks)

/-- Insert an entry in ascending first_lba (R179). -/
def insertLost (e : LostEntry) : List LostEntry → List LostEntry
  | [] => [e]
  | x :: r => if e.first < x.first then e :: x :: r else x :: insertLost e r

/-- Distance of a block from an entry. -/
def lostGap (lba : Nat) (e : LostEntry) : Nat := if lba < e.first then e.first - lba else lba - (e.first + e.blocks - 1)

/-- Join neighbours of one cause that touch. -/
def joinLost : List LostEntry → List LostEntry
  | [] => []
  | e :: r =>
    match joinLost r with
    | x :: t => if e.cause = x.cause ∧ e.first + e.blocks = x.first then
        { e with blocks := e.blocks + x.blocks, time := Nat.max e.time x.time } :: t else e :: x :: t
    | [] => [e]

/-- The nearest entry of a page, the lower one on a tie (R179). -/
def nearestLost (lba : Nat) (l : List LostEntry) : Option LostEntry :=
  l.foldl (fun m e => match m with | some x => if lostGap lba e < lostGap lba x then some e else m | none => some e) none

/-- Enter a newly lost block (R113, R178, R179).  Its stripe is that of the range's first LBA. -/
def State.loseBlock (nsid lba cause : Nat) (s : State) : State :=
  if s.isLost nsid lba then s
  else
    let p := s.lostPage nsid
    let lay := (s.ns nsid).layout
    let e : LostEntry := { first := lba, blocks := 1, cause := cause, time := s.gh.now, stripe := stripeOf lay lba }
    let joined := (joinLost (insertLost e p.entries)).map fun x => { x with stripe := stripeOf lay x.first }
    let lose (k : Nat) (t : State) : State := (t.count Obj.gh_tally_blocks_lost 0 k).count Obj.pe_lost_blocks 0 k
    if joined.length ≤ 4096 then
      (lose 1 s).putLostPage { p with entries := joined, changes := (p.changes + 1) % 2 ^ 32 }
    else
      match nearestLost lba p.entries with
      | some x =>
        let lo := Nat.min x.first lba
        let hi := Nat.max (x.first + x.blocks) (lba + 1)
        let y := { x with first := lo, blocks := hi - lo, time := s.gh.now, stripe := stripeOf lay lo }
        let q : LostPage := { p with
          entries := modFirst (fun z => z == x) (fun _ => y) p.entries, changes := (p.changes + 1) % 2 ^ 32,
          widened := true }
        (((lose (hi - lo - x.blocks) s).putLostPage q).tick Obj.pe_lost_widened).record 6 0x7106 [(2, nsid), (8, lo), (4, hi - lo)]
      | none => s

/-- Remove a range of blocks from one entry: up to two pieces are left. -/
def cutLost (first blocks : Nat) (e : LostEntry) : List LostEntry :=
  let hi := e.first + e.blocks
  let last := first + blocks
  if last ≤ e.first ∨ hi ≤ first then [e]
  else
    (if e.first < first then [{ e with blocks := first - e.first }] else []) ++
    (if last < hi then [{ e with first := last, blocks := hi - last }] else [])

/-- Acknowledgement of a write-kind command removes its blocks from the page; a split past 4,096 entries only shrinks
ends (R177, R179). -/
def State.restoreBlocks (nsid first blocks : Nat) (s : State) : State :=
  let p := s.lostPage nsid
  let lay := (s.ns nsid).layout
  if p.entries.any (fun e => decide (first < e.first + e.blocks) && decide (e.first < first + blocks)) then
    let cut := p.entries.flatMap (cutLost first blocks)
    let kept := if cut.length ≤ 4096 then cut else p.entries.flatMap fun e =>
      match cutLost first blocks e with
      | [_, _] => [e]
      | l => l
    let fixed := kept.map fun e => { e with stripe := stripeOf lay e.first }
    let n := sumN (p.entries.map (·.blocks)) - sumN (fixed.map (·.blocks))
    (s.putLostPage { p with entries := fixed, changes := (p.changes + 1) % 2 ^ 32 }).put Obj.pe_lost_blocks 0
      (s.get Obj.pe_lost_blocks - n)
  else s

/-! ### Asynchronous events (R318) -/

/-- The notice bit of FID 0x0B that gates an event, none where it is always reported: namespace attribute 8, firmware
activation 9, ANA 11 (R314, R319). -/
def eventBit (type info : Nat) : Option Nat :=
  if type = 2 then (if info = 0 then some 8 else if info = 1 then some 9 else if info = 3 then some 11 else none)
  else none

/-- Report the next event of an association on an outstanding request (R318). -/
def State.aerServe (i : Nat) (s : State) : State :=
  match s.assoc? i with
  | some a =>
    match a.aers, a.events with
    | cid :: rest, e :: more =>
      (s.modAssoc i fun a => { a with aers := rest, events := more, masked := a.masked ++ [(e.1, e.2.1)] }).respondWith
        (if i = 2048 then .endpoint else .assoc i) 0 cid (e.1 + e.2.1 * 256 + e.2.2 * 65536) []
    | _, _ => s
  | none => s

/-- Raise an event on one association: type, information, log page; masked until its page is read (R318). -/
def State.raiseOn (i type info lid : Nat) (s : State) : State :=
  match s.assoc? i with
  | some a =>
    let gated := match eventBit type info with | some b => !bit a.aenConfig b | none => false
    if gated || a.masked.contains (type, info) || a.events.any (fun e => e.1 == type && e.2.1 == info) then s
    else (s.modAssoc i fun a => { a with events := a.events ++ [(type, info, lid)] }).aerServe i
  | none => s

/-- Every controller: the associations and the endpoint's. -/
def State.allAssocs (s : State) : List Nat := s.ce.assocs.map (·.index) ++ [2048]

/-- Raise an event on every association. -/
def State.raiseAll (type info lid : Nat) (s : State) : State :=
  s.allAssocs.foldl (fun t i => t.raiseOn i type info lid) s

/-- The namespace is active for an association of a party (R337). -/
def State.nsActive (s : State) (party nsid : Nat) : Bool :=
  match s.ns? nsid with
  | some n => !n.creating && !n.deleting && bit (s.get (Obj.ce_ns_party_mask + (nsid - 1)) 1) party
  | none => false

/-- The party of a controller: an association's, or ep_party (R42, R506). -/
def State.partyOf (s : State) (i : Nat) : Nat :=
  if i = 2048 then s.get Obj.ep_party else match s.assoc? i with | some a => a.party | none => 0

/-- A lost-block page changed: vendor event on every association that sees the namespace (R318). -/
def State.raiseLost (nsid : Nat) (s : State) : State :=
  s.allAssocs.foldl (fun t i => if t.nsActive (t.partyOf i) nsid then t.raiseOn i 7 0xC0 0xC0 else t) s

/-- A block is found lost, recorded and reported (R113, R318). -/
def State.loseReported (nsid lba cause : Nat) (s : State) : State :=
  if s.isLost nsid lba then s else (s.loseBlock nsid lba cause).raiseLost nsid

/-- A block a Read finds newly lost: recorded, with one guestbook record (R113). -/
def State.loseRead (nsid lba : Nat) (s : State) : State :=
  if s.isLost nsid lba then s else (s.loseReported nsid lba 2).record 5 0x6410 [(2, nsid), (8, lba)]

end Sys2Proof.Machine
end

