-- ==== Sys2Proof/Machine/Rows.lean ====
section
/-! DEFINITION. Row jobs of the parity units: reads, syndromes, results and member writes of applies, degraded reads,
rebuild, the night watch, resynchronisation and replay (R94 to R101, R111, R135, R156 to R159, R164 to R169, R176,
R182 to R184, R215 to R218, R567, R568). -/

namespace Sys2Proof.Machine

/-! ### Places -/

/-- The queue of a member read or write of a row job (R340). -/
def RowJob.queue (j : RowJob) (party : Nat) : Nat :=
  match j.use with
  | .recon _ _ => 1 + party % 4
  | .rebuild => 11
  | .patrol => 12
  | _ => 5 + j.stripe % 4

/-- The party whose read a reconstruction serves. -/
def State.jobParty (s : State) (j : RowJob) : Nat :=
  match j.use with
  | .recon a _ => match s.cmd? a with | some c => c.party | none => 0
  | _ => 0

/-- Bay and member LBA of a member's block in a job's row, none where it is absent (R84, R144). -/
def State.rowAt (s : State) (j : RowJob) (m : Nat) : Option (Nat × Nat) :=
  (s.memberAt (s.ns j.nsid) j.stripe m).map fun p => (p.1, p.2 + j.row)

/-- A row job by its number. -/
def State.job? (s : State) (id : Nat) : Option RowJob := s.pe.jobs.find? fun j => j.id == id

/-- Change a row job. -/
def State.modJob (id : Nat) (f : RowJob → RowJob) (s : State) : State :=
  s.modPe fun p => { p with jobs := modFirst (fun j => j.id == id) f p.jobs }

/-- A row job ends; beds of inputs still on their way into it return. -/
def State.dropJob (id : Nat) (s0 : State) : State :=
  let s := s0.ce.ready.foldl (fun t x => match x.job with
    | .parityIn i _ bed _ => if i = id then t.freeOwned bed else t
    | _ => t) s0
  (s.modPe fun p => { p with jobs := p.jobs.filter fun j => j.id != id }).dropJobs fun j =>
    match j with
    | .parityIn i _ _ _ => i == id
    | .parityOut i _ => i == id
    | .rowCache i _ => i == id
    | _ => false

/-- Row jobs a unit holds (R156, R568). -/
def State.unitJobs (s : State) (u : Nat) : Nat := (s.pe.jobs.filter fun j => j.unit == some u).length

/-! ### What a row reads (R94, R95, R111, R164, R183, R216) -/

/-- Data members a job writes anew. -/
def RowJob.touched (j : RowJob) : List Nat := j.newData.map (·.member)

/-- The members a job needs, given its erased members. -/
def rowNeeds (k : Nat) (j : RowJob) : List Nat :=
  let present := (List.range (k + 2)).filter fun m => !j.erased.contains m
  let data := present.filter fun m => decide (m < k)
  match j.use with
  | .apply =>
    let t := j.touched.length
    if k ≤ t then []
    else if !j.erased.isEmpty then present
    else if t + 2 ≤ k - t then j.touched ++ [k, k + 1]
    else data.filter fun m => !j.touched.contains m
  | .recon _ _ => rowReads k j.erased
  | .rebuild =>
    if j.copy then j.issue ++ j.want
    else if 3 ≤ j.erased.length then present
    else rowReads k j.erased
  | .patrol => present
  | .resync => data
  | .replay => present

/-- A block a rebuild or an apply may take from a provisional stripe-cache entry in place of its member (R129, R168). -/
def State.rowFromCache (s : State) (j : RowJob) (m : Nat) : Bool :=
  let n := s.ns j.nsid
  (j.use == .apply || (j.use == .rebuild && !j.copy)) &&
  (match s.cacheAt j.nsid (cacheLba n j.stripe m j.row) with | some e => !e.confirmed | none => false)

/-- Ask for one member block of a job (R94): from the drive, or from a provisional entry; an absent member is an
erasure, which the caller has settled. -/
def State.askMember (id m : Nat) (s : State) : State :=
  match s.job? id with
  | some j =>
    let s1 := s.modJob id fun x => { x with issue := x.issue.filter (· != m), want := addNew x.want m }
    if s.rowFromCache j m then s1.push j.cls Opc.cacheRd none none 0 (.rowCache id m)
    else
      match s.rowAt j m with
      | some p =>
        (s1.readMember p.1 (s.ns j.nsid).wing p.2 (j.queue (s.jobParty j)) (.row id m)).count
          Obj.pe_rebuild_reads 0 (if j.use = .rebuild then 1 else 0)
      | none => s1
  | none => s

/-- Reads that do not count against a rate limit go at once (R173, R187). -/
def RowJob.limited (j : RowJob) : Bool := j.use == .rebuild || j.use == .patrol

/-- What counts as erased in a job's row now: what it knows, and the members that are absent and not taken in (R84, R135). -/
def State.erasedNow (s : State) (j : RowJob) : List Nat :=
  ((s.absent (s.ns j.nsid) j.stripe).filter fun m => !(j.got.any fun g => g.member == m)).foldl addNew j.erased

/-- Ask for what a job needs and has neither taken in nor asked for; a member that is absent by now is an erasure. -/
def State.planJob (id : Nat) (s : State) : State :=
  match s.job? id with
  | some j0 =>
    let j := if j0.copy then j0 else { j0 with erased := s.erasedNow j0 }
    let need := (rowNeeds (layK (s.ns j.nsid).layout) j).filter fun m =>
      !(j.got.any fun g => g.member == m) && !j.want.contains m
    let s1 := s.modJob id fun x => { x with erased := j.erased, issue := need }
    if j.limited then s1 else need.foldl (fun t m => t.askMember id m) s1
  | none => s

/-! ### Member writes of a row -/

/-- Hand one result to its drive: the write is issued and its DRIVE_OUT cell becomes ready (R94, R164, R184).  A member whose bay
has been contained meanwhile counts as absent and is not written (R344). -/
def State.writeRow (id : Nat) (o : RowOut) (bed : Option Nat) (s : State) : State :=
  match s.job? id with
  | some j =>
    if !s.bayInUse o.bay then
      (match bed with | some h => s.freeOwned h | none => s).modJob id fun x => { x with
        outs := dropFirst (fun q => q.member == o.member) x.outs }
    else
    let s1 := s.modJob id fun x => { x with
      outs := dropFirst (fun q => q.member == o.member) x.outs, writing := x.writing ++ [o.member],
      sent := if bed.isNone then addNew x.sent o.member else x.sent }
    let s2 := (s1.writeMember o.bay (s.ns j.nsid).wing (j.queue 0) j.cls 0 (.rowWrite id o.member)
      [{ lba := o.lba, data := o.data, trl := o.trl }] bed.toList)
    let s3 := if j.use = .rebuild ∨ j.use = .patrol then
        s2.cacheCancelProv j.nsid (cacheLba (s.ns j.nsid) j.stripe o.member j.row) else s2
    if j.use = .rebuild then s3.tick Obj.pe_rebuild_writes
    else if j.use = .patrol then s3.tick Obj.pe_patrol_rewrites else s3
  | none => s

/-- The results of a job: those the parity unit forms leave in PARITY_OUT cells from the second slot after its last
input on, the others are written at once (R158). -/
def State.emitRow (id : Nat) (outs0 : List RowOut) (parity : Nat → Bool) (s : State) : State :=
  match s.job? id with
  | some j =>
    -- new data that has gone to its drive before a retraction stands (R129)
    let outs := outs0.filter fun o => parity o.member || !j.sent.contains o.member
    let s1 := s.modJob id fun x => { x with computed := true, outs := outs }
    outs.foldl (fun t o =>
      if parity o.member then t.pushAt (t.slotNow + 2) j.cls Opc.parityOut j.unit none 0 (.parityOut id o.member)
      else t.writeRow id o none) s1
  | none => s

/-- The sector of a result at the member's present place, none where it is absent. -/
def State.outAt (s : State) (j : RowJob) (m : Nat) (data : Block) (f : TFlags) (sealNo : Nat) : Option RowOut :=
  let n := s.ns j.nsid
  (s.rowAt j m).map fun p =>
    { member := m, data := data, bay := p.1, lba := p.2,
      trl := mkTrailer sealNo (s.stripeGen n j.stripe m) n.layout.toNat m f data }

/-- Count a reconstructed row under its case (R160). -/
def State.countCase (k : Nat) (erased : List Nat) (s : State) : State :=
  match rowCase k erased with
  | some c => s.tick Obj.pe_rows_by_case c
  | none => if 3 ≤ erased.length then s.tick Obj.pe_rows_unrecoverable else s

/-- What was taken in, as member and data. -/
def RowJob.blocks (j : RowJob) : List (Nat × Block) := j.got.map fun g => (g.member, g.data)

/-! ### Applies (R94 to R96, R567) -/

/-- Change the group of a stripe. -/
def State.modGroup (nsid stripe : Nat) (f : Group → Group) (s : State) : State :=
  s.modLg fun l => { l with applies := modFirst (fun g => g.nsid == nsid && g.stripe == stripe) f l.applies }

/-- Erased data blocks of a row are lost (R113, R176, R567): entered with a cause. -/
def State.loseRow (j : RowJob) (cause : Nat) (ms : List Nat) (s : State) : State :=
  let lay := (s.ns j.nsid).layout
  ms.foldl (fun t m => t.loseReported j.nsid (hostLba lay j.stripe m j.row) cause) s

/-- The full stored content of a row: new data over old, and its parity (R94, R567). -/
structure RowImage where
  data : List (Nat × Block)
  p : Block
  q : Block
  deriving DecidableEq, Repr

/-- Row content from data members, with the syndromes of R134. -/
def rowImage (data : List (Nat × Block)) : RowImage := { data := data, p := parityP data, q := parityQ data }

/-- New data over a base row. -/
def overlay (base : List (Nat × Block)) (new : List RowNew) : List (Nat × Block) :=
  new.foldl (fun l n => assign l n.member n.data) base

/-- The row after an apply: its members, syndromes and the blocks lost (R94, R567). -/
def applyRow (k : Nat) (j : RowJob) : RowImage × List Nat :=
  let got := j.blocks
  if k ≤ j.touched.length then (rowImage (overlay [] j.newData), [])
  else if 3 ≤ j.erased.length then
    let lost := (List.range k).filter fun m => j.erased.contains m && !j.touched.contains m
    let base := (List.range k).map fun m => (m, if j.erased.contains m then 0 else memberOf got m)
    (rowImage (overlay base j.newData), lost)
  else if !j.erased.isEmpty then (rowImage (overlay (rowData k j.erased got) j.newData), [])
  else if j.touched.length + 2 ≤ k - j.touched.length then
    let diff := j.newData.map fun n => (n.member, memberOf got n.member ^^^ n.data)
    ({ data := j.newData.map fun n => (n.member, n.data), p := memberOf got k ^^^ parityP diff,
       q := memberOf got (k + 1) ^^^ parityQ diff }, [])
  else (rowImage (overlay (got.filter fun d => decide (d.1 < k)) j.newData), [])

/-- Flags of a data sector of an apply: ZERO where its host data is all zero (R98, R189). -/
def newFlags (j : RowJob) (f : TFlags) (m : Nat) : TFlags :=
  { f with zero := match j.newData.find? fun n => n.member == m with | some n => n.zero | none => false }

/-- The writes of a row: touched data, lost blocks, P and Q, to their present members (R94, R567). -/
def State.rowWrites (s : State) (j : RowJob) (img : RowImage) (members : List Nat) (f : TFlags) : List RowOut :=
  let k := layK (s.ns j.nsid).layout
  members.filterMap fun m =>
    s.outAt j m (if m = k then img.p else if m = k + 1 then img.q else lookup img.data m 0) (newFlags j f m) j.sealNo

/-- Compute an apply row (R94, R567). -/
def State.computeApply (j : RowJob) (s : State) : State :=
  let k := layK (s.ns j.nsid).layout
  let r := applyRow k j
  let s1 := if j.erased.isEmpty ∨ k ≤ j.touched.length then s else s.countCase k j.erased
  let s2 := s1.loseRow j 7 r.2
  let s3 := if 3 ≤ j.erased.length ∧ j.touched.length < k then
      s2.modGroup j.nsid j.stripe fun g => { g with lostRows := g.lostRows + 1, lostBlocks := g.lostBlocks + r.2.length }
    else s2
  s3.emitRow j.id (s3.rowWrites j r.1 (j.touched ++ r.2 ++ [k, k + 1]) { apply := true }) fun m => decide (k ≤ m)

/-! ### Resynchronisation (R100, R101) -/

/-- Compute a row of an unretired intent's stripe (R100, R101): P and Q from the data members as found, erased ones
lost with cause 3 and taken as zero. -/
def State.computeResync (j : RowJob) (s : State) : State :=
  let k := layK (s.ns j.nsid).layout
  let lost := (List.range k).filter fun m => j.erased.contains m
  let img := rowImage ((List.range k).map fun m => (m, memberOf j.blocks m))
  let s1 := s.loseRow j 3 lost
  s1.emitRow j.id (s1.rowWrites j img (lost ++ [k, k + 1]) { replay := true }) fun m => decide (k ≤ m)

/-! ### Replay of a waybill group (R216, R217) -/

/-- The row shows the group's apply completed there (R216). -/
def State.replayDuplicate (s : State) (j : RowJob) (seals : List Nat) : Bool :=
  let k := layK (s.ns j.nsid).layout
  let img := rowImage (overlay (j.blocks.filter fun d => decide (d.1 < k)) [])
  let need := j.touched ++ [k, k + 1]
  let fine (m : Nat) : Bool := match j.got.find? fun g => g.member == m with
    | some g => tApply g.trl && seals.any fun q => decide (j.sealNo ≤ q) && q % 2 ^ 48 == tSeal g.trl
    | none => false
  let all (m : Nat) : Bool := j.got.any fun g => g.member == m
  need.all fine && j.newData.all (fun n => lookup j.blocks n.member 0 == n.data) &&
  (List.range (k + 2)).all all && img.p == memberOf j.blocks k && img.q == memberOf j.blocks (k + 1)

/-- How R217 settles the absent data members of a replayed row that reconstruct-write needs: the row's data, those lost, and whether
the row was reconstructed.  With two data members absent and the apply possibly begun both are lost, one the group writes included:
its content is that of the group in P and Q (R217; log entry 110). -/
def replayBase (k : Nat) (j : RowJob) (begun : Bool) : List (Nat × Block) × List Nat × Bool :=
  let got := j.blocks
  let absent := (List.range k).filter fun m => j.erased.contains m
  let gone := absent.filter fun m => !j.touched.contains m
  let zero := (List.range k).map fun m => (m, if j.erased.contains m then 0 else memberOf got m)
  if gone.isEmpty then (zero, [], false)
  else if 3 ≤ j.erased.length then (zero, gone, false)
  else if !begun then (rowData k j.erased got, [], true)
  else
    match absent with
    | [x] =>
      if j.erased.length = 1 then
        let d := rowData k [x] got
        if parityQ d == memberOf got (k + 1) then (d, [], true) else (zero, gone, false)
      else (zero, gone, false)
    | _ => (zero, absent, false)

/-- Compute a replayed row (R216 to R218): left as a duplicate, or rewritten by reconstruct-write. -/
def State.computeReplay (j : RowJob) (s : State) : State :=
  let k := layK (s.ns j.nsid).layout
  match s.lg.applies.find? fun g => g.nsid == j.nsid && g.stripe == j.stripe with
  | some g =>
    if s.replayDuplicate j g.seals then (s.tick Obj.lg_replay_duplicate_rows).emitRow j.id [] fun _ => false
    else
      let begun := s.lg.recs.any fun r => g.seals.contains r.sealNo && r.wing == g.wing && (r.applyBegun || !r.fromVault)
      let b := replayBase k j begun
      let s0 := if b.2.2 || (decide (3 ≤ j.erased.length) && decide (j.touched.length < k)) then s.countCase k j.erased else s
      let s1 := (s0.loseRow j 5 b.2.1).count Obj.lg_replay_lost_blocks 0 b.2.1.length
      let img := rowImage (overlay b.1 j.newData)
      let j' := { j with sealNo := g.sealNo }
      (s1.tick Obj.lg_replay_rewritten_rows).emitRow j.id
        (s1.rowWrites j' img (b.2.1.foldl addNew j.touched ++ [k, k + 1]) { apply := true, replay := true }) fun m => decide (k ≤ m)
  | none => s.dropJob j.id

/-! ### Rebuild (R164, R165, R169, R176) -/

/-- The hold of a stripe. -/
def State.hold? (s : State) (nsid stripe : Nat) : Option Hold :=
  s.rb.held.find? fun h => h.nsid == nsid && h.stripe == stripe

/-- Change the hold of a stripe. -/
def State.modHold (nsid stripe : Nat) (f : Hold → Hold) (s : State) : State :=
  s.modRb fun r => { r with held := modFirst (fun h => h.nsid == nsid && h.stripe == stripe) f r.held }

/-- The generation of the event that moves a strip home or to spare at its destination: the latest one known when the
stripe was held (R154, R164, R165). -/
def State.destGen (s : State) (h : Hold) (m : Nat) : Nat :=
  let n := s.ns h.nsid
  let log := (s.place h.wing).effLog
  let moved := (withBefore n (h.stripe / 24) (rowHome n (h.stripe / 24)) log).filter fun x =>
    movesStrip n h.stripe m x.1 x.2 && h.events.contains x.2.gen
  match moved.getLast? with
  | some x => x.2.gen
  | none => s.stripeGen n h.stripe m

/-- A destination written home by a RETURN (R165). -/
def State.destHome (s : State) (h : Hold) (m bay lba : Nat) : Bool :=
  let n := s.ns h.nsid
  bay == homeBay n.layout h.stripe m && lba == homeLba n h.stripe m

/-- The trailer of a rebuilt block (R165). -/
def State.rebuildTrailer (s : State) (h : Hold) (j : RowJob) (m bay lba : Nat) (data : Block) : Trailer :=
  let n := s.ns h.nsid
  let gen := s.destGen h m
  if s.destHome h m bay lba then
    match (if j.copy then j.got.find? fun g => g.member == m else none) with
    | some g => mkTrailer (tSeal g.trl) gen n.layout.toNat m { zero := tZero g.trl } data
    | none => mkTrailer 0 gen n.layout.toNat m {} data
  else mkTrailer 0 gen n.layout.toNat m { rebuilt := true } data

/-- The highest seal among members whose trailers passed (R184). -/
def bestSeal (j : RowJob) : Nat := j.got.foldl (fun a g => sealMax a (tSeal g.trl)) 0

/-- A correction's sector (R184). -/
def State.correctOut (s : State) (j : RowJob) (m : Nat) (data : Block) : Option RowOut :=
  s.outAt j m data { zero := data == 0 } (bestSeal j)

/-- Compute a row of a held stripe (R164, R169, R176). -/
def State.computeRebuild (j : RowJob) (s : State) : State :=
  let k := layK (s.ns j.nsid).layout
  match s.hold? j.nsid j.stripe with
  | some h =>
    let many := !j.copy && decide (3 ≤ j.erased.length)
    let lost := if many then (List.range k).filter fun m => j.erased.contains m else []
    let data : List (Nat × Block) :=
      if many then (List.range k).map fun m => (m, if j.erased.contains m then 0 else memberOf j.blocks m)
      else if j.copy then j.blocks else rowData k j.erased j.blocks
    let img := if j.copy then { data := data, p := memberOf j.blocks k, q := memberOf j.blocks (k + 1) } else rowImage data
    let val (m : Nat) : Block := if m = k then img.p else if m = k + 1 then img.q else lookup img.data m 0
    let dests := h.dests.map fun d =>
      ({ member := d.1, data := val d.1, bay := d.2.1, lba := d.2.2 + j.row,
         trl := s.rebuildTrailer h j d.1 d.2.1 d.2.2 (val d.1) } : RowOut)
    -- unreadable blocks of present members, and in a lost row its lost blocks and syndromes, are rewritten where they lie, those of a
    -- member that returns home too (R169, R176)
    let inPlace := ((List.range (k + 2)).filter fun m =>
      j.erased.contains m || (many && decide (k ≤ m))).filterMap fun m => s.correctOut j m (val m)
    let s1 := s.loseRow j 1 lost
    let s2 := if many then ((s1.tick Obj.pe_rebuild_rows_lost).countCase k j.erased).modHold j.nsid j.stripe fun x =>
        { x with lostRows := x.lostRows + 1, lostBlocks := x.lostBlocks + lost.length }
      else if j.copy then s1 else s1.countCase k j.erased
    let s3 := if !many && !inPlace.isEmpty then s2.tick Obj.pe_rebuild_q_rows else s2
    s3.emitRow j.id (dests ++ inPlace) fun _ => !j.copy
  | none => s.dropJob j.id

/-! ### The night watch (R182 to R184) -/

/-- The members that disagree with the syndromes, byte by byte: none where a byte names no member (R183). -/
def patrolLocate (k : Nat) (sp sq : Block) : Option Nat :=
  let ps := blockBytes sp
  let qs := blockBytes sq
  let z (p q : Byte) : Option Nat :=
    if q = 0 then some k
    else if p = 0 then some (k + 1)
    else
      let d := (gfLog q.toNat + 255 - gfLog p.toNat) % 255
      if d < k then some d else none
  let hits := (ps.zip qs).filter fun x => x.1 != 0 || x.2 != 0
  match hits with
  | [] => none
  | x :: r => match z x.1 x.2 with
    | some m => if r.all fun y => z y.1 y.2 == some m then some m else none
    | none => none

/-- A row's outcome under R183. -/
inductive PatrolOutcome where
  | clean
  | correct (blocks : List (Nat × Block)) (rule : Nat)
  | bad (cause : Nat)
  | lost
  deriving DecidableEq, Repr

/-- Decide a row read whole (R182, R183). -/
def patrolRow (k : Nat) (j : RowJob) : PatrolOutcome :=
  let got := j.blocks
  let data := got.filter fun d => decide (d.1 < k)
  match j.erased with
  | [] =>
    let sp := memberOf got k ^^^ parityP data
    let sq := memberOf got (k + 1) ^^^ parityQ data
    if sp = 0 ∧ sq = 0 then .clean
    else match patrolLocate k sp sq with
      | some m =>
        if m < k then .correct [(m, memberOf got m ^^^ sp)] 0
        else if m = k then .correct [(m, parityP data)] 0
        else .correct [(m, parityQ data)] 0
      | none => .bad 1
  | [x] =>
    let row := rowData k [x] got
    if x = k then
      if parityQ data = memberOf got (k + 1) then .correct [(x, parityP data)] 1 else .bad 2
    else if x = k + 1 then
      if parityP data = memberOf got k then .correct [(x, parityQ data)] 1 else .bad 2
    else if parityQ row = memberOf got (k + 1) then .correct [(x, memberOf row x)] 1 else .bad 2
  | [x, y] =>
    let row := rowData k [x, y] got
    let val (m : Nat) : Block := if m = k then parityP row else if m = k + 1 then parityQ row else memberOf row m
    .correct [(x, val x), (y, val y)] 2
  | _ => .lost

/-- Bays that hold a member of a stripe, as a bit map (R188). -/
def State.stripeBays (s : State) (n : Namespace) (stripe : Nat) : Nat :=
  (List.range (layW n.layout)).foldl (fun a m => match s.memberAt n stripe m with
    | some p => setBit a p.1 true | none => a) 0

/-- Count a pass figure of the patrol. -/
def State.passCount (w rows corr unc : Nat) (s : State) : State :=
  let f (p : Nat × Nat × Nat × Nat) : Nat × Nat × Nat × Nat :=
    if p.1 = w then (w, p.2.1 + rows, p.2.2.1 + corr, p.2.2.2 + unc) else p
  s.modRb fun r => { r with
    passRows := if r.passRows.any (fun p => p.1 == w) then r.passRows.map f else r.passRows ++ [(w, rows, corr, unc)] }

/-- Compute a patrolled row (R183, R184). -/
def State.computePatrol (j : RowJob) (s : State) : State :=
  let n := s.ns j.nsid
  let k := layK n.layout
  let s0 := (s.tick Obj.pe_patrol_rows).passCount n.wing 1 0 0
  match patrolRow k j with
  | .clean => s0.emitRow j.id [] fun _ => false
  | .correct bs rule =>
    let outs := bs.filterMap fun b => s.correctOut j b.1 b.2
    let s1 := outs.foldl (fun t o => (t.record 4 0x7201 [(1, n.wing), (2, j.nsid), (8, j.stripe), (1, j.row),
      (1, o.member), (1, o.bay), (1, rule)]).passCount n.wing 0 1 0) s0
    let s2 := if rule = 0 then s1.tick Obj.pe_patrol_located else s1.countCase k j.erased
    s2.emitRow j.id outs fun _ => true
  | .bad cause =>
    let bays := s.stripeBays n j.stripe
    let e : PatrolLog := { time := s.gh.now, stripe := j.stripe, nsid := j.nsid, row := j.row, wing := n.wing,
                           cause := cause, bays := bays }
    let s1 := ((s0.tick Obj.pe_patrol_uncorrectable).passCount n.wing 0 0 1).modRb fun r =>
      { r with log := (r.log ++ [e]).drop (r.log.length + 1 - 256) }
    (s1.record 5 0x7202 [(8, s.gh.now), (8, j.stripe), (2, j.nsid), (1, j.row), (1, n.wing), (1, cause), (3, 0),
      (4, bays), (4, 0)]).emitRow j.id [] fun _ => false
  | .lost =>
    let lost := (List.range k).filter fun m => j.erased.contains m
    let data := (List.range k).map fun m => (m, if j.erased.contains m then 0 else memberOf j.blocks m)
    let img := rowImage data
    let outs := ((List.range (k + 2)).filter fun m => j.erased.contains m || decide (k ≤ m)).filterMap fun m =>
      s.correctOut j m (if m = k then img.p else if m = k + 1 then img.q else lookup data m 0)
    let s1 := (((s0.loseRow j 4 lost).countCase k j.erased).tick Obj.pe_rebuild_rows_lost).modRb fun r => { r with
      patrolLost := (r.patrolLost.1 + 1, r.patrolLost.2 + lost.length) }
    s1.emitRow j.id outs fun _ => true

/-! ### Degraded reads (R111, R113, R114) -/

/-- Queue a rewrite for the night watch; full, it is dropped (R114, R186). -/
def State.nightRequest (q : PatrolReq) (s : State) : State :=
  if s.rb.requests.length < 1024 then s.modRb fun r => { r with requests := r.requests ++ [q] }
  else (s.tick Obj.pe_patrol_queue_drops).modRb fun r => { r with requestDrops := r.requestDrops + 1 }

/-- A block of a Read is lost: it holds nothing more (R110, R113, R121). -/
def State.blockLost (a lba : Nat) (s : State) : State :=
  (s.modBlk a lba fun b => { b with lost := true, released := true, stage := .done }).tick Obj.ce_read_lost

/-- Compute a reconstruction: the block leaves in a PARITY_OUT cell (R111). -/
def State.computeRecon (j : RowJob) (a lba : Nat) (s : State) : State :=
  let n := s.ns j.nsid
  let k := layK n.layout
  let x := memberIx n.layout lba
  let d := memberOf (rowData k j.erased j.blocks) x
  let s1 := (s.countCase k j.erased).tick Obj.ce_read_reconstructed
  let s2 := if j.unread.contains x then
      s1.nightRequest { nsid := j.nsid, stripe := j.stripe, row := j.row, member := x, data := d, sealNo := bestSeal j } else s1
  (s2.modJob j.id fun q => { q with computed := true, outs := [{ member := x, data := d }] }).pushAt (s2.slotNow + 2) j.cls
    Opc.parityOut j.unit none a (.parityOut j.id x)

/-! ### The course of a job -/

/-- Compute what a job has taken in. -/
def State.computeJob (j : RowJob) (s : State) : State :=
  match j.use with
  | .apply => s.computeApply j
  | .recon a lba => s.computeRecon j a lba
  | .rebuild => s.computeRebuild j
  | .patrol => s.computePatrol j
  | .resync => s.computeResync j
  | .replay => s.computeReplay j

/-- A group has finished every row: its waybills are applied, its intent is resynchronised, and their free or retire
records are made (R97, R100, R215, R567). -/
def State.groupDone (g : Group) (s : State) : State :=
  let mine (r : Rec) : Bool := r.wing == g.wing && (g.seals.contains r.sealNo || g.intent == some r.sealNo)
  let s1 := s.modLg fun l => { l with
    applies := l.applies.filter fun x => !(x.nsid == g.nsid && x.stripe == g.stripe),
    recs := l.recs.map fun r => if mine r then { r with applied := true } else r }
  let s2 := (s1.lg.recs.filter mine).foldl (fun t r => t.finalRec r) s1
  if g.lostRows = 0 then s2
  else s2.record 6 0x7103 [(1, g.wing), (2, g.nsid), (8, g.stripe), (4, g.lostRows), (4, g.lostBlocks)]

/-- A row of a group is finished. -/
def State.groupRow (nsid stripe : Nat) (s : State) : State :=
  let s1 := s.modGroup nsid stripe fun g => { g with rowsLeft := g.rowsLeft - 1 }
  match s1.lg.applies.find? fun g => g.nsid == nsid && g.stripe == stripe with
  | some g => if g.rowsLeft = 0 then s1.groupDone g else s1
  | none => s1

/-- Whether a wing's patrol still has rows of a stripe. -/
def State.patrolRows (s : State) (nsid stripe : Nat) : Bool :=
  s.pe.jobs.any fun j => j.use == .patrol && j.nsid == nsid && j.stripe == stripe

/-- One record 0x7103 for the stripe under patrol, where rows of it were lost (R176, R183). -/
def State.patrolRecord (nsid stripe : Nat) (s : State) : State :=
  if s.rb.patrolLost.1 = 0 then s
  else s.record 6 0x7103 [(1, (s.ns nsid).wing), (2, nsid), (8, stripe), (4, s.rb.patrolLost.1), (4, s.rb.patrolLost.2)]

/-- A job with nothing left to hand over and every write complete ends (R97, R164, R183). -/
def State.endJob (id : Nat) (s : State) : State :=
  match s.job? id with
  | some j =>
    if j.computed && j.outs.isEmpty && j.writing.isEmpty then
      let s1 := s.dropJob id
      match j.use with
      | .rebuild => s1.modHold j.nsid j.stripe fun h => { h with rowsLeft := h.rowsLeft - 1 }
      | .patrol =>
        if s1.patrolRows j.nsid j.stripe then s1
        else (s1.patrolRecord j.nsid j.stripe).modRb fun r => { r with patrolDone := true, patrolLost := (0, 0) }
      | .recon _ _ => s1
      | _ => s1.groupRow j.nsid j.stripe
    else s
  | none => s

/-- A job with every input in its unit forms its results (R158). -/
def State.runJob (id : Nat) (s : State) : State :=
  match s.job? id with
  | some j =>
    if j.want.isEmpty && j.issue.isEmpty && !j.computed then (s.computeJob j).endJob id else s
  | none => s

/-- A block of a member enters the job (R157). -/
def State.rowInput (id m : Nat) (data : Block) (trl : Trailer) (s : State) : State :=
  (s.modJob id fun j => { j with
    want := j.want.filter (· != m), got := j.got ++ [{ member := m, data := data, trl := trl }] }).runJob id

/-- A member block is unreadable (`bad`) or its member absent: one erasure more, and the row reads what its case then needs
(R95, R111, R159, R169); a copy job becomes one that reconstructs, with every absent member an erasure (R135, R164). -/
def State.rowErase (id m : Nat) (bad : Bool) (s : State) : State :=
  match s.job? id with
  | some j =>
    let k := layK (s.ns j.nsid).layout
    let j' := { j with
      erased := addNew (s.erasedNow j) m, want := j.want.filter (· != m), issue := j.issue.filter (· != m),
      unread := if bad then addNew j.unread m else j.unread, copy := false }
    let s1 := s.modJob id fun _ => j'
    match j.use with
    | .recon a lba =>
      if 3 ≤ j'.erased.length then
        (((s1.dropJob id).countCase k j'.erased).loseRead j.nsid lba).blockLost a lba
      else (s1.planJob id).runJob id
    | _ => (s1.planJob id).runJob id
  | none => s

/-- Start a row job: it takes its number, knows its absent members and asks for its reads. -/
def State.startJob (j : RowJob) (s : State) : State :=
  let id := s.pe.nextJob
  let abs := if j.copy then j.erased else
    (s.absent (s.ns j.nsid) j.stripe).foldl addNew j.erased
  let s1 := s.modPe fun p => { p with jobs := p.jobs ++ [{ j with id := id, erased := abs }], nextJob := id + 1 }
  (s1.planJob id).runJob id

/-- Start the reconstruction of a block of a Read (R111): lost at three erasures (R113). -/
def State.startRecon (a lba : Nat) (unreadable : Bool) (s : State) : State :=
  match s.cmd? a with
  | some c =>
    let n := s.ns c.cap.nsid
    let stripe := stripeOf n.layout lba
    let x := memberIx n.layout lba
    let erased := addNew (s.absent n stripe) x
    if 3 ≤ erased.length then
      ((s.tick Obj.pe_rows_unrecoverable).loseRead c.cap.nsid lba).blockLost a lba
    else
      s.startJob { use := .recon a lba, nsid := c.cap.nsid, stripe := stripe, row := stripBlock n.layout lba,
                   cls := c.classOf, erased := erased, unread := if unreadable then [x] else [] }
  | none => s

/-- A result leaves its unit into a bed (R158): a member write follows, or the Read's block is in its bed. -/
def State.rowResult (id m bed : Nat) (s : State) : State :=
  match s.job? id with
  | some j =>
    match j.outs.find? fun o => o.member == m with
    | some o =>
      match j.use with
      | .recon a lba =>
        if ((s.cmd? a).bind (·.blk? lba)).any (fun b => b.stage == .sourcing) then
          ((s.fillBed bed o.data false false).dropJob id).modBlk a lba fun b => { b with stage := .inBed, bed := some bed }
        else (s.freeOwned bed).dropJob id
      | _ => ((s.fillBed bed o.data false false).writeRow id o (some bed)).endJob id
    | none => s.freeOwned bed
  | none => s.freeOwned bed

/-- Cancelled provisional inputs of a job: what it took from entries the index no longer holds (R129). -/
def State.provGone (s : State) (j : RowJob) : List (Nat × Nat) :=
  j.prov.filter fun p => (s.cacheAt p.1 p.2).isNone

/-- The parity engine's consumer rule of R129: promote every entry the results derive from, or take the member's blocks
again.  True where the results may leave.  A result stays in its unit until the entry is promoted (R158), so this is settled before its
PARITY_OUT cell, ahead of the DRIVE_OUT cell R129 names (log entry 111). -/
def State.provSettle (id : Nat) (s : State) : Bool × State :=
  match s.job? id with
  | some j =>
    if j.prov.isEmpty then (true, s)
    else
      let gone := s.provGone j
      if gone.isEmpty then (true, (j.prov.foldl (fun t p => t.cachePromote p.1 p.2) s).modJob id fun x => { x with prov := [] })
      else
        let ms := gone.map fun p => (cachePlace (s.ns j.nsid) p.2).2.1
        let s1 := (s.dropJobs fun q => match q with | .parityOut i _ => i == id | _ => false).modJob id fun x => { x with
          computed := false, outs := [], prov := x.prov.filter fun p => !gone.contains p,
          got := x.got.filter fun g => !ms.contains g.member }
        (false, (s1.count Obj.ce_prov_retracts 0 ms.length).planJob id)
  | none => (true, s)

end Sys2Proof.Machine
end

