-- ==== Sys2Proof/Machine/Writes.lean ====
section
/-! DEFINITION. Admission, the way of a write from its pieces to its acknowledgement, and the source of each block of a
Read (R43 to R50, R68 to R93, R100 to R118, R121 to R123, R312, R313). -/

namespace Sys2Proof.Machine

/-! ### Keys and cipher requests at admission (R412, R413) -/

/-- A key is wanted: the most recently used of the store, or a derivation is queued (R413). -/
def State.wantKey (k : DerivedKey) (s : State) : State :=
  if s.cy.store.contains k then s.modCy fun y => { y with store := k :: y.store.filter (· != k) }
  else if s.cy.derivs.contains k then s
  else s.modCy fun y => { y with derivs := y.derivs ++ [k] }

/-- The namespace key of R408 a request names. -/
def State.xtsKey (s : State) (nsid : Nat) : DerivedKey := { mode := 1, slot := nsid - 1, gen := (s.ns nsid).keyGen }

/-- The ESP key of a connection under a rekey count: direction 1 inbound, 2 outbound (R270, R412). -/
def espKey (qpn dir count : Nat) : DerivedKey := { mode := 2, slot := 0, gen := count, dir := dir, qpn := qpn }

/-- The rekey count a request of a connection is entered with (R273, R412): outbound that of the next packet; inbound that of the bed
where a push room's block lies, else the present one. -/
def State.espCount (s : State) (qpn dir : Nat) (bed : Option Nat) : Nat :=
  match bed with
  | some h => (s.bed h).esp.1
  | none => match s.conn? qpn with
    | some n => if dir = 1 then n.rx.rekey else n.tx.rekey
    | none => 0

/-- The cipher operation of a command's blocks (R405). -/
def Cmd.cipherOp (c : Cmd) : Nat :=
  if c.cap.src = .endpoint then (if c.cap.op = .write then 3 else 4) else if c.cap.op = .write then 1 else 2

/-- Enter the cipher request of a block (R412, R413). -/
def State.cipherRequest (c : Cmd) (lba : Nat) (tap : Option Nat) (s : State) : State :=
  let op := c.cipherOp
  let q := c.cap.qpn
  let bed := ((s.cmd? c.arrival).bind (·.blk? lba)).bind (·.bed)
  let keys := s.xtsKey c.cap.nsid :: (if op = 1 then [espKey q 1 (s.espCount q 1 bed)]
    else if op = 2 then [espKey q 2 (s.espCount q 2 none)] else [])
  let s1 := keys.foldl (fun t k => t.wantKey k) s
  s1.modCy fun y => { y with reqs := y.reqs ++ [{ arrival := c.arrival, lba := lba, op := op, tap := tap, keys := keys }] }

/-- The ESP key of a request follows the rekey count of the packet it serves (R273, R412). -/
def State.retag (p : CipherReq → Bool) (qpn dir count : Nat) (s : State) : State :=
  let new := espKey qpn dir count
  let old (k : DerivedKey) : Bool := k.mode == 2 && k.qpn == qpn && k.dir == dir && k != new
  let hit (r : CipherReq) : Bool := p r && r.keys.any old
  if s.cy.reqs.any hit then
    (s.wantKey new).modCy fun y => { y with
      reqs := y.reqs.map fun r => if hit r then { r with keys := r.keys.map fun k => if old k then new else k } else r }
  else s

/-- The outbound direction takes the next rekey count; requests still waiting name its key (R273, R412). -/
def State.rekeyOut (qpn : Nat) (s : State) : State :=
  match s.conn? qpn with
  | some c => ((s.modConn qpn fun x => { x with tx := { x.tx with rekey := x.tx.rekey + 1, seq := 0 } }).retag (fun _ => true)
      qpn 2 (c.tx.rekey + 1)).record 2 0x4007 [(4, qpn), (1, 2), (4, c.tx.rekey + 1)]
  | none => s

/-- A packet of a connection takes its rekey count and its ESP sequence number; sequence number 2^32 is not sent (R269, R273). -/
def State.takeSeq (qpn : Nat) (s : State) : State :=
  match s.conn? qpn with
  | some c => (if c.tx.seq + 1 = 2 ^ 32 then s.rekeyOut qpn else s).modConn qpn fun x => { x with tx := { x.tx with seq := x.tx.seq + 1 } }
  | none => s

/-- The rekey count and ESP sequence number a connection has given last. -/
def State.espNow (s : State) (qpn : Nat) : Nat × Nat :=
  match s.conn? qpn with | some c => (c.tx.rekey, c.tx.seq) | none => (0, 0)

/-- The request of a block. -/
def State.cipherReq? (s : State) (a lba : Nat) : Option CipherReq := s.cy.reqs.find? fun r => r.arrival == a && r.lba == lba && r.pull.isNone

/-- A request leaves the scheduler. -/
def State.dropReq (a lba : Nat) (s : State) : State :=
  s.modCy fun y => { y with reqs := y.reqs.filter fun r => !(r.arrival == a && r.lba == lba && r.pull.isNone) }

/-! ### Rooms as commands name them (R73, R115, R279) -/

/-- The room a key names, where its tag is the room's. -/
def State.room? (s : State) (key : Nat) : Option Room :=
  s.tr.rooms.find? fun r => r.index == key / 2 ^ 14 && r.tag == key % 2 ^ 14 && key != 0 && r.state != 0

/-- Change a room: its descriptor becomes the most recently used one (R25, R279). -/
def State.modRoom (ix : Nat) (f : Room → Room) (s : State) : State :=
  s.modTr fun t => { t with rooms := match t.rooms.find? fun r => r.index == ix with
    | some r => f r :: dropFirst (fun x => x.index == ix) t.rooms
    | none => t.rooms }

/-- Room descriptors held on chip: those of 32 bytes that 1.0 MiB takes, the recently used ones; the others are served from HBM3E
(R25, R279). -/
def State.roomOnChip (s : State) (ix : Nat) : Bool := (s.tr.rooms.take 32768).any fun r => r.index == ix

/-- Entries of the stripe-cache index held on chip: the recently used ones that 2.0 MiB takes, at 16 bytes each (log entry 124); the
others are served from the full index in HBM3E (R25). -/
def State.indexOnChip (s : State) (nsid lba : Nat) : Bool :=
  (s.ce.cache.take 131072).any fun e => e.nsid == nsid && e.lba == lba

/-- A Read or Write may use the room at this instant (R73, R115). -/
def roomFits (c : Cmd) (r : Room) (kind : Nat) (right : Bool) (gen : Option Nat) : Bool :=
  r.owner == c.cap.qpn && r.state == 1 && r.kind == kind && right &&
  (match gen with | some g => r.gen == g | none => true) &&
  decide (c.cap.address + 4096 * c.cap.nlb ≤ r.length)

/-! ### Failure of a command (R75, R121) -/

/-- A command ends with an error: what it has in motion stops, its beds are released, intents of parts not yet issued are
retired, and its completion is due (R75, R121).  A waybill that another of its pieces has sealed stays in the slab and is applied, and the
command completes with the error all the same: R75 and R93 leave this open (DESIGN CHOICE, log entry 112). -/
def State.failCmd (a : Nat) (st : Status) (s : State) : State :=
  match s.cmd? a with
  | some c =>
    if c.status.isSome then s
    else
      let s1 := (s.stopCmd a).freeCmdBeds a
      let ints := c.parts.filterMap fun p => if p.full && !p.issued then p.intent else none
      let s2 := (s1.lg.recs.filter fun r => r.kind == 2 && r.arrival == a && ints.contains r.sealNo).foldl
        (fun t r => t.finalRec r) s1
      let s3 := s2.modCmd a fun c => { c with blocks := c.blocks.map fun b =>
        { b with slabbed := false, stage := .done } }
      let s4 := s3.modAdm fun x => { x with queue := x.queue.filter fun p => p.arrival != a }
      s4.finish a st
  | none => s

/-! ### Parts and pieces (R44, R78) -/

/-- Parts of a range at stripe boundaries (R78, R313). -/
def splitParts (l : BitVec 16) : Nat → Nat → Nat → List (Nat × Nat)
  | 0, _, _ => []
  | f + 1, first, n =>
    if n = 0 then []
    else
      let room := layBlocks l - first % Nat.max 1 (layBlocks l)
      let m := Nat.max 1 (Nat.min room n)
      (first, m) :: splitParts l f (first + m) (n - m)

/-- Pieces of at most `p` blocks, in LBA order (R44). -/
def splitPieces (p : Nat) : Nat → Nat → Nat → List (Nat × Nat)
  | 0, _, _ => []
  | f + 1, first, n =>
    if n = 0 then []
    else
      let m := Nat.max 1 (Nat.min p n)
      (first, m) :: splitPieces p f (first + m) (n - m)

/-- The weight of an association (R44). -/
def State.weight (s : State) (a : Nat) : Nat :=
  let w := field (s.blob Obj.tt_association_weights 0) (2 * a) 2
  if w = 0 then Nat.max 1 (s.get Obj.tt_default_weight) else w

/-- Put a piece in the queue of its class (R44); the last finish of an index outlives its association (log entry 104). -/
def State.enqueue (c : Cmd) (p : Nat × Nat) (s : State) : State :=
  let cls := c.classOf
  let v := lookup s.adm.vt cls 0
  let l := lookup s.adm.last (cls, c.assoc) 0
  let start := Nat.max v l
  let fin := start + p.2 * 65536 / s.weight c.assoc
  s.modAdm fun x => { x with
    last := assign x.last (cls, c.assoc) fin,
    queue := x.queue ++ [{ arrival := c.arrival, lba := p.1, blocks := p.2, cls := cls, port := c.port,
                           assoc := c.assoc, start := start, finish := fin }] }

/-- The piece size of a command's class: that of the image; 16, the most a waybill holds, for the endpoint, whose class
states none (R44, R189, R506; log entry 14). -/
def State.pieceOf (s : State) (c : Cmd) : Nat :=
  if c.cap.src = .endpoint then 16 else Nat.max 1 (imgPiece s.activeImage c.classOf)

/-! ### Admission of a piece (R44, R45, R80, R102, R157, R192) -/

/-- A piece of a partial part is held: occupancy over the size in force or a narrowing that has not reopened (R102, R225), at size 0 a
protected waybill that is left (R102), or the index is full (R192). -/
def State.partialHeld (s : State) (blocks : Nat) : Bool :=
  s.indexFull ||
  (if s.lg.inForce = 0 then s.lg.recs.any (fun r => r.kind == 1 && r.ackGuard && !r.zero)
   else s.lg.narrowing || decide (s.lg.inForce < s.slabUsed + 4096 * blocks))

/-- Intents of parts admitted and not sealed yet, whose places in the index are theirs (R192; log entry 108). -/
def State.intentsDue (s : State) : Nat :=
  sumN (s.ce.cmds.map fun c => (c.parts.filter fun p => p.intentDue && p.intent.isNone && c.status.isNone).length)

/-- Bytes of a unit's stripe accumulator in use (R156). -/
def State.setsUsed (s : State) (u : Nat) : Nat := sumN ((s.pe.accums.filter fun m => m.unit == u && !m.freed).map (·.bytes))

/-- The bytes of the accumulator set of a full-stripe part: 2 × s (R156). -/
def State.setBytes (s : State) (c : Cmd) : Nat := 2 * 4096 * layS (s.ns c.cap.nsid).layout

/-- Parity units a class's tapped CIPHER cells reach in the active image (R35, R83). -/
def State.tapUnits (s : State) (cls : Nat) : List Nat :=
  let cells := (imgCells s.activeImage).filter fun x => x.2.2.opc == Opc.cipher && x.2.2.berth == cls && x.2.2.tap
  (List.range 8).map (0x30 + ·) |>.filter fun u => cells.any fun x => 0x30 + 4 * ((x.2.2.snk - 0x20) / 8) +
    (x.2.2.snk - 0x20) % 4 == u

/-- The unit of a new accumulator set: the first reachable one with a free set (R157; which one is open, log entry 15). -/
def State.pickUnit (s : State) (c : Cmd) : Option Nat :=
  (s.tapUnits c.classOf).find? fun u => decide (s.setsUsed u + s.setBytes c ≤ 1048576)

/-- The head piece waits for something other than berths: 0 nothing, 1 ledger, 2 accumulator (R102, R157, R192). -/
def State.pieceWait (s : State) (c : Cmd) (x : Piece) : Nat :=
  if c.cap.op ≠ .write then 0
  else match c.partOf x.lba with
    | some p =>
      if p.full then
        if p.admitted then 0
        else if 32768 ≤ s.intents + s.intentsDue then 1
        else if (s.pickUnit c).isNone then 2 else 0
      else if s.partialHeld x.blocks then 1 else 0
    | none => 0

/-- Count a held piece once for each thing it is held for: the ledger, an accumulator set (R102, R157, R160, R228). -/
def State.countWait (w : Nat) (x : Piece) (s : State) : State :=
  if (if w = 1 then x.waited else x.waitedSet) then s
  else
    let mark (y : Piece) : Piece := if w = 1 then { y with waited := true } else { y with waitedSet := true }
    let s1 := s.modAdm fun a => { a with
      queue := modFirst (fun y => y.arrival == x.arrival && y.lba == x.lba) mark a.queue }
    if w = 1 then s1.tick Obj.lg_admission_waits else s1.tick Obj.pe_accumulator_waits

/-- The unit of a part's accumulator set (R157). -/
def State.accumUnit (s : State) (arrival stripe : Nat) : Option Nat :=
  match s.pe.accums.find? fun m => m.arrival == arrival && m.stripe == stripe with
  | some m => some m.unit
  | none => none

/-- Waybills whose acknowledgement now follows their apply (R102, R103). -/
def State.unguard (arrival : Nat) (seals : List Nat) (s : State) : State :=
  let f (r : Rec) : Rec := if r.arrival = arrival ∧ seals.contains r.sealNo = true then { r with ackGuard := false } else r
  s.modLg fun l => { l with recs := l.recs.map f }

/-- A piece of a recognised retry is admitted: it moves no data, and the last one completes the command (R256). -/
def State.retryAdmitted (c : Cmd) (x : Piece) (s : State) : State :=
  let f (b : BlockSt) : BlockSt := if inSpan b.lba (x.lba, x.blocks) then { b with stage := .done, released := true } else b
  let s1 := s.modCmd c.arrival fun q => { q with blocks := q.blocks.map f }
  match s1.cmd? c.arrival with
  | some d => if d.blocks.all fun b => b.stage == .done then s1.finish c.arrival .success else s1
  | none => s1

/-- Admit a piece: its blocks leave the queue, its part takes its accumulator set and its intent becomes due, its rooms
are judged, and its cipher requests are entered (R73, R80, R102, R115, R157, R413). -/
def State.admitPiece (c : Cmd) (x : Piece) (s : State) : State :=
  let lbas := (List.range x.blocks).map (x.lba + ·)
  let t0 := s.modAdm fun a => { a with queue := a.queue.filter fun y => !(y.arrival == x.arrival && y.lba == x.lba) }
  let room := if c.cap.src != .endpoint && c.cap.sub == 0xF then some (t0.room? c.cap.key) else none
  let s0 := match room with
    | some (some r) => t0.modRoom r.index id
    | _ => t0
  let bad := match room with
    | some (some r) => if c.cap.op = CmdOp.write then !roomFits c r 1 r.wr none else !roomFits c r 2 r.rd none
    | some none => true
    | none => false
  if c.retry then s0.retryAdmitted c x
  else if bad then s0.failCmd c.arrival .dataTransferError
  else
    let part : Option Part := c.partOf x.lba
    let full := match part with | some p => p.full | none => false
    let unit : Option Nat := match part with
      | some p => if p.full && !p.admitted then s0.pickUnit c else s0.accumUnit c.arrival p.stripe
      | none => none
    let s1 : State := match part, unit with
      | some p, some u =>
        if p.full && !p.admitted then
          let m : Accum := { arrival := c.arrival, stripe := p.stripe, unit := u, bytes := s0.setBytes c }
          s0.modPe fun q => { q with accums := q.accums ++ [m] }
        else s0
      | _, _ => s0
    let zero := s.lg.inForce == 0 && !full && c.cap.op == .write
    let s2 : State := match part with
      | some p => s1.modPart c.arrival p.first fun q => { q with
          admitted := true, intentDue := q.intentDue || (q.full && !q.admitted), sizeZero := q.sizeZero || zero }
      | none => s1
    let s3 : State := match part with
      | some p => if zero then s2.unguard c.arrival p.seals else s2
      | none => s2
    let bedOf (lba : Nat) : Option Nat := match room with
      | some (some r) => if c.cap.op = .write then
          (r.beds.find? fun b => b.1 == c.cap.address + 4096 * (lba - c.cap.slba)).map (·.2) else none
      | _ => none
    let s4 := lbas.foldl (fun t lba =>
      let b := bedOf lba
      let t1 := match b with | some h => t.shareBed h 0x53 | none => t
      let frame := match b with | some h => (t.bed h).frame | none => 0
      (t1.modBlk c.arrival lba fun q => { q with stage := .blocked, piece := x.lba, bed := b, frame := frame }).cipherRequest c lba
        (if full then unit else none)) s3
    let s5 := s4.modCmd c.arrival fun q => { q with roomGen := match room with | some (some r) => r.gen | _ => q.roomGen }
    match room with
    | some (some r) =>
      if c.cap.op = CmdOp.read ∧ (c.blocks.all fun b => b.stage == .queued) = true then
        s5.modCe fun e => { e with roomReads := e.roomReads ++
          [{ arrival := c.arrival, room := r.index, offset := c.cap.address, blocks := c.cap.nlb, first := c.cap.slba,
             nsid := c.cap.nsid }] }
      else s5
    | _ => s5

/-- The head of a class's queue: the lowest finish, earliest arrival on a tie (R44). -/
def AdmSt.head (a : AdmSt) (cls : Nat) : Option Piece :=
  (a.queue.filter fun p => p.cls == cls).foldl (fun m p => match m with
    | some x => if p.finish < x.finish ∨ (p.finish = x.finish ∧ p.arrival < x.arrival) then some p else m
    | none => some p) none

/-- Admit from one class until its queue empties or its head waits (R44, R45).  A piece the gate holds is counted once in each leg it is
held (log entry 104). -/
def State.admitClass (cls : Nat) : Nat → State → State
  | 0, s => s
  | f + 1, s =>
    match s.adm.head cls with
    | none => s
    | some x =>
      match s.cmd? x.arrival with
      | none => State.admitClass cls f (s.modAdm fun a => { a with queue := a.queue.filter fun y => y != x })
      | some c =>
        let stop (t : State) : State := t.modAdm fun a => { a with stopped := addNew a.stopped cls }
        if s.tt.closedClasses.contains cls || !s.admissionOpen c then s
        else
          let left := lookup s.adm.left (cls, x.port) 0
          let wait := s.pieceWait c x
          if cls ≠ Bc.control ∧ left < x.blocks then stop (s.tick Obj.tt_class_gate_waits (cls + 1))
          else if wait ≠ 0 then stop (s.countWait wait x)
          else
            let s1 := s.admitPiece c x
            let s2 := s1.modAdm fun a => { a with
              left := if cls = Bc.control then a.left else assign a.left (cls, x.port) (left - x.blocks),
              vt := assign a.vt cls x.start }
            State.admitClass cls f s2

/-- Classes with queued pieces that are not stopped in this leg. -/
def State.openClasses (s : State) : List Nat :=
  ((s.adm.queue.map (·.cls)).foldl addNew []).filter fun c => !s.adm.stopped.contains c

/-- Admit from every class (PIECE_ADMIT, R44). -/
def State.admitAll (s : State) : State :=
  s.openClasses.foldl (fun t c => t.admitClass c (t.adm.queue.length + 1)) s

/-- Berths are given out anew at a leg boundary (R44). -/
def State.newBerths (s : State) : State :=
  s.modAdm fun a => { a with
    stopped := [],
    left := (List.range 32).flatMap fun b => (List.range 4).map fun p => ((b, p), s.berths b p) }

/-! ### Intents and ZERO waybills (R80, R86, R88, R313) -/

/-- The record of a part as its ledger header (R80, R85, R189). -/
def State.recOf (s : State) (c : Cmd) (kind stripe : Nat) : LedgerRec :=
  let n := s.ns c.cap.nsid
  { kind := kind, wing := n.wing, nsid := c.cap.nsid, layout := n.layout, stripe := stripe, arrival := c.arrival,
    assoc := c.assoc % 65536, sqid := c.cap.sqid, cid := c.cap.cid, keyGen := n.keyGen % 65536 }

/-- An earlier write-kind command has blocks of a range it has neither sealed nor, for a full stripe, named in an intent
(R86). -/
def State.sealWaits (s : State) (c : Cmd) (first blocks : Nat) : Bool :=
  s.ce.cmds.any fun d => decide (d.arrival < c.arrival) && d.writeKind && d.cap.nsid == c.cap.nsid &&
    (List.range blocks).any fun i => d.holds (first + i) &&
      !(match d.partOf (first + i) with | some p => p.full && p.intent.isSome | none => false)

/-- Mark what a new intent supersedes: earlier waybills of its stripe whose apply has not begun (R88). -/
def State.supersede (nsid stripe sealNo arrival : Nat) (s : State) : State :=
  s.modLg fun l => { l with recs := l.recs.map fun r =>
    if r.kind = 1 ∧ r.nsid = nsid ∧ r.stripe = stripe ∧ r.sealNo < sealNo ∧ !r.applyBegun ∧ !r.superseded
      then { r with superseded := true, supersededBy := arrival } else r }

/-- Seal the intent of a full-stripe part where it is due and nothing earlier is left to seal (R80, R86, R88). -/
def State.sealIntent (a : Nat) (p : Part) (s : State) : State :=
  match s.cmd? a with
  | some c =>
    if p.full && p.intentDue && p.intent.isNone && c.status.isNone && !s.sealWaits c p.first p.blocks &&
        decide (s.intents < 32768) then
      let r := s.recOf c 2 p.stripe
      let n := s.sealNext r.wing
      ((s.sealRec r false).modPart a p.first fun q => { q with intent := some n, intentDue := false }).supersede
        c.cap.nsid p.stripe n a
    else s
  | none => s

/-- Every earlier overlapping command has released a whole range (R121). -/
def State.rangeClear (s : State) (c : Cmd) (first blocks : Nat) : Bool :=
  s.ce.cmds.all fun d => !(decide (d.arrival < c.arrival) && kindsMeet c d &&
    (List.range blocks).any fun i => d.holds (first + i))

/-- Seal a part of Write Zeroes or Deallocate as a ZERO waybill as soon as R121 allows (R313); its blocks that wait for that are counted
(R132).  It takes no berths and has no piece admitted at ledger size 0, so R89's row for such a part is not its own (log entry 114). -/
def State.sealZero (a : Nat) (p : Part) (s : State) : State :=
  match s.cmd? a with
  | some c =>
    if decide (0 < p.left) && c.status.isNone && !p.waited && !s.rangeClear c p.first p.blocks then
      let held := (List.range p.blocks).filter fun i => !s.clear c (p.first + i)
      (s.modPart a p.first fun q => { q with waited := true }).count Obj.ce_overlap_waits 0 held.length
    else if decide (0 < p.left) && c.status.isNone && s.admissionOpen c && s.rangeClear c p.first p.blocks then
      if !s.indexFull then
        let r := { s.recOf c 1 p.stripe with zero := true, first := p.first, zeroed := p.blocks }
        let n := s.sealNext r.wing
        (s.sealRec r false).modCmd a fun x => { x with
          parts := modFirst (fun q => q.first == p.first && q.blocks == p.blocks && decide (0 < q.left))
            (fun q => { q with left := 0, seals := [n], admitted := true }) x.parts }
      else if p.admitted then s
      else (s.tick Obj.lg_admission_waits).modPart a p.first fun q => { q with admitted := true }
    else s
  | none => s

/-! ### Intake (R70 to R75) -/

/-- Ask for a memory read of the endpoint: a tag, or the queue for one (R513). -/
def State.epAsk (t : EpTag) (address : Nat) (s : State) : State :=
  let may : Bool := s.ep.tagWait.isEmpty && s.ep.busMaster && !s.ep.d3 && !s.ep.resetting
  let wait (x : State) : State := x.modEp fun e => { e with tagWait := e.tagWait ++ [{ t with address := address }] }
  match (List.range 128).find? fun n => !(s.ep.tags.any fun x => x.tag == n) with
  | some n =>
    if may then
      (s.modEp fun e => { e with tags := e.tags ++ [{ t with tag := n, address := address }] }).emit (.epRead n t.use address)
    else wait s
  | none => (wait s).tick Obj.ep_tag_waits

/-- The requests a read of host memory is made in, each at most the lower of Max Read Request Size and 4,096 bytes and within one page:
address, offset, length (R513). -/
def readPieces (most address len : Nat) : List (Nat × Nat × Nat) :=
  let first := Nat.min len (most - address % most)
  (address, 0, first) :: (List.range (ceilDiv (len - first) most)).map fun i =>
    (address + first + most * i, first + most * i, Nat.min most (len - first - most * i))

/-- Ask for `len` bytes of host memory that belong at `place` of a block (R513). -/
def State.epAskSpan (t : EpTag) (place address len : Nat) (s : State) : State :=
  (readPieces (Nat.max 128 (Nat.min 4096 s.ep.mrrs)) address len).foldl (fun u x =>
    u.epAsk { t with place := place + x.2.1, len := x.2.2 } x.1) s

/-- Ask for a block of an endpoint Write: the parts of its pages (R506, R513). -/
def State.epAskBlock (c : Cmd) (lba : Nat) (s : State) : State :=
  ((c.cap.spans lba).foldl (fun (p : Nat × State) x =>
    (p.1 + x.2, p.2.epAskSpan { arrival := c.arrival, lba := lba, use := 0 } p.1 x.1 x.2)) (0, s)).2

/-- A read of the PRP list of a command is outstanding or waits for its tag (R505, R513). -/
def State.epListOut (s : State) (a : Nat) : Bool := (s.ep.tags ++ s.ep.tagWait).any fun t => t.use == 2 && t.arrival == a

/-- The PRP list of an accepted endpoint command is read (R505). -/
def State.epAskList (c : Cmd) (s : State) : State :=
  if c.cap.src == .endpoint && c.cap.hasList then
    s.epAskSpan { arrival := c.arrival, use := 2 } 0 (c.cap.cdw.getD c.cap.pages 0) (8 * (c.cap.pages - 1))
  else s

/-- RDMA READ requests of the controller outstanding on a connection (R267). -/
def State.pullsOut (s : State) (qpn : Nat) : Nat :=
  sumN (s.ce.cmds.map fun c => if c.cap.src != .endpoint && c.cap.qpn == qpn then
    (c.blocks.filter fun b => b.stage == .pulling).length else 0)

/-- Start intake of one block of a write (R70, R72, R73, R506). -/
def State.startIntake (a lba : Nat) (s : State) : State :=
  match s.cmd? a with
  | some c =>
    match c.blk? lba with
    | some b =>
      if b.stage = .blocked ∧ s.clear c lba then
        if c.cap.src = .endpoint then
          if c.cap.inList lba && s.epListOut a then s
          else (s.modBlk a lba fun q => { q with stage := .pulling }).epAskBlock c lba
        else if c.cap.sub = 0xF then
          match b.bed with
          | some h =>
            (s.modBlk a lba fun q => { q with stage := .inBed, t0 := s.slotNow }).push c.classOf Opc.cipher
              (some (bedUnit h)) none a (.cipherBlock a lba)
          | none => s.failCmd a .dataTransferError
        else
          match s.conn? c.cap.qpn with
          | some n =>
            if s.pullsOut c.cap.qpn < n.depth then
              (s.modBlk a lba fun q => { q with stage := .pulling }).push Bc.control Opc.control none none a
                (.pullRequest a lba)
            else s
          | none => s
      else if b.stage = .blocked ∧ !b.waited ∧ !s.clear c lba then
        (s.modBlk a lba fun q => { q with waited := true }).tick Obj.ce_overlap_waits
      else s
    | none => s
  | none => s

/-- What may go on after a release: intents, ZERO waybills and intakes, in arrival order (R80, R86, R121, R313). -/
def State.pump (s : State) : State :=
  s.ce.cmds.foldl (fun t c =>
    if c.status.isSome then t
    else if c.cap.op = .write then
      let t1 := c.parts.foldl (fun u p => u.sealIntent c.arrival p) t
      c.blocks.foldl (fun u b => if b.stage = .blocked then u.startIntake c.arrival b.lba else u) t1
    else if c.zeroKind then c.parts.foldl (fun u p => u.sealZero c.arrival p) t
    else t) s

/-- The read a block's data comes from is asked for again (R77, R420): what is left of it is discarded, and it is pulled anew. -/
def State.pullAgain (a lba : Nat) (s : State) : State :=
  match s.cmd? a with
  | some c =>
    match c.blk? lba with
    | some b =>
      let s1 := match b.bed with | some h => s.freeOwned h | none => s
      let tap := match c.partOf lba with
        | some p => if p.full then s.accumUnit a p.stripe else none
        | none => none
      let s2 := (s1.dropReq a lba).modBlk a lba fun b => { b with bed := none, stage := .blocked, slabbed := false, data := 0, frame := 0 }
      ((s2.dropJobs fun j => match j with
        | .cipherBlock x y => x == a && y == lba
        | .slabWrite x y => x == a && y == lba
        | .payloadIn x y _ _ _ _ => x == a && y == lba
        | _ => false).cipherRequest c lba tap).startIntake a lba
    | none => s
  | none => s

/-- The accumulation of a full-stripe part is discarded, with what it has given out (R77). -/
def State.discardAccum (a stripe : Nat) (s : State) : State :=
  match s.pe.accums.find? fun m => m.arrival == a && m.stripe == stripe with
  | some m =>
    let s1 := (m.pOut ++ m.qOut).foldl (fun t b => t.freeOwned b.2) s
    let s2 := s1.dropJobs fun j => match j with
      | .parityFull x st _ _ => x == a && st == stripe
      | .parityTapIn x l => x == a && ((s.cmd? a).bind (·.partOf l)).any fun p => p.stripe == stripe
      | _ => false
    s2.modPe fun q => { q with
      accums := modFirst (fun y => y.arrival == a && y.stripe == stripe)
        (fun y => { y with discarded := true, pOut := [], qOut := [], freed := false }) q.accums }
  | none => s

/-- A block of a write is poisoned (R75, R77, R282): pulled again up to twice; a push-room Write ends at once. -/
def State.poisonBlock (a lba : Nat) (s : State) : State :=
  match s.cmd? a with
  | some c =>
    match c.blk? lba with
    | some b =>
      let s1 := match c.partOf lba with
        | some p => if p.full then s.discardAccum a p.stripe else s
        | none => s
      if c.cap.sub = 0xF ∨ c.cap.src = .endpoint ∨ 2 ≤ b.repulls then s1.failCmd a .dataTransferError
      else (s1.modBlk a lba fun b => { b with repulls := b.repulls + 1 }).pullAgain a lba
    | none => s
  | none => s

/-! ### The slab and the seal of a waybill (R85) -/

/-- Count a block over its class's bound (R50): from the start of its path to the end of the present slot, which ends the path's last
stage, and the fixed time of the path. -/
def State.boundCheck (fixed : Nat) (c : Cmd) (b : BlockSt) (s : State) : State :=
  let cls := c.classOf
  let bound := imgBound s.activeImage cls
  if c.cap.src != .endpoint && imgPath s.activeImage cls != 0 && decide (bound < (s.slotNow + 1 - b.t0) * 80 + fixed) then
    s.tick Obj.tt_class_bound_excess (cls + 1)
  else s

/-- The last stage of the path of a class ends for a block of it (R49, R50). -/
def State.pathEnds (path : Nat) (c : Cmd) (lba : Nat) (s : State) : State :=
  match c.blk? lba with
  | some b => if imgPath s.activeImage c.classOf = path then s.boundCheck (imgFixed s.activeImage c.classOf) c b else s
  | none => s

/-- The blocks of a leg packet's waybills have gone to the sister: path 3 ends for them (R49, R50). -/
def State.copiesSent (recs : List LedgerRec) (s : State) : State :=
  (recs.filter fun i => i.kind == 1 && !i.zero).foldl (fun t i =>
    match t.cmd? i.arrival with
    | some c => (List.range i.blocks.length).foldl (fun u k => u.pathEnds 3 c (i.first + k)) t
    | none => t) s

/-- The frame that brought a block has not ended: nothing derived from it is committed yet (R77, R381). -/
def State.frameOpen (s : State) (frame : Nat) : Bool := frame != 0 && s.pc.staged.any fun f => f.id == frame && !f.ended

/-- Seal the waybill of a piece whose last block entered the slab (R77, R85). -/
def State.sealPiece (a piece : Nat) (s : State) : State :=
  match s.cmd? a with
  | some c =>
    let bs := c.blocks.filter fun b => b.piece == piece && b.stage != .queued
    match c.partOf piece with
    | some p =>
      if bs.all (fun b => b.slabbed && !s.frameOpen b.frame) then
        let r := { s.recOf c 1 p.stripe with
          first := piece, blocks := bs.map (·.data), fua := c.cap.fua }
        let n := s.sealNext r.wing
        let s1 := s.sealRec r (!(c.cap.fua || p.sizeZero))
        let s2 := s1.modCmd a fun q => { q with blocks := q.blocks.map fun b =>
          if b.piece = piece ∧ b.slabbed then
            { b with released := true, slabbed := false, data := 0, stage := .done } else b }
        s2.modPart a p.first fun q => { q with left := q.left - 1, seals := q.seals ++ [n] }
      else s
    | none => s
  | none => s

/-! ### Acknowledgement (R89, R92, R97, R100, R177) -/

/-- The waybill of a seal meets its acknowledgement rule (R89).  One that has left the index meets it: applied, or, superseded by a later
full stripe whose write is acknowledged, freed without an apply (R88; DESIGN CHOICE, log entry 113). -/
def State.sealMet (s : State) (wing sealNo : Nat) (applied : Bool) : Bool :=
  match s.lg.recs.find? fun r => r.wing == wing && r.sealNo == sealNo with
  | some r => r.copyHeld && (!applied || r.applied)
  | none => true

/-- A part meets its rule of R89. -/
def State.partMet (s : State) (c : Cmd) (p : Part) : Bool :=
  if p.fault then true
  else if p.full then p.issued && p.writing.isEmpty
  else
    let w := (s.ns c.cap.nsid).wing
    p.left == 0 && p.seals.all fun n => s.sealMet w n (c.cap.fua || p.sizeZero)

/-- Full-stripe parts of an acknowledged command: intents retired, superseded waybills freed (R88, R100). -/
def State.retireParts (c : Cmd) (s : State) : State :=
  (s.lg.recs.filter fun r => (r.kind == 2 && r.arrival == c.arrival) ||
    (r.superseded && r.supersededBy == c.arrival && r.nsid == c.cap.nsid)).foldl (fun t r => t.finalRec r) s

/-- Acknowledge a write-kind command whose parts all meet their rules (R89, R177). -/
def State.ackCmd (c : Cmd) (s : State) : State :=
  if c.status.isNone && c.checked && c.writeKind && !c.parts.isEmpty && c.parts.all (s.partMet c) then
    let s1 := s.retireParts c
    if c.parts.any (·.fault) then s1.finish c.arrival .writeFault
    else
      let s2 := c.ranges.foldl (fun t r => t.restoreBlocks c.cap.nsid r.1 r.2) s1
      let s3 := if (s.lostPage c.cap.nsid).changes = (s2.lostPage c.cap.nsid).changes then s2
        else s2.raiseLost c.cap.nsid
      let s4 := s3.modCe fun x => { x with hostWritten := x.hostWritten + (if c.cap.op = .write then c.cap.nlb else 0) }
      s4.finish c.arrival .success
  else s

/-- Every command that now meets its rule is acknowledged (WRITE_ACK). -/
def State.ackPass (s : State) : State := s.ce.cmds.foldl (fun t c => t.ackCmd c) s

/-- A Flush completes once every earlier write of its namespaces is acknowledged (R92). -/
def State.flushPass (s : State) : State :=
  s.ce.cmds.foldl (fun t c =>
    if c.cap.op = .flush ∧ c.checked ∧ c.status.isNone ∧
        !(t.ce.cmds.any fun d => decide (d.arrival < c.arrival) && d.writeKind && d.status.isNone && !d.dropped &&
          (d.cap.nsid == c.cap.nsid || c.cap.nsid == 0xFFFFFFFF))
    then t.finish c.arrival .success else t) s

/-- Freed waybills and retired intents leave the index once their records are held (R97, R100). -/
def State.freePass (s : State) : State :=
  s.modLg fun l => { l with recs := l.recs.filter fun r => !r.finalHeld }

/-- Carry on all that an effect has made possible. -/
def State.settle (s : State) : State := s.ackPass.flushPass.freePass.pump

/-- Items of a leg packet or a journal record are held on the copy path (R87, R89, R97, R166). -/
def State.itemsHeld (items : List LedgerRec) (s : State) : State :=
  let hit (r : Rec) (k : List Nat) (q : Nat) : Bool :=
    items.any fun i => i.wing == r.wing && k.contains i.kind && (if q = 0 then i.sealNo else i.target) == r.sealNo
  let s1 := s.modLg fun l => { l with recs := l.recs.map fun r =>
    { r with copyHeld := r.copyHeld || hit r [1, 2] 0, finalHeld := r.finalHeld || (hit r [3, 4] 1 && r.finalMade) } }
  s1.modRb fun r => { r with held := r.held.filter fun h =>
    !(h.recorded && items.any fun i => i.kind == 5 && i.nsid == h.nsid && i.stripe == h.stripe) }

/-! ### The source of a Read's block (R106 to R116) -/

/-- The block of a Read has its data in a bed: it is fixed, and its cipher pass is next (R104, R109); a block of a
read-room Read goes to the cache instead (R116). -/
def State.blockInBed (a lba bed : Nat) (zero : Bool) (s : State) : State :=
  match s.cmd? a with
  | some c =>
    let room := c.cap.src != .endpoint && c.cap.sub == 0xF && c.cap.op == .read
    let s1 := s.modBlk a lba fun b => { b with
      stage := .inBed, bed := some bed, zero := zero, released := b.released || !room, t0 := s.slotNow }
    if room then s1.push c.classOf Opc.cacheWr (some (bedUnit bed)) none a (.roomPin a lba)
    else s1.push c.classOf Opc.cipher (some (bedUnit bed)) none a (.cipherBlock a lba)
  | none => s.freeOwned bed

/-- Pin an entry for a read-room Read: the block is fixed (R104, R116); a Read whose pins have been released takes no more (R118). -/
def State.pinBlock (a lba : Nat) (s : State) : State :=
  match s.cmd? a with
  | some c =>
    let hit (e : CacheEntry) : Bool := e.nsid == c.cap.nsid && e.lba == lba && !e.cancelled && !e.filling &&
      s.ce.roomReads.any fun r => r.arrival == a
    (s.modCe fun x => { x with cache := modFirst hit (fun e => { e with pins := addNew e.pins a }) x.cache }).modBlk a lba
      fun b => { b with stage := .done, released := true }
  | none => s

/-- Every block of a Read has reached its end: the response is due (R109, R110, R116). -/
def State.readDone (a : Nat) (s : State) : State :=
  match s.cmd? a with
  | some c =>
    if c.cap.op = .read ∧ c.checked ∧ c.status.isNone ∧ (c.blocks.all fun b => b.stage == .done) then
      let s1 := s.modCe fun x => { x with hostRead := x.hostRead + (c.blocks.filter fun b => !b.lost).length }
      s1.finish a (if c.blocks.any (·.lost) then .unrecoveredRead else .success)
    else s
  | none => s

/-- Choose the source of a block of a Read once it may be fixed (R106, R111 to R113, R116); a block the lost-block page names is
lost whatever the cache holds (R113; log entry 22). -/
def State.fixBlock (a lba : Nat) (s : State) : State :=
  match s.cmd? a with
  | none => s
  | some c =>
    match c.blk? lba with
    | none => s
    | some b =>
      if b.stage ≠ .blocked ∨ c.cap.op ≠ .read ∨ c.status.isSome then s
      else if !s.clear c lba then
        if b.waited then s else (s.modBlk a lba fun q => { q with waited := true }).tick Obj.ce_overlap_waits
      else
        let n := s.ns c.cap.nsid
        let room := c.cap.src != .endpoint && c.cap.sub == 0xF
        let src (t : State) : State := t.modBlk a lba fun q => { q with stage := .sourcing }
        match s.usableRec c.cap.nsid a lba with
        | some r =>
          (src (s.tick Obj.ce_read_slab_hits)).push c.classOf Opc.cacheRd none none a (.slabRead a lba r.sealNo)
        | none =>
          if s.isLost c.cap.nsid lba then (s.blockLost a lba).readDone a
          else
          match s.cacheAt c.cap.nsid lba with
          | some _ =>
            let s1 := ((s.cachePromote c.cap.nsid lba).cacheTouch c.cap.nsid lba).tick Obj.ce_read_cache_hits
            if room then (s1.pinBlock a lba).readDone a
            else (src s1).push c.classOf Opc.cacheRd none none a (.cacheRead a lba)
          | none =>
            let stripe := stripeOf n.layout lba
            if s.rowApplying c.cap.nsid stripe (stripBlock n.layout lba) then
              if b.applyWait then s
              else (s.modBlk a lba fun q => { q with applyWait := true }).tick Obj.ce_read_apply_waits
            else
              match s.memberAt n stripe (memberIx n.layout lba) with
              | some p =>
                -- a member that has returned the block unreadable, is hedged, or lies behind a port in reset counts as an erasure
                -- (R108, R341, R469)
                if b.hedged || b.unread || s.portInReset p.1 then ((src s).startRecon a lba b.unread).readDone a
                else ((src s).tick Obj.ce_read_member_blocks).readMember p.1 n.wing (p.2 + stripBlock n.layout lba)
                  (driveQueue (.blockRead a lba) c.party stripe) (.blockRead a lba)
              | none => ((src s).startRecon a lba false).readDone a

end Sys2Proof.Machine
end

