-- ==== Sys2Proof/Machine/Ports.lean ====
section
/-! DEFINITION. Network ports and the switch core: receive checks, flow control, transmission, the port clock, samples
of the virtual output queues (R347 to R386). -/

namespace Sys2Proof.Machine

/-! ### Links -/

/-- Link `l`; 32 is the sister link (R347, R386). -/
def State.link (s : State) (l : Nat) : Link := s.pc.links.getD l {}

/-- Change a link. -/
def State.modLink (l : Nat) (f : Link → Link) (s : State) : State := s.modPc fun p => { p with links := p.links.modify l f }

/-- Links of a port mode and the rate of each in Mb/s (R347). -/
def modeLinks (mode : Nat) : Nat × Nat :=
  match mode with
  | 0 => (1, 800000)
  | 1 => (2, 400000)
  | 2 => (4, 200000)
  | 3 => (8, 100000)
  | _ => (0, 0)

/-- A staged frame by its number. -/
def State.frame? (s : State) (id : Nat) : Option StagedFrame := s.pc.staged.find? fun f => f.id == id

/-- Change a staged frame. -/
def State.modFrame (id : Nat) (f : StagedFrame → StagedFrame) (s : State) : State :=
  s.modPc fun p => { p with staged := modFirst (fun x => x.id == id) f p.staged }

/-- A staged frame leaves its buffer. -/
def State.dropFrame (id : Nat) (s : State) : State :=
  s.modPc fun p => { p with staged := p.staged.filter fun x => x.id != id }

/-! ### Frames that leave (R368 to R371, R380) -/

/-- Bytes an egress class of a link holds. -/
def State.egressClass (s : State) (l tc : Nat) : Nat :=
  sumN (((s.link l).frames.filter fun f => f.tc == tc).map (·.bytes))

/-- Bytes a port's egress buffer holds. -/
def State.egressPort (s : State) (port : Nat) : Nat :=
  sumN ((List.range 8).map fun j => sumN ((s.link (8 * port + j)).frames.map (·.bytes)))

/-- A NET_OUT transfer or a steward frame is ready for its link (R369); on a link that is down it is taken and discarded
(R372). -/
def State.egressReady (s : State) (l tc bytes : Nat) : Bool :=
  !(s.link l).up ||
  (decide (s.egressClass l tc < s.get Obj.pc_egress_tc_limit) &&
   decide (s.egressPort (l / 8) + bytes ≤ s.get Obj.pc_egress_bytes))

/-- The tag a frame carries (R368): that of its link and class, with the VID of the management VLAN on that (log entry 129). -/
def State.txTag (s : State) (l : Nat) (f : EgressFrame) : Option Nat :=
  let tag := s.get (Obj.pc_tx_tag + f.tc) (l + 1)
  if f.mgmt then some (tag % 32768 / 4096 * 4096 + s.get Obj.pc_mgmt_vid)
  else if bit tag 15 then some (tag % 32768) else none

/-- A frame enters a link's egress buffer, with its start, its finish and its tag (R368, R370). -/
def State.enterEgress (l : Nat) (f : EgressFrame) (s : State) : State :=
  let k := s.link l
  let start := Nat.max k.vt (lookup k.last f.tc 0)
  let fin := start + f.bytes * 65536 / Nat.max 1 (s.get (Obj.sw_tc_weight + f.tc) (l + 1))
  let g : EgressFrame := { f with start := start, finish := fin, tagged := s.txTag l f }
  s.modLink l fun k => { k with frames := k.frames ++ [g], last := assign k.last f.tc fin }

/-- A frame goes to a link: into its egress buffer where that takes it, else it waits (R369); on a link that is down it is discarded and
counted (R372). -/
def State.sendEgress (l : Nat) (f : EgressFrame) (s : State) : State :=
  if !(s.link l).up then s.tick Obj.pc_tx_link_down_drops (l + 1)
  else if s.egressReady l f.tc f.bytes then s.enterEgress l f
  else s.modLink l fun k => { k with waiting := k.waiting ++ [f] }

/-- Frames that wait for a link enter its egress buffer as it takes them, those of one class in their order (R369). -/
def State.admitEgress (l : Nat) (s : State) : State :=
  let step (t : State) (f : EgressFrame) : State :=
    if t.egressReady l f.tc f.bytes && !(t.link l).waiting.any (fun g => g.tc == f.tc) then t.enterEgress l f
    else t.modLink l fun k => { k with waiting := k.waiting ++ [f] }
  (s.link l).waiting.foldl step (s.modLink l fun k => { k with waiting := [] })

/-- A frame of a class and length goes to a link. -/
def State.sendFrame (l tc bytes : Nat) (bad : Bool) (ptp : Option Nat) (s : State) : State :=
  s.sendEgress l { tc := tc, bytes := bytes, bad := bad, ptp := ptp }

/-- A frame of the transport engine or a steward whose length no rule states: a free value from 64 to 9,216 bytes (log
entry 17). -/
def State.sendShort (l tc : Nat) (s : State) : State :=
  (s.drawn).sendFrame l tc (64 + s.freeVal 16 % 9153) false none

/-- The head of a class on a link. -/
def Link.head (k : Link) (tc : Nat) : Option EgressFrame := k.frames.find? fun f => f.tc == tc

/-- The class a link sends next (R370). -/
def Link.choose (k : Link) (strict : Bool) : Option EgressFrame :=
  let heads := (List.range 8).filterMap fun tc => if k.pauses.any (fun p => p.tc == tc) then none else k.head tc
  match heads.find? fun f => strict && f.tc == 7 with
  | some f => some f
  | none => heads.foldl (fun m f => match m with
      | some x => if f.finish < x.finish ∨ (f.finish = x.finish ∧ x.tc < f.tc) then some f else m
      | none => some f) none

/-- The port clock's stamp of a frame on a link, corrected by an object in ps (R373). -/
def State.stamp (s : State) (ix l : Nat) : Nat :=
  (Int.ofNat s.pc.clockNs + decInt 32 (s.get ix (l + 1)) / 1000).toNat

/-- A pause or PFC frame of the MAC leaves: 64 bytes, counted (R366, R386). -/
def State.sendFlow (l : Nat) (s : State) (x : Nat × Nat) : State :=
  (((s.tick Obj.pc_tx_pause_frames (l + 1)).tick Obj.pc_tx_frames (l + 1)).count Obj.pc_tx_bytes (l + 1) 64).emit
    (.pfc l x.1 x.2)

/-- At a frame boundary the MAC's own frames go ahead of every queued one; they are never paused (R362, R366). -/
def State.flowOut (l : Nat) (s : State) : State :=
  (s.link l).flow.foldl (fun t x => t.sendFlow l x) (s.modLink l fun k => { k with flow := [] })

/-- The outputs of a link's port take what waits for them: its CONTROL flows send, then every link's held frames enter (R360, R372). -/
def State.fillPort (l : Nat) (s : State) : State :=
  (List.range 33).foldl (fun t j => if j / 8 = l / 8 then t.admitEgress j else t) (s.flowOut l)

/-- The frame in transmission ends, and the link chooses the next (R363, R366, R369, R370, R373, R380). -/
def State.txBoundary (l : Nat) (stomp : Bool) (s : State) : State :=
  let k := s.link l
  let s1 := match k.sending with
    | some f =>
      let bad := stomp || f.bad
      let t := ((s.tick Obj.pc_tx_frames (l + 1)).count Obj.pc_tx_bytes (l + 1) f.bytes).emit (.txFrame l f.tc f.bytes bad)
      if bad then
        (if l < 32 then (t.tick Obj.pc_tx_stomped (l + 1)).tick Obj.sw_ct_bad_egress else t).modPc fun p => { p with
          badSecond := (p.badSecond.1 + (if l < 32 then 1 else 0), p.badSecond.2) }
      else t
    | none => s
  let s1a := s1.modLink l fun k => { k with sending := none, pauses := k.pauses.map fun p => { p with pending := false } }
  let s2 := s1a.fillPort l
  match (s2.link l).choose (s2.get Obj.sw_strict_tc7 == 1) with
  | some f =>
    let s3 := s2.modLink l fun k => { k with sending := some f, vt := f.start, frames := dropFirst (fun x => x == f) k.frames }
    match f.ptp with
    | some q => s3.modPc fun p =>
        let st := p.stamps ++ [(q, l, s.stamp Obj.pc_ptp_egress_latency l)]
        { p with stamps := st.drop (st.length - 64) }
    | none => s3
  | none => s2

/-- TX_FRAME_BOUNDARY (R370): `stomp` where the frame in transmission was found bad (R380). -/
def execTxFrameBoundary (link : Nat) (stomp : Bool) (s : State) : Host.Outcome State Fault Refusal :=
  .next (if (s.link link).up then s.txBoundary link stomp else s)

/-! ### Pause and priority flow control (R362 to R366) -/

/-- A pause time reaches a class (R362, R363): 0 ends its pause, another replaces what is left of it. -/
def State.setPause (l tc quanta : Nat) (s : State) : State :=
  s.modLink l fun k =>
    if quanta = 0 then { k with pauses := k.pauses.filter fun p => p.tc != tc }
    else
      if k.pauses.any (fun p => p.tc == tc) then { k with
        pauses := modFirst (fun x => x.tc == tc) (fun x => { x with quanta := quanta, pending := k.sending.isSome }) k.pauses }
      else { k with
        pauses := k.pauses ++ [{ tc := tc, quanta := quanta, pending := k.sending.isSome, since := s.gh.now }] }

/-- A MAC control frame of 64 bytes is counted as received (R352, R386). -/
def State.macFrame (l : Nat) (s : State) : State := (s.tick Obj.pc_rx_frames (l + 1)).count Obj.pc_rx_bytes (l + 1) 64

/-- PAUSE_FRAME (R362, R364): honoured under link pause alone. -/
def execPauseFrame (link quanta : Nat) (s : State) : Host.Outcome State Fault Refusal :=
  .next (if !(s.link link).up then s
    else
      let s1 := s.macFrame link
      if s1.get Obj.pc_flow_mode (link + 1) = 1 then
        (List.range 8).foldl (fun t c => t.setPause link c quanta) (s1.tick Obj.pc_rx_pause_frames (link + 1))
      else s1.tick Obj.pc_rx_pause_ignored (link + 1))

/-- PFC_FRAME (R362, R364): each class of the class-enable vector takes its own time, under priority flow control
alone. -/
def execPfcFrame (link mask : Nat) (quanta : List Nat) (s : State) : Host.Outcome State Fault Refusal :=
  .next (if !(s.link link).up then s
    else
      let s1 := s.macFrame link
      if s1.get Obj.pc_flow_mode (link + 1) = 2 then
        (List.range 8).foldl (fun t c => if bit mask c then t.setPause link c (quanta.getD c 0) else t)
          (s1.tick Obj.pc_rx_pause_frames (link + 1))
      else s1.tick Obj.pc_rx_pause_ignored (link + 1))

/-- PAUSE_EXPIRY (R362): the quanta of a class have passed; a pause whose count waits for a frame goes on (R363). -/
def execPauseExpiry (link tc : Nat) (s : State) : Host.Outcome State Fault Refusal :=
  .next (s.modLink link fun k => { k with pauses := k.pauses.filter fun p => !(p.tc == tc && !p.pending) })

/-- PAUSE_STORM (R365): record 0x3004 once for each unbroken pause that has lasted pc_pause_storm_limit. -/
def execPauseStorm (link tc : Nat) (s : State) : Host.Outcome State Fault Refusal :=
  .next (match (s.link link).pauses.find? fun p => p.tc == tc with
  | some p =>
    let ns := s.gh.now - p.since
    if p.logged ∨ ns < s.get Obj.pc_pause_storm_limit then s
    else
      ((s.modLink link fun k => { k with
          pauses := modFirst (fun x => x.tc == tc) (fun x => { x with logged := true }) k.pauses }).tick
        Obj.pc_pause_storms (link + 1)).record 5 0x3004 [(4, link), (4, tc), (8, ns)]
  | none => s)

/-- Staging bytes of a class on a link (R366). -/
def State.staged (s : State) (l tc : Nat) : Nat :=
  sumN ((s.pc.staged.filter fun f => f.link == l && f.tc == tc).map (·.bytes))

/-- Staging bytes of a link. -/
def State.stagedLink (s : State) (l : Nat) : Nat := sumN ((s.pc.staged.filter fun f => f.link == l).map (·.bytes))

/-- Staging bytes of a port (R354). -/
def State.stagedPort (s : State) (port : Nat) : Nat :=
  sumN ((s.pc.staged.filter fun f => f.link / 8 == port).map (·.bytes))

/-- The code under which an own link pause is kept beside the classes. -/
def linkPause : Nat := 8

/-- XOFF or XON of one class, or of link pause, as its occupancy asks, at the next frame boundary; `again` repeats an XOFF in force
(R366). -/
def State.flowClass (l c occ : Nat) (again : Bool) (s : State) : State :=
  let sent := (s.link l).xoff.contains c
  let mask := if c = linkPause then 256 else 2 ^ c
  let send (time : Nat) (x : List Nat) (t : State) : State :=
    let u := t.modLink l fun k => { k with xoff := x }
    if (u.link l).sending.isSome then u.modLink l fun k => { k with flow := k.flow ++ [(mask, time)] } else u.sendFlow l (mask, time)
  let on := (s.link l).xoff
  if sent then
    if occ ≤ s.get Obj.pc_pfc_xon then send 0 (on.filter (· != c)) s
    else if again then send (s.get Obj.pc_pause_time_tx) on s else s
  else if s.get Obj.pc_pfc_xoff ≤ occ then send (s.get Obj.pc_pause_time_tx) (on ++ [c]) s else s

/-- Flow control of a link by its staging occupancy (R366). -/
def State.flowCheck (l : Nat) (again : Bool) (s : State) : State :=
  let mode := s.get Obj.pc_flow_mode (l + 1)
  if l ≥ 32 ∨ mode = 0 then s
  else if mode = 1 then s.flowClass l linkPause (s.stagedLink l) again
  else (List.range 8).foldl (fun t c =>
    if bit (t.get Obj.pc_pfc_enable (l + 1)) c then t.flowClass l c (t.staged l c) again else t) s

/-- PFC_REFRESH (R366): half the time sent has passed while the occupancy stays above pc_pfc_xon. -/
def execPfcRefresh (link : Nat) (s : State) : Host.Outcome State Fault Refusal :=
  .next (if (s.link link).up then s.flowCheck link true else s)

/-! ### Receiving (R352 to R361, R379, R381) -/

/-- The hash of a group address: bits [11:0] of the IEEE CRC-32 of its six bytes (R355). -/
def groupHash (a : Nat) : Nat := crc32 (beBytes 6 a) % 4096

/-- The station address of a link (R355, R386). -/
def State.linkMac (s : State) (l : Nat) : Nat :=
  beNat (s.blob Obj.pc_mac_address (l + 1) (beBytes 6 (Config.linkMac l).toNat))

/-- The last three bytes of the IPv6 addresses of a port's links, of which the stewards set the solicited-node address in the group
filter themselves: the link-local address of each link and the factory addresses (R356, R496; log entry 128). -/
def State.ownAddresses (s : State) (port : Nat) : List Nat :=
  ((List.range 8).map fun j => s.linkMac (8 * port + j) % 16777216) ++
  Config.portAddresses.filterMap fun a => if a.1 then some (beNat (a.2.drop 13)) else none

/-- A bit of a port's group filter: written, or set by the stewards for the all-nodes and solicited-node addresses (R356). -/
def State.groupBit (s : State) (port h : Nat) : Bool :=
  bit ((s.blob Obj.pc_mcast_hash (port + 1)).getD (h / 8) 0#8).toNat (h % 8) || h == groupHash 0x333300000001 ||
  (s.ownAddresses port).any fun a => h == groupHash (0x3333FF000000 + a)

/-- A destination address is accepted (R355); on the sister link the address of R351. -/
def State.addressOk (s : State) (l : Nat) (h : FrameHead) : Bool :=
  if l = 32 then h.dst == 0x024B59534C00 + s.si.id && h.etype == 0x88B5
  else
    h.dst == s.linkMac l || h.dst == 0xFFFFFFFFFFFF || h.dst == 0x0180C2000001 ||
    ((h.dst == 0x011B19000000 || h.dst == 0x0180C200000E) && s.get Obj.pc_ptp_enable == 1) ||
    (bit h.dst 40 && s.groupBit (l / 8) (groupHash h.dst))

/-- The default of pc_vid_accept: VID 1 only (R386). -/
def vid1 : List Byte := 2#8 :: List.replicate 511 0#8

/-- The VID a frame takes, none where it is discarded (R357). -/
def State.vidOf (s : State) (l : Nat) (h : FrameHead) : Option Nat :=
  if 2 ≤ h.tags ∨ h.outer88a8 = true then none
  else if h.tags = 1 ∧ h.vid ≠ 0 then
    if bit ((s.blob Obj.pc_vid_accept (l + 1) vid1).getD (h.vid / 8) 0#8).toNat (h.vid % 8) then some h.vid else none
  else
    let v := s.get Obj.pc_pvid (l + 1)
    if v = 0 then none else some v

/-- The class of a PCP on a port (R357). -/
def State.pcpClass (s : State) (port pcp : Nat) : Nat := s.get Obj.pc_pcp_map (port + 1) / 8 ^ pcp % 8

/-- The traffic class of a frame (R357); the sister link has one, 0 (log entry 18). -/
def State.tcOf (s : State) (l : Nat) (h : FrameHead) : Nat :=
  if l = 32 then 0
  else if s.get Obj.pc_tc_source (l + 1) = 1 then
    match h.dscp with
    | some d => ((s.blob Obj.pc_dscp_map (l / 8 + 1)).getD d 0#8).toNat % 8
    | none => s.pcpClass (l / 8) 0
  else s.pcpClass (l / 8) (if h.tags = 0 then 0 else h.pcp)

/-- The output of a frame (R361); 6, the ledger, for the sister link (R376). -/
def State.classify (s : State) (l vid : Nat) (h : FrameHead) : Nat :=
  let ptp := s.get Obj.pc_ptp_enable == 1
  if l = 32 then 6
  else if s.get Obj.pc_mgmt_vid ≠ 0 ∧ vid = s.get Obj.pc_mgmt_vid then 7
  else if h.proto = 50 then 5
  else if h.udp = 4791 then 5
  else if (h.etype = 0x88F7 ∨ h.udp = 319 ∨ h.udp = 320) ∧ ptp = true then 7
  else if h.etype = 0x0806 ∨ (h.etype = 0x0800 ∧ h.proto = 1) ∨ (h.etype = 0x86DD ∧ h.proto = 58) then 7
  else 8

/-- The counter of a discard cause, none for an oversize or unclassified one counted there too. -/
def causeCounter (cause : Nat) : Nat :=
  match cause with
  | 1 => Obj.pc_rx_runts
  | 2 => Obj.pc_rx_oversize
  | 3 => Obj.pc_rx_fcs_errors
  | 4 => Obj.pc_rx_staging_drops
  | 5 => Obj.pc_rx_filtered
  | 6 => Obj.pc_rx_vlan_discards
  | _ => Obj.pc_rx_unclassified

/-- A frame reaches the discard output (R360). -/
def State.discardFrame (l cause len : Nat) (first : List Byte) (s : State) : State :=
  let s1 := if l = 32 ∧ 4 ≤ cause then s else s.tick (causeCounter cause) (l + 1)
  (s1.tick Obj.sw_discards cause).modPc fun p => { p with
    discards := ([s.gh.now, l, cause, len] ++ (first.map (·.toNat)).take 128) :: p.discards.take 15 }

/-- A frame's payload leaves its staging buffer (R354, R366). -/
def State.releaseFrame (id : Nat) (s : State) : State :=
  match s.frame? id with
  | some f =>
    (if f.ended then s.dropFrame id else s.modFrame id fun x => { x with bytes := 0 }).flowCheck f.link false
  | none => s

/-- The tag a frame is delivered with: none where it has none or its class strips it (R358). -/
def State.tagLeft (s : State) (l tc : Nat) (h : FrameHead) : Option Nat :=
  if h.tags = 1 ∧ bit (s.get Obj.pc_rx_strip (l + 1)) tc = false then some (h.pcp * 8192 + h.vid) else none

/-- A frame is a PTP event message: on UDP port 319, or of message type 0 to 3 on its EtherType (R373). -/
def ptpEvent (h : FrameHead) : Bool :=
  h.udp == 319 || (h.etype == 0x88F7 && decide ((h.first.getD (14 + 4 * h.tags) 0#8).toNat % 16 < 4))

/-- One head staged under its cause: the frame takes the next number and holds `bytes` of its port's staging buffer (R352, R357). -/
def State.stageHead (l : Nat) (h : FrameHead) (cause bytes tc output : Nat) (passed : Bool) (s : State) : State :=
  s.modPc fun p => { p with
    staged := p.staged ++ [{ id := s.pc.nextFrame, link := l, tc := tc, bytes := bytes, passed := passed, output := output,
                             cause := cause, first := h.first.take 128, payload := h.payload, qpn := h.qpn,
                             tag := if l < 32 then s.tagLeft l tc h else none,
                             stamp := if output = 7 ∧ ptpEvent h = true then some (s.stamp Obj.pc_ptp_ingress_latency l)
                               else none }],
    nextFrame := s.pc.nextFrame + 1 }

/-- The head of a frame is judged (R352 to R358, R361, R373, R379). -/
def State.rxHead (l : Nat) (h : FrameHead) (s : State) : State :=
  if l < 32 ∧ s.get Obj.pc_staging_bytes < s.stagedPort (l / 8) + 9216 then s.stageHead l h 4 0 0 8 false
  else if !s.addressOk l h then s.stageHead l h 5 (if l = 32 then 0 else 9216) 0 8 false
  else if l < 32 ∧ h.etype = 0x8808 then
    if h.macOp = 1 ∨ h.macOp = 0x0101 then s else (s.macFrame l).tick Obj.pc_rx_pause_ignored (l + 1)
  else
    match (if l = 32 then some 0 else s.vidOf l h) with
    | none => (s.stageHead l h 6 9216 0 8 false).flowCheck l false
    | some vid =>
      let tc := s.tcOf l h
      let out := s.classify l vid h
      let input := if l = 32 then 5 else l / 8 + 1
      let cut := bit (s.get Obj.sw_ct_ingress input) tc && (out == 5 || out == 6)
      (s.stageHead l h (if out = 8 then 7 else 0) (if l = 32 then 0 else 9216) tc out cut).flowCheck l false

/-- RX_FRAME_HEAD (R352). -/
def execRxFrameHead (link : Nat) (head : FrameHead) (s : State) : Host.Outcome State Fault Refusal :=
  .next (if (s.link link).up then s.rxHead link head else s)

/-- Blocks of writes whose data came in a frame and has been through its cipher pass. -/
def State.passedFrom (s : State) (id : Nat) : List (Nat × Nat) :=
  s.ce.cmds.flatMap fun c => if c.cap.op = .write ∧ c.status.isNone then
    (c.blocks.filter fun b => b.frame == id && (b.stage == .ciphered || b.slabbed)).map fun b => (c.arrival, b.lba) else []

/-- A bad frame whose head has passed: nothing derived from it is committed (R77, R381).  Blocks it brought are marked
POISON, those that have been through their cipher pass too; a push-room packet is dropped with its bed; a packet in the waiting room
leaves it. -/
def State.badPacket (id : Nat) (s : State) : State :=
  let mark (t : Transfer) : Transfer := match t.job with
    | .payloadIn a b d bad f e => { t with job := .payloadIn a b d (bad || f == id) f e }
    | _ => t
  let keep (t : Transfer) : Bool := match t.job with
    | .roomIn _ _ _ _ f _ => f != id
    | .frameIn f => f != id
    | _ => true
  let s1 := s.modCe fun c => { c with ready := (c.ready.filter keep).map mark }
  let beds := (s1.po.beds.filter fun b => b.frame == id && id != 0).map (·.handle)
  let ofRoom (h : Nat) : Bool := s1.tr.rooms.any fun r => r.beds.any fun b => b.2 == h
  let s2 := beds.foldl (fun t0 h =>
    let t := t0.modBed h fun b => { b with poison := true }
    if ofRoom h then
      let drop (m : Room) : Room := { m with beds := m.beds.filter fun b => b.2 != h }
      (t.modTr fun r => { r with rooms := r.rooms.map drop }).freeOwned h
    else t) (if id = 0 then s1 else (s1.passedFrom id).foldl (fun t x => t.poisonBlock x.1 x.2) s1)
  (s2.tick Obj.sw_ct_bad_engine).modPc fun p => { p with badSecond := (p.badSecond.1, p.badSecond.2 + 1) }

/-- A frame ends with a cause of checks 1 to 3, or with what its head was discarded for, or good, and a piece that waited for its end is
sealed (R77, R352, R353, R381). -/
def State.rxEnd (f : StagedFrame) (len cause : Nat) (s : State) : State :=
  if cause ≠ 0 then
    let s1 := if f.passed then s.badPacket f.id else s
    let s2 := (s1.dropFrame f.id).discardFrame f.link cause len f.first
    s2.flowCheck f.link false
  else
    let s1 := if f.payload && f.bytes == 0 && f.output == 5 then s.dropFrame f.id
      else s.modFrame f.id fun x => { x with bytes := if f.link = 32 then 0 else len, ended := true }
    let s2 := ((s1.passedFrom f.id).foldl (fun t x => match (t.cmd? x.1).bind (·.blk? x.2) with
      | some b => if b.slabbed && f.id != 0 then t.sealPiece x.1 b.piece else t
      | none => t) s1).flowCheck f.link false
    if f.output = 6 then s2.dropFrame f.id
    else if f.output = 7 ∨ !f.payload then
      let cls := match s.conn? f.qpn with
        | some c => match c.assoc with
          | some a => 0x10 + s.partyOf a
          | none => Bc.control
        | none => Bc.control
      s2.push cls Opc.netIn (some (f.link / 8 + 1)) none 0 (.frameIn f.id)
    else s2

/-- RX_FRAME_END (R352): length from destination address to FCS, its FCS, and the FEC codewords within it. -/
def execRxFrameEnd (frame len : Nat) (fcs : Bool) (corrected uncorrected : Nat) (s : State) :
    Host.Outcome State Fault Refusal :=
  .next (match s.frame? frame with
  | some f =>
    if f.ended then s
    else
      let l := f.link
      let s1 := (s.count Obj.pc_fec_corrected (l + 1) corrected).count Obj.pc_fec_uncorrected (l + 1) uncorrected
      let s2 := if uncorrected = 0 then s1 else s1.modPc fun p => { p with
        fecSecond := assign p.fecSecond l (lookup p.fecSecond l 0 + uncorrected) }
      let s3 := (s2.tick Obj.pc_rx_frames (l + 1)).count Obj.pc_rx_bytes (l + 1) len
      s3.rxEnd f len (if len < 64 then 1 else if 9216 < len then 2 else if !fcs ∨ uncorrected ≠ 0 then 3 else f.cause)
  | none => s)

/-! ### Links going down and up (R347 to R350, R372) -/

/-- A link goes down (R353, R372): the frame in transmission is cut off, its egress allotment is discarded, and frames
being received are bad. -/
def State.linkDown (l cause : Nat) (s : State) : State :=
  let k := s.link l
  let cutL := match k.sending with | some f => [Out.txFrame l f.tc f.bytes true] | none => []
  let part := s.pc.staged.filter fun f => f.link == l && !f.ended
  let s1 := s.modLink l fun k => { k with
    up := false, rate := 0, sending := none, frames := [], waiting := [], flow := [],
    pauses := [], xoff := [], last := [], vt := 0 }
  let s2 := ((s1.emits cutL).count Obj.pc_tx_link_down_drops (l + 1) (k.frames.length + k.waiting.length))
  let s3 := part.foldl (fun t f => t.rxEnd f 0 (if f.cause = 0 then 3 else f.cause)) s2
  let port := l / 8
  let s4 := if l < 32 ∧ !((List.range 8).any fun j => (s3.link (8 * port + j)).up) ∧ s3.pc.portState.getD port 0 = 2 then
      s3.modPc fun p => { p with portState := p.portState.set port 1 } else s3
  s4.record 4 0x3002 [(4, l), (4, cause), (4, k.frames.length + k.waiting.length)]

/-- The media of a link (R349, R386). -/
def State.media (s : State) (l : Nat) : Nat := if l = 32 then s.get Obj.pc_sister_media else s.pc.portMedia.getD (l / 8) 0

/-- The lanes of link `j` of a port with `n` links, each with its inversion (R348): 8/n lanes a link, counted from the other end
where the lanes are reversed.  A polarity bit names the lane by its own number, before the mapping (log entry 122). -/
def linkLanes (n j reverse polarity : Nat) : List (Nat × Bool) :=
  if j < n then
    (List.range (8 / n)).map fun i =>
      let a := j * (8 / n) + i
      let lane := if reverse = 1 then 7 - a else a
      (lane, polarity.testBit lane)
  else []

/-- A link comes up at the rate of its port's mode (R347, R372). -/
def State.linkUp (l : Nat) (s : State) : State :=
  let rate := if l = 32 then 800000 else (modeLinks (s.pc.portMode.getD (l / 8) 4)).2
  let s1 := s.modLink l fun k => { k with up := true, rate := rate, lanes := if l = 32 then linkLanes 1 0 0 0 else k.lanes }
  let s2 := if l < 32 then s1.modPc fun p => { p with portState := p.portState.set (l / 8) 2 } else s1
  s2.record 3 0x3001 [(4, l), (4, rate), (1, s.media l)]

/-- Under the light flush profile the network ports, the sister link and the root ports are dark in Holdup: their rails are off (R227). -/
def State.dark (s : State) : Bool := s.md.mode == .holdup && s.get Obj.lg_flush_profile == 1

/-- A link can come up: its port is training or up, and its mode has the link (R347, R386). -/
def State.linkReady (s : State) (l : Nat) : Bool :=
  !(s.link l).up && s.md.mode != .vigil && !s.dark &&
  (if l = 32 then s.paired
   else (s.pc.portState.getD (l / 8) 0 == 1 || s.pc.portState.getD (l / 8) 0 == 2) &&
     decide (l % 8 < (modeLinks (s.pc.portMode.getD (l / 8) 4)).1))

/-- A port takes its mode, media and lane settings and trains: at Muster, and at a partial reset of the port (R348 to R350). -/
def State.trainPort (port : Nat) (s : State) : State :=
  let mode := s.get Obj.pc_port_mode (port + 1)
  let reverse := s.get Obj.pc_lane_reverse (port + 1)
  let polarity := s.get Obj.pc_lane_polarity (port + 1)
  let n := (modeLinks mode).1
  let wire (t : State) (j : Nat) : State := t.modLink (8 * port + j) fun k => { k with lanes := linkLanes n j reverse polarity }
  (List.range 8).foldl wire (s.modPc fun p => { p with
    portMode := p.portMode.set port mode, portMedia := p.portMedia.set port (s.get Obj.pc_media (port + 1)),
    laneReverse := p.laneReverse.set port reverse, lanePolarity := p.lanePolarity.set port polarity,
    portState := p.portState.set port (if 4 ≤ mode then 0 else 1) })

/-! ### The port clock (R373 to R375) -/

/-- pc_ptp_state changes: record 0x3005. -/
def State.ptpTo (v : Nat) (s : State) : State :=
  if s.pc.ptpState = v then s
  else (s.modPc fun p => { p with ptpState := v }).record 3 0x3005
    [(1, s.pc.ptpState), (1, v), (8, encInt 64 s.pc.ptpOffset)]

/-- The port clock follows its switch: off while disabled, acquiring once its link is up (R375; log entry 127). -/
def State.ptpLeg (s : State) : State :=
  if s.get Obj.pc_ptp_enable = 0 then (s.modPc fun p => { p with ptpGood := 0 }).ptpTo 0
  else if s.pc.ptpState = 0 ∧ (s.link (s.get Obj.pc_ptp_link)).up = true then s.ptpTo 1 else s

/-- PTP_SYNC (R375): a Sync arrives on a link and shows an offset.  The step the stewards steer to is open: a free value
within ±500,000 ppb; one Delay_Req answers each Sync (log entry 19). -/
def execPtpSync (link : Nat) (offset : Int) (s : State) : Host.Outcome State Fault Refusal :=
  .next (if s.get Obj.pc_ptp_enable = 1 ∧ link = s.get Obj.pc_ptp_link ∧ (s.link link).up then
    let good := if offset.natAbs < 100 then s.pc.ptpGood + 1 else 0
    let step : Int := Int.ofNat (s.freeVal 32 % 1000001) - 500000
    let s1 := s.drawn.modPc fun p => { p with
      ptpGood := good, ptpOffset := offset, ptpLast := s.gh.now, clockStep := step, ptpSeq := (p.ptpSeq + 1) % 65536 }
    let s2 := if 16 ≤ good then s1.ptpTo 2 else if s.pc.ptpState = 0 then s1.ptpTo 1 else s1
    s2.drawn.sendFrame link (s2.get Obj.sw_mgmt_tc) (64 + s2.freeVal 16 % 9153) false (some s.pc.ptpSeq)
  else s)

/-- PTP_LOSS (R375): pc_ptp_loss has passed without a Sync. -/
def execPtpLoss (s : State) : Host.Outcome State Fault Refusal :=
  .next (if (s.pc.ptpState = 1 ∨ s.pc.ptpState = 2) ∧ s.get Obj.pc_ptp_loss ≤ s.gh.now - s.pc.ptpLast then
    (s.modPc fun p => { p with ptpGood := 0 }).ptpTo 3 else s)

/-- One leg of the port clock: 8,192 cycles of 625 ps under its step (R373). -/
def State.clockLeg (s : State) : State :=
  let d : Int := 5120 * 65536 * 1000000000 + 5120 * 65536 * s.pc.clockStep
  let t : Int := Int.ofNat (s.pc.clockNs * 65536 + s.pc.clockFrac) + d / 1000000000
  s.modPc fun p => { p with clockNs := t.toNat / 65536, clockFrac := t.toNat % 65536 }

/-! ### Virtual output queues (R376 to R378, R384) -/

/-- The queue of a ready transfer: its number v, its bytes (R376); none for a transfer that does not pass the switch
core. -/
def State.voqOf (s : State) (t : Transfer) : Option (Nat × Nat) :=
  let q (input output tc bytes : Nat) : Option (Nat × Nat) := some ((input * 40 + output) * 8 + tc, bytes)
  let net (f : Nat) : Option (Nat × Nat) := match s.frame? f with
    | some x => q (x.link / 8) x.output x.tc x.bytes
    | none => none
  match t.job with
  | .payloadIn _ _ _ _ f _ => net f
  | .roomIn _ _ _ _ f _ => net f
  | .frameIn f => net f
  | .blockOut a _ => match s.cmd? a with | some c => q 5 c.port (s.get Obj.sw_roce_tc) 4096 | none => none
  | .pullOut p _ => match s.ce.pulls.find? fun x => x.id == p with
    | some x => match s.conn? x.qpn with | some c => q 5 c.port (s.get Obj.sw_roce_tc) 4096 | none => none
    | none => none
  | .legFrame _ _ => q 6 4 0 4096
  | .snapshotFrame _ => q 6 4 0 4096
  | .shadowFrame _ => q 4 6 0 4096
  | .journal bay _ _ => q 6 (16 + bay) 0 4096
  | _ => none

/-- Depth and head age of every queue that is not empty (R378, R384): an internal input places descriptors only up to
sw_voq_limit. -/
def State.voqSample (s : State) : List (Nat × Nat × Nat) :=
  let lim := s.get Obj.sw_voq_limit
  s.ce.ready.foldl (fun l t => match s.voqOf t with
    | some (v, b) =>
      let e := lookup l v (0, 0)
      if e.1 = 0 then assign l v (b, (s.slotNow - t.notBefore) * 80)
      else if 5 ≤ v / 320 ∧ lim ≤ e.1 then l
      else assign l v (e.1 + b, e.2)
    | none => l) []

/-- VOQ_SAMPLE at a leg boundary (R384). -/
def State.sampleVoqs (s : State) : State :=
  let now := s.voqSample
  s.modPc fun p => { p with
    voqNow := now,
    voqPeak := now.foldl (fun l e =>
      let o := lookup l e.1 (0, 0)
      assign l e.1 (Nat.max o.1 e.2.1, Nat.max o.2 e.2.2)) p.voqPeak }

/-- Records of the second that ended: uncorrectable codewords and bad cut-through frames (R386's records 0x3003 and
0x3006). -/
def State.portSecond (s : State) : State :=
  let s1 := s.pc.fecSecond.foldl (fun t p => t.record 4 0x3003 [(4, p.1), (4, p.2)]) s
  let s2 := if s.pc.badSecond = (0, 0) then s1 else s1.record 4 0x3006 [(4, s.pc.badSecond.1), (4, s.pc.badSecond.2)]
  s2.modPc fun p => { p with fecSecond := [], badSecond := (0, 0) }

end Sys2Proof.Machine
end

