-- ==== Sys2Proof/Machine/Cipher.lean ====
section
/-! DEFINITION. The cipher engine: roots and derived keys, key slots, the key store and core caches, requests and what a
pass does (R404 to R422). -/

namespace Sys2Proof.Machine

/-! ### Roots and derivations (R406 to R409) -/

/-- K_own in use: 32 zero bytes where none is held (R406). -/
def State.kOwn (s : State) : List Byte := leBytes 32 (s.cy.ownerRoot.getD 0)

/-- K_dev, 32 bytes (R407). -/
def State.kDev (s : State) : List Byte := leBytes 32 (s.cy.devKey.getD 0)

/-- K_wrap under a given K_own (R408). -/
def kWrap (own : List Byte) : BitVec 256 := Config.kmac256 own [] "KA2460 WRAP"

/-- K_root (R408). -/
def State.kRoot (s : State) : List Byte := leBytes 32 (Config.kmac256 s.kOwn s.kDev "KA2460 ROOT").toNat

/-- K_host of a Host Identifier (R408). -/
def State.kHost (s : State) (hostid : Nat) : List Byte :=
  leBytes 32 (Config.kmac256 s.kRoot (beBytes 16 hostid) "KA2460 HOST").toNat

/-- The XTS key pair of a namespace (R408). -/
def State.nsKey (s : State) (n : Namespace) : Digest :=
  Config.kmac512 s.kRoot (beBytes 16 n.nguid ++ beBytes 4 n.keyGen) "KA2460 XTS"

/-! ### Key slots (R410, R411) -/

/-- A key slot is filled. -/
def State.fillSlot (slot mode owner gen id : Nat) (s : State) : State :=
  s.modCy fun y => { y with slots := y.slots.filter (fun e => e.1 != slot) ++ [(slot, mode, owner, gen, id)] }

/-- A key slot is emptied. -/
def State.emptySlot (slot : Nat) (s : State) : State :=
  s.modCy fun y => { y with slots := y.slots.filter fun e => e.1 != slot }

/-! ### The key store and the caches (R413, R415) -/

/-- A key some request names. -/
def State.keyNamed (s : State) (k : DerivedKey) : Bool := s.cy.reqs.any fun r => r.keys.contains k

/-- Replace the least recently used key of a list that meets `free`. -/
def evictLast (free : DerivedKey → Bool) (l : List DerivedKey) : List DerivedKey := (dropFirst free l.reverse).reverse

/-- A derived key enters the store; full, it replaces its least recently used key that no request names (R413). -/
def State.storeKey (k : DerivedKey) (s : State) : State :=
  let l := if s.cy.store.length < 8192 then s.cy.store else evictLast (fun x => !s.keyNamed x) s.cy.store
  s.modCy fun y => { y with store := k :: l }

/-- The store takes one more key: it is not full, or holds a key that no request names (R413). -/
def State.storeTakes (s : State) : Bool := decide (s.cy.store.length < 8192) || s.cy.store.any fun k => !s.keyNamed k

/-- KEY_DERIVATION_DONE (R413): the derivation queued or running the longest completes, once the store takes its key. -/
def execKeyDerivationDone (s : State) : Host.Outcome State Fault Refusal :=
  .next (match s.cy.derivs with
  | [] => s
  | k :: r => if s.storeTakes then ((s.modCy fun y => { y with derivs := r }).storeKey k).tick Obj.cy_derivations else s)

/-- The keys that requests assigned to a core name (R415). -/
def State.coreKeys (s : State) (core : Nat) : List DerivedKey :=
  ((s.cy.reqs.filter fun r => r.core == some core).flatMap (·.keys)).foldl addNew []

/-- A key is in a core's cache when its pass starts: the scheduler loads it in the slot before, in place of the least recently used one
that no request assigned to the core names (R414, R415). -/
def State.loadKey (core : Nat) (k : DerivedKey) (s : State) : State :=
  let c := s.cy.caches.getD core []
  if c.contains k then s.modCy fun y => { y with caches := y.caches.set core (k :: c.filter (· != k)) }
  else
    let c' := if c.length < 64 then c else evictLast (fun x => !(s.coreKeys core).contains x) c
    (s.modCy fun y => { y with caches := y.caches.set core (k :: c'), store := k :: y.store.filter (· != k) }).tick
      Obj.cy_core_cache_loads (core + 1)

/-- A request serves a block that is still worked on. -/
def State.reqLive (s : State) (r : CipherReq) : Bool :=
  match r.pull with
  | some x => s.ce.pulls.any fun p => p.id == x.1
  | none => ((s.cmd? r.arrival).bind (·.blk? r.lba)).isSome

/-- Requests whose command or pull is over leave the scheduler, and the keys they named are free to be replaced (R413). -/
def State.requestsLeg (s : State) : State := s.modCy fun y => { y with reqs := y.reqs.filter s.reqLive }

/-- Keys of a raised generation leave the store and every cache at the next leg boundary (R418). -/
def State.evictKeys (s : State) : State :=
  let gone (k : DerivedKey) : Bool := k.mode == 1 && s.cy.purge.any fun p => p.1 == k.slot && p.2 == k.gen
  s.modCy fun y => { y with
    store := y.store.filter fun k => !gone k, caches := y.caches.map fun c => c.filter fun k => !gone k,
    derivs := y.derivs.filter fun k => !gone k, purge := [] }

/-! ### Requests (R412, R414, R420) -/

/-- Both keys of a request are in the store (R414). -/
def State.keysHeld (s : State) (r : CipherReq) : Bool := r.keys.all fun k => s.cy.store.contains k

/-- A request may run on a core: the core is ready, is none of those that returned it, and reaches its parity unit (R414, R419,
R420). -/
def State.coreTakes (s : State) (core : Nat) (tap : Bool) (r : CipherReq) (tried : List Nat) : Bool :=
  s.cy.coreState.getD core 0 == 0 && !tried.contains core &&
  (match r.tap with | some u => tap && tapUnit core == u | none => true)

/-- The keys a core's requests name leave room for those of one more (R415). -/
def State.coreRoom (s : State) (core : Nat) (r : CipherReq) : Bool := decide ((r.keys.foldl addNew (s.coreKeys core)).length ≤ 64)

/-- Requests leave the cores they are assigned to (R419; log entry 131). -/
def State.unassign (p : Nat → Bool) (s : State) : State :=
  s.modCy fun y => { y with reqs := y.reqs.map fun r => if r.core.any p then { r with core := none } else r }

/-- The ESP key material of a direction of a connection under a rekey count: 1 inbound, 2 outbound (R270). -/
def State.gcmKey (s : State) (n : Conn) (dir count : Nat) : BitVec 288 :=
  Config.kmac288 (s.kHost n.hostid)
    (beBytes 1 dir ++ beBytes 16 n.hostid ++ beBytes 3 n.qpn ++ beBytes 6 n.claimGen ++ beBytes 4 count) "KA2460 ESP"

/-- A block under a connection's transport protection: encrypted or decrypted with the keystream of the packet's key and sequence number
(R416); with no connection it stays as it is. -/
def State.gcm (s : State) (n : Option Conn) (dir : Nat) (esp : Nat × Nat) (d : Block) : Block :=
  match n with
  | some c => Config.gcmCrypt (s.gcmKey c dir esp.1) esp.2 d
  | none => d

/-- What a pass writes back (R76, R109, R405, R416, R417): operation 1 INBOUND, 2 OUTBOUND, 3 REST_IN, 4 REST_OUT. -/
def State.passData (s : State) (op nsid lba : Nat) (zero : Bool) (n : Option Conn) (esp : Nat × Nat) (d : Block) : Block :=
  let key := s.nsKey (s.ns nsid)
  let tweak := BitVec.ofNat 128 lba
  let plain := if zero then 0 else Config.xtsDecrypt key tweak d
  if op = 1 then Config.xtsEncrypt key tweak (s.gcm n 1 esp d)
  else if op = 2 then s.gcm n 2 esp plain
  else if op = 3 then Config.xtsEncrypt key tweak d
  else plain

/-- Restart the search for a Read's block from its R106 source (R420). -/
def State.readAgain (a lba : Nat) (s : State) : State :=
  match s.cmd? a with
  | some c =>
    match c.blk? lba with
    | some b =>
      let s1 := match b.bed with | some h => s.freeOwned h | none => s
      ((s1.dropReq a lba).modBlk a lba fun b => { b with bed := none, stage := .blocked, hedged := false }).cipherRequest c lba none
        |>.fixBlock a lba
    | none => s
  | none => s

/-- A request is returned with RESET by a core: a third one ends its command, else it is assigned again; one whose bed
holds no data recovers its input first (R420). -/
def State.resetBlock (a lba core : Nat) (lostData : Bool) (s : State) : State :=
  match s.cmd? a with
  | some c =>
    match c.blk? lba with
    | some b =>
      let s0 := s.returned (0x20 + core) Oc.reset
      if 2 ≤ b.resets then
        ((s0.tick Obj.cy_retry_failures).record 5 0x5004 ([(2, c.cap.nsid), (8, lba)] ++ (b.cores ++ [core]).map fun x => (1, x))).failCmd a
          (if c.cap.op = .read then .internalError else .dataTransferError)
      else
        let s1 := (s0.tick Obj.cy_retries).modBlk a lba fun b => { b with resets := b.resets + 1, cores := b.cores ++ [core] }
        if !lostData then s1
        else if c.cap.op = .read then s1.readAgain a lba
        else if c.cap.src ≠ .endpoint ∧ c.cap.sub = 0xF then s1.failCmd a .dataTransferError
        else s1.pullAgain a lba
    | none => s
  | none => s

/-! ### Objects of the engine (R406, R409, R422) -/

/-- A write to cy_owner_root, judged as a run of its RESULT (R406, R484). -/
def State.ownerRootWrite (cls : Nat) (value : List Byte) (s : State) : State :=
  s.action cls Obj.cy_owner_root Obj.cy_owner_root_result fun t =>
    let up := t.md.mode == .service || t.md.mode == .standby || t.md.mode == .drain
    if t.get Obj.cy_owner_root_state = 1 ∨ (up = true ∧ !t.ce.namespaces.isEmpty) ∨ value.length ≠ 32 then
      t.endRun Obj.cy_owner_root_result (outcomeVal Oc.denied)
    else
      let k := leNat value
      let t1 := t.modCy fun y => { y with ownerRootNext := some k, ownerRoot := if up then y.ownerRoot else some k }
      ((t1.put Obj.cy_owner_root_state 0 1).record 3 0x5005 []).endRun Obj.cy_owner_root_result (outcomeVal Oc.ok)

/-- CY_OWNER_ROOT_WRITE (R406). -/
def execCyOwnerRootWrite (cls : Nat) (value : List Byte) (s : State) : Host.Outcome State Fault Refusal :=
  .next (s.ownerRootWrite cls value)

/-- A write to cy_host_key_derive (R409): K_host of cy_host_key_hostid. -/
def State.hostKeyDerive (cls value : Nat) (s : State) : State :=
  s.action cls Obj.cy_host_key_derive Obj.cy_host_key fun t =>
    if value = 1 then
      t.endRun Obj.cy_host_key (t.kHost (beNat (t.blob Obj.cy_host_key_hostid 0 (List.replicate 16 0))))
    else t.endRun Obj.cy_host_key (outcomeVal Oc.denied)

/-- CY_HOST_KEY_DERIVE (R409). -/
def execCyHostKeyDerive (cls value : Nat) (s : State) : Host.Outcome State Fault Refusal := .next (s.hostKeyDerive cls value)

/-- Record 0x5002 of the second that ended (R416). -/
def State.cipherSecond (s : State) : State :=
  if s.cy.ghashFails.isEmpty then s
  else (s.record 4 0x5002 ((4, s.cy.ghashFails.length) :: (s.cy.ghashFails.foldl addNew []).map fun a => (2, a))).modCy
    fun y => { y with ghashFails := [] }

end Sys2Proof.Machine
end

