-- ==== Sys2Proof/Machine/Accept.lean ====
section
/-! DEFINITION. Acceptance of a capsule: arrival sequence, range table, cancelled cache entries, read-ahead, recognised
retries, the waking of PS2 (R68 to R70, R119, R126, R128, R256, R329 to R332, R465). -/

namespace Sys2Proof

/-- A capsule of a write kind (R120). -/
def Capsule.writeKind (c : Capsule) : Bool := c.op == .write || c.op == .writeZeroes || (c.op == .dsm && c.ad)

end Sys2Proof

namespace Sys2Proof.Machine

/-! ### Reservations as they are judged (R331, R332) -/

/-- The Host Identifier behind a controller; 0 for the endpoint's (log entry 23). -/
def State.hostOf (s : State) (i : Nat) : Nat := match s.assoc? i with | some a => a.hostid | none => 0

/-- The namespace whose reservation state is in force: the one before a change that is not committed yet (R331). -/
def State.resNs (s : State) (nsid : Nat) : Namespace :=
  match s.ce.resCmds.find? fun r => r.nsid == nsid && decide (s.lg.descGen < r.generation) with
  | some r => r.before
  | none => s.ns nsid

end Sys2Proof.Machine

namespace Sys2Proof

open Machine in
/-- A host is a registrant. -/
def Namespace.registered (n : Namespace) (host : Nat) : Bool := n.registrants.any fun r => r.hostid == host

open Machine in
/-- A host holds the reservation: of types 5 and 6 every registrant does (R332). -/
def Namespace.holds (n : Namespace) (host : Nat) : Bool :=
  if n.rtype = 5 ∨ n.rtype = 6 then n.registered host
  else n.registrants.any fun r => r.hostid == host && r.holder

open Machine in
/-- The reservation type permits a command of a host (R312, R332): types 1, 3 and 5 let everybody read, types 3 to 6 let
registrants do everything, the holder may do everything. -/
def Namespace.permits (n : Namespace) (host : Nat) (write : Bool) : Bool :=
  n.rtype == 0 || (!write && n.rtype % 2 == 1) || n.holds host || (decide (3 ≤ n.rtype) && n.registered host)

end Sys2Proof

namespace Sys2Proof.Machine

/-! ### Power states (R327, R330) -/

/-- The power state changes (R327): old and new, and who asked: 0 a host or the endpoint, 1 ce_power_state_set, 2 a command
that arrives in PS2. -/
def State.setPs (new requester : Nat) (s : State) : State :=
  if s.ce.ps = new then s
  else (s.modCe fun c => { c with ps := new }).record 4 0x6010 [(1, s.ce.ps), (1, new), (1, requester)]

/-- A Drain cause clears (R465); once none is left, Drain ends at the next leg boundary. -/
def State.clearCause (k : Nat) (s : State) : State := s.modMd fun m => { m with causes := m.causes.filter (· != k) }

/-- A Drain cause arises: Drain is entered at the next leg boundary (R465). -/
def State.addCause (k : Nat) (s : State) : State := s.modMd fun m => { m with causes := addNew m.causes k }

/-! ### Read-ahead (R125, R126) -/

/-- Advance the streams of a namespace by a Read: the streams, and the count of the one that took it (R126). -/
def advanceStream (first blocks : Nat) (l : List (Nat × Nat)) : List (Nat × Nat) × Nat :=
  match l.find? fun x => x.1 == first with
  | some x => ((first + blocks, x.2 + 1) :: dropFirst (fun y => y == x) l, x.2 + 1)
  | none => ((first + blocks, 1) :: l.take 63, 1)

end Sys2Proof.Machine

namespace Sys2Proof

open Machine in
/-- A write of the host blocks in `hit` changes a block the stripe cache names: the block is one of them, or is P or Q of a row that
holds one (log entry 107). -/
def Namespace.changes (n : Namespace) (hit : Nat → Bool) (lba : Nat) : Bool :=
  if lba < nsCapacity n then hit lba
  else
    let q := cachePlace n lba
    (List.range (layK n.layout)).any fun m => hit (hostLba n.layout q.1 m q.2.2)

end Sys2Proof

namespace Sys2Proof.Machine

/-- A block no fill is issued for: covered by a write-kind command or an unfreed waybill, or named by the index (R125,
R126); P and Q of a row are covered as its data is (log entry 107). -/
def State.fillBarred (s : State) (n : Namespace) (lba : Nat) : Bool :=
  s.cacheNames n.nsid lba ||
  (s.ce.cmds.any fun c => c.writeKind && c.cap.nsid == n.nsid && c.ranges.any fun r => n.changes (inSpan · r) lba) ||
  (s.lg.recs.any fun r => r.nsid == n.nsid && n.changes r.covers lba)

/-- Issue the fill of one block as a provisional entry, where a member holds it (R125, R126); its number tells it from other fills of the
block (R128). -/
def State.fillBlock (n : Namespace) (cls queue lba : Nat) (s : State) : State :=
  if s.fillBarred n lba || !s.provRoom then s
  else
    let q := cachePlace n lba
    match s.memberAt n q.1 q.2.1 with
    | some p =>
      let no := s.ce.fillNext
      let e : CacheEntry := { nsid := n.nsid, lba := lba, confirmed := false, filling := true, no := no }
      ((s.cacheInsert e).modCe fun c => { c with fillNext := no + 1 }).readMember p.1 n.wing (p.2 + q.2.2) queue
        (.fill n.nsid lba cls no)
    | none => s

/-- A Read meets the read-ahead detector of its namespace (R126, R327). -/
def State.readAhead (c : Cmd) (s : State) : State :=
  match s.ns? c.cap.nsid with
  | none => s
  | some n =>
    let r := advanceStream c.cap.slba c.cap.nlb n.streams
    let s1 := s.modNs n.nsid fun x => { x with streams := r.1 }
    let window := ceilDiv (s.get Obj.ce_readahead_window) 4096
    if r.2 < s.get Obj.ce_readahead_trigger ∨ s.ce.ps ≠ 0 ∨ window = 0 then s1
    else
      let sb := Nat.max 1 (layS n.layout)
      let at_ := c.cap.slba + c.cap.nlb
      let lo := at_ / sb * sb
      let hi := Nat.min (ceilDiv (at_ + window) sb * sb) (nsCapacity n)
      (List.range (hi - lo)).foldl (fun t i => t.fillBlock n c.party (1 + c.party % 4) (lo + i)) s1

/-! ### Acceptance -/

/-- The replayed Write a command repeats (R256): the highest arrival sequence that matches. -/
def State.retryOf (s : State) (c : Capsule) : Option Retry :=
  if ((s.wing (s.ns c.nsid).wing).retryEnd.any fun e => decide (s.gh.now ≤ e)) && c.op == .write then
    (s.ce.retries.filter fun r => r.hostid == s.hostOf c.src.ix && r.cid == c.cid && r.nsid == c.nsid &&
      r.first == c.slba && r.blocks == c.nlb).foldl (fun m r => match m with
        | some x => if x.arrival < r.arrival then some r else m
        | none => some r) none
  else none

/-- Entries of the range table (R119). -/
def State.rangeUsed (s : State) : Nat := sumN (s.ce.cmds.map fun c => Nat.max 1 c.ranges.length)

/-- Entries a capsule needs (R119). -/
def rangeNeed (c : Capsule) : Nat := if c.op = .dsm then Nat.max 1 c.ranges.length else 1

/-- A capsule is accepted: it takes the next arrival sequence and its range-table entry (R68, R70, R119). -/
def State.acceptCap (cap : Capsule) (s : State) : State :=
  let a := s.ce.arrivalNext
  let i := cap.src.ix
  let port := match s.conn? cap.qpn with | some c => c.port | none => 0
  let retry := s.retryOf cap
  let c : Cmd :=
    { arrival := a, cap := cap, port := port, party := s.partyOf i, assoc := i, time := s.gh.now, slot := s.slotNow,
      sincePs2 := s.ce.psEntry.isSome || s.ce.ps == 2,
      active := s.nsActive (s.partyOf i) cap.nsid,
      permitted := (s.resNs cap.nsid).permits (s.hostOf i) cap.writeKind, retry := retry.isSome }
  let s1 := s.modCe fun x => { x with
    arrivalNext := a + 1, cmds := x.cmds ++ [c],
    retries := match retry with | some r => x.retries.filter (· != r) | none => x.retries }
  let s1r := if retry.isSome then s1.tick Obj.si_retries_recognised else s1
  let s2 := if cap.writeKind then
      -- P and Q of a row the command writes in change with it
      let n := s.ns cap.nsid
      c.ranges.foldl (fun t r => t.cacheRemove cap.nsid (n.changes (inSpan · r))) s1r
    else if cap.op = .read then s1r.readAhead c else s1r
  let s3 := if s.ce.ps = 2 then s2.clearCause 0 else s2
  if s.md.mode = .drain ∧ s.md.causes.contains 4 = true then s3.finish a .namespaceNotReady
  else if cap.op = .other then s3.finish a .invalidOpcode
  else s3.epAskList c

/-- A parsed capsule is accepted, or waits in its queue pair for a range-table entry (R119). -/
def State.takeCap (cap : Capsule) (s : State) : State :=
  if s.rangeUsed + rangeNeed cap ≤ 262144 ∧ (s.ce.rangeWait.all fun w => w.qpn != cap.qpn) then s.acceptCap cap
  else (s.modCe fun c => { c with rangeWait := c.rangeWait ++ [cap] }).tick Obj.ce_range_full_waits

/-- Capsules that waited for an entry are accepted as entries free (R119). -/
def State.rangeServe : Nat → State → State
  | 0, s => s
  | f + 1, s =>
    match s.ce.rangeWait with
    | [] => s
    | c :: r =>
      if s.rangeUsed + rangeNeed c ≤ 262144 then
        State.rangeServe f ((s.modCe fun x => { x with rangeWait := r }).acceptCap c)
      else s

/-- Serve every capsule that waits for an entry. -/
def State.rangeFree (s : State) : State := s.rangeServe s.ce.rangeWait.length

end Sys2Proof.Machine
end

