-- ==== Sys2Proof/Machine/Transport.lean ====
section
/-! DEFINITION. The transport engine: connections, ESP counts, contexts and the waiting room, rooms, chained queues,
spread and standard mode, congestion, and the end of connections and associations (R263 to R304, R309, R573). -/

namespace Sys2Proof.Machine

/-! ### Modes and frames -/

/-- The engine accepts requests and carries packets in Standby, Service and Drain alone (R573). -/
def State.transportOn (s : State) : Bool := s.md.mode == .standby || s.md.mode == .service || s.md.mode == .drain

/-- A queue pair of an admin queue (R265). -/
def qpAdmin (qpn : Nat) : Bool := bit qpn 23

/-- A packet without payload of the model's own length leaves on a connection's link (R368). -/
def State.sendControl (c : Conn) (s : State) : State := s.sendShort c.link (s.get Obj.sw_roce_tc)

/-- A packet of the engine's own leaves on a connection, under the next ESP sequence number (R268, R269). -/
def State.sendOwn (c : Conn) (s : State) : State := (s.takeSeq c.qpn).sendControl c

/-- A packet is dropped: its frame leaves the staging buffer. -/
def State.packetGone (p : Packet) (s : State) : State := s.releaseFrame p.frame

/-! ### Room descriptors (R279, R284 to R288) -/

/-- A room key (R279). -/
def Room.key (r : Room) : Nat := r.index * 2 ^ 14 + r.tag

/-- Pins of a room's Reads are released (R118). -/
def State.unpinRoom (ix : Nat) (s : State) : State :=
  ((s.ce.roomReads.filter fun r => r.room == ix).foldl (fun t r => t.unpin r.arrival) s).modCe fun c => { c with
    roomReads := c.roomReads.filter fun r => r.room != ix }

/-- A room enters closing: a read room releases its pins (R118, R286). -/
def State.roomClosing (ix : Nat) (s : State) : State :=
  (s.unpinRoom ix).modRoom ix fun r => { r with state := 2, openLegs := s.tt.legCount % 2 ^ 32, quiet := false }

/-- A room becomes closed: its beds and pins are released, and its Room Close completes (R286). -/
def State.roomClosed (r : Room) (s : State) : State :=
  let s1 := (r.beds.foldl (fun t b => t.freeOwned b.2) (s.unpinRoom r.index)).modRoom r.index fun x => { x with
    state := 3, beds := [], openMsgs := 0, quiet := false, cut := false, closers := [], modifiers := [], modify := none,
    gens := [] }
  (r.modifiers ++ r.closers).foldl (fun t a => t.finish a .success) s1

/-- Every room of a connection enters closing; nobody is left to hear of it (R287). -/
def State.closeRoomsOf (qpn : Nat) (s : State) : State :=
  (s.tr.rooms.filter fun r => r.owner == qpn && (r.state == 1 || r.state == 2)).foldl (fun t r =>
    (if r.state = 1 then t.roomClosing r.index else t).modRoom r.index fun x => { x with
      closers := [], modifiers := [], modify := none, owner := 0 }) s

/-! ### The end of commands, connections and associations (R75, R300, R309) -/

/-- The block a job serves. -/
def Job.lba? : Job → Option Nat
  | .pullRequest _ l => some l
  | .payloadIn _ l _ _ _ _ => some l
  | .cipherBlock _ l => some l
  | .slabWrite _ l => some l
  | .parityTapIn _ l => some l
  | _ => none

/-- A command is dropped: full-stripe parts whose intent is sealed and whose data has arrived go on; the rest of it is
released and its unused intents are retired (R75, R121, R309). -/
def State.dropCmd (a : Nat) (s : State) : State :=
  match s.cmd? a with
  | none => s
  | some c =>
    let ready (p : Part) : Bool := p.full && p.intent.isSome && (p.issued || (c.blocks.filter fun b =>
      inSpan b.lba (p.first, p.blocks)).all fun b => b.stage == .ciphered || b.stage == .done)
    let keep := if c.status.isSome then [] else c.parts.filter ready
    let kept (l : Nat) : Bool := keep.any fun p => inSpan l (p.first, p.blocks)
    let lostInts := c.parts.filterMap fun p => if p.full && !p.issued && !ready p then p.intent else none
    let s1 := (s.lg.recs.filter fun r => r.kind == 2 && r.arrival == a && lostInts.contains r.sealNo).foldl
      (fun t r => t.finalRec r) s
    let s2 := s1.modAdm fun x => { x with queue := x.queue.filter fun p => p.arrival != a }
    if keep.isEmpty then
      ((s2.stopCmd a).freeCmdBeds a).modCe fun x => { x with
        cmds := x.cmds.filter fun d => d.arrival != a,
        ready := x.ready.filter fun t => t.job.arrival != a }
    else
      let gone := c.blocks.filter fun b => !kept b.lba
      let s3 := gone.foldl (fun t b => match b.bed with | some h => t.freeOwned h | none => t) s2
      let s4 := s3.dropJobs fun j => j.arrival == a && (match j.lba? with | some l => !kept l | none => false)
      let s5 := s4.modCy fun y => { y with reqs := y.reqs.filter fun r => !(r.arrival == a && !kept r.lba) }
      s5.modCmd a fun q => { q with dropped := true, parts := keep, blocks := q.blocks.filter fun b => kept b.lba }

/-- The controller ID of an association (R306). -/
def State.cntlid (s : State) (i : Nat) : Nat := i + 1 + 0x1000 * s.si.id

/-- An association ends: its queue pairs are freed and its rooms close, no completion follows, its commands are dropped
(R309); an open download ends with it (R321). -/
def State.endAssoc (i cause : Nat) (s : State) : State :=
  match s.assoc? i with
  | none => s
  | some a =>
    let qps := (s.tr.conns.filter fun c => c.assoc == some i).map (·.qpn)
    let s1 := qps.foldl (fun t q => t.closeRoomsOf q) s
    let s2 := s1.modTr fun t => { t with
      conns := t.conns.filter fun c => c.assoc != some i,
      waiting := t.waiting.filter fun w => !qps.contains w.qpn, fetches := t.fetches.filter fun q => !qps.contains q }
    let s3 := s2.dropJobs fun j => match j with
      | .reply r => r.src == .assoc i
      | .contextFetch q => qps.contains q
      | .contextSpill q => qps.contains q
      | _ => false
    let mine := (s3.ce.cmds.filter fun c => c.cap.src == .assoc i).map (·.arrival)
    let s4 := mine.foldl (fun t x => t.dropCmd x) s3
    let s5 := s4.modCe fun c => { c with
      assocs := c.assocs.filter fun x => x.index != i,
      aborts := c.aborts.filter fun x => x.1 != i,
      rangeWait := c.rangeWait.filter fun x => x.src != .assoc i && !qps.contains x.qpn,
      pulls := c.pulls.filter fun p => !qps.contains p.qpn,
      download := if c.download = some i then none else c.download,
      fragments := if c.download = some i then [] else c.fragments }
    let s6 := (s5.emptySlot (0x400 + i)).modSi fun x => { x with assocChanges := x.assocChanges ++ [(i, false, a.hostid)] }
    s6.record 3 0x6002 [(2, s.cntlid i), (1, cause), (4, mine.length)]

/-- A connection ends on an error (R300): its rooms close, what the engine holds for it returns with TIMEOUT, and its
association ends. -/
def State.endConn (qpn cause : Nat) (s : State) : State :=
  match s.conn? qpn with
  | none => s
  | some c =>
    let held := s.pullsOut qpn
    let s1 := (s.tick Obj.tr_connection_errors).record 4 0x4001 [(4, qpn), (16, c.hostid), (1, cause)]
    let s2 := (s1.unitEvent 0x52 6 Oc.timeout held 0x24 {} none).closeRoomsOf qpn
    let s3 := s2.modTr fun t => { t with
      conns := t.conns.filter fun x => x.qpn != qpn, waiting := t.waiting.filter fun w => w.qpn != qpn }
    match c.assoc with
    | some i => s3.endAssoc i 2
    | none => s3

/-- Causes of records 0x4001 (log entry 20): 1 an Invalid Request, 2 a Remote Access Error, 3 retry exhaustion, 4 a
spread-mode timeout, 5 a failed Connect. -/
def State.nakEnd (c : Conn) (code : Nat) (s : State) : State :=
  ((s.emit (.nak c.qpn code)).sendOwn c).endConn c.qpn (if code = 1 then 1 else 2)

/-! ### Sending (R269, R273, R303) -/

/-- The waypoint header of a packet that is a whole message of its own: version 1, FIRST and LAST, path label 0 (R8, R293, log entry
123). -/
def waypointOf (msg bytes : Nat) : List Byte :=
  beBytes 1 0x13 ++ beBytes 1 0 ++ beBytes 2 0 ++ beBytes 4 msg ++ beBytes 4 0 ++ beBytes 4 bytes

/-- The waypoint header of the packet a connection sends next: a spread connection's alone has one (R293). -/
def State.waypointFor (s : State) (qpn bytes : Nat) : List Byte :=
  match s.conn? qpn with
  | some c => if c.spread then waypointOf c.txPsn bytes else []
  | none => []

/-- A packet of a connection leaves under the sequence number it has taken: its PSN or message number, its bytes (R298, R299, R303). -/
def State.txMove (qpn bytes : Nat) (s : State) : State :=
  s.modConn qpn fun x =>
    let m : SentMsg := { number := x.txPsn, bytes := bytes, start := s.gh.now, last := s.gh.now, limit := s.get Obj.tr_spread_timeout }
    { x with
      sent := x.sent + bytes, txPsn := (x.txPsn + 1) % (if x.spread then 2 ^ 32 else 2 ^ 24),
      txMsgs := if x.spread then x.txMsgs ++ [m] else x.txMsgs }

/-- A packet that goes through no cipher pass takes its sequence number as it leaves (R269, R273). -/
def State.txPacket (qpn bytes : Nat) (s : State) : State := (s.takeSeq qpn).txMove qpn bytes

/-- The connection may send in this leg: below r × 5.12 µs bytes, one packet may overrun (R303). -/
def Conn.maySend (c : Conn) : Bool := decide (c.sent * 100 < c.rate * 512)

/-- An acknowledgement leaves (R296, R299). -/
def State.sendAck (c : Conn) (n : Nat) (s : State) : State :=
  ((s.emit (.ack c.qpn n)).sendOwn c).modConn c.qpn fun x => { x with unacked := 0 }

/-! ### What a packet passes at arrival (R263 to R273, R301) -/

/-- A CE-marked packet draws a CNP, at most one per tr_cnp_interval (R301). -/
def State.ceMark (c : Conn) (s : State) : State :=
  let due := match c.lastCnp with | some t => decide (s.get Obj.tr_cnp_interval ≤ s.gh.now - t) | none => true
  if due then
    ((((s.emit (.cnp c.qpn)).takeSeq c.qpn).tick Obj.tr_cnp_sent).modConn c.qpn fun x => { x with lastCnp := some s.gh.now }).sendShort
      c.link (s.get Obj.sw_cnp_tc)
  else s

/-- The rekey count of a packet by its six bits: the current one, the next one, or one still accepted (R269, R273). -/
def Sa.countOf (a : Sa) (r6 : Nat) : Option Nat :=
  if a.rekey % 64 = r6 then some a.rekey
  else if (a.rekey + 1) % 64 = r6 then some (a.rekey + 1)
  else match a.old with
    | some o => if o % 64 = r6 then some o else none
    | none => none

/-- A number outside the window or already verified (R272). -/
def replayed (seq hi : Nat) (seen : List Nat) : Bool := decide (seq + 4096 ≤ hi) || seen.contains seq

/-- A number is verified: the window advances (R272). -/
def verified (seq hi : Nat) (seen : List Nat) : Nat × List Nat :=
  let h := Nat.max hi seq
  (h, (seq :: seen).filter fun x => decide (h < x + 4096))

/-- The inbound association accepts a number under a count (R272, R273). -/
def Sa.accept (a : Sa) (count seq : Nat) : Option Sa :=
  if count = a.rekey then
    if replayed seq a.seq a.seen then none
    else let v := verified seq a.seq a.seen; some { a with seq := v.1, seen := v.2 }
  else if count = a.rekey + 1 then
    some { a with rekey := count, old := some a.rekey, oldSeq := a.seq, oldSeen := a.seen, seq := seq, seen := [seq] }
  else if replayed seq a.oldSeq a.oldSeen then none
  else let v := verified seq a.oldSeq a.oldSeen; some { a with oldSeq := v.1, oldSeen := v.2 }

/-- Opcodes the controller accepts (R263). -/
def opcodeOk (o : Nat) : Bool := [0x04, 0x06, 0x07, 0x08, 0x0A, 0x0C, 0x0D, 0x0E, 0x0F, 0x10, 0x11, 0x81].contains o

/-- The fate of a packet at arrival. -/
inductive Arrival where
  | dropped | badIcv (c : Conn) | accepted (c : Conn)
  deriving DecidableEq, Repr

/-- A packet passes or fails the checks of its arrival (R264, R265, R268, R271, R272, R301, R573). -/
def State.arrive (p : Packet) (s : State) : Arrival × State :=
  if !s.transportOn then (.dropped, s.packetGone p)
  else
    match s.conn? p.qpn with
    | none => (.dropped, (s.tick Obj.tr_stale_qpn).packetGone p)
    | some c =>
      match (if p.spiGood then c.rx.countOf p.rekey else none) with
      | none => (.dropped, (s.tick Obj.tr_esp_icv_fail).packetGone p)
      | some count =>
        if !p.icv then
          (.badIcv c, ((s.tick Obj.tr_esp_icv_fail).record 5 0x4003 [(4, p.qpn), (4, 1)]).packetGone p)
        else
          match c.rx.accept count p.seq with
          | none => (.dropped, (s.tick Obj.tr_esp_replay_drops).packetGone p)
          | some a =>
            let s1 := s.modConn p.qpn fun x => { x with rx := a }
            let s2 := if count = c.rx.rekey + 1 then s1.record 2 0x4007 [(4, p.qpn), (1, 1), (4, count)] else s1
            let s3 := if p.ce then s2.ceMark c else s2
            if !opcodeOk p.opcode then (.dropped, (s3.packetGone p).nakEnd c 1)
            else (.accepted { c with rx := a }, s3)

/-! ### Contexts and the waiting room (R274 to R278) -/

/-- A context is in use: reads or pulls outstanding, or packets not acknowledged. -/
def State.ctxBusy (s : State) (c : Conn) : Bool :=
  decide (0 < c.reads) || decide (0 < c.unacked) || decide (0 < s.pullsOut c.qpn) || s.tr.waiting.any fun w => w.qpn == c.qpn

/-- Spill the least recently used cached context that is not in use where the cache is full (R275). -/
def State.spillFor (qpn : Nat) (s : State) : State :=
  let cached := s.tr.conns.filter fun c => !qpAdmin c.qpn && (c.cached || c.fetching) && !c.spilling && c.qpn != qpn
  if cached.length < s.get Obj.tr_contexts_onchip then s
  else
    let free := cached.filter fun c => c.cached && !s.ctxBusy c
    match free.foldl (fun m c => match m with
        | some x => if c.lastUse < x.lastUse then some c else m
        | none => some c) (none : Option Conn) with
    | some c => (s.modConn c.qpn fun x => { x with spilling := true }).push Bc.context Opc.context none none 0 (.contextSpill c.qpn)
    | none => s

/-- A context is used: it is the most recently used. -/
def State.useCtx (qpn : Nat) (s : State) : State :=
  (s.modConn qpn fun c => { c with lastUse := s.tr.useClock + 1 }).modTr fun t => { t with useClock := t.useClock + 1 }

/-- The fetch of a context is queued once; one whose spill is in flight waits for its end (R275, R278). -/
def State.fetchCtx (c : Conn) (s : State) : State :=
  if c.fetching || c.spilling then s
  else
    let s1 := s.spillFor c.qpn
    ((s1.modConn c.qpn fun x => { x with fetching := true, fetchAt := s.slotNow }).modTr fun t => { t with
      fetches := t.fetches ++ [c.qpn] }).push Bc.context Opc.context none none 0 (.contextFetch c.qpn)

/-- Packets of a connection wait: its context is not on chip, or earlier ones still wait (R276). -/
def State.mustWait (s : State) (c : Conn) : Bool :=
  !qpAdmin c.qpn && (!c.cached || c.spilling || s.tr.waiting.any fun w => w.qpn == c.qpn)

/-- A packet carries payload that a NET_IN cell moves into a bed. -/
def packetCarries (p : Packet) : Bool :=
  (decide (0x06 ≤ p.opcode) && decide (p.opcode ≤ 0x0A)) || (decide (0x0D ≤ p.opcode) && decide (p.opcode ≤ 0x10))

/-- The write class of a connection's party. -/
def State.connWrite (s : State) (c : Conn) : Nat := 0x10 + (match c.assoc with | some a => s.partyOf a | none => 0)
/-- The read class of a connection's party. -/
def State.connRead (s : State) (c : Conn) : Nat := match c.assoc with | some a => s.partyOf a | none => 0

/-- A packet enters the waiting room, or is dropped where it is full (R276, R277). -/
def State.waitPacket (c : Conn) (p : Packet) (s : State) : State :=
  if 512 ≤ s.tr.waiting.length then
    ((s.tick Obj.tr_waiting_room_drops).record 4 0x4002 [(4, 1)]).packetGone p
  else
    let tag := s.tr.waitTag
    let s1 := (s.fetchCtx c).modTr fun t => { t with
      waiting := t.waiting ++ [{ qpn := c.qpn, packet := p, tag := tag }], waitTag := tag + 1 }
    if packetCarries p then s1.push (s.connWrite c) Opc.netIn (some (1 + c.port)) none 0 (.waitIn tag) else s1.packetGone p

/-! ### Order: standard and spread mode (R293 to R299) -/

/-- The last packet of a message by its opcode. -/
def lastOp (o : Nat) : Bool := o == 0x08 || o == 0x0A || o == 0x0C || o == 0x0F || o == 0x10 || o == 0x04

/-- The first packet of a message by its opcode. -/
def firstOp (o : Nat) : Bool := o == 0x06 || o == 0x0A || o == 0x0C

/-- The place of a packet in its stream: taken in order, a duplicate, after a gap, or breaking a rule. -/
inductive Order where
  | next | dup | gap | bad | over
  deriving DecidableEq, Repr

/-- Judge a packet's place (R294, R295, R297, R299). -/
def State.orderOf (s : State) (c : Conn) (p : Packet) : Order :=
  if !c.spread then
    if p.psn = c.psn then .next
    else if (p.psn + 2 ^ 24 - c.psn) % 2 ^ 24 < 2 ^ 23 then .gap else .dup
  else
    let want := if p.msgOffset + 4096 ≤ p.size then 4096 else p.size - p.msgOffset
    if p.msgOffset % 4096 ≠ 0 ∨ p.size ≤ p.msgOffset ∨ 2097152 < p.size ∨
        (p.opcode ≠ 0x0C ∧ p.bytes ≠ want) then .bad
    else if p.msg < c.nextMsg then .dup
    else
      match c.msgs.find? fun m => m.number == p.msg with
      | some m => if m.bits.contains (p.msgOffset / 4096) then .dup else .next
      | none =>
        let all := sumN (s.tr.conns.map fun x => (x.msgs.filter fun m => !m.complete).length)
        if c.nextMsg + 64 ≤ p.msg ∨ 64 ≤ (c.msgs.filter fun m => !m.complete).length ∨ s.get Obj.tr_spread_msgs_max ≤ all
          then .over else .next

/-- Deliver complete messages in order of their numbers: the capsules they carried, and the connection (R295). -/
def deliverMsgs : Nat → Conn → List Capsule × Conn
  | 0, c => ([], c)
  | f + 1, c =>
    match c.msgs.find? fun m => m.number == c.nextMsg && m.complete with
    | some m =>
      let r := deliverMsgs f { c with msgs := c.msgs.filter fun m => m.number != c.nextMsg, nextMsg := c.nextMsg + 1 }
      (m.capsule.toList ++ r.1, r.2)
    | none => ([], c)

/-- A command that takes no range-table entry is accepted: it takes the next arrival sequence (R68). -/
def State.stamped (s : State) : State := s.modCe fun c => { c with arrivalNext := c.arrivalNext + 1 }

/-- A capsule of a connection is accepted (R68): one of a connection without an association, or of an admin queue, takes no range-table
entry. -/
def State.capsuleIn (c : Conn) (cap : Capsule) (s : State) : State :=
  if c.assoc.isNone || qpAdmin c.qpn then s.stamped else s.takeCap cap

/-- Note a packet taken in order: standard mode acknowledges every 16 packets and each message's end; spread mode sets
its bit, and acknowledges the message when its bitmap is full (R295, R296, R299).  The capsule of a SEND is accepted with its packet in
standard mode, and in spread mode once every lower message has completed. -/
def State.noteTaken (c : Conn) (p : Packet) (room gen : Nat) (cap : Option Capsule) (s : State) : State :=
  if !c.spread then
    let s1 := s.modConn c.qpn fun x => { x with psn := (x.psn + 1) % 2 ^ 24, nakSent := false, unacked := x.unacked + 1 }
    let s2 := if lastOp p.opcode ∨ 16 ≤ c.unacked + 1 then s1.sendAck c p.psn else s1
    cap.elim s2 fun q => s2.capsuleIn c q
  else
    let n := ceilDiv p.size 4096
    let old : Msg := (c.msgs.find? fun m => m.number == p.msg).getD
      { number := p.msg, length := p.size, room := room, gen := gen, time := s.gh.now, limit := s.get Obj.tr_spread_timeout }
    let m := { old with bits := old.bits ++ [p.msgOffset / 4096] }
    let full := p.opcode == 0x0C || n ≤ m.bits.length
    let m' := { m with complete := full, capsule := cap }
    let d := deliverMsgs 64 { c with msgs := c.msgs.filter (fun y => y.number != p.msg) ++ [m'] }
    let s1 := s.modConn c.qpn fun x => { x with msgs := d.2.msgs, nextMsg := d.2.nextMsg }
    d.1.foldl (fun t q => t.capsuleIn c q) (if full then s1.sendAck c p.msg else s1)

/-- A duplicate is acknowledged again, and counted in spread mode (R295, R299). -/
def State.noteDup (c : Conn) (p : Packet) (s : State) : State :=
  (if c.spread then s.tick Obj.tr_spread_duplicates else s).sendAck c (if c.spread then p.msg else (c.psn + 2 ^ 24 - 1) % 2 ^ 24)
    |>.packetGone p

/-- The first packet after a gap draws one NAK of code PSN Sequence Error (R299). -/
def State.noteGap (c : Conn) (p : Packet) (s : State) : State :=
  (if c.nakSent then s
   else ((s.emit (.nak c.qpn 0)).sendOwn c).modConn c.qpn fun x => { x with nakSent := true }).packetGone p

/-- A packet beyond the limits of R297 is dropped as R277 drops one. -/
def State.noteOver (p : Packet) (s : State) : State := (s.tick Obj.tr_waiting_room_drops).packetGone p

/-- Run a packet through its order, and on the next one do `take`. -/
def State.inOrder (c : Conn) (p : Packet) (take : State → State) (s : State) : State :=
  match s.orderOf c p with
  | .next => take s
  | .dup => s.noteDup c p
  | .gap => s.noteGap c p
  | .bad => (s.packetGone p).nakEnd c 1
  | .over => s.noteOver p

/-! ### Pulled data (R72, R271) -/

/-- The pull a READ response answers is outstanding: its request has been sent (R72). -/
def State.pullOpen (s : State) (c : Conn) (p : Packet) : Bool :=
  match s.cmd? p.arrival with
  | some d => d.cap.src != .endpoint && d.cap.qpn == c.qpn && (match d.blk? p.lba with
      | some b => b.stage == .pulling &&
          !(s.ce.ready.any fun t => t.job == .pullRequest p.arrival p.lba)
      | none => false)
  | none => false

/-- The full rekey count and the sequence number of a packet that has passed its check (R269, R270, R412). -/
def Conn.espOf (c : Conn) (p : Packet) : Nat × Nat := ((c.rx.countOf p.rekey).getD c.rx.rekey, p.seq)

/-- A standard-mode connection's packets up to a PSN are acknowledged; an older PSN says nothing new (R299). -/
def Conn.ackedTo (psn : Nat) (x : Conn) : Conn :=
  if (psn + 1 + 2 ^ 24 - x.txOldest) % 2 ^ 24 < 2 ^ 23 ∧ psn + 1 ≠ x.txOldest then { x with txOldest := (psn + 1) % 2 ^ 24, tries := 0 } else x

/-- The answer to an RDMA READ request acknowledges it (R298, R299). -/
def State.pullAnswered (c : Conn) (psn : Nat) (s : State) : State :=
  s.modConn c.qpn fun x =>
    if x.spread then { x with txMsgs := x.txMsgs.filter fun m => m.number != psn } else Conn.ackedTo psn x

/-- A READ response is taken: its payload waits for a NET_IN cell of the party's write class (R72).  A response to a
request nobody waits for any more is discarded (R326). -/
def State.takePulled (c : Conn) (p : Packet) (s : State) : State :=
  let s1 := if c.spread then s.noteTaken c p 0 0 none else s
  match (s1.cmd? p.arrival).bind (·.blk? p.lba) with
  | some b =>
    if s1.pullOpen c p then
      ((s1.pullAnswered c b.psn).modBlk p.arrival p.lba fun b => { b with stage := .staged }).push (s.connWrite c) Opc.netIn
        (some (1 + c.port)) none p.arrival (.payloadIn p.arrival p.lba p.data false p.frame (c.espOf p))
    else s1.packetGone p
  | none => s1.packetGone p

/-- A READ response runs its course once its context is in place. -/
def State.runPulled (c : Conn) (p : Packet) (s : State) : State :=
  if c.spread then s.inOrder c p (fun t => t.takePulled c p) else s.takePulled c p

/-- The payload of a pulled block is in its bed, still under transport encryption; its request names the key of the packet's rekey count
(R72, R77, R271, R412). -/
def State.pulledIn (a lba bed frame ready : Nat) (data : Block) (bad : Bool) (esp : Nat × Nat) (s : State) : State :=
  match s.cmd? a with
  | some c =>
    let s1 := (s.fillBed bed data bad true).modBed bed fun b => { b with frame := frame, esp := esp }
    let s2 := (s1.modBlk a lba fun b => { b with stage := .inBed, bed := some bed, t0 := ready, frame := frame }).retag
      (fun r => r.arrival == a && r.lba == lba) c.cap.qpn 1 esp.1
    (s2.push c.classOf Opc.cipher (some (bedUnit bed)) none a (.cipherBlock a lba)).releaseFrame frame
  | none => (s.freeOwned bed).releaseFrame frame

/-! ### Push rooms (R281, R284) -/

/-- Length and rights of a generation of a room: the current one, or an earlier one still in use. -/
def Room.genOf (r : Room) (gen : Nat) : Option (Nat × Bool × Bool) :=
  if gen = r.gen then some (r.length, r.wr, r.rd) else (r.gens.find? fun g => g.1 == gen).map (·.2)

/-- A message may start under a room (R284). -/
def State.mayStart (s : State) (c : Conn) (p : Packet) (kind : Nat) : Option Room :=
  match s.room? p.key with
  | some r =>
    if r.owner == c.qpn && r.kind == kind && r.state == 1 && (if kind = 1 then r.wr else r.rd) &&
        decide (p.address + p.size ≤ r.length) then some r else none
  | none => none

/-- A refused message: Remote Access Error, which ends the connection (R284, R300). -/
def State.refuseMsg (c : Conn) (p : Packet) (s : State) : State :=
  ((s.tick Obj.tr_room_refusals).packetGone p).nakEnd c 2

/-- A push-room packet is accepted: its payload waits for a NET_IN cell of the party's write class (R74, R281). -/
def State.pushTaken (c : Conn) (p : Packet) (r : Room) (offset gen : Nat) (first last : Bool) (s : State) : State :=
  let s1 := s.noteTaken c p p.key gen none
  let s2 := s1.modRoom r.index fun x => { x with
    openMsgs := x.openMsgs + b2n first - b2n last, quiet := false }
  let s3 := s2.modConn c.qpn fun x => { x with
    roomMsg := if x.spread || last then none else some (r.index, gen, offset + p.bytes) }
  s3.push (s.connWrite c) Opc.netIn (some (1 + c.port)) none 0 (.roomIn r.index offset p.data false p.frame (c.espOf p))

/-- Pool 1 has no bed left for another push-room packet, those that wait for a NET_IN cell counted (R281, log entry 126). -/
def State.pushFull (s : State) : Bool :=
  decide (s.po.free 1 ≤ (s.ce.ready.filter fun t => match t.job with | .roomIn .. => true | _ => false).length)

/-- An RDMA WRITE packet runs its course once its context is in place (R281, R284, R286). -/
def State.runPush (c : Conn) (p : Packet) (s : State) : State :=
  s.inOrder c p (fun t =>
    let started : Option Msg := if c.spread then c.msgs.find? fun m => m.number == p.msg else none
    let first := if c.spread then started.isNone else firstOp p.opcode
    if p.address % 4096 ≠ 0 ∨ p.size % 4096 ≠ 0 ∨ p.bytes % 4096 ≠ 0 then (t.packetGone p).nakEnd c 1
    else if t.pushFull then t.noteOver p
    else if first then
      match t.mayStart c p 1 with
      | some r =>
        let last := if c.spread then decide (p.size ≤ 4096) else p.opcode == 0x0A
        t.pushTaken c p r (p.address + (if c.spread then p.msgOffset else 0)) r.gen true last
      | none => t.refuseMsg c p
    else
      let place : Option (Nat × Nat × Nat) := if c.spread then
          started.map fun m => (m.room / 2 ^ 14, m.gen, p.address + p.msgOffset)
        else c.roomMsg
      match place with
      | none => (t.packetGone p).nakEnd c 1
      | some (ix, gen, off) =>
        match t.tr.rooms.find? fun r => r.index == ix with
        | some r =>
          match (if r.state = 1 ∨ r.state = 2 then r.genOf gen else none) with
          | some g =>
            if off + p.bytes ≤ g.1 ∧ g.2.1 = true then
              let last := match started with
                | some m => decide (ceilDiv p.size 4096 ≤ m.bits.length + 1)
                | none => p.opcode == 0x08
              t.pushTaken c p r off gen false last
            else t.refuseMsg c p
          | none => t.refuseMsg c p
        | none => t.refuseMsg c p)

/-- A push-room packet's payload enters its fresh bed, which becomes the room's bed at its offset (R281); a room closed
meanwhile takes nothing. -/
def State.placeRoom (ix offset bed : Nat) (s : State) : State :=
  match s.tr.rooms.find? fun r => r.index == ix && (r.state == 1 || r.state == 2) with
  | some r =>
    let s1 := match r.beds.find? fun b => b.1 == offset with | some b => s.freeOwned b.2 | none => s
    s1.modRoom ix fun x => { x with beds := x.beds.filter (fun b => b.1 != offset) ++ [(offset, bed)] }
  | none => s.freeOwned bed

/-! ### Read rooms (R117, R118, R283) -/

/-- The Read whose pins hold a block of a room. -/
def State.pinsOf (s : State) (room offset : Nat) : List RoomRead :=
  s.ce.roomReads.filter fun r => r.room == room && inSpan offset (r.offset, 4096 * r.blocks)

/-- The pinned entry of a block of a room: its namespace, LBA and stored content (R117). -/
def State.pinned (s : State) (room offset : Nat) : Option PullBlock :=
  (s.pinsOf room offset).findSome? fun r =>
    let lba := r.first + (offset - r.offset) / 4096
    match s.ce.cache.find? fun e => e.nsid == r.nsid && e.lba == lba && e.pins.contains r.arrival with
    | some e => some { nsid := e.nsid, lba := e.lba, data := e.data, zero := e.zero, arrival := r.arrival }
    | none => none

/-- An RDMA READ request runs its course once its context is in place (R117, R267, R283, R284). -/
def State.runRoomRead (c : Conn) (p : Packet) (s : State) : State :=
  s.inOrder c p (fun t =>
    match t.mayStart c p 2 with
    | none => t.refuseMsg c p
    | some r =>
      let first := p.address / 4096
      let last := (p.address + p.size - 1) / 4096
      let blocks := (List.range (last + 1 - first)).map fun i => t.pinned r.index (4096 * (first + i))
      if p.size = 0 ∨ blocks.any (·.isNone) then t.refuseMsg c p
      else if 16 ≤ c.reads then (t.packetGone p).nakEnd c 1
      else
        let id := t.ce.pullNext
        let pull : RoomPull :=
          { id := id, qpn := c.qpn, room := r.index, cls := t.connRead c, blocks := blocks.filterMap fun b => b }
        let t1 := (t.noteTaken c p p.key r.gen none).modConn c.qpn fun x => { x with reads := x.reads + 1 }
        let t2 := t1.modCe fun e => { e with pulls := e.pulls ++ [pull], pullNext := id + 1 }
        let t3 := t2.modRoom r.index fun x => { x with openMsgs := x.openMsgs + 1, quiet := false }
        (List.range blocks.length).foldl (fun u i =>
          u.push (t.connRead c) Opc.cacheRd none none 0 (.pullRead id i)) (t3.packetGone p))

/-! ### Capsules (R68, R264) -/

/-- A SEND runs its course once its context is in place: more than 64 bytes end the connection (R264); a capsule that parses
is accepted (R68). -/
def State.runCapsule (c : Conn) (p : Packet) (s : State) : State :=
  if 64 < p.bytes then (s.packetGone p).nakEnd c 1
  else s.inOrder c p (fun t =>
    let cap : Capsule := { p.cap with
      qpn := c.qpn, src := match c.assoc with | some i => CmdSrc.assoc i | none => p.cap.src }
    (t.packetGone p).noteTaken c p 0 0 (some cap))

/-! ### Acknowledgements, retransmission and congestion notices (R289, R296, R299, R302) -/

/-- Resend from a PSN, or give up after tr_retry_count times for one PSN (R299). -/
def State.retry (c : Conn) (psn : Nat) (s : State) : State :=
  let tries := if psn = c.txOldest then c.tries else 0
  if s.get Obj.tr_retry_count ≤ tries then s.endConn c.qpn 3
  else (s.emit (.resend c.qpn psn [])).modConn c.qpn fun x => { x with tries := tries + 1, txOldest := psn }

/-- A transfer a work queue's head entry waits for is acknowledged: it completes with OK, unless its source is provisional, so that it has
not been issued (R289, R291). -/
def State.workAcked (q : Nat) (s : State) : State :=
  match s.tr.queues.find? fun x => x.id == q with
  | some w => match w.entries with
    | .transfer nsid lba _ :: _ =>
      if w.stopped || s.ce.cache.any (fun e => e.nsid == nsid && e.lba == lba && !e.confirmed && !e.cancelled) then s
      else
        let s1 := (s.workNext q).emit (.workDone q Oc.ok)
        s1.serveWaits s1.workLeft
    | _ => s
  | none => s

/-- An Acknowledge runs its course: a NAK of code PSN Sequence Error resends, another one ends the connection (R296, R299, R300). -/
def State.runAck (c : Conn) (p : Packet) (s : State) : State :=
  match p.nak with
  | some 0 => s.retry c p.number
  | some k => s.endConn c.qpn (if k = 1 then 1 else 2)
  | none =>
    let s1 := s.modConn c.qpn fun x =>
      if x.spread then { x with txMsgs := x.txMsgs.filter fun m => m.number != p.number } else Conn.ackedTo p.number x
    match p.work with
    | some q => s1.workAcked q
    | none => s1

/-- A SACK runs its course: every packet it shows missing, sent at least tr_spread_rto earlier, goes again (R296). -/
def State.runSack (c : Conn) (p : Packet) (s : State) : State :=
  match c.txMsgs.find? fun m => m.number == p.msg with
  | some m =>
    let miss := (List.range (ceilDiv m.bytes 4096)).filter fun i => !p.got.contains i
    if miss.isEmpty ∨ s.gh.now - m.last < s.get Obj.tr_spread_rto then s
    else
      let again (y : SentMsg) : SentMsg := { y with last := s.gh.now }
      (s.emit (.resend c.qpn p.msg (miss.map (· * 4096)))).modConn c.qpn fun x =>
        { x with txMsgs := modFirst (fun y => y.number == p.msg) again x.txMsgs }
  | none => s

/-! ### Commands of arriving packets -/

/-- A packet whose context is in place. -/
def State.runPacket (p : Packet) (s : State) : State :=
  match s.conn? p.qpn with
  | none => s.packetGone p
  | some c =>
    let t := s.useCtx c.qpn
    if p.opcode = 0x04 then t.runCapsule c p
    else if p.opcode = 0x11 then (if p.isSack then t.runSack c p else t.runAck c p)
    else if p.opcode = 0x81 then t.modConn c.qpn fun x => { x with cnp := true }
    else if p.opcode = 0x0C then t.runRoomRead c p
    else if 0x0D ≤ p.opcode ∧ p.opcode ≤ 0x10 then t.runPulled c p
    else t.runPush c p

/-- A packet of given opcodes arrives: it waits for its context or runs at once (R276). -/
def State.packetIn (p : Packet) (ops : List Nat) (s : State) : State :=
  if !ops.contains p.opcode && opcodeOk p.opcode then s
  else
    match s.arrive p with
    | (.accepted c, t) => if t.mustWait c then t.waitPacket c p else t.runPacket p
    | (.badIcv c, t) =>
      if 0x0D ≤ p.opcode ∧ p.opcode ≤ 0x10 ∧ t.pullOpen c p = true then t.poisonBlock p.arrival p.lba else t
    | (.dropped, t) => t

/-- RDMA_READ_RESPONSE (R271, R77). -/
def execRdmaReadResponse (p : Packet) (s : State) : Host.Outcome State Fault Refusal :=
  .next (s.packetIn p [0x0D, 0x0E, 0x0F, 0x10])

/-- CAPSULE_ACCEPT (R68, R264, R268 to R272, R276): a SEND arrives with a capsule. -/
def execCapsuleAccept (p : Packet) (s : State) : Host.Outcome State Fault Refusal := .next (s.packetIn p [0x04])

/-- RDMA_WRITE_PUSH (R281). -/
def execRdmaWritePush (p : Packet) (s : State) : Host.Outcome State Fault Refusal :=
  .next (s.packetIn p [0x06, 0x07, 0x08, 0x0A])

/-- ROOM_RDMA_READ (R117, R283). -/
def execRoomRdmaRead (p : Packet) (s : State) : Host.Outcome State Fault Refusal := .next (s.packetIn p [0x0C])

/-- The payload of a waiting packet is in its bed (R276). -/
def State.waitFilled (tag bed : Nat) (s : State) : State :=
  match s.tr.waiting.find? fun w => w.tag == tag with
  | some w =>
    let s1 := (s.fillBed bed w.packet.data false true).modBed bed fun b => { b with frame := w.packet.frame }
    s1.modTr fun t => { t with waiting := modFirst (fun x => x.tag == tag) (fun x => { x with bed := some bed }) t.waiting }
  | none => s.freeOwned bed

/-- A waiting packet is processed (R276): where its payload has entered a bed, that bed is the block's or the room's, and no NET_IN cell
is needed any more. -/
def State.runWaiting (w : Waiting) (s : State) : State :=
  let s1 := (s.dropJobs fun j => j == .waitIn w.tag).runPacket w.packet
  match w.bed with
  | none => s1
  | some h =>
    let moved : Option Transfer := s1.ce.ready.getLast?.filter fun t => match t.job with
      | .payloadIn a l _ _ _ _ => a == w.packet.arrival && l == w.packet.lba && !s.ce.ready.contains t
      | .roomIn _ _ _ _ _ e => e.2 == w.packet.seq && !s.ce.ready.contains t
      | _ => false
    let s2 := s1.modCe fun c => { c with ready := if moved.isSome then c.ready.dropLast else c.ready }
    let job : Option Job := moved.map (·.job)
    match job with
    | some (.payloadIn a l d bad f e) => s2.pulledIn a l h f s.slotNow d (bad || (s.bed h).poison) e
    | some (.roomIn ix off d bad f e) =>
      ((s2.fillBed h d bad true).modBed h fun b => { b with frame := f, esp := e }).placeRoom ix off h
    | _ => s1.freeOwned h

/-- CONTEXT_FETCH_DONE (R275, R276): the context is on chip; its waiting packets run in arrival order.  In Holdup they are dropped (R573). -/
def execContextFetchDone (qpn : Nat) (s : State) : Host.Outcome State Fault Refusal :=
  .next (match s.conn? qpn with
  | some c =>
    if c.fetching && !s.tr.fetches.contains qpn then
      let s1 := (s.modConn qpn fun x => { x with fetching := false, cached := true }).tick Obj.tr_context_fetches
      let s2 := if 1500 < (s.slotNow - c.fetchAt) * 80 then s1.tick Obj.tr_fetch_bound_excess else s1
      let ws := s2.tr.waiting.filter fun w => w.qpn == qpn
      let s3 := s2.modTr fun t => { t with waiting := t.waiting.filter fun w => w.qpn != qpn }
      if s.transportOn then ws.foldl (fun t w => t.runWaiting w) s3
      else ws.foldl (fun t w => (w.bed.elim t fun h => t.freeOwned h).packetGone w.packet) s3
    else s
  | none => s)

/-- A CONTEXT cell moved a fetch (R275): what is left is its completion. -/
def State.fetchMoved (qpn : Nat) (s : State) : State :=
  s.modTr fun t => { t with fetches := dropFirst (· == qpn) t.fetches }

/-- A CONTEXT cell moved a spill (R275, R278): a packet that waits has its context fetched back. -/
def State.spillMoved (qpn : Nat) (s : State) : State :=
  let s1 := (s.modConn qpn fun c => { c with cached := false, spilling := false }).tick Obj.tr_context_spills
  match s1.conn? qpn with
  | some c => if s1.tr.waiting.any (fun w => w.qpn == qpn) then s1.fetchCtx c else s1
  | none => s1

/-! ### Connection management (R263, R265 to R267, R270) -/

/-- The gen of the highest claim the controller holds, 0 when it holds none (R229, R270). -/
def State.claimGen (s : State) : Nat :=
  maxN 0 (s.si.wings.map fun w => if w.state = .holder then w.claim / 2 ^ 16 else 0)

/-- A free context index of a kind: which of the free ones is open, the first from a free value on (log entry 21). -/
def State.freeIndex (s : State) (admin : Bool) : Option Nat :=
  let total := if admin then 2048 else 65536
  let used := (s.tr.conns.filter fun c => qpAdmin c.qpn == admin).map fun c => c.qpn % 65536
  let start := s.freeVal 16 % total
  ((List.range (used.length + 1)).map fun i => (start + i) % total).find? fun i => !used.contains i

/-- The private data of a connection reply (R266): CRQSIZE answers HSQSIZE (log entry 125). -/
def cmReplyPriv (crq : Nat) (spread : Bool) (claimGen : Nat) : List Byte :=
  leBytes 2 0 ++ leBytes 2 crq ++ leBytes 1 (b2n spread) ++ leBytes 1 0 ++ beBytes 6 claimGen ++ List.replicate 20 0#8

/-- CM_REQ (R263, R265 to R267, R270, R292): a connection request with its private data of 32 bytes; another format is rejected (log
entry 125). -/
def execCmReq (priv : List Byte) (hostQpn link resources depth mtu : Nat) (s : State) : Host.Outcome State Fault Refusal :=
  .next (if !s.transportOn then s
  else
    let qid := field priv 2 2
    let admin := qid == 0
    let full := decide ((if admin then 2048 else 65536) ≤ (s.tr.conns.filter fun c => qpAdmin c.qpn == admin).length)
    match (if mtu < 4096 ∨ field priv 0 2 ≠ 0 ∨ full = true then none else s.freeIndex admin) with
    | none => (s.tick Obj.tr_connect_rejects).emit (.cmReply false 0 0 0 [])
    | some ix =>
      let key := ix + (if admin then 65536 else 0)
      let last := lookup s.tr.reuse key 0
      let reuse := if last = 127 then 1 else last + 1
      let qpn := (if admin then 2 ^ 23 else 0) + reuse * 2 ^ 16 + ix
      let sp := bit (field priv 26 1) 0 && s.get Obj.tr_spread_enable == 1
      let rate := (s.link link).rate / 8
      let c : Conn :=
        { qpn := qpn, hostid := field priv 10 16, hostQpn := hostQpn, qid := qid, port := link / 8, link := link, spread := sp,
          claimGen := s.claimGen, depth := Nat.min resources 16, rate := rate, goal := rate, gap := s.get Obj.tr_cc_cut_gap }
      let s1 := s.drawn.modTr fun t => { t with conns := t.conns ++ [c], reuse := assign t.reuse key reuse }
      let s2 := (if admin then s1 else s1.spillFor qpn).useCtx qpn
      let s3 := [1, 2].foldl (fun t dir => t.wantKey { mode := 2, slot := 0, gen := 0, dir := dir, qpn := qpn }) s2
      s3.emit (.cmReply true qpn (Nat.min resources 16) (Nat.min depth 16) (cmReplyPriv (field priv 6 2) sp c.claimGen)))

/-! ### Chained queues (R289, R290) -/

/-- A drive command completes: OK raises its queue's count, another outcome ends the waits on it (R289, R290). -/
def State.driveCounted (bay queue outcome : Nat) (s : State) : State :=
  if outcome = Oc.ok then
    let s1 := s.modDrive bay fun d => { d with counts := assign d.counts queue ((lookup d.counts queue 0 + 1) % 2 ^ 32) }
    s1.serveWaits s1.workLeft
  else
    (s.tr.queues.filter fun q => match q.entries with
      | .waitDrive b n _ :: _ => b == bay && n == queue && !q.stopped
      | _ => false).foldl (fun t q => t.waitEnds q.id outcome) s

/-- WAIT_ENTRY_TIMEOUT (R290): tr_chain_wait_timeout passes with a wait entry at the head of a queue. -/
def execWaitEntryTimeout (queue : Nat) (s : State) : Host.Outcome State Fault Refusal :=
  .next (match s.tr.queues.find? fun q => q.id == queue && !q.stopped with
  | some q => match q.entries with
    | .waitQueue _ _ :: _ => s.waitEnds queue Oc.timeout
    | .waitDrive _ _ _ :: _ => s.waitEnds queue Oc.timeout
    | _ => s
  | none => s)

/-! ### Acknowledgements, retransmission, congestion (R289, R296, R298, R299, R301, R302) -/

/-- ACKNOWLEDGE (R289, R296, R299, R300): an acknowledgement of a PSN or message; with a NAK code where it is a NAK; a
work queue where the transfer it acknowledges is that queue's head entry. -/
def execAcknowledge (p : Packet) (s : State) : Host.Outcome State Fault Refusal :=
  .next (if p.isSack then s else s.packetIn p [0x11])

/-- SACK (R296): an Acknowledge that carries a bitmap. -/
def execSack (p : Packet) (s : State) : Host.Outcome State Fault Refusal :=
  .next (if p.isSack then s.packetIn p [0x11] else s)

/-- ACK_TIMEOUT (R299): tr_ack_timeout passes with packets not acknowledged. -/
def execAckTimeout (qpn : Nat) (s : State) : Host.Outcome State Fault Refusal :=
  .next (match s.conn? qpn with
  | some c => if s.transportOn ∧ c.spread = false ∧ c.txOldest ≠ c.txPsn then s.retry c c.txOldest else s
  | none => s)

/-- The oldest incomplete message of a connection. -/
def Conn.oldest (c : Conn) : Option Msg :=
  (c.msgs.filter fun m => !m.complete).foldl (fun m x => match m with
    | some y => if x.number < y.number then some x else m
    | none => some x) none

/-- SACK_INTERVAL (R296): while a message is incomplete, the oldest one's bitmap is sent. -/
def execSackInterval (qpn : Nat) (s : State) : Host.Outcome State Fault Refusal :=
  .next (match s.conn? qpn with
  | some c => match c.oldest with
    | some m => if c.spread && s.transportOn then (s.emit (.sack qpn m.number m.bits)).sendControl c else s
    | none => s
  | none => s)

/-- SPREAD_TIMEOUT (R298): a message received in part, or sent and not acknowledged, has waited tr_spread_timeout. -/
def execSpreadTimeout (qpn msg : Nat) (s : State) : Host.Outcome State Fault Refusal :=
  .next (match s.conn? qpn with
  | some c =>
    let inc := c.msgs.find? fun m => m.number == msg && !m.complete && decide (m.limit ≤ s.gh.now - m.time)
    let out := c.txMsgs.any fun m => m.number == msg && decide (m.limit ≤ s.gh.now - m.start)
    if s.transportOn && (inc.isSome || out) then
      (((s.tick Obj.tr_spread_timeouts).record 4 0x4005 [(4, qpn), (4, msg), (4, match inc with | some m => m.bits.length | none => 0)])).endConn
        qpn 4
    else s
  | none => s)

/-- CNP (R302): it counts in the update at the next leg boundary. -/
def execCnp (p : Packet) (s : State) : Host.Outcome State Fault Refusal := .next (s.packetIn p [0x81])

/-- The update of a connection at a leg boundary (R302): the connection, and whether its rate was cut. -/
def Conn.congest (line cut hold step least : Nat) (c : Conn) : Conn × Bool :=
  if c.cnp then
    let a := c.estimate + (1024 - c.estimate) / 4
    if cut ≤ c.gap then
      ({ c with estimate := a, goal := c.rate, rate := Nat.max least (c.rate - c.rate * a / 2048), gap := 1, cnp := false,
                sent := 0 }, true)
    else ({ c with estimate := a, gap := c.gap + 1, cnp := false, sent := 0 }, false)
  else
    let a := c.estimate - c.estimate / 32
    let d := { c with estimate := a, gap := c.gap + 1, sent := 0 }
    if hold ≤ c.gap then
      if c.rate < c.goal then ({ d with rate := c.rate + Nat.max 1 ((c.goal - c.rate) / 4) }, false)
      else let g := Nat.min line (c.goal + step); ({ d with goal := g, rate := g }, false)
    else (d, false)

/-- CONGESTION_UPDATE of every connection, and the acknowledgement due at a leg boundary (R299, R302). -/
def State.connLeg (s : State) : State :=
  s.tr.conns.foldl (fun t c =>
    let line := (t.link c.link).rate / 8
    let r := c.congest line (t.get Obj.tr_cc_cut_gap) (t.get Obj.tr_cc_hold) (t.get Obj.tr_cc_step) (t.get Obj.tr_cc_rate_min)
    let t1 := (t.modConn c.qpn fun _ => r.1).count Obj.tr_cc_cuts 0 (b2n r.2)
    if 0 < c.unacked ∧ t1.transportOn then t1.sendAck c ((c.psn + 2 ^ 24 - 1) % 2 ^ 24) else t1) s

/-! ### Rekeying (R273) -/

/-- A write to tr_rekey (R273). -/
def State.rekeyWrite (cls qpn : Nat) (s : State) : State :=
  s.action cls Obj.tr_rekey Obj.tr_rekey_result fun t =>
    match t.conn? qpn with
    | some _ => (t.rekeyOut qpn).endRun Obj.tr_rekey_result (outcomeVal Oc.ok)
    | none => t.endRun Obj.tr_rekey_result (outcomeVal Oc.denied)

/-- TR_REKEY (R273). -/
def execTrRekey (cls qpn : Nat) (s : State) : Host.Outcome State Fault Refusal := .next (s.rekeyWrite cls qpn)

/-- REKEY_OVERLAP_END (R273): the earlier count is retired. -/
def execRekeyOverlapEnd (qpn : Nat) (s : State) : Host.Outcome State Fault Refusal :=
  .next (s.modConn qpn fun c => { c with rx := { c.rx with old := none, oldSeq := 0, oldSeen := [] } })

/-! ### Rooms at a leg boundary (R285, R286) -/

/-- A Room Modify takes effect (R285). -/
def State.modifyEffect (r : Room) (s : State) : State :=
  match r.modify with
  | none => s
  | some (len, wr, rd) =>
    let s0 := if r.kind = 2 then s.unpinRoom r.index else s
    let gone := if r.kind = 1 then r.beds.filter fun b => decide (len ≤ b.1) else []
    let s1 := gone.foldl (fun t b => t.freeOwned b.2) s0
    let s2 := s1.modRoom r.index fun x => { x with
      gens := if x.openMsgs = 0 then [] else x.gens ++ [(x.gen, x.length, x.wr, x.rd)],
      gen := (x.gen + 1) % 65536, length := len, wr := wr, rd := rd, modify := none, modifiers := [],
      beds := if r.kind = 1 then x.beds.filter fun b => decide (b.1 < len) else x.beds }
    r.modifiers.foldl (fun t a => t.finish a .success) s2

/-- A closing room at a leg boundary: closed once a whole leg had no open message, or cut by its timeout (R286). -/
def State.closingLeg (r : Room) (s : State) : State :=
  if r.state ≠ 2 then s
  else if r.cut then
    let s1 := (s.tick Obj.tr_room_close_timeouts).record 4 0x4004 [(4, r.key), (4, r.openMsgs)]
    s1.roomClosed r
  else if r.openMsgs = 0 ∧ r.quiet then s.roomClosed r
  else s.modRoom r.index fun x => { x with quiet := x.openMsgs == 0 }

/-- Every room at a leg boundary. -/
def State.roomsLeg (s : State) : State :=
  s.tr.rooms.foldl (fun t r => (t.modifyEffect r).closingLeg r) s

end Sys2Proof.Machine
end

