-- ==== Sys2Proof/Machine/Shelf.lean ====
section
/-! DEFINITION. Shelf descriptors, host reservations, and the creation and deletion of namespaces (R142, R149, R155, R197,
R305, R331 to R338, R410, R418). -/

namespace Sys2Proof.Machine

/-! ### Descriptor generations (R197) -/

/-- The controller holds the lantern of a wing. -/
def State.holdsWing (s : State) (w : Nat) : Bool := (s.wing w).state == .holder

/-- Wings held. -/
def State.heldWings (s : State) : List Nat := [1, 2].filter s.holdsWing

/-- Bays whose drive is present for a wing: in use and not lost (R197). -/
def State.presentBays (s : State) (w : Nat) : List Nat :=
  (List.range 24).filter fun b => s.bayInUse b && !(s.place w).lostBay b

/-- What the shelf descriptor of a wing records in a generation (R197). -/
def State.descNow (s : State) (g w : Nat) : Descriptor :=
  let mine := s.ce.namespaces.filter fun n => n.wing == w
  { wing := w, generation := g, config := s.lg.descConfig, memberSize := s.get Obj.pe_member_size w,
    namespaces := mine.map fun n => { n with partyMask := s.get (Obj.ce_ns_party_mask + (n.nsid - 1)) 1 },
    placement := s.place w, lostPages := s.ce.lostPages.filter fun p => mine.any fun n => n.nsid == p.nsid,
    wrapState := s.lg.wrapState, wrapped := s.lg.wrapped, written := s.gh.now }

/-- The member LBA of a copy of the descriptor: A and B alternate (R196, R197). -/
def descLba (g : Nat) : Nat := if g % 2 = 1 then 0 else 65536

/-- The descriptor of a wing in the generation being written. -/
def State.descOf (s : State) (w : Nat) : Descriptor := (s.lg.descOut.find? fun d => d.wing == w).getD { wing := w }

/-- Write a generation of one wing to one drive: one command, one DRIVE_OUT cell per 4 KiB (R197). -/
def State.descWrite (g w bay : Nat) (s : State) : State :=
  let cid := s.drives.nextCid
  let n := ceilDiv (s.descOf w).length 4096
  (s.issueDrive { bay := bay, queue := 10, op := .write, nsid := w, lba := descLba g, blocks := n, use := .descriptor g,
                  toMove := n }).push Bc.ledger Opc.driveOut none (some (rootUnit bay)) 0 (.driveOut bay 10 cid)

/-- Write generation `g` of some wings' descriptors to every present drive (R197). -/
def State.descPut (g : Nat) (wings : List Nat) (s : State) : State :=
  let todo := wings.flatMap fun w => (s.presentBays w).map fun b => (w, b)
  let s1 := s.modLg fun l => { l with
    descWriting := some (g, todo.map (·.2)), descAgain := false, descOut := wings.map (s.descNow g) }
  todo.foldl (fun t x => t.descWrite g x.1 x.2) s1

/-- Start the next generation on every present drive, for each wing held (R197); the first one of a blank shelf draws the
shelf UUID (R305). -/
def State.descStart (s : State) : State :=
  let s0 := if s.lg.descBlank && (s.blob Obj.ce_shelf_uuid 0).isEmpty then
      (s.putBlob Obj.ce_shelf_uuid 0 (leBytes 16 (s.freeVal 128))).drawn else s
  s0.descPut (s.lg.descGen + 1) s.heldWings

/-- A change of the descriptor's content: the next generation carries it, after the one being written (R197). -/
def State.descRequest (s : State) : State :=
  match s.lg.descWriting with
  | some _ => s.modLg fun l => { l with descAgain := true }
  | none => s.descStart

/-- The generation that carries a change made now. -/
def State.descAwait (s : State) : Nat := if s.lg.descWriting.isSome then s.lg.descGen + 2 else s.lg.descGen + 1

/-- A drive's write of the generation is complete, or its bay is no longer present. -/
def State.descDone (bay : Nat) (s : State) : State :=
  s.modLg fun l => match l.descWriting with
    | some (g, p) => { l with descWriting := some (g, dropFirst (· == bay) p) }
    | none => l

/-- A bay stops being present: no generation waits for it (R197). -/
def State.descGone (bay : Nat) (s : State) : State :=
  s.modLg fun l => match l.descWriting with
    | some (g, p) => { l with descWriting := some (g, p.filter (· != bay)) }
    | none => l

/-! ### Reservation notices (R318, R334) -/

/-- Mask bit of FID 0x82 for a notification type: 1 registration preempted, 2 reservation released, 3 reservation preempted
(log entry 24). -/
def State.resNotify (nsid : Nat) (s : State) (x : Nat × Nat) : State :=
  (s.ce.assocs.filter fun a => a.hostid == x.1).foldl (fun t a =>
    if bit (lookup a.resMask nsid 0) x.2 then t
    else (t.modAssoc a.index fun b => { b with resLog := b.resLog ++ [(x.2, nsid)], resLogCount := b.resLogCount + 1 }).raiseOn
      a.index 6 0 0x80) s

/-! ### What a reservation command does (R332, R333; log entry 24) -/

/-- The outcome of a reservation command. -/
inductive ResAnswer where
  | bad (st : Status)
  | same
  | change (n : Namespace) (notes : List (Nat × Nat)) (preempted : List Nat)
  deriving DecidableEq, Repr

end Sys2Proof.Machine

namespace Sys2Proof

open Machine in
/-- The reservation is released. -/
def Namespace.noRes (n : Namespace) : Namespace :=
  { n with rtype := 0, registrants := n.registrants.map fun r => { r with holder := false } }

open Machine in
/-- A host becomes the holder. -/
def Namespace.hold (n : Namespace) (host rtype : Nat) : Namespace :=
  { n with rtype := rtype, registrants := n.registrants.map fun r => { r with holder := r.hostid == host } }

open Machine in
/-- Registrants that meet `p` leave. -/
def Namespace.unregister (n : Namespace) (p : Registrant → Bool) : Namespace :=
  { n with registrants := n.registrants.filter fun r => !p r }

open Machine in
/-- The reservation generation advances (R338). -/
def Namespace.bump (n : Namespace) : Namespace := { n with resGen := (n.resGen + 1) % 2 ^ 32 }

open Machine in
/-- One notification to every registrant but one host. -/
def Namespace.tell (n : Namespace) (host type : Nat) : List (Nat × Nat) :=
  (n.registrants.filter fun r => r.hostid != host).map fun r => (r.hostid, type)

open Machine in
/-- The key of a registrant. -/
def Namespace.keyOf (n : Namespace) (host : Nat) : Option Nat :=
  (n.registrants.find? fun r => r.hostid == host).map (·.rkey)

open Machine in
/-- The host is a registrant and its key is right, or is not asked for (IEKEY). -/
def Namespace.keyOk (n : Namespace) (host key : Nat) (iekey : Bool) : Bool :=
  match n.keyOf host with | some k => iekey || k == key | none => false

open Machine in
/-- A registrant unregisters: what it held is released (R332). -/
def Namespace.leave (n : Namespace) (host : Nat) : ResAnswer :=
  let held := n.registrants.any fun r => r.hostid == host && r.holder
  let m : Namespace := n.unregister fun r => r.hostid == host
  let gone := (held && n.rtype != 5 && n.rtype != 6) || (m.registrants.isEmpty && n.rtype != 0)
  if gone then .change m.noRes.bump (if n.rtype = 3 ∨ n.rtype = 4 then m.tell host 2 else []) []
  else .change m.bump [] []

end Sys2Proof

namespace Sys2Proof.Machine

/-- Reservation Register: RREGA, IEKEY, CPTPL, CRKEY, NRKEY. -/
def resRegister (n : Namespace) (host rrega : Nat) (iekey : Bool) (cptpl crkey nrkey : Nat) : ResAnswer :=
  if cptpl = 1 then .bad .invalidField
  else if rrega = 0 then
    match n.keyOf host with
    | some k => if k = nrkey then .same else .bad .reservationConflict
    | none =>
      if 124 ≤ n.registrants.length then .bad .capacityExceeded
      else
        let m : Namespace := { n with registrants := n.registrants ++ [{ hostid := host, rkey := nrkey }] }
        .change m.bump [] []
  else if rrega = 1 then
    if n.keyOk host crkey iekey then n.leave host else .bad .reservationConflict
  else if rrega = 2 then
    if n.keyOk host crkey iekey then
      let f (r : Registrant) : Registrant := if r.hostid = host then { r with rkey := nrkey } else r
      let m : Namespace := { n with registrants := n.registrants.map f }
      .change m.bump [] []
    else .bad .reservationConflict
  else .bad .invalidField

/-- A preempt of the registrants of a key (RACQA 001b and 010b). -/
def resPreempt (n : Namespace) (host rtype prkey : Nat) : ResAnswer :=
  let other (r : Registrant) : Bool := r.hostid != host
  let out (p : Registrant → Bool) (take : Bool) : ResAnswer :=
    let gone := n.registrants.filter fun r => other r && p r
    let m := n.unregister fun r => other r && p r
    let m' := if take then m.noRes.hold host rtype else m
    let rel := if take && decide (3 ≤ n.rtype) && n.rtype != rtype then m.tell host 2 else []
    .change m'.bump ((gone.map fun r => (r.hostid, 1)) ++ rel) (gone.map (·.hostid))
  let keyed := n.registrants.any fun r => r.rkey == prkey
  if n.rtype = 5 ∨ n.rtype = 6 then
    if prkey = 0 then out (fun _ => true) true
    else if keyed then out (fun r => r.rkey == prkey) false else .bad .reservationConflict
  else if n.rtype = 0 then
    if keyed then out (fun r => r.rkey == prkey) false else .bad .reservationConflict
  else if n.registrants.any fun r => r.holder && r.rkey == prkey then out (fun r => r.rkey == prkey) true
  else if prkey = 0 then .bad .invalidField
  else if keyed then out (fun r => r.rkey == prkey) false else .bad .reservationConflict

/-- Reservation Acquire: RACQA, IEKEY, RTYPE, CRKEY, PRKEY. -/
def resAcquire (n : Namespace) (host racqa : Nat) (iekey : Bool) (rtype crkey prkey : Nat) : ResAnswer :=
  if 3 ≤ racqa ∨ rtype = 0 ∨ 6 < rtype then .bad .invalidField
  else if !n.keyOk host crkey iekey then .bad .reservationConflict
  else if racqa = 0 then
    if n.rtype = 0 then .change (n.hold host rtype) [] []
    else if n.rtype = rtype ∧ n.holds host = true then .same
    else .bad .reservationConflict
  else resPreempt n host rtype prkey

/-- Reservation Release: RRELA, IEKEY, RTYPE, CRKEY. -/
def resRelease (n : Namespace) (host rrela : Nat) (iekey : Bool) (rtype crkey : Nat) : ResAnswer :=
  if 2 ≤ rrela then .bad .invalidField
  else if !n.keyOk host crkey iekey then .bad .reservationConflict
  else if rrela = 0 then
    if n.rtype = 0 ∨ n.holds host = false then .same
    else if n.rtype ≠ rtype then .bad .invalidField
    else .change n.noRes (if 3 ≤ n.rtype then n.tell host 2 else []) []
  else .change (n.noRes.unregister fun _ => true).bump (n.tell host 3) []

/-- The reservation status a Report returns (R332; log entry 24): generation, type, registrants, and for each its controller
(0xFFFF, dynamic), status, key and Host Identifier. -/
def resReport (n : Namespace) : List Byte :=
  leBytes 4 n.resGen ++ leBytes 1 n.rtype ++ leBytes 2 n.registrants.length ++ leBytes 2 0 ++ leBytes 1 1 ++
  List.replicate 54 0#8 ++
  n.registrants.flatMap fun r =>
    leBytes 2 0xFFFF ++ leBytes 1 (b2n (n.holds r.hostid)) ++ List.replicate 5 0#8 ++ leBytes 8 r.rkey ++
    leBytes 16 r.hostid ++ List.replicate 32 0#8

/-! ### The course of a reservation command (R331, R333) -/

/-- A reservation command, Report included. -/
def isRes (op : CmdOp) : Bool := op == .resRegister || op == .resAcquire || op == .resRelease || op == .resReport

/-- A command has a sealed waybill or intent (R93, R325). -/
def Cmd.sealed (c : Cmd) : Bool := c.parts.any fun p => !p.seals.isEmpty || p.intent.isSome

/-- Commands of the hosts a preempt and abort names end, or go on where something of them is sealed (R333). -/
def State.resAbort (nsid : Nat) (hosts : List Nat) (s : State) : List Nat × State :=
  let vs := s.ce.cmds.filter fun c => c.cap.nsid == nsid && !isRes c.cap.op && hosts.contains (s.hostOf c.assoc)
  (vs.map (·.arrival), vs.foldl (fun t c => if c.sealed then t else t.failCmd c.arrival .abortedPreempt) s)

/-- Words of a reservation command: action, IEKEY, and the third field. -/
def Capsule.word (c : Capsule) (i : Nat) : Nat := c.cdw.getD i 0

/-- What a reservation command answers on the state in force. -/
def State.resAnswer (s : State) (c : Cmd) (n : Namespace) : ResAnswer :=
  let host := s.hostOf c.assoc
  let w (i : Nat) : Nat := c.cap.cdw.getD i 0
  let k (i : Nat) : Nat := c.cap.keys.getD i 0
  match c.cap.op with
  | .resRegister => resRegister n host (w 0) (w 1 == 1) (w 2) (k 0) (k 1)
  | .resAcquire => resAcquire n host (w 0) (w 1 == 1) (w 2) (k 0) (k 1)
  | .resRelease => resRelease n host (w 0) (w 1 == 1) (w 2) (k 0)
  | _ => .same

/-- Execute one reservation command on the state in force (R331 to R333). -/
def State.resRun (c : Cmd) (s : State) : State :=
  let n := s.ns c.cap.nsid
  match s.resAnswer c n with
  | .bad st => s.finish c.arrival st
  | .same =>
    if c.cap.op = .resReport then
      (s.modCmd c.arrival fun q => { q with answer := resReport n }).finish c.arrival .success
    else s.finish c.arrival .success
  | .change m notes hosts =>
    let r := if c.cap.op = .resAcquire ∧ c.cap.cdw.getD 0 0 = 2 then s.resAbort n.nsid hosts else ([], s)
    let s1 := r.2.modNs n.nsid fun _ => m
    (s1.modCe fun x => { x with resCmds := x.resCmds ++
      [{ nsid := n.nsid, generation := s1.descAwait, victims := r.1, before := n, arrival := c.arrival, notes := notes }] }).descRequest

/-- The next reservation command of a namespace, where none waits for its commit: one at a time, in arrival order (R331). -/
def State.resPump (nsid : Nat) : Nat → State → State
  | 0, s => s
  | f + 1, s =>
    if s.ce.resCmds.any fun r => r.nsid == nsid then s
    else
      match s.ce.cmds.find? fun c => c.cap.nsid == nsid && isRes c.cap.op && c.status.isNone with
      | some c => if c.checked then State.resPump nsid f (s.resRun c) else s
      | none => s

/-- Serve the reservation commands of a namespace. -/
def State.resServe (nsid : Nat) (s : State) : State := s.resPump nsid (s.ce.cmds.length + 1)

/-- A committed reservation command tells those it concerns, and completes once the commands it ended have completed (R331,
R333, R334). -/
def State.resCommitted (r : ResCmd) (s : State) : State :=
  if s.lg.descGen < r.generation then s
  else
    let s1 := (r.notes.foldl (fun t x => t.resNotify r.nsid x) s).modCe fun x => { x with
      resCmds := x.resCmds.map fun q => if q.arrival = r.arrival then { q with notes := [] } else q }
    if r.victims.any fun v => (s1.cmd? v).isSome then s1
    else ((s1.modCe fun x => { x with resCmds := x.resCmds.filter fun q => q.arrival != r.arrival }).finish r.arrival
      .success).resServe r.nsid

/-- Every reservation command whose generation is committed. -/
def State.resPass (s : State) : State := s.ce.resCmds.foldl (fun t r => t.resCommitted r) s

/-! ### Namespaces (R142, R155, R335 to R337) -/

/-- A namespace appears, goes or changes: notice 0x00 on every association, and its Changed Namespace List (R316, R318). -/
def State.nsChanged (nsid : Nat) (s : State) : State :=
  (s.modCe fun c => { c with
    assocs := c.assocs.map fun a => { a with changedNs := addNew a.changedNs nsid },
    endpointAssoc := { c.endpointAssoc with changedNs := addNew c.endpointAssoc.changedNs nsid } }).raiseAll 2 0 4

/-- Record 0x6020 of a namespace. -/
def State.nsRecord (n : Namespace) (s : State) : State :=
  s.record 4 0x6020 [(2, n.nsid), (1, n.wing), (2, n.layout.toNat), (4, n.rows)]

/-- The extents of a wing, base and member blocks. -/
def State.extents (s : State) (w : Nat) : List (Nat × Nat) :=
  (s.ce.namespaces.filter fun n => n.wing == w).map fun n => (n.base, extentBlocks n.layout n.rows)

/-- The lowest base at or above LBA 1,048,576, a multiple of 64, where an extent fits (R142). -/
def fitExtent (size limit : Nat) (l : List (Nat × Nat)) : Option Nat :=
  let at_ := 1048576 :: l.map fun e => (e.1 + e.2 + 63) / 64 * 64
  let fits (b : Nat) : Bool := decide (b + size ≤ limit) && l.all fun e => decide (b + size ≤ e.1) || decide (e.1 + e.2 ≤ b)
  (at_.filter fits).foldl (fun m b => match m with | some x => some (Nat.min x b) | none => some b) none

/-- The lowest free NSID (R346). -/
def State.freeNsid (s : State) : Nat := ((List.range 1024).find? fun i => (s.ns? (i + 1)).isNone).elim 1025 (· + 1)

end Sys2Proof.Machine

namespace Sys2Proof

open Machine in
/-- The wing's log holds a LOSS without a completed RETURN (R155). -/
def Placement.openLoss (p : Placement) : Bool :=
  (List.range 24).any fun b => p.effLog.foldl (fun acc e =>
    if e.bay = b then (if e.loss then true else if e.done then false else acc) else acc) false

end Sys2Proof

namespace Sys2Proof.Machine

/-- A write to ce_ns_create (R335). -/
def State.nsCreate (cls value : Nat) (s : State) : State :=
  s.action cls Obj.ce_ns_create Obj.ce_ns_create_result fun t =>
    let bad (o : Nat) : State := t.endRun Obj.ce_ns_create_result (outcomeVal o)
    let ask := t.get Obj.ce_ns_new_nsid
    let id := if ask = 0 then t.freeNsid else ask
    let w := t.get Obj.ce_ns_new_wing
    let l := BitVec.ofNat 16 (t.get Obj.ce_ns_new_layout_id)
    let rows := ceilDiv (t.get Obj.ce_ns_new_blocks) (Nat.max 1 (24 * layBlocks l))
    let full := decide (1024 ≤ t.ce.namespaces.length)
    if value ≠ 1 ∨ !layValid l ∨ (id = 1025 ∧ full = false) ∨ 1025 < id ∨ (t.ns? id).isSome ∨ w = 0 ∨ 2 < w ∨
        (t.place w).openLoss ∨ !t.holdsWing w then bad Oc.denied
    else if full = true then bad Oc.exhausted
    else
      match fitExtent (extentBlocks l rows) (t.get Obj.pe_member_size w) (t.extents w) with
      | none => bad Oc.exhausted
      | some e =>
        let n : Namespace :=
          { nsid := id, layout := l, wing := w, creationGen := (t.place w).gen, base := e, rows := rows,
            nguid := t.freeVal 128, created := t.gh.now, creating := true }
        let t1 := (t.drawn.modCe fun c => { c with
          namespaces := sortBy (·.nsid) (c.namespaces ++ [n]), createRun := some (id, t.descAwait) }).fillSlot (id - 1) 1
            (id - 1) 1 n.nguid
        t1.descRequest

/-- CE_NS_CREATE (R335). -/
def execCeNsCreate (cls value : Nat) (s : State) : Host.Outcome State Fault Refusal := .next (s.nsCreate cls value)

/-- A namespace being deleted has nothing left in flight and nothing left to apply: its key generation is raised, its entry
leaves, and the next descriptor says so (R336, R418). -/
def State.nsDeletePass (s : State) : State :=
  match s.ce.deleteRun with
  | some (id, 0) =>
    if (s.ce.cmds.any fun c => c.cap.nsid == id) || (s.lg.recs.any fun r => r.nsid == id) || s.lg.applies.any (fun g => g.nsid == id)
    then s
    else
      let n := s.ns id
      let s1 := (s.modCy fun y => { y with purge := y.purge ++ [(id - 1, n.keyGen)] }).emptySlot (id - 1)
      let s2 := (s1.cacheRemove id fun _ => true).modCe fun c => { c with
        namespaces := c.namespaces.filter fun x => x.nsid != id, lostPages := c.lostPages.filter fun p => p.nsid != id,
        deleteRun := some (id, s1.descAwait) }
      let lost := sumN ((s.lostPage id).entries.map (·.blocks))
      let s3 := if lost = 0 then s2 else s2.put Obj.pe_lost_blocks 0 (s2.get Obj.pe_lost_blocks - lost)
      (s3.nsRecord n).descRequest
  | _ => s

/-- A write to ce_ns_delete (R336): a namespace that does not exist, is not held here, or is being created is DENIED. -/
def State.nsDelete (cls value : Nat) (s : State) : State :=
  s.action cls Obj.ce_ns_delete Obj.ce_ns_delete_result fun t =>
    match t.ns? value with
    | some n =>
      if n.creating || n.deleting || !t.holdsWing n.wing then t.endRun Obj.ce_ns_delete_result (outcomeVal Oc.denied)
      else ((t.modNs value fun x => { x with deleting := true }).modCe fun c => { c with deleteRun := some (value, 0) }).nsDeletePass
    | none => t.endRun Obj.ce_ns_delete_result (outcomeVal Oc.denied)

/-- CE_NS_DELETE (R336). -/
def execCeNsDelete (cls value : Nat) (s : State) : Host.Outcome State Fault Refusal := .next (s.nsDelete cls value)

/-- A write to ce_ns_party_mask (R337); the namespace table records it (R338). -/
def State.partyMask (cls nsid value : Nat) (s : State) : State :=
  s.guarded cls (Obj.ce_ns_party_mask + (nsid - 1)) 1 (decide (1 ≤ nsid) && decide (nsid ≤ 1024) && decide (value < 65536)) fun t =>
    let t1 := t.put (Obj.ce_ns_party_mask + (nsid - 1)) 1 value
    if t.get (Obj.ce_ns_party_mask + (nsid - 1)) 1 = value ∨ (t.ns? nsid).isNone then t1
    else if t.holdsWing (t.ns nsid).wing then (t1.nsChanged nsid).descRequest else t1.nsChanged nsid

/-- NS_PARTY_MASK_WRITE (R337). -/
def execNsPartyMaskWrite (cls nsid value : Nat) (s : State) : Host.Outcome State Fault Refusal :=
  .next (s.partyMask cls nsid value)

/-- The creation and the deletion whose generation is committed (R335, R336). -/
def State.nsCommitted (s : State) : State :=
  let g := s.lg.descGen
  let s1 := match s.ce.createRun with
    | some (id, w) =>
      if g < w then s
      else
        let t := (s.modNs id fun n => { n with creating := false }).modCe fun c => { c with createRun := none }
        ((t.nsRecord (t.ns id)).nsChanged id).endRun Obj.ce_ns_create_result (outcomeWith Oc.ok (leBytes 2 id))
    | none => s
  match s1.ce.deleteRun with
  | some (id, w) =>
    if w = 0 ∨ g < w then s1
    else ((s1.modCe fun c => { c with deleteRun := none }).nsChanged id).endRun Obj.ce_ns_delete_result (outcomeVal Oc.ok)
  | none => s1

/-- DESCRIPTOR_COMMIT (R197, R331, R333, R335, R336): every present drive's write of the generation has completed. -/
def execDescriptorCommit (s : State) : Host.Outcome State Fault Refusal :=
  .next (match s.lg.descWriting with
  | some (g, []) =>
    let s1 := s.modLg fun l => { l with descGen := g, descWriting := none, descBlank := false }
    let s2 := s1.nsCommitted.resPass
    if s2.lg.descAgain ∧ s2.lg.descWriting.isNone then s2.descStart else s2
  | _ => s)

end Sys2Proof.Machine
end

