-- ==== Sys2Proof/Machine/HostIo.lean ====
section
/-! DEFINITION. I/O commands after acceptance: the checks of R312, parts and pieces, room commands, and power states (R43,
R71, R78, R104 to R106, R115, R118, R280, R282, R285, R286, R311 to R313, R327 to R330). -/

namespace Sys2Proof.Machine

/-! ### Checks before admission (R312) -/

/-- The status of a namespace's wing, none where commands may run (R254, R312). -/
def State.anaStatus (s : State) (nsid : Nat) : Option Status :=
  match (s.wing (s.ns nsid).wing).ana with
  | .optimized => none
  | .change => some .anaTransition
  | .inaccessible => some .anaInaccessible

/-- Refused fields, the namespace and its ANA state: checks 1 to 3 (R312). -/
def State.checkNs (s : State) (c : Cmd) : Option Status :=
  if c.cap.refused then some .invalidField
  else if !c.active || (s.ns? c.cap.nsid).isNone then some .invalidNamespace
  else s.anaStatus c.cap.nsid

/-- Blocks a command may name: one MDTS for a transfer, 65,536 for Write Zeroes, 256 ranges for Dataset Management (R311,
R312). -/
def lengthOk (c : Cmd) : Bool :=
  match c.cap.op with
  | .read => decide (c.cap.nlb ≤ 512)
  | .write => decide (c.cap.nlb ≤ 512)
  | .writeZeroes => decide (c.cap.nlb ≤ 65536)
  | _ => decide (c.cap.ranges.length ≤ 256)

/-- The party's read class has CACHE_WR cells in the active image (R115). -/
def State.roomReadOk (s : State) (cls : Nat) : Bool :=
  (imgCells s.activeImage).any fun x => x.2.2.opc == Opc.cacheWr && x.2.2.berth == cls

/-- The data descriptor of a Read or Write of an association: check 7 (R71, R105, R115, R282). -/
def State.checkData (s : State) (c : Cmd) : Option Status :=
  if c.cap.src = .endpoint then none
  else if !c.cap.keyed || (c.cap.sub != 0 && c.cap.sub != 1 && c.cap.sub != 0xF) then some .sglTypeInvalid
  else if c.cap.sub = 0xF ∧ c.cap.op = .write ∧ c.cap.address % 4096 ≠ 0 then some .invalidField
  else if c.cap.sub = 0xF ∧ c.cap.op = .read ∧ s.roomReadOk c.classOf = false then some .invalidField
  else none

/-- Berths on the port of the connection: check 8 (R43, R312). -/
def State.checkBerths (s : State) (c : Cmd) : Option Status :=
  if c.cap.src = .endpoint ∨ 0 < s.berths c.classOf c.port then none else some .namespaceNotReady

/-- The checks of R312 in their order: the status of the first that fails. -/
def State.checkCmd (s : State) (c : Cmd) : Option Status :=
  match s.checkNs c with
  | some st => some st
  | none =>
    let cap := nsCapacity (s.ns c.cap.nsid)
    if c.ranges.any fun r => decide (cap < r.1 + r.2) then some .lbaOutOfRange
    else if !lengthOk c then some .invalidField
    else if !c.permitted then some .reservationConflict
    else if c.cap.op = .read ∨ c.cap.op = .write then
      match s.checkData c with
      | some st => some st
      | none => s.checkBerths c
    else none

/-- A command of a kind that is accepted, not checked yet and not completed. -/
def State.fresh? (s : State) (a : Nat) (op : CmdOp) : Option Cmd :=
  match s.cmd? a with
  | some c => if c.cap.op = op ∧ c.checked = false ∧ c.status.isNone then some c else none
  | none => none

/-- The command has passed its checks. -/
def State.passed (a : Nat) (s : State) : State := s.modCmd a fun c => { c with checked := true }

/-! ### Reads and writes (R44, R78, R313) -/

/-- A Read's blocks and pieces (R44, R104). -/
def State.readCmd (c : Cmd) (s : State) : State :=
  match s.checkCmd c with
  | some st => s.finish c.arrival st
  | none =>
    let bs := (List.range c.cap.nlb).map fun i => ({ lba := c.cap.slba + i } : BlockSt)
    let s1 := (s.passed c.arrival).modCmd c.arrival fun q => { q with blocks := bs }
    let c1 : Cmd := { c with checked := true, blocks := bs }
    let s2 := (splitPieces (s.pieceOf c) (c.cap.nlb + 1) c.cap.slba c.cap.nlb).foldl (fun t p => t.enqueue c1 p) s1
    s2.admitAll

/-- READ (R43, R104, R105, R115, R312). -/
def execReadCmd (arrival : Nat) (s : State) : Host.Outcome State Fault Refusal :=
  .next (match s.fresh? arrival .read with
  | some c => s.readCmd c
  | none => s)

/-- The parts of a Write (R78, R79): full where they cover their stripe, else with their pieces still to be sealed. -/
def State.writeParts (s : State) (c : Cmd) : List Part :=
  let lay := (s.ns c.cap.nsid).layout
  (splitParts lay (c.cap.nlb + 1) c.cap.slba c.cap.nlb).map fun p =>
    let full := decide (p.2 = layBlocks lay)
    { stripe := stripeOf lay p.1, first := p.1, blocks := p.2, full := full,
      left := if full then 0 else ceilDiv p.2 (s.pieceOf c) }

/-- A Write's parts, blocks and pieces (R44, R70, R78); a recognised retry has no parts (R256). -/
def State.writeCmd (c : Cmd) (s : State) : State :=
  match s.checkCmd c with
  | some st => s.finish c.arrival st
  | none =>
    let bs := (List.range c.cap.nlb).map fun i => ({ lba := c.cap.slba + i } : BlockSt)
    let ps := s.writeParts c
    let c1 : Cmd := { c with checked := true, blocks := bs, parts := if c.retry then [] else ps }
    let s1 := s.modCmd c.arrival fun _ => c1
    let s2 := ps.foldl (fun t p =>
      (splitPieces (s.pieceOf c) (p.blocks + 1) p.first p.blocks).foldl (fun u x => u.enqueue c1 x) t) s1
    s2.admitAll.pump

/-- WRITE (R43, R71, R78, R79, R282, R312). -/
def execWriteCmd (arrival : Nat) (s : State) : Host.Outcome State Fault Refusal :=
  .next (match s.fresh? arrival .write with
  | some c => s.writeCmd c
  | none => s)

/-- FLUSH (R43, R92, R311): namespace 0xFFFFFFFF names every namespace of the association. -/
def execFlushCmd (arrival : Nat) (s : State) : Host.Outcome State Fault Refusal :=
  .next (match s.fresh? arrival .flush with
  | some c =>
    match (if c.cap.nsid = 0xFFFFFFFF then (if c.cap.refused then some Status.invalidField else none) else s.checkNs c) with
    | some st => s.finish arrival st
    | none => (s.passed arrival).flushPass
  | none => s)

/-- The ZERO parts of a command's ranges (R313). -/
def State.zeroParts (s : State) (c : Cmd) : List Part :=
  let lay := (s.ns c.cap.nsid).layout
  c.ranges.flatMap fun r => (splitParts lay (r.2 + 1) r.1 r.2).map fun p =>
    { stripe := stripeOf lay p.1, first := p.1, blocks := p.2, left := 1 }

/-- A zeroing command is split, and what R121 allows is sealed (R313). -/
def State.zeroCmd (c : Cmd) (s : State) : State :=
  match s.checkCmd c with
  | some st => s.finish c.arrival st
  | none =>
    let ps := s.zeroParts c
    if ps.isEmpty then (s.passed c.arrival).finish c.arrival .success
    else (s.modCmd c.arrival fun q => { q with checked := true, parts := ps }).pump

/-- WRITE_ZEROES (R313). -/
def execWriteZeroes (arrival : Nat) (s : State) : Host.Outcome State Fault Refusal :=
  .next (match s.fresh? arrival .writeZeroes with
  | some c => s.zeroCmd c
  | none => s)

/-- DATASET_MANAGEMENT (R311 to R313): without AD it does nothing and succeeds. -/
def execDatasetManagement (arrival : Nat) (s : State) : Host.Outcome State Fault Refusal :=
  .next (match s.fresh? arrival .dsm with
  | some c =>
    if c.cap.ad then s.zeroCmd c
    else match s.checkCmd c with
      | some st => s.finish arrival st
      | none => (s.passed arrival).finish arrival .success
  | none => s)

/-- BLOCK_FIX (R104, R106): a Read's block chooses its source once it may, and what waited for it goes on. -/
def execBlockFix (arrival lba : Nat) (s : State) : Host.Outcome State Fault Refusal := .next (s.fixBlock arrival lba).pump

/-- READ_ROOM_HOLD_EXPIRY (R118): ce_read_room_hold has passed since the response capsule. -/
def execReadRoomHoldExpiry (arrival : Nat) (s : State) : Host.Outcome State Fault Refusal :=
  .next (if s.ce.roomReads.any fun r => r.arrival == arrival && r.answered then
    ((s.unpin arrival).modCe fun c => { c with
      roomReads := c.roomReads.filter fun r => r.arrival != arrival }).tick Obj.ce_room_hold_expiries
  else s)

/-! ### Reservation commands (R331 to R334) -/

/-- A reservation command passes its checks and takes its turn (R331). -/
def State.resCmd (a : Nat) (op : CmdOp) (s : State) : State :=
  match s.fresh? a op with
  | some c =>
    match s.checkNs c with
    | some st => (s.finish a st).resServe c.cap.nsid
    | none => (s.passed a).resServe c.cap.nsid
  | none => s

/-- RESERVATION_REGISTER (R331, R332, R334). -/
def execReservationRegister (arrival : Nat) (s : State) : Host.Outcome State Fault Refusal :=
  .next (s.resCmd arrival .resRegister)

/-- RESERVATION_ACQUIRE (R331 to R334). -/
def execReservationAcquire (arrival : Nat) (s : State) : Host.Outcome State Fault Refusal :=
  .next (s.resCmd arrival .resAcquire)

/-- RESERVATION_RELEASE (R331, R332, R334). -/
def execReservationRelease (arrival : Nat) (s : State) : Host.Outcome State Fault Refusal :=
  .next (s.resCmd arrival .resRelease)

/-- RESERVATION_REPORT (R332). -/
def execReservationReport (arrival : Nat) (s : State) : Host.Outcome State Fault Refusal :=
  .next (s.resCmd arrival .resReport)

/-! ### Room commands (R280, R285, R286) -/

/-- Length and rights a kind may carry (R280). -/
def roomShape (kind length : Nat) (wr rd : Bool) : Bool :=
  decide (4096 ≤ length) && decide (length % 4096 = 0) &&
  ((kind == 1 && wr && decide (length ≤ 2097152)) || (kind == 2 && rd && decide (length ≤ 16777216)))

/-- Rooms an association holds. -/
def State.roomsHeld (s : State) (assoc : Option Nat) : Nat :=
  (s.tr.rooms.filter fun r => (r.state == 1 || r.state == 2) &&
    s.tr.conns.any fun c => c.qpn == r.owner && c.assoc == assoc).length

/-- Pool 1 supplies a push room's beds without crossing its amber watermark (R280, R402). -/
def State.pushRoomFits (s : State) (length : Nat) : Bool :=
  decide (s.po.counts.getD 1 0 * s.get Obj.po_amber 2 / 1024 + length / 4096 ≤ s.po.free 1)

/-- A free room index: which of the free ones is open, the first from a free value on (log entry 21). -/
def State.freeRoom (s : State) : Option Nat :=
  let used := (s.tr.rooms.filter fun r => r.state == 1 || r.state == 2).map (·.index)
  let start := s.freeVal 18
  ((List.range (used.length + 1)).map fun i => (start + i) % 262144).find? fun i => !used.contains i

/-- A room descriptor is opened: tag and generation advance, and the room takes its closing timeout (R279, R304). -/
def openRoom (old : Room) (owner kind length limit : Nat) (wr rd : Bool) : Room :=
  { index := old.index, tag := if old.tag + 1 < 16384 then old.tag + 1 else 1, gen := (old.gen + 1) % 65536, owner := owner,
    kind := kind, rd := rd, wr := wr, state := 1, length := length, closeLimit := limit }

/-- ROOM_OPEN (R279, R280). -/
def execRoomOpen (arrival : Nat) (s : State) : Host.Outcome State Fault Refusal :=
  .next (match s.fresh? arrival .roomOpen with
  | some c =>
    let w := c.cap.cdw.getD 0 0
    let len := c.cap.cdw.getD 1 0
    let kind := w % 4
    if c.cap.src = .endpoint then s.finish arrival .invalidOpcode
    else if c.cap.refused || !roomShape kind len (bit w 2) (bit w 3) then s.finish arrival .invalidField
    else if s.get Obj.tr_rooms_per_assoc ≤ s.roomsHeld (some c.assoc) ∨ (kind = 1 ∧ s.pushRoomFits len = false) then
      s.finish arrival .capacityExceeded
    else
      match s.freeRoom with
      | none => s.finish arrival .capacityExceeded
      | some ix =>
        let old := (s.tr.rooms.find? fun r => r.index == ix).getD { index := ix }
        let r := openRoom old c.cap.qpn kind len (s.get Obj.tr_room_close_timeout) (bit w 2) (bit w 3)
        let s1 := s.drawn.modTr fun t => { t with rooms := r :: t.rooms.filter fun x => x.index != ix }
        (s1.modCmd arrival fun q => { q with checked := true, dw0 := r.key }).finish arrival .success
  | none => s)

/-- The open room a room command names, owned by the carrying connection (R280). -/
def State.ownRoom (s : State) (c : Cmd) : Option Room :=
  match s.room? (c.cap.cdw.getD 0 0) with
  | some r => if r.owner = c.cap.qpn then some r else none
  | none => none

/-- ROOM_MODIFY (R280, R285): it takes effect at the next leg boundary. -/
def execRoomModify (arrival : Nat) (s : State) : Host.Outcome State Fault Refusal :=
  .next (match s.fresh? arrival .roomModify with
  | some c =>
    let len := c.cap.cdw.getD 1 0
    let w := c.cap.cdw.getD 2 0
    if c.cap.src = .endpoint then s.finish arrival .invalidOpcode
    else match s.ownRoom c with
      | some r =>
        if r.state = 1 ∧ c.cap.refused = false ∧ roomShape r.kind len (bit w 0) (bit w 1) = true then
          (s.passed arrival).modRoom r.index fun x => { x with
            modify := some (len, bit w 0, bit w 1), modifiers := x.modifiers ++ [arrival] }
        else s.finish arrival .invalidField
      | none => s.finish arrival .invalidField
  | none => s)

/-- ROOM_CLOSE (R280, R286): the room is in closing; the command completes when it is closed. -/
def execRoomClose (arrival : Nat) (s : State) : Host.Outcome State Fault Refusal :=
  .next (match s.fresh? arrival .roomClose with
  | some c =>
    if c.cap.src = .endpoint then s.finish arrival .invalidOpcode
    else match s.ownRoom c with
      | some r =>
        if (r.state = 1 ∨ r.state = 2) ∧ c.cap.refused = false then
          let s1 := s.passed arrival
          (if r.state = 1 then s1.roomClosing r.index else s1).modRoom r.index fun x => { x with
            closers := x.closers ++ [arrival] }
        else s.finish arrival .invalidField
      | none => s.finish arrival .invalidField
  | none => s)

/-- ROOM_CLOSE_TIMEOUT (R286): a room still closing after tr_room_close_timeout is closed at the next leg boundary. -/
def execRoomCloseTimeout (room : Nat) (s : State) : Host.Outcome State Fault Refusal :=
  .next (match s.tr.rooms.find? fun r => r.index == room with
  | some r =>
    let legs := (s.tt.legCount + 2 ^ 32 - r.openLegs) % 2 ^ 32
    if r.state = 2 ∧ r.closeLimit ≤ legs * 5120 then s.modRoom room fun x => { x with cut := true }
    else s
  | none => s)

/-! ### Power states (R327 to R330) -/

/-- Answer a power state request: a host's command, or ce_power_state_result. -/
def State.psAnswer (who : Option (CmdSrc × Nat)) (ok : Bool) (s : State) : State :=
  match who with
  | some (src, cid) => s.respond src 0 cid (if ok then .success else .operationDenied)
  | none => s.endRun Obj.ce_power_state_result (outcomeVal (if ok then Oc.ok else Oc.denied))

/-- A power state is asked for (R327, R329, R465). -/
def State.psRequest (new : Nat) (who : Option (CmdSrc × Nat)) (s : State) : State :=
  if s.ce.psEntry.isSome then s.psAnswer who false
  else if new = s.ce.ps then s.psAnswer who true
  else if new = 2 then
    if s.md.causes.contains 4 then s.psAnswer who false
    else (s.modCe fun c => { c with psEntry := some (c.arrivalNext, who), psBefore := c.ps }).addCause 0
  else if s.ce.ps = 2 then ((s.modCe fun c => { c with psBefore := new }).clearCause 0).psAnswer who true
  else (s.setPs new (if who.isSome then 0 else 1)).psAnswer who true

/-- A write to ce_power_state_set (R328). -/
def State.psWrite (cls value : Nat) (s : State) : State :=
  s.action cls Obj.ce_power_state_set Obj.ce_power_state_result fun t =>
    if value ≤ 2 then t.psRequest value none else t.endRun Obj.ce_power_state_result (outcomeVal Oc.denied)

/-- CE_POWER_STATE_SET (R327 to R329). -/
def execCePowerStateSet (cls value : Nat) (s : State) : Host.Outcome State Fault Refusal := .next (s.psWrite cls value)

/-- PS2 entry has come to its end: Drain, an empty slab, and every command accepted since the request completed (R329). -/
def State.psDone (s : State) : Bool :=
  match s.ce.psEntry with
  | some (a, _) => s.md.mode == .drain && s.md.causes.contains 0 && s.lg.recs.isEmpty && s.slabPending == 0 &&
      s.ce.cmds.all fun c => decide (c.arrival < a)
  | none => false

/-- PS2_ENTRY_COMPLETE (R329). -/
def execPs2EntryComplete (s : State) : Host.Outcome State Fault Refusal :=
  .next (match s.ce.psEntry with
  | some (_, who) =>
    if s.psDone then
      ((s.modCe fun c => { c with psEntry := none }).setPs 2 (if who.isSome then 0 else 1)).psAnswer who true
    else s
  | none => s)

/-- PS_ENTRY_LIMIT_EXPIRY (R329): the controller returns to its previous state at the next leg boundary. -/
def execPsEntryLimitExpiry (s : State) : Host.Outcome State Fault Refusal :=
  .next (match s.ce.psEntry with
  | some (_, who) => ((s.modCe fun c => { c with psEntry := none }).clearCause 0).psAnswer who false
  | none => s)

end Sys2Proof.Machine
end

