-- ==== Sys2Proof/Machine/Admin.lean ====
section
/-! DEFINITION. Connect, properties, Identify, log pages, features, Abort, keep alive and asynchronous events (R42, R267,
R300, R305 to R311, R314 to R319, R324 to R328). -/

namespace Sys2Proof.Machine

/-! ### Admin commands arrive (R299, R308) -/

/-- A SEND of an admin queue arrives in order and its capsule is accepted: its counts advance, it takes an arrival sequence and is
acknowledged (R68, R272, R299). -/
def State.sendIn (qpn : Nat) (s : State) : State :=
  match s.conn? qpn with
  | some c =>
    let v := verified (c.rx.seq + 1) c.rx.seq c.rx.seen
    (s.modConn qpn fun x => { x with
      psn := (x.psn + 1) % 2 ^ 24, nakSent := false, rx := { x.rx with seq := v.1, seen := v.2 },
      nextMsg := if x.spread then x.nextMsg + 1 else x.nextMsg }).stamped.sendAck c (if c.spread then c.nextMsg else c.psn)
  | none => s

/-- The keep alive timer restarts (R308). -/
def State.keepAlive (i : Nat) (s : State) : State := s.modAssoc i fun a => { a with alive := s.gh.ticks }

/-- The admin connection of an association. -/
def State.adminConn (s : State) (i : Nat) : Option Conn := s.tr.conns.find? fun c => c.assoc == some i && c.qid == 0

/-- An admin command: `run` on an association's controller, or on the endpoint's where it is ready and takes the command; a
discovery controller takes the commands of R310 alone. -/
def State.adminCmd (src : CmdSrc) (cid : Nat) (ep disc : Bool) (run : Assoc → State → State) (s : State) : State :=
  match src with
  | .assoc i =>
    match (if s.transportOn then s.assoc? i else none), s.adminConn i with
    | some a, some c =>
      if 2048 ≤ i then s
      else
        let s1 := (s.sendIn c.qpn).keepAlive i
        if a.discovery && !disc then s1.respond src 0 cid .invalidOpcode else run { a with alive := s.gh.ticks } s1
    | _, _ => s
  | .conn _ => s
  | .endpoint =>
    if !s.ep.ready then s
    else if ep then run s.ce.endpointAssoc s.stamped else s.stamped.respond src 0 cid .invalidOpcode

/-! ### Connect (R42, R267, R300, R306 to R308, R310) -/

/-- A list begins with another. -/
def startsWith (l p : List Byte) : Bool := l.take p.length == p

/-- The party of a host NQN (R42): the first rule whose prefix matches it. -/
def State.partyFor (s : State) (nqn : List Byte) : Nat :=
  match (List.range 32).find? fun i =>
      let p := s.blob Obj.tt_party_rule_nqn (i + 1)
      !p.isEmpty && startsWith nqn p with
  | some i => s.get Obj.tt_party_rule_party (i + 1)
  | none => s.get Obj.tt_default_party

/-- Keep Alive Timeouts accepted, ms (R308). -/
def katoOk (k : Nat) : Bool := decide (1000 ≤ k) && decide (k ≤ 3600000)

/-- I/O queue pairs of the chip that are free (R307). -/
def State.freePairs (s : State) : Nat := 65536 - (s.tr.conns.filter fun c => !qpAdmin c.qpn).length

/-- A refused Connect completes on its connection, which ends (R300, R306, R307). -/
def State.connectRefused (c : ConnectData) (st : Status) (s : State) : State :=
  (s.respond (.conn c.qpn) c.qid c.cid st).endConn c.qpn 5

/-- The admin Connect creates the association (R306, R307, R309, R410). -/
def State.adminConnect (d : ConnectData) (c : Conn) (s : State) : State :=
  match (List.range 2048).find? fun i => (s.ce.assocs.all fun a => a.index != i) with
  | none => s.connectRefused d .connectBusy
  | some i =>
    if d.hostid ≠ c.hostid then s.connectRefused d .connectInvalidHost
    else if !katoOk d.kato || !d.known then s.connectRefused d .connectInvalid
    else
      let party := s.partyFor d.hostnqn
      let a : Assoc :=
        { index := i, hostid := d.hostid, nqn := d.hostnqn, party := party, kato := ceilDiv d.kato 100 * 100,
          queues := [(0, c.qpn)], discovery := d.discovery, alive := s.gh.ticks }
      let s1 := (s.modCe fun x => { x with assocs := x.assocs ++ [a] }).modConn c.qpn fun x => { x with assoc := some i }
      let s2 := (s1.fillSlot (0x400 + i) 2 i 0 d.hostid).modSi fun x => { x with
        assocChanges := x.assocChanges ++ [(i, true, d.hostid)] }
      (s2.record 2 0x6001 [(2, s.cntlid i), (16, d.hostid), (1, party)]).respondWith (.assoc i) 0 d.cid (s.cntlid i) []

/-- An I/O Connect adds a queue pair to its association (R307). -/
def State.ioConnect (d : ConnectData) (c : Conn) (s : State) : State :=
  match s.ce.assocs.find? fun a => s.cntlid a.index == d.cntlid with
  | none => s.connectRefused d .connectInvalid
  | some a =>
    let no (st : Status) : State := s.connectRefused d st
    if d.hostid ≠ c.hostid ∨ d.hostid ≠ a.hostid then no .connectInvalidHost
    else if a.discovery ∨ a.grant < d.qid ∨ 1023 < d.sqsize ∨ !d.known then no .connectInvalid
    else if a.queues.any fun q => q.1 == d.qid then no .commandSequence
    else if s.freePairs < a.grant then no .connectBusy
    else
      let s1 := (s.modAssoc a.index fun x => { x with queues := x.queues ++ [(d.qid, c.qpn)], ioConnected := true }).modConn
        c.qpn fun x => { x with assoc := some a.index }
      s1.respondWith (.assoc a.index) d.qid d.cid d.cntlid []

/-- FABRICS_CONNECT (R42, R267, R306 to R308, R310). -/
def execFabricsConnect (c : ConnectData) (s : State) : Host.Outcome State Fault Refusal :=
  .next (match (if s.transportOn then s.conn? c.qpn else none) with
  | some n =>
    if n.assoc.isSome ∨ n.qid ≠ c.qid then s
    else
      let s1 := s.sendIn c.qpn
      if c.qid = 0 then s1.adminConnect c n else s1.ioConnect c n
  | none => s)

/-- DISCONNECT (R309): no completion follows. -/
def execDisconnect (src : CmdSrc) (cid : Nat) (s : State) : Host.Outcome State Fault Refusal :=
  .next (s.adminCmd src cid false true (fun a t => t.endAssoc a.index 1))

/-! ### Properties (R311, R504) -/

/-- CAP: MQES 1,023, CQR, TO 10 s, NVM command set (R504). -/
def capValue : Nat := 1023 + 2 ^ 16 + 20 * 2 ^ 24 + 2 ^ 37

/-- CSTS of a controller (R311). -/
def Assoc.csts (a : Assoc) : Nat := b2n a.ready + (if a.shutdownDone then 8 else if a.shutdown then 4 else 0)

/-- PROPERTY_GET (R311): CAP, VS, CC and CSTS. -/
def execPropertyGet (src : CmdSrc) (cid offset : Nat) (s : State) : Host.Outcome State Fault Refusal :=
  .next (s.adminCmd src cid false true (fun a t =>
    let v := if offset = 0 then some (8, capValue) else if offset = 8 then some (4, 0x00020000)
      else if offset = 0x14 then some (4, a.cc) else if offset = 0x1C then some (4, a.csts) else none
    match v with
    | some (n, x) => t.respondWith src 0 cid (x % 2 ^ 32) (leBytes n x)
    | none => t.respond src 0 cid .invalidField))

/-- A shutdown by CC.SHN is complete once every command of the association has completed (R311). -/
def State.shutdownPass (s : State) : State :=
  s.modCe fun c => { c with assocs := c.assocs.map fun a =>
    if a.shutdown && !a.shutdownDone && !(c.cmds.any fun d => d.assoc == a.index) then { a with shutdownDone := true } else a }

/-- PROPERTY_SET (R311): CC alone. -/
def execPropertySet (src : CmdSrc) (cid offset value : Nat) (s : State) : Host.Outcome State Fault Refusal :=
  .next (s.adminCmd src cid false true (fun a t =>
    if offset ≠ 0x14 then t.respond src 0 cid .invalidField
    else
      let stop := bits value 15 14 != 0
      let t1 := t.modAssoc a.index fun x => { x with
        cc := value % 2 ^ 32, ready := bit value 0, shutdown := stop, shutdownDone := stop && x.shutdownDone }
      t1.shutdownPass.respond src 0 cid .success))

/-! ### Identify (R305, R306, R314, R315) -/

/-- Put little-endian fields (offset, size, value) into a page. -/
def putFields (page : List Byte) (l : List (Nat × Nat × Nat)) : List Byte :=
  l.foldl (fun p f => p.take f.1 ++ leBytes f.2.1 f.2.2 ++ p.drop (f.1 + f.2.1)) page

/-- Put bytes at an offset of a page. -/
def putBytes (page : List Byte) (off : Nat) (b : List Byte) : List Byte := page.take off ++ b ++ page.drop (off + b.length)

/-- Text padded with spaces. -/
def padded (n : Nat) (b : List Byte) : List Byte := (b ++ List.replicate n 0x20#8).take n

/-- A lower-case hexadecimal digit. -/
def hexDigit (n : Nat) : Byte := BitVec.ofNat 8 (if n < 10 then 48 + n else 87 + n)

/-- Bytes as lower-case hexadecimal. -/
def hexText (l : List Byte) : List Byte := l.flatMap fun b => [hexDigit (b.toNat / 16), hexDigit (b.toNat % 16)]

/-- A UUID in the hyphenated form of RFC 4122 (R305). -/
def uuidText (u : List Byte) : List Byte :=
  let h := hexText u
  let d : List Byte := ascii "-"
  h.take 8 ++ d ++ slice h 8 4 ++ d ++ slice h 12 4 ++ d ++ slice h 16 4 ++ d ++ h.drop 20

/-- The subsystem NQN (R305). -/
def State.subnqn (s : State) : List Byte :=
  ascii "nqn.2014-08.org.nvmexpress:uuid:" ++ uuidText (s.blob Obj.ce_shelf_uuid 0)

/-- The controller ID a controller reports (R306, R504). -/
def State.reportedId (s : State) (i : Nat) : Nat := if i = 2048 then 0x0FFE + 0x1000 * s.si.id else s.cntlid i

/-- A power state descriptor of 32 bytes: power in 0.01 W, non-operational, latencies in µs (R327). -/
def powerDesc (mp : Nat) (nops : Bool) (enlat exlat : Nat) : List Byte :=
  leBytes 4 (mp + (if nops then 2 ^ 25 else 0)) ++ leBytes 4 enlat ++ leBytes 4 exlat ++ List.replicate 20 0#8

/-- The revision of the active firmware slot (R314). -/
def State.activeRevision (s : State) : List Byte := (s.md.slots.getD (s.md.active - 1) {}).revision

/-- Identify Controller (R314, R505). -/
def State.idController (s : State) (a : Assoc) : List Byte :=
  let ep := a.index == 2048
  let base := putFields (List.replicate 4096 0#8)
    [(0, 2, 0x1F8A), (2, 2, 0x1F8A), (72, 1, 6), (76, 1, 0x0B), (77, 1, 9), (78, 2, s.reportedId a.index),
     (80, 4, 0x00020000), (92, 4, 0xB00), (96, 4, 1), (111, 1, if a.discovery then 2 else 1), (256, 2, 4), (258, 1, 3),
     (259, 1, 7), (260, 1, 0x14), (261, 1, 6), (262, 1, 63), (263, 1, 2), (270, 2, 2), (320, 2, 1), (342, 1, 10),
     (343, 1, 0x55), (344, 4, 2), (348, 4, 2), (512, 1, 0x66), (513, 1, 0x44), (514, 2, 1024), (516, 4, 1024),
     (520, 2, 0x2C), (536, 4, if ep then 0 else 5)]
  let fab := if ep then base else putFields base [(1792, 4, 4), (1796, 4, 1), (1803, 1, 1)]
  let text := putBytes (putBytes (putBytes (putBytes fab 4 (padded 20 Config.shelfSerial)) 24
    (padded 40 (ascii "KRYIRDOR ASKURA KA2460"))) 64 (padded 8 s.activeRevision)) 768 s.subnqn
  putBytes text 2048 (powerDesc 19500 false 0 0 ++ powerDesc 15000 false 10 10 ++ powerDesc 7500 true 100000 1000)

/-- IDENTIFY_CONTROLLER (R314): CNS 01h; a CNS of none of the listed values is refused. -/
def execIdentifyController (src : CmdSrc) (cid cns : Nat) (s : State) : Host.Outcome State Fault Refusal :=
  .next (s.adminCmd src cid true true (fun a t =>
    if cns = 1 then t.respondWith src 0 cid 0 (t.idController a) else t.respond src 0 cid .invalidField))

/-- Identify Namespace (R315). -/
def idNamespace (n : Namespace) : List Byte :=
  let c := nsCapacity n
  let g := layBlocks n.layout - 1
  putBytes (putFields (List.replicate 4096 0#8)
    [(0, 8, c), (8, 8, c), (16, 8, c), (24, 1, 0x10), (30, 1, 1), (31, 1, 0x7F), (33, 1, 9), (64, 2, g), (66, 2, g),
     (72, 2, g), (92, 4, n.wing), (128, 4, 12 * 2 ^ 16)]) 104 (beBytes 16 n.nguid)

/-- IDENTIFY_NAMESPACE (R315): CNS 00h. -/
def execIdentifyNamespace (src : CmdSrc) (cid nsid : Nat) (s : State) : Host.Outcome State Fault Refusal :=
  .next (s.adminCmd src cid true true (fun a t =>
    if a.discovery then t.respond src 0 cid .invalidField else
    if t.nsActive (t.partyOf a.index) nsid then t.respondWith src 0 cid 0 (idNamespace (t.ns nsid))
    else t.respond src 0 cid .invalidNamespace))

/-- ACTIVE_NAMESPACE_LIST (R315, R337): CNS 02h. -/
def execActiveNamespaceList (src : CmdSrc) (cid nsid : Nat) (s : State) : Host.Outcome State Fault Refusal :=
  .next (s.adminCmd src cid true true (fun a t =>
    if a.discovery then t.respond src 0 cid .invalidField else
    let l := (t.ce.namespaces.map (·.nsid)).filter fun n => decide (nsid < n) && t.nsActive (t.partyOf a.index) n
    t.respondWith src 0 cid 0 ((l.flatMap (leBytes 4) ++ List.replicate 4096 0#8).take 4096)))

/-- NAMESPACE_DESCRIPTOR_LIST (R315): CNS 03h. -/
def execNamespaceDescriptorList (src : CmdSrc) (cid nsid : Nat) (s : State) : Host.Outcome State Fault Refusal :=
  .next (s.adminCmd src cid true true (fun a t =>
    if a.discovery then t.respond src 0 cid .invalidField else
    if t.nsActive (t.partyOf a.index) nsid then
      let g := (t.ns nsid).nguid
      let l := leBytes 4 (2 + 16 * 256) ++ beBytes 16 g ++ leBytes 4 (3 + 16 * 256) ++ beBytes 16 (Config.nsUuid g).toNat
      t.respondWith src 0 cid 0 ((l ++ List.replicate 4096 0#8).take 4096)
    else t.respond src 0 cid .invalidNamespace))

/-! ### Log pages (R178, R310, R316 to R318) -/

/-- Status codes of NVM Express as the Error Information page reports them: status code type × 256 + status code (log entry
25). -/
def Status.code : Status → Nat
  | .success => 0x000 | .invalidOpcode => 0x001 | .invalidField => 0x002 | .invalidNamespace => 0x00B
  | .lbaOutOfRange => 0x080 | .reservationConflict => 0x083 | .sglTypeInvalid => 0x011 | .namespaceNotReady => 0x082
  | .dataTransferError => 0x004 | .internalError => 0x006 | .abortRequested => 0x007 | .abortedPreempt => 0x01A
  | .abortLimit => 0x103 | .unrecoveredRead => 0x281 | .writeFault => 0x280 | .anaInaccessible => 0x302
  | .anaTransition => 0x303 | .connectBusy => 0x181 | .connectInvalid => 0x182 | .connectInvalidHost => 0x184
  | .invalidLogPage => 0x109 | .featureNotChangeable => 0x10E | .operationDenied => 0x015 | .overlappingRange => 0x114
  | .invalidFirmwareImage => 0x107 | .capacityExceeded => 0x081 | .commandSequence => 0x00C | .invalidQueueId => 0x101
  | .invalidQueueSize => 0x102 | .invalidVector => 0x108 | .invalidCq => 0x100 | .invalidQueueDeletion => 0x10C
  | .asyncLimit => 0x105

/-- A completion with an error enters the Error Information log of its controller (R316). -/
def State.logError (src : CmdSrc) (sqid cid : Nat) (st : Status) (s : State) : State :=
  if st = .success then s
  else s.modAssoc src.ix fun a => { a with
    errorLog := ((sqid, cid, st.code) :: a.errorLog).take 64, errorCount := a.errorCount + 1 }

/-- Error Information: 64 entries of 64 bytes, newest first (R316). -/
def Assoc.errorPage (a : Assoc) : List Byte :=
  let entry (i : Nat) : List Byte := match a.errorLog[i]? with
    | some e => leBytes 8 (a.errorCount - i) ++ leBytes 2 e.1 ++ leBytes 2 e.2.1 ++ leBytes 2 (e.2.2 * 2) ++ List.replicate 50 0#8
    | none => List.replicate 64 0#8
  (List.range 64).flatMap entry

/-- The highest die temperature, kelvin (R317). -/
def State.kelvin (s : State) : Nat := (s.gh.temps.foldl max (-273150) / 1000 + 273).toNat

/-- Strips of a wing without a place (R151). -/
def State.unplaced (s : State) (n : Namespace) : Nat :=
  let log := (s.place n.wing).effLog
  sumN ((List.range n.rows).map fun row =>
    ((rowAfter n row log).at_.filter fun x => x.2.isNone).length)

/-- Spare slots of a namespace that hold strips (R150, R281 objects). -/
def State.spareUsed (s : State) (n : Namespace) : Nat :=
  let log := (s.place n.wing).effLog
  sumN ((List.range n.rows).map fun row => (rowAfter n row log).slots.length)

/-- A bay is lost in some wing held (R149). -/
def State.anyLost (s : State) : Bool := (List.range 24).any fun b => (s.place 1).lostBay b || (s.place 2).lostBay b

/-- Some wing has a LOSS entry with unplaced strips (R317). -/
def State.lossUnplaced (s : State) : Bool :=
  s.ce.namespaces.any fun n => ((s.place n.wing).log.any fun e => e.loss) && decide (0 < s.unplaced n)

/-- Critical Warning for a controller (R317). -/
def State.warning (s : State) (a : Assoc) : Nat :=
  b2n s.lossUnplaced + 2 * b2n (decide (a.tempThreshold < s.kelvin)) + 4 * b2n s.anyLost + 16 * b2n (s.lg.inForce == 0)

/-- Percentage of spare slots free in the wing that uses them more (R317). -/
def State.spareFree (s : State) : Nat :=
  let pct (w : Nat) : Nat :=
    let ns := s.ce.namespaces.filter fun n => n.wing == w
    let total := sumN (ns.map fun n => 24 * n.rows * laySpare n.layout)
    let used := sumN (ns.map s.spareUsed)
    if total = 0 then 100 else (total - used) * 100 / total
  Nat.min (pct 1) (pct 2)

/-- SMART / Health Information, 512 bytes (R317). -/
def State.smartPage (s : State) (a : Assoc) : List Byte :=
  putFields (List.replicate 512 0#8)
    [(0, 1, s.warning a), (1, 2, s.kelvin), (3, 1, s.spareFree), (32, 16, ceilDiv (s.ce.hostRead * 4096) 512000),
     (48, 16, ceilDiv (s.ce.hostWritten * 4096) 512000), (112, 16, s.get Obj.gh_tally_power_cycles),
     (128, 16, s.get Obj.gh_tally_rail_seconds / 3600), (144, 16, s.get Obj.gh_tally_partial_flushes),
     (160, 16, s.get Obj.gh_tally_blocks_lost)]

/-- Firmware Slot Information, 512 bytes (R316). -/
def State.firmwarePage (s : State) : List Byte :=
  putBytes (putBytes (putFields (List.replicate 512 0#8) [(0, 1, s.md.active + 16 * s.md.next)]) 8
    (padded 8 (s.md.slots.getD 0 {}).revision)) 16 (padded 8 (s.md.slots.getD 1 {}).revision)

/-- Commands Supported and Effects: admin then I/O opcodes (R311, R316). -/
def effectsPage : List Byte :=
  let row (l : List Nat) : List Byte := (List.range 256).flatMap fun o => leBytes 4 (b2n (l.contains o))
  row [0x7F, 0x06, 0x02, 0x09, 0x0A, 0x11, 0x10, 0x08, 0x18, 0x0C] ++
  row [0x02, 0x01, 0x00, 0x08, 0x09, 0x0D, 0x11, 0x15, 0x0E, 0x80, 0x84, 0x88] ++ List.replicate 2048 0#8

/-- The number of an ANA state. -/
def anaCode : AnaState → Nat
  | .optimized => 1
  | .inaccessible => 3
  | .change => 0xF

/-- Asymmetric Namespace Access: two groups (R254, R316). -/
def State.anaPage (s : State) (a : Assoc) : List Byte :=
  let group (w : Nat) : List Byte :=
    let l := (s.ce.namespaces.filter fun n => n.wing == w && s.nsActive (s.partyOf a.index) n.nsid).map (·.nsid)
    leBytes 4 w ++ leBytes 4 l.length ++ leBytes 8 s.si.anaChanges ++ leBytes 1 (anaCode (s.wing w).ana) ++
      List.replicate 15 0#8 ++ l.flatMap (leBytes 4)
  leBytes 8 s.si.anaChanges ++ leBytes 2 2 ++ List.replicate 6 0#8 ++ group 1 ++ group 2

/-- Discovery log page: a header and an entry for each address (R310). -/
def State.discoveryPage (s : State) : List Byte :=
  let entry (x : Bool × List Byte) : List Byte :=
    let base := putFields (List.replicate 1024 0#8) [(0, 1, 1), (1, 1, if x.1 then 2 else 1), (2, 1, 2), (6, 2, 0xFFFF), (8, 2, 32)]
    let t := putBytes (putBytes (putBytes base 32 (padded 32 (ascii "4420"))) 256 (s.subnqn)) 512 (padded 256 x.2)
    putFields t [(768, 1, 1), (769, 1, 1), (770, 1, 1)]
  putFields (List.replicate 1024 0#8) [(8, 8, Config.portAddresses.length)] ++ Config.portAddresses.flatMap entry

/-- Reservation Notification: the oldest entry (R316, R334). -/
def Assoc.resPage (a : Assoc) : List Byte :=
  match a.resLog with
  | e :: r => leBytes 8 (a.resLogCount - r.length) ++ leBytes 1 e.1 ++ leBytes 1 r.length ++ leBytes 2 0 ++ leBytes 4 e.2 ++
      List.replicate 48 0#8
  | [] => List.replicate 64 0#8

/-- A page by its identifier, or the status that refuses it (R316). -/
def State.logPage (s : State) (a : Assoc) (lid nsid : Nat) : Except Status (List Byte) :=
  if a.discovery then (if lid = 0x70 then .ok s.discoveryPage else .error .invalidLogPage)
  else if lid = 0x01 then .ok a.errorPage
  else if lid = 0x02 then .ok (s.smartPage a)
  else if lid = 0x03 then .ok s.firmwarePage
  else if lid = 0x04 then .ok (((a.changedNs.take 1024).flatMap (leBytes 4) ++ List.replicate 4096 0#8).take 4096)
  else if lid = 0x05 then .ok effectsPage
  else if lid = 0x0C then .ok (s.anaPage a)
  else if lid = 0x80 then .ok a.resPage
  else if lid = 0xC0 then
    if nsid = 0xFFFFFFFF then .error .invalidField
    else if s.nsActive (s.partyOf a.index) nsid then .ok (s.lostPage nsid).bytes else .error .invalidNamespace
  else .error .invalidLogPage

/-- An event belongs to a page: type and information (R318). -/
def eventPage (type info : Nat) : Nat :=
  if type = 1 then 0x02 else if type = 6 then 0x80 else if type = 7 then 0xC0
  else if info = 0 then 0x04 else if info = 1 then 0x03 else 0x0C

/-- Reading a page with RAE clear unmasks its events and clears what reading clears (R316, R318). -/
def State.pageRead (i lid : Nat) (s : State) : State :=
  (s.modAssoc i fun a => { a with
    masked := a.masked.filter fun e => eventPage e.1 e.2 != lid,
    changedNs := if lid = 4 then [] else a.changedNs, resLog := if lid = 0x80 then a.resLog.drop 1 else a.resLog }).aerServe i

/-- GET_LOG_PAGE (R310, R311, R316 to R318): offsets are in 4-byte units. -/
def execGetLogPage (src : CmdSrc) (cid lid nsid offset length : Nat) (rae : Bool) (s : State) :
    Host.Outcome State Fault Refusal :=
  .next (s.adminCmd src cid true true (fun a t =>
    if offset % 4 ≠ 0 then t.respond src 0 cid .invalidField else
    match t.logPage a lid nsid with
    | .ok p =>
      let t1 := t.respondWith src 0 cid 0 (slice p offset length)
      if rae then t1 else t1.pageRead a.index lid
    | .error st => t.respond src 0 cid st))

/-! ### Features (R307, R308, R319, R327, R328) -/

/-- The I/O queue pairs granted for a request (R307, R504). -/
def State.grantFor (s : State) (a : Assoc) (asked : Nat) : Nat :=
  if a.index = 2048 then Nat.min asked 63
  else Nat.min asked (Nat.min (s.get Obj.ce_ioq_per_assoc) s.freePairs)

/-- Set a feature (R319). -/
def State.setFeature (src : CmdSrc) (cid fid nsid v : Nat) (a : Assoc) (s : State) : State :=
  let ok (t : State) : State := t.respond src 0 cid .success
  let no (st : Status) : State := s.respond src 0 cid st
  if fid = 0x02 then
    if bits v 7 5 ≠ 0 ∨ 2 < v % 32 then no .invalidField
    else if s.get Obj.ce_host_power_control ≠ 1 then no .featureNotChangeable
    else s.psRequest (v % 32) (some (src, cid))
  else if fid = 0x04 then
    if bits v 19 16 ≠ 0 ∨ bits v 21 20 ≠ 0 then no .invalidField
    else ok (s.modAssoc a.index fun x => { x with tempThreshold := v % 65536 })
  else if fid = 0x07 then
    if a.granted || a.ioConnected then no .commandSequence
    else if v % 65536 = 0xFFFF ∨ v / 65536 % 65536 = 0xFFFF then no .invalidField
    else
      let g := s.grantFor a (Nat.max (v % 65536) (v / 65536 % 65536) + 1)
      (s.modAssoc a.index fun x => { x with grant := g, granted := true }).respondWith src 0 cid ((g - 1) + (g - 1) * 65536) []
  else if fid = 0x0B then ok (s.modAssoc a.index fun x => { x with aenConfig := v % 2 ^ 32 })
  else if fid = 0x0F then
    if katoOk v then ok (s.modAssoc a.index fun x => { x with kato := ceilDiv v 100 * 100 }) else no .invalidField
  else if fid = 0x82 then
    if nsid = 0xFFFFFFFF then
      ok (s.modAssoc a.index fun x => { x with resMask := s.ce.namespaces.map fun n => (n.nsid, v % 2 ^ 32) })
    else if s.nsActive (s.partyOf a.index) nsid then
      ok (s.modAssoc a.index fun x => { x with resMask := assign x.resMask nsid (v % 2 ^ 32) })
    else no .invalidNamespace
  else if fid = 0x83 then (if v % 2 = 1 then ok s else no .featureNotChangeable)
  else no .invalidField

/-- SET_FEATURES (R307, R308, R311, R319, R327, R328): saving is refused but for FID 0x83. -/
def execSetFeatures (src : CmdSrc) (cid fid nsid value : Nat) (save : Bool) (s : State) : Host.Outcome State Fault Refusal :=
  .next (s.adminCmd src cid true false (fun a t =>
    if save && fid != 0x83 then t.respond src 0 cid .invalidField else t.setFeature src cid fid nsid value a))

/-- The value of a feature: dword 0 and data (R319). -/
def State.feature (s : State) (a : Assoc) (fid nsid : Nat) : Option (Nat × List Byte) :=
  if fid = 0x02 then some (s.ce.ps, [])
  else if fid = 0x04 then some (a.tempThreshold, [])
  else if fid = 0x07 then some ((a.grant - 1) + (a.grant - 1) * 65536, [])
  else if fid = 0x0B then some (a.aenConfig, [])
  else if fid = 0x0F then some (a.kato, [])
  else if fid = 0x81 then some (0, leBytes 16 a.hostid)
  else if fid = 0x82 then some (lookup a.resMask nsid 0, [])
  else if fid = 0x83 then some (1, [])
  else none

/-- GET_FEATURES (R319). -/
def execGetFeatures (src : CmdSrc) (cid fid nsid sel : Nat) (s : State) : Host.Outcome State Fault Refusal :=
  .next (s.adminCmd src cid true false (fun a t =>
    match t.feature a fid nsid with
    | some v =>
      if 3 < sel then t.respond src 0 cid .invalidField
      else if sel = 3 then t.respondWith src 0 cid (if fid = 0x83 then 5 else 4) []
      else t.respondWith src 0 cid v.1 v.2
    | none => t.respond src 0 cid .invalidField))

/-! ### Abort (R93, R324 to R326) -/

/-- A reservation command that is aborted commits nothing: the state before it comes back (R75, R326). -/
def State.undoRes (a : Nat) (s : State) : State :=
  match s.ce.resCmds.find? fun r => r.arrival == a with
  | some r => ((s.modNs r.nsid fun _ => r.before).modCe fun c => { c with
      resCmds := c.resCmds.filter fun x => x.arrival != a }).descRequest
  | none => s

/-- Decide an Abort at the completion gate (R325): whether it aborts, and the state. -/
def State.abortAt (src : CmdSrc) (sqid target : Nat) (s : State) : Bool × State :=
  match s.ce.cmds.find? fun c => c.cap.src == src && c.cap.sqid == sqid && c.cap.cid == target && c.status.isNone with
  | some c =>
    if sqid = 0 ∨ c.sealed = true then (false, s)
    else (true, ((s.undoRes c.arrival).failCmd c.arrival .abortRequested).tick Obj.ce_aborts_done)
  | none => (false, s)

/-- ABORT (R324 to R326). -/
def execAbortCmd (src : CmdSrc) (cid sqid target : Nat) (s : State) : Host.Outcome State Fault Refusal :=
  .next (s.adminCmd src cid true false (fun a t =>
    let t0 := t.tick Obj.ce_aborts
    if 4 ≤ (t0.ce.aborts.filter fun x => x.1 == a.index).length then t0.respond src 0 cid .abortLimit
    else
      let r := (t0.modCe fun c => { c with aborts := c.aborts ++ [(a.index, cid)] }).abortAt src sqid target
      (r.2.respondWith src 0 cid (b2n (!r.1)) []).pump))

/-! ### Keep alive and asynchronous events (R308, R311, R318) -/

/-- KEEP_ALIVE (R308). -/
def execKeepAlive (src : CmdSrc) (cid : Nat) (s : State) : Host.Outcome State Fault Refusal :=
  .next (s.adminCmd src cid true true (fun _ t => t.respond src 0 cid .success))

/-- KATO_EXPIRY (R308): the timer has run out. -/
def execKatoExpiry (assoc : Nat) (s : State) : Host.Outcome State Fault Refusal :=
  .next (match s.ce.assocs.find? fun a => a.index == assoc with
  | some a =>
    if a.kato * 1000 ≤ s.gh.ticks - a.alive then
      (((s.record 4 0x6003 [(2, s.cntlid assoc), (4, a.kato)]).tick Obj.ce_kato_expiries).endAssoc assoc 3)
    else s
  | none => s)

/-- ASYNCHRONOUS_EVENT_REQUEST (R311, R318): at most eight are held. -/
def execAsynchronousEventRequest (src : CmdSrc) (cid : Nat) (s : State) : Host.Outcome State Fault Refusal :=
  .next (s.adminCmd src cid true false (fun a t =>
    if 8 ≤ a.aers.length then t.respond src 0 cid .asyncLimit
    else (t.modAssoc a.index fun x => { x with aers := x.aers ++ [cid] }).aerServe a.index))

end Sys2Proof.Machine
end

