-- ==== Sys2Proof/Machine/Cells.lean ====
section
/-! DEFINITION. A fired slot-cell: the checks every cell passes, the transfer it carries, what it counts, and the cells of
the datapath: network, cipher, drives, parity, cache, endpoint, contexts, dumps (R32 to R41, R64, R65, R72 to R85, R106 to
R118, R125, R157 to R159, R275, R393, R413 to R420, R506, R538, R539). -/

namespace Sys2Proof.Machine

/-! ### What a transfer belongs to -/

/-- The block a transfer moves, where it moves one of a command. -/
def Job.lbaOf : Job → Option Nat
  | .pullRequest _ l => some l
  | .payloadIn _ l _ _ _ _ => some l
  | .cipherBlock _ l => some l
  | .slabWrite _ l => some l
  | .roomPin _ l => some l
  | .slabRead _ l _ => some l
  | .cacheRead _ l => some l
  | .blockOut _ l => some l
  | .parityTapIn _ l => some l
  | .endpointIn _ l _ => some l
  | .endpointOut _ l => some l
  | .driveIn (.blockRead _ l) _ _ => some l
  | _ => none

/-- The received frame whose payload a transfer moves. -/
def Job.frameOf : Job → Option Nat
  | .payloadIn _ _ _ _ f _ => some f
  | .roomIn _ _ _ _ f _ => some f
  | .frameIn f => some f
  | _ => none

/-- The pull and block of a read-room transfer. -/
def Job.pullOf : Job → Option (Nat × Nat)
  | .pullRead p i => some (p, i)
  | .pullCipher p i => some (p, i)
  | .pullOut p i => some (p, i)
  | _ => none

/-- A transfer that moves a whole block of 4,096 bytes; of the others no rule states the length. -/
def Job.isBlock : Job → Bool
  | .pullRequest _ _ => false
  | .frameIn _ => false
  | .response _ => false
  | .reply _ => false
  | .contextFetch _ => false
  | .contextSpill _ => false
  | .dump _ => false
  | .legFrame _ _ => false
  | .snapshotFrame _ => false
  | .shadowFrame _ => false
  | _ => true

/-- A transfer whose block needs a new bed at the sink, of pool 1 or larger (R35, R72). -/
def Job.needsBed : Job → Bool
  | .payloadIn .. => true
  | .roomIn .. => true
  | .waitIn _ => true
  | .driveIn _ _ _ => true
  | .parityOut _ _ => true
  | .parityFull _ _ _ _ => true
  | .slabRead _ _ _ => true
  | .cacheRead _ _ => true
  | .rowCache _ _ => true
  | .pullRead _ _ => true
  | .endpointIn _ _ _ => true
  | _ => false

/-- The pool of the cell's bed suits the transfer: pulled payload lands in a bed of pool 1 (R72), any other block in one of 4 KiB
or more. -/
def Job.poolOk (j : Job) (pool : Nat) : Bool :=
  match j with
  | .payloadIn .. => pool == 1
  | _ => !j.needsBed || (decide (1 ≤ pool) && decide (pool ≤ 4))

/-- A fill ahead of demand: ready only while no demand transfer of its class is (R125). -/
def Job.isFill : Job → Bool
  | .cacheFill .. => true
  | .driveIn (.fill ..) _ _ => true
  | _ => false

/-- A read-room pull by its number. -/
def State.pull? (s : State) (id : Nat) : Option RoomPull := s.ce.pulls.find? fun p => p.id == id

/-- Change a read-room pull. -/
def State.modPull (id : Nat) (f : RoomPull → RoomPull) (s : State) : State :=
  s.modCe fun c => { c with pulls := modFirst (fun p => p.id == id) f c.pulls }

/-- The room key of an index. -/
def State.roomKey (s : State) (ix : Nat) : Nat := (s.tr.rooms.find? fun r => r.index == ix).elim 0 Room.key

/-- The operation a transfer belongs to, as filters see it (R537), and its address in a sample (R539). -/
def State.opOf (s : State) (j : Job) : OpInfo × Nat :=
  match j.pullOf with
  | some (p, i) =>
    match s.pull? p with
    | some x =>
      let b := x.blocks.getD i {}
      ({ kind := 0, qpn := x.qpn, nsid := b.nsid, room := s.roomKey x.room, address := b.lba, slot := s.slotNow }, 4096 * i)
    | none => ({}, 0)
  | none =>
    match j with
    | .roomIn ix off _ _ _ _ =>
      let owner := (s.tr.rooms.find? fun r => r.index == ix).elim 0 (·.owner)
      ({ kind := 1, qpn := owner, room := s.roomKey ix, address := off, slot := s.slotNow }, off)
    | _ =>
      match s.cmd? j.arrival with
      | some c =>
        let lba := j.lbaOf.getD c.cap.slba
        let room := if c.cap.src != .endpoint && c.cap.sub == 0xF then c.cap.key else 0
        ({ kind := if c.cap.op = .read then 0 else if c.cap.op = .write then 1 else 2, arrival := c.arrival,
           qpn := c.cap.qpn, assoc := c.assoc, sqid := c.cap.sqid, nsid := c.cap.nsid, room := room, address := lba,
           slot := c.slot },
         if room = 0 then lba else c.cap.address + 4096 * (lba - c.cap.slba))
      | none => ({}, 0)

/-- The provisional entry the data of a transfer comes from, promoted or cancelled since or not: that of the entry a CACHE_RD cell
reads, or of the bed a PARITY_IN cell reads (R129, R130). -/
def State.provSource (s : State) (j : Job) : Option (Nat × Nat) :=
  match j with
  | .rowCache id m => (s.job? id).map fun x => (x.nsid, cacheLba (s.ns x.nsid) x.stripe m x.row)
  | .parityIn _ _ bed _ => (s.bed bed).provisional
  | _ => none

/-- The provisional entry a transfer consumes: its counts are held pending (R130, R535). -/
def State.provOf (s : State) (j : Job) : Option (Nat × Nat) :=
  (s.provSource j).filter fun p => match s.cacheAt p.1 p.2 with | some e => !e.confirmed | none => false

/-- A transfer consumes what a cancelled entry left: its counts are dropped (R130). -/
def State.provDead (s : State) (j : Job) : Bool :=
  match j with
  | .parityIn .. => (s.provSource j).any fun p => (s.cacheAt p.1 p.2).isNone
  | _ => false

/-! ### The cell itself (R32, R35, R39 to R41, R64, R65, R393) -/

/-- The timetable runs: the sequencer fires cells (R29, R30, R38, R64). -/
def State.firing (s : State) : Bool := s.md.mode != .vigil && s.tt.legStarted && !s.clk.musterHalted

/-- A transfer may go in a cell: its class, its operation class, its units, its time (R39). -/
def Transfer.fits (t : Transfer) (c : CellWord) (now : Nat) : Bool :=
  t.cls == c.berth && t.opc == c.opc && (t.src.all (· == c.src)) && (t.snk.all (· == c.snk)) && decide (t.notBefore ≤ now)

/-- The earlier of two transfers: readiness, then arrival sequence, then the order they became ready in (R39). -/
def Transfer.before (a b : Transfer) : Bool :=
  decide (a.notBefore < b.notBefore) || (a.notBefore == b.notBefore && decide (a.seq < b.seq))

/-- The earliest of a list. -/
def earliest (l : List Transfer) : Option Transfer :=
  l.foldl (fun m t => match m with | some x => if t.before x then some t else m | none => some t) none

/-- The transfer a cell carries: the earliest ready one, fills ahead of demand last (R39, R125). -/
def State.choose (s : State) (c : CellWord) (ok : Transfer → Bool) : Option Transfer :=
  let l := s.ce.ready.filter fun t =>
    t.fits c s.slotNow && t.job.poolOk c.pool && ok t
  match earliest (l.filter fun t => !t.job.isFill) with
  | some t => some t
  | none => earliest l

/-- A unit event of both ends of a cell (R533). -/
def State.cellEvent (c : CellWord) (ev n : Nat) (o : OpInfo) (prov : Option (Nat × Nat)) (s : State) : State :=
  (s.unitEvent c.src ev 0 n c.berth o prov).unitEvent c.snk ev 0 n c.berth o prov

/-- The bed drawn for a cell returns to its free store (R393). -/
def State.returnBed (bed : Option Nat) (s : State) : State := match bed with | some h => s.freeOwned h | none => s

/-- A cell runs empty (R40, R393). -/
def State.runEmpty (c : CellWord) (bed : Option Nat) (s : State) : State :=
  ((s.returnBed bed).tick Obj.tt_class_run_empty (c.berth + 1)).cellEvent c 3 1 {} none

/-- A cell fails its check (R41): it runs empty, its bed returned, counted for the class that the vault copy gives it; it is counted
and logged under a code no rule gives, and loaded from the vault copy at the next leg boundary. -/
def State.cellBad (slot lane word : Nat) (c : CellWord) (bed : Option Nat) (s : State) : State :=
  let code := 0xA000 + s.freeVal 12
  let place := (s.tt.leg, slot, lane)
  let s1 := (s.drawn.tick Obj.tt_cell_check_errors).record 5 code [(4, s.tt.leg), (4, slot), (4, lane)]
  let s2 := if s1.tt.pattern = .image then
      (s1.modStore 1 fun x => { x with flaws := assign x.flaws place word }).modTt fun t => { t with reload := addNew t.reload place }
    else s1
  if c.opc = Opc.none then s2 else s2.runEmpty c bed

/-- The bed the porter drew for the cell's porter port in the slot before; it is taken (R392, R394).  Where no DRAW came for the
port, the cell's draw is made here: its owner is the unit that is no pool. -/
def State.takeDrawn (c : CellWord) (s : State) : Option Nat × State :=
  if 4 < c.pool ∨ c.kind ≠ 1 then (none, s)
  else if s.po.missed.contains c.client then
    (none, s.modPo fun q => { q with missed := q.missed.filter (· != c.client) })
  else
    match s.po.drawn.find? fun p => p.1 == c.client with
    | some p => (some p.2, s.modPo fun q => { q with drawn := q.drawn.filter fun x => x.1 != c.client })
    | none =>
      let ph := c.pool * 2 + (c.snk - 0x38) % 2
      match s.po.draw ph c.src with
      | some (h, p) => (some h, s.modPo fun _ => p)
      | none => (none, s.drawFailed ph)

/-- A push-room packet whose draw failed is dropped (R277, R281). -/
def State.dropRoomIn (t : Transfer) (s : State) : State :=
  match t.job with
  | .roomIn _ _ _ _ frame _ =>
    ((s.modCe fun c => { c with ready := dropFirst (fun x => x == t) c.ready }).tick Obj.tr_waiting_room_drops).releaseFrame frame
  | _ => s

/-- A transfer goes: the cell is counted as used, with its bytes and its sample, and the transfer leaves the ready list (R39,
R533, R539). -/
def State.cellUsed (c : CellWord) (slot lane word : Nat) (t : Transfer) (bed : Option Nat) (s : State) : State :=
  let o := s.opOf t.job
  let prov := s.provOf t.job
  let n := if t.job.isBlock then 4096 else s.freeVal 12 + 1
  let x : Sample :=
    { leg := s.tt.legCount, slot := slot, lane := lane, cell := BitVec.ofNat 64 word, arrival := o.1.arrival, nsid := o.1.nsid,
      room := o.1.room, address := o.2, age := if o.1.arrival = 0 then 0 else (s.slotNow + 1 - o.1.slot) * 80,
      wait := (s.slotNow - t.notBefore) * 80 }
  let s0 := if t.job.isBlock then s else s.drawn
  let s1 := (s0.modCe fun e => { e with ready := dropFirst (fun y => y == t) e.ready }).tick Obj.tt_class_used (c.berth + 1)
  let s2 := if bed.isSome then s1.tick Obj.po_draws (c.pool + 1) else s1
  if s.provDead t.job then s2 else (s2.cellEvent c 5 n o.1 prov).sampleCell c.src c.snk lane x c.berth o.1 prov

/-- What a family of cells adds to the shared course of a cell. -/
structure CellWork where
  /-- The unit at either end can take the transfer now. -/
  ok : CellWord → State → Transfer → Bool := fun _ _ _ => true
  /-- What comes about before the choice. -/
  before : CellWord → State → State := fun _ s => s
  /-- The effect of the transfer, with the cell's bed. -/
  run : CellWord → Transfer → Option Nat → State → State

/-- The place of a cell that has not fired in the present leg (R12, R32). -/
def State.unfired (s : State) (slot lane : Nat) : Bool :=
  decide (lane < 64) && decide (slot < 64) &&
    (decide (s.tt.slot < slot) || (s.tt.slot == slot && !s.tt.fired.contains lane))

/-- A cell of an operation class fires at its place (R32, R38 to R41, R64, R65).  The word is what the sequencer reads from SRAM: that
of the pattern in force, or one that fails its check.  At any other place the pattern holds no such cell, and nothing fires. -/
def State.fire (opc slot lane word : Nat) (w : CellWork) (s : State) : State :=
  let c := cellWord (s.cellAt slot lane)
  let good := cellChkGood word
  if !s.firing || !s.unfired slot lane || c.opc != opc || (good && word != s.cellRead slot lane) then s
  else
    let s0 := s.modTt fun t => { t with slot := slot, fired := (if t.slot = slot then t.fired else []) ++ [lane] }
    let d := s0.takeDrawn c
    let bed := d.1
    if !good then d.2.cellBad slot lane word c bed
    else if opc = Opc.none then d.2
    else
      let s1 := (d.2.unitEvent c.src 1 0 1 c.berth {} none).unitEvent c.snk 2 0 1 c.berth {} none
      if s.tt.closedUnits.contains c.src || s.tt.closedUnits.contains c.snk then
        ((s1.returnBed bed).tick Obj.tt_class_closed (c.berth + 1)).cellEvent c 4 1 {} none
      else
        let s2 := w.before c s1
        match s2.choose c (w.ok c s2) with
        | none => s2.runEmpty c bed
        | some t =>
          if c.pool ≤ 4 ∧ bed.isNone then (s2.dropRoomIn t).runEmpty c none
          else w.run c t bed (s2.cellUsed c slot lane word t bed)

/-! ### NET_IN (R72, R74, R276, R281, R377) -/

/-- A NET_IN transfer is ready: its frame has ended, or passes under cut-through on a link of 800 Gb/s or the sister link (R379). -/
def okNetIn (_ : CellWord) (s : State) (t : Transfer) : Bool :=
  match t.job.frameOf.bind s.frame? with
  | some f => f.ended || (f.passed && (s.link f.link).rate == 800000)
  | none => true

/-- The transfer of a NET_IN cell. -/
def runNetIn (_ : CellWord) (t : Transfer) (bed : Option Nat) (s : State) : State :=
  match t.job, bed with
  | .payloadIn a lba d bad f e, some h => s.pulledIn a lba h f t.notBefore d bad e
  | .roomIn ix off d bad f e, some h =>
    (((s.fillBed h d bad true).modBed h fun b => { b with frame := f, esp := e }).placeRoom ix off h).releaseFrame f
  | .waitIn tag, some h =>
    match s.tr.waiting.find? fun w => w.tag == tag with
    | some w => (s.waitFilled tag h).releaseFrame w.packet.frame
    | none => s.freeOwned h
  | .frameIn f, b => (s.returnBed b).releaseFrame f
  | _, b => s.returnBed b

/-! ### NET_OUT (R109, R117, R303, R369) -/

/-- The connection a transfer to a network port uses. -/
def State.outConn (s : State) (j : Job) : Option Conn :=
  match j with
  | .blockOut a _ => match s.cmd? a with | some c => s.conn? c.cap.qpn | none => none
  | .pullOut p _ => match s.pull? p with | some x => s.conn? x.qpn | none => none
  | _ => none

/-- A NET_OUT transfer is ready: its connection may send and its egress buffer takes the frame (R303, R369); its port is the
cell's sink. -/
def okNetOut (bytes : Nat) (c : CellWord) (s : State) (t : Transfer) : Bool :=
  match s.outConn t.job with
  | some n => n.maySend && c.snk == 1 + n.port && s.egressReady n.link (s.get Obj.sw_roce_tc) bytes
  | none => false

/-- A block of a Read leaves (R109, R110, R50). -/
def State.blockSent (a lba bytes : Nat) (s : State) : State :=
  match s.cmd? a with
  | none => s
  | some c =>
    match c.blk? lba, s.conn? c.cap.qpn with
    | some b, some n =>
      let h := b.bed.getD 0
      let s1 := (s.emit (.rdmaWrite c.cap.qpn (c.cap.address + 4096 * (lba - c.cap.slba)) c.cap.key (s.waypointFor c.cap.qpn 4096) (s.bed h).esp
        (s.bed h).data)).sendFrame
        n.link (s.get Obj.sw_roce_tc) bytes false none
      let s2 := ((s1.txMove c.cap.qpn bytes).freeOwned h).modBlk a lba fun x => { x with stage := .done, bed := none }
      (s2.pathEnds 1 c lba).readDone a
    | _, _ => s

/-- A room pull's blocks have all left: its message ends, and Reads whose every block has been pulled release their pins (R117,
R118, R267). -/
def State.pullEnds (x : RoomPull) (s : State) : State :=
  let s1 := (s.modCe fun c => { c with pulls := c.pulls.filter fun p => p.id != x.id }).modConn x.qpn fun c =>
    { c with reads := c.reads - 1 }
  s1.modRoom x.room fun r => { r with openMsgs := r.openMsgs - 1 }

/-- A block of a read room leaves (R117, R118). -/
def State.pullSent (p i bytes : Nat) (s : State) : State :=
  match s.pull? p with
  | none => s
  | some x =>
    let b := x.blocks.getD i {}
    match s.conn? x.qpn with
    | none => s
    | some n =>
      let h := b.bed.getD 0
      let s1 := (s.emit (.roomData x.qpn (4096 * i) (s.waypointFor x.qpn 4096) (s.bed h).esp (s.bed h).data)).sendFrame n.link
        (s.get Obj.sw_roce_tc) bytes false none
      let f (y : RoomPull) : RoomPull := { y with blocks := y.blocks.modify i fun q => { q with left := true, bed := none } }
      let s2 := ((s1.txMove x.qpn bytes).freeOwned h).modPull p f
      let mark (r : RoomRead) : RoomRead := if r.arrival = b.arrival then { r with pulled := addNew r.pulled b.lba } else r
      let s3 := s2.modCe fun c => { c with roomReads := c.roomReads.map mark }
      -- every pin of a Read that takes no more has been pulled
      let done (r : RoomRead) : Bool := r.arrival == b.arrival && ((s3.cmd? r.arrival).all fun c => c.status.isSome) &&
        s3.ce.cache.all fun e => !e.pins.contains r.arrival || r.pulled.contains e.lba
      let s4 := (s3.ce.roomReads.filter done).foldl (fun t r => t.unpin r.arrival) s3
      let s5 := s4.modCe fun c => { c with roomReads := c.roomReads.filter fun r => !done r }
      match s5.pull? p with
      | some y => if y.blocks.all (·.left) then s5.pullEnds y else s5
      | none => s5

/-- The transfer of a NET_OUT cell. -/
def runNetOut (bytes : Nat) (_ : CellWord) (t : Transfer) (bed : Option Nat) (s : State) : State :=
  match t.job with
  | .blockOut a lba => (s.returnBed bed).blockSent a lba bytes
  | .pullOut p i => (s.returnBed bed).pullSent p i bytes
  | _ => s.returnBed bed

/-! ### CIPHER (R76, R77, R83, R109, R405, R413 to R420) -/

/-- The keys of a read-room block: its namespace's, and the outbound key of its connection (R117, R412). -/
def State.pullKeys (s : State) (x : RoomPull) (b : PullBlock) : List DerivedKey :=
  [s.xtsKey b.nsid, espKey x.qpn 2 (s.espCount x.qpn 2 none)]

/-- The core of a CIPHER cell. -/
def CellWord.core (c : CellWord) : Nat := c.snk - 0x20

/-- The cipher request of a transfer (R412), with the cores that returned its block (R420). -/
def State.reqOf (s : State) (j : Job) : Option (CipherReq × List Nat) :=
  match j with
  | .cipherBlock a lba =>
    match s.cipherReq? a lba, (s.cmd? a).bind (·.blk? lba) with
    | some r, some b => some (r, b.cores)
    | _, _ => none
  | .pullCipher p i =>
    match s.cy.reqs.find? fun r => r.pull == some (p, i), s.pull? p with
    | some r, some x => some (r, (x.blocks.getD i {}).cores)
    | _, _ => none
  | _ => none

/-- A request goes to a core. -/
def State.assignCore (core : Nat) (r : CipherReq) (s : State) : State :=
  s.modCy fun y => { y with reqs := modFirst (fun x => x == r) (fun x => { x with core := some core }) y.reqs }

/-- A request whose data is in its bed would go to the core of a CIPHER cell: it has none yet, the cell is of its class and half, and the
core takes it (R414, R415, R420). -/
def State.wouldAssign (s : State) (c : CellWord) (t : Transfer) : Option CipherReq :=
  match s.reqOf t.job with
  | some (r, tried) => if r.core.isNone && t.fits c s.slotNow && s.coreTakes c.core c.tap r tried && s.coreRoom c.core r then some r else none
  | none => none

/-- Each request goes to the core of the earliest CIPHER cell of its class whose source is the bed's half and whose core takes it: the
first that comes (R414, R415). -/
def State.assignCores (c : CellWord) (s : State) : State :=
  s.ce.ready.foldl (fun t x => match t.wouldAssign c x with | some r => t.assignCore c.core r | none => t) s

/-- A request assigned to the cell's core may go in the cell, its keys left out (R414, R419). -/
def coreFits (c : CellWord) (s : State) (t : Transfer) : Bool :=
  match s.reqOf t.job with
  | some (r, tried) => r.core == some c.core && s.coreTakes c.core c.tap r tried
  | none => false

/-- Both keys of a request are there (R414). -/
def keysThere (s : State) (t : Transfer) : Bool :=
  match s.reqOf t.job with
  | some (r, _) => s.keysHeld r
  | none => false

/-- The cell's earliest request whose keys are late is a miss (R414). -/
def State.lateKeys (c : CellWord) (s : State) : State :=
  match s.choose c (coreFits c s) with
  | some t => if keysThere s t then s else s.tick Obj.cy_key_late
  | none => s

/-- A block streams into its stripe's accumulator (R83, R157): P and Q of its row. -/
def Accum.take (lay : BitVec 16) (lba : Nat) (data : Block) (m : Accum) : Accum :=
  let row := stripBlock lay lba
  { m with p := assign m.p row (lookup m.p row 0 ^^^ data),
           q := assign m.q row (lookup m.q row 0 ^^^ gfPow (memberIx lay lba) data), taken := addNew m.taken lba }

/-- Change an accumulator set. -/
def State.modAccum (a stripe : Nat) (f : Accum → Accum) (s : State) : State :=
  s.modPe fun p => { p with accums := modFirst (fun m => m.arrival == a && m.stripe == stripe) f p.accums }

/-- An accumulator set. -/
def State.accum? (s : State) (a stripe : Nat) : Option Accum := s.pe.accums.find? fun m => m.arrival == a && m.stripe == stripe

/-- A stripe is complete in its accumulator: its P and Q become ready two slots on (R83, R158). -/
def State.accumFull (c : Cmd) (m : Accum) (s : State) : State :=
  (List.range (layS (s.ns c.cap.nsid).layout)).foldl (fun t r =>
    [false, true].foldl (fun u q =>
      u.pushAt (s.slotNow + 2) c.classOf Opc.parityOut (some m.unit) none c.arrival (.parityFull c.arrival m.stripe r q)) t) s

/-- An encrypted block of a full-stripe part enters the accumulator from the tap; of a discarded accumulation nothing is taken
until every block has passed, and then every block goes through PARITY_IN (R77, R83). -/
def State.tapIn (c : Cmd) (p : Part) (lba : Nat) (data : Block) (tapped : Bool) (s : State) : State :=
  let lay := (s.ns c.cap.nsid).layout
  match s.accum? c.arrival p.stripe with
  | none => s
  | some m =>
    let s1 : State := if m.discarded || !tapped then s.modAccum c.arrival p.stripe fun m => { m with discarded := true }
      else (s.modAccum c.arrival p.stripe (Accum.take lay lba data)).tick Obj.pe_unit_in_blocks (m.unit - 0x30 + 1)
    match s1.accum? c.arrival p.stripe, s1.cmd? c.arrival with
    | some m1, some d =>
      let mine := d.blocks.filter fun b => inSpan b.lba (p.first, p.blocks)
      if m1.discarded then
        if mine.all fun b => b.stage == .ciphered then
          let s2 := s1.modAccum c.arrival p.stripe fun x => { x with p := [], q := [], taken := [] }
          mine.foldl (fun t b => t.push d.classOf Opc.parityIn (b.bed.map bedUnit) (some m1.unit) c.arrival
            (.parityTapIn c.arrival b.lba)) s2
        else s1
      else if p.blocks ≤ m1.taken.length then s1.accumFull d m1 else s1
    | _, _ => s1

/-- A pass on a block of a write is good: its ciphertext is back in its bed, which holds no transport ciphertext any more (R76, R83,
R85). -/
def State.writePassed (c : Cmd) (lba bed : Nat) (data : Block) (tapped : Bool) (s : State) : State :=
  let s1 := (s.modBed bed fun b => { b with data := data, tagged := false }).modBlk c.arrival lba fun b => { b with stage := .ciphered }
  match c.partOf lba with
  | some p => if p.full then
      -- path 2: its stages end here, up to the issue of the last member write (R49, R50)
      let s2 := match c.blk? lba with | some b => s1.boundCheck (pathFixed 2) c b | none => s1
      s2.tapIn c p lba data tapped
    else s1.push c.classOf Opc.cacheWr (some (bedUnit bed)) none c.arrival (.slabWrite c.arrival lba)
  | none => s1

/-- A pass on a block of a Read is good: it leaves next, under its packet's sequence number (R109, R506). -/
def State.readPassed (c : Cmd) (lba bed : Nat) (data : Block) (esp : Nat × Nat) (s : State) : State :=
  let s1 := (s.modBed bed fun b => { b with data := data, esp := esp }).modBlk c.arrival lba fun b => { b with stage := .ciphered }
  if c.cap.src = .endpoint then
    s1.push c.classOf Opc.endpoint (some (bedUnit bed)) (some 6) c.arrival (.endpointOut c.arrival lba)
  else s1.push c.classOf Opc.netOut (some (bedUnit bed)) (some (1 + c.port)) c.arrival (.blockOut c.arrival lba)

/-- One cipher pass (R76, R77, R109, R405, R416, R417): a GHASH check that fails, a missing transport tag or a poisoned bed
poisons the block. -/
def State.cipherPass (a lba core : Nat) (good : Bool) (s : State) : State :=
  match s.cmd? a, s.cipherReq? a lba with
  | some c, some r =>
    match c.blk? lba with
    | none => s
    | some b =>
      let h := b.bed.getD 0
      let bed := s.bed h
      let s1 := ((r.keys.foldl (fun t k => t.loadKey core k) s).tick Obj.cy_core_passes (core + 1)).dropReq a lba
      let ghash := r.op == 1 && (!good || !bed.tagged)
      if ghash || bed.poison then
        let s2 := if ghash then (s1.tick Obj.cy_ghash_failures).modCy fun y => { y with ghashFails := y.ghashFails ++ [c.assoc] } else s1
        s2.poisonBlock a lba
      else
        -- an outbound block takes the next sequence number of its connection (R269)
        let s2 := if r.op = 2 then s1.takeSeq c.cap.qpn else s1
        let esp := if r.op = 2 then s2.espNow c.cap.qpn else bed.esp
        let d := s.passData r.op c.cap.nsid lba b.zero (s.conn? c.cap.qpn) esp bed.data
        if c.cap.op = .write then s2.writePassed c lba h d r.tap.isSome else s2.readPassed c lba h d esp
  | _, _ => s

/-- The request of a read-room block ends. -/
def State.dropPullReq (p i : Nat) (s : State) : State :=
  s.modCy fun y => { y with reqs := y.reqs.filter fun r => r.pull != some (p, i) }

/-- The pass of a read-room block (R117). -/
def State.pullPass (p i core : Nat) (s : State) : State :=
  match s.pull? p with
  | none => s
  | some x =>
    let b := x.blocks.getD i {}
    match b.bed, s.conn? x.qpn with
    | some h, some n =>
      let s1 := ((((s.pullKeys x b).foldl (fun t k => t.loadKey core k) s).tick Obj.cy_core_passes (core + 1)).dropPullReq p i).takeSeq
        x.qpn
      let esp := s1.espNow x.qpn
      let d := s.passData 2 b.nsid b.lba b.zero (some n) esp (s.bed h).data
      (s1.modBed h fun q => { q with data := d, esp := esp }).push x.cls Opc.netOut (some (bedUnit h)) (some (1 + n.port)) 0 (.pullOut p i)
    | _, _ => s

/-- The transfer of a CIPHER cell. -/
def runCipher (good : Bool) (c : CellWord) (t : Transfer) (bed : Option Nat) (s : State) : State :=
  match t.job with
  | .cipherBlock a lba => (s.returnBed bed).cipherPass a lba c.core good
  | .pullCipher p i => (s.returnBed bed).pullPass p i c.core
  | _ => s.returnBed bed

/-! ### DRIVE_IN (R95, R108, R125, R159) -/

/-- The member block of a host LBA, or of the name of a block of P or Q, passes its trailer check (R108). -/
def State.hostTrailerOk (s : State) (nsid lba : Nat) (data : Block) (trl : Trailer) : Bool :=
  let n := s.ns nsid
  let p := cachePlace n lba
  trailerGood trl data (s.stripeGen n p.1 p.2.1) n.layout.toNat p.2.1

/-- The reconstruction of a block ends without a result: its member read answered first (R341). -/
def State.dropRecon (a lba : Nat) (s : State) : State :=
  (s.pe.jobs.filter fun j => j.use == .recon a lba).foldl (fun t j => t.dropJob j.id) s

/-- The member of a Read's block is an erasure, `bad` where its present drive returned it unreadable: its reconstruction starts, once no
apply of its row is in progress (R108, R111, R112, R114); one that already runs goes on. -/
def State.memberErased (a lba : Nat) (bad : Bool) (s : State) : State :=
  match s.cmd? a with
  | some c =>
    let n := s.ns c.cap.nsid
    let x := memberIx n.layout lba
    let s0 := s.modBlk a lba fun b => { b with unread := b.unread || bad }
    if (s.pe.jobs.any fun j => j.use == .recon a lba) then
      if bad then s0.modPe fun p => { p with
        jobs := modFirst (fun j => j.use == .recon a lba) (fun j => { j with unread := addNew j.unread x }) p.jobs } else s0
    else if ((c.blk? lba).any fun b => b.stage == .blocked) then s0
    else if s.rowApplying c.cap.nsid (stripeOf n.layout lba) (stripBlock n.layout lba) then
      (s0.modBlk a lba fun b => { b with stage := .blocked, hedged := true, applyWait := true }).count
        Obj.ce_read_apply_waits 0 (if (c.blk? lba).any (·.applyWait) then 0 else 1)
    else ((s0.modBlk a lba fun b => { b with hedged := true }).startRecon a lba (bad || (c.blk? lba).any (·.unread))).readDone a
  | none => s

/-- A member read of a Read has its data (R106, R108, R111). -/
def State.memberIn (a lba bed : Nat) (data : Block) (trl : Trailer) (s : State) : State :=
  match s.cmd? a with
  | some c =>
    match c.blk? lba with
    | some b =>
      if b.stage ≠ .sourcing ∧ !(b.stage = .blocked ∧ b.hedged) then s.freeOwned bed
      else if s.hostTrailerOk c.cap.nsid lba data trl then
        ((s.fillBed bed data false true).dropRecon a lba).blockInBed a lba bed (tZero trl)
      else ((s.freeOwned bed).tick Obj.ce_read_unreadable).memberErased a lba true
    | none => s.freeOwned bed
  | none => s.freeOwned bed

/-- The entry a fill, known by its number, is to fill (R125, R128). -/
def State.fill? (s : State) (no : Nat) : Option CacheEntry := s.ce.cache.find? fun e => e.filling && e.no == no

/-- A fill ended without making an entry (R125, R131). -/
def State.fillGone (no : Nat) (s : State) : State :=
  s.modCe fun c => { c with cache := dropFirst (fun e => e.filling && e.no == no) c.cache }

/-- A fill has its data: it goes on to its entry (R125), is discarded where it was cancelled (R128), and makes no entry where its
trailer fails. -/
def State.fillIn (nsid lba cls no bed : Nat) (data : Block) (trl : Trailer) (s : State) : State :=
  match s.fill? no with
  | some e =>
    if e.cancelled || !s.hostTrailerOk nsid lba data trl then (s.freeOwned bed).fillGone no
    else
      let set (x : CacheEntry) : CacheEntry := { x with zero := tZero trl }
      let s1 := s.modCe fun c => { c with cache := modFirst (fun x => x == e) set c.cache }
      (s1.fillBed bed data false true).push cls Opc.cacheWr (some (bedUnit bed)) none 0 (.cacheFill nsid lba bed no)
  | none => s.freeOwned bed

/-- A member block of a row is unreadable (`bad`), or its member has become absent; a Read whose block is lost by it may be over (R111,
R113, R169). -/
def State.rowUnread (id m : Nat) (bad : Bool) (s : State) : State :=
  match s.job? id with
  | some j => match j.use with
    | .recon a _ => (s.rowErase id m bad).readDone a
    | _ => s.rowErase id m bad
  | none => s

/-- A member block of a row job is in its bed: checked, and on its way into the unit (R95, R108, R159). -/
def State.rowIn (id m bed : Nat) (data : Block) (trl : Trailer) (s : State) : State :=
  match s.job? id with
  | some j =>
    let n := s.ns j.nsid
    if !j.want.contains m then s.freeOwned bed
    else if trailerGood trl data (s.stripeGen n j.stripe m) n.layout.toNat m then
      (s.fillBed bed data false true).push j.cls Opc.parityIn (some (bedUnit bed)) j.unit 0 (.parityIn id m bed trl)
    else (((s.freeOwned bed).tick Obj.pe_trailer_rejects).count Obj.pe_patrol_trailer_faults 0
      (if j.use = .patrol then 1 else 0)).rowUnread id m true
  | none => s.freeOwned bed

/-- 4 KiB of a descriptor copy have come in (R197): behind its header, where that is one of a descriptor, the rest is read; with the
last sector the copy is whole. -/
def State.descIn (bay w place : Nat) (s : State) : State :=
  let same (e : DescRead) : Bool := e.copy.bay == bay && e.wing == w && e.place == place
  match s.lg.descReads.find? same with
  | none => s
  | some e =>
    let put (x : DescRead) : State := s.modLg fun l => { l with descReads := modFirst same (fun _ => x) l.descReads }
    if 1 < e.left then
      (put { e with left := e.left - 1 }).push Bc.ledger Opc.driveIn (some (rootUnit bay)) none 0
        (.driveIn (.descRead w place 1) (e.copy.desc.sector (ceilDiv e.copy.length 4096 - e.left + 1)) 0#128)
    else if e.rest then put { e with left := 0, whole := true }
    else if e.copy.known && decide (1 < ceilDiv e.copy.length 4096) then
      (put { e with left := 0 }).issueDrive { bay := bay, queue := 10, op := .read, nsid := w, lba := place * 65536 + 1,
                                              blocks := ceilDiv e.copy.length 4096 - 1, use := .descRead w place 1 }
    else s.modLg fun l => { l with descReads := dropFirst same l.descReads }

/-- The transfer of a DRIVE_IN cell. -/
def runDriveIn (_ : CellWord) (t : Transfer) (bed : Option Nat) (s : State) : State :=
  match t.job, bed with
  | .driveIn (.blockRead a lba) d trl, some h => s.memberIn a lba h d trl
  | .driveIn (.fill nsid lba cls no) d trl, some h => s.fillIn nsid lba cls no h d trl
  | .driveIn (.row id m) d trl, some h => s.rowIn id m h d trl
  | .driveIn (.descRead w p _) _ _, b => (s.returnBed b).descIn (t.src.getD 8 - 8) w p
  | _, b => s.returnBed b

/-! ### DRIVE_OUT (R81, R98, R197) -/

/-- A sector of a member write, or 4 KiB of a descriptor, reaches its root port; its bed returns. -/
def State.sectorOut (bay queue cid : Nat) (c : CellWord) (s : State) : State :=
  match s.driveCmd? bay queue cid with
  | none => s
  | some d =>
    let bed := d.beds.find? fun h => bedUnit h == c.src
    let f (x : DriveCmd) : DriveCmd := { x with
      toMove := x.toMove - 1, beds := match bed with | some h => dropFirst (· == h) x.beds | none => x.beds }
    let i := d.blocks - d.toMove
    let s0 := match d.use with
      | .descriptor _ => s.emit (.sector bay queue cid (d.lba + i) ((s.descOf d.nsid).sector i) (Config.descMeta d.nsid (d.lba + i)))
      | _ => match d.sectors[i]? with
        | some x => s.emit (.sector bay queue cid x.lba x.data x.trl)
        | none => s
    let s1 := (s0.returnBed bed).modDriveCmd bay queue cid f
    match d.use with
    | .descriptor _ => if 1 < d.toMove then
        s1.push Bc.ledger Opc.driveOut none (some (rootUnit bay)) 0 (.driveOut bay queue cid) else s1
    | _ => s1

/-- The transfer of a DRIVE_OUT cell. -/
def runDriveOut (c : CellWord) (t : Transfer) (bed : Option Nat) (s : State) : State :=
  match t.job with
  | .driveOut bay queue cid => (s.returnBed bed).sectorOut bay queue cid c
  | _ => s.returnBed bed

/-! ### PARITY_IN and PARITY_OUT (R77, R83, R129, R157 to R159, R568) -/

/-- A PARITY_IN transfer is ready: its row job exists in the cell's unit, or one of its 64 is free (R157, R568). -/
def okParityIn (c : CellWord) (s : State) (t : Transfer) : Bool :=
  match t.job with
  | .parityIn id _ _ _ => match s.job? id with
    | some j => j.unit == some c.snk || (j.unit.isNone && decide (s.unitJobs c.snk < 64))
    | none => true
  | .parityTapIn _ _ => true
  | _ => false

/-- Transfers held for a row job are counted, each once (R157, R160). -/
def State.rowWaits (c : CellWord) (s : State) : State :=
  if s.unitJobs c.snk < 64 then s
  else s.ce.ready.foldl (fun t x => match x.job with
    | .parityIn id m _ _ =>
      if x.fits c s.slotNow then
        match t.job? id with
        | some j =>
          if j.unit.isNone && !j.waited.contains m then (t.modJob id fun q => { q with waited := q.waited ++ [m] }).tick Obj.pe_row_job_waits
          else t
        | none => t
      else t
    | _ => t) s

/-- A member block enters its row job (R157). -/
def State.parityTaken (id m bed unit : Nat) (trl : Trailer) (s : State) : State :=
  match s.job? id with
  | some _ =>
    let b := s.bed bed
    let f (x : RowJob) : RowJob := { x with
      unit := some unit, prov := match b.provisional with | some p => addNew x.prov p | none => x.prov }
    (((s.modJob id f).tick Obj.pe_unit_in_blocks (unit - 0x30 + 1)).freeOwned bed).rowInput id m b.data trl
  | none => s.freeOwned bed

/-- A block of a discarded accumulation enters its set again from its bed (R77). -/
def State.tapAgain (a lba unit : Nat) (s : State) : State :=
  match s.cmd? a with
  | some c =>
    match c.blk? lba, c.partOf lba with
    | some b, some p =>
      let d := (s.bed (b.bed.getD 0)).data
      let s1 := (s.modAccum a p.stripe (Accum.take (s.ns c.cap.nsid).layout lba d)).tick Obj.pe_unit_in_blocks (unit - 0x30 + 1)
      match s1.accum? a p.stripe with
      | some m => if p.blocks ≤ m.taken.length then
          (s1.modAccum a p.stripe fun x => { x with discarded := false }).accumFull c m else s1
      | none => s1
    | _, _ => s
  | none => s

/-- The transfer of a PARITY_IN cell. -/
def runParityIn (c : CellWord) (t : Transfer) (bed : Option Nat) (s : State) : State :=
  match t.job with
  | .parityIn id m h trl => (s.returnBed bed).parityTaken id m h c.snk trl
  | .parityTapIn a lba => (s.returnBed bed).tapAgain a lba c.snk
  | _ => s.returnBed bed

/-- Before a PARITY_OUT cell, the results it could carry settle their provisional inputs: promoted, or taken anew (R129, R158). -/
def State.settleResults (c : CellWord) (s : State) : State :=
  s.ce.ready.foldl (fun t x => match x.job with
    | .parityOut id _ => if x.fits c s.slotNow then (t.provSettle id).2 else t
    | _ => t) s

/-- P or Q of a full stripe leaves its accumulator; the set is free once all have (R83, R157). -/
def State.fullOut (a stripe row : Nat) (isQ : Bool) (bed : Nat) (s : State) : State :=
  match s.accum? a stripe with
  | some m =>
    let data := if isQ then lookup m.q row 0 else lookup m.p row 0
    let rows := match s.cmd? a with | some c => layS (s.ns c.cap.nsid).layout | none => 0
    let f (x : Accum) : Accum :=
      let y := if isQ then { x with qOut := x.qOut ++ [(row, bed)] } else { x with pOut := x.pOut ++ [(row, bed)] }
      { y with freed := decide (2 * rows ≤ y.pOut.length + y.qOut.length) }
    (s.fillBed bed data false true).modAccum a stripe f
  | none => s.freeOwned bed

/-- A result is ready for a PARITY_OUT cell: its row job is in the cell's unit; a job that has read nothing takes one of its 64 (R156,
R568). -/
def okParityOut (c : CellWord) (s : State) (t : Transfer) : Bool :=
  match t.job with
  | .parityOut id _ => match s.job? id with
    | some j => j.unit == some c.src || (j.unit.isNone && decide (s.unitJobs c.src < 64))
    | none => true
  | _ => true

/-- A job that has read nothing takes its unit, which emits every result of it (R568). -/
def State.rowUnit (id unit : Nat) (s : State) : State :=
  if (s.job? id).any fun j => j.unit.isNone then
    (s.modJob id fun j => { j with unit := some unit }).modCe fun c => { c with ready := c.ready.map fun t => match t.job with
      | .parityOut i _ => if i = id then { t with src := some unit } else t
      | _ => t }
  else s

/-- The transfer of a PARITY_OUT cell. -/
def runParityOut (c : CellWord) (t : Transfer) (bed : Option Nat) (s : State) : State :=
  match t.job, bed with
  | .parityOut id m, some h => ((s.rowUnit id c.src).tick Obj.pe_unit_out_blocks (c.src - 0x30 + 1)).rowResult id m h
  | .parityFull a st r q, some h => (s.tick Obj.pe_unit_out_blocks (c.src - 0x30 + 1)).fullOut a st r q h
  | _, b => s.returnBed b

/-- A reconstructed block of a Read that reached its bed goes on to its cipher pass or its pin (R109, R111, R116). -/
def State.reconsOn (t : Transfer) (s : State) : State :=
  match t.job with
  | .parityOut _ _ =>
    s.ce.cmds.foldl (fun u c => c.blocks.foldl (fun v b =>
      if c.cap.op = .read ∧ b.stage = .inBed ∧ (v.ce.ready.all fun x =>
          x.job != .cipherBlock c.arrival b.lba && x.job != .roomPin c.arrival b.lba) = true then
        -- all-zero stored bytes are those of a sector written with ZERO (R417; log entry 41)
        match b.bed with | some h => v.blockInBed c.arrival b.lba h ((v.bed h).data == 0) | none => v
      else v) u) s
  | _ => s

/-! ### CACHE_RD (R106, R107, R117, R129) -/

/-- A block comes from the protected slab (R106); a waybill applied or freed meanwhile is no source any more. -/
def State.slabIn (a lba sealNo bed : Nat) (s : State) : State :=
  match s.cmd? a with
  | some c =>
    match s.lg.recs.find? fun r => r.nsid == c.cap.nsid && r.sealNo == sealNo && r.usable a lba with
    | some r => (s.fillBed bed (r.blockAt lba) false true).blockInBed a lba bed r.zero
    | none => ((s.freeOwned bed).modBlk a lba fun b => { b with stage := .blocked }).fixBlock a lba
  | none => s.freeOwned bed

/-- A block comes from the stripe cache (R106); an entry removed meanwhile is no source any more. -/
def State.cacheIn (a lba bed : Nat) (s : State) : State :=
  match s.cmd? a with
  | some c =>
    match s.cacheAt c.cap.nsid lba with
    | some e => (s.fillBed bed e.data false true).blockInBed a lba bed e.zero
    | none => ((s.freeOwned bed).modBlk a lba fun b => { b with stage := .blocked }).fixBlock a lba
  | none => s.freeOwned bed

/-- A provisional entry stands in for a member block of a row job (R129, R168); a cancelled one is read from its member. -/
def State.rowCached (id m bed : Nat) (s : State) : State :=
  match s.job? id with
  | some j =>
    let n := s.ns j.nsid
    let lba := cacheLba n j.stripe m j.row
    match s.cacheAt j.nsid lba with
    | some e =>
      let trl := mkTrailer 0 (s.stripeGen n j.stripe m) n.layout.toNat m { zero := e.zero } e.data
      let s1 := (s.fillBed bed e.data false true).modBed bed fun b => { b with
        provisional := if e.confirmed then none else some (j.nsid, lba) }
      s1.push j.cls Opc.parityIn (some (bedUnit bed)) j.unit 0 (.parityIn id m bed trl)
    | none => if (s.rowAt j m).isNone then (s.freeOwned bed).rowUnread id m false else (s.freeOwned bed).askMember id m
  | none => s.freeOwned bed

/-- A pinned block comes for a read-room pull, under the content it started with (R117, R118). -/
def State.pullIn (p i bed : Nat) (s : State) : State :=
  match s.pull? p with
  | some x =>
    let b := x.blocks.getD i {}
    let f (y : RoomPull) : RoomPull := { y with blocks := y.blocks.modify i fun q => { q with bed := some bed } }
    let s1 := ((s.fillBed bed b.data false true).modPull p f)
    let keys := s.pullKeys x b
    let r : CipherReq := { lba := b.lba, op := 2, keys := keys, pull := some (p, i) }
    ((keys.foldl (fun t k => t.wantKey k) s1).modCy fun y => { y with reqs := y.reqs ++ [r] }).push x.cls Opc.cipher
      (some (bedUnit bed)) none 0 (.pullCipher p i)
  | none => s.freeOwned bed

/-- The transfer of a CACHE_RD cell. -/
def runCacheRd (_ : CellWord) (t : Transfer) (bed : Option Nat) (s : State) : State :=
  match t.job, bed with
  | .slabRead a lba n, some h => s.slabIn a lba n h
  | .cacheRead a lba, some h => s.cacheIn a lba h
  | .rowCache id m, some h => s.rowCached id m h
  | .pullRead p i, some h => s.pullIn p i h
  | _, b => s.returnBed b

/-! ### CACHE_WR (R85, R116, R125) -/

/-- A CACHE_WR transfer is ready: an entry to be pinned finds room in the cache (R116, R127). -/
def okCacheWr (_ : CellWord) (s : State) (t : Transfer) : Bool :=
  match t.job with
  | .roomPin a lba => match s.cmd? a with
    | some c => (s.cacheAt c.cap.nsid lba).isSome || decide (s.cacheRoom.ce.cache.length < s.cacheBlocks)
    | none => true
  | _ => true

/-- A block enters the protected slab; the last one of its piece seals the waybill (R85). -/
def State.slabIn' (a lba : Nat) (s : State) : State :=
  match s.cmd? a with
  | some c =>
    match c.blk? lba with
    | some b =>
      let h := b.bed.getD 0
      let d := (s.bed h).data
      let s1 := (s.freeOwned h).modBlk a lba fun x => { x with slabbed := true, data := d, bed := none }
      let cls := c.classOf
      -- a class of path 3 has path 4 while its wing's copy path is the journal zones (R90)
      let s2 := if imgPath s.activeImage cls = 3 ∧ (s.wing (s.ns c.cap.nsid).wing).copyPath = .journalZones then
          s1.boundCheck (pathFixed 4) c b else s1.pathEnds 4 c lba
      s2.sealPiece a b.piece
    | none => s
  | none => s

/-- A fill becomes a provisional entry, the most recently filled one (R125, R127). -/
def State.fillDone (no bed : Nat) (s : State) : State :=
  let d := (s.bed bed).data
  let s1 := s.freeOwned bed
  match s1.fill? no with
  | some e =>
    if e.cancelled then s1.fillGone no
    else (s1.modCe fun c => { c with
      cache := { e with data := d, filling := false } :: dropFirst (fun x => x == e) c.cache }).tick Obj.ce_prov_fills
  | none => s1

/-- A write-kind command accepted after a Read covers a block of it: the index names no entry of the content the Read returns (R123,
R128). -/
def State.writeAfter (s : State) (c : Cmd) (lba : Nat) : Bool :=
  s.ce.cmds.any fun d => decide (c.arrival < d.arrival) && d.writeKind && d.cap.nsid == c.cap.nsid && d.ranges.any (inSpan lba)

/-- A block of a read-room Read becomes a confirmed entry and is pinned (R116); after a later write's acceptance the entry serves its pin
alone (R118, R123). -/
def State.pinIn (a lba : Nat) (s : State) : State :=
  match s.cmd? a with
  | some c =>
    match c.blk? lba with
    | some b =>
      let h := b.bed.getD 0
      let d := (s.bed h).data
      let s1 := (s.freeOwned h).modBlk a lba fun x => { x with bed := none }
      let e : CacheEntry := { nsid := c.cap.nsid, lba := lba, data := d, zero := b.zero, confirmed := true }
      if s.writeAfter c lba then
        let s2 := if s1.ce.roomReads.any fun r => r.arrival == a then s1.cacheInsert { e with cancelled := true, pins := [a] } else s1
        (s2.modBlk a lba fun x => { x with stage := .done, released := true }).readDone a
      else
        let s2 : State := match s1.cacheAt c.cap.nsid lba with
          | some _ => s1.cachePromote c.cap.nsid lba
          | none => (s1.cacheCancelProv c.cap.nsid lba).cacheInsert e
        (s2.pinBlock a lba).readDone a
    | none => s
  | none => s

/-- The transfer of a CACHE_WR cell. -/
def runCacheWr (_ : CellWord) (t : Transfer) (bed : Option Nat) (s : State) : State :=
  match t.job with
  | .slabWrite a lba => (s.returnBed bed).slabIn' a lba
  | .cacheFill _ _ h no => (s.returnBed bed).fillDone no h
  | .roomPin a lba => (s.returnBed bed).pinIn a lba
  | _ => s.returnBed bed

/-! ### CONTEXT, ENDPOINT, DUMP (R275, R278, R506, R538) -/

/-- The transfer of a CONTEXT cell: a fetch comes from an HBM channel, a spill goes to one (R563). -/
def runContext (_ : CellWord) (t : Transfer) (bed : Option Nat) (s : State) : State :=
  match t.job with
  | .contextFetch q => (s.returnBed bed).fetchMoved q
  | .contextSpill q => (s.returnBed bed).spillMoved q
  | _ => s.returnBed bed

/-- A CONTEXT transfer runs in its own direction (R563). -/
def okContext (c : CellWord) (_ : State) (t : Transfer) : Bool :=
  match t.job with
  | .contextFetch _ => c.snk == 0x52
  | .contextSpill _ => c.src == 0x52
  | _ => false

/-- A block of an endpoint Write is in its bed (R506). -/
def State.endpointArrived (a lba bed : Nat) (data : Block) (s : State) : State :=
  match s.cmd? a with
  | some c =>
    ((s.fillBed bed data false true).modBlk a lba fun b => { b with stage := .inBed, bed := some bed, t0 := s.slotNow }).push
      c.classOf Opc.cipher (some (bedUnit bed)) none a (.cipherBlock a lba)
  | none => s.freeOwned bed

/-- A block of an endpoint Read goes to host memory (R506). -/
def State.endpointSent (a lba : Nat) (s : State) : State :=
  match s.cmd? a with
  | some c =>
    match c.blk? lba with
    | some b =>
      let h := b.bed.getD 0
      let s1 := (s.emit (.epWrite (c.cap.spans lba) (s.bed h).data)).freeOwned h
      (s1.modBlk a lba fun x => { x with stage := .done, bed := none }).readDone a
    | none => s
  | none => s

/-- The transfer of an ENDPOINT cell. -/
def runEndpoint (_ : CellWord) (t : Transfer) (bed : Option Nat) (s : State) : State :=
  match t.job, bed with
  | .endpointIn a lba d, some h => s.endpointArrived a lba h d
  | .endpointOut a lba, b => (s.returnBed b).endpointSent a lba
  | _, b => s.returnBed b

/-- An ENDPOINT write to host memory needs Bus Master Enable, D0 and the address of its page (R503, R505, R515). -/
def okEndpoint (_ : CellWord) (s : State) (t : Transfer) : Bool :=
  match t.job with
  | .endpointOut a lba => s.ep.busMaster && !s.ep.d3 && !(s.epListOut a && (s.cmd? a).any fun c => c.cap.inList lba)
  | _ => true

/-- The transfer of a DUMP cell. -/
def runDump (_ : CellWord) (t : Transfer) (bed : Option Nat) (s : State) : State :=
  match t.job with
  | .dump _ => (s.returnBed bed).dumpMoved
  | _ => s.returnBed bed

/-! ### CONTROL (R35, R72, R109, R118, R122) -/

/-- A CONTROL transfer is ready: an RDMA READ request counts against its connection's rate when it is sent (R303). -/
def okControl (_ : CellWord) (s : State) (t : Transfer) : Bool :=
  match t.job with
  | .pullRequest a _ => match s.cmd? a with
    | some c => match s.conn? c.cap.qpn with | some n => n.maySend | none => false
    | none => false
  | .response _ => true
  | .reply _ => true
  | _ => false

/-- An RDMA READ request goes to the host, as a packet whose answer the connection waits for (R72, R75, R298, R300, R303). -/
def State.pullAsked (a lba : Nat) (s : State) : State :=
  match s.cmd? a with
  | some c =>
    let psn := match s.conn? c.cap.qpn with | some n => n.txPsn | none => 0
    let s1 := (s.emit (.rdmaRead c.cap.qpn (c.cap.address + 4096 * (lba - c.cap.slba)) c.cap.key 4096
      (s.waypointFor c.cap.qpn 4096))).modBlk a lba fun b =>
      { b with psn := psn }
    let s2 := s1.txPacket c.cap.qpn 4096
    match s.conn? c.cap.qpn with | some n => s2.sendControl n | none => s2
  | none => s

/-- The pins of a read-room Read at its response (R110, R116, R118): kept until they are released; older ones it overlaps go. -/
def State.roomAnswered (c : Cmd) (s : State) : State :=
  if c.cap.op ≠ .read ∨ c.cap.sub ≠ 0xF ∨ c.cap.src = .endpoint then s
  else
    match s.ce.roomReads.find? fun r => r.arrival == c.arrival with
    | none => s.tick Obj.ce_room_reads
    | some r =>
      let older (x : RoomRead) : Bool := x.room == r.room && decide (x.arrival < r.arrival) &&
        decide (x.offset < r.offset + 4096 * r.blocks) && decide (r.offset < x.offset + 4096 * x.blocks)
      let s1 := (s.ce.roomReads.filter older).foldl (fun t x => t.unpin x.arrival) s
      let mark (x : RoomRead) : RoomRead := if x.arrival = c.arrival then { x with answered := true } else x
      (s1.modCe fun e => { e with roomReads := (e.roomReads.filter fun x => !older x).map mark }).tick Obj.ce_room_reads

/-- A completion leaves: a response capsule on the connection, or an entry of the endpoint's queue (R109, R505). -/
def State.sendCompletion (r : Reply) (qpn : Nat) (inval : Option Nat) (s : State) : State :=
  match r.src with
  | .endpoint => s.epComplete r
  | _ =>
    let s1 := s.emit (.capsule r.src r.sqid r.cid r.status r.dw0 r.data inval)
    match s1.conn? qpn with
    | some n => (s1.sendControl n).txPacket qpn 64
    | none => s1

/-- What a completion lets go on: capsules that waited for a range-table entry, reservation commands, deletions, shutdowns (R119,
R311, R333, R336). -/
def State.afterCompletion (s : State) : State := s.rangeFree.resPass.nsDeletePass.shutdownPass.settle

/-- The response of a command is sent and its range-table entry removed (R109, R110, R122, R331). -/
def State.responseSent (a : Nat) (s : State) : State :=
  match s.cmd? a with
  | some c =>
    match c.status with
    | some st =>
      let inval := if c.cap.src != .endpoint && c.cap.sub == 1 && (c.cap.op == .read || c.cap.op == .write) then some c.cap.key else none
      let r : Reply := { src := c.cap.src, sqid := c.cap.sqid, cid := c.cap.cid, status := st, dw0 := c.dw0, data := c.answer }
      let s1 := (s.sendCompletion r c.cap.qpn inval).roomAnswered c
      let s2 := s1.modCe fun e => { e with cmds := e.cmds.filter fun d => d.arrival != a }
      (s2.logError c.cap.src c.cap.sqid c.cap.cid st).afterCompletion
    | none => s
  | none => s

/-- The connection a reply goes out on. -/
def State.replyQpn (s : State) (src : CmdSrc) : Nat :=
  match src with
  | .conn q => q
  | .assoc i => (s.adminConn i).elim 0 (·.qpn)
  | .endpoint => 0

/-- A reply leaves; an Abort's ends its place among the outstanding Aborts (R326). -/
def State.replySent (r : Reply) (s : State) : State :=
  let s1 := (s.sendCompletion r (s.replyQpn r.src) none).modCe fun e => { e with
    aborts := dropFirst (fun x => x == (r.src.ix, r.cid)) e.aborts }
  s1.logError r.src r.sqid r.cid r.status

/-- The transfer of a CONTROL cell. -/
def runControl (_ : CellWord) (t : Transfer) (bed : Option Nat) (s : State) : State :=
  match t.job with
  | .pullRequest a lba => (s.returnBed bed).pullAsked a lba
  | .response a => (s.returnBed bed).responseSent a
  | .reply r => (s.returnBed bed).replySent r
  | _ => s.returnBed bed

end Sys2Proof.Machine
end

