-- ==== Sys2Proof/Machine/Drives.lean ====
section
/-! DEFINITION. Towards the drives: completions, hedges, timeouts, containment, examination, and the placement events that follow
(R149 to R155, R340 to R345, R383, R569, R570). -/

namespace Sys2Proof.Machine

/-! ### Critical warnings (R317, R318) -/

/-- A new Critical Warning bit since `before` raises an event of SMART type; its information and log page are those of NVM
Express (R318; log entry 42). -/
def State.raiseWarnings (s before : State) : State :=
  s.allAssocs.foldl (fun t i =>
    match t.assoc? i, before.assoc? i with
    | some a, some b =>
      let new := (List.range 8).filter fun k => bit (s.warning a) k && !bit (before.warning b) k
      new.foldl (fun u k => u.raiseOn i 1 (if k = 1 then 1 else if k = 0 then 2 else 0) 2) t
    | _, _ => t) s

/-! ### Placement events (R149 to R152, R569) -/

/-- Change the placement of a wing. -/
def State.modPlace (w : Nat) (f : Placement → Placement) (s : State) : State := s.modPlaces fun l => modWing l w f

/-- The namespaces of a wing in ascending extent base (R180). -/
def State.wingNs (s : State) (w : Nat) : List Namespace := sortBy (·.base) (s.ce.namespaces.filter fun n => n.wing == w)

/-- Strips of a row that an event at the end of a log leaves without a place (R150, R151). -/
def unplacedBy (n : Namespace) (row : Nat) (log : List LogEntry) (e : LogEntry) : Nat :=
  let rm := rowAfter n row log
  let after := rowEvent n row rm e
  ((rm.at_.filter fun p => match p.2 with | some q => q.1 == e.bay | none => false).filter fun p =>
    (after.place p.1.1 p.1.2).isNone).length

/-- Enter a LOSS in a wing's log with the next generation (R149, R150, R151). -/
def State.enterLoss (w bay : Nat) (s : State) : State :=
  let p := s.place w
  let e : LogEntry := { gen := genNext p.gen, loss := true, bay := bay, start := s.gh.now }
  let un := sumN ((s.wingNs w).map fun n => sumN ((List.range n.rows).map fun row => unplacedBy n row p.effLog e))
  let f (q : Placement) : Placement := { q with
    gen := e.gen, log := q.log ++ [e], pendingLoss := q.pendingLoss.filter (· != bay) }
  let s1 := (s.modPlace w f).modRb fun r => { r with reorder := true }
  (if 0 < un then s1.record 5 0x7104 [(1, w), (1, bay), (8, un)] else s1).descRequest

/-- A bay becomes lost in a wing held (R149, R569): its LOSS is entered while the log has an entry free, else it waits. -/
def State.loseBay (w bay : Nat) (s : State) : State :=
  let drop (q : Placement) : Placement := { q with waitingReturn := q.waitingReturn.filter (· != bay) }
  if (s.place w).lostBay bay then s.modPlace w drop
  else
    let s1 := (s.modPlace w drop).modLg fun l => { l with rehome := addNew l.rehome bay }
    if (s1.place w).log.length < 64 then s1.enterLoss w bay
    else ((s1.modPlace w fun q => { q with pendingLoss := addNew q.pendingLoss bay }).modRb fun r => { r with reorder := true }).record 6
      0x7107 [(1, w), (1, bay), (1, 64)]

/-- LOSS events that wait are entered as entries free (R569). -/
def State.enterPending (w : Nat) (s : State) : State :=
  (s.place w).pendingLoss.foldl (fun t b => if (t.place w).log.length < 64 then t.enterLoss w b else t) s

/-- RETURN_EVENT (R149, R569): a RETURN for an accepted drive in a lost bay, once 25 entries are free. -/
def State.enterReturn (w bay : Nat) (s : State) : State :=
  let p := s.place w
  if s.holdsWing w && p.waitingReturn.contains bay && s.bayInUse bay && decide (p.log.length + 25 ≤ 64) &&
      !p.pendingLoss.contains bay then
    let e : LogEntry := { gen := genNext p.gen, loss := false, bay := bay, start := s.gh.now }
    let f (q : Placement) : Placement := { q with
      gen := e.gen, log := q.log ++ [e], waitingReturn := q.waitingReturn.filter (· != bay) }
    ((s.modPlace w f).modRb fun r => { r with reorder := true }).descRequest
  else s

/-- RETURN_EVENT. -/
def execReturnEvent (wing bay : Nat) (s : State) : Host.Outcome State Fault Refusal := .next (s.enterReturn wing bay)

/-! ### What a drive command's end means to its issuer -/

/-- A full-stripe member write has ended (R81, R89); its command may be acknowledged. -/
def State.memberWritten (a stripe m : Nat) (s : State) : State :=
  let f (p : Part) : Part := { p with writing := p.writing.filter (· != m) }
  let s1 := s.modCmd a fun c => { c with parts := modFirst (fun p => p.full && p.stripe == stripe) f c.parts }
  -- the last present member's write releases the blocks of the part (R121)
  match (s1.cmd? a).bind fun c => c.parts.find? fun p => p.full && p.stripe == stripe && p.issued && p.writing.isEmpty && !p.fault with
  | some p =>
    let g (b : BlockSt) : BlockSt := if inSpan b.lba (p.first, p.blocks) then { b with released := true } else b
    s1.modCmd a fun c => { c with blocks := c.blocks.map g }
  | none => s1

/-- With fewer than k members left present, the stripe of a full-stripe part is not written: the part completes with Write
Fault (R84, R344). -/
def State.stripeShort (a stripe : Nat) (s : State) : State :=
  match s.cmd? a with
  | some c =>
    let n := s.ns c.cap.nsid
    let f (p : Part) : Part := { p with fault := true }
    if layW n.layout - (s.absent n stripe).length < layK n.layout then
      s.modCmd a fun c => { c with parts := modFirst (fun p => p.full && p.stripe == stripe) f c.parts }
    else s
  | none => s

/-- A result of a row job has reached its member, or its member counts as absent (R96, R97). -/
def State.rowWritten (id m : Nat) (s : State) : State :=
  (s.modJob id fun j => { j with writing := dropFirst (· == m) j.writing }).endJob id

/-- A bay no longer takes its copy of a journal record: the record holds its items once the copy is re-homed (R202, R204, R383). -/
def State.journalGone (w jseq bay : Nat) (s : State) : State :=
  if (s.lg.jrecs.any fun r => r.wing == w && r.jseq == jseq && r.pending.contains bay) then
    ((s.modLg fun l => { l with rehome := addNew l.rehome bay }).tick Obj.sw_mcast_reset).record 4 0x3007
      [(1, 6), (1, 16 + bay), (1, 1)]
  else s

/-- A copy of a descriptor cannot be read: what came in of it is dropped (R197). -/
def State.descLost (bay w place : Nat) (s : State) : State :=
  s.modLg fun l => { l with descReads := l.descReads.filter fun e => !(e.copy.bay == bay && e.wing == w && e.place == place) }

/-- A descriptor copy's header, or what follows it, has been read from a drive (R197): its DRIVE_IN cells, one per 4 KiB, are ready. -/
def State.descArrived (d : DriveCmd) (w place part : Nat) (c : Option DescCopy) (s : State) : State :=
  let s1 := s.descLost d.bay w place
  match c with
  | none => s1
  | some x =>
    let e : DescRead := { copy := { x with bay := d.bay }, wing := w, place := place, rest := part != 0, left := d.blocks }
    (s1.modLg fun l => { l with descReads := l.descReads ++ [e] }).push Bc.ledger Opc.driveIn (some (rootUnit d.bay)) none 0
      (.driveIn (.descRead w place part) (x.desc.sector part) 0#128)

/-- A command returns to its issuer with RESET, its drive contained (R344): reads reconstruct, writes count as to an absent
member. -/
def State.driveReset (bay : Nat) (u : DriveUse) (s : State) : State :=
  match u with
  | .blockRead a lba =>
    if ((s.cmd? a).bind (·.blk? lba)).any (fun b => b.stage == .sourcing) then s.memberErased a lba false else s
  | .fill _ _ _ no => s.fillGone no
  | .row id m => if ((s.job? id).any fun j => j.want.contains m) then s.rowUnread id m false else s
  | .rowWrite id m => s.rowWritten id m
  | .fullStripe a st m => (s.stripeShort a st).memberWritten a st m
  | .journal w j => s.journalGone w j bay
  | .descRead w p _ => s.descLost bay w p
  | .preempt w _ => s.modWingSt w fun x => { x with
      takeover := x.takeover.map fun t => { t with asked := t.asked.filter (· != bay) } }
  | _ => s

/-! ### Containment (R343, R344) -/

/-- Debounced presence of a bay (R435). -/
def State.bayPin (s : State) (bay : Nat) : Bool := ((s.gh.pins[bay]?).getD {}).present

/-- What the blocks a root port has delivered, and no DRIVE_IN cell has carried yet, are for (R344). -/
def State.arrivedFrom (s : State) (unit : Nat) : List DriveUse := s.ce.ready.filterMap fun t => match t.job with
  | .driveIn u _ _ => if t.src = some unit then some u else none
  | _ => none

/-- A contained bay is cut off: its root port's cells close at the next leg boundary, its commands and their transfers are gone, their
beds returned, and its drive, where there is one, is held contained with link and clock off (R343, R344, R548). -/
def State.cutBay (bay : Nat) (s : State) : State :=
  let unit := rootUnit bay
  let fromBay (t : Transfer) : Bool := match t.job with | .driveIn _ _ _ => t.src == some unit | _ => false
  let s1 := ((s.closeUnit unit).modDrives fun x => { x with cmds := x.cmds.filter fun c => c.bay != bay }).modCe fun c =>
    { c with ready := c.ready.filter fun t => !fromBay t }
  let s2 := s1.dropJobs fun j => match j with
    | .driveOut b _ _ => b == bay
    | .journal b _ _ => b == bay
    | _ => false
  let s3 := (s.drives.cmds.filter fun c => c.bay == bay).foldl (fun t c => c.beds.foldl (fun u h => u.freeOwned h) t) s2
  s3.modDrive bay fun x => { x with
    state := if s.bayPin bay then .contained else .empty, link := 0, linkHeld := true, refclk := false, registered := [],
    acquired := [], accepted := false }

/-- Contain a bay (R344).  Causes: 1 a command and its Abort that do not complete, 2 CSTS.CFS, 3 link down, 4 presence lost,
5 an uncorrectable error of the root port, 6 R234, 7 an operator, 8 a write that failed twice, 9 a root-port reset that did not
end in time (log entry 20). -/
def State.contain (bay cause : Nat) (s : State) : State :=
  let d := s.drive bay
  if 24 ≤ bay ∨ (d.state ≠ .inUse ∧ d.state ≠ .examining ∧ d.state ≠ .refused) then s
  else
    let mine := s.drives.cmds.filter fun c => c.bay == bay
    let unit := rootUnit bay
    let s4 := (s.cutBay bay).descGone bay
    let s5 := s4.heldWings.foldl (fun t w => t.loseBay w bay) s4
    let live := (mine.filter fun c => !c.discard).map (·.use)
    let waiting := s5.lg.jrecs.filter fun r => r.pending.contains bay && !(live.contains (.journal r.wing r.jseq))
    let s6 := waiting.foldl (fun t r => t.journalGone r.wing r.jseq bay) s5
    let s7 := (live ++ s.arrivedFrom unit).foldl (fun t u => t.driveReset bay u) s6
    let s8 := mine.foldl (fun t c => (t.driveCounted bay c.queue Oc.reset).returned unit Oc.reset) s7
    let s9 := (s8.tick Obj.ce_containments).record 6 0x6102 [(1, bay), (1, cause), (2, mine.length)]
    s9.settle.raiseWarnings s

/-- BAY_CONTAIN (R343): the drive or its port shows a cause of containment. -/
def execBayContain (bay cause : Nat) (s : State) : Host.Outcome State Fault Refusal := .next (s.contain bay cause)

/-- CE_BAY_CONTAIN (R343). -/
def execCeBayContain (cls value : Nat) (s : State) : Host.Outcome State Fault Refusal :=
  .next (s.trigger cls Obj.ce_bay_contain (decide (value < 24)) fun t => t.contain value 7)

/-! ### Completions (R340, R342) -/

/-- Repeat a write whole: its sectors are moved again (R234, R342). -/
def State.repeatWrite (d : DriveCmd) (s : State) : State :=
  let cid := s.drives.nextCid
  let s1 := s.issueDrive { d with beds := [], toMove := d.blocks, repeated := true, aborting := false, outstanding := true }
  let cls := match d.use with
    | .rowWrite id _ => match s.job? id with | some j => j.cls | none => Bc.ledger
    | .fullStripe a _ _ => match s.cmd? a with | some c => c.classOf | none => Bc.ledger
    | .patrolRewrite _ _ _ _ => Bc.patrol
    | _ => Bc.ledger
  let go (t : State) : State := t.push cls Opc.driveOut none (some (rootUnit d.bay)) 0 (.driveOut d.bay d.queue cid)
  match d.use with
  | .journal w j => s1.push Bc.ledger Opc.journal none (some (rootUnit d.bay)) 0 (.journal d.bay w j)
  | .descriptor _ => go s1
  | _ => (List.range d.blocks).foldl (fun t _ => go t) s1

/-- The standby key of a sister (R231). -/
def standbyKey (id : Nat) : Nat := id * 256 + 1

/-- The key a wing's registration carries: its claim where the wing is held or being taken, else the standby key (R231, R232). -/
def State.regKey (s : State) (w : Nat) : Nat :=
  match (s.wing w).takeover with
  | some t => if t.claim = 0 then standbyKey s.si.id else t.claim
  | none => if s.holdsWing w then (s.wing w).claim else standbyKey s.si.id

/-- The Host Identifier the controller sets on every drive: the first 16 bytes of the SHA3-512 of its device key (R232). -/
def hostIdent : Nat := leNat ((leBytes 64 (Config.sha3 Config.deviceKey).toNat).take 16)

/-- The key registered for a wing on a drive once the registrations under way are done. -/
def State.keyOn (s : State) (w bay : Nat) : Option Nat :=
  let due := s.drives.cmds.filterMap fun d => match d.arg with
    | .register _ _ k => if d.bay = bay ∧ d.nsid = w ∧ d.use = .keyRegister w then some k else none
    | _ => none
  match due.getLast? with
  | some k => some k
  | none => ((s.drive bay).registered.find? fun x => x.1 == w).map (·.2)

/-- Register a wing's key on a drive: in place of the key registered there, or as a first one (R231 to R233). -/
def State.registerKey (w bay : Nat) (s : State) : State :=
  let new := s.regKey w
  let arg : DriveArg := match s.keyOn w bay with
    | some k => .register 2 k new
    | none => .register 0 0 new
  s.issueDrive { bay := bay, queue := 0, op := .register, nsid := w, use := .keyRegister w, arg := arg }

/-- Acquire a wing's reservation on a drive, Write Exclusive, under its claim: in place of the holder's key where one was reported
(R232, R233; DESIGN CHOICE: with no holder it is a plain Acquire, log entry 115). -/
def State.acquireKey (w bay : Nat) (s : State) : State :=
  let held := match (s.wing w).takeover with | some t => lookup t.reports bay 0 | none => 0
  s.issueDrive { bay := bay, queue := 0, op := .acquire, nsid := w, use := .preempt w 2,
                 arg := .acquire (if held = 0 then 0 else 1) 1 (s.regKey w) held }

/-- A drive command belongs to an examination (R345). -/
def DriveUse.examining : DriveUse → Bool
  | .examine _ => true
  | .cacheOff _ _ _ _ => true
  | _ => false

/-- A drive is refused (R345).  Causes: 1 R339 or fewer than 12 I/O queues, 2 another shelf's descriptor, 3 content that is none
of the others, 4 a bound missed, 5 its volatile write cache not disabled (log entry 20). -/
def State.refuseDrive (bay cause : Nat) (s : State) : State :=
  ((s.modDrive bay fun x => { x with state := .refused }).modDrives fun x => { x with
    cmds := x.cmds.filter fun c => !(c.bay == bay && c.use.examining) }).record 5 0x6105 [(1, bay), (1, cause)]

/-- The wings a drive has a member namespace for (R140). -/
def State.memberWings (s : State) : List Nat := if s.paired then [1, 2] else [1]

/-- The controller's Host Identifier is set on a drive, and a registration is made for each wing of the shelf; in Muster the
registrations are made at step 10 (R232). -/
def State.registerDrive (bay : Nat) (s : State) : State :=
  let s1 := s.issueDrive { bay := bay, queue := 0, op := .feature, use := .hostIdent, arg := .hostId hostIdent }
  if s.md.mode = .muster ∧ s.md.step < 10 then s1 else s.memberWings.foldl (fun t w => t.registerKey w bay) s1

/-- The member namespaces of an accepted drive are created, of one size, with sectors of 4,096 bytes and 16 of metadata and without
protection information; what another shelf left there is deleted first (R140, R345). -/
def State.makeMembers (bay size : Nat) (wipe : Bool) (s : State) : State :=
  let s1 := if wipe then s.issueDrive { bay := bay, queue := 0, op := .delete, use := .nsDelete } else s
  s.memberWings.foldl (fun t w =>
    t.issueDrive { bay := bay, queue := 0, op := .create, nsid := w, use := .memberNs w, arg := .format size 4096 16 false }) s1

/-- A drive is accepted (R143, R345): in use, or not used where it is smaller than the recorded member size; in a lost bay its
RETURN waits (R569). -/
def State.acceptDrive (bay size link : Nat) (blank wipe : Bool) (s : State) : State :=
  let s1 := (s.modDrives fun x => { x with cmds := x.cmds.filter fun c => !(c.bay == bay && c.use.examining) }).record 4 0x6104
    [(1, bay), (1, link), (8, size)]
  let small := s.memberWings.any fun w => decide (size < s.get Obj.pe_member_size w)
  if small then
    ((s1.modDrive bay fun x => { x with state := .refused, link := link, memberSize := size }).record 5 0x7010 [(1, bay)])
  else
    let f (x : Drive) : Drive := { x with
      state := .inUse, link := link, memberSize := size, blank := blank, accepted := false, registered := [], acquired := [],
      hostId := 0, members := if blank then [] else s.memberWings.map fun w => (w, size) }
    let s2 := (s1.modDrive bay f).reopenUnit (rootUnit bay)
    let s3 := if blank then s2.makeMembers bay size wipe else s2
    let s4 := s3.heldWings.foldl (fun t w => if (t.place w).lostBay bay then
      t.modPlace w fun p => { p with waitingReturn := addNew p.waitingReturn bay } else t) s3
    s4.registerDrive bay

/-- An examined drive may be accepted: a volatile write cache is disabled with Set Features 0x06 first (R339). -/
def State.examineAccept (bay size link : Nat) (cache blank wipe : Bool) (s : State) : State :=
  if cache then
    let off : DriveCmd :=
      { bay := bay, queue := 0, op := .feature, use := .cacheOff size link blank wipe, arg := .cache false }
    (s.modDrives fun x => { x with cmds := x.cmds.filter fun c => !(c.bay == bay && c.use.examining) }).issueDrive off
  else s.acceptDrive bay size link blank wipe

/-- Data a drive returned waits for its DRIVE_IN cell (R108). -/
def State.readArrived (d : DriveCmd) (data : Block) (trl : Trailer) (s : State) : State :=
  let go (cls seq : Nat) : State :=
    s.push cls Opc.driveIn (some (rootUnit d.bay)) none seq (.driveIn d.use data trl)
  match d.use with
  | .blockRead a _ => match s.cmd? a with | some c => go c.classOf a | none => s
  | .fill _ _ cls _ => go cls 0
  | .row id _ => match s.job? id with | some j => go j.cls 0 | none => s
  | _ => s

/-- A drive command completed with success. -/
def State.driveGood (d : DriveCmd) (r : DriveData) (s : State) : State :=
  match d.use with
  | .blockRead _ _ => s.readArrived d r.data r.trl
  | .fill .. => s.readArrived d r.data r.trl
  | .row _ _ => s.readArrived d r.data r.trl
  | .rowWrite id m => s.rowWritten id m
  | .fullStripe a st m => s.memberWritten a st m
  | .journal w j =>
    let f (r : JRec) : JRec := { r with pending := r.pending.filter (· != d.bay) }
    s.modLg fun l => { l with jrecs := modFirst (fun r => r.wing == w && r.jseq == j) f l.jrecs }
  | .zoneRead w => s.modLg fun l => { l with
      replayReads := l.replayReads ++ (zoneCopies d.bay r.sectors).filter fun c => c.wing == w }
  | .descriptor _ => s.descDone d.bay
  | .descRead w p k => s.descArrived d w p k r.desc
  | .hostIdent => s.modDrive d.bay fun x => { x with hostId := hostIdent }
  | .nsDelete => s.modDrive d.bay fun x => { x with members := [] }
  | .cacheOff size link blank wipe =>
    if (s.drive d.bay).state = .examining then s.acceptDrive d.bay size link blank wipe else s
  | .memberNs w => s.modDrive d.bay fun x => { x with members := assign x.members w (match d.arg with | .format b _ _ _ => b | _ => 0) }
  | .keyRegister w =>
    let key := match d.arg with | .register _ _ k => k | _ => s.regKey w
    let s1 := s.modDrive d.bay fun x => { x with registered := assign x.registered w key }
    if key != standbyKey s.si.id && key == s.regKey w then
      let first (x : Wing) : Wing := if x.preemptStart = 0 then { x with preemptStart := s.gh.now } else x
      (s1.modWingSt w first).acquireKey w d.bay
    else s1
  | _ => s

/-- A drive command failed (R108, R342): a read's block is unreadable, a write is repeated once and then contains the bay. -/
def State.driveFailed (d : DriveCmd) (s : State) : State :=
  match d.use with
  | .blockRead a lba => (s.tick Obj.ce_read_unreadable).memberErased a lba true
  | .fill _ _ _ no => s.fillGone no
  | .row id m =>
    let s1 := s.count Obj.pe_patrol_trailer_faults 0 (if ((s.job? id).any fun j => j.use == .patrol) then 1 else 0)
    s1.rowUnread id m true
  | .zoneRead _ => s
  | .driveAbort _ => s
  | .examine _ => s
  | .keyRegister _ => s
  | .hostIdent => s
  | .descRead w p _ => s.descLost d.bay w p
  | .nsDelete => s
  | .cacheOff _ _ _ _ => if (s.drive d.bay).state = .examining then s.refuseDrive d.bay 5 else s
  | .memberNs _ => s
  | _ => if d.repeated then (s.driveReset d.bay d.use).contain d.bay 8 else s.repeatWrite d

/-- A drive returns a completion entry (R340): `good` with success, else with an error status or as aborted.  Completions of
Reservation Acquire and of an examination are commands of their own, and so is a Reservation Conflict (R233, R234, R345). -/
def State.driveCompletion (bay queue cid : Nat) (good : Bool) (r : DriveData) (s : State) : State :=
  match s.driveCmd? bay queue cid with
  | none => s
  | some d =>
    let own := match d.use with | .preempt _ _ => true | .reservationReport _ => true | .examine _ => true | _ => false
    if own || !d.outstanding || d.held || decide (0 < d.toMove) then s
    else
      -- no rule names the outcome code of a failed command that did not time out: a free value from 1 to 7 (log entry 43)
      let oc := if good then Oc.ok else if d.aborting then Oc.timeout else 1 + s.freeVal 3 % 7
      let s0 := d.beds.foldl (fun t h => t.freeOwned h) (s.drawn.dropDriveCmd bay queue cid)
      let s1 := s0.driveCounted bay queue oc
      if d.discard then s1.settle
      else if good then (s1.driveGood d r).settle
      else (s1.driveFailed d).settle

/-- DRIVE_COMPLETION. -/
def execDriveCompletion (bay queue cid : Nat) (good : Bool) (d : DriveData) (s : State) : Host.Outcome State Fault Refusal :=
  .next (if s.dark then s else s.driveCompletion bay queue cid good d)

/-- READ_HEDGE (R341): a member read of a host read is outstanding ce_read_hedge after its doorbell. -/
def execReadHedge (arrival lba : Nat) (s : State) : Host.Outcome State Fault Refusal :=
  let out := s.drives.cmds.any fun d => d.use == .blockRead arrival lba && d.outstanding && !d.discard
  let live := ((s.cmd? arrival).bind (·.blk? lba)).any fun b => b.stage == .sourcing && !b.hedged
  .next (if out && live && s.get Obj.ce_read_hedge != 0 then
    ((s.tick Obj.ce_hedged_reads).memberErased arrival lba false).settle
  else s)

/-! ### Timeouts (R342) -/

/-- The NVM command opcode of a drive command (record 0x6101). -/
def DriveCmd.opcode (d : DriveCmd) : Nat :=
  if d.queue = 0 then
    (match d.op with | .identify => 0x06 | .abort => 0x08 | .feature => 0x09 | .create => 0x0D | .delete => 0x0D | .register => 0x0D | .acquire => 0x11
                     | .report => 0x0E | _ => 0)
  else if d.op = .write then 1 else 2

/-- A command outlives its timeout and is aborted with a drive Abort (R342). -/
def State.driveTimeout (bay queue cid limit : Nat) (s : State) : State :=
  match s.driveCmd? bay queue cid with
  | some d =>
    let isAbort := match d.use with | .driveAbort _ => true | _ => false
    if d.aborting || isAbort || !d.outstanding || d.held then s
    else
      let s1 := (s.modDriveCmd bay queue cid fun x => { x with aborting := true }).issueDrive
        { bay := bay, queue := 0, op := .abort, use := .driveAbort cid }
      (s1.tick Obj.ce_drive_timeouts).record 4 0x6101 [(1, bay), (1, queue), (1, d.opcode), (4, limit / 1000000)]
  | none => s

/-- DRIVE_IO_TIMEOUT: ce_drive_io_timeout passes for a command of an I/O queue. -/
def execDriveIoTimeout (bay queue cid : Nat) (s : State) : Host.Outcome State Fault Refusal :=
  .next (if queue = 0 then s else s.driveTimeout bay queue cid (s.get Obj.ce_drive_io_timeout))

/-- DRIVE_ADMIN_TIMEOUT: ce_drive_admin_timeout passes for an admin command. -/
def execDriveAdminTimeout (bay cid : Nat) (s : State) : Host.Outcome State Fault Refusal :=
  .next (s.driveTimeout bay 0 cid (s.get Obj.ce_drive_admin_timeout))

/-- DRIVE_ABORT_WAIT_EXPIRY: neither the command nor its Abort completed within ce_drive_abort_wait. -/
def execDriveAbortWaitExpiry (bay queue cid : Nat) (s : State) : Host.Outcome State Fault Refusal :=
  let both := (match s.driveCmd? bay queue cid with | some d => d.aborting | none => false) &&
    s.drives.cmds.any fun d => d.bay == bay && d.use == .driveAbort cid
  .next (if both then s.contain bay 1 else s)

/-! ### Examination (R339, R345) -/

/-- The bay is lost in some wing held. -/
def State.bayLost (s : State) (bay : Nat) : Bool := s.heldWings.any fun w => (s.place w).lostBay bay

/-- Examination of a bay's drive starts: its link trains and Identify is issued (R345). -/
def State.examine (bay : Nat) (s : State) : State :=
  let f (x : Drive) : Drive := { x with state := .examining, linkHeld := false, refclk := true }
  (s.modDrive bay f).issueDrive { bay := bay, queue := 0, op := .identify, use := .examine 1 }

/-- DRIVE_EXAMINE: presence is asserted in a lost or empty bay. -/
def execDriveExamine (bay : Nat) (s : State) : Host.Outcome State Fault Refusal :=
  let d := s.drive bay
  .next (if bay < 24 ∧ s.bayPin bay ∧ s.md.mode ≠ .vigil ∧
      (d.state = .empty ∨ (s.bayLost bay ∧ d.state ≠ .inUse ∧ d.state ≠ .examining)) then s.examine bay else s)

/-- CE_BAY_RELEASE (R345): a bay whose drive is in use is not examined again. -/
def execCeBayRelease (cls value : Nat) (s : State) : Host.Outcome State Fault Refusal :=
  .next (s.trigger cls Obj.ce_bay_release (decide (value < 24)) fun t =>
    if t.bayPin value && (t.drive value).state != .inUse && (t.drive value).state != .examining then t.examine value else t)

/-- CE_BAY_ACCEPT (R345): a refused drive that carries another shelf's descriptor may be formatted; it is examined again. -/
def execCeBayAccept (cls value : Nat) (s : State) : Host.Outcome State Fault Refusal :=
  .next (s.trigger cls Obj.ce_bay_accept (decide (value < 24)) fun t =>
    let t1 := t.modDrive value fun x => { x with accepted := true }
    if t1.bayPin value && (t1.drive value).state == .refused then t1.examine value else t1)

/-- DRIVE_EXAMINE_DONE (R339, R345). -/
def execDriveExamineDone (bay size link : Nat) (fit queues cache : Bool) (content : DriveContent) (s : State) :
    Host.Outcome State Fault Refusal :=
  .next (if (s.drive bay).state ≠ .examining ∨ 24 ≤ bay ∨ (s.drives.cmds.all fun c => !(c.bay == bay && c.use == .examine 1)) = true then s
  else if !(fit && queues) then s.refuseDrive bay 1
  else match content with
    | .thisShelf => s.examineAccept bay size link cache false false
    | .blank => if s.get Obj.ce_auto_format = 1 then s.examineAccept bay size link cache true false else s.refuseDrive bay 3
    | .otherShelf => if (s.drive bay).accepted then s.examineAccept bay size link cache true true else s.refuseDrive bay 2
    | .invalid => s.refuseDrive bay 3)

/-- DRIVE_EXAMINE_TIMEOUT: training, CC.EN or the creation of queues missed its bound (R345). -/
def execDriveExamineTimeout (bay : Nat) (s : State) : Host.Outcome State Fault Refusal :=
  .next (if bay < 24 ∧ (s.drive bay).state = .examining then s.refuseDrive bay 4 else s)

end Sys2Proof.Machine
end

