-- ==== Sys2Proof/Machine/Rebuild.lean ====
section
/-! DEFINITION. Rebuild and the night watch: the order and the rate of rebuild work, held stripes and their completion, patrol and
rewrites (R152, R161 to R177, R180 to R188). -/

namespace Sys2Proof.Machine

/-! ### Due stripes (R161 to R164) -/

/-- The active image fires: rebuild and patrol work has its cells (R64, R570). -/
def State.imageFires (s : State) : Bool := s.tt.pattern == .image && s.tt.legStarted

/-- Running events that move a strip of a stripe and have its bit clear, each with the row map before it (R162, R163). -/
def runningFor (n : Namespace) (stripe : Nat) (log : List LogEntry) : List (RowMap × LogEntry) :=
  (withBefore n (stripe / 24) (rowHome n (stripe / 24)) log).filter fun x =>
    x.2.started && !x.2.done && !x.2.bits.contains (n.nsid, stripe) &&
    (List.range (layW n.layout)).any fun m => movesStrip n stripe m x.1 x.2

/-- Due stripes of a wing in ascending row and stripe; of its namespaces, those of the lower extent base first (R163, R170; log
entry 52). -/
def State.dueStripes (s : State) (w : Nat) : List (Nat × Nat) :=
  let log := (s.place w).effLog
  (s.wingNs w).flatMap fun n => ((List.range (nsStripes n)).filter fun c => !(runningFor n c log).isEmpty).map fun c =>
    (n.nsid, c)

/-- Due stripes of one event. -/
def State.eventDue (s : State) (w gen : Nat) : List (Nat × Nat) :=
  let log := (s.place w).effLog
  (s.wingNs w).flatMap fun n => ((List.range (nsStripes n)).filter fun c =>
    (runningFor n c log).any fun x => x.2.gen == gen).map fun c => (n.nsid, c)

/-- The tier of a due stripe by its absent strips (R170). -/
def State.tierOf (s : State) (nsid stripe : Nat) : Nat :=
  match (s.absent (s.ns nsid) stripe).length with
  | 0 => 3
  | 1 => 1
  | 2 => 0
  | _ => 2

/-- Two wings of one tier alternate, starting with the first list (R171). -/
def alternate {α : Type} : List α → List α → List α
  | [], b => b
  | a, [] => a
  | x :: a, y :: b => x :: y :: alternate a b

/-- The order of rebuild work (R170, R171). -/
def State.rebuildOrder (s : State) : List (Nat × Nat × Nat × Nat) :=
  let due (w : Nat) : List (Nat × Nat × Nat × Nat) :=
    if s.holdsWing w then (s.dueStripes w).map fun x => (s.tierOf x.1 x.2, w, x.1, x.2) else []
  (List.range 4).flatMap fun t => alternate ((due 1).filter fun x => x.1 == t) ((due 2).filter fun x => x.1 == t)

/-! ### Events that start and end (R152, R161, R163) -/

/-- The bits an event has from its start: stripes in which it moves no strip, or leaves unplaced every strip it moves (R163). -/
def startBits (n : Namespace) (log : List LogEntry) (e : LogEntry) : List (Nat × Nat) :=
  (List.range (nsStripes n)).filterMap fun c =>
    match (withBefore n (c / 24) (rowHome n (c / 24)) log).find? fun x => x.2 == e with
    | some x =>
      let after := rowEvent n (c / 24) x.1 e
      let moved := (List.range (layW n.layout)).filter fun m => movesStrip n c m x.1 e
      if moved.all (fun m => (after.place (c % 24) m).isNone) then some (n.nsid, c) else none
    | none => none

/-- Rebuild work of an event starts at the leg boundary after its entry (R161). -/
def State.startEvent (w : Nat) (e : LogEntry) (s : State) : State :=
  let log := (s.place w).effLog
  let b := (s.wingNs w).flatMap fun n => startBits n log e
  let f (x : LogEntry) : LogEntry := { x with started := true, bits := addNew' x.bits b }
  let s1 := s.modPlace w fun p => { p with log := modFirst (fun x => x.gen == e.gen) f p.log }
  s1.record 4 0x7100 [(1, w), (1, e.bay), (1, if e.loss then 1 else 2), (2, e.gen), (8, (s1.eventDue w e.gen).length)]
where
  addNew' (l b : List (Nat × Nat)) : List (Nat × Nat) := b.foldl addNew l

/-- The last event that moved a strip (R152, R154). -/
def lastMove (n : Namespace) (stripe m : Nat) (log : List LogEntry) : Option Nat :=
  (withBefore n (stripe / 24) (rowHome n (stripe / 24)) log).foldl
    (fun g x => if movesStrip n stripe m x.1 x.2 && x.2.setFor n.nsid stripe then some x.2.gen else g) none

/-- A done LOSS entry leaves the log at the completion of a RETURN: its bay has returned since, and it assigned no strip's
current location (R152). -/
def State.lossLeaves (s : State) (w : Nat) (e : LogEntry) : Bool :=
  let p := s.place w
  e.loss && e.done && (p.effLog.any fun r => !r.loss && r.done && r.bay == e.bay && genLater r.gen e.gen) &&
  (s.wingNs w).all fun n => (List.range (nsStripes n)).all fun c => (List.range (layW n.layout)).all fun m =>
    !(lastMove n c m p.effLog == some e.gen && (currentPlace n c m p.effLog).1.isSome)

end Sys2Proof.Machine

namespace Sys2Proof

/-- Entries leave the log (R152); once it is empty every strip is home, and nothing of the past counts. -/
def Placement.retire (gone : List LogEntry) (p : Placement) : Placement :=
  let log := p.log.filter fun x => !gone.any fun e => e.gen == x.gen
  { p with log := log, past := if log.isEmpty then [] else p.past ++ gone }

end Sys2Proof

namespace Sys2Proof.Machine

/-- An event is done (R152): a LOSS stays in the log as done; a RETURN records the home generation and leaves it, with the LOSS
entries no strip's location rests on. -/
def State.eventDone (w : Nat) (e : LogEntry) (s : State) : State :=
  let s0 := (s.record 3 0x7101 [(1, w), (1, e.bay), (1, if e.loss then 1 else 2), (2, e.gen),
    (4, (s.gh.now - e.start) / 1000000000)]).modRb fun r => { r with reorder := true }
  if e.loss then
    let f (x : LogEntry) : LogEntry := { x with done := true, bits := [] }
    (s0.modPlace w fun p => { p with log := modFirst (fun x => x.gen == e.gen) f p.log }).descRequest
  else
    let s1 := s0.modPlace w fun p => { p with
      home := p.home.set e.bay e.gen, log := p.log.filter (fun x => x.gen != e.gen),
      past := p.past ++ [{ e with done := true, bits := [] }] }
    let gone := (s1.place w).log.filter (s1.lossLeaves w)
    ((s1.modPlace w fun p => p.retire gone).enterPending w).descRequest

/-- Every started event of a wing with no due stripe left is done, losses first. -/
def State.eventsDone (w : Nat) (s : State) : State :=
  let pass (t : State) (loss : Bool) : State := (t.place w).log.foldl (fun u e =>
    if e.started && !e.done && e.loss == loss && (u.eventDue w e.gen).isEmpty then u.eventDone w e else u) t
  pass (pass s true) false

/-! ### Rate limits (R173, R174, R187, R327) -/

/-- The rebuild limit in force, MB/s. -/
def State.rebuildRate (s : State) : Nat :=
  let r := s.get Obj.pe_rebuild_rate
  if !s.rb.tier0.isEmpty then Nat.max r 90000 else if s.ce.ps = 1 then Nat.min r 45000 else r

/-- The leg's reads: in parts of 1/100 byte, a read costs 409,600 and the fraction of a read carries (R173). -/
def budgetAfter (left rate : Nat) : Nat := left % 409600 + rate * 512

/-- Issue reads of limited jobs while the budget lasts, oldest job first (R173, R187). -/
def State.limitedPump (use : RowUse) : Nat → State → State
  | 0, s => s
  | k + 1, s =>
    let left := if use = .patrol then s.rb.patrolBudget else s.rb.budget
    if left < 409600 then s
    else
      match s.pe.jobs.find? fun j => j.use == use && !j.issue.isEmpty with
      | some j =>
        let w := (s.ns j.nsid).wing
        let spend (r : RebuildSt) : RebuildSt :=
          if use = .patrol then { r with patrolBudget := r.patrolBudget - 409600 }
          else { r with budget := r.budget - 409600, readLog := r.readLog ++ [(s.tt.legCount, w)] }
        let m := j.issue.headD 0
        -- a member lost since the row was planned is an erasure, not a read (R175)
        if (s.rowAt j m).isNone && !s.rowFromCache j m then (s.rowErase j.id m false).limitedPump use k
        else ((s.askMember j.id m).modRb spend).limitedPump use k
      | none => s

/-- Reads still to be issued by limited jobs. -/
def State.limitedPump' (s : State) : State :=
  let todo := sumN (s.pe.jobs.map fun j => j.issue.length)
  (s.limitedPump .rebuild todo).limitedPump .patrol todo

/-! ### The patrol's course (R180, R181, R185) -/

/-- The live cursor of a wing. -/
def State.patrolCursor (s : State) (w : Nat) : Nat := s.rb.cursor.getD (w - 1) 0

/-- Move a wing's cursor; it is saved at every 65,536th stripe (R180). -/
def State.setCursor (w v : Nat) (s : State) : State :=
  let s1 := s.modRb fun r => { r with cursor := r.cursor.set (w - 1) v }
  if v % 65536 = 0 then s1.put Obj.pe_patrol_cursor w v else s1

/-- Save both cursors, at entry to Drain (R180). -/
def State.saveCursors (s : State) : State :=
  (s.put Obj.pe_patrol_cursor 1 (s.patrolCursor 1)).put Obj.pe_patrol_cursor 2 (s.patrolCursor 2)

/-- The patrol may go on (R180, R327, R465). -/
def State.patrolRuns (s : State) : Bool :=
  s.get Obj.pe_patrol_enable == 1 && s.ce.ps == 0 && s.md.mode == .service && s.imageFires

/-- The stripe under patrol is over: the cursor passes it, unless the patrol was stopped with rows left. -/
def State.patrolOver (s : State) : State :=
  match s.rb.patrolHeld with
  | some (w, _, _) =>
    if s.rb.patrolDone then
      let s1 := if s.rb.patrolOn then s.setCursor w (s.patrolCursor w + 1) else s
      s1.modRb fun r => { r with patrolHeld := none, patrolDone := false, patrolOn := true }
    else s
  | none => s

/-- The patrol stops after the rows it has begun to read (R188, R465). -/
def State.patrolStop (s : State) : State :=
  match s.rb.patrolHeld with
  | some (_, nsid, st) =>
    let idle := s.pe.jobs.filter fun j => j.use == .patrol && j.nsid == nsid && j.stripe == st && j.want.isEmpty &&
      j.got.isEmpty && !j.computed
    if idle.isEmpty then s
    else
      let s1 := (idle.foldl (fun t j => t.dropJob j.id) s).modRb fun r => { r with patrolOn := false }
      (if s1.patrolRows nsid st then s1 else s1.modRb fun r => { r with patrolDone := true }).patrolOver
  | none => s

/-- The patrol gives way to an apply or a full-stripe write of a stripe (R185): work without a correction under way is discarded, and
with it the rewrite requests of the sectors that are written anew (`hit`; log entry 121). -/
def State.patrolDiscard (nsid stripe : Nat) (hit : PatrolReq → Bool) (s : State) : State :=
  let mine := s.pe.jobs.filter fun j => j.use == .patrol && j.nsid == nsid && j.stripe == stripe && j.writing.isEmpty
  let s0 := s.modRb fun r => { r with requests := r.requests.filter fun q => !(q.nsid == nsid && q.stripe == stripe && hit q) }
  if mine.isEmpty then s0
  else
    let s2 := (mine.foldl (fun t j => t.dropJob j.id) s0).tick Obj.pe_patrol_skipped
    if s2.patrolRows nsid stripe then s2
    else (s2.modRb fun r => { r with patrolDone := true }).patrolOver

/-- A correction of a stripe is under way (R185). -/
def State.correcting (s : State) (nsid stripe : Nat) : Bool :=
  (s.pe.jobs.any fun j => j.use == .patrol && j.nsid == nsid && j.stripe == stripe && !j.writing.isEmpty) ||
  s.drives.cmds.any fun d => match d.use with
    | .patrolRewrite a st _ _ => a == nsid && st == stripe
    | _ => false

/-! ### Run-ahead (R168) -/

/-- Run-ahead: the survivors' blocks of the stripes that come next, those of P and Q among them, are filled as provisional entries within
the rebuild limit; what a leg's limit leaves is filled in a later one (R168, R173). -/
def State.runAhead (s : State) : State :=
  let next := ((s.rb.order.take (s.get Obj.pe_rebuild_runahead)).map (·.2.2))
  next.foldl (fun t x =>
    match t.ns? x.1 with
    | some n => (List.range (layW n.layout)).foldl (fun v m => (List.range (layS n.layout)).foldl (fun u row =>
        if u.rb.budget < 409600 then u
        else
          let v := u.fillBlock n Bc.rebuild 11 (cacheLba n x.2 m row)
          if v.drives.nextCid = u.drives.nextCid then v
          else (v.tick Obj.pe_rebuild_reads).modRb fun r => { r with
            budget := r.budget - 409600, readLog := r.readLog ++ [(u.tt.legCount, n.wing)] }) v) t
    | none => t) s

/-! ### One leg of rebuild and patrol -/

/-- The controller rebuilds a wing: it holds its lantern, and no replay of it is under way (R161, R166). -/
def State.rebuilds (s : State) (w : Nat) : Bool := s.holdsWing w && (s.wing w).open_

/-- Rebuild and patrol at a leg boundary: events start, the order is recomputed, the reads of the leg are issued (R161, R171, R173,
R174, R187). -/
def State.rebuildLeg (s : State) : State :=
  let start (t : State) (w : Nat) : State :=
    if t.rebuilds w && t.imageFires then
      let new := (t.place w).log.filter fun e => !e.started && !e.done
      (new.foldl (fun u e => u.startEvent w e) t).modRb (fun r => { r with reorder := r.reorder || !new.isEmpty })
        |>.eventsDone w
    else t
  let s1 := [1, 2].foldl start s
  let order := s1.rebuildOrder
  let zero (w : Nat) : Nat := (order.filter fun x => x.1 == 0 && x.2.1 == w).length
  let s2 := if s1.rb.reorder && s1.imageFires then
      let told := [1, 2].foldl (fun t w => if 0 < zero w ∧ !s1.rb.tier0.contains w then
        t.record 6 0x7102 [(1, w), (8, zero w)] else t) s1
      let due := order.filter fun x => !(s1.rb.held.any fun h => h.nsid == x.2.2.1 && h.stripe == x.2.2.2)
      told.modRb fun r => { r with
        order := due, reorder := false, tier0 := [1, 2].filter fun w => decide (0 < zero w) }
    else
      let still (w : Nat) : Bool := (s1.rb.order.any fun x => x.1 == 0 && x.2.1 == w) ||
        s1.rb.held.any fun h => h.wing == w && !h.recorded && s1.tierOf h.nsid h.stripe == 0
      s1.modRb fun r => { r with tier0 := r.tier0.filter still }
  let rate := s2.rebuildRate
  let s3 := s2.modRb fun r => { r with
    budget := budgetAfter r.budget rate, patrolBudget := budgetAfter r.patrolBudget (s2.get Obj.pe_patrol_rate),
    readLog := r.readLog.filter fun x => decide (s2.tt.legCount < x.1 + 195313) }
  let s4 := if s3.patrolRuns then s3 else s3.patrolStop
  s4.patrolOver.limitedPump'.runAhead

/-! ### REBUILD_STRIPE (R164, R166, R168) -/

/-- Destinations of a stripe's moved strips under the latest running event, none on a lost bay (R164): member, bay, member LBA. -/
def State.destsOf (s : State) (n : Namespace) (stripe : Nat) (run : List (RowMap × LogEntry)) : List (Nat × Nat × Nat) :=
  (List.range (layW n.layout)).filterMap fun m =>
    match (run.filter fun x => movesStrip n stripe m x.1 x.2).getLast? with
    | some x =>
      match (rowEvent n (stripe / 24) x.1 x.2).place (stripe % 24) m with
      | some p => if (s.place n.wing).lostBay p.1 then none else some (m, p.1, p.2)
      | none => none
    | none => none

/-- Every strip with a destination is a RETURN move whose current location is present (R164). -/
def State.copies (s : State) (n : Namespace) (stripe : Nat) (run : List (RowMap × LogEntry)) (dests : List (Nat × Nat × Nat)) :
    Bool :=
  !dests.isEmpty && dests.all fun d =>
    (match (run.filter fun x => movesStrip n stripe d.1 x.1 x.2).getLast? with | some x => !x.2.loss | none => false) &&
    (s.memberAt n stripe d.1).isSome

/-- Hold the next due stripe and start its rows (R164, R166). -/
def State.rebuildStripe (s : State) : State :=
  match s.rb.order with
  | [] => s
  | (tier, w, nsid, stripe) :: rest =>
    if !s.rebuilds w then s.modRb fun r => { r with order := rest }
    else if !s.imageFires || (s.get Obj.pe_rebuild_rate == 0 && tier != 0) then s
    else
      let skip := s.modRb fun r => { r with order := rest }
      match s.ns? nsid with
      | none => skip
      | some n =>
        let run := runningFor n stripe (s.place w).effLog
        if run.isEmpty || s.rebuildHolds nsid stripe then skip
        else if s.applying nsid stripe || s.fullWriting nsid stripe then s
        else
          let dests := s.destsOf n stripe run
          let copy := s.copies n stripe run dests
          let rows := if dests.isEmpty then 0 else layS n.layout
          let h : Hold := { wing := w, nsid := nsid, stripe := stripe, events := run.map (·.2.gen), dests := dests,
                            rowsLeft := rows }
          let s1 := (skip.modRb fun r => { r with
            held := r.held ++ [h], cut := r.cut.filter fun x => x != (nsid, stripe) }).count Obj.pe_rebuild_repeats 0
            (if s.rb.cut.contains (nsid, stripe) then 1 else 0)
          let s2 := (List.range rows).foldl (fun t u => t.startJob
            { use := .rebuild, nsid := nsid, stripe := stripe, row := u, cls := Bc.rebuild, copy := copy,
              issue := if copy then dests.map (·.1) else [] }) s1
          s2.limitedPump'.runAhead

/-- REBUILD_STRIPE. -/
def execRebuildStripe (s : State) : Host.Outcome State Fault Refusal := .next s.rebuildStripe.settle

/-- Every rebuild write of a held stripe is complete: its bits are set and its completion record is made (R164, R167, R176). -/
def State.rebuildDone (nsid stripe : Nat) (s : State) : State :=
  match s.hold? nsid stripe with
  | some h =>
    if h.rowsLeft = 0 ∧ !h.recorded then
      let f (e : LogEntry) : LogEntry :=
        if h.events.contains e.gen && !e.done then { e with bits := addNew e.bits (nsid, stripe) } else e
      let s1 := (s.modPlace h.wing fun p => { p with log := p.log.map f }).makeFinal 5 h.wing nsid stripe (h.events.getLastD 0)
        (s.ns nsid).layout
      let s2 := s1.modHold nsid stripe fun x => { x with recorded := true }
      let s3 := if h.lostRows = 0 then s2
        else s2.record 6 0x7103 [(1, h.wing), (2, nsid), (8, stripe), (4, h.lostRows), (4, h.lostBlocks)]
      s3.eventsDone h.wing
    else s
  | none => s

/-- REBUILD_STRIPE_DONE. -/
def execRebuildStripeDone (nsid stripe : Nat) (s : State) : Host.Outcome State Fault Refusal :=
  .next (s.rebuildDone nsid stripe).settle

/-- PE_REBUILD_RATE_WRITE (R173): in force from the next leg boundary. -/
def execPeRebuildRateWrite (cls value : Nat) (s : State) : Host.Outcome State Fault Refusal :=
  .next (s.guarded cls Obj.pe_rebuild_rate 0 (decide (value ≤ 180000)) fun t =>
    let key := objKey Obj.pe_rebuild_rate 0
    (t.modDict fun d => { d with objNext := assign d.objNext key value }).record 2 0x7105
      [(4, lookup t.dict.objNext key (t.get Obj.pe_rebuild_rate)), (4, value)])

/-! ### The night watch (R180 to R187) -/

/-- The stripe at a position of a wing's pass. -/
def stripeAt : List Namespace → Nat → Option (Namespace × Nat)
  | [], _ => none
  | n :: r, i => if i < nsStripes n then some (n, i) else stripeAt r (i - nsStripes n)

/-- A pass ends and the next begins (R180). -/
def State.passEnds (w : Nat) (s : State) : State :=
  let start := lookup s.rb.passStart w s.gh.now
  let secs := (s.gh.now - start) / 1000000000
  let fig := match s.rb.passRows.find? fun p => p.1 == w with | some p => p.2 | none => (0, 0, 0)
  let s1 := (((s.tick Obj.pe_patrol_passes w).put Obj.pe_patrol_last_end w s.gh.now).put Obj.pe_patrol_last_seconds w secs).record 2
    0x7200 [(1, w), (8, fig.1), (8, fig.2.1), (8, fig.2.2), (4, secs)]
  (s1.modRb fun r => { r with
    passStart := assign r.passStart w s.gh.now, passRows := r.passRows.filter fun p => p.1 != w }).setCursor w 0

/-- A stripe the patrol passes over (R181). -/
def State.patrolSkips (s : State) (n : Namespace) (stripe : Nat) : Bool :=
  !(s.absent n stripe).isEmpty || s.rebuildHolds n.nsid stripe || !(runningFor n stripe (s.place n.wing).effLog).isEmpty ||
  (s.lg.recs.any fun r => r.nsid == n.nsid && r.stripe == stripe) || s.applying n.nsid stripe || s.fullWriting n.nsid stripe ||
  n.creating || n.deleting

/-- Take up the stripe at a wing's cursor: skipped, or read whole within the patrol's rate (R180 to R183). -/
def State.patrolStripe (w : Nat) (s0 : State) : State :=
  let s := s0.patrolOver
  let nss := s.wingNs w
  let total := sumN (nss.map nsStripes)
  if !s.holdsWing w || !s.patrolRuns || s.rb.patrolHeld.isSome || !s.rb.requests.isEmpty || total = 0 then s
  else
    let s1 := if s.rb.passStart.any (fun p => p.1 == w) then s
      else s.modRb fun r => { r with passStart := r.passStart ++ [(w, s.gh.now)] }
    let s2 := if total ≤ s1.patrolCursor w then s1.passEnds w else s1
    match stripeAt nss (s2.patrolCursor w) with
    | some (n, st) =>
      let s3 := if s2.patrolSkips n st then (s2.tick Obj.pe_patrol_skipped).setCursor w (s2.patrolCursor w + 1)
        else
          let t := s2.modRb fun r => { r with patrolHeld := some (w, n.nsid, st), patrolDone := false, patrolOn := true }
          ((List.range (layS n.layout)).foldl (fun u row => u.startJob
            { use := .patrol, nsid := n.nsid, stripe := st, row := row, cls := Bc.patrol }) t).limitedPump'
      if total ≤ s3.patrolCursor w then s3.passEnds w else s3
    | none => s2

/-- PATROL_STRIPE. -/
def execPatrolStripe (wing : Nat) (s : State) : Host.Outcome State Fault Refusal :=
  .next (if wing = 1 ∨ wing = 2 then s.patrolStripe wing else s)

/-- Serve the oldest rewrite request whose stripe is neither held, nor applied, nor written whole (R184, R186): the sector is rewritten in
place from the ciphertext passed with it. -/
def State.patrolRewrite (s0 : State) : State :=
  let s := s0.patrolOver
  let free (q : PatrolReq) : Bool := s.holdsWing (s.ns q.nsid).wing && !s.applying q.nsid q.stripe &&
    !s.fullWriting q.nsid q.stripe && !s.rebuildHolds q.nsid q.stripe
  if s.rb.patrolHeld.isSome || !s.imageFires then s
  else
    match s.rb.requests.find? free with
    | none => s
    | some q =>
      let n := s.ns q.nsid
      let s1 := s.modRb fun r => { r with requests := dropFirst (· == q) r.requests }
      if (s.ns? q.nsid).isNone then s1
      else
        match s.memberAt n q.stripe q.member with
        | none => s1
        | some p =>
          let trl := mkTrailer q.sealNo (s.stripeGen n q.stripe q.member) n.layout.toNat q.member { zero := q.data == 0 } q.data
          let s2 := s1.writeMember p.1 n.wing 12 Bc.patrol 0 (.patrolRewrite q.nsid q.stripe q.row q.member)
            [{ lba := p.2 + q.row, data := q.data, trl := trl }] []
          let s3 := if q.member < layK n.layout then
              s2.cacheCancelProv q.nsid (hostLba n.layout q.stripe q.member q.row) else s2
          s3.tick Obj.pe_patrol_rewrites

/-- PATROL_REWRITE. -/
def execPatrolRewrite (s : State) : Host.Outcome State Fault Refusal := .next s.patrolRewrite

/-- PE_PATROL_ENABLE_WRITE (R188): 0 lets the patrol finish the row it holds, 1 resumes at the cursor. -/
def execPePatrolEnableWrite (cls value : Nat) (s : State) : Host.Outcome State Fault Refusal :=
  .next (s.guarded cls Obj.pe_patrol_enable 0 (decide (value ≤ 1)) fun t =>
    let t1 := t.put Obj.pe_patrol_enable 0 value
    if value = 0 then t1.patrolStop else t1)

/-- PE_PATROL_LOG_CLEAR (R478). -/
def execPePatrolLogClear (cls value : Nat) (s : State) : Host.Outcome State Fault Refusal :=
  .next (s.trigger cls Obj.pe_patrol_log_clear (value == 1) fun t => t.modRb fun r => { r with log := [] })

end Sys2Proof.Machine
end

