-- ==== Sys2Proof/Machine/Ledger.lean ====
section
/-! DEFINITION. The ledger: applies, full-stripe issue, drive journal zones, replay, the size of the ledger and the vault (R81, R84,
R87, R94, R190 to R204, R208 to R226, R571). -/

namespace Sys2Proof.Machine

/-! ### Applies (R87, R94, R99, R185) -/

/-- New blocks of a stripe from ledger records in seal order, a later block replacing an earlier one's (R94, R215). -/
def newBlocks (lay : BitVec 16) (stripe row : Nat) (recs : List LedgerRec) : List RowNew :=
  (List.range (layK lay)).filterMap fun m =>
    let lba := hostLba lay stripe m row
    ((recs.filter fun r => r.covers lba).getLast?).map fun r => { member := m, data := r.blockAt lba, zero := r.zero }

/-- Rows of a stripe that records touch. -/
def touchedRows (lay : BitVec 16) (stripe : Nat) (recs : List LedgerRec) : List Nat :=
  (List.range (layS lay)).filter fun u => !(newBlocks lay stripe u recs).isEmpty

/-- The waybills of a stripe an apply takes: every eligible one, in seal order (R87). -/
def State.eligibleRecs (s : State) (nsid stripe : Nat) : List Rec :=
  sortBy (·.sealNo) (s.lg.recs.filter fun r => r.kind == 1 && r.nsid == nsid && r.stripe == stripe && r.eligible && !r.superseded &&
    !r.applied && !r.applyBegun)

/-- The stripe is free for an apply or a full-stripe write, but for a correction already issued, which completes first (R81, R87, R88,
R166, R185). -/
def State.stripeOpen (s : State) (nsid stripe : Nat) : Bool :=
  !s.applying nsid stripe && !s.fullWriting nsid stripe && !s.rebuildHolds nsid stripe

/-- Reconstructions of a stripe's blocks under way start anew after the apply (R112). -/
def State.reconWaits (nsid stripe : Nat) (s : State) : State :=
  (s.pe.jobs.filter fun j => j.nsid == nsid && j.stripe == stripe && !j.computed).foldl (fun t j =>
    match j.use with
    | .recon a lba => (t.dropJob j.id).modBlk a lba fun b => { b with stage := .blocked, hedged := true }
    | _ => t) s

/-- Start a group of records as one apply or replay: a row job for each touched row (R94, R99, R215, R216). -/
def State.startGroup (g : Group) (recs : List LedgerRec) (s : State) : State :=
  let lay := (s.ns g.nsid).layout
  let rows := if g.intent.isSome then List.range (layS lay) else touchedRows lay g.stripe recs
  let s1 := s.modLg fun l => { l with applies := l.applies ++ [{ g with rowsLeft := rows.length }] }
  rows.foldl (fun t u =>
    let touch := recs.filter fun r => (List.range (layK lay)).any fun m => r.covers (hostLba lay g.stripe m u)
    t.startJob { use := if g.intent.isSome then .resync else if g.replay then .replay else .apply,
                 nsid := g.nsid, stripe := g.stripe, row := u, cls := Bc.ledger, newData := newBlocks lay g.stripe u recs,
                 sealNo := if g.replay && g.intent.isNone then maxN 0 (touch.map (·.sealNo)) else g.sealNo }) s1

/-- The patrol's rewrite requests that an apply of the stripe meets: those of a block it writes (R185, R186). -/
def State.applyHits (s : State) (nsid stripe : Nat) (q : PatrolReq) : Bool :=
  let lay := (s.ns nsid).layout
  let new := (s.eligibleRecs nsid stripe).map (·.toLedgerRec)
  (touchedRows lay stripe new).contains q.row &&
    (decide (layK lay ≤ q.member) || (newBlocks lay stripe q.row new).any fun n => n.member == q.member)

/-- A waybill of an apply that starts has its begun mark (R192). -/
def Rec.begins (wing : Nat) (seals : List Nat) (r : Rec) : Rec :=
  if r.kind == 1 && r.wing == wing && seals.contains r.sealNo then { r with applyBegun := true } else r

/-- Begin applying the eligible waybills of a stripe (R87, R94); the waybills of a wing in replay are applied in the replay's order
(R215). -/
def State.applyStart (nsid stripe : Nat) (s : State) : State :=
  let rs := s.eligibleRecs nsid stripe
  match rs.getLast? with
  | none => s
  | some last =>
    let hit := s.applyHits nsid stripe
    if !s.stripeOpen nsid stripe || !s.holdsWing last.wing || !s.firing || s.lg.replayWing == some last.wing then s
    else if s.correcting nsid stripe then s.patrolDiscard nsid stripe hit
    else
      let seals := rs.map (·.sealNo)
      let f (r : Rec) : Rec := r.begins last.wing seals
      let s1 := (s.patrolDiscard nsid stripe hit).reconWaits nsid stripe
      (s1.modLg fun l => { l with recs := l.recs.map f }).startGroup
        { wing := last.wing, nsid := nsid, stripe := stripe, sealNo := last.sealNo, seals := seals } (rs.map (·.toLedgerRec))

/-- APPLY_START. -/
def execApplyStart (nsid stripe : Nat) (s : State) : Host.Outcome State Fault Refusal := .next (s.applyStart nsid stripe).settle

/-! ### Full-stripe member writes (R81, R83, R84) -/

/-- One strip of a full-stripe part: its sectors and their beds. -/
def State.stripOut (s : State) (c : Cmd) (p : Part) (m : Accum) (sealNo x : Nat) (lba : Nat) : List Sector × List Nat :=
  let n := s.ns c.cap.nsid
  let lay := n.layout
  let k := layK lay
  let bedAt (u : Nat) : Nat :=
    if x = k then lookup m.pOut u 0 else if x = k + 1 then lookup m.qOut u 0
    else ((c.blk? (hostLba lay p.stripe x u)).bind (·.bed)).getD 0
  let rows := List.range (layS lay)
  (rows.map fun u =>
    let d := (s.bed (bedAt u)).data
    { lba := lba + u, data := d, trl := mkTrailer sealNo (s.stripeGen n p.stripe x) lay.toNat x { full := true } d },
   rows.map bedAt)

/-- Issue the member writes of a full-stripe part once its data, P, Q and the copy of its intent are there (R81); with fewer than k
members present it completes with Write Fault, its intent retired at once (R84). -/
def State.fullStripeIssue (a stripe : Nat) (s : State) : State :=
  match s.cmd? a with
  | none => s
  | some c =>
    match c.parts.find? (fun p => p.full && p.stripe == stripe), s.accum? a stripe with
    | some p, some m =>
      let n := s.ns c.cap.nsid
      let mine := c.blocks.filter fun b => inSpan b.lba (p.first, p.blocks)
      let held := p.intent.any fun q => s.lg.recs.any fun r => r.kind == 2 && r.wing == n.wing && r.sealNo == q && r.copyHeld
      let there := decide (mine.length = p.blocks) && mine.all (fun b => b.stage == .ciphered && b.bed.isSome && !s.frameOpen b.frame) && m.freed
      if p.issued || p.fault || !held || !there || !s.stripeOpen c.cap.nsid stripe || s.md.mode == .holdup then s
      else if s.correcting c.cap.nsid stripe then s.patrolDiscard c.cap.nsid stripe fun _ => true
      else
        let sealNo := p.intent.getD 0
        let s0 := (s.patrolDiscard c.cap.nsid stripe fun _ => true).reconWaits c.cap.nsid stripe
        let here := (List.range (layW n.layout)).filterMap fun x => (s0.memberAt n stripe x).map fun q => (x, q.1, q.2)
        let dropAccum (t : State) : State := t.modPe fun q => { q with
          accums := q.accums.filter fun y => !(y.arrival == a && y.stripe == stripe) }
        let clean (t : State) (f : Part → Part) : State := t.modCmd a fun x => { x with
          parts := modFirst (fun q => q.full && q.stripe == stripe) f x.parts,
          blocks := x.blocks.map fun b => if inSpan b.lba (p.first, p.blocks) then { b with bed := none, stage := .done } else b }
        let beds (x : Nat) : List Nat := (s0.stripOut c p m sealNo x 0).2
        if here.length < layK n.layout then
          let s1 := (List.range (layW n.layout)).foldl (fun t x => (beds x).foldl (fun u h => u.freeOwned h) t) s0
          let s2 := clean (dropAccum s1) fun q => { q with fault := true }
          (s2.lg.recs.filter fun r => r.kind == 2 && r.wing == n.wing && r.sealNo == sealNo).foldl (fun t r => t.finalRec r) s2
        else
          let gone := (List.range (layW n.layout)).filter fun x => !(here.any fun q => q.1 == x)
          let s1 := gone.foldl (fun t x => (beds x).foldl (fun u h => u.freeOwned h) t) s0
          let s2 := here.foldl (fun t q =>
            let o := s0.stripOut c p m sealNo q.1 q.2.2
            let use : DriveUse := .fullStripe a stripe q.1
            t.writeMember q.2.1 n.wing (driveQueue use c.party stripe) c.classOf a use o.1 o.2) s1
          clean (dropAccum s2) fun q => { q with issued := true, writing := here.map (·.1) }
    | _, _ => s

/-- FULL_STRIPE_ISSUE. -/
def execFullStripeIssue (arrival stripe : Nat) (s : State) : Host.Outcome State Fault Refusal :=
  .next (s.fullStripeIssue arrival stripe).settle

/-! ### Journal records (R196 to R204, R571) -/

/-- The home triple of a seal range (R200). -/
def homeTriple (range : Nat) : List Nat := [range % 8, range % 8 + 8, range % 8 + 16]

/-- The substitute of a home bay: the first present bay of the search that is not in the triple (R200). -/
def substitute (here triple : List Nat) (b : Nat) : Option Nat :=
  ([(b + 4) % 24, (b + 12) % 24, (b + 20) % 24] ++ (List.range 23).map fun i => (b + 1 + i) % 24).find? fun x =>
    here.contains x && !triple.contains x

/-- The bays that take a range's records: the home bays present, with substitutes for the others (R200), and for a bay whose port is in
reset (R383, R469). -/
def State.triple (s : State) (w range : Nat) : List Nat :=
  let here := (s.presentBays w).filter fun b => !s.portInReset b
  let home := homeTriple range
  (home.foldl (fun (acc : List Nat × List Nat) b =>
    if here.contains b then (acc.1 ++ [b], acc.2)
    else match substitute here acc.2 b with
      | some x => (acc.1 ++ [x], acc.2 ++ [x])
      | none => acc) ([], home)).1

/-- Cut items into records of at most 62 items and 992 blocks (R198, R201). -/
def cutItems : List LedgerRec → List LedgerRec → List (List LedgerRec)
  | [], [] => []
  | [], acc => [acc]
  | i :: r, acc =>
    if !acc.isEmpty && (decide (62 ≤ acc.length) || decide (992 < itemBlocks acc + i.blocks.length)) then acc :: cutItems r [i]
    else cutItems r (acc ++ [i])

/-- Form one record: it takes the wing's next jseq, and its JOURNAL cells on each bay become ready (R201). -/
def State.formRecord (q : JRec) (s : State) : State :=
  let j := s.lg.jseqNext.getD (q.wing - 1) 1
  let r := { q with jseq := j, pending := q.bays }
  let s0 := if 2 ≤ q.bays.length then s.tick Obj.sw_mcast_descriptors else s
  let s1 := s0.modLg fun l => { l with jseqNext := l.jseqNext.set (q.wing - 1) (j + 1), jrecs := l.jrecs ++ [r] }
  q.bays.foldl (fun t b => t.pushAt (if q.urgent then 0 else t.slotNow + 1) Bc.ledger Opc.journal none (some (rootUnit b)) j
    (.journal b q.wing j)) s1

/-- Records of a list of items of one range and wing. -/
def State.formItems (q : JRec) (items : List LedgerRec) (s : State) : State :=
  (cutItems items []).foldl (fun t l => t.formRecord { q with items := l }) s

/-- The items of a leg by seal range, in ascending seal (R198, R201): records of kinds 3 to 5 go to the highest range written, or to
that of the wing's highest seal. -/
def State.legRanges (s : State) (w : Nat) (items : List LedgerRec) : List (Nat × List LedgerRec) :=
  let own := sortBy (·.sealNo) (items.filter fun i => i.kind == 1 || i.kind == 2)
  let rest := items.filter fun i => !(i.kind == 1 || i.kind == 2)
  let ranges := own.foldl (fun l i => addNew l (i.sealNo / 4096)) []
  let top := if ranges.isEmpty then s.sealHi w / 4096 else maxN 0 ranges
  let all := if ranges.isEmpty && !rest.isEmpty then [top] else ranges
  all.map fun r => (r, sortBy (·.sealNo) (own.filter (fun i => i.sealNo / 4096 == r) ++ (if r = top then rest else [])))

/-- The journal records of a leg for a wing (R201), those of packets whose copy has failed first (R90). -/
def State.formLeg (w : Nat) (s : State) : State :=
  let items := (s.lg.journalDue ++ s.lg.legRecs).filter fun i => i.wing == w
  let s1 := s.modLg fun l => { l with
    legRecs := l.legRecs.filter fun i => i.wing != w, journalDue := l.journalDue.filter fun i => i.wing != w }
  (s1.legRanges w items).foldl (fun t x =>
    t.formItems { wing := w, range := x.1, bays := t.triple w x.1 } x.2) s1

/-- An item is an unfreed waybill or an unretired intent. -/
def State.itemLive (s : State) (i : LedgerRec) : Bool :=
  (i.kind == 1 || i.kind == 2) && s.lg.recs.any fun r => r.kind == i.kind && r.wing == i.wing && r.sealNo == i.sealNo

/-- Unfreed items of a record. -/
def State.liveItems (s : State) (r : JRec) : List LedgerRec := r.items.filter s.itemLive

/-- Records with nothing unfreed and nothing pending leave, and each zone's tail moves up to its first record that still holds an
unfreed item (R198). -/
def State.journalTidy (s : State) : State :=
  let keep (r : JRec) : Bool := !r.held || !(s.liveItems r).isEmpty || !r.pending.isEmpty
  let left := s.lg.jrecs.filter keep
  let live (w : Nat) (x : Nat × Nat × Nat) : Bool := left.any fun r => r.wing == w && r.jseq == x.1
  s.modLg fun l => { l with jrecs := left, zones := l.zones.map fun z => { z with records := z.records.dropWhile fun x => !live z.wing x } }

/-- The zone of a wing on a bay (R196). -/
def State.zone (s : State) (w bay : Nat) : Zone :=
  (s.lg.zones.find? fun z => z.wing == w && z.bay == bay).getD { wing := w, bay := bay }

/-- Replace a zone. -/
def State.putZone (z : Zone) (s : State) : State :=
  let same (y : Zone) : Bool := y.wing == z.wing && y.bay == z.bay
  let put (l : List Zone) : List Zone := if l.any same then modFirst same (fun _ => z) l else l ++ [z]
  s.modLg fun l => { l with zones := put l.zones }

/-- Blocks of a zone between its tail and its head. -/
def Zone.used (z : Zone) : Nat :=
  match z.records with
  | [] => 0
  | x :: _ => if x.2.1 < z.head then z.head - x.2.1 else 1048576 - x.2.1 + (z.head - 131072)

/-- Where the next record of `n` blocks starts: the head, or the zone's first block where it would pass the end (R571). -/
def Zone.start (z : Zone) (n : Nat) : Nat := if z.head + n ≤ 1048576 then z.head else 131072

/-- The zone has room for a record, unused blocks before its end included. -/
def Zone.fits (z : Zone) (n : Nat) : Bool :=
  decide (z.used + n + (if z.start n = z.head then 0 else 1048576 - z.head) < 917504)

/-- Append a record to a zone. -/
def Zone.append (z : Zone) (jseq n : Nat) : Zone :=
  let at_ := z.start n
  { z with head := at_ + n, records := z.records ++ [(jseq, at_, n)] }

/-- Carry forward the unfreed items of a zone's oldest record where less than 25 % of the zone is free (R203). -/
def State.carryForward (w bay : Nat) (s : State) : State :=
  let z := s.zone w bay
  let carried (r : JRec) : Bool := r.carry && !r.held && r.wing == w && decide (r.bays = [bay])
  if 917504 - z.used < 229376 ∧ (!s.lg.jrecs.any carried) = true then
    match z.records with
    | x :: _ =>
      match s.lg.jrecs.find? fun r => r.wing == w && r.jseq == x.1 with
      | some r =>
        let live := s.liveItems r
        if live.isEmpty then s
        else (s.count Obj.lg_carry_forward 0 live.length).formItems
          { wing := w, range := r.range, copy := 3, bays := [bay], urgent := true, carry := true, origins := [r.jseq] } live
      | none => s
    | [] => s
  else s

/-- Journal records that meet `p` leave before they are written. -/
def State.dropRecords (p : JRec → Bool) (s : State) : State :=
  let gone := s.lg.jrecs.filter p
  let of (w j : Nat) : Bool := gone.any fun r => r.wing == w && r.jseq == j
  (s.modLg fun l => { l with jrecs := l.jrecs.filter fun r => !p r }).dropJobs fun t =>
    match t with | .journal _ w j => of w j | _ => false

/-- The bay a lost bay's copy of a record goes to: the first of its range's triple that neither holds a copy of it nor takes one
(R200, R204). -/
def State.rehomeTarget (s : State) (r : JRec) : Option Nat :=
  let due := s.lg.jrecs.filter fun q => q.wing == r.wing && q.forBay.isSome && !q.held && q.origins.contains r.jseq
  let taken := r.bays ++ due.flatMap (·.bays)
  (s.triple r.wing r.range).find? fun b => !taken.contains b

/-- A new copy, number 3, of a record's unfreed items in place of the one on a bay; where the search of R200 finds no further bay, the
triple holds its present bays only (R200, R204). -/
def State.rehomeOne (w bay jseq : Nat) (s : State) : State :=
  match s.lg.jrecs.find? fun r => r.wing == w && r.jseq == jseq with
  | none => s
  | some r =>
    let live := s.liveItems r
    match (if live.isEmpty then none else s.rehomeTarget r) with
    | some x =>
      let s1 := s.formItems { wing := w, range := r.range, copy := 3, bays := [x], urgent := true, forBay := some bay,
                              origins := [jseq] } live
      let same (y : Nat × Nat × Nat × Nat × Nat) : Bool := y.1 == w && y.2.1 == bay
      let put (l : List (Nat × Nat × Nat × Nat × Nat)) : List (Nat × Nat × Nat × Nat × Nat) :=
        if l.any same then modFirst same (fun y => (w, bay, y.2.2.1, y.2.2.2.1 + live.length, y.2.2.2.2)) l
        else l ++ [(w, bay, x, live.length, s.tt.legCount)]
      s1.modLg fun l => { l with rehomeRuns := put l.rehomeRuns }
    | none =>
      let f (q : JRec) : JRec := { q with bays := q.bays.filter (· != bay), pending := q.pending.filter (· != bay) }
      s.modLg fun l => { l with jrecs := modFirst (fun q => q.wing == w && q.jseq == jseq) f l.jrecs }

/-- Re-home the copies of a lost bay (R204), or those a port in reset has returned (R383), ahead of every other record; a copy that was
itself to be re-homed to the bay goes to the next one. -/
def State.rehomeBay (w bay : Nat) (s : State) : State :=
  let lost : Bool := !(s.presentBays w).contains bay
  let on (r : JRec) : Bool := r.wing == w && r.bays.contains bay && (lost || r.pending.contains bay)
  let again := s.lg.jrecs.filter fun r => on r && r.forBay.isSome && !r.held
  let mine := s.lg.jrecs.filter fun r => on r && r.forBay.isNone && !(r.carry && !r.held)
  let s1 := s.dropRecords fun r => on r && !r.held && (r.forBay.isSome || r.carry)
  let s2 := again.foldl (fun t r => r.origins.foldl (fun u j => u.rehomeOne w (r.forBay.getD bay) j) t) s1
  mine.foldl (fun t r => t.rehomeOne w bay r.jseq) s2

/-- Every lost bay whose copies are to be re-homed, at a leg boundary. -/
def State.rehomeLeg (s : State) : State :=
  let s1 := s.lg.rehome.foldl (fun t b => t.heldWings.foldl (fun u w => u.rehomeBay w b) t) s
  s1.modLg fun l => { l with rehome := [] }

/-- Items awaiting re-homing (R204, R228). -/
def State.rehomePending (s : State) : Nat :=
  sumN ((s.lg.jrecs.filter fun r => r.forBay.isSome && !r.held).map fun r => r.items.length)

/-- A re-homing is over once none of its records is pending (R204). -/
def State.rehomeOver (s : State) : State :=
  let busy (x : Nat × Nat × Nat × Nat × Nat) : Bool :=
    s.lg.jrecs.any fun r => r.wing == x.1 && r.forBay == some x.2.1 && !r.held
  let ended := s.lg.rehomeRuns.filter fun x => !busy x
  let s1 := s.modLg fun l => { l with rehomeRuns := l.rehomeRuns.filter busy }
  ended.foldl (fun t x => t.record 4 0x8010
    [(1, x.1), (1, x.2.1), (1, x.2.2.1), (4, x.2.2.2.1), (4, s.tt.legCount - x.2.2.2.2)]) s1

/-- The copy path of a wing is its journal zones (R90, R201, R228). -/
def State.toZones (s : State) (w : Nat) : Bool := (s.wing w).copyPath == .journalZones

/-- The ledger's journal work at a leg boundary (R201, R203, R204). -/
def State.journalLeg (s : State) : State :=
  let s1 := s.rehomeLeg
  let s2 := [1, 2].foldl (fun t w => if t.toZones w then t.formLeg w else t) s1
  (s2.lg.zones.foldl (fun t z => if t.holdsWing z.wing then t.carryForward z.wing z.bay else t) s2).journalTidy

/-! ### JOURNAL and JOURNAL_RECORD_HELD (R201, R202, R340) -/

/-- The record a JOURNAL transfer carries. -/
def State.jrec? (s : State) (w jseq : Nat) : Option JRec := s.lg.jrecs.find? fun r => r.wing == w && r.jseq == jseq

/-- The drive command that carries a record to a bay, once its first cell has fired. -/
def State.journalCmd (s : State) (bay w jseq : Nat) : Option DriveCmd :=
  s.drives.cmds.find? fun d => d.bay == bay && d.use == .journal w jseq && decide (0 < d.toMove)

/-- A record goes ahead of another in the JOURNAL cells of a bay: re-homed copies ahead of every other record, carried ones ahead of new
ones; of one wing the record that has begun, then the lower jseq (R201, R203, R204). -/
def State.journalBefore (s : State) (bay : Nat) (a b : JRec) : Bool :=
  let begun (r : JRec) : Bool := (s.journalCmd bay r.wing r.jseq).isSome
  let level (r : JRec) : Nat := if r.forBay.isSome then 2 else if r.carry then 1 else 0
  if a.wing = b.wing ∧ begun a ≠ begun b then begun a
  else if level a ≠ level b then decide (level b < level a)
  else a.wing == b.wing && decide (a.jseq < b.jseq)

/-- A JOURNAL transfer is ready: no record ahead of its own waits for the bay, and its record has begun, or queue 9 and the zone have
room for it (R201, R203, R204, R340, R571). -/
def okJournal (_ : CellWord) (s : State) (t : Transfer) : Bool :=
  match t.job with
  | .journal bay w j =>
    match s.jrec? w j with
    | some r =>
      let ahead := s.ce.ready.any fun x => match x.job with
        | .journal b x y => b == bay && ((s.jrec? x y).any fun q => s.journalBefore bay q r)
        | _ => false
      !ahead && ((s.journalCmd bay w j).isSome || (s.queueRoom bay 9 && (s.zone w bay).fits (1 + itemBlocks r.items)))
    | none => true
  | _ => false

/-- A journal record as it is written to a bay: copy 0 to 2 by the bay's place in the home triple, 3 for a substitute or a re-homed
copy; the tail is the zone's lowest jseq that still holds an unfreed item (R198). -/
def State.journalCopy (s : State) (bay : Nat) (r : JRec) (lba : Nat) : JCopy :=
  let live := (s.zone r.wing bay).records.filter fun x => s.lg.jrecs.any fun q => q.wing == r.wing && q.jseq == x.1 &&
    !(s.liveItems q).isEmpty
  { bay := bay, wing := r.wing, jseq := r.jseq, lba := lba, copy := if r.copy = 3 then 3 else (homeTriple r.range).idxOf bay,
    tail := minN r.jseq (live.map (·.1)), range := r.range, claim := if s.paired then (s.wing r.wing).claim else 0,
    sectors := itemBlocks r.items, items := r.items }

/-- One sector of a record reaches its root port with its metadata; the first one begins the write at the zone's head (R198, R199,
R201, R571). -/
def State.journalOut (bay w j : Nat) (s : State) : State :=
  match s.jrec? w j with
  | none => s
  | some r =>
    let n := 1 + itemBlocks r.items
    let z := s.zone w bay
    let s1 := if (s.journalCmd bay w j).isSome then s
      else
        let t := (s.putZone (z.append j n)).issueDrive
          { bay := bay, queue := 9, op := .write, nsid := w, lba := z.start n, blocks := n, use := .journal w j, toMove := n,
            sectors := (s.journalCopy bay r (z.start n)).write }
        -- the first output served leaves the copies of the others waiting (R382)
        let first : Bool := s.drives.cmds.all fun d => d.use != .journal w j
        let left := if first && r.pending.length == r.bays.length then r.bays.length - 1 else 0
        ((t.tick Obj.lg_journal_records).count Obj.sw_mcast_residue 0 left).carryForward w bay
    let f (d : DriveCmd) : DriveCmd := { d with toMove := d.toMove - 1 }
    match s1.journalCmd bay w j with
    | some d =>
      let s2 := match d.sectors[d.blocks - d.toMove]? with
        | some x => s1.emit (.sector bay 9 d.cid x.lba x.data x.trl)
        | none => s1
      let s3 := s2.modDriveCmd bay 9 d.cid f
      if 1 < d.toMove then s3.pushAt (if r.urgent then 0 else s.slotNow) Bc.ledger Opc.journal none (some (rootUnit bay)) j (.journal bay w j)
      else s3
    | none => s1

/-- The transfer of a JOURNAL cell. -/
def runJournal (_ : CellWord) (t : Transfer) (bed : Option Nat) (s : State) : State :=
  match t.job with
  | .journal bay w j => (s.returnBed bed).journalOut bay w j
  | _ => s.returnBed bed

/-- What a record that becomes held does to the records of its wing: it is held itself; a re-homed copy takes the lost bay's place in
the record it copies, and a carried one the place of the copy it replaces (R202 to R204). -/
def JRec.holds (r : JRec) (w jseq : Nat) (x : JRec) : JRec :=
  if x.wing = w ∧ x.jseq = jseq then { x with held := true }
  else if x.wing = w ∧ r.origins.contains x.jseq then
    match r.forBay with
    | some b => { x with pending := x.pending.filter (· != b), bays := (x.bays.filter (· != b)) ++ r.bays }
    | none => { x with pending := x.pending.filter fun b => !r.bays.contains b, bays := x.bays.filter fun b => !r.bays.contains b }
  else x

/-- A journal record's writes are complete on every bay of its triple (R202): its items are held.  A re-homed copy takes the lost bay's
place in the record it copies, and a carried one the place of the copy it replaces, which lets the tail advance (R203, R204). -/
def State.recordHeld (w jseq : Nat) (s : State) : State :=
  match s.jrec? w jseq with
  | none => s
  | some r =>
    if r.held || !r.pending.isEmpty || r.bays.isEmpty then s
    else
      let s1 := s.modLg fun l => { l with jrecs := l.jrecs.map (r.holds w jseq) }
      let s2 := if r.carry then r.bays.foldl (fun t b =>
          let z := t.zone w b
          t.putZone { z with records := z.records.filter fun x => !r.origins.contains x.1 }) s1
        else s1.count Obj.lg_rehome_items 0 (if r.forBay.isSome then r.items.length else 0)
      ((if r.origins.isEmpty then s2.itemsHeld r.items else s2).rehomeOver).journalTidy.settle

/-- JOURNAL_RECORD_HELD. -/
def execJournalRecordHeld (wing jseq : Nat) (s : State) : Host.Outcome State Fault Refusal := .next (s.recordHeld wing jseq)

/-! ### The size of the ledger (R221 to R226) -/

/-- The flush power of the profile in force, mW (R222). -/
def State.flushPower (s : State) : Nat :=
  Nat.max (if s.get Obj.lg_flush_profile = 0 then 55000 else 48000) (s.get Obj.lg_flush_power_measured)

/-- The usable energy of the bank, µJ, from its published figures (R221, R444). -/
def State.usableEnergy (s : State) : Nat :=
  let v := s.lg.bankPub.getD 0 0
  let c := s.lg.bankPub.getD 1 0
  let ceil := s.lg.bankPub.getD 2 0
  if s.lg.bankPub.getD 3 0 = 2 then Nat.min ceil (c * 1568) - c * 200
  else if v < 20000 then 0 else c * v * v / 2000000 - c * 200

/-- s_allowed, bytes (R223). -/
def State.sizeAllowed (s : State) : Nat :=
  let p := s.flushPower
  Nat.min 2147483648 ((5440000 * s.usableEnergy - 40000000 * p) / p / 16777216 * 16777216)

/-- The vote of the comparators (R206): 2 of 3, 1 of 2, or 0. -/
def State.pfVote (s : State) : Nat :=
  match (s.lg.comparators.filter fun c => c != 1).length with
  | 3 => 2
  | 2 => 1
  | _ => 0

/-- Occupancy whose acknowledgement may come before its apply (R226). -/
def State.protectedUsed (s : State) : Nat :=
  4096 * sumN ((s.lg.recs.filter fun r => r.ackGuard).map fun r => r.blocks.length)

/-- The flush energy of an occupancy exceeds a share of the usable energy, in thousandths (R226). -/
def State.flushExceeds (s : State) (size perMille : Nat) : Bool :=
  decide (s.usableEnergy * 85 * 8000000 * perMille < s.flushPower * (40000000 + size) * 100 * 1000)

/-- Recompute the size in force (R223 to R225). -/
def State.ledgerRecompute (s : State) : State :=
  let old := s.lg.inForce
  let allowed := if s.pfVote = 0 then 0 else s.sizeAllowed
  let new := Nat.min (s.get Obj.lg_ledger_size) allowed
  let s1 := (s.put Obj.lg_ledger_allowed 0 s.sizeAllowed).modLg fun l => { l with inForce := new, recompute := false }
  let e := s.usableEnergy
  if old < new then (s1.record 3 0x8001 [(8, old), (8, new), (4, e)]).raiseWarnings s
  else if new < old then
    (((s1.modLg fun l => { l with narrowing := decide (new < s.slabUsed) }).tick Obj.lg_narrow_events).record 5 0x8002
      [(8, old), (8, new), (4, s.lg.bankPub.getD 1 0), (4, e)]).raiseWarnings s
  else s1

/-- The ledger's size at a leg boundary: recomputed where a cause arose, a narrowing that fits ends, and Drain for want of energy is
asked for or over (R224 to R226). -/
def State.ledgerLeg (s : State) : State :=
  let s1 := if s.lg.recompute then s.ledgerRecompute else s
  let s2 := if s1.lg.narrowing && decide (s1.slabUsed ≤ s1.lg.inForce) then s1.modLg fun l => { l with narrowing := false } else s1
  let p := s2.protectedUsed
  if s2.lg.energyDrain then
    if p = 0 ∨ !s2.flushExceeds p 800 then (s2.modLg fun l => { l with energyDrain := false }).clearCause 3 else s2
  else if (s2.md.mode == .service || s2.md.mode == .standby || s2.md.mode == .drain) && decide (0 < p) && s2.flushExceeds p 1000 then
    ((s2.modLg fun l => { l with energyDrain := true }).addCause 3).record 7 0x8003 [(8, p), (4, s2.usableEnergy)]
  else s2

/-- LG_LEDGER_SIZE_WRITE (R224, R225, R228). -/
def execLgLedgerSizeWrite (cls value : Nat) (s : State) : Host.Outcome State Fault Refusal :=
  .next (s.guarded cls Obj.lg_ledger_size 0 (decide (value ≤ 2147483648) && value % 16777216 == 0) fun t =>
    (t.put Obj.lg_ledger_size 0 value).modLg fun l => { l with recompute := true })

/-- LG_FLUSH_PROFILE_WRITE (R222, R224). -/
def execLgFlushProfileWrite (cls value : Nat) (s : State) : Host.Outcome State Fault Refusal :=
  .next (s.guarded cls Obj.lg_flush_profile 0 (decide (value ≤ 1)) fun t =>
    if t.get Obj.lg_flush_profile = value then t
    else ((t.put Obj.lg_flush_profile 0 value).put Obj.lg_flush_power_measured 0 0).modLg fun l => { l with recompute := true })

/-- COMPARATOR_SUSPECT (R206): a comparator disagrees with the other two for more than 1 s. -/
def execComparatorSuspect (comparator : Nat) (s : State) : Host.Outcome State Fault Refusal :=
  .next (if s.lg.comparators.getD comparator 1 = 0 then
    (s.modLg fun l => { l with comparators := l.comparators.set comparator 2 }).record 6 0x8023 [(1, comparator), (1, s.pfVote)]
  else s)

/-! ### Replay (R212 to R220) -/

/-- Journal copies of one record seal: items with their jseq, in the order read (R213). -/
def copiesOf (l : List JCopy) (wing kind sealNo : Nat) : List (Nat × LedgerRec) :=
  l.flatMap fun c => (c.items.filter fun i => i.wing == wing && i.kind == kind && i.sealNo == sealNo).map fun i =>
    (c.jseq, i)

/-- Settle one seal by its copies: two alike, the only one, or the highest jseq (R213); true where jseq decided. -/
def settleCopies (l : List (Nat × LedgerRec)) : Option (LedgerRec × Bool) :=
  match l with
  | [] => none
  | [x] => some (x.2, false)
  | _ =>
    match l.find? fun x => decide (2 ≤ (l.filter fun y => y.2 == x.2).length) with
    | some x => some (x.2, false)
    | none => (l.foldl (fun m x => match m with
        | some y => if y.1 < x.1 then some x else m
        | none => some x) none).map fun x => (x.2, true)

/-- The settled journal waybills and intents of a wing, by seal, each with whether jseq decided (R213). -/
def journalItems (l : List JCopy) (w : Nat) : List (LedgerRec × Bool) :=
  let keys := l.foldl (fun k c => c.items.foldl (fun m i =>
    if i.wing == w && (i.kind == 1 || i.kind == 2) then addNew m (i.sealNo, i.kind) else m) k) []
  (sortBy (·.1) keys).filterMap fun k => settleCopies (copiesOf l w k.2 k.1)

/-- Records of kinds 3 to 5 of a wing in any surviving copy (R213). -/
def journalFinals (l : List JCopy) (w : Nat) : List LedgerRec :=
  l.foldl (fun m c => c.items.foldl (fun k i =>
    if i.wing == w && decide (3 ≤ i.kind) && decide (i.kind ≤ 5) then addNew k i else k) m) []

/-- The vault's records of a wing, unflushed waybills left out, and those (R208, R211). -/
def vaultItems (v : VaultImage) (w : Nat) : List LedgerRec × List LedgerRec :=
  let bad := unflushed v 0 v.records
  let mine := v.records.filter fun r => r.wing == w
  (mine.filter fun r => !bad.contains r.sealNo, mine.filter fun r => bad.contains r.sealNo)

/-- The newest image by flush_seq (R212). -/
def LedgerSt.newest (l : LedgerSt) : Nat × VaultImage :=
  match l.images with
  | [a, b] => if a.seq < b.seq then (1, b) else (0, a)
  | _ => (0, {})

/-- The image in use for a replay: the newest by flush_seq, when it is not consumed, its header and index segments good (R211,
R212). -/
def State.replayImage (s : State) : Option (Nat × VaultImage) :=
  let x := s.lg.newest
  if (x.2.state = 1 ∨ x.2.state = 2) ∧ x.2.headerGood = true ∧ x.2.indexGood = true then some x else none

/-- Merge by seal: a record of the first list is taken over one of the second (R214). -/
def mergeSeal (a b : List LedgerRec) : List LedgerRec :=
  sortBy (·.sealNo) (a ++ b.filter fun r => !(a.any fun q => q.sealNo == r.sealNo && q.kind == r.kind))

/-- The replay set of a wing and the waybills it loses (R211, R214, R218). -/
structure ReplaySet where
  recs : List Rec
  lost : List LedgerRec
  conflicts : List LedgerRec
  finals : List LedgerRec
  deriving DecidableEq, Repr

/-- Build the replay set: settled journal items merged with the vault image or the shadow slab (R212 to R214). -/
def buildSet (w : Nat) (copies : List JCopy) (vault : Option VaultImage) (shadow : List LedgerRec) : ReplaySet :=
  let j := journalItems copies w
  let finals := journalFinals copies w ++ (shadow.filter fun r => r.wing == w && decide (3 ≤ r.kind))
  let done (kind sealNo : Nat) : Bool := finals.any fun f => f.kind == (if kind = 2 then 4 else 3) && f.target == sealNo
  let v := match vault with | some i => vaultItems i w | none => ([], [])
  let mine := shadow.filter fun r => r.wing == w && (r.kind == 1 || r.kind == 2)
  let all := (mergeSeal (v.1 ++ mine) (j.map (·.1))).filter fun r => !done r.kind r.sealNo
  let lost := v.2.filter fun r => !(all.any fun q => q.sealNo == r.sealNo) && !done r.kind r.sealNo
  let passed (r : LedgerRec) : Bool := r.kind == 1 && (
    (all.any fun q => q.kind == 2 && q.nsid == r.nsid && q.stripe == r.stripe && decide (r.sealNo < q.sealNo)) ||
    finals.any fun f => f.kind == 4 && f.nsid == r.nsid && f.stripe == r.stripe && decide (r.sealNo < f.target))
  { recs := all.map fun r => { r with
      superseded := passed r, copyHeld := true, eligible := true, applyBegun := r.applyBegun, ackGuard := !r.fua,
      fromVault := v.1.any fun q => q.sealNo == r.sealNo && q.kind == r.kind },
    lost := lost, conflicts := (j.filter (·.2)).map (·.1), finals := finals }

/-- Groups of one stripe in seal order: an intent alone, consecutive waybills together (R215). -/
def stripeGroups : List Rec → List Group
  | [] => []
  | r :: l =>
    let rest := stripeGroups l
    if r.kind = 2 then { wing := r.wing, nsid := r.nsid, stripe := r.stripe, sealNo := r.sealNo, intent := some r.sealNo, replay := true } :: rest
    else
      match rest with
      | g :: more => if g.intent.isNone then { g with seals := r.sealNo :: g.seals } :: more
          else { wing := r.wing, nsid := r.nsid, stripe := r.stripe, sealNo := r.sealNo, seals := [r.sealNo], replay := true } :: rest
      | [] => [{ wing := r.wing, nsid := r.nsid, stripe := r.stripe, sealNo := r.sealNo, seals := [r.sealNo], replay := true }]

/-- Every group of a replay set, namespace by namespace, in ascending stripe order (R215). -/
def replayGroups (l : List Rec) : List Group :=
  let live := l.filter fun r => !r.superseded
  let keys := live.foldl (fun k r => addNew k (r.nsid, r.stripe)) []
  (sortBy (·.1) (sortBy (·.2) keys)).flatMap fun k =>
    stripeGroups (sortBy (·.sealNo) (live.filter fun r => r.nsid == k.1 && r.stripe == k.2))

/-- Set the rebuild bitmaps from the rebuild-done records (R167, R219): every event up to the record's generation. -/
def State.bitsFromRecords (w : Nat) (finals : List LedgerRec) (s : State) : State :=
  (finals.filter fun f => f.kind == 5).foldl (fun t f =>
    let g (e : LogEntry) : LogEntry :=
      if !e.done && !genLater e.gen (f.target % 65536) then { e with bits := addNew e.bits (f.nsid, f.stripe) } else e
    t.modPlace w fun p => { p with log := p.log.map g }) s

/-- The Writes whose every piece is a waybill of a replay set, all with one arrival sequence, under the host that sent them (R256). -/
def State.replayedWrites (s : State) (l : List LedgerRec) : List Retry :=
  let bills := l.filter fun r => r.kind == 1 && !r.zero
  (bills.foldl (fun m r => addNew m r.arrival) []).filterMap fun a =>
    match bills.filter fun r => r.arrival == a with
    | [] => none
    | r :: more =>
      let first := minN r.first (more.map (·.first))
      let last := maxN (r.first + r.blocks.length) (more.map fun q => q.first + q.blocks.length)
      if last - first = itemBlocks (r :: more) then
        (s.si.shadowAssocs.find? fun x => x.index == r.assoc).map fun x =>
          { hostid := x.hostid, sqid := r.sqid, cid := r.cid, nsid := r.nsid, first := first, blocks := last - first, arrival := a }
      else none

/-- Begin the replay of a wing: the set enters the slab, the next seal and jseq follow the highest found, and the arrival sequence the
highest replayed, lost waybills are declared, and Writes are kept for their retries (R69, R191, R195, R213 to R218, R256). -/
def State.replayBegin (w : Nat) (image : Option VaultImage) (shadow : List LedgerRec) (s : State) : State :=
  let copies := s.lg.replayReads
  let b := buildSet w copies image shadow
  let seals := (b.recs.map (·.sealNo)) ++ (b.finals.map (·.sealNo)) ++ (match image with
    | some v => [v.sealHi.getD (w - 1) 0]
    | none => [])
  let hi := maxN (s.sealHi w) seals
  let jhi := maxN (s.lg.jseqNext.getD (w - 1) 1 - 1) ((copies.filter fun c => c.wing == w).map (·.jseq))
  let arr := maxN (s.ce.arrivalNext - 1) (b.recs.map (·.arrival))
  let s1 := (s.modLg fun l => { l with
    recs := l.recs.filter (fun r => r.wing != w) ++ b.recs,
    replaySet := l.replaySet ++ replayGroups b.recs, replayFinals := b.finals,
    sealNext := l.sealNext.set (w - 1) (hi + 1), jseqNext := l.jseqNext.set (w - 1) (jhi + 1),
    replayWing := some w, replayStart := s.gh.now }).modCe fun c => { c with arrivalNext := arr + 1 }
  let s2 := b.conflicts.foldl (fun t r => (t.tick Obj.lg_replay_vote_conflicts).record 6 0x8011
    ([(1, w), (8, r.sealNo)] ++ (copiesOf copies w r.kind r.sealNo).map fun x => (8, x.1))) s1
  let s3 := b.lost.foldl (fun t r => (List.range r.blocks.length).foldl (fun u i =>
    (u.loseReported r.nsid (r.first + i) 6).tick Obj.lg_replay_lost_blocks) t) s2
  let s4 := s3.put Obj.lg_replay_records 0 b.recs.length
  -- superseded waybills are left out: they are freed with the intent that supersedes them (R215)
  let gone := s4.lg.recs.filter fun r => r.wing == w && r.superseded
  let retries := s.replayedWrites (b.recs.map (·.toLedgerRec))
  (gone.foldl (fun t r => t.finalRec r) s4).modCe fun c => { c with retries := c.retries ++ retries }

/-- Start the next group of the replay once the one before is done (R215). -/
def State.replayNext (s : State) : State :=
  match s.lg.replaySet with
  | [] => s
  | g :: rest =>
    if s.lg.applies.any (·.replay) then s
    else
      let recs := sortBy (·.sealNo) (s.lg.recs.filter fun r => r.wing == g.wing && r.kind == 1 && g.seals.contains r.sealNo)
      let top := maxN g.sealNo g.seals
      ((s.modLg fun l => { l with replaySet := rest }).startGroup { g with sealNo := top } (recs.map (·.toLedgerRec))).settle

/-- The replay has nothing left to apply and its free and retire records are held (R219). -/
def State.replayDone (s : State) (w : Nat) : Bool :=
  s.lg.replaySet.isEmpty && !(s.lg.applies.any (·.replay)) && !(s.lg.recs.any fun r => r.wing == w) &&
  !((s.lg.legRecs ++ s.lg.journalDue).any fun r => r.wing == w)

/-- The replay of a wing ends: its free and retire records are written, the rebuild bitmaps are set from the rebuild-done records, it is
recorded, and its reads are dropped (R167, R219). -/
def State.replayEnd (w : Nat) (s : State) : State :=
  let ns := s.gh.now - s.lg.replayStart
  (((s.bitsFromRecords w s.lg.replayFinals).put Obj.lg_replay_time 0 ns).record 4 0x8030
    [(8, s.get Obj.lg_replay_records), (8, s.get Obj.lg_replay_duplicate_rows), (8, s.get Obj.lg_replay_rewritten_rows),
     (8, s.get Obj.lg_replay_lost_blocks), (8, ns)]).modLg fun l => { l with
    replayWing := none, replayReads := [], replayFinals := [] }

/-! ### The vault (R207 to R211) -/

/-- Page `p` of an image goes to the vault (R208). -/
def State.vaultWrite (image p : Nat) (s : State) : State :=
  match s.lg.images[image]? with
  | some v => s.emit (.vaultPage image p (v.page p))
  | none => s

/-- One page goes to the vault, or comes from it (R208, R457). -/
def State.vaultOut (s : State) : State :=
  match s.lg.flush with
  | some f =>
    let s1 := (s.vaultWrite f.image f.pages).modLg fun l => { l with flush := some { f with pages := f.pages + 1 } }
    if f.pages + 2 < f.total then s1.push Bc.vault Opc.vault none (some 0x50) 0 (.vaultPage (f.pages + 1)) else s1
  | none =>
    match s.lg.vaultRead with
    | some (i, left) =>
      let s1 := s.modLg fun l => { l with vaultRead := some (i, left - 1) }
      if 1 < left then s1.push Bc.vault Opc.vault (some 0x50) none 0 (.vaultPage (left - 1)) else s1
    | none => s

/-- The claim numbers the controller holds, 0 where none (R208, R209). -/
def State.ownClaims (s : State) : List Nat := [1, 2].map fun w => if s.holdsWing w then (s.wing w).claim else 0

/-- The consumed page of the image that was replayed is due (R209, R219). -/
def State.consume (s : State) : State :=
  match s.lg.replayed with
  | some _ => s.push Bc.vault Opc.vault none (some 0x50) 0 .vaultConsumed
  | none => s

/-- The consumed page is written: the image is never replayed again (R209). -/
def State.consumedOut (s : State) : State :=
  match s.lg.replayed with
  | some i =>
    let f (v : VaultImage) : VaultImage := { v with state := 3, consumed := some (s.gh.now, s.ownClaims) }
    let v := (s.lg.images[i]?).getD {}
    (s.modLg fun l => { l with images := modAt l.images i f, replayed := none }).emit
      (.vaultPage i (flushPages v.records) (v.consumedPage s.gh.now s.ownClaims))
  | none => s

/-- The transfer of a VAULT cell. -/
def runVault (_ : CellWord) (t : Transfer) (bed : Option Nat) (s : State) : State :=
  match t.job with
  | .vaultPage _ => (s.returnBed bed).vaultOut
  | .vaultConsumed => (s.returnBed bed).consumedOut
  | _ => s.returnBed bed

/-- Records a flush writes: those of every wing held, in seal order (R207, R208). -/
def State.flushRecs (s : State) : List LedgerRec :=
  sortBy (·.sealNo) ((s.lg.recs.filter fun r => s.holdsWing r.wing).map (·.toLedgerRec))

/-- What stands in the image once `pages` of it are written (R208, R211). -/
def imageAfter (v : VaultImage) (pages : Nat) (complete : Bool) : VaultImage := { v with state := if complete then 2 else 1, pages := pages }

end Sys2Proof.Machine
end

