-- ==== Sys2Proof/Machine/Field.lean ====
section
/-! DEFINITION. Messages of the object protocol: header, tag and credentials, and the frames they travel in (R485, R487 to R493,
R495). -/

namespace Sys2Proof.Machine

/-- The 24-byte header of a message (R489). -/
def msgHeader (type session counter request length : Nat) : List Byte :=
  [0x4B#8, 0x4F#8, 1#8] ++ beBytes 1 type ++ beBytes 4 session ++ beBytes 8 counter ++ beBytes 4 request ++
    beBytes 2 length ++ [0#8, 0#8]

/-- The tag of a message under the key of its session (R489). -/
def msgTag (ks : BitVec 256) (type session counter request : Nat) (body : List Byte) : BitVec 256 :=
  Config.kmac256 (leBytes 32 ks.toNat) (msgHeader type session counter request body.length ++ body) "KA2460 TAG"

/-- K_s of a session (R493). -/
def sessionKey (secret nonces : List Byte) (session : Nat) : BitVec 256 :=
  Config.kmac256 secret (nonces ++ beBytes 4 session) "KA2460 FIELD"

/-- Frames a message of `n` bytes travels in: one, or fragments of 1,280 bytes (R488; log entry 61). -/
def fieldFrames (n : Nat) : Nat := if n + 48 ≤ 1280 then 1 else ceilDiv (n + 8) 1232

/-- A message of `body` bytes and its tag, as bytes of a datagram. -/
def msgBytes (body : List Byte) (tagged : Bool) : Nat := 24 + body.length + (if tagged then 32 else 0)

/-- A message has arrived over a path: the frames of the field network are counted (R498). -/
def State.fieldGot (vlan : Option Nat) (bytes : Nat) (s : State) : State :=
  if vlan.isSome then s else s.count Obj.gh_field_rx_frames 0 (fieldFrames bytes)

/-- The lengths of the Ethernet frames that carry a message of `n` bytes on the management VLAN, from destination address to FCS, tag
included (R488, R496). -/
def mgmtFrames (n : Nat) : List Nat :=
  if n + 48 ≤ 1280 then [Nat.max 64 (n + 70)]
  else (List.range (fieldFrames n)).map fun i => Nat.max 64 (70 + Nat.min 1232 (n + 8 - 1232 * i))

/-- Send a message: the frames of the field network are counted (R498); on the management VLAN its frames go to the link it came on,
in class sw_mgmt_tc, with the tag of pc_mgmt_vid (R368, R496). -/
def State.fieldSend (vlan : Option Nat) (session type counter request : Nat) (body : List Byte) (tag : Option (BitVec 256))
    (s : State) : State :=
  let n := msgBytes body tag.isSome
  let s1 := match vlan with
    | none => s.count Obj.gh_field_tx_frames 0 (fieldFrames n)
    | some l => (mgmtFrames n).foldl (fun t b =>
        t.sendEgress l { tc := t.get Obj.sw_mgmt_tc, bytes := b, mgmt := true }) s
  s1.emit (.field vlan session type counter request body tag)

/-- Send a tagged message under a session's key (R489, R490). -/
def State.tagSend (vlan : Option Nat) (ks : BitVec 256) (session type counter request : Nat) (body : List Byte) (s : State) :
    State :=
  s.fieldSend vlan session type counter request body (some (msgTag ks type session counter request body))

/-- The entry of the credential table of a role whose digest is that of a key; an all-zero digest matches no key (R492, R493,
R498). -/
def State.credential (s : State) (role : Nat) (key : List Byte) : Option Nat :=
  (List.range 16).find? fun e => s.get Obj.fw_cred_role (e + 1) == role &&
    (let d := s.blob Obj.fw_cred_digest (e + 1)
     d.any (· != 0#8) && d == sha3Bytes key)

/-- The secret of an entry, 32 bytes (R492). -/
def State.credSecret (s : State) (e : Nat) : List Byte :=
  let d := s.blob Obj.fw_cred_secret (e + 1)
  d ++ List.replicate (32 - d.length) 0#8

end Sys2Proof.Machine
end

