-- ==== Sys2Proof/Machine/Lantern.lean ====
section
/-! DEFINITION. Claim numbers, the warden, taking, defending and yielding a wing, and the lantern at Muster (R229 to R235, R247 to
R257, R570, R572). -/

namespace Sys2Proof.Machine

/-! ### Modes (R31, R453, R454) -/

/-- The number of a mode, as fw_mode, the leg packet head and SISTER_SB give it (R238, R242, R470). -/
def modeNo : Mode → Nat
  | .vigil => 0 | .muster => 1 | .standby => 2 | .service => 3 | .drain => 4 | .holdup => 5

/-- The mode changes (record 0xE001).  Causes: 1 a lantern taken or yielded, 2 a cause of Drain, 3 Drain over, 4 the power-fail
detector, 5 a warm reset, 6 Muster ends, 7 Vigil left, 8 shutdown, 9 a fault or no feed (log entry 20). -/
def State.setMode (m : Mode) (cause : Nat) (s : State) : State :=
  if s.md.mode = m then s
  else (s.modMd fun x => { x with mode := m }).record 2 0xE001 [(1, modeNo s.md.mode), (1, modeNo m), (1, cause)]

/-! ### Claim numbers (R229, R230) -/

/-- A claim number (R229). -/
def claimNo (gen id : Nat) : Nat := gen * 65536 + id * 256

/-- The generation of a claim number. -/
def genOfClaim (c : Nat) : Nat := c / 65536

/-- A claim of a wing has been seen: the highest one is kept; standby keys and 0 are none (R229 to R231). -/
def State.sawClaim (w c : Nat) (s : State) : State :=
  if genOfClaim c = 0 then s else s.modWingSt w fun x => { x with seen := Nat.max x.seen c }

/-- The next claim for a wing: a generation above the highest seen (R230). -/
def State.nextClaim (s : State) (w : Nat) : Nat := claimNo (genOfClaim (s.wing w).seen + 1) (if s.paired then s.si.id else 0)

/-- The wings of the shelf. -/
def State.shelfWings (s : State) : List Nat := if s.paired then [1, 2] else [1]

/-! ### ANA states (R254, R316) -/

/-- A wing's group changes its state: hosts are told (R254, R318). -/
def State.setAna (w : Nat) (a : AnaState) (s : State) : State :=
  if (s.wing w).ana = a then s
  else ((s.modWingSt w fun x => { x with ana := a }).modSi fun i => { i with anaChanges := i.anaChanges + 1 }).raiseAll 2 3 0x0C

/-! ### The warden (R247, R248, R495) -/

/-- The body of the HELLO to the warden (R490, R495). -/
def State.helloBody (s : State) : List Byte := leBytes 32 s.si.wardenNonce ++ [0, 0, 0, 0] ++ Config.deviceKey

/-- The controller opens a session to the warden (R495). -/
def State.helloWarden (s : State) : State :=
  let s1 := (s.modSi fun i => { i with wardenSession := 1, wardenNonce := s.freeVal 256, wardenTx := 0, wardenRx := 0 }).drawn
  s1.fieldSend none 0 1 0 0 s1.helloBody none

/-- A warden is configured. -/
def State.hasWarden (s : State) : Bool := !(s.blob Obj.si_warden_address 0).isEmpty

/-- The 24-byte body of a lantern message (R247). -/
def lanternBody (op w reason claim genSeen lease : Nat) : List Byte :=
  beBytes 1 op ++ beBytes 1 w ++ beBytes 1 reason ++ [0#8] ++ beBytes 8 claim ++ beBytes 8 genSeen ++ beBytes 4 lease

/-- Send a lantern message of a wing in the open session (R247): 1 RENEW, 2 REQUEST, 5 RELEASE. -/
def State.lanternOut (op w : Nat) (s : State) : State :=
  let x := s.wing w
  let reason := if op = 2 then (x.request.map (·.1)).getD 0 else 0
  let claim := if op = 1 ∨ op = 5 then x.claim else 0
  let s1 := s.modSi fun i => { i with wardenTx := i.wardenTx + 1 }
  s1.tagSend none s.si.wardenKs s.si.wardenId 0x20 s1.si.wardenTx 0
    (lanternBody op w reason claim (if op = 2 then genOfClaim x.seen else 0) 0)

/-- Send a lantern message; it waits for the session where none is open.  With no warden configured nothing is sent. -/
def State.sendLantern (op w : Nat) (s : State) : State :=
  if !s.hasWarden then s
  else if s.si.wardenSession = 3 then s.lanternOut op w
  else
    let s1 := s.modSi fun i => { i with wardenOut := addNew i.wardenOut (op, w) }
    if s1.si.wardenSession = 0 then s1.helloWarden else s1

/-- CHALLENGE (R493, R495): the warden's CHALLENGE answers the controller's HELLO; the controller verifies it and sends AUTH.  A
key or signature that fails ends the attempt. -/
def execChallenge (session : Nat) (nonce key signature : List Byte) (s0 : State) : Host.Outcome State Fault Refusal :=
  let s := s0.fieldGot none (msgBytes (nonce ++ key ++ signature) false)
  .next (if s.si.wardenSession = 1 then
    let upTo := s.helloBody ++ nonce ++ key
    match s.credential 1 key with
    | some e =>
      if Config.mldsaVerify key "KA2460 FIELD D" (sha3Bytes upTo) signature then
        let ks := sessionKey (s.credSecret e) (leBytes 32 s.si.wardenNonce ++ nonce) session
        (s.modSi fun i => { i with wardenSession := 2, wardenId := session, wardenKs := ks }).fieldSend none session 3 0 0
          (Config.mldsaSign "KA2460 FIELD C" (sha3Bytes (upTo ++ signature))) none
      else s.modSi fun i => { i with wardenSession := 0 }
    | none => s.modSi fun i => { i with wardenSession := 0 }
  else s)

/-- AUTH_OK (R490, R495): the session to the warden is open, and what waited for it is sent. -/
def execAuthOk (m : FieldMsg) (body : List Byte) (s0 : State) : Host.Outcome State Fault Refusal :=
  let s := s0.fieldGot none (msgBytes body true)
  .next (if s.si.wardenSession = 2 ∧ m.session = s.si.wardenId ∧
      m.tag = msgTag s.si.wardenKs 4 m.session m.counter m.request body then
    if m.counter = 0 then s.tick Obj.fw_counter_drops
    else
      let l := s.si.wardenOut
      l.foldl (fun t x => t.lanternOut x.1 x.2) (s.modSi fun i => { i with
        wardenSession := 3, wardenRx := m.counter, wardenOut := [] })
  else s.tick Obj.fw_tag_failures)

/-- A LANTERN message names the warden's session and its tag passes (R490, R495). -/
def State.wardenTag (s : State) (m : FieldMsg) (body : List Byte) : Bool :=
  s.si.wardenSession == 3 && m.session == s.si.wardenId &&
    m.tag == msgTag s.si.wardenKs 0x20 m.session m.counter m.request body

/-- A LANTERN message of the warden is accepted within its session only, with a tag that passes and a higher counter (R490,
R495). -/
def State.fromWarden (s : State) (m : FieldMsg) (body : List Byte) : Bool :=
  s.wardenTag m body && decide (s.si.wardenRx < m.counter)

/-- A message that is not accepted is counted and discarded (R490). -/
def State.wardenDrop (m : FieldMsg) (body : List Byte) (s : State) : State :=
  if s.wardenTag m body then s.tick Obj.fw_counter_drops else s.tick Obj.fw_tag_failures

/-- The warden answered (R248, R250). -/
def State.wardenHeard (w counter lease : Nat) (s : State) : State :=
  (s.modSi fun i => { i with wardenRx := counter, wardenState := 1 }).modWingSt w fun x => { x with
    request := none, renewFirst := false, lease := lease }

/-! ### Preempting the drives (R232, R233, R235) -/

/-- Ask a drive for the reservation of a wing (R233 step 1). -/
def State.askDrive (w bay : Nat) (s : State) : State :=
  s.issueDrive { bay := bay, queue := 0, op := .report, nsid := w, use := .preempt w 1 }

/-- Change the takeover of a wing. -/
def State.modTake (w : Nat) (f : Takeover → Takeover) (s : State) : State :=
  s.modWingSt w fun x => { x with takeover := x.takeover.map f }

/-- Take the next step on a drive whose holder key is known (R233 steps 2 and 3). -/
def State.judgeDrive (w bay key : Nat) (s : State) : State :=
  match (s.wing w).takeover with
  | some t =>
    if t.claim ≤ key then s.modTake w fun x => { x with refused := addNew x.refused bay } else s.registerKey w bay
  | none => s

/-- Reservation commands of a wing's takeover no longer matter. -/
def State.dropPreempts (w : Nat) (s : State) : State :=
  let f (d : DriveCmd) : DriveCmd :=
    match d.use with | .preempt x _ => if x = w then { d with discard := true, use := .reservationReport w } else d | _ => d
  s.modDrives fun d => { d with cmds := d.cmds.map f }

/-- A claim stands (R251, R253): the wing is held, which the next frames announce, and outside Muster the taker switches to store 3 at
the next leg boundary (R63). -/
def State.standClaim (w : Nat) (s : State) : State :=
  match (s.wing w).takeover with
  | some t =>
    if t.stands then s
    else
      let s1 := (s.modTake w fun x => { x with stands := true }).modWingSt w fun x => { x with
        state := .holder, claim := t.claim, handback := 0 }
      let s2 := if s.paired ∧ s.md.mode ≠ .muster then s1.modTt fun x => { x with activatePend := some 3 } else s1
      s2.tick Obj.gh_tally_takeovers
  | none => s

/-- The highest holder key a takeover met. -/
def Takeover.highest (t : Takeover) : Nat := maxN 0 (t.reports.map (·.2))

/-- No drive of a wing is won any more: a claim is taken anew, or given up (R235). -/
def State.unacquire (w : Nat) (s : State) : State :=
  (List.range 24).foldl (fun t b => t.modDrive b fun x => { x with acquired := x.acquired.filter (· != w) }) s

/-- Present drives on which the controller is registered for a wing, or is registering, under another key than the standby key (R231). -/
def State.claimBays (s : State) (w : Nat) : List Nat :=
  (s.presentBays w).filter fun b => lookup (s.drive b).registered w (standbyKey s.si.id) != standbyKey s.si.id ||
    s.drives.cmds.any fun d => d.bay == b && d.use == .keyRegister w

/-- The taker backs off (R252): the race is lost, or a drive is refused to the controller of a single shelf (R572).  Where it is
registered under the claim, it registers its standby key (R231). -/
def State.backOff (w higher : Nat) (s : State) : State :=
  match (s.wing w).takeover with
  | some t =>
    let s1 := ((s.dropPreempts w).modWingSt w fun x => { x with
      state := .standby, takeover := none, request := none, holdoff := false, copyPath := .none }).setAna w .inaccessible
    let s2 := (s1.tick Obj.si_backoffs).record 5 0xB003 [(1, w), (8, t.claim), (8, higher), (1, t.won.length)]
    (s.claimBays w).foldl (fun u b => u.registerKey w b) (s2.unacquire w)
  | none => s

/-- A yield is due (R255): its actions are taken at the next leg boundary. -/
def State.yieldDue (w winning cause : Nat) (s : State) : State :=
  s.modWingSt w fun x => { x with state := .yielding, yieldFor := some (winning, cause) }

/-- The holder's lease is current (R252). -/
def State.leaseCurrent (s : State) (w : Nat) : Bool := decide (s.gh.now < (s.wing w).leaseEnd)

/-- The holder defends its wing (R252): a claim one generation above the challenger's, preempted on every present drive. -/
def State.defend (w key : Nat) (s : State) : State :=
  let c := claimNo (genOfClaim key + 1) s.si.id
  let here := s.presentBays w
  let t : Takeover := { path := 1, claim := c, stands := true, defend := true, asked := here, trigger := s.gh.now }
  let s1 := (((s.dropPreempts w).unacquire w).sawClaim w c).modWingSt w fun x => { x with
    claim := c, takeover := some t, preemptStart := 0 }
  here.foldl (fun u b => u.askDrive w b) s1

/-- A holder with a current lease defends its wing, unless it hands it back (R252, R261). -/
def State.defends (s : State) (w : Nat) : Bool := s.leaseCurrent w && (s.wing w).handback == 0

/-- A holder learns from a drive of a claim above its own (R234, R252): it defends, or yields. -/
def State.challenged (w key : Nat) (s : State) : State :=
  if s.defends w then s.defend w key
  else s.yieldDue w key (if (s.wing w).handback = 2 then 2 else 1)

/-- What a takeover has come to after a drive answered (R233, R251, R252, R572): a refused drive, or a higher claim seen anywhere,
loses the race while the claim does not stand. -/
def State.takeCheck (w : Nat) (s : State) : State :=
  match (s.wing w).takeover with
  | none => s
  | some t =>
    if t.claim = 0 then s
    else if !t.refused.isEmpty then
      if t.stands then s.challenged w t.highest else s.backOff w t.highest
    else if t.stands then s
    else if t.claim < (s.wing w).seen then s.backOff w (s.wing w).seen
    else if t.quorum then (if 13 ≤ t.won.length then s.standClaim w else s)
    else if t.asked.all t.won.contains then s.standClaim w
    else s

/-- Begin to take a wing (R233, R254): every present drive is asked at once.  Without a quorum a grant's and a hand-back's claim
stands. -/
def State.takeWing (w path claim : Nat) (quorum : Bool) (s : State) : State :=
  let here := s.presentBays w
  let t : Takeover := { path := path, claim := claim, quorum := quorum, asked := here, trigger := s.gh.now }
  let s1 := ((s.sawClaim w claim).unacquire w).modWingSt w fun x => { x with
    state := .taking, request := none, holdoff := false, copyPath := .journalZones, preemptStart := 0, yieldFor := none,
    takeover := some t }
  let s2 := here.foldl (fun u b => u.askDrive w b) (s1.setAna w .change)
  if !quorum ∧ (path = 1 ∨ path = 3) then s2.standClaim w else s2.takeCheck w

/-- At Muster: the reservations of a wing have been reported, and the wing is taken with a claim (R257, R572). -/
def State.claimReported (w path claim : Nat) (quorum : Bool) (s : State) : State :=
  match (s.wing w).takeover with
  | some t =>
    let s1 := (((s.sawClaim w claim).unacquire w).modWingSt w fun x => { x with
      state := .taking, request := none, holdoff := false, copyPath := .journalZones, preemptStart := 0,
      takeover := some { t with path := path, claim := claim, quorum := quorum } }).setAna w .change
    (t.reports.foldl (fun u x => u.judgeDrive w x.1 x.2) s1).takeCheck w
  | none => s.takeWing w path claim quorum

/-- Take a wing after the warden's answer or silence, in Muster on the reports already made. -/
def State.takeNow (w path claim : Nat) (quorum : Bool) (s : State) : State :=
  if (s.wing w).takeover.isSome then s.claimReported w path claim quorum else s.takeWing w path claim quorum

/-- The standby of a wing asks the warden for it (R249, R250): reasons 1 silence, 2 sideband mode, 3 hand-back, 4 Muster. -/
def State.requestWing (w reason : Nat) (s : State) : State :=
  (s.modWingSt w fun x => { x with request := some (reason, 1) }).sendLantern 2 w

/-- Step 10 of Muster begins (R232, R257, R572): each wing's reservation is asked of every present drive. -/
def State.musterLantern (s : State) : State :=
  s.shelfWings.foldl (fun u w =>
    let here := u.presentBays w
    let t : Takeover := { asked := here, trigger := u.gh.now }
    here.foldl (fun v b => v.askDrive w b) (u.modWingSt w fun x => { x with takeover := some t })) s

/-- The standby of a wing at Muster: no takeover, the standby key on every present drive (R231, R257). -/
def State.standBy (w : Nat) (s : State) : State :=
  (s.presentBays w).foldl (fun u b => u.registerKey w b) ((s.unacquire w).modWingSt w fun x => { x with
    state := .standby, takeover := none, request := none, holdoff := false })

/-- Decide a wing once every present drive has reported (R257, R258, R572). -/
def State.musterDecide (w : Nat) (s : State) : State :=
  match (s.wing w).takeover with
  | some t =>
    if t.claim ≠ 0 ∨ (s.wing w).request.isSome ∨ (s.wing w).holdoff ∨ !(t.asked.all fun b => t.reports.any fun r => r.1 == b) then s
    else if !s.paired then
      if s.si.promoted then
        match s.si.promoteClaim with
        | some _ => (s.record 4 0xB00D [(1, 1), (8, s.nextClaim w)]).claimReported w 4 (s.nextClaim w) false
        | none => (s.record 4 0xB00D [(1, 2), (8, s.nextClaim w)]).claimReported w 4 (s.nextClaim w) true
      else s.claimReported w 0 (s.nextClaim w) false
    else if t.highest = 0 then (if w = s.si.id + 1 then s.claimReported w 0 (s.nextClaim w) false else s.standBy w)
    else if t.highest / 256 % 256 = s.si.id then s.requestWing w 4
    else s.standBy w
  | none => s

/-- A drive answers a command of a takeover (R233): the report of the reservation, with the holder's key and every registrant's
key, or the Acquire, with success or not. -/
def State.driveWonBy (w bay holder : Nat) (keys : List Nat) (good : Bool) (s : State) : State :=
  match s.drives.cmds.find? fun d => d.bay == bay && (d.use == .preempt w 1 || d.use == .preempt w 2) with
  | none => s
  | some d =>
    let s1 := s.dropDriveCmd bay 0 d.cid
    if d.use = .preempt w 1 then
      let s2 := (holder :: keys).foldl (fun u k => u.sawClaim w k) s1
      let s3 := s2.modTake w fun t => { t with reports := assign t.reports bay holder }
      if ((s3.wing w).takeover.map (·.claim)).getD 0 = 0 then (s3.musterDecide w).takeCheck w
      else (s3.judgeDrive w bay holder).takeCheck w
    else if good then
      let f (t : Takeover) : Takeover := { t with won := addNew t.won bay }
      let s2 := (s1.modTake w f).modDrive bay fun x => { x with acquired := addNew x.acquired w }
      [1, 2, 3, 4, 5, 6, 7, 8, 9, 10, 11, 12].foldl (fun u q => u.ringNext bay q) (s2.takeCheck w)
    else s1

/-- DRIVE_WON. -/
def execDriveWon (wing bay holder : Nat) (keys : List Nat) (good : Bool) (s : State) : Host.Outcome State Fault Refusal :=
  .next (s.driveWonBy wing bay holder keys good)

/-! ### Losing a drive or the race (R235, R251, R252) -/

/-- A drive not won in time is lost in the wing (R235): its LOSS is entered at once by a serving holder, else once the replay is
complete (R570); what was issued to it returns with RESET. -/
def State.loseUnwon (w bay : Nat) (s : State) : State :=
  let s1 := (s.modTake w fun t => { t with asked := t.asked.filter (· != bay) }).record 5 0xB00C [(1, w), (1, bay)]
  let s2 := if (s.wing w).open_ then s1.loseBay w bay
    else if (s1.place w).lostBay bay then s1 else s1.modPlace w fun p => { p with pendingLoss := addNew p.pendingLoss bay }
  let gone := s2.drives.cmds.filter fun d => d.bay == bay && d.nsid == w && d.queue != 0
  let s3 := gone.foldl (fun u d => d.beds.foldl (fun v h => v.freeOwned h) (u.dropDriveCmd bay d.queue d.cid)) s2
  gone.foldl (fun u d => if d.discard then u else u.driveReset bay d.use) s3

/-- PREEMPT_TIMEOUT (R235, R251): si_preempt_timeout after the first Acquire. -/
def execPreemptTimeout (wing : Nat) (s : State) : Host.Outcome State Fault Refusal :=
  .next (match (s.wing wing).takeover with
  | some t =>
    let start := (s.wing wing).preemptStart
    if t.claim = 0 ∨ t.stopped ∨ s.gh.now < start + s.get Obj.si_preempt_timeout then s
    else if t.quorum && !t.stands then
      ((s.dropPreempts wing).modTake wing fun x => { x with stopped := true }).record 7 0xB004
        [(1, wing), (1, t.won.length), (1, 24 - (s.presentBays wing).length)]
    else
      (((t.asked.filter fun b => !t.won.contains b).foldl (fun u b => u.loseUnwon wing b) (s.dropPreempts wing)).takeCheck wing).settle
  | none => s)

/-- QUORUM_RETRY (R251): the taker tries again unless it has seen a higher claim. -/
def execQuorumRetry (wing : Nat) (s : State) : Host.Outcome State Fault Refusal :=
  .next (match (s.wing wing).takeover with
  | some t =>
    if !t.stopped then s
    else if t.claim < (s.wing wing).seen then s.backOff wing (s.wing wing).seen
    else
      let todo := (s.presentBays wing).filter fun b => !t.won.contains b
      let s1 := s.modTake wing fun x => { x with stopped := false, asked := t.won ++ todo, reports := [], refused := [] }
      todo.foldl (fun u b => u.askDrive wing b) (s1.modWingSt wing fun x => { x with preemptStart := 0 })
  | none => s)

/-- RESERVATION_CONFLICT (R234, R252, R255): a member or journal write of a wing completed with Reservation Conflict; `key` is the
holder key read from that drive.  A holder that defends writes it again once its new claim has won the drive (log entry 119). -/
def State.resConflict (bay queue cid key : Nat) (s : State) : State :=
  match s.driveCmd? bay queue cid with
  | some d =>
    let w := d.nsid
    if queue = 0 ∨ d.op ≠ .write ∨ !d.outstanding ∨ 0 < d.toMove then s
    else
      let s1 := (d.beds.foldl (fun u h => u.freeOwned h) (s.dropDriveCmd bay queue cid)).sawClaim w key
      if s.holdsWing w then
        if (s.wing w).claim < key then (if s.defends w then s1.repeatWrite { d with repeated := d.repeated } else s1).challenged w key
        else if d.repeated then (s1.driveReset bay d.use).contain bay 6
        else s1.repeatWrite d
      else if (s.wing w).state = .taking ∧ (s.wing w).claim < key then s1.backOff w key
      else s1
  | none => s

/-- RESERVATION_CONFLICT. -/
def execReservationConflict (bay queue cid key : Nat) (s : State) : Host.Outcome State Fault Refusal :=
  .next (s.resConflict bay queue cid key).settle

/-! ### The warden's answers and silence (R248 to R250, R253, R258) -/

/-- The standby finds the holder of a wing failed (R249).  Causes: 1 silence, 2 the mode in SISTER_SB. -/
def State.holderFailed (w cause : Nat) (s : State) : State :=
  let x := s.wing w
  if s.paired ∧ x.state = .standby ∧ x.request.isNone ∧ !x.holdoff ∧ x.takeover.isNone ∧
      (s.md.mode = .standby ∨ s.md.mode = .service ∨ s.md.mode = .drain) then
    (s.record 5 0xB007 [(1, w), (1, cause), (4, s.si.silence)]).requestWing w cause
  else s

/-- HOLDER_SILENCE (R249): si_silence_legs consecutive legs without a leg packet whose HEAD is valid. -/
def execHolderSilence (wing : Nat) (s : State) : Host.Outcome State Fault Refusal :=
  .next (if s.get Obj.si_silence_legs ≤ s.si.silence then s.holderFailed wing 1 else s)

/-- WARDEN_REFUSE (R248, R250, R253): a REFUSE with the holder's claim and the lease remaining, µs. -/
def execWardenRefuse (m : FieldMsg) (wing claim lease : Nat) (s0 : State) : Host.Outcome State Fault Refusal :=
  let s := s0.fieldGot none 80
  .next (if !s.fromWarden m (lanternBody 4 wing 0 claim 0 lease) then s.wardenDrop m (lanternBody 4 wing 0 claim 0 lease)
  else
    let x := s.wing wing
    let s1 := ((s.wardenHeard wing m.counter x.lease).sawClaim wing claim).record 4 0xB005 [(1, wing), (8, claim), (4, lease)]
    if x.request.isSome then
      if x.takeover.isSome then s1.standBy wing else s1.modWingSt wing fun y => { y with handback := 0 }
    else if s.holdsWing wing then s1.yieldDue wing claim 3
    else s1)

/-- After the hold-off (R250): `key` is the highest holder key found on a drive of the other wing, where the controller holds
it. -/
def State.holdoffEnd (w key : Nat) (s : State) : State :=
  let s1 := s.modWingSt w fun x => { x with holdoff := false }
  let other := 3 - w
  if s.holdsWing other ∧ (s.wing other).claim < key then
    let s2 := (s1.sawClaim other key).yieldDue other key 1
    if (s2.wing w).takeover.isSome then s2.standBy w else s2
  else s1.takeNow w 2 (s1.nextClaim w) true

/-- HOLDOFF_EXPIRY: si_holdoff_legs have passed. -/
def execHoldoffExpiry (wing key : Nat) (s : State) : Host.Outcome State Fault Refusal :=
  .next (if (s.wing wing).holdoff then s.holdoffEnd wing key else s)

/-- WARDEN_TIMEOUT (R248, R250, R261): no reply within si_warden_timeout of the first message.  The fallback waits si_holdoff_legs, none
for sister 0, and looks at the keys of the wing it holds (HOLDOFF_EXPIRY). -/
def execWardenTimeout (wing : Nat) (s : State) : Host.Outcome State Fault Refusal :=
  let x := s.wing wing
  .next (match x.request with
  | some (reason, n) =>
    let s1 := ((s.modSi fun i => { i with wardenState := if s.hasWarden then 2 else 0 }).modWingSt wing fun y =>
      { y with request := none }).record 5 0xB006 [(1, wing), (4, n)]
    let stay (t : State) : State := if x.takeover.isSome then t.standBy wing else t
    if reason = 3 then s1.takeNow wing 3 (s1.nextClaim wing) false
    else if s.get Obj.si_fallback_enable = 0 then stay s1
    else if !s.si.silent ∨ s.gh.now < s.si.sbSilentAt + 5000000 then stay s1
    else s1.modWingSt wing fun y => { y with holdoff := true }
  | none =>
    if x.renewFirst then
      (s.modSi fun i => { i with wardenState := if s.hasWarden then 2 else 0 }).modWingSt wing fun y => { y with renewFirst := false }
    else s)

/-- The controller is held for promotion (R259): under policy 1 in Vigil, under policy 2 from Vigil on, until fw_start is written
or it is promoted. -/
def State.heldForPromotion (s : State) : Bool :=
  s.md.held || (s.md.mode == .vigil && decide (1 ≤ s.get Obj.fw_start_policy) && !s.md.released && !s.si.promoted)

/-- A holder sends RENEW in Service, Standby and Drain, and none in Muster or Holdup (R248). -/
def State.renews (s : State) : Bool := s.md.mode == .service || s.md.mode == .standby || s.md.mode == .drain

/-- RENEW (R248, R258): every si_lease_renew, for each wing held in Service, Standby or Drain; a controller held for promotion opens
the session in which a GRANT may reach it. -/
def execRenew (s : State) : Host.Outcome State Fault Refusal :=
  .next (if s.renews then s.heldWings.foldl (fun t w => t.sendLantern 1 w) s
  else if s.heldForPromotion ∧ s.hasWarden ∧ s.si.wardenSession = 0 then s.helloWarden
  else s)

/-- LANTERN_RESEND (R250, R253): a REQUEST without a reply, or the first RENEW after a quorum, goes again. -/
def execLanternResend (wing : Nat) (s : State) : Host.Outcome State Fault Refusal :=
  let x := s.wing wing
  .next (match x.request with
  | some (reason, n) => (s.modWingSt wing fun y => { y with request := some (reason, n + 1) }).sendLantern 2 wing
  | none => if x.renewFirst ∧ s.renews = true then s.sendLantern 1 wing else s)

/-! ### Frames of the sister link (R237, R260) -/

/-- A frame of this sister (R237): its header names the sender, a leg and the claims it holds. -/
def State.linkFrame (type index flags leg : Nat) (payload : List Byte) (s : State) : List Byte :=
  sisterFrame { type := type, sender := s.si.id, index := index, flags := flags, leg := leg,
                claim1 := s.ownClaims.getD 0 0, claim2 := s.ownClaims.getD 1 0 } payload

/-- Send a single frame in the current leg, where the link is up (R240, R260, R261). -/
def State.sisterSend (type : Nat) (payload : List Byte) (s : State) : State :=
  if (s.link 32).up then s.emit (.sisterFrame (s.linkFrame type 0 0 s.tt.legCount payload)) else s

/-- Request resynchronisation (R240, R260). -/
def State.askResync (s : State) : State :=
  (s.modSi fun i => { i with resync := 1, resyncStart := s.gh.now, queued := [], incoming := [] }).sisterSend 7 []

/-! ### Yielding (R255) -/

/-- What of a wing leaves the ledger and the engines when it is yielded (R255); its cached blocks leave too (log entry 119). -/
def State.dropWing (w : Nat) (s : State) : State :=
  let rows := (s.pe.jobs.filter fun j => (s.ns j.nsid).wing == w).map (·.id)
  let s1 := rows.foldl (fun t id => t.dropJob id) s
  let write (d : DriveCmd) : Bool := d.nsid == w && d.op == .write
  let mark (c : DriveCmd) : DriveCmd := if write c then { c with discard := true } else c
  let s2 := s1.modDrives fun d => { d with cmds := (d.cmds.filter fun c => !(write c && !c.outstanding)).map mark }
  let s3 := s2.dropJobs fun j => match j with
    | .driveOut b q c => !(s2.drives.cmds.any fun d => d.bay == b && d.queue == q && d.cid == c && !write d)
    | .journal _ x _ => x == w
    | _ => false
  let s4 := s3.modLg fun l => { l with
    recs := l.recs.filter fun r => r.wing != w, legRecs := l.legRecs.filter fun r => r.wing != w,
    jrecs := l.jrecs.filter fun r => r.wing != w, applies := l.applies.filter fun g => g.wing != w,
    replaySet := l.replaySet.filter fun g => g.wing != w, zones := l.zones.filter fun z => z.wing != w,
    journalDue := l.journalDue.filter fun r => r.wing != w, descReads := l.descReads.filter fun e => e.wing != w,
    rehomeRuns := l.rehomeRuns.filter fun x => x.1 != w, replayWing := if l.replayWing = some w then none else l.replayWing }
  let s5 := (s4.ce.namespaces.filter fun n => n.wing == w).foldl (fun t n => t.cacheRemove n.nsid fun _ => true) s4
  s5.modRb fun r => { r with
    order := r.order.filter fun x => x.2.1 != w, tier0 := r.tier0.filter (· != w),
    held := r.held.filter fun h => h.wing != w, requests := r.requests.filter fun q => (s.ns q.nsid).wing != w,
    patrolHeld := match r.patrolHeld with | some p => if p.1 = w then none else some p | none => none }

/-- The actions of a yield at the leg boundary (R255, R454). -/
def State.yieldLeg (w : Nat) (s : State) : State :=
  match (s.wing w).yieldFor with
  | none => s
  | some (win, cause) =>
    let own := (s.wing w).claim
    let back := (s.wing w).handback = 2
    let s1 := (s.modWingSt w fun x => { x with open_ := false }).setAna w .inaccessible
    let mine := (s1.ce.cmds.filter fun c => (s1.ns c.cap.nsid).wing == w && c.status.isNone).map (·.arrival)
    let s2 := (mine.foldl (fun t a => t.failCmd a .anaInaccessible) s1).dropWing w
    let s3 := ((s2.dropPreempts w).unacquire w).modWingSt w fun x => { x with
      state := .standby, claim := 0, takeover := none, yieldFor := none, renewFirst := false, handback := 0,
      copyPath := .none, retryEnd := none }
    let s4 := ((s3.presentBays w).foldl (fun t b => t.registerKey w b) s3).record 5 0xB002 [(1, w), (8, own), (8, win), (1, cause)]
    let s5 := if back then (s4.endRun Obj.si_handback_result (outcomeVal Oc.ok)).record 3 0xB00A [(1, w), (8, win)] else s4
    let s6 := if s.paired then s5.askResync else s5
    if s6.heldWings.isEmpty then
      if s6.md.mode = .service then s6.setMode .standby 1
      else if s6.md.mode = .drain then s6.modMd fun m => { m with before := .standby } else s6
    else s6

/-! ### Taking, at the leg boundary (R212, R220, R253, R570) -/

/-- Zones as the records read from a wing's zones leave them (R196, R571). -/
def State.zonesFromReads (w : Nat) (s : State) : State :=
  let mine := s.lg.replayReads.filter fun c => c.wing == w
  (List.range 24).foldl (fun t b =>
    let l := sortBy (·.jseq) (mine.filter fun c => c.bay == b)
    match l.getLast? with
    | some c => t.putZone { wing := w, bay := b, head := c.lba + 1 + c.sectors,
                            records := l.map fun x => (x.jseq, x.lba, 1 + x.sectors) }
    | none => t) s

/-- Read the header of both copies of a wing's descriptor on some bays, on drive queue 10 (R197). -/
def State.readDescs (w : Nat) (bays : List Nat) (s : State) : State :=
  bays.foldl (fun t b => [0, 1].foldl (fun u p => u.issueDrive
    { bay := b, queue := 10, op := .read, nsid := w, lba := p * 65536, blocks := 1, use := .descRead w p 0 }) t) s

/-- Descriptor copies of a wing are still being read. -/
def State.descsPending (s : State) (w : Nat) : Bool :=
  (s.drives.cmds.any fun d => match d.use with | .descRead x _ _ => x == w | _ => false) ||
  s.lg.descReads.any fun e => e.wing == w && !e.whole

/-- The descriptor of a wing in use: the highest generation valid on at least three drives (R197). -/
def newestDesc (l : List DescRead) (w : Nat) : Option Descriptor :=
  let good := l.filter fun e => e.wing == w && e.whole && e.copy.valid && e.copy.desc.wing == w
  let bays (g : Nat) : List Nat := good.foldl (fun m e => if e.copy.desc.generation = g then addNew m e.copy.bay else m) []
  ((good.map (·.copy.desc)).filter fun d => decide (3 ≤ (bays d.generation).length)).foldl (fun best d =>
    match best with
    | none => some d
    | some b => if b.generation < d.generation then some d else best) none

/-- Take over what a wing's descriptor records (R197): its namespaces, whose blocks no cache holds any more, lost-block pages, placement
and keys. -/
def State.loadDesc (d : Descriptor) (s : State) : State :=
  let mine := d.namespaces.map fun n => { n with deleting := false, creating := false, streams := [] }
  let new (i : Nat) : Bool := mine.any fun n => n.nsid == i
  let old := s.ce.namespaces.filter fun n => n.wing == d.wing
  let s0 := old.foldl (fun t n =>
    let u := t.cacheRemove n.nsid fun _ => true
    if new n.nsid then u else u.emptySlot (n.nsid - 1)) s
  let other (i : Nat) : Bool := !new i && !(old.any fun n => n.nsid == i)
  let s1 := (s0.modCe fun c => { c with
    namespaces := sortBy (·.nsid) ((c.namespaces.filter fun n => other n.nsid) ++ mine),
    lostPages := (c.lostPages.filter fun p => other p.nsid) ++ d.lostPages }).modPlace d.wing fun _ => d.placement.stored.adopted
  let s2 := mine.foldl (fun t n =>
    (t.fillSlot (n.nsid - 1) 1 (n.nsid - 1) n.keyGen n.nguid).put (Obj.ce_ns_party_mask + (n.nsid - 1)) 1 n.partyMask) s1
  (s2.put Obj.pe_member_size d.wing d.memberSize).modLg fun l => { l with
    descGen := Nat.max l.descGen d.generation, descBlank := false, descConfig := d.config, wrapState := d.wrapState,
    wrapped := d.wrapped }

/-- The descriptor a taker has read of its wing is taken over: the former holder's namespaces, reservations, placement log and
lost-block pages (R167, R178, R330). -/
def State.adoptDesc (w : Nat) (s : State) : State :=
  let s1 := match newestDesc s.lg.descReads w with | some d => s.loadDesc d | none => s
  s1.modLg fun l => { l with descReads := l.descReads.filter fun e => e.wing != w }

/-- Read a wing's journal zone on every drive won (R212). -/
def State.readZones (w : Nat) (s : State) : State :=
  match (s.wing w).takeover with
  | some t => t.won.foldl (fun u b => u.issueDrive
      { bay := b, queue := driveQueue (.zoneRead w) 0 0, op := .read, nsid := w, lba := 131072, blocks := 917504, use := .zoneRead w }) s
  | none => s

/-- The vault image a Muster replay of a wing uses: the one in use, for the wings it flushed (R212). -/
def State.imageFor (s : State) (w : Nat) : Option VaultImage :=
  match (s.lg.replayed.bind fun i => s.lg.images[i]?) with
  | some v => if bit v.wings (w - 1) then some v else none
  | none => none

/-- Events that arose before the wing was held (R570): the LOSSes are entered, those that find every entry in use with a record 0x7107
(R569); a drive accepted in a bay that is recorded as lost, or that was absent when step 7 of Muster ended, starts a RETURN, under R569. -/
def State.enterArisen (w : Nat) (s : State) : State :=
  let p := s.place w
  let missed (b : Nat) : Bool := s.md.absentAt7.contains (w, b)
  let gone := (List.range 24).filter fun b => (!s.bayInUse b || missed b) && !p.lostBay b
  let back := (List.range 24).filter fun b => s.bayInUse b && (p.lostBay b || missed b) && !p.pendingLoss.contains b
  let due := gone.foldl addNew p.pendingLoss
  let s1 := ((s.modPlace w fun q => { q with
    pendingLoss := due, waitingReturn := back.foldl addNew q.waitingReturn }).modMd fun m => { m with
      absentAt7 := m.absentAt7.filter fun x => x.1 != w }).enterPending w
  ((s1.place w).pendingLoss).foldl (fun t b => t.record 6 0x7107 [(1, w), (1, b), (1, 64)]) s1

/-- Admission to a wing opens (R253, R254, R256). -/
def State.openWing (w : Nat) (s : State) : State :=
  match (s.wing w).takeover with
  | some t =>
    let ns := s.gh.now - t.trigger
    let path := if t.path = 4 then (if t.quorum then 2 else 1) else if t.path = 1 then 1 else if t.path = 2 then 2 else if t.path = 3 then 3 else 4
    let s1 := (s.modWingSt w fun x => { x with open_ := true, takeover := none }).setAna w .optimized
    let s2 := ((s1.put Obj.si_last_takeover 0 s.gh.now).put Obj.si_last_takeover_ns 0 ns).record 4 0xB001
      [(1, w), (8, t.claim), (1, path), (1, t.won.length), (8, ns)]
    let window := s.get Obj.si_retry_window
    s2.modWingSt w fun x => { x with retryEnd := if window = 0 then none else some (s.gh.now + window) }
  | none => s

/-- Every drive asked is won: nothing of the takeover is outstanding. -/
def Takeover.settled (t : Takeover) : Bool := t.claim != 0 && t.stands && t.asked.all t.won.contains

/-- The patrol of a wing resumes from the saved cursor (R180). -/
def State.cursorBack (w : Nat) (s : State) : State :=
  s.modRb fun r => { r with cursor := r.cursor.set (w - 1) (s.get Obj.pe_patrol_cursor w) }

/-- The taker reports its claim to the warden; after a quorum it does so until the warden answers (R253 step 4). -/
def State.renewTaken (w : Nat) (s : State) : State :=
  (s.modWingSt w fun x => { x with renewFirst := x.takeover.any fun t => t.quorum }).sendLantern 1 w

/-- One wing's takeover at a leg boundary (R212 to R220, R253): zones read, and outside Muster the wing's descriptor, replay, placement
events, RENEW, admission.  A Muster replays its vault image and no shadow; it opens and renews the wing once it is over. -/
def State.takeLeg (w : Nat) (s : State) : State :=
  match (s.wing w).takeover with
  | none => s
  | some t =>
    if !t.settled then s
    else if (s.wing w).open_ then s.modWingSt w fun x => { x with takeover := none }
    else
      let busy := s.lg.replayWing.isSome || ([1, 2].any fun x => x != w &&
        ((s.wing x).takeover.any fun y => y.phase == 1 || y.phase == 2))
      let due : Bool := s.md.mode != .muster || s.md.step == 11
      if t.phase = 0 then
        if busy || !due then s
        else
          let s1 := if s.md.mode = .muster then s else s.readDescs w t.won
          (s1.readZones w).modTake w fun x => { x with phase := 1 }
      else if t.phase = 1 then
        if (s.drives.cmds.any fun d => d.use == .zoneRead w) || (s.md.mode != .muster && s.descsPending w) then s
        else
          let muster : Bool := s.md.mode == .muster
          let shadow := if muster then [] else s.si.shadow.filter fun r => r.wing == w
          let image := if muster then s.imageFor w else none
          let next := Nat.max (s.sealNext w) (if muster then 0 else s.si.shadowSeals.getD (w - 1) 0 + 1)
          let s0 := if muster then s else s.adoptDesc w
          let s1 := (s0.zonesFromReads w).modLg fun l => { l with sealNext := l.sealNext.set (w - 1) next }
          ((s1.replayBegin w image shadow).modSi fun i => { i with shadow := i.shadow.filter fun r => r.wing != w }).modTake w fun x =>
            { x with phase := 2 }
      else if t.phase = 2 then
        if !s.replayDone w then s
        else
          let s1 := (((s.replayEnd w).enterArisen w).cursorBack w).modTake w fun x => { x with phase := 3 }
          if s.md.mode = .muster then s1 else (s1.renewTaken w).openWing w
      else if s.md.mode = .muster then s
      else (s.renewTaken w).openWing w

/-- A lantern held brings the controller from Standby to Service, at a leg boundary; in Drain it is what Drain returns to (R31, R454). -/
def State.serviceLeg (s : State) : State :=
  if s.heldWings.isEmpty then s
  else if s.md.mode = .standby then s.setMode .service 1
  else if s.md.mode = .drain then s.modMd fun m => { m with before := .service }
  else s

/-- The window for retried Writes of a wing is over (R256). -/
def State.retryLeg (w : Nat) (s : State) : State :=
  if (s.wing w).retryEnd.any fun e => decide (e < s.gh.now) then
    (s.modWingSt w fun x => { x with retryEnd := none }).modCe fun c => { c with
      retries := c.retries.filter fun r => (s.ns r.nsid).wing != w }
  else s

/-- Lanterns at a leg boundary: yields, the mode, takeovers, and the end of the windows for retried Writes (R253 to R256, R454). -/
def State.lanternLeg (s : State) : State :=
  let s1 := ((s.yieldLeg 1).yieldLeg 2).serviceLeg
  [1, 2].foldl (fun t w => (t.takeLeg w).retryLeg w) s1

end Sys2Proof.Machine
end

