-- ==== Sys2Proof/Machine/Sisters.lean ====
section
/-! DEFINITION. Leg packets, the copy path, resynchronisation, hand-back, and links going up and down (R90, R194, R236 to R241,
R260, R261, R372). -/

namespace Sys2Proof.Machine

/-! ### Sending (R236 to R239, R241) -/

/-- A sister sends leg packets in Service, Standby and Drain, and in Muster from step 12 on (R236, R453). -/
def State.sendsPackets (s : State) : Bool :=
  s.paired && (s.md.mode == .service || s.md.mode == .standby || s.md.mode == .drain || (s.md.mode == .muster && decide (12 ≤ s.md.step)))

/-- The frames of a packet, each with its index (R237, R238). -/
def State.packetFrameList (flags leg : Nat) (head : List Byte) (digest : Nat) (recs : List LedgerRec)
    (assoc : List (Nat × Bool × Nat)) (s : State) : List (List Byte) :=
  let l := packetPayloads head digest recs assoc
  (l.zip (List.range l.length)).map fun x => s.linkFrame x.1.1 (x.2 % 65536) flags leg x.1.2

/-- Bytes 0 to 63 of the head of a packet sent now (R238). -/
def State.headNow (s : State) (recs : List LedgerRec) (assoc : List (Nat × Bool × Nat)) : List Byte :=
  packetHead recs assoc [s.sealHi 1, s.sealHi 2] (s.ce.arrivalNext - 1) (modeNo s.md.mode)

/-- The packet of the leg that ended (R236): every record made in it for the wings held; where the copy path is the sister link,
the packet is the copy, else the records stay for the journal zones as well (R90, R241). -/
def State.makePacket (s : State) : State :=
  if !s.sendsPackets || s.tt.legCount == 0 then s.modSi fun i => { i with assocChanges := [] }
  else
    let recs := s.lg.legRecs.filter fun r => s.holdsWing r.wing
    let gov := s.heldWings.filter fun w => (s.wing w).copyPath == .sisterLink
    let assoc := s.si.assocChanges
    let head := s.headNow recs assoc
    let l := chainDigest (leBytes 64 s.si.digestTx) head recs assoc
    let frames := s.packetFrameList 0 (s.tt.legCount - 1) head l recs assoc
    let p : LegPacket := { leg := s.tt.legCount - 1, recs := recs, digest := l, frames := frames, assoc := assoc, governs := gov }
    let s1 := (s.modSi fun i => { i with digestTx := l, packets := i.packets ++ [p], assocChanges := [] }).modLg fun g =>
      { g with legRecs := g.legRecs.filter fun r => !gov.contains r.wing }
    (List.range frames.length).foldl (fun t i => t.push Bc.sister Opc.sisterOut none none 0 (.legFrame p.leg i)) s1

/-- A frame of a leg packet reaches the sister-link MAC; with the last one the packet has left (R236). -/
def State.legFrameOut (leg : Nat) (s : State) : State :=
  let due (p : LegPacket) : Bool := p.leg == leg && !p.frames.isEmpty
  match s.si.packets.find? due with
  | some p =>
    let f (p : LegPacket) : LegPacket := { p with frames := p.frames.drop 1, age := 0 }
    let s1 := (s.modSi fun i => { i with packets := modFirst due f i.packets }).emit (.sisterFrame (p.frames.headD []))
    if p.frames.length = 1 then (s1.copiesSent (p.recs.filter fun r => p.governs.contains r.wing)).tick Obj.si_packets_sent else s1
  | none => s

/-- A frame of the snapshot reaches the sister-link MAC (R260). -/
def State.snapFrameOut (s : State) : State :=
  match s.si.snapshot with
  | [] => s
  | f :: rest => (s.modSi fun i => { i with snapshot := rest }).emit (.sisterFrame f)

/-- Snapshot frames use the cells that ordinary leg packets leave (R260). -/
def okSisterOut (_ : CellWord) (s : State) (t : Transfer) : Bool :=
  match t.job with
  | .snapshotFrame _ => !s.ce.ready.any fun x => match x.job with | .legFrame _ _ => true | _ => false
  | _ => true

/-- The transfer of a SISTER_OUT cell. -/
def runSisterOut (_ : CellWord) (t : Transfer) (bed : Option Nat) (s : State) : State :=
  match t.job with
  | .legFrame leg _ => (s.returnBed bed).legFrameOut leg
  | .snapshotFrame _ => (s.returnBed bed).snapFrameOut
  | _ => s.returnBed bed

/-! ### The copy path (R90, R240) -/

/-- The copy path has failed (R90): the wings whose copy is the sister link go to their journal zones, and so do the records of
every packet not acknowledged. -/
def State.copyFailed (s : State) : State :=
  let ws := s.heldWings.filter fun w => (s.wing w).copyPath == .sisterLink
  let recs := s.si.packets.flatMap fun p => p.recs.filter fun r => p.governs.contains r.wing && ws.contains r.wing
  let f (p : LegPacket) : LegPacket := { p with governs := [] }
  if ws.isEmpty then s
  else
    let s1 := ws.foldl (fun t w => t.modWingSt w fun x => { x with copyPath := .journalZones }) s
    ((s1.modSi fun i => { i with packets := i.packets.map f, linkAgain := false }).modLg fun g =>
      { g with journalDue := g.journalDue ++ recs }).tick Obj.lg_copy_fallbacks

/-- COPY_ACK_TIMEOUT (R90): 8 legs after a packet's last SISTER_OUT cell. -/
def execCopyAckTimeout (leg : Nat) (s : State) : Host.Outcome State Fault Refusal :=
  .next (if s.si.packets.any fun p => p.leg == leg && p.frames.isEmpty && decide (8 ≤ p.age) then
    (s.modSi fun i => { i with answered := true }).copyFailed else s)

/-- A NAK, or an ACK with a different digest (R240). -/
def State.copyRefused (leg cause : Nat) (s : State) : State :=
  ((s.record 6 0xB008 [(8, leg), (1, cause)]).modSi fun i => { i with answered := true }).copyFailed

/-! ### Frames received (R237, R238) -/

/-- A claim of the other sister, from a frame, reaches a wing: a taker whose claim does not stand backs off (R252), a holder that
hands the wing back yields it (R261 step 5). -/
def State.otherClaim (w c : Nat) (s : State) : State :=
  let s1 := s.sawClaim w c
  let x := s1.wing w
  let own := ((x.takeover.map (·.claim)).getD 0)
  if x.state = .taking ∧ own ≠ 0 ∧ own < c then s1.backOff w c
  else if s1.holdsWing w ∧ x.handback = 2 ∧ x.claim < c then s1.yieldDue w c 2
  else s1

/-- A frame carries a claim below the highest one seen for its wing (R238). -/
def State.lowClaim (s : State) (h : SisterHead) : Bool :=
  let low (w c : Nat) : Bool := c != 0 && decide (c < (s.wing w).seen)
  low 1 h.claim1 || low 2 h.claim2

/-- The claims of a frame are taken. -/
def State.frameClaims (h : SisterHead) (s : State) : State := (s.otherClaim 1 h.claim1).otherClaim 2 h.claim2

/-- Frames arrive: paired, the link up, Muster or a later mode. -/
def State.linkHears (s : State) : Bool := s.paired && (s.link 32).up && (s.md.mode == .muster || s.sendsPackets)

/-- A single frame arrives: one whose CRC fails, or that carries a lower claim, is discarded and counted (R237, R238). -/
def State.frameIn (type : Nat) (frame : List Byte) (f : List Byte → State → State) (s : State) : State :=
  if !s.linkHears then s
  else
    match frameOf frame with
    | some (h, payload) =>
      if s.lowClaim h then s.tick Obj.si_frames_discarded
      else if h.type = type then f payload (s.frameClaims h) else s
    | none => s.tick Obj.si_frames_discarded

/-- An ACK of a leg (R89, R90, R240): its copy is held where the receiver's L is the sender's. -/
def State.legAcked (leg digest : Nat) (s : State) : State :=
  match s.si.packets.find? fun p => p.leg == leg && p.frames.isEmpty with
  | some p =>
    if p.digest = digest then
      let s1 := (s.modSi fun i => { i with
        packets := i.packets.filter fun q => q.leg != leg, snapDigest := digest, answered := true }).tick Obj.si_packets_acked
      (s1.itemsHeld (p.recs.filter fun r => p.governs.contains r.wing)).settle
    else s.copyRefused leg 2
  | none => s

/-- LEG_PACKET_ACK (R240): an ACK frame, its payload the leg and the receiver's L (log entry 118). -/
def execLegPacketAck (frame : List Byte) (s : State) : Host.Outcome State Fault Refusal :=
  .next (s.frameIn 5 frame fun p t => t.legAcked (beField p 0 8) (field p 8 64))

/-- LEG_PACKET_NAK (R240): a NAK frame, its payload the leg and a cause (log entry 118): 1 frames missing, 2 digest mismatch, 3 not
resynchronised. -/
def execLegPacketNak (frame : List Byte) (s : State) : Host.Outcome State Fault Refusal :=
  .next (s.frameIn 6 frame fun p t =>
    if t.si.packets.any fun q => q.leg == beField p 0 8 then (t.copyRefused (beField p 0 8) (beField p 8 1)).tick Obj.si_naks else t)

/-! ### The sister room (R194, R288) -/

/-- The open sister room, which maps the shadow slab. -/
def State.sisterRoom (s : State) : Option Room := s.tr.rooms.find? fun r => r.kind == 3 && r.state == 1

/-- Firmware opens the sister room as the link trains: the write right over the 2 GiB of the shadow slab (R194, R288; log entry
120). -/
def State.openSisterRoom (s : State) : State :=
  match s.freeRoom with
  | some ix =>
    let old := (s.tr.rooms.find? fun r => r.index == ix).getD { index := ix }
    s.drawn.modTr fun t => { t with rooms := openRoom old 0 3 2147483648 (s.get Obj.tr_room_close_timeout) true false :: t.rooms.filter fun x => x.index != ix }
  | none => s

/-- The sister-link connection ends with its link: its rooms enter closing (R287, R288). -/
def State.closeSisterRooms (s : State) : State :=
  (s.tr.rooms.filter fun r => r.kind == 3 && r.state == 1).foldl (fun t r => t.roomClosing r.index) s

/-- Messages that are open in the sister rooms (R286). -/
def State.sisterMsgs (f : Nat → Nat) (s : State) : State :=
  s.modTr fun t => { t with rooms := t.rooms.map fun r => if r.kind = 3 then { r with openMsgs := f r.openMsgs, quiet := false } else r }

/-! ### Receiving (R194, R238 to R240, R260) -/

/-- Send a NAK (R240). -/
def State.nakLeg (leg cause : Nat) (s : State) : State :=
  (s.tick Obj.si_naks).sisterSend 6 (beBytes 8 leg ++ beBytes 1 cause)

/-- What was on its way into the shadow is dropped, and a snapshot is asked for (R240, R260). -/
def State.resyncAgain (s : State) : State :=
  ((s.dropJobs fun j => match j with | .shadowFrame _ => true | _ => false).sisterMsgs fun _ => 0).askResync

/-- A packet is refused for good: NAK, guestbook, and a request for resynchronisation (R240). -/
def State.refuseLeg (leg cause : Nat) (s : State) : State :=
  ((s.nakLeg leg cause).record 6 0xB008 [(8, leg), (1, cause)]).resyncAgain

/-- A record enters the shadow slab; a free or retire record deletes its target (R194). -/
def shadowIn (l : List LedgerRec) (r : LedgerRec) : List LedgerRec :=
  let drop (kind sealNo : Nat) : List LedgerRec := l.filter fun q => !(q.kind == kind && q.wing == r.wing && q.sealNo == sealNo)
  (if r.kind = 3 then drop 1 r.target else if r.kind = 4 then drop 2 r.target else drop r.kind r.sealNo) ++ [r]

/-- Association entries are taken over (R238). -/
def assocIn (l : List ShadowAssoc) (a : Nat × Bool × Nat) : List ShadowAssoc :=
  let rest := l.filter fun x => x.index != a.1
  if a.2.1 then rest ++ [{ index := a.1, hostid := a.2.2 }] else rest

/-- A packet is checked against the chain and held in the shadow slab; the answer says so, or that the digests differ (R239,
R240). -/
def State.holdPacket (p : LegPacket) (s : State) : State :=
  let l := chainDigest (leBytes 64 s.si.digestRx) p.head p.recs p.assoc
  if l = p.digest then
    (s.modSi fun i => { i with
      digestRx := l, shadow := p.recs.foldl shadowIn i.shadow, shadowAssocs := p.assoc.foldl assocIn i.shadowAssocs }).sisterSend
      5 (beBytes 8 p.leg ++ leBytes 64 l)
  else s.refuseLeg p.leg 2

/-- A snapshot is loaded and the packets queued behind it are applied in leg order (R260). -/
def State.loadSnapshot (p : LegPacket) (s : State) : State :=
  if chainDigest [] p.head p.recs p.assoc ≠ p.digest then (s.record 6 0xB008 [(8, p.leg), (1, 2)]).resyncAgain
  else
    let wings := [1, 2].filter fun w => !s.holdsWing w
    let later := sortBy (·.leg) (s.si.queued.filter fun q => decide (p.leg ≤ q.leg))
    let bytes := 4096 * itemBlocks p.recs
    let s1 := s.modSi fun i => { i with
      shadow := (i.shadow.filter fun r => !wings.contains r.wing) ++ p.recs, digestRx := p.digest,
      queued := [], resync := 3, resyncBytes := bytes }
    let s2 := later.foldl (fun t q => if t.si.resync = 3 then t.holdPacket q else t) s1
    if s2.si.resync = 3 then
      ((s2.modSi fun i => { i with resync := 4 }).sisterSend 8 (leBytes 64 s2.si.digestRx)).record 3 0xB009
        [(8, bytes), (8, s.gh.now - s.si.resyncStart)]
    else s2

/-- Every frame of a packet is in the shadow (R240, R260). -/
def State.packetShadowed (p : LegPacket) (s : State) : State :=
  if p.snapshot then s.loadSnapshot p
  else if s.si.resync = 1 ∨ s.si.resync = 2 then s.modSi fun i => { i with queued := i.queued ++ [p] }
  else s.holdPacket p

/-- A frame of the earliest packet reaches the shadow; with its last one its message in the sister room ends (R240, R286). -/
def State.shadowFrameIn (s : State) : State :=
  match s.si.incoming with
  | [] => s
  | p :: rest =>
    if p.framesLeft ≤ 1 then
      ((s.modSi fun i => { i with incoming := rest }).sisterMsgs fun n => n - 1).packetShadowed { p with framesLeft := 0 }
    else s.modSi fun i => { i with incoming := { p with framesLeft := p.framesLeft - 1 } :: rest }

/-- The transfer of a SISTER_IN cell. -/
def runSisterIn (_ : CellWord) (t : Transfer) (bed : Option Nat) (s : State) : State :=
  match t.job with
  | .shadowFrame _ => (s.returnBed bed).shadowFrameIn
  | _ => s.returnBed bed

/-- A packet starts as a message under the sister room, and its frames wait for SISTER_IN cells (R284, R288). -/
def State.packetWaits (p : LegPacket) (s : State) : State :=
  match s.sisterRoom with
  | some r =>
    if 4136 * p.framesLeft ≤ r.length then
      (List.range p.framesLeft).foldl (fun u i => u.push Bc.sister Opc.sisterIn none none 0 (.shadowFrame i))
        ((s.modSi fun i => { i with incoming := i.incoming ++ [p] }).sisterMsgs fun n => n + 1)
    else s.tick Obj.tr_room_refusals
  | none => s.tick Obj.tr_room_refusals

/-- The records and associations of a leg packet, when the frames of one leg that arrived are in order and as many as its HEAD
says (R237, R238, R240). -/
def wholePacket (head : List Byte) (mine : List (SisterHead × List Byte)) : Option (List LedgerRec × List (Nat × Bool × Nat)) :=
  let inOrder := (mine.zip (List.range mine.length)).all fun x => x.1.1.index == x.2 % 65536
  if inOrder && mine.length % 65536 == beField head 6 2 then packetRecs (mine.map fun x => (x.1.type, x.2)) else none

/-- What a leg packet's HEAD tells: its claims, that the holder is heard, and the numbers its ledgers have reached (R238, R249). -/
def State.headHeard (h : SisterHead) (head : List Byte) (s : State) : State :=
  (s.frameClaims h).modSi fun i => { i with
    silence := if bit h.flags 0 then i.silence else 0,
    shadowSeals := [Nat.max (i.shadowSeals.getD 0 0) (beField head 8 8), Nat.max (i.shadowSeals.getD 1 0) (beField head 16 8)],
    shadowArrival := Nat.max i.shadowArrival (beField head 24 8) }

/-- LEG_PACKET_RX (R237, R238, R240): the frames of one packet, or of a snapshot, that arrived within 2 legs of its HEAD.  Frames that
fail their CRC or carry a lower claim are discarded, and without a HEAD all of them; one with frames missing, or before a
resynchronisation, draws a NAK; another's frames wait for SISTER_IN cells, the last of which answers it. -/
def State.rxPacket (frames : List (List Byte)) (s : State) : State :=
  let kept := (frames.filterMap frameOf).filter fun x => !s.lowClaim x.1
  match kept.find? fun x => x.1.type == 1 && x.1.index == 0 with
  | none => s.count Obj.si_frames_discarded 0 frames.length
  | some (h, hp) =>
    let mine := kept.filter fun x => x.1.leg == h.leg && x.1.flags == h.flags
    let s1 := (s.count Obj.si_frames_discarded 0 (frames.length - kept.length)).headHeard h hp
    let snap := bit h.flags 0
    match wholePacket hp mine with
    | none =>
      if snap then s1
      else if s1.si.resync = 1 ∨ s1.si.resync = 2 then s1.nakLeg h.leg 1 else s1.refuseLeg h.leg 1
    | some (recs, assoc) =>
      let p : LegPacket := { leg := h.leg, recs := recs, digest := field hp 64 64, framesLeft := mine.length, assoc := assoc,
                             snapshot := snap, head := hp.take 64 }
      if snap then
        if s1.si.resync = 1 ∨ s1.si.resync = 2 then (s1.modSi fun i => { i with resync := 2 }).packetWaits p else s1
      else if s1.si.resync = 1 then (s1.nakLeg h.leg 3).packetWaits p
      else s1.packetWaits p

/-- LEG_PACKET_RX. -/
def execLegPacketRx (frames : List (List Byte)) (s : State) : Host.Outcome State Fault Refusal :=
  .next (if s.linkHears then s.rxPacket frames else s)

/-! ### Resynchronisation, the holder's side (R260) -/

/-- RESYNC_REQ (R260): a snapshot is taken at the next leg boundary. -/
def execResyncReq (frame : List Byte) (s : State) : Host.Outcome State Fault Refusal :=
  .next (s.frameIn 7 frame fun _ t =>
    if t.sendsPackets then t.modSi fun i => { i with snapshotDue := true, resyncStart := s.gh.now } else t)

/-- Take the snapshot of the slab: every unfreed record of the wings held, in frames like those of a leg packet (R260).  The chain goes
on from its digest (R239). -/
def State.takeSnapshot (s : State) : State :=
  if !s.si.snapshotDue then s
  else
    let recs := sortBy (·.sealNo) ((s.lg.recs.filter fun r => s.holdsWing r.wing && !r.finalMade).map (·.toLedgerRec))
    let head := s.headNow recs []
    let l := chainDigest [] head recs []
    let frames := s.packetFrameList 1 s.tt.legCount head l recs []
    let s1 := (s.dropJobs fun j => match j with | .snapshotFrame _ => true | _ => false).modSi fun i => { i with
      snapshotDue := false, snapshot := frames, snapDigest := l, digestTx := l, snapLeg := s.tt.legCount,
      resyncBytes := 4096 * itemBlocks recs, linkAgain := false }
    (List.range frames.length).foldl (fun t i => t.push Bc.sister Opc.sisterOut none none 0 (.snapshotFrame i)) s1

/-- A RESYNC_DONE with the L of the snapshot, of a packet sent after it, or of the last one acknowledged makes the sister link the copy
path again at the next leg boundary (R260). -/
def State.resynced (digest : Nat) (s : State) : State :=
  let same := digest == s.si.digestTx || digest == s.si.snapDigest || s.si.packets.any fun p => p.digest == digest
  if !s.si.snapshot.isEmpty then s
  else if same then s.modSi fun i => { i with linkAgain := true }
  else s.record 6 0xB008 [(8, s.tt.legCount), (1, 2)]

/-- RESYNC_DONE (R260): its payload is the receiver's L (log entry 118). -/
def execResyncDone (frame : List Byte) (s : State) : Host.Outcome State Fault Refusal :=
  .next (s.frameIn 8 frame fun p t => if t.sendsPackets then t.resynced (field p 0 64) else t)

/-- The sister link becomes the copy path again (R260). -/
def State.linkAgainLeg (s : State) : State :=
  if !s.si.linkAgain then s
  else
    let s1 := s.heldWings.foldl (fun t w => t.modWingSt w fun x => { x with copyPath := .sisterLink }) s
    (s1.modSi fun i => { i with linkAgain := false }).record 3 0xB009 [(8, s.si.resyncBytes), (8, s.gh.now - s.si.resyncStart)]

/-! ### Hand-back (R261) -/

/-- SI_HANDBACK: a write of a wing. -/
def execSiHandback (cls value : Nat) (s : State) : Host.Outcome State Fault Refusal :=
  .next (s.action cls Obj.si_handback Obj.si_handback_result fun t =>
    if t.paired ∧ t.holdsWing 1 ∧ t.holdsWing 2 ∧ t.si.sbMode = 2 ∧ !t.si.silent ∧
        (t.wing 1).copyPath = .sisterLink ∧ (t.wing 2).copyPath = .sisterLink ∧ value = 2 - t.si.id then
      t.modWingSt value fun x => { x with handback := 1 }
    else t.endRun Obj.si_handback_result (outcomeVal Oc.denied))

/-- The holder's steps 1 to 3 of a hand-back at a leg boundary (R261). -/
def State.handbackLeg (w : Nat) (s : State) : State :=
  if (s.wing w).handback ≠ 1 ∨ !s.holdsWing w then s
  else
    let s1 := s.setAna w .change
    let busy := (s1.ce.cmds.any fun c => (s1.ns c.cap.nsid).wing == w && c.writeKind) ||
      (s1.ce.cmds.any fun c => (s1.ns c.cap.nsid).wing == w && c.status.isNone) ||
      (s1.lg.recs.any fun r => r.wing == w) || (s1.lg.legRecs.any fun r => r.wing == w) ||
      s1.si.packets.any fun p => p.governs.contains w && p.recs.any fun r => r.wing == w
    if busy then s1
    else
      let s2 := (s1.sendLantern 5 w).sisterSend 9 (beBytes 1 w ++ beBytes 8 (s1.wing w).claim ++ beBytes 8 (s1.sealHi w))
      s2.modWingSt w fun x => { x with handback := 2 }

/-- A wing is handed back (R261 step 4): the recipient requests it. -/
def State.handedBack (wing claim sealHi : Nat) (s : State) : State :=
  if (s.wing wing).state = .standby ∧ (s.wing wing).takeover.isNone ∧ s.sendsPackets ∧ (wing = 1 ∨ wing = 2) then
    let s1 := (s.sawClaim wing claim).modWingSt wing fun x => { x with handback := 3 }
    let s2 := s1.modSi fun i => { i with shadowSeals := i.shadowSeals.set (wing - 1) (Nat.max (i.shadowSeals.getD (wing - 1) 0) sealHi) }
    s2.requestWing wing 3
  else s

/-- HANDBACK (R261): its payload is the wing, the holder's claim and its seal_hi (log entry 118). -/
def execHandback (frame : List Byte) (s : State) : Host.Outcome State Fault Refusal :=
  .next (s.frameIn 9 frame fun p t => t.handedBack (beField p 0 1) (beField p 1 8) (beField p 9 8))

/-- HANDBACK_TIMEOUT (R261): the recipient has announced no claim within 1 s of the HANDBACK frame; the holder reopens the wing. -/
def execHandbackTimeout (wing : Nat) (s : State) : Host.Outcome State Fault Refusal :=
  .next (if (s.wing wing).handback = 2 ∧ s.holdsWing wing ∧ (s.wing wing).seen ≤ (s.wing wing).claim then
    ((s.modWingSt wing fun x => { x with handback := 0 }).setAna wing .optimized).endRun Obj.si_handback_result (outcomeVal Oc.timeout)
  else s)

/-! ### The sister link at a leg boundary -/

/-- What the sister link does at a leg boundary before the journal work of the leg (R236, R249, R261). -/
def State.sisterLeg (s : State) : State :=
  let f (p : LegPacket) : LegPacket := { p with age := if p.frames.isEmpty then p.age + 1 else p.age }
  let s1 := s.modSi fun i => { i with
    silence := i.silence + 1,
    packets := (i.packets.map f).filter fun p => !(p.governs.isEmpty && decide (8 < p.age)) }
  (s1.handbackLeg 1).handbackLeg 2 |>.makePacket

/-- What it does after it (R260). -/
def State.sisterLegEnd (s : State) : State := s.takeSnapshot.linkAgainLeg

/-! ### Links (R353, R372, R386) -/

/-- LINK_DOWN (R372). -/
def execLinkDown (link : Nat) (s : State) : Host.Outcome State Fault Refusal :=
  .next (if link ≤ 32 ∧ (s.link link).up then
    let s1 := s.linkDown link 1
    if link = 32 then s1.closeSisterRooms else s1
  else s)

/-- A wing of the shelf that the controller does not hold. -/
def State.standsBy (s : State) : Bool := s.shelfWings.any fun w => !s.holdsWing w

/-- The sister link comes up (R260, R288, R372): the sister room opens, and the standby of a wing asks for its records again. -/
def State.sisterLinkUp (s : State) : State :=
  let s1 := (s.linkUp 32).openSisterRoom
  if s1.sendsPackets && s1.standsBy then s1.resyncAgain else s1

/-- si_link_state (R262): 0 down, 1 training, 2 up, 3 up with a resynchronisation under way (log entry 118). -/
def State.siLink (s : State) : Nat :=
  if (s.link 32).up then
    (if (1 ≤ s.si.resync ∧ s.si.resync ≤ 3) ∨ s.si.snapshotDue = true ∨ s.si.snapshot ≠ [] then 3 else 2)
  else if s.linkReady 32 then 1 else 0

/-- LINK_UP (R372). -/
def execLinkUp (link : Nat) (s : State) : Host.Outcome State Fault Refusal :=
  .next (if 32 < link ∨ s.linkReady link = false then s
  else if link = 32 then s.sisterLinkUp
  else s.linkUp link)

end Sys2Proof.Machine
end

