-- ==== Sys2Proof/Machine/Resets.lean ====
section
/-! DEFINITION. What the resets of the main dies leave: a warm reset, entry to Vigil, and the tally's periodic counts
(R309, R454, R455, R475, R481, R485, R523, R525, R526, R531). -/

namespace Sys2Proof.Machine

/-- Objects written and not yet in force take effect (R13, R386): at a leg boundary, and, since a stored write is stored
before its reply, at a reset. -/
def State.writesInForce (s : State) : State :=
  let s1 := s.dict.objNext.foldl (fun t p => t.modObjs (objPut p.1 p.2)) s
  let s2 := s1.dict.blobNext.foldl (fun t p => t.modBlobs fun l => assign l p.1 p.2) s1
  s2.modDict fun d => { d with objNext := [], blobNext := [] }

/-- The object of a key takes its default at a reset: a volatile one, of the gatehouse too where `gate` (R475). -/
def keyCleared (gate : Bool) (k : Nat) : Bool :=
  match objRow (k / 256) (k % 256) with
  | some r => r.persist == 0 && (gate || !r.gatehouse)
  | none => false

/-- Volatile objects take their defaults, and RESULTs their reset content (R475, R481). -/
def State.clearVolatile (gate : Bool) (s : State) : State :=
  ((s.modObjs fun l => l.filter fun p => !keyCleared gate p.1).modBlobs fun l =>
    l.filter fun p => !keyCleared gate p.1).modResults fun l => l.filter fun p => !keyCleared gate p.1

/-- Seconds and energy not yet in the tally are written (R531). -/
def State.tallySave (s : State) : State :=
  let s1 := (s.count Obj.gh_tally_gatehouse_seconds 0 s.gh.seconds).count Obj.gh_tally_rail_seconds 0 s.gh.railSeconds
  let s2 := [0, 1].foldl (fun t i => t.count Obj.gh_tally_feed_energy (i + 1) (t.gh.feedUnsaved.getD i 0 / 10000)) s1
  s2.modGh fun g => { g with seconds := 0, railSeconds := 0, feedUnsaved := g.feedUnsaved.map (· % 10000) }

/-- Shelf time is saved (R449). -/
def State.saveTime (s : State) : State := s.modGh fun g => { g with saved := g.now }

/-- TALLY_SAVE (R531): every 60 s. -/
def execTallySave (s : State) : Host.Outcome State Fault Refusal := .next (if s.gh.powered then s.tallySave else s)

/-- SHELF_TIME_SAVE (R449): every 60 s. -/
def execShelfTimeSave (s : State) : Host.Outcome State Fault Refusal := .next (if s.gh.powered then s.saveTime else s)

/-- A store after the main dies were reset: its image is kept in the vault and is checked anew (R58, R62). -/
def storeKept (x : Store) : Store := { x with state := if x.image.isEmpty then .empty else .loaded, cause := 0 }

/-- Every association ends at once, with nothing more sent (R309): each leaves its record. -/
def State.assocsEnd (s : State) : State :=
  s.ce.assocs.foldl (fun t a =>
    let mine := (s.ce.cmds.filter fun c => c.cap.src == .assoc a.index && !c.sealed).length
    t.record 3 0x6002 [(2, s.cntlid a.index), (1, 4), (4, mine)]) s

/-- What of the sisters' state the gatehouse keeps while the main dies are reset: the sister id, the bay owner, the
sideband and the session to the warden. -/
def sisterKept (x : SisterSt) : SisterSt :=
  { id := x.id, idConflict := x.idConflict, bayOwner := x.bayOwner, bayDriving := x.bayDriving,
    baySampled := x.baySampled, bayFrozen := x.bayFrozen, ownerMs := x.ownerMs, silent := x.silent, sbOther := x.sbOther,
    sbMode := x.sbMode, sbOwner := x.sbOwner, sbSince := x.sbSince, sbSilentAt := x.sbSilentAt,
    wardenState := x.wardenState, wardenSession := x.wardenSession, wardenId := x.wardenId, wardenNonce := x.wardenNonce, wardenKs := x.wardenKs,
    wardenTx := x.wardenTx, wardenRx := x.wardenRx, promoted := x.promoted, promoteClaim := x.promoteClaim }

/-- What the guestbook, the counters and the dumps keep when the main dies are reset (R526). -/
def bookKept (b : BookSt) : BookSt :=
  { main := b.main, gate := b.gate, merged := b.merged, copying := b.copying }

/-- What modes and boot keep when the main dies are reset: slots, keys and roots, which the gatehouse and the vault hold. -/
def modeKept (m : ModeSt) : ModeSt :=
  { mode := m.mode, slots := m.slots, active := m.active, next := m.next, failedBoots := m.failedBoots, boot := m.boot,
    ownerKey := m.ownerKey, released := m.released, held := m.held }

/-- The main dies are reset: what the gatehouse, the vault and the guestbook SRAM hold is kept, and nothing else
(R455, R475, R481, R526). -/
def State.mainReset (s : State) : State :=
  let s1 := s.assocsEnd.writesInForce.clearVolatile false
  { s1 with
    clk := { refclk := s1.clk.refclk, refLost := s1.clk.refLost },
    tt := { stores := s1.tt.stores.map storeKept },
    adm := {}, ce := {}, drives := {}, places := [{}, {}], pe := {},
    rb := { cut := s1.rb.cut ++ s1.rb.held.map (fun h => (h.nsid, h.stripe)),
            cursor := [s1.get Obj.pe_patrol_cursor 1, s1.get Obj.pe_patrol_cursor 2] },
    lg := { images := s1.lg.images, flushSeq := s1.lg.flushSeq, comparators := s1.lg.comparators,
            bankPub := s1.lg.bankPub, descGen := s1.lg.descGen },
    si := sisterKept s1.si,
    tr := {}, pc := {}, po := {},
    cy := { ownerRoot := s1.cy.ownerRootNext, ownerRootNext := s1.cy.ownerRootNext },
    md := modeKept s1.md,
    dict := { sessions := s1.dict.sessions.filter fun x => x.vlan.isNone },
    ep := {},
    book := bookKept s1.book }

/-- Rails that the light profile dropped at Holdup are on again when the main dies start anew (R227, R441). -/
def State.railsAgain (s : State) : State :=
  s.modGh fun g => { g with
    rails := (List.range 12).map fun i => if s.get Obj.gh_rail_used (i + 1) = 1 then 2 else g.rails.getD i 0 }

/-- Every root port not held under containment drives its clock pair (R548). -/
def State.refclksStart (s : State) : State :=
  s.modDrives fun x => { x with bays := x.bays.map fun d => { d with refclk := !d.linkHeld } }

/-- A warm reset (R454, R455): every main die starts Muster anew at step 3.  Causes of record 0xE008: 1 a write to
fw_warm_reset, 2 the end of holdover, 3 the end of a flush, 4 MTFA, 5 a package stored in recovery, 6 stewards,
7 a fault of the roots, 8 a fault of level 4 or 5 (log entry 20).  In Muster it counts against the firmware slot (R463). -/
def State.warmReset (cause : Nat) (s : State) : State :=
  if s.md.mode = .vigil then s
  else
    let counts : Bool := s.md.mode == .muster || cause == 4
    let s1 := (s.record 6 0xE008 [(1, cause), (1, modeNo s.md.mode)]).tick Obj.gh_tally_warm_resets
    let s2 := (if s1.md.mode = .holdup then s1.railsAgain else s1).mainReset.setMode .muster 5
    s2.refclksStart.modMd fun m => { m with
      step := 3, stepStart := s.gh.now, boot := 0, failedBoots := if counts then m.failedBoots + 1 else m.failedBoots }

/-- The board switch and the charger go off (R429, R440). -/
def State.boardOff (s : State) : State :=
  s.modGh fun g => { g with
    board := { g.board with on := false, good := false, ma := 0, onTicks := 0, goodTicks := 0 }, igate := false,
    charging := false, floatBand := false, sequencing := none,
    bankState := if g.bankState = 1 ∨ g.bankState = 2 then 0 else g.bankState }

/-- The rails still on, in the order they go off (R446 to R448): descending gh_rail_order. -/
def State.offOrder (s : State) : List Nat :=
  (sortBy (fun i => s.get Obj.gh_rail_order (i + 1))
    ((List.range 12).filter fun i => s.gh.rails.getD i 0 = 1 ∨ s.gh.rails.getD i 0 = 2)).reverse

/-- Every rail off at once (R447). -/
def State.railsDrop (s : State) : State :=
  s.modGh fun g => { g with
    rails := (List.range 12).map fun i => if s.get Obj.gh_rail_used (i + 1) = 1 then 0 else 4,
    railsOff := none, sequencing := none }

/-- A switch turned off: nothing is left of its turn-on. -/
def Switch.off (x : Switch) : Switch := { x with on := false, good := false, onTicks := 0, goodTicks := 0, ma := 0 }

/-- A controller held for promotion keeps every bay switch off (R259). -/
def State.baysHeld (s : State) : State :=
  if s.heldForPromotion then s.modGh fun g => { g with bays := g.bays.map Switch.off } else s

/-- VIGIL_ENTRY (R454): the main dies are off and every association has ended; the main guestbook is lost, the section, the
tally and what the gatehouse holds are kept.  Without a fault the rails go off in their order (R448), else at once. -/
def State.enterVigil (orderly : Bool) (cause : Nat) (s : State) : State :=
  if s.md.mode = .vigil then s
  else
    let s1 := s.mainReset.reloadStores.modBook fun b => { b with main := {}, merged := 0, copying := false }
    let s2 := (s1.modSi fun x => { x with promoted := false, promoteClaim := none }).modMd fun m => { m with
      step := 0, boot := 0, held := false, released := false }
    let s3 := (s2.setMode .vigil cause).baysHeld.saveTime.tallySave
    let s4 := if orderly && !s3.offOrder.isEmpty then s3.modGh fun g => { g with railsOff := some (0, 0), sequencing := none }
      else s3.railsDrop.boardOff
    (s4.modClk fun c => { c with refclk := c.refclk && decide (s.get Obj.gh_rail_used 12 = 0) }).modGh fun g => { g with
      charging := false, floatBand := false,
      bankState := if g.bankState = 1 ∨ g.bankState = 2 then 0 else g.bankState }

end Sys2Proof.Machine
end

