-- ==== Sys2Proof/Machine/Holdup.lean ====
section
/-! DEFINITION. Holdup: the detector's trip, the hold-up stage, the flush to the vault and what follows it (R205 to R211, R441,
R532). -/

namespace Sys2Proof.Machine

/-- A feed is valid (R210, R441). -/
def State.feedValid (s : State) : Bool := s.gh.feeds.any (·.valid)

/-- HOLDUP_STAGE_START (R441): the charger stops, GH_IGATE is off, the stage regulates the board bus, and the light profile's
rails go off. -/
def State.stageStart (s : State) : State :=
  let light := s.get Obj.lg_flush_profile == 1
  s.modGh fun g => { g with
    charging := false, floatBand := false, igate := false, huDrv := true, bleed := false, bleedGoal := 0, measuring := none,
    measurePend := g.measurePend || g.measuring.isSome, bankState := 4,
    board := { g.board with on := false, good := false },
    rails := (List.range 12).map fun i =>
      if light && s.get Obj.gh_rail_light_drop (i + 1) == 1 && g.rails.getD i 0 == 2 then 0 else g.rails.getD i 0 }

/-- The bank is bled to its residue (R441). -/
def State.bleedResidue (s : State) : State :=
  s.modGh fun g => { g with
    charging := false, floatBand := false, igate := false, huDrv := false, bleed := true, bleedGoal := 1, measuring := none,
    bankState := 5 }

/-- The image the next flush writes: the one the last flush did not write, A first (R209). -/
def LedgerSt.nextImage (l : LedgerSt) : Nat :=
  if (l.images.getD 0 { seq := 0 }).seq ≤ (l.images.getD 1 { seq := 0 }).seq then 0 else 1

/-- The wings held, as bits (R208). -/
def State.wingBits (s : State) : Nat := b2n (s.holdsWing 1) + 2 * b2n (s.holdsWing 2)

/-- The share of its rating that the vault's highest erase count has passed: 0, 80, 90 or 100 (R532). -/
def wearMark (count rating : Nat) : Nat :=
  if rating < count then 100 else if rating * 9 < count * 10 then 90 else if rating * 8 < count * 10 then 80 else 0

/-- The blocks of an image are erased for a flush (R532): its first block wears by one at every second flush; which blocks there are,
and so the mean, no rule states: a free value (log entry 44). -/
def State.vaultWear (s : State) : State :=
  let old := s.get Obj.gh_tally_vault_erase_max
  let new := Nat.max old (ceilDiv s.lg.flushSeq 2)
  let rating := s.get Obj.gh_tally_vault_erase_rating
  let s1 := ((s.put Obj.gh_tally_vault_erase_max 0 new).put Obj.gh_tally_vault_erase_mean 0 (s.freeVal 32)).drawn
  if wearMark old rating < wearMark new rating then
    s1.record 5 0x2501 [(1, wearMark new rating), (4, new), (4, rating)]
  else s1

/-- The light profile's rails take every link down at the trip, and the root ports' clocks stop (R227, R548); cause 3 of record 0x3002
(log entry 20). -/
def State.goDark (s : State) : State :=
  if s.dark then
    (((List.range 33).filter fun l => (s.link l).up).foldl (fun t l => t.linkDown l 3) s).modDrives fun x => { x with
      bays := x.bays.map fun d => { d with refclk := false } }
  else s

/-- Enter Holdup (R207): the Holdup pattern is due at the next leg boundary, and the flush of the wings held with it. -/
def State.enterHoldup (s : State) : State :=
  let bits := s.wingBits
  let i := s.lg.nextImage
  let s1 := s.tick Obj.gh_tally_holdups
  let s2 := ((s1.setMode .holdup 4).stageStart.goDark).modTt fun t => { t with holdupPend := true, activatePend := none }
  let s3 := (s2.modBook fun b => { b with copying := false }).modLg fun l => { l with
    flushSeq := if bits = 0 then l.flushSeq else l.flushSeq + 1,
    flush := some { image := i, total := 0, start := s.gh.now } }
  s3.record 6 0x8020 [(8, s.slabUsed), (1, i), (8, s3.lg.flushSeq)]

/-- The first leg boundary of Holdup (R207, R208): nothing more is sealed, no capsule leaves, work not sealed is dropped, and the
flush of what the slab holds begins with its header page. -/
def State.flushBegin (s : State) : State :=
  match s.lg.flush with
  | some f =>
    if f.boundary then s
    else
      let recs := s.flushRecs
      let bits := s.wingBits
      let v : VaultImage :=
        { image := f.image, profile := s.get Obj.lg_flush_profile, seq := s.lg.flushSeq, state := 1, time := f.start,
          sister := if s.paired then s.si.id else 255, wings := bits, claims := s.ownClaims,
          sealHi := s.lg.sealNext.map (· - 1), arrivalHi := s.ce.arrivalNext - 1, inForce := s.lg.inForce, occupied := s.slabUsed,
          records := recs }
      let total := if bits = 0 then 0 else flushPages recs
      let s1 := s.modCe fun c => { c with ready := [], cmds := [], rangeWait := [] }
      let s2 := (s1.modAdm fun _ => {}).modLg fun l => { l with
        flush := some { f with boundary := true, total := total },
        images := if bits = 0 then l.images else l.images.set f.image v }
      if bits = 0 then s2 else s2.push Bc.vault Opc.vault none (some 0x50) 0 (.vaultPage 0)
  | none => s

/-- What the flush has written stands in its image (R208, R211). -/
def State.flushWritten (complete : Bool) (s : State) : State :=
  match s.lg.flush with
  | some f =>
    let s1 := s.modLg fun l => { l with flush := none }
    if !f.boundary ∨ f.total = 0 then s1
    else
      let pages := if complete then f.total else f.pages
      let g (v : VaultImage) : VaultImage := imageAfter v pages complete
      let s2 := (s1.modLg fun l => { l with images := modAt l.images f.image g }).count Obj.gh_tally_vault_bytes 0 (pages * 4096)
      (s2.dropJobs fun j => match j with | .vaultPage _ => true | _ => false).vaultWear
  | none => s

/-- The flush stops before its end page: the image stays partial (R211). -/
def State.flushCut (s : State) : State :=
  match s.lg.flush with
  | some f => if f.total = 0 ∧ f.boundary = true then s.flushWritten false
    else (s.flushWritten false).tick Obj.gh_tally_partial_flushes
  | none => s

/-- The hold-up stage stops (R210, R441): with a valid feed the board is on again and the controller starts anew; with none the bank
is bled. -/
def State.stageStop (s : State) : State :=
  if s.feedValid then
    let s1 := s.modGh fun g => { g with
      huDrv := false, igate := true, bankState := 1, charging := true, chargeAt := g.ticks, chargeLogged := false,
      board := { g.board with on := true, onTicks := 0, goodTicks := 0 } }
    s1.warmReset 3
  else s.bleedResidue

/-- PF_TRIP (R205, R207, R210, R441): `seen` are the comparators that saw the node below the threshold for the deglitch.  The vote of
R206 decides; an excluded comparator has none. -/
def execPfTrip (seen : List Bool) (s : State) : Host.Outcome State Fault Refusal :=
  let votes := ((List.range 3).filter fun i => seen.getD i false && s.lg.comparators.getD i 1 != 1).length
  .next (if !s.gh.powered ∨ s.pfVote = 0 ∨ votes < s.pfVote then s
  else match s.md.mode with
    | .service => s.enterHoldup
    | .standby => s.enterHoldup
    | .drain => s.enterHoldup
    | .muster => (if s.feedValid then s else s.bleedResidue).enterVigil true 4
    | .vigil => if s.feedValid then s else s.bleedResidue
    | .holdup => s)

/-- FLUSH_END_PAGE (R208, R210): `mw` is the power the gatehouse measured at the rails. -/
def execFlushEndPage (mw : Nat) (s : State) : Host.Outcome State Fault Refusal :=
  .next (match s.lg.flush with
  | some f =>
    if s.md.mode ≠ .holdup ∨ f.boundary = false ∨ f.pages + 1 < f.total then s
    else if f.total = 0 then (s.flushWritten true).stageStop
    else
      let ns := s.gh.now - f.start
      let s1 := ((s.vaultWrite f.image (f.total - 1)).flushWritten true).record 4 0x8021 [(8, f.total * 4096), (8, ns), (4, mw)]
      let s2 := (s1.put Obj.lg_last_flush_bytes 0 (f.total * 4096)).put Obj.lg_last_flush_time 0 ns
      let s3 := if s2.get Obj.lg_flush_power_measured = mw then s2
        else (s2.put Obj.lg_flush_power_measured 0 mw).modLg fun l => { l with recompute := true }
      s3.stageStop
  | none => s)

/-- BANK_FLOOR_REACHED (R211): the bank is at its floor before the end page. -/
def execBankFloorReached (s : State) : Host.Outcome State Fault Refusal :=
  .next (if s.md.mode = .holdup ∧ s.lg.flush.isSome ∧ s.gh.huDrv then s.flushCut.stageStop else s)

end Sys2Proof.Machine
end

