-- ==== Sys2Proof/Machine/Gatehouse.lean ====
section
/-! DEFINITION. The gatehouse: ticks, feeds, switches, bays, measurement, the bank, rails and shelf time (R423 to R452). -/

namespace Sys2Proof.Machine

/-! ### Switches (R429 to R434) -/

/-- The board switch as the switch commands number it; bay n is switch n. -/
def boardSwitch : Nat := 24

/-- A switch by its number. -/
def State.switch (s : State) (i : Nat) : Switch := if i = boardSwitch then s.gh.board else s.gh.bays.getD i {}

/-- Change a switch; GH_IGATE follows the board switch (R429). -/
def State.modSwitch (i : Nat) (f : Switch → Switch) (s : State) : State :=
  if i = boardSwitch then s.modGh fun g => { g with board := f g.board, igate := (f g.board).on && !g.huDrv }
  else s.modGh fun g => { g with bays := modAt g.bays i f }

/-- DRV_PERSTn_N goes low with its bay switch (R552). -/
def State.perstLow (i : Nat) (s : State) : State :=
  if i < 24 then s.modDrive i fun d => { d with perst := true } else s

/-- Turn a switch off. -/
def State.switchOff (i : Nat) (s : State) : State := (s.modSwitch i Switch.off).perstLow i

/-- Turn a switch on, with the parameters it keeps until its next turn-on (R429, R452). -/
def State.switchOn (i : Nat) (s : State) : State :=
  let f (x : Switch) : Switch :=
    if i = boardSwitch then
      { x with limit := s.get Obj.gh_board_limit, letThrough := s.get Obj.gh_board_let_through,
               pgTimeout := s.get Obj.gh_board_pg_timeout }
    else
      { x with limit := s.get Obj.gh_bay_limit (i + 1), letThrough := s.get Obj.gh_bay_let_through (i + 1),
               pgMv := s.get Obj.gh_bay_pg_threshold (i + 1), pgTimeout := s.get Obj.gh_bay_pg_timeout (i + 1) }
  let g (x : Switch) : Switch := { f x.off with on := true }
  s.modSwitch i g

/-- One tick of a switch with the readings of the tick (R429, R431, R434): `vin`, `vout` in mV, `ma`, and whether the output meets
the power-good condition. -/
def Switch.tick (vin vout ma : Nat) (cond : Bool) (x : Switch) : Switch :=
  let limit : Bool := x.on && decide (x.limit ≤ ma)
  let acc := if limit then x.acc + (vin - vout) * ma else x.acc
  let good : Bool := x.on && (x.good || (cond && !limit))
  { x with
    vout := vout, ma := ma, acc := acc, below := if limit then 0 else x.below + 1, good := good,
    onTicks := if x.on then x.onTicks + 1 else 0,
    goodTicks := if good && acc == 0 then x.goodTicks + 1 else 0,
    offTicks := x.offTicks - 1 }

/-- A switch trips (R433): it goes off, its counts rise, its record is written, and its off time starts, or it latches off at the
seventh trip in a row.  Causes: 1 its fault timer, 2 its power-good timeout, 3 a rail sequence, 4 a rail fault, 5 a bay found off
by its new owner (log entry 20). -/
def State.trip (i cause : Nat) (s : State) : State :=
  let x := s.switch i
  let attempt := x.onTicks * 1000
  let n := x.trips + 1
  let last : Bool := decide (7 ≤ n)
  let off := if last then 0 else Nat.max (63 * x.onTicks) 2000000
  let f (y : Switch) : Switch := { y.off with trips := Nat.min n 7, latched := last, offTicks := off, attempt := attempt }
  let s1 := (s.modSwitch i f).perstLow i
  if i = boardSwitch then
    let s2 := s1.tick Obj.gh_tally_board_trips
    if last then s2.record 7 0x2004 [(1, n)] else s2.record 5 0x2003 [(1, cause), (8, attempt), (1, n)]
  else
    let s2 := (s1.tick Obj.gh_tally_bay_trips (i + 1)).tick Obj.gh_bay_trip_count (i + 1)
    if last then s2.record 6 0x2102 [(1, i), (1, n)] else s2.record 4 0x2101 [(1, i), (1, cause), (8, attempt), (1, n)]

/-- A trip of the board switch in Muster leads to Vigil (R454). -/
def State.tripSwitch (i cause : Nat) (s : State) : State :=
  let s1 := s.trip i cause
  if i = boardSwitch ∧ s1.md.mode = .muster then s1.enterVigil true 9 else s1

/-- The shelf is single as far as the gatehouse can tell: by the configuration in force, before it is known by the active image's. -/
def State.singleShelf (s : State) : Bool :=
  if s.config = 0 then imgConfig (s.store 1).image == 1 else s.config == 1

/-- The bay claim of this gatehouse: the higher of the claims it holds (R243). -/
def State.bayClaim (s : State) : Nat :=
  Nat.max (if s.holdsWing 1 then (s.wing 1).claim else 0) (if s.holdsWing 2 then (s.wing 2).claim else 0)

/-- The bay claim of the other gatehouse. -/
def State.otherBayClaim (s : State) : Nat := maxN 0 s.si.sbOther

/-- This gatehouse is the one R243 makes bay owner. -/
def State.shouldOwn (s : State) : Bool :=
  let a := s.bayClaim
  let b := s.otherBayClaim
  decide (b < a) || (a == 0 && b == 0 && s.si.id == 0)

/-- The gatehouse drives the bays: it is the bay owner and may change its outputs, or the shelf is single (R244, R435). -/
def State.drivesBays (s : State) : Bool := s.singleShelf || (s.si.bayOwner && !s.si.bayFrozen && s.shouldOwn)

/-- This gatehouse controls a switch: the board's always, a bay's while it drives the bays (R243, R244). -/
def State.controls (s : State) (i : Nat) : Bool := i == boardSwitch || (decide (i < 24) && s.drivesBays)

/-- FAULT_TIMER_EXPIRY (R429, R433): the accumulator has reached the let-through energy. -/
def execFaultTimerExpiry (switch : Nat) (s : State) : Host.Outcome State Fault Refusal :=
  let x := s.switch switch
  .next (if s.gh.powered ∧ s.controls switch ∧ x.on ∧ x.letThrough * 1000000 ≤ x.acc then s.tripSwitch switch 1 else s)

/-- PG_TIMEOUT (R433): no power-good within the timeout of turn-on. -/
def execPgTimeout (switch : Nat) (s : State) : Host.Outcome State Fault Refusal :=
  let x := s.switch switch
  .next (if s.gh.powered ∧ s.controls switch ∧ x.on ∧ x.good = false ∧ x.pgTimeout ≤ x.onTicks * 1000 then s.tripSwitch switch 2
  else s)

/-- ACCUMULATOR_CLEAR (R429): 100 ms below the limit. -/
def execAccumulatorClear (switch : Nat) (s : State) : Host.Outcome State Fault Refusal :=
  let f (x : Switch) : Switch := { x with acc := 0 }
  .next (if s.gh.powered ∧ switch ≤ boardSwitch ∧ 100000 ≤ (s.switch switch).below then s.modSwitch switch f else s)

/-- Record 0x2103 of a bay whose count or latch is cleared: causes 1 R434's 60 s, 2 R436, 3 an unlatch (log entry 20). -/
def State.bayCleared (i cause : Nat) (s : State) : State :=
  if i < 24 then s.record 3 0x2103 [(1, i), (1, cause)] else s

/-- TRIP_COUNT_CLEAR (R434): 60 s of power-good without the fault timer running. -/
def execTripCountClear (switch : Nat) (s : State) : Host.Outcome State Fault Refusal :=
  let x := s.switch switch
  let f (y : Switch) : Switch := { y with trips := 0 }
  .next (if s.gh.powered ∧ switch ≤ boardSwitch ∧ 60000000 ≤ x.goodTicks ∧ x.trips ≠ 0 then
    (s.modSwitch switch f).bayCleared switch 1
  else s)


/-! ### Bays (R435, R436) -/

/-- A bay may be turned on (R435); in Muster from step 7 on (R457). -/
def State.bayMay (s : State) (i : Nat) : Bool :=
  let x := s.switch i
  s.get Obj.gh_bay_enable (i + 1) == 1 && s.bayPin i && x.offTicks == 0 && !x.latched && !x.on && s.drivesBays &&
    s.md.mode != .vigil && !s.heldForPromotion && (s.md.mode != .muster || decide (7 ≤ s.md.step))

/-- The stagger since the last turn-on has passed (R435). -/
def State.staggered (s : State) : Bool :=
  match s.gh.stagger with
  | some t => decide (s.get Obj.gh_bay_stagger ≤ (s.gh.ticks - t) * 1000)
  | none => true

/-- Turn on the next bay that is ready, in ascending order, once the stagger has passed (R435). -/
def State.bayNext (s : State) : State :=
  match (List.range 24).find? fun i => s.bayMay i with
  | some i => if s.staggered then (s.switchOn i).modGh fun g => { g with stagger := some g.ticks } else s
  | none => s

/-- BAY_STAGGER (R435): the stagger has passed. -/
def execBayStagger (s : State) : Host.Outcome State Fault Refusal := .next (if s.gh.powered then s.bayNext else s)

/-- OFF_TIME_END (R433): the switch is turned on again; a bay under R435. -/
def execOffTimeEnd (switch : Nat) (s : State) : Host.Outcome State Fault Refusal :=
  let x := s.switch switch
  .next (if !s.gh.powered ∨ boardSwitch < switch ∨ x.on ∨ x.latched ∨ x.trips = 0 ∨ x.offTicks ≠ 0 then s
  else if switch = boardSwitch then (if s.md.mode = .vigil ∨ s.md.mode = .holdup then s else s.switchOn switch)
  else s.bayNext)

/-- PRESENCE_DEBOUNCED (R435, R531): 250 ms low without a break. -/
def execPresenceDebounced (bay : Nat) (s : State) : Host.Outcome State Fault Refusal :=
  let p := s.gh.pins.getD bay {}
  let f (x : BayPin) : BayPin := { x with present := true, empty := 0 }
  .next (if s.gh.powered ∧ bay < 24 ∧ p.low ∧ p.present = false ∧ 250000 ≤ p.lowTicks then
    ((s.modGh fun g => { g with pins := modAt g.pins bay f }).tick Obj.gh_tally_bay_insertions (bay + 1)).bayNext
  else s)

/-- CARRIER_REMOVAL (R343, R436): the bay goes off; its off time, count and latch stay. -/
def execCarrierRemoval (bay : Nat) (s : State) : Host.Outcome State Fault Refusal :=
  let p := s.gh.pins.getD bay {}
  let need := Nat.max 1000000 (s.switch bay).offTicks
  let f (x : BayPin) : BayPin := { x with present := false, needEmpty := need }
  .next (if s.gh.powered ∧ bay < 24 ∧ p.present ∧ p.low = false then
    ((s.modGh fun g => { g with pins := modAt g.pins bay f }).switchOff bay).contain bay 4
  else s)

/-- BAY_EMPTY_CLEAR (R436): the bay has been empty long enough. -/
def execBayEmptyClear (bay : Nat) (s : State) : Host.Outcome State Fault Refusal :=
  let p := s.gh.pins.getD bay {}
  let x := s.switch bay
  let f (y : Switch) : Switch := { y with offTicks := 0, trips := 0, latched := false }
  .next (if s.gh.powered ∧ bay < 24 ∧ p.present = false ∧ p.low = false ∧ p.needEmpty ≠ 0 ∧ p.needEmpty ≤ p.empty then
    let s1 := s.modSwitch bay f
    if x.trips ≠ 0 ∨ x.latched then s1.bayCleared bay 2 else s1
  else s)

/-- GH_BAY_ENABLE_WRITE (R435): 0 turns the bay off at once; 1 lets it be turned on. -/
def execGhBayEnableWrite (cls bay value : Nat) (s : State) : Host.Outcome State Fault Refusal :=
  .next (s.guarded cls Obj.gh_bay_enable (bay + 1) (decide (value ≤ 1)) fun t =>
    let t1 := t.put Obj.gh_bay_enable (bay + 1) value
    if value = 1 then t1.bayNext else if t1.drivesBays then t1.switchOff bay else t1)

/-- GH_BOARD_UNLATCH (R434, R558): count, latch and off time are cleared, and THERM_TRIP_N is released. -/
def execGhBoardUnlatch (cls value : Nat) (s : State) : Host.Outcome State Fault Refusal :=
  let f (y : Switch) : Switch := { y with offTicks := 0, trips := 0, latched := false }
  .next (s.action cls Obj.gh_board_unlatch Obj.gh_board_unlatch_result fun t =>
    if value = 1 then
      ((t.modSwitch boardSwitch f).modGh fun g => { g with thermTrip := false }).endRun Obj.gh_board_unlatch_result
        (outcomeVal Oc.ok)
    else t.endRun Obj.gh_board_unlatch_result (outcomeVal Oc.denied))

/-- GH_BAY_UNLATCH (R434): count, latch and off time of a bay are cleared. -/
def execGhBayUnlatch (cls bay : Nat) (s : State) : Host.Outcome State Fault Refusal :=
  let f (y : Switch) : Switch := { y with offTicks := 0, trips := 0, latched := false }
  .next (s.action cls Obj.gh_bay_unlatch Obj.gh_bay_unlatch_result fun t =>
    if bay < 24 then
      let t1 := (t.modSwitch bay f).bayCleared bay 3
      t1.bayNext.endRun Obj.gh_bay_unlatch_result (outcomeVal Oc.ok)
    else t.endRun Obj.gh_bay_unlatch_result (outcomeVal Oc.denied))

/-! ### Feeds (R424 to R427) -/

/-- Change a feed (0 A, 1 B). -/
def State.modFeed (i : Nat) (f : Feed → Feed) (s : State) : State :=
  s.modGh fun g => { g with feeds := modAt g.feeds i f }

/-- A feed by its index. -/
def State.feed (s : State) (i : Nat) : Feed := s.gh.feeds.getD i {}

/-- A feed as one tick reads it (R424, R427): runs of readings, the FET pair of a feed that is over or carries reverse current goes
off, and validity is lost at two readings in a row. -/
def Feed.tick (rising falling : Nat) (mv : Nat) (ma : Int) (f : Feed) : Feed :=
  let underN := if mv < falling then f.underT + 1 else 0
  let overN := if 62000 < mv then f.overT + 1 else 0
  let rev := if f.pairOn ∧ ma < -1000 then f.reverse + 1 else 0
  let block : Bool := decide (2 ≤ rev)
  let lose : Bool := decide (2 ≤ underN) || decide (2 ≤ overN) || block
  let valid : Bool := f.valid && !lose
  let blocked : Bool := f.blocked || block
  let inR := if block then 0 else if rising ≤ mv ∧ mv ≤ 62000 then f.inRange + 1 else 0
  let state := if valid then 1 else if blocked then 4 else if 62000 < mv then 3 else if mv = 0 then 0
    else if mv < falling then 2 else if f.state = 1 then 2 else f.state
  { f with
    mv := mv, ma := ma, underT := underN, overT := overN, reverse := rev, inRange := inR, valid := valid, blocked := blocked,
    pairOn := f.pairOn && !decide (2 ≤ overN) && !block, validTicks := if valid then f.validTicks + 1 else 0, state := state }

/-- Record 0x2002 of a feed that is valid no more: causes 1 under, 2 over, 3 blocked (log entry 20). -/
def State.feedRecord (i : Nat) (before : Feed) (s : State) : State :=
  let f := s.feed i
  if before.valid && !f.valid || !before.blocked && f.blocked then
    s.record 5 0x2002 [(1, i + 1), (1, if f.blocked && !before.blocked then 3 else if 2 ≤ f.overT then 2 else 1), (4, f.mv)]
  else s

/-- A changeover begins (R425): the old pair is off, the new feed is the selected one, its pair follows 20 ticks on.  Causes: 1 the
selected feed was lost, 2 a return (R426; log entry 20). -/
def State.changeover (new cause : Nat) (s : State) : State :=
  let old := s.gh.selected
  let off (f : Feed) : Feed := { f with pairOn := false }
  let s1 := (if old = 0 then s else s.modFeed (old - 1) off).modGh fun g => { g with
    selected := new, changeover := some (new, 0), lastChange := g.ticks, changed := true }
  (s1.tick Obj.gh_feed_changeovers).record 4 0x2001
    [(1, old), (1, new), (1, cause), (4, (s.feed 0).mv), (4, (s.feed 1).mv)]

/-- The first valid feed in gh_feed_priority, as gh_feed_selected numbers feeds; 0 none (R425). -/
def State.bestFeed (s : State) : Nat :=
  let order := if s.get Obj.gh_feed_priority = 0 then [0, 1] else [1, 0]
  match order.find? fun i => (s.feed i).valid with
  | some i => i + 1
  | none => 0

/-- The selected feed after a change of validity (R425): lost, it gives way to the other valid feed; with none, an under-voltage
feed stays connected, and one whose pair is off is selected no more. -/
def State.reselect (s : State) : State :=
  let cur := s.gh.selected
  let best := s.bestFeed
  if s.gh.changeover.isSome then s
  else if cur = 0 then
    if best = 0 then s
    else
      let on (f : Feed) : Feed := { f with pairOn := true }
      (s.modFeed (best - 1) on).modGh fun g => { g with selected := best }
  else if (s.feed (cur - 1)).valid then s
  else if best ≠ 0 then s.changeover best 1
  else if (s.feed (cur - 1)).pairOn then s
  else s.modGh fun g => { g with selected := 0 }

/-- FEED_VALID (R424, R425): 10 ms within the limits. -/
def execFeedValid (feed : Nat) (s : State) : Host.Outcome State Fault Refusal :=
  let x := s.feed feed
  let f (y : Feed) : Feed := { y with valid := true, blocked := false, validTicks := 0, state := 1 }
  .next (if s.gh.powered ∧ feed < 2 ∧ x.valid = false ∧ 10000 ≤ x.inRange then (s.modFeed feed f).reselect else s)

/-- FEED_MAKE (R425): twenty ticks after the break the new feed's pair goes on, unless the feed is over or blocked by then. -/
def execFeedMake (s : State) : Host.Outcome State Fault Refusal :=
  .next (match s.gh.changeover with
  | some (new, n) =>
    if n < 20 ∨ s.gh.powered = false then s
    else
      let f (y : Feed) : Feed := { y with pairOn := y.overT < 2 && !y.blocked }
      ((s.modFeed (new - 1) f).modGh fun g => { g with changeover := none }).reselect
  | none => s)

/-- FEED_RETURN (R426): a feed earlier in priority has been valid long enough. -/
def execFeedReturn (feed : Nat) (s : State) : Host.Outcome State Fault Refusal :=
  let x := s.feed feed
  .next (if s.gh.powered ∧ feed < 2 ∧ s.gh.changeover = none ∧ s.gh.selected ≠ 0 ∧ s.gh.selected ≠ feed + 1 ∧
      s.bestFeed = feed + 1 ∧ s.get Obj.gh_feed_return_delay ≤ x.validTicks * 1000 ∧
      (s.gh.changed = false ∨ 1000000 ≤ s.gh.ticks - s.gh.lastChange) then
    s.changeover (feed + 1) 2
  else s)

/-! ### The bank (R439 to R444) -/

/-- The square root of `n`, rounded down, of at most `k` bits. -/
def sqrtBits (n : Nat) : Nat → Nat → Nat
  | 0, r => r
  | k + 1, r =>
    let t := r + 2 ^ k
    sqrtBits n k (if t * t ≤ n then t else r)

/-- The capacitance the charger uses, µF: as measured, the nominal one before the first measurement (R440). -/
def State.bankC (s : State) : Nat :=
  if s.get Obj.gh_bank_capacitance = 0 then s.get Obj.gh_bank_c_nominal else s.get Obj.gh_bank_capacitance

/-- The target voltage, mV (R440). -/
def State.bankTarget (s : State) : Nat :=
  Nat.min 56000 (sqrtBits (2000000 * s.get Obj.gh_bank_energy_ceiling / s.bankC) 24 0)

/-- The energy of the bank at a voltage, µJ. -/
def State.bankEnergy (s : State) (mv : Nat) : Nat := s.bankC * mv * mv / 2000000

/-- The charger may run (R440). -/
def State.mayCharge (s : State) : Bool := s.gh.selected != 0 && s.md.mode != .vigil && s.md.mode != .holdup

/-- A charge starts (R440). -/
def State.startCharge (s : State) : State :=
  s.modGh fun g => { g with
    charging := true, chargeAt := g.ticks, chargeLogged := false, floatBand := false, bankState := 1 }

/-- Start a measurement that is due, from float, in no changeover and no rail sequence (R442). -/
def State.measureStart (s : State) : State :=
  let byObject : Bool := !(s.result Obj.gh_bank_measure_result).ready
  if s.gh.measurePend ∧ s.gh.floatBand ∧ s.gh.changeover = none ∧ s.gh.sequencing = none ∧ s.md.mode ≠ .holdup then
    s.modGh fun g => { g with
      measuring := some byObject, measurePend := false, bleed := true, bleedGoal := 3, floatBand := false, bankState := 3 }
  else s

/-- The bank at a tick (R440): the charger starts and stops, the float band is watched, a bleed to a new target ends. -/
def State.bankTick (s : State) : State :=
  let g := s.gh
  if !s.mayCharge then
    if g.charging ∨ g.floatBand ∨ g.measuring.isSome then
      s.modGh fun x => { x with
        charging := false, floatBand := false, measuring := none, measurePend := x.measurePend || x.measuring.isSome,
        bleed := x.bleed && x.bleedGoal == 1, bleedGoal := if x.bleedGoal = 1 then 1 else 0,
        bankState := if x.bankState = 4 ∨ x.bankState = 5 then x.bankState else 0 }
    else s
  else if g.measuring.isSome then s
  else if g.bleed then
    if g.bleedGoal = 2 ∧ g.bankMv ≤ s.bankTarget then
      s.modGh fun x => { x with bleed := false, bleedGoal := 0, charging := true, floatBand := true, bankState := 2 }
    else s
  else if !g.charging then s.startCharge
  else if g.floatBand ∧ (g.bankMv * 1000 < s.bankTarget * 998 ∨ s.bankTarget * 1002 < g.bankMv * 1000) then
    s.modGh fun x => { x with floatBand := false, bankState := 1, chargeAt := x.ticks, chargeLogged := false }
  else s.measureStart

/-- CHARGE_TARGET_REACHED (R440): the bank is at its target and held there. -/
def execChargeTargetReached (s : State) : Host.Outcome State Fault Refusal :=
  .next (if s.gh.charging ∧ s.gh.floatBand = false ∧ s.gh.measuring = none ∧ s.bankTarget * 998 ≤ s.gh.bankMv * 1000 ∧
      s.gh.bankMv * 1000 ≤ s.bankTarget * 1002 then
    (s.modGh fun g => { g with floatBand := true, bankState := 2 }).measureStart
  else s)

/-- CHARGE_TIMEOUT (R440): 60 s without reaching the target. -/
def execChargeTimeout (s : State) : Host.Outcome State Fault Refusal :=
  .next (if s.gh.charging ∧ s.gh.floatBand = false ∧ s.gh.chargeLogged = false ∧ 60000000 ≤ s.gh.ticks - s.gh.chargeAt then
    (s.modGh fun g => { g with chargeLogged := true }).record 6 0x2204
      [(4, s.gh.bankMv), (4, s.get Obj.gh_bank_charge_power)]
  else s)

/-- GH_BANK_ENERGY_CEILING_WRITE (R440): a raise starts a charge, a ceiling below the present energy bleeds the bank to the new
target. -/
def execGhBankEnergyCeilingWrite (cls value : Nat) (s : State) : Host.Outcome State Fault Refusal :=
  .next (s.guarded cls Obj.gh_bank_energy_ceiling 0 (decide (1000000 ≤ value) && decide (value ≤ 24000000)) fun t =>
    let old := t.get Obj.gh_bank_energy_ceiling
    let t1 := t.put Obj.gh_bank_energy_ceiling 0 value
    if t1.gh.measuring.isSome ∨ t1.gh.bleedGoal = 1 ∨ t1.md.mode = .holdup then t1
    else if old < value then (if t1.mayCharge then t1.startCharge else t1)
    else if value < t1.bankEnergy t1.gh.bankMv then
      t1.modGh fun g => { g with bleed := true, bleedGoal := 2, floatBand := false, bankState := 5 }
    else t1)

/-- CAPACITANCE_MEASURE (R442): a measurement is due, by the time of day or at the first float; one that cannot start yet is
postponed. -/
def execCapacitanceMeasure (s : State) : Host.Outcome State Fault Refusal :=
  .next (if s.gh.powered ∧ s.gh.measuring = none ∧ s.md.mode ≠ .holdup then
    (s.modGh fun g => { g with measurePend := true }).measureStart else s)

/-- GH_BANK_MEASURE (R442): a write of 1 starts a measurement. -/
def execGhBankMeasure (cls value : Nat) (s : State) : Host.Outcome State Fault Refusal :=
  .next (s.action cls Obj.gh_bank_measure Obj.gh_bank_measure_result fun t =>
    if value ≠ 1 ∨ t.md.mode = .holdup then t.endRun Obj.gh_bank_measure_result (outcomeVal Oc.denied)
    else if t.gh.measuring.isSome then t.modGh fun g => { g with measuring := some true }
    else (t.modGh fun g => { g with measurePend := true }).measureStart)

/-- Gatehouse seconds so far: those of the tally and those not yet written. -/
def State.ghSeconds (s : State) : Nat := s.get Obj.gh_tally_gatehouse_seconds + s.gh.seconds

/-- BANK_MEASURE_DONE (R443): C in µF and the ESR in µΩ. -/
def execBankMeasureDone (c esr : Nat) (s : State) : Host.Outcome State Fault Refusal :=
  .next (match s.gh.measuring with
  | some byObject =>
    let period := 2592000
    let first : Bool := s.gh.capHistory.isEmpty || s.ghSeconds / period != s.gh.capAt / period
    let s1 := ((s.put Obj.gh_bank_capacitance 0 c).put Obj.gh_bank_esr 0 esr).put Obj.gh_bank_last_measure 0 s.gh.now
    let hist (g : GateSt) : List (Nat × Nat × Nat) :=
      let l := g.capHistory ++ [(g.now, c, esr)]
      if first then l.drop (l.length - 180) else g.capHistory
    let s2 := s1.modGh fun g => { g with
      measuring := none, bleed := false, bleedGoal := 0, floatBand := true, bankState := 2, capHistory := hist g,
      capAt := if first then s.ghSeconds else g.capAt }
    let s3 := s2.record 2 0x2201 [(4, c), (4, esr)]
    let s4 := if c < s.get Obj.gh_bank_c_warn then s3.record 5 0x2202 [(4, c)] else s3
    let s5 := if s.get Obj.gh_bank_esr_limit < esr then s4.record 5 0x2203 [(4, esr)] else s4
    if byObject then s5.endRun Obj.gh_bank_measure_result (outcomeWith Oc.ok (leBytes 4 c)) else s5
  | none => s)

/-- BANK_BLEED_DONE (R441): the bank is down to its residue: Vigil, with record 0x2205. -/
def execBankBleedDone (s : State) : Host.Outcome State Fault Refusal :=
  let e := s.bankEnergy s.gh.bankMv
  .next (if s.gh.bleed ∧ s.gh.bleedGoal = 1 ∧ e ≤ s.get Obj.gh_bank_residue then
    let s1 := s.modGh fun g => { g with bleed := false, bleedGoal := 0, bankState := 0 }
    (s1.enterVigil true 4).record 4 0x2205 [(4, e), (4, (e - s.bankEnergy 6000) / 25000)]
  else s)

/-! ### Measurement (R438) -/

/-- The quantities of a sample, in this order: voltage and current of feeds A and B, GH_VSEL, GH_VBUS, board current, GH_VBANK,
BAY_VRAIL, and of bays 0 to 23 voltage and current. -/
def GateSt.sampleNow (g : GateSt) : List Int :=
  let nat (n : Nat) : Int := n
  (g.feeds.flatMap fun f => [nat f.mv, f.ma]) ++ [nat g.vsel, nat g.board.vout, nat g.board.ma, nat g.bankMv, nat g.bayRail] ++
    g.bays.flatMap fun b => [nat b.vout, nat b.ma]

/-- The published mean of a quantity over the last 10 ms, in thousandths lost; 0 before the first sample (R438). -/
def GateSt.mean (g : GateSt) (q : Nat) : Int :=
  let l := g.samples.map fun r => r.getD q 0
  if l.isEmpty then 0 else l.foldl (· + ·) 0 / l.length

/-- A published mean that an object shows as unsigned. -/
def GateSt.meanN (g : GateSt) (q : Nat) : Nat := (g.mean q).toNat

/-- MEASUREMENT_SAMPLE (R438): one sample of each quantity; its power × 100 µs is added to the energies. -/
def execMeasurementSample (s : State) : Host.Outcome State Fault Refusal :=
  .next (if s.gh.powered then
    let g := s.gh
    let feeds := g.feeds.map fun f => f.mv * f.ma.toNat
    let bays := g.bays.map fun b => b.vout * b.ma
    let add (l m : List Nat) : List Nat := l.zipWith (· + ·) m
    s.modGh fun x => { x with
      samples := (x.sampleNow :: x.samples).take 100, energy := add x.energy (feeds ++ bays),
      feedUnsaved := add x.feedUnsaved feeds }
  else s)

/-- BANK_PUBLISH (R224, R444): voltage, capacitance, ceiling and state go to the ledger. -/
def execBankPublish (s : State) : Host.Outcome State Fault Refusal :=
  .next (if s.gh.powered then
    s.modLg fun l => { l with
      bankPub := [s.gh.meanN 7, s.get Obj.gh_bank_capacitance, s.get Obj.gh_bank_energy_ceiling, s.gh.bankState],
      recompute := true }
  else s)

/-! ### Rails (R446 to R448) -/

/-- The used rails in ascending gh_rail_order, with delay and timeout (R446). -/
def State.railOrder (s : State) : List (Nat × Nat × Nat) :=
  (sortBy (fun i => s.get Obj.gh_rail_order (i + 1)) ((List.range 12).filter fun i => s.get Obj.gh_rail_used (i + 1) == 1)).map
    fun i => (i, s.get Obj.gh_rail_delay (i + 1), s.get Obj.gh_rail_pg_timeout (i + 1))

/-- A rail sequence starts (R446). -/
def State.railsStart (s : State) : State :=
  s.modGh fun g => { g with
    sequencing := some s.railOrder, railWait := 0, railsOff := none, railLow := List.replicate 12 0,
    rails := (List.range 12).map fun i => if s.get Obj.gh_rail_used (i + 1) = 1 then 0 else 4 }

/-- RAIL_SEQUENCE (R446): the next rail is enabled, its delay after the power-good before it; the first at once. -/
def execRailSequence (s : State) : Host.Outcome State Fault Refusal :=
  .next (match s.gh.sequencing with
  | some ((r, d, _) :: _) =>
    let first : Bool := !(s.gh.rails.any (· == 2))
    if s.gh.rails.getD r 0 = 0 ∧ (first = true ∨ d ≤ s.gh.railWait * 1000) then
      s.modGh fun g => { g with rails := g.rails.set r 1, railWait := 0 }
    else s
  | _ => s)

/-- Rails at a tick (R446 to R448): the rail being enabled gives power-good, fallen power-goods are timed, and an orderly turn-off
goes on. -/
def State.railTick (s : State) : State :=
  let g := s.gh
  let low (i : Nat) : Nat := if g.rails.getD i 0 = 2 ∧ g.railGood.getD i false = false then g.railLow.getD i 0 + 1 else 0
  let s1 := s.modGh fun x => { x with railLow := (List.range 12).map low, railWait := x.railWait + 1 }
  let s2 := match g.sequencing with
    | some ((r, _, _) :: rest) =>
      let left : Option (List (Nat × Nat × Nat)) := if rest.isEmpty then none else some rest
      if g.rails.getD r 0 = 1 ∧ g.railGood.getD r false then
        s1.modGh fun x => { x with rails := x.rails.set r 2, railWait := 0, sequencing := left }
      else s1
    | some [] => s1.modGh fun x => { x with sequencing := none }
    | none => s1
  match s2.gh.railsOff with
  | some (k, w) =>
    if k ≠ 0 ∧ g.railGood.getD (k - 1) false ∧ w < 10000 then s2.modGh fun x => { x with railsOff := some (k, w + 1) }
    else match s2.offOrder with
      | r :: _ => s2.modGh fun x => { x with rails := x.rails.set r 0, railsOff := some (r + 1, 0) }
      | [] => (s2.modGh fun x => { x with railsOff := none }).boardOff
  | none => s2

/-- A rail failed in a phase: 1 the sequence, 2 later (R446, R447): every rail is off, a board trip counts, and Vigil follows. -/
def State.railFailed (rail phase : Nat) (s : State) : State :=
  let s1 := (s.railsDrop.modGh fun g => { g with rails := g.rails.set rail 3 }).tick Obj.gh_rail_faults
  let s2 := (s1.trip boardSwitch (phase + 2)).record 7 0x2301 [(1, rail), (1, phase)]
  let s3 := if s2.md.mode = .holdup then s2.flushCut else s2
  (s3.enterVigil false 9).modGh fun g => { g with
    rails := g.rails.set rail 3, huDrv := false, bankState := if g.bankState = 4 then 0 else g.bankState }

/-- RAIL_PG_TIMEOUT (R446): a rail being enabled has no power-good in time. -/
def execRailPgTimeout (s : State) : Host.Outcome State Fault Refusal :=
  .next (match s.gh.sequencing with
  | some ((r, _, limit) :: _) =>
    if s.gh.rails.getD r 0 = 1 ∧ s.gh.railGood.getD r false = false ∧ limit ≤ s.gh.railWait * 1000 then s.railFailed r 1 else s
  | _ => s)

/-- RAIL_FAULT (R447): the power-good of a good rail has been low for longer than the deglitch. -/
def execRailFault (rail : Nat) (s : State) : Host.Outcome State Fault Refusal :=
  .next (if rail < 12 ∧ s.gh.railsOff = none ∧ s.gh.rails.getD rail 0 = 2 ∧
      s.get Obj.gh_rail_pg_deglitch < s.gh.railLow.getD rail 0 * 1000 then s.railFailed rail 2
  else s)

/-! ### The tick (R423) -/

/-- Shelf time and seconds at a tick (R423, R450, R531): a pending slew moves it by one more or one less nanosecond in ten ticks,
100 ppm. -/
def State.timeTick (s : State) : State :=
  let n := s.gh.ticks + 1
  let move : Int := if n % 10 = 0 then (if 0 < s.gh.slew then 1 else if s.gh.slew < 0 then -1 else 0) else 0
  let second : Bool := n % 1000000 == 0
  let railsOn : Bool := s.gh.rails.any (· == 2) && s.gh.sequencing.isNone
  s.modGh fun g => { g with
    ticks := n, now := ((g.now : Int) + 1000 + move).toNat, slew := g.slew - move,
    seconds := if second then g.seconds + 1 else g.seconds,
    railSeconds := if second && railsOn then g.railSeconds + 1 else g.railSeconds,
    changeover := g.changeover.map fun c => (c.1, c.2 + 1) }

/-- Feeds at a tick. -/
def State.feedTick (t : TickIn) (s : State) : State :=
  let up := s.get Obj.gh_feed_uv_rising
  let down := s.get Obj.gh_feed_uv_falling
  let one (u : State) (i : Nat) : State :=
    let before := u.feed i
    let r := t.feeds.getD i (0, 0)
    (u.modFeed i fun f => f.tick up down r.1 r.2).feedRecord i before
  ([0, 1].foldl one s).reselect

/-- Switches and presence at a tick. -/
def State.switchTick (t : TickIn) (s : State) : State :=
  let pin (p : BayPin × Bool) : BayPin :=
    { p.1 with low := p.2, lowTicks := if p.2 then p.1.lowTicks + 1 else 0, empty := if p.2 then 0 else p.1.empty + 1 }
  let bay (p : Switch × Nat × Nat) : Switch := p.1.tick t.bayRail p.2.1 p.2.2 (decide (p.1.pgMv ≤ p.2.1))
  let ins := (List.range 24).map fun i => t.bays.getD i (0, 0)
  let lows := (List.range 24).map fun i => t.low.getD i false
  s.modGh fun g => { g with
    vsel := t.vsel, bayRail := t.bayRail, bankMv := t.bank, railGood := (List.range 12).map fun i => t.good.getD i false,
    board := g.board.tick t.vsel t.vbus t.board (decide (95 * t.vsel ≤ 100 * t.vbus)),
    bays := (g.bays.zip ins).map bay, pins := (g.pins.zip lows).map pin }

/-- In Muster the loss of the last valid feed leads to Vigil (R454). -/
def State.musterFed (s : State) : State :=
  if s.md.mode = .muster ∧ s.feedValid = false then s.bleedResidue.enterVigil true 4 else s

/-- GH_TICK (R423): every feed, switch and rail is evaluated once per microsecond. -/
def execGhTick (t : TickIn) (s : State) : Host.Outcome State Fault Refusal :=
  .next (if s.gh.powered then ((((s.timeTick.feedTick t).switchTick t).railTick).bankTick).musterFed else s)

/-! ### Shelf time (R449 to R451) -/

/-- Shelf time is stepped: record 0x2401; sources as gh_time_source numbers them. -/
def State.stepTime (new source : Nat) (s : State) : State :=
  let old := s.gh.now
  (s.modGh fun g => { g with now := new, slew := 0, timeSource := source }).record 4 0x2401 [(8, old), (8, new), (1, source)]

/-- PTP_COMPARE (R450): once per second while locked.  What trim is learned from a slew no rule states: a free value within the
object's range (log entry 45). -/
def execPtpCompare (s : State) : Host.Outcome State Fault Refusal :=
  let offset : Int := (s.pc.clockNs : Int) - (s.gh.now : Int)
  .next (if s.pc.ptpState ≠ 2 ∨ s.gh.powered = false then s
  else
    let s1 := s.put Obj.gh_time_offset 0 (encInt 64 offset)
    if 1000000 ≤ offset.natAbs then s1.stepTime s.pc.clockNs 2
    else
      let trim : Int := (s1.freeVal 32 % 400001 : Nat) - 200000
      let s2 := s1.modGh fun g => { g with slew := offset, timeSource := 2 }
      if offset = 0 then s2 else (s2.put Obj.gh_calendar_trim 0 (encInt 32 trim)).drawn)

/-- GH_TIME_SET (R451). -/
def execGhTimeSet (cls value : Nat) (s : State) : Host.Outcome State Fault Refusal :=
  .next (s.action cls Obj.gh_time_set Obj.gh_time_set_result fun t =>
    if t.pc.ptpState = 2 then t.endRun Obj.gh_time_set_result (outcomeVal Oc.denied)
    else (t.stepTime value 1).endRun Obj.gh_time_set_result (outcomeVal Oc.ok))

/-! ### Power of the gatehouse (R18, R441, R543) -/

/-- What the gatehouse loses when its supply is gone: everything but the MRAM of the tally and the stored objects, the vault, the
roots, and the shelf time it saved (R434, R449, R475, R525, R526). -/
def State.gateLost (s : State) : State :=
  let t := s.mainReset.clearVolatile true
  { t with
    gh := { now := s.gh.saved, saved := s.gh.saved, capHistory := s.gh.capHistory, capAt := s.gh.capAt, powered := false },
    si := {}, book := {}, dict := {}, clk := {},
    lg := { t.lg with comparators := [0, 0, 0], bankPub := [0, 0, 0, 0] },
    md := { modeKept t.md with mode := .vigil, boot := 0, held := false, released := false } }

/-- GATEHOUSE_POWER_LOSS (R441, R543): the supply is below 6.0 V.  The feeds are absent and the bank has run down; a flush in
progress is cut off. -/
def execGatehousePowerLoss (s : State) : Host.Outcome State Fault Refusal :=
  .next (if s.gh.powered then s.flushCut.gateLost else s)

/-- GATEHOUSE_POWER_ON_RESET (R18, R449): the gatehouse leaves its power-on reset with the level of SISTER_ID.  A gatehouse that was
powered loses what its power loss would have lost. -/
def execGatehousePowerOnReset (pin : Bool) (s : State) : Host.Outcome State Fault Refusal :=
  let s1 := if s.gh.powered then s.flushCut.gateLost else s
  .next (((s1.modGh fun g => { g with powered := true }).modSi fun x => { x with id := b2n pin }).tick
    Obj.gh_tally_gatehouse_resets)

/-! ### Temperatures (R558, R561) -/

/-- The trip temperature of a die, m°C: west, east and vault are main dies (R558). -/
def tripAt (i : Nat) : Int := if i = 3 then 120000 else 112000

/-- TEMPERATURE_READ (R558, R561): every die's sensor, west, east, vault, gatehouse; in Vigil the main dies read 0. -/
def execTemperatureRead (temps : List Int) (s : State) : Host.Outcome State Fault Refusal :=
  let read (i : Nat) : Int := if s.md.mode = .vigil ∧ i ≠ 3 then 0 else temps.getD i 0
  let now := (List.range 4).map read
  let hot (i : Nat) : Nat := if tripAt i < now.getD i 0 then s.gh.hotMs.getD i 0 + 1 else 0
  let peak (t : State) (i : Nat) : State :=
    let v := now.getD i 0
    if decInt 32 (t.get Obj.gh_die_temperature_peak (i + 1)) < v then t.put Obj.gh_die_temperature_peak (i + 1) (encInt 32 v) else t
  .next (if s.gh.powered then
    let s1 := s.modGh fun g => { g with temps := now, hotMs := (List.range 4).map hot }
    ((List.range 4).foldl peak s1).raiseWarnings s
  else s)

/-- A die has been too hot (R558): THERM_TRIP_N is asserted, every rail is off, the board switch latches off, and Vigil follows. -/
def State.heatTrip (die : Nat) (s : State) : State :=
  let f (x : Switch) : Switch := { x.off with latched := true, offTicks := 0 }
  let s1 := ((s.modGh fun g => { g with thermTrip := true }).railsDrop.modSwitch boardSwitch f).tick Obj.gh_therm_trips
  let s2 := (s1.tick Obj.gh_tally_board_trips).record 7 0x2302
    [(1, die + 1), (4, encInt 32 (s.gh.temps.getD die 0)), (1, modeNo s.md.mode)]
  let s3 := if s2.md.mode = .holdup then s2.flushCut else s2
  (s3.enterVigil false 9).modGh fun g => { g with huDrv := false, bankState := if g.bankState = 4 then 0 else g.bankState }

/-- THERMAL_TRIP (R558): a die above its trip temperature for 10 ms; the board switch latches off. -/
def execThermalTrip (die : Nat) (s : State) : Host.Outcome State Fault Refusal :=
  .next (if s.gh.powered ∧ die < 4 ∧ 10 ≤ s.gh.hotMs.getD die 0 ∧ s.gh.thermTrip = false then s.heatTrip die else s)

/-- DRV_PERST_RELEASE (R548, R552): 100 ms after the bay switch gives power-good and 100 µs after the bay's clock starts, from step 7
of Muster on. -/
def execDrvPerstRelease (bay : Nat) (s : State) : Host.Outcome State Fault Refusal :=
  let started : Bool := s.md.mode != .vigil && (s.md.mode != .muster || decide (7 ≤ s.md.step))
  .next (if bay < 24 ∧ (s.switch bay).on ∧ (s.switch bay).good ∧ (s.drive bay).refclk ∧ started ∧ !s.heldForPromotion then
    s.modDrive bay fun d => { d with perst := false } else s)

end Sys2Proof.Machine
end

