-- ==== Sys2Proof/Machine/Sideband.lean ====
section
/-! DEFINITION. The sideband between the gatehouses and bay ownership (R19, R242 to R246). -/

namespace Sys2Proof.Machine

/-- Bays on, as bits. -/
def State.baysOn (s : State) : Nat :=
  (List.range 24).foldl (fun n i => if (s.switch i).on then n + 2 ^ i else n) 0

/-- A gatehouse that does not drive the bays follows the levels it samples on the gate lines. -/
def State.followLines (lines : Nat) (s : State) : State :=
  (List.range 24).foldl (fun t i =>
    let x := t.switch i
    if bit lines i && !x.on then t.switchOn i else if !bit lines i && x.on then t.switchOff i else t) s

/-- A bay that the new owner samples as off is in the off phase of a retry (R246): its off time starts afresh, and the trip counts. -/
def State.retryBay (i : Nat) (s : State) : State :=
  let old := (s.switch i).attempt
  let f (x : Switch) : Switch :=
    if x.latched then x else { x with offTicks := Nat.max (63 * old / 1000) 2000000, attempt := old }
  (s.trip i 5).modSwitch i f

/-- The new owner may change its outputs (R244 step 3): bays disabled meanwhile go off, others are turned on as they become ready. -/
def State.thawBays (s : State) : State :=
  let s1 := s.modSi fun x => { x with bayFrozen := false }
  let off := (List.range 24).filter fun i => (s1.switch i).on && s1.get Obj.gh_bay_enable (i + 1) == 0
  (off.foldl (fun t i => t.switchOff i) s1).bayNext

/-- Become bay owner (R244, R246): the lines are sampled and driven at their levels, the flag is set, and every bay sampled as off is in
the off phase of a retry. -/
def State.becomeOwner (lines : Nat) (s : State) : State :=
  let frozen : Bool := s.si.sbOwner && !s.si.silent
  let s1 := (s.followLines lines).modSi fun x => { x with
    bayOwner := true, bayDriving := true, baySampled := (List.range 24).map fun i => bit lines i, bayFrozen := true, ownerMs := 0 }
  let off := (List.range 24).filter fun i => !bit lines i
  let s2 := off.foldl (fun t i => t.retryBay i) s1
  let s3 := s2.record 4 0xB00B [(1, s.si.id), (8, s.bayClaim), (4, lines)]
  if frozen then s3 else s3.thawBays

/-- Ownership after a frame, a silence, or a change of the own claims (R243, R244).  A single shelf has no ownership. -/
def State.ownerCheck (lines : Nat) (s : State) : State :=
  if s.singleShelf ∨ s.si.idConflict then s
  else if s.si.bayOwner then
    if s.si.bayFrozen ∧ (s.si.silent ∨ s.si.sbOwner = false) then s.thawBays else s
  else if s.shouldOwn then s.becomeOwner lines
  else s.followLines lines

/-- SISTER_SB_TX (R242): one frame every millisecond; `lines` are the levels sampled on the bay gate lines. -/
def execSisterSbTx (lines : Nat) (s : State) : Host.Outcome State Fault Refusal :=
  .next (if s.gh.powered then
    let s1 := (s.modSi fun x => { x with sbSince := x.sbSince + 1 }).ownerCheck lines
    let claim (w : Nat) : Nat := if s1.holdsWing w then (s1.wing w).claim else 0
    let flags := b2n s1.si.bayOwner + 2 * b2n (s1.holdsWing 1) + 4 * b2n (s1.holdsWing 2)
    let bays := if s1.si.bayDriving ∨ s1.singleShelf then s1.baysOn else lines
    s1.emit (.sideband (sidebandFrame s1.si.id (modeNo s1.md.mode) flags (claim 1) (claim 2) bays))
  else s)

/-- SISTER_SB_RX (R19, R242, R249): a frame; one whose CRC fails is not valid and is left out.  The same sister id on both boards is a
conflict, recorded at severity 6 under a code no rule gives (log entry 47); a frame of the other sister gives its claims, its mode and its
bay-owner flag. -/
def execSisterSbRx (frame : List Byte) (lines : Nat) (s : State) : Host.Outcome State Fault Refusal :=
  let code := 0xB000 + s.freeVal 12
  let sister := beField frame 0 1
  let mode := beField frame 1 1
  let flags := beField frame 2 1
  let claim1 := beField frame 4 8
  let claim2 := beField frame 12 8
  .next (if s.gh.powered = false ∨ s.singleShelf ∨ sidebandGood frame = false then s
  else if sister = s.si.id then
    if s.si.idConflict then s
    else (s.modSi fun x => { x with idConflict := true }).drawn.record 6 code [(1, sister)]
  else
    let other := Nat.max claim1 claim2
    let shown : Bool := bit flags 0 && decide (s.bayClaim < other)
    let s1 := s.modSi fun x => { x with
      idConflict := false, silent := false, sbSince := 0, sbOther := [claim1, claim2], sbMode := mode, sbOwner := bit flags 0,
      ownerMs := if shown then x.ownerMs + 1 else 0 }
    let s2 := (s1.otherClaim 1 claim1).otherClaim 2 claim2
    let down : Bool := mode == 0 || mode == 1 || mode == 5
    let s3 := if down && claim1 != 0 then s2.holderFailed 1 2 else s2
    let s4 := if down && claim2 != 0 then s3.holderFailed 2 2 else s3
    s4.ownerCheck (if s4.si.bayDriving then s4.baysOn else lines))

/-- SIDEBAND_SILENT (R242): no valid frame for 5 ms: the other sister's claims count as 0. -/
def execSidebandSilent (lines : Nat) (s : State) : Host.Outcome State Fault Refusal :=
  .next (if s.gh.powered = false ∨ s.si.silent ∨ s.si.sbSince < 5 then s
  else
    (s.modSi fun x => { x with
      silent := true, sbOther := [0, 0], sbOwner := false, sbSilentAt := s.gh.now, ownerMs := 0 }).ownerCheck lines)

/-- BAY_OWNER_RELEASE (R244): frames 1 ms apart, two of them at least, have shown the new owner's higher bay claim and flag for 1 ms: the
outputs are released. -/
def execBayOwnerRelease (s : State) : Host.Outcome State Fault Refusal :=
  .next (if s.si.bayOwner ∧ 2 ≤ s.si.ownerMs ∧ s.singleShelf = false then
    s.modSi fun x => { x with bayOwner := false, bayDriving := false, bayFrozen := false, ownerMs := 0 }
  else s)

end Sys2Proof.Machine
end

