-- ==== Sys2Proof/Machine/Boot.lean ====
section
/-! DEFINITION. Firmware packages, secure boot and the steps of Muster (R19, R20, R62, R206, R211, R257, R258, R407, R455 to R464). -/

namespace Sys2Proof.Machine

/-! ### Packages (R460, R461) -/

/-- Sections of a package that a component names: kind, offset, length. -/
def pkgComponents (p : List Byte) : List (Nat × Nat × Nat) :=
  (List.range (Nat.min 8 (field p 0x19 1))).map fun i =>
    (field p (0x20 + 16 * i) 1, field p (0x24 + 16 * i) 4, field p (0x28 + 16 * i) 4)

/-- Spans of a package that lie apart: offset, length. -/
def spansApart : List (Nat × Nat) → Bool
  | [] => true
  | a :: r => (r.all fun b => decide (a.1 + a.2 ≤ b.1) || decide (b.1 + b.2 ≤ a.1)) && spansApart r

/-- off_sig of a package (R460). -/
def pkgOffSig (p : List Byte) : Nat := field p 0x1C 4

/-- Rule 0x02 LENGTH of a package: the length, one or two signatures (R56), and components inside it, apart. -/
def pkgLength (p : List Byte) : Bool :=
  let n := field p (pkgOffSig p) 2
  field p 8 4 == p.length && decide (p.length ≤ 16777216) && (n == 1 || n == 2) &&
  p.length == pkgOffSig p + 68 + sigLen * n && decide (256 ≤ pkgOffSig p) &&
  ((pkgComponents p).all fun c => decide (256 ≤ c.2.1) && decide (c.2.1 + c.2.2 ≤ pkgOffSig p)) &&
  spansApart ((pkgComponents p).map (·.2))

/-- The stored digest of a package. -/
def pkgDigest (p : List Byte) : List Byte := slice p (pkgOffSig p + 4) 64

/-- The `n`-th signature of a package under a key (R460). -/
def pkgSignature (p key : List Byte) (n : Nat) : Bool :=
  Config.mldsaVerify key "KA2460 FIRMWARE" (pkgDigest p) (slice p (pkgOffSig p + 68 + sigLen * n) sigLen)

/-- Rule 0x08 COMPONENT: one to eight components, exactly one of kind 1, no reserved kind. -/
def pkgKinds (p : List Byte) : Bool :=
  let n := field p 0x19 1
  let kinds := (pkgComponents p).map (·.1)
  decide (1 ≤ n) && decide (n ≤ 8) && times kinds 1 == 1 && kinds.all fun k => k == 1 || k == 2 || k == 3

/-- The cause of a package (R461): the first rule that fails, 0 where none does. -/
def checkPackage (floor : Nat) (ownerKey p : List Byte) : Nat :=
  if !(slice p 0 4 == [0x4B, 0x46, 0x57, 0x50] && field p 4 2 == 1 && field p 6 2 == 256) then 1
  else if !pkgLength p then 2
  else if pkgDigest p ≠ leBytes 64 (Config.sha3 (p.take (pkgOffSig p))).toNat then 3
  else if !(Config.sha3 Config.vendorKey == Config.vendorKeyDigest && pkgSignature p Config.vendorKey 0) then 4
  else if !(ownerKey.isEmpty || (field p (pkgOffSig p) 2 == 2 && pkgSignature p ownerKey 1)) then 5
  else if field p 0xC 4 < floor then 6
  else if field p 0x18 1 ≠ 0xB0 then 7
  else if !pkgKinds p then 8
  else 0

/-- Check a package (R461): the cause is shown, and a rejection recorded.  Sources of record 0xE005: 1 Firmware Commit, 2 boot,
3 recovery (log entry 20). -/
def State.packageCheck (p : List Byte) (source : Nat) (s : State) : Nat × State :=
  let c := checkPackage (s.get Obj.gh_tally_rollback_fw) s.md.ownerKey p
  let s1 := s.put Obj.fw_package_cause 0 c
  (c, if c = 0 then s1 else s1.record 4 0xE005 [(1, c), (1, source)])

/-- A slot that holds a package (R460, R463). -/
def slotOf (p : List Byte) : FwSlot :=
  { present := true, package := p, revision := slice p 0x10 8, security := field p 0xC 4 }

/-- Store a package in a slot, 1 or 2. -/
def State.putSlot (slot : Nat) (p : List Byte) (s : State) : State :=
  s.modMd fun m => { m with slots := m.slots.set (slot - 1) (slotOf p) }

/-- A slot by its number. -/
def State.slot (s : State) (n : Nat) : FwSlot := s.md.slots.getD (n - 1) {}

/-- SECURE_BOOT (R461, R463, R464): the named or the active slot first, then the other one; a slot with three warm resets before
step 13 goes second.  The first that passes runs; with neither, recovery.  Causes of record 0xE003: the package's cause, or 9 for
three warm resets; of 0xE004: 1 recovery, 2 the roots (log entry 20). -/
def State.secureBoot (s : State) : State :=
  let first := if s.md.next = 0 then s.md.active else s.md.next
  let other := 3 - first
  let worn := decide (3 ≤ s.md.failedBoots)
  let a := if worn then other else first
  let b := 3 - a
  let start (k : Nat) (boot : Nat) (t : State) : State :=
    (t.modMd fun m => { m with
      active := k, next := 0, boot := boot, failedBoots := if k = first then m.failedBoots else 0 }).modDict fun d => { d with scope := true }
  let ca := s.packageCheck (s.slot a).package 2
  let code := if worn then 9 else ca.1
  if ca.1 = 0 then
    if a = first then start a 1 ca.2 else (start a 2 ca.2).record 6 0xE003 [(1, first), (1, a), (1, code)]
  else
    let cb := ca.2.packageCheck (s.slot b).package 2
    if cb.1 = 0 then
      if b = first then start b 1 cb.2 else (start b 2 cb.2).record 6 0xE003 [(1, first), (1, b), (1, ca.1)]
    else (cb.2.modMd fun m => { m with boot := 3, hold := .recovery }).record 7 0xE004 [(1, 1)]

/-! ### Self-test (R458) -/

/-- A unit whose failure closes it and lets Muster go on: cipher core, network port, root port or steward (R458). -/
def closable (u : Nat) : Bool :=
  (decide (0x20 ≤ u) && decide (u ≤ 0x2F)) || (decide (1 ≤ u) && decide (u ≤ 4)) || (decide (8 ≤ u) && decide (u ≤ 0x1F)) ||
  (decide (0x58 ≤ u) && decide (u ≤ 0x5F))

/-- A unit that failed is closed (R65, R458). -/
def State.closeFailed (u : Nat) (s : State) : State :=
  let s1 := (s.closeUnit u).modMd fun m => { m with failedUnits := addNew m.failedUnits u }
  let s2 := if 0x20 ≤ u ∧ u ≤ 0x2F then s1.modCy fun y => { y with coreState := y.coreState.set (u - 0x20) 2 } else s1
  let s3 := if 1 ≤ u ∧ u ≤ 4 then s2.modPc fun p => { p with portState := p.portState.set (u - 1) 0 } else s2
  if 0x58 ≤ u then s3.modMd fun m => { m with closedStewards := addNew m.closedStewards u } else s3

/-- The self-tests of step 4 (R458): record 0xE002 of each failed unit, cause 1; a failure that nothing may close, too many
stewards or steward 0 keeps Muster at step 4. -/
def State.selfTest (failed : List Nat) (s : State) : State :=
  let stewards := failed.filter fun u => decide (0x58 ≤ u) && decide (u ≤ 0x5F)
  let badSteward := decide (4 < stewards.length) || stewards.contains 0x58
  let stays (u : Nat) : Bool := !closable u || (badSteward && stewards.contains u)
  let s1 := failed.foldl (fun t u => (if closable u then t.closeFailed u else t).record (if stays u then 7 else 6) 0xE002
    [(1, 4), (1, u), (1, 1)]) s
  if failed.any stays then s1.modMd fun m => { m with hold := .selfTest } else s1

/-! ### The shelf descriptor and K_dev (R20, R197, R407) -/

/-- Write the descriptor to every present drive before any wing is held: K_dev was wrapped anew (R407). -/
def State.rewrite (s : State) : State :=
  s.descPut (s.lg.descGen + 1) s.shelfWings

/-- Muster stays at step 8 for K_dev (R407): 2 the unwrap failed, 3 the owner key cannot be applied. -/
def State.devKeyStays (state : Nat) (s : State) : State :=
  ((s.put Obj.cy_dev_key_state 0 state).record 7 0x5003 [(8, s.lg.descGen), (1, state)]).modMd fun m => { m with hold := .devKey }

/-- K_dev of the committed descriptor (R407). -/
def State.unwrapDev (s : State) : State :=
  let zero := kWrap (List.replicate 32 0)
  let own := kWrap s.kOwn
  let held := s.cy.ownerRoot.isSome
  let wrapped := BitVec.ofNat 320 s.lg.wrapped
  let take (k : BitVec 256) (t : State) : State := (t.modCy fun y => { y with devKey := some k.toNat }).put Obj.cy_dev_key_state 0 1
  if s.lg.wrapState = 0 ∧ held ∧ !s.ce.namespaces.isEmpty then s.devKeyStays 3
  else
    match Config.keyUnwrap (if s.lg.wrapState = 1 then own else zero) wrapped with
    | none => s.devKeyStays 2
    | some k =>
      if s.lg.wrapState = 0 ∧ held then
        ((take k s).modLg fun l => { l with wrapState := 1, wrapped := (Config.keyWrap own k).toNat }).rewrite
      else take k s

/-- The member size of some wings: the smallest member namespace, rounded down to 64 blocks (R140). -/
def State.sizeWings (ws : List Nat) (s : State) : State :=
  let sizes := (List.range 24).filterMap fun b => if s.bayInUse b then some (s.drive b).memberSize else none
  match sizes with
  | [] => s
  | x :: r => ws.foldl (fun t w => t.put Obj.pe_member_size w (minN x r / 64 * 64)) s

/-- The member size of a blank shelf's wings (R140). -/
def State.firstSizes (s : State) : State := if s.lg.descBlank then s.sizeWings s.shelfWings else s

/-- The first descriptor of a blank shelf is written once a wing is held: K_dev is drawn and wrapped (R20, R407).  So is the first one of a
wing that the descriptors of the shelf do not record yet, beside the other wing's (R140, R197; log entry 134). -/
def State.firstDesc (s : State) : State :=
  let new := s.heldWings.filter fun w => s.get Obj.pe_member_size w == 0
  if s.heldWings.isEmpty then s
  else if !s.lg.descBlank then (if new.isEmpty then s else (s.sizeWings new).descRequest)
  else if s.cy.devKey.isSome then s
  else
    let k := s.freeVal 256
    let s1 := ((s.drawn.modCy fun y => { y with devKey := some k }).put Obj.cy_dev_key_state 0 1).modLg fun l => { l with
      descConfig := s.config, wrapState := b2n s.cy.ownerRoot.isSome,
      wrapped := (Config.keyWrap (kWrap s.kOwn) (BitVec.ofNat 256 k)).toNat }
    s1.descRequest

/-- The descriptors read at step 8 are taken over; a wing without one has no recorded member size (R197).  A sister new to the shelf
learns its UUID, which no section holds: a free value (R305; log entry 134). -/
def State.loadFound (found : List Descriptor) (s : State) : State :=
  let none_ := [1, 2].filter fun w => !found.any fun d => d.wing == w
  let s1 := none_.foldl (fun t w => t.put Obj.pe_member_size w 0) (s.modLg fun l => { l with descGen := 0 })
  let s2 := if (s1.blob Obj.ce_shelf_uuid 0).isEmpty then (s1.putBlob Obj.ce_shelf_uuid 0 (leBytes 16 (s1.freeVal 128))).drawn else s1
  found.foldl (fun t d => t.loadDesc d) s2

/-! ### The steps (R457) -/

/-- Muster goes on to a step and begins its action. -/
def State.musterGo (n : Nat) (s : State) : State :=
  let s1 := s.modMd fun m => { m with step := n, stepStart := s.gh.now, hold := .none }
  if n = 1 then s1.switchOn boardSwitch
  else if n = 2 then s1.railsStart
  else if n = 3 then s1.refclksStart
  else if n = 4 then
    let s2 := (s1.modTt fun t => { t with pattern := .musterPattern }).modClk fun c => { c with stampArmed := true }
    (([0, 1, 2, 3].foldl (fun t p => t.trainPort p) s2).dividePools.modBook fun b => { b with
      dumpSlots := s2.get Obj.gb_dump_slots }).modCe fun c => { c with cacheSize := s2.get Obj.ce_stripe_cache_size }
  else if n = 6 then
    let x := s1.lg.newest
    let pages := flushPages x.2.records
    if s1.si.promoted ∨ !(x.2.state = 1 ∨ x.2.state = 2) then s1
    else (s1.modLg fun l => { l with vaultRead := some (x.1, pages) }).push Bc.vault Opc.vault (some 0x50) none 0 (.vaultPage pages)
  else if n = 7 then s1.bayNext
  else if n = 8 then
    let at_ (w : Nat) : List Nat := (List.range 24).filter fun b => s1.bayInUse b && lookup (s1.drive b).members w 0 != 0
    ((s1.modCy fun y => { y with devKey := none }).readDescs 1 (at_ 1)).readDescs 2 (at_ 2)
  else if n = 10 then
    let spare (v : VaultImage) : VaultImage := { v with state := if v.state = 0 then 0 else 3 }
    let s2 := if s1.si.promoted then s1.modLg fun l => { l with images := l.images.map spare, replayed := none } else s1
    s2.firstSizes.musterLantern
  else if n = 12 then
    if s1.paired ∧ (s1.link 32).up ∧ s1.standsBy = true then s1.resyncAgain else s1
  else s1

/-- A step has ended: its duration is noted, and the next one begins (R457). -/
def State.musterNext (s : State) : State :=
  let us := Nat.min ((s.gh.now - s.md.stepStart) / 1000) (2 ^ 32 - 1)
  (s.put Obj.fw_muster_times s.md.step us).musterGo (s.md.step + 1)

/-- The comparators of the detector are tested (R206): one that did not assert is excluded for the power cycle. -/
def State.testComparators (asserted : List Bool) (s : State) : State :=
  let bad := (List.range 3).filter fun i => !asserted.getD i true
  let s1 := s.modLg fun l => { l with
    comparators := (List.range 3).map fun i => if bad.contains i then 1 else l.comparators.getD i 0, recompute := true }
  bad.foldl (fun t i => t.record (if t.pfVote = 0 then 7 else 6) 0x8023 [(1, i), (1, t.pfVote)]) s1

/-- The vault image of step 6 has been read; `flaws` are the pages of the two images that read otherwise than they were written.  The
newest one, its header and index good, is in use for the replay; a partial one is recorded with its failed segments and unflushed
waybills (R211); the claims in both headers have been seen (R230). -/
def State.vaultRead (flaws : List (Nat × Nat × Block)) (s : State) : State :=
  let set (i : Nat) (v : VaultImage) : VaultImage := { v with flaws := (flaws.filter fun f => f.1 == i).map (·.2) }
  let s1 := s.modLg fun l => { l with images := (l.images.zip (List.range 2)).map fun x => set x.2 x.1, vaultRead := none }
  let headed := s1.lg.images.filter fun v => v.state != 0 && v.headerGood
  let s2 := headed.foldl (fun t v => (t.sawClaim 1 (v.claims.getD 0 0)).sawClaim 2 (v.claims.getD 1 0)) s1
  let newest := s2.lg.newest.2
  let s3 := s2.modLg fun l => { l with replayed := if s.si.promoted then none else s2.replayImage.map (·.1) }
  if newest.state ≠ 1 ∨ s.si.promoted then s3
  else
    let count := if newest.headerGood && newest.indexGood then (unflushed newest 0 newest.records).length else 0
    s3.record 7 0x8022 [(4, newest.badSegments), (4, count)]

/-- Store 3 holds an accepted image with config 3 for this sister (R62): rule 0x07 has judged its sister id. -/
def State.fallbackReady (s : State) : Bool :=
  ((s.store 3).state == .accepted || (s.store 3).state == .active) && imgConfig (s.store 3).image == 3 &&
    imgSister (s.store 3).image == s.si.id

/-- Step 9 (R20, R62): every store that holds an image is checked, in the order 1, 4, 3, 2. -/
def State.checkStores (s : State) : State :=
  let t := [1, 4, 3, 2].foldl (fun u n => if (u.store n).image.isEmpty then u else (u.checkStore n).2.learnConfig n) s
  let use (n : Nat) : Bool := (t.store n).state == .accepted
  if !use 1 ∧ !use 4 then t.modMd fun m => { m with hold := .store }
  else if t.paired ∧ !t.fallbackReady then t.modMd fun m => { m with hold := .store3 }
  else (t.modTt fun x => { x with activatePend := some (if use 1 then 1 else 4) }).musterNext

/-- Every wing is decided at step 10: it is left standby, or its claim stands and every drive asked has answered. -/
def State.wingsDecided (s : State) : Bool :=
  s.shelfWings.all fun w =>
    let x := s.wing w
    x.request.isNone && !x.holdoff && (match x.takeover with | none => true | some t => t.settled)

/-- Records of the vault image for wings another controller holds are discarded (R212). -/
def State.discardVault (s : State) : State :=
  match s.lg.replayed.bind fun i => s.lg.images[i]? with
  | some v => (s.shelfWings.filter fun w => bit v.wings (w - 1) && !s.holdsWing w).foldl (fun t w =>
      t.record 5 0x8032 [(1, w), (4, v.seq), (4, (v.records.filter fun r => r.wing == w).length)]) s
  | none => s

/-- Muster ends (R454, R457): Service with a lantern held, else Standby. -/
def State.musterOver (s : State) : State :=
  let us := Nat.min ((s.gh.now - s.md.stepStart) / 1000) (2 ^ 32 - 1)
  let s1 := (s.put Obj.fw_muster_times 13 us).modMd fun m => { m with step := 0, hold := .none, failedBoots := 0, absentAt7 := [], ranFrom := some s.gh.now }
  ((s1.modSi fun i => { i with promoted := false, promoteClaim := none }).modLg fun l => { l with recompute := true }).setMode
    (if s.heldWings.isEmpty then .standby else .service) 6

/-- The endpoint's link comes up at a rate and width, where a service host is there (R499, R519, R520). -/
def State.epLinkUp (link : Option (Nat × Nat)) (s : State) : State :=
  match link with
  | some (rate, width) =>
    (s.modEp fun e => { e with link := 2, rate := rate, width := width }).record 3 0xD001 [(1, rate), (1, width)]
  | none => s

/-- The end of a step of Muster, where what the step waits for has come about (R457). -/
def State.musterEnd (r : MusterIn) (s : State) : State :=
  match s.md.step with
  | 1 => if s.gh.board.good then (s.testComparators r.comparators).musterNext else s
  | 2 =>
    if s.gh.sequencing.isNone ∧ (s.gh.rails.all fun v => v == 2 || v == 4) then
      (s.modClk fun c => { c with refclk := !c.refLost }).musterNext else s
  | 3 =>
    if !s.clk.refclk then s.modMd fun m => { m with hold := .reference }
    else
      let s1 := (s.modClk fun c => { c with pll := .locked }).secureBoot
      if s1.md.boot = 3 then s1 else s1.musterNext
  | 4 =>
    let s1 := s.selfTest r.failed
    if s1.md.hold = .selfTest then s1
    else
      let s2 := s1.modEp fun e => { e with
        link := 1, subsystem := s1.get Obj.ep_subsystem_id, sris := s1.get Obj.ep_sris == 1 }
      (s2.epLinkUp r.link).musterNext
  | 5 => (s.copySection.modBook fun b => { b with copying := true }).musterNext
  | 6 =>
    if s.lg.vaultRead.any fun x => decide (0 < x.2) then s
    else
      let s1 := if s.md.hold = .policy then s else s.vaultRead r.vault
      if s1.md.held then s1.modMd fun m => { m with hold := .policy } else s1.musterNext
  | 7 =>
    let done := (List.range 24).all fun b => !s.bayPin b || (s.switch b).latched || (s.drive b).state == .inUse ||
      (s.drive b).state == .refused || (s.drive b).state == .contained
    let gone := (List.range 24).filter fun b => !s.bayInUse b
    let note (t : State) : State := t.modMd fun m => { m with absentAt7 := [1, 2].flatMap fun w => gone.map fun b => (w, b) }
    if done ∨ s.md.stepStart + 60000000000 ≤ s.gh.now then (note s).musterNext else s
  | 8 =>
    if s.lg.descWriting.isSome ∨ s.descsPending 1 = true ∨ s.descsPending 2 = true then s
    else
      let blank := s.lg.descReads.isEmpty
      let found := [1, 2].filterMap (newestDesc s.lg.descReads)
      let s1 := if s.cy.devKey.isSome ∨ blank = true then s
        else if found.isEmpty then s.modMd fun m => { m with hold := .config }
        else (s.loadFound found).unwrapDev
      if s1.si.idConflict then s1.modMd fun m => { m with hold := .sisterId }
      else if s1.lg.descWriting.isSome ∨ (blank = false ∧ s1.cy.devKey.isNone) then s1
      else (s1.modLg fun l => { l with descReads := [] }).musterNext
  | 9 => s.checkStores
  | 10 => if s.wingsDecided then s.firstDesc.discardVault.musterNext else s
  | 11 =>
    if s.heldWings.all fun w => ((s.wing w).takeover.any fun t => t.phase == 3) then
      let used := match s.lg.replayed.bind fun i => s.lg.images[i]? with
        | some v => s.heldWings.any fun w => bit v.wings (w - 1)
        | none => false
      let written := s.ce.ready.any fun x => x.job == .vaultConsumed
      if used then (if written then s else s.consume) else (s.modLg fun l => { l with replayed := none }).musterNext
    else s
  | 12 => if s.paired ∧ (s.link 32).up ∧ !s.si.answered then s else s.musterNext
  | 13 => if s.tt.pattern ≠ .image ∨ s.si.idConflict then s
    else if s.paired ∧ !s.fallbackReady then s.modMd fun m => { m with hold := .store3 }
    else s.musterOver
  | _ => s

/-- MUSTER_STEP_END (R457): the step in progress ends; `r` is what its units, drives and comparators present (log entry 10).  While
the PLL is in holdover Muster stands still (R30); a failed self-test and recovery wait for a warm reset (R458, R464). -/
def execMusterStepEnd (step : Nat) (r : MusterIn) (s : State) : Host.Outcome State Fault Refusal :=
  .next (if s.md.mode ≠ .muster ∨ step ≠ s.md.step ∨ s.clk.pll = .holdover ∨ s.clk.musterHalted = true ∨ s.md.hold = .selfTest ∨ s.md.hold = .recovery then s
  else s.musterEnd r)

/-! ### Leaving Vigil, starting and promotion (R250, R258, R454, R455) -/

/-- VIGIL_EXIT (R454, R455): a feed is selected, the board switch may be turned on, and the start policy permits. -/
def execVigilExit (s : State) : Host.Outcome State Fault Refusal :=
  let policy := s.get Obj.fw_start_policy
  let free := s.md.released || s.si.promoted
  .next (if s.md.mode ≠ .vigil ∨ s.gh.powered = false ∨ s.gh.selected = 0 ∨ s.gh.board.offTicks ≠ 0 ∨ s.gh.board.latched ∨
      s.gh.railsOff.isSome ∨ s.gh.bleedGoal = 1 ∨ (policy = 1 ∧ !free) then s
  else
    let s1 := ((s.modLg fun l => { l with comparators := [0, 0, 0] }).modMd fun m => { m with
      held := policy == 2 && !free }).tick Obj.gh_tally_power_cycles
    (s1.setMode .muster 7).musterGo 1)

/-- The controller is released to go on (R455): at once from step 6 where it waits there and Muster does not stand still (R30). -/
def State.letGo (s : State) : State :=
  let s1 := s.modMd fun m => { m with released := true, held := false }
  if s1.md.mode = .muster ∧ s1.md.hold = .policy ∧ s1.clk.pll ≠ .holdover ∧ !s1.clk.musterHalted then s1.musterNext else s1

/-- FW_START (R455, R478): accepted while the controller is held under fw_start_policy 1 or 2. -/
def execFwStart (cls value : Nat) (s : State) : Host.Outcome State Fault Refusal :=
  .next (s.trigger cls Obj.fw_start (value == 1 && s.heldForPromotion) fun t => t.letGo)

/-- The cold spare is promoted (R258): with the claim the warden granted, or without one. -/
def State.promote (claim : Option Nat) (s : State) : State :=
  (s.modSi fun i => { i with promoted := true, promoteClaim := claim }).letGo

/-- SI_PROMOTE (R258): denied on a controller that is not in the single configuration or not a cold spare. -/
def execSiPromote (cls value : Nat) (s : State) : Host.Outcome State Fault Refusal :=
  .next (s.action cls Obj.si_promote Obj.si_promote_result fun t =>
    if value = 1 ∧ t.singleShelf ∧ t.heldForPromotion then (t.promote none).endRun Obj.si_promote_result (outcomeVal Oc.ok)
    else t.endRun Obj.si_promote_result (outcomeVal Oc.denied))

/-- WARDEN_GRANT (R248, R250, R258, R261): it answers a REQUEST, whose wing is taken with the granted claim; or a RENEW, whose lease
it extends; unsolicited, it promotes a cold spare for wing 1. -/
def execWardenGrant (m : FieldMsg) (wing claim lease : Nat) (s0 : State) : Host.Outcome State Fault Refusal :=
  let s := s0.fieldGot none 80
  .next (if !s.fromWarden m (lanternBody 3 wing 0 claim 0 lease) then s.wardenDrop m (lanternBody 3 wing 0 claim 0 lease)
  else
    let x := s.wing wing
    let s1 := (s.wardenHeard wing m.counter lease).modWingSt wing fun y => { y with leaseEnd := s.gh.now + lease * 1000 }
    match x.request with
    | some (reason, _) => (s1.sawClaim wing claim).takeNow wing (if reason = 3 then 3 else 1) claim false
    | none =>
      if s.holdsWing wing then s1
      else if wing = 1 ∧ s.heldForPromotion ∧ s.singleShelf then (s1.sawClaim 1 claim).promote (some claim)
      else s1)

/-! ### Packages and keys from custodians (R459, R464) -/

/-- FW_RECOVERY_IMAGE (R464): in recovery the package is checked; it goes to slot 1 and the controller starts anew, or recovery goes
on. -/
def execFwRecoveryImage (cls : Nat) (data : List Byte) (s : State) : Host.Outcome State Fault Refusal :=
  .next (s.guarded cls Obj.fw_recovery_image 0 (s.md.boot == 3 && decide (data.length ≤ 16777216)) fun t =>
    let c := t.packageCheck data 3
    if c.1 = 0 then (c.2.putSlot 1 data).warmReset 5 else c.2)

/-- FW_OWNER_KEY_WRITE (R459, R484): the owner key is held once. -/
def execFwOwnerKeyWrite (cls : Nat) (value : List Byte) (s : State) : Host.Outcome State Fault Refusal :=
  .next (s.action cls Obj.fw_owner_key Obj.fw_owner_key_result fun t =>
    if !t.md.ownerKey.isEmpty ∨ value.length ≠ 2592 then t.endRun Obj.fw_owner_key_result (outcomeVal Oc.denied)
    else ((t.modMd fun m => { m with ownerKey := value }).record 3 0xE009 [(64, (Config.sha3 value).toNat)]).endRun
      Obj.fw_owner_key_result (outcomeVal Oc.ok))

/-- The running firmware has run fw_confirm_time without a warm reset (R462). -/
def State.confirmed (s : State) : Bool :=
  s.md.ranFrom.any fun t => decide (t + s.get Obj.fw_confirm_time * 1000000000 ≤ s.gh.now)

/-- FW_CONFIRM_EXPIRY (R462): the running firmware has run fw_confirm_time in Service or Standby. -/
def execFwConfirmExpiry (s : State) : Host.Outcome State Fault Refusal :=
  let old := s.get Obj.gh_tally_rollback_fw
  let new := (s.slot s.md.active).security
  .next (if (s.md.mode = .service ∨ s.md.mode = .standby) ∧ s.confirmed = true ∧ old < new then
    (s.put Obj.gh_tally_rollback_fw 0 new).record 3 0xE006 [(4, old), (4, new)]
  else s)

end Sys2Proof.Machine
end

