-- ==== Sys2Proof/Machine/Modes.lean ====
section
/-! DEFINITION. The reference clock, shutdown, warm resets and firmware activation (R30, R320 to R323, R454, R455, R459, R463,
R465 to R467). -/

namespace Sys2Proof.Machine

/-! ### The reference clock (R30) -/

/-- REFCLK_LOSS (R30): a locked PLL holds its last frequency, and step 3 of Muster waits for the reference; in Service and Standby a cause of Drain arises, in Drain it is added. -/
def execRefclkLoss (s : State) : Host.Outcome State Fault Refusal :=
  .next (
      let s1 := s.modClk fun c => { c with refclk := false, refLost := true }
      if s.clk.pll ≠ .locked then s1
      else
        let s2 := s1.modClk fun c => { c with pll := .holdover }
        if s.md.mode = .service ∨ s.md.mode = .standby ∨ s.md.mode = .drain then s2.addCause 2 else s2)

/-- REFCLK_RELOCK (R30): the reference is back for 10 ms; a PLL in holdover locks, and what waited goes on from the next leg
boundary. -/
def execRefclkRelock (s : State) : Host.Outcome State Fault Refusal :=
  let powered := s.md.mode != .vigil && (s.md.mode != .muster || decide (3 ≤ s.md.step))
  let s1 := s.modClk fun c => { c with
    refclk := powered || decide (s.get Obj.gh_rail_used 12 = 0), refLost := false, pll := if c.pll = .holdover then .locked else c.pll }
  .next (if s.clk.pll = .holdover then s1.clearCause 2 else s1)

/-- HOLDOVER_END (R30): the reference is still absent; in Holdup the flush outlasts nothing of it.  The code of the record is none
the spec gives (log entry 47). -/
def execHoldoverEnd (s : State) : Host.Outcome State Fault Refusal :=
  .next (if s.clk.pll ≠ .holdover ∨ s.md.mode = .vigil ∨ s.md.mode = .holdup then s
    else
      let code := 0xE000 + s.freeVal 12
      ((s.drawn.record 7 code []).modClk fun c => { c with pll := .off }).warmReset 2)

/-! ### Warm resets and shutdown (R454, R455, R459, R466) -/

/-- WARM_RESET (R26, R455, R459): an automatic one, for a fault of the roots' copies or one of level 4 or 5. -/
def execWarmReset (roots : Bool) (s : State) : Host.Outcome State Fault Refusal :=
  .next (if s.md.mode = .vigil then s
    else if roots then (s.record 7 0xE004 [(1, 2)]).warmReset 7
    else s.warmReset 8)

/-- FW_WARM_RESET (R454, R478): a write of 1. -/
def execFwWarmReset (cls value : Nat) (s : State) : Host.Outcome State Fault Refusal :=
  .next (s.trigger cls Obj.fw_warm_reset (value == 1) fun t => t.warmReset 1)

/-- A shutdown is asked for (R454, R466): denied in Vigil and Holdup, at once in Muster, else by way of Drain. -/
def State.shutdownAsk (value : Nat) (s : State) : State :=
  if value ≠ 1 ∨ s.md.mode = .vigil ∨ s.md.mode = .holdup then s.endRun Obj.fw_shutdown_result (outcomeVal Oc.denied)
  else if s.md.mode = .muster then (s.endRun Obj.fw_shutdown_result (outcomeVal Oc.ok)).enterVigil true 8
  else (s.modMd fun m => { m with shutdown := true }).addCause 4

/-- FW_SHUTDOWN (R466). -/
def execFwShutdown (cls value : Nat) (s : State) : Host.Outcome State Fault Refusal :=
  .next (s.action cls Obj.fw_shutdown Obj.fw_shutdown_result fun t => t.shutdownAsk value)

/-- SHUTDOWN_TIMEOUT (R466): the slab has not emptied within 10 s. -/
def execShutdownTimeout (s : State) : Host.Outcome State Fault Refusal :=
  .next (if s.md.shutdown then
      ((s.modMd fun m => { m with shutdown := false }).endRun Obj.fw_shutdown_result (outcomeVal Oc.timeout)).clearCause 4
    else s)

/-- The slab is empty: nothing is unapplied, nothing is on its way into it. -/
def State.slabEmpty (s : State) : Bool := s.lg.recs.isEmpty && s.slabPending == 0

/-- A shutdown whose Drain has emptied the slab ends in Vigil (R466 steps 3 and 4). -/
def State.shutdownLeg (s : State) : State :=
  if s.md.shutdown && s.md.mode == .drain && s.slabEmpty && s.adm.queue.isEmpty then
    let s1 := if s.paired then s.heldWings.foldl (fun t w => t.sendLantern 5 w) s else s
    (s1.endRun Obj.fw_shutdown_result (outcomeVal Oc.ok)).enterVigil true 8
  else s

/-! ### Firmware commands (R320 to R323) -/

/-- A Host Identifier is in ce_admin_hosts, 16 bytes an entry (R320, R346). -/
def listsHost (host : Nat) (l : List Byte) : Bool :=
  (List.range (l.length / 16)).any fun i => leNat (slice l (16 * i) 16) == host

/-- Firmware commands are accepted from the sender (R320). -/
def State.firmwareFrom (s : State) (a : Assoc) : Bool :=
  a.index == 2048 || (decide (a.hostid ≠ 0) && listsHost a.hostid (s.blob Obj.ce_admin_hosts 0))

/-- The fragments of a download in order, as one package: empty where bytes are missing between them. -/
def joinFragments : List (Nat × List Byte) → List Byte → List Byte
  | [], acc => acc
  | x :: r, acc => if x.1 = acc.length then joinFragments r (acc ++ x.2) else []

/-- FIRMWARE_IMAGE_DOWNLOAD (R320, R321): a fragment at a byte offset. -/
def execFirmwareImageDownload (src : CmdSrc) (cid offset : Nat) (data : List Byte) (s : State) :
    Host.Outcome State Fault Refusal :=
  .next (s.adminCmd src cid true false fun a t =>
    let other := match t.ce.download with | some d => d != a.index | none => false
    let over_ := t.ce.fragments.any fun f => decide (offset < f.1 + f.2.length) && decide (f.1 < offset + data.length)
    if !t.firmwareFrom a || other then t.respond src 0 cid .operationDenied
    else if data.isEmpty ∨ offset % 4 ≠ 0 ∨ data.length % 4 ≠ 0 ∨ 2097152 < data.length ∨ 16777216 < offset + data.length then
      t.respond src 0 cid .invalidField
    else if over_ then t.respond src 0 cid .overlappingRange
    else (t.modCe fun c => { c with
      download := some a.index, fragments := insertBy (·.1) (offset, data) c.fragments }).respond src 0 cid .success)

/-- An activation begins (R323): hosts are told, and Drain is due. -/
def State.activateFirmware (slot : Nat) (src : CmdSrc) (cid : Nat) (s : State) : State :=
  ((s.raiseAll 2 1 3).modMd fun m => { m with activation := some (slot, src, cid), activationReady := false }).addCause 1

/-- The effect of Firmware Commit on a package that passed (R322, R323, R465). -/
def State.commitAction (src : CmdSrc) (cid action slot : Nat) (stored : Option (List Byte)) (s : State) : State :=
  let s1 := match stored with | some p => s.putSlot slot p | none => s
  if action = 0 then s1.respond src 0 cid .success
  else if action = 3 then s1.activateFirmware slot src cid
  else (s1.modMd fun m => { m with next := slot }).respond src 0 cid .success

/-- FIRMWARE_COMMIT (R320 to R323, R461, R465): slot 0 is the slot that is not active (log entry 58). -/
def execFirmwareCommit (src : CmdSrc) (cid action slot : Nat) (s : State) : Host.Outcome State Fault Refusal :=
  .next (s.adminCmd src cid true false fun a t =>
    let mine := decide (t.ce.download = some a.index)
    let k := if slot = 0 then 3 - t.md.active else slot
    if !t.firmwareFrom a then t.respond src 0 cid .operationDenied
    else
      let p := joinFragments t.ce.fragments []
      let t1 := if mine then t.modCe fun c => { c with download := none, fragments := [] } else t
      if 3 < action ∨ 2 < slot then t1.respond src 0 cid .invalidField
      else if action = 3 ∧ (t.md.causes.contains 4 = true ∨ t.md.activation.isSome) then t1.respond src 0 cid .operationDenied
      else
        let new := action < 2 || (action == 3 && mine)
        let got := if new then (if mine then p else []) else (t.slot k).package
        let c := t1.packageCheck got 1
        if c.1 ≠ 0 then c.2.respond src 0 cid .invalidFirmwareImage
        else c.2.commitAction src cid action k (if new then some got else none))

/-- The stewards that are not closed for a failed self-test. -/
def State.liveStewards (s : State) : List Nat := ((List.range 8).map (0x58 + ·)).filter fun u => !s.md.closedStewards.contains u

/-- In Drain under an activation, once the slab is empty, the stewards restart together: their cells close (R65, R467). -/
def State.restartStewards (s : State) : State :=
  if s.md.mode = .drain ∧ s.md.activation.isSome ∧ !s.md.activationReady ∧ !s.md.restarting ∧ s.slabEmpty then
    s.liveStewards.foldl (fun t u => t.closeUnit u) (s.modMd fun m => { m with restarting := true })
  else s

/-- FIRMWARE_ACTIVATION_READY (R65, R465, R467): the new firmware runs on every steward; their cells reopen and the cause of Drain
clears. -/
def execFirmwareActivationReady (s : State) : Host.Outcome State Fault Refusal :=
  .next (match s.md.activation with
    | some (slot, _, _) =>
      if s.md.activationReady || s.md.mode != .drain || !s.md.restarting then s
      else
        let s1 := s.liveStewards.foldl (fun t u => t.reopenUnit u) (s.modMd fun m => { m with
          active := slot, next := if m.next = slot then 0 else m.next, failedBoots := 0, activationReady := true, ranFrom := some s.gh.now,
          restarting := false })
        s1.clearCause 1
    | none => s)

/-- The commit of an activation completes once the controller has left Drain (R323). -/
def State.activationOver (s : State) : State :=
  match s.md.activation with
  | some (_, src, cid) =>
    if s.md.activationReady then
      (s.modMd fun m => { m with activation := none, activationReady := false }).respond src 0 cid .success
    else s
  | none => s

/-- MTFA_TIMEOUT (R463, R467): the warm reset counts against the new slot. -/
def execMtfaTimeout (s : State) : Host.Outcome State Fault Refusal :=
  .next (match s.md.activation with
    | some (slot, _, _) =>
      if s.md.activationReady || s.md.mode != .drain then s
      else (s.modMd fun m => { m with active := slot, failedBoots := 0 }).warmReset 4
    | none => s)

end Sys2Proof.Machine
end

