-- ==== Sys2Proof/Machine/Endpoint.lean ====
section
/-! DEFINITION. The service endpoint: its queues, reads, errors, interrupts and resets (R499 to R520). -/

namespace Sys2Proof.Machine

/-! ### Reads and queues (R503 to R506, R513, R514) -/

/-- Requests are answered and issued: the function is in D0, its memory space is enabled and no reset runs (R503, R517). -/
def State.epOpen (s : State) : Bool := s.ep.memSpace && !s.ep.d3 && !s.ep.resetting && s.ep.link == 2

/-- Reads that wait for a tag are issued while tags are free and requests may be issued (R513, R515). -/
def State.epServe : Nat → State → State
  | 0, s => s
  | n + 1, s =>
    match s.ep.tagWait with
    | [] => s
    | t :: rest =>
      if s.ep.tags.length < 128 && s.ep.busMaster && !s.ep.d3 && !s.ep.resetting then
        match (List.range 128).find? fun k => !(s.ep.tags.any fun x => x.tag == k) with
        | some k => State.epServe n ((s.modEp fun e => { e with
            tags := e.tags ++ [{ t with tag := k }], tagWait := rest }).emit (.epRead k t.use t.address))
        | none => s
      else s

/-- Every read that may now be issued. -/
def State.epReads (s : State) : State := s.epServe s.ep.tagWait.length

/-- A tag retires (R513). -/
def State.epRetire (tag : Nat) (s : State) : State :=
  s.modEp fun e => { e with tags := e.tags.filter fun t => t.tag != tag }

/-- What is left of the reads of a command: those outstanding are discarded as they arrive, those waiting are not issued
(R514). -/
def State.epDrop (p : EpTag → Bool) (s : State) : State :=
  s.modEp fun e => { e with
    tags := e.tags.map fun t => if p t then { t with use := 3 } else t, tagWait := e.tagWait.filter fun t => !p t }

/-- A command of the endpoint fails for its data (R514): Data Transfer Error, nothing of it committed. -/
def State.epFail (a : Nat) (s : State) : State :=
  ((s.epDrop fun t => t.use != 1 && t.arrival == a).failCmd a .dataTransferError).settle

/-- A submission queue's head passes an entry (R505). -/
def State.epTake (sq : Nat) (s : State) : State :=
  s.modEp fun e => { e with
    sqs := modFirst (fun q => q.id == sq) (fun q => { q with head := (q.head + 1) % Nat.max 1 q.depth }) e.sqs }

/-- A queue of a list, by its number. -/
def epQueue? (l : List EpQueue) (id : Nat) : Option EpQueue := l.find? fun q => q.id == id

/-- Held completion entries are written in the order they were produced, each where its queue has room (R516). -/
def State.epHeld : List (Nat × Reply) → State → State
  | [], s => s
  | (cq, r) :: l, s =>
    if s.ep.busMaster && !s.ep.d3 && s.ep.cqRoom cq then State.epHeld l (s.cqWrite cq r)
    else State.epHeld l (s.modEp fun e => { e with heldCq := e.heldCq ++ [(cq, r)] })

/-- Try every held entry. -/
def State.epRelease (s : State) : State := (s.modEp fun e => { e with heldCq := [] }).epHeld s.ep.heldCq

/-- New entries of a submission queue are fetched: 64 bytes each (R505). -/
def State.epFetch (q : EpQueue) : Nat → Nat → State → State
  | 0, _, s => s
  | n + 1, i, s => State.epFetch q n (i + 1) (s.epAsk { use := 1, sq := q.id } (q.base + 64 * ((q.tail + i) % Nat.max 1 q.depth)))

/-- EP_DOORBELL (R504, R505): a tail asks for the new entries, a head frees completion entries.  A doorbell of a queue that does not
exist, or past its depth, is ignored. -/
def execEpDoorbell (qid : Nat) (cq : Bool) (value : Nat) (s : State) : Host.Outcome State Fault Refusal :=
  .next (if !s.epOpen || !s.ep.ready then s
    else if cq then
      match epQueue? s.ep.cqs qid with
      | some q =>
        if q.depth ≤ value then s
        else
          let freed := Nat.min q.posted ((value + q.depth - q.head) % Nat.max 1 q.depth)
          let set (x : EpQueue) : EpQueue := { x with head := value, posted := x.posted - freed }
          ((s.modEp fun e => { e with cqs := modFirst (fun x => x.id == qid) set e.cqs }).epRelease).intaUpdate
      | none => s
    else
      match epQueue? s.ep.sqs qid with
      | some q =>
        if q.depth ≤ value then s
        else
          let s1 := s.epFetch q ((value + q.depth - q.tail) % Nat.max 1 q.depth) 0
          s1.modEp fun e => { e with sqs := modFirst (fun x => x.id == qid) (fun x => { x with tail := value }) e.sqs }
      | none => s)

/-- An entry of a submission queue has been fetched (R505, R506): an I/O command is accepted; an admin command comes as a row of its
own. -/
def State.epEntry (sq : Nat) (cap : Option Capsule) (s : State) : State :=
  match cap with
  | some c => (s.epTake sq).takeCap { c with src := .endpoint, sqid := sq }
  | none => s.epTake sq

/-- The bytes of a request at their place in the block. -/
def pieceAt (place len : Nat) (data : Block) : Block := (data &&& BitVec.ofNat 32768 (2 ^ (8 * len) - 1)) <<< (8 * place)

/-- Data of a block of a Write is there (R506, R513): with the last of its requests the block waits for its ENDPOINT cell. -/
def State.epData (t : EpTag) (data : Block) (s : State) : State :=
  match (s.cmd? t.arrival).bind fun c => (c.blk? t.lba).map fun b => (c, b) with
  | some (c, b) =>
    let all := b.data ||| pieceAt t.place t.len data
    let more : Bool := (s.ep.tags ++ s.ep.tagWait).any fun x => x.use == 0 && x.arrival == t.arrival && x.lba == t.lba
    if b.stage ≠ .pulling then s
    else if more then s.modBlk t.arrival t.lba fun q => { q with data := all }
    else (s.modBlk t.arrival t.lba fun q => { q with stage := .staged, data := 0 }).push c.classOf Opc.endpoint (some 6) none
      t.arrival (.endpointIn t.arrival t.lba all)
  | none => s

/-- Part of a PRP list is there (R505): with the last of it the pages it names are asked for. -/
def State.epListIn (a : Nat) (s : State) : State := if s.epListOut a then s else s.pump

/-- EP_READ_COMPLETION (R513 to R515, R517): the last completion of a request.  A fetch of an entry that fails executes nothing
(log entry 59). -/
def execEpReadCompletion (tag : Nat) (good : Bool) (data : Block) (cap : Option Capsule) (s : State) :
    Host.Outcome State Fault Refusal :=
  .next (match s.ep.tags.find? fun t => t.tag == tag with
    | none => s
    | some t =>
      let s1 := s.epRetire tag
      let s2 :=
        match t.use with
        | 0 => if good then s1.epData t data else s1.epFail t.arrival
        | 1 => s1.epEntry t.sq (if good then cap else none)
        | 2 => if good then s1.epListIn t.arrival else s1.epFail t.arrival
        | _ => s1.tick Obj.ep_bme_discards
      s2.epReads)

/-! ### Errors (R511, R512) -/

/-- Uncorrectable errors the endpoint detects, by their AER bits: Data Link Protocol, Surprise Down, Poisoned TLP, Flow Control,
Completion Timeout, Unexpected Completion, Malformed TLP, Unsupported Request, Uncorrectable Internal (R511). -/
def epUncorrectable : List Nat := [4, 5, 12, 13, 14, 16, 18, 20, 22]

/-- Correctable errors: Receiver, Bad TLP, Bad DLLP, REPLAY_NUM Rollover, Replay Timer Timeout, Advisory Non-Fatal, Internal. -/
def epCorrectable : List Nat := [0, 6, 7, 8, 12, 13, 14]

/-- The class of an error: 1 correctable, 2 non-fatal, 3 fatal by Uncorrectable Error Severity (R511, R520). -/
def EndpointSt.errClass (e : EndpointSt) (unc : Bool) (b : Nat) : Nat :=
  if !unc then 1 else if bit e.aerSeverity b then 3 else 2

/-- Count an error for the record of its second: class, count, first error (R512). -/
def errCount (cls b : Nat) (l : List (Nat × Nat × Nat)) : List (Nat × Nat × Nat) :=
  if l.any fun x => x.1 == cls then modFirst (fun x => x.1 == cls) (fun x => (x.1, x.2.1 + 1, x.2.2)) l else l ++ [(cls, 1, b)]

/-- Log and signal an unmasked error (R512). -/
def EndpointSt.logErr (unc : Bool) (b header : Nat) (e : EndpointSt) : EndpointSt :=
  if unc then
    { e with
      aerStatus := setBit e.aerStatus b true,
      headerLog := if e.aerStatus = 0 then header else e.headerLog,
      firstError := if e.aerStatus = 0 then b else e.firstError }
  else { e with corStatus := setBit e.corStatus b true }

/-- An error is counted; outside a reset it is recorded, and unless masked it is logged and signalled (R512, R517). -/
def State.epError (unc : Bool) (b header : Nat) (s : State) : State :=
  let cls := s.ep.errClass unc b
  let s1 := s.tick Obj.ep_errors cls
  if s.ep.resetting then s1
  else
    let s2 := s1.modEp fun e => { e with errRecs := errCount cls b e.errRecs }
    if bit (if unc then s.ep.aerMask else s.ep.corMask) b then s2
    else
      let s3 := s2.modEp (EndpointSt.logErr unc b header)
      if bit s.ep.errEnables (cls - 1) then s3.emit (.errMessage (cls - 1)) else s3

/-- Record 0xD005 of the second that ended: class, count, first error, of severity 3, 4 or 6 by class (R512). -/
def State.epSecond (s : State) : State :=
  let sev (cls : Nat) : Nat := if cls = 1 then 3 else if cls = 2 then 4 else 6
  s.ep.errRecs.foldl (fun t x => t.record (sev x.1) 0xD005 [(1, x.1), (4, x.2.1), (1, x.2.2)])
    (s.modEp fun e => { e with errRecs := [] })

/-- EP_COMPLETION_TIMEOUT (R513, R514, R517). -/
def execEpCompletionTimeout (tag : Nat) (s : State) : Host.Outcome State Fault Refusal :=
  .next (match s.ep.tags.find? fun t => t.tag == tag with
    | none => s
    | some t =>
      let s1 := (((s.epRetire tag).tick Obj.ep_cpl_timeouts).modEp fun e => { e with
        resetTimeouts := if e.resetting then e.resetTimeouts + 1 else e.resetTimeouts }).epError true 14 0
      let s2 := if t.use = 0 ∨ t.use = 2 then s1.epFail t.arrival else if t.use = 1 then s1.epTake t.sq else s1
      s2.epReads)

/-! ### Partial reset of the endpoint (R469, R517, R519) -/

/-- What of the endpoint's controller is outside its range-table entries: replies, an open download, waiting capsules. -/
def State.epForget (s : State) : State :=
  (s.dropJobs fun j => match j with | .reply r => r.src == .endpoint | _ => false).modCe fun c => { c with
    rangeWait := c.rangeWait.filter fun x => x.src != .endpoint,
    aborts := c.aborts.filter fun x => x.1 != 2048,
    download := if c.download = some 2048 then none else c.download,
    fragments := if c.download = some 2048 then [] else c.fragments,
    endpointAssoc := { index := 2048 } }

/-- Every pending service command ends as an association's do (R309, R517): the state, and how many were dropped. -/
def State.epDropCmds (s : State) : State × Nat :=
  let mine := s.ce.cmds.filter fun c => c.cap.src == .endpoint
  let gone := mine.filter fun c => c.status.isSome || !c.sealed
  ((mine.foldl (fun t c => t.dropCmd c.arrival) s).epForget.settle, gone.length)

/-- The endpoint enters its partial reset (R468, R469, R517).  Causes: 0 a write to fw_unit_reset, 1 a function-level reset, 2 a link
loss, 3 a Surprise Down, 4 EP_PERST_N, 5 an Uncorrectable Internal Error (log entry 20). -/
def State.epReset (cause : Nat) (s : State) : State :=
  let lost : Bool := cause == 2 || cause == 3 || cause == 4 || s.ep.link == 0
  if s.md.mode = .vigil ∨ (s.ep.link = 0 ∧ cause ≠ 0) then s
  else if s.ep.resetting then s.modEp fun e => { e with linkLost := e.linkLost || lost }
  else
    let tags := s.ep.tags.length
    let d := s.epDropCmds
    let n := d.2
    let s1 := (d.1.epDrop fun _ => true).modEp fun e => { e with
      resetting := true, resetTimeouts := 0, resetAt := s.gh.now, heldCq := [], d3Cq := [], d3Int := [],
      pba := List.replicate 64 false, link := 3, linkLost := lost, inta := false }
    let s2 := (s1.modDict fun x => { x with bar2Cursors := [], bar2Staging := none }).closeUnit 6
    let s3 := s2.modMd fun m => { m with
      resets := m.resets ++ [{ unit := 6, trigger := if cause = 0 then 0 else 1, start := s.gh.now, returned := n }] }
    let s4 := ((s3.tick Obj.fw_unit_resets).tick Obj.ep_resets).count Obj.ep_commands_dropped 0 n
    let s5 := s4.record 4 0xE007 [(1, 6), (1, if cause = 0 then 0 else 1), (2, n), (4, 0)]
    if lost && cause != 0 then s5.record 4 0xD002 [(1, cause), (1, tags), (2, n)] else s5

/-- FUNCTION_LEVEL_RESET (R517, R519): a function-level reset, a link loss, a Surprise Down or EP_PERST_N. -/
def execFunctionLevelReset (cause : Nat) (s : State) : Host.Outcome State Fault Refusal :=
  .next (if cause = 0 ∨ 4 < cause then s else s.epReset cause)

/-- EP_ERROR (R511, R512): an error the endpoint detects; a fatal one of the link resets the endpoint, and so does an Uncorrectable
Internal Error.  The registers are as the service host last wrote them (log entry 57). -/
def execEpError (uncorrectable : Bool) (errBit header : Nat) (regs : EpErrRegs) (s : State) : Host.Outcome State Fault Refusal :=
  .next (if s.ep.link = 0 || !(if uncorrectable then epUncorrectable else epCorrectable).contains errBit then s
    else
      let s1 := (s.modEp fun e => { e with
        aerMask := regs.mask, aerSeverity := regs.severity, corMask := regs.corMask, errEnables := regs.enables }).epError
          uncorrectable errBit header
      if !uncorrectable then s1
      else if errBit = 5 then s1.epReset 3
      else if errBit = 4 ∨ errBit = 13 ∨ errBit = 18 then s1.epReset 2
      else if errBit = 22 then s1.epReset 5
      else s1)

/-- EP_RESET_DONE (R517, R520): every tag has retired; configuration space, registers and queues take their defaults, and the
settings that wait for a reset of the endpoint take effect.  A lost link comes up again where a service host is present. -/
def execEpResetDone (link : Option (Nat × Nat)) (s : State) : Host.Outcome State Fault Refusal :=
  .next (if !s.ep.resetting || !s.ep.tags.isEmpty then s
    else
      let ms := (s.gh.now - s.ep.resetAt) / 1000000
      let was := s.ep
      let s1 := (s.modEp fun _ =>
        { link := if was.linkLost then 1 else 2, rate := if was.linkLost then 0 else was.rate,
          width := if was.linkLost then 0 else was.width, errRecs := was.errRecs,
          subsystem := s.get Obj.ep_subsystem_id, sris := s.get Obj.ep_sris == 1 }).record 3 0xD003
            [(1, was.resetTimeouts), (4, ms)]
      let s2 := (s1.reopenUnit 6).modMd fun m => { m with
        resets := modFirst (fun r => r.unit == 6) (fun r => { r with phase := .ready }) m.resets }
      if was.linkLost then s2.epLinkUp link else s2)

/-! ### Interrupts (R509, R510) -/

/-- Pending messages that nothing blocks any more are sent once (R509). -/
def State.msixPending (s : State) : State :=
  if !s.ep.msix || s.ep.fnMask || !s.ep.busMaster || s.ep.d3 then s
  else
    let due := (List.range 64).filter fun v => s.ep.pba.getD v false && !s.ep.vecMask.getD v true
    due.foldl (fun t v => (t.modEp fun e => { e with pba := e.pba.set v false }).emit (.msix v)) s

/-- Every condition still pending is signalled again under MSI-X; in D3hot it waits for D0 (R503, R509). -/
def State.msixAgain (s : State) : State :=
  let vs := (s.ep.cqs.filter fun q => q.ints && decide (0 < q.posted)).map (·.vector)
  vs.foldl (fun t v => if s.ep.d3 then t.modEp fun e => { e with d3Int := addNew e.d3Int v } else t.msixRaise v) s

/-- INTERRUPT_MODE_CHANGE (R509): MSI-X Enable and Function Mask, Interrupt Disable, and the mask of INTMS and INTMC as they stand
after the write (log entry 57). -/
def execInterruptModeChange (msix fnMask intxDisable : Bool) (intms : Nat) (s : State) : Host.Outcome State Fault Refusal :=
  .next (if s.ep.resetting ∨ s.ep.link ≠ 2 then s
    else
      let s1 := (s.modEp fun e => { e with
        msix := msix, fnMask := fnMask, intxDisable := intxDisable, intms := intms }).intaUpdate
      if msix && !s.ep.msix then s1.msixAgain.msixPending else s1.msixPending)

/-- INTERRUPT_UNMASK (R509): the Function Mask, or the Mask bit of a vector, clears. -/
def execInterruptUnmask (vector : Option Nat) (s : State) : Host.Outcome State Fault Refusal :=
  .next (if s.ep.resetting ∨ s.ep.link ≠ 2 then s
    else match vector with
      | none => (s.modEp fun e => { e with fnMask := false }).msixPending
      | some v => (s.modEp fun e => { e with vecMask := e.vecMask.set v false }).msixPending)

/-! ### Bus mastering and power (R503, R515, R516) -/

/-- A command of the endpoint still needs the host: data not yet pulled, or not yet sent (R515). -/
def Cmd.needsHost (c : Cmd) : Bool :=
  c.cap.src == .endpoint && c.status.isNone && c.blocks.any fun b =>
    if c.cap.op = .read then b.stage != .done else b.stage == .queued || b.stage == .blocked || b.stage == .pulling

/-- BUS_MASTER_CLEAR (R515): with reads outstanding, their completions are discarded and the commands concerned fail; fetches of
queue entries are made anew once the bit is set. -/
def execBusMasterClear (mem : Bool) (s : State) : Host.Outcome State Fault Refusal :=
  .next (if s.ep.resetting ∨ s.ep.link ≠ 2 then s
    else
      let s1 := s.modEp fun e => { e with busMaster := false, memSpace := mem }
      let reads := s.ep.tags.filter fun t => t.use != 3
      if !s.ep.busMaster || reads.isEmpty then s1
      else
        let hit := (s.ce.cmds.filter fun c => c.cap.src == .endpoint && c.status.isNone &&
          (c.needsHost || (s.ep.tags ++ s.ep.tagWait).any fun t => t.use != 1 && t.use != 3 && t.arrival == c.arrival)).map (·.arrival)
        let again := (reads.filter fun t => t.use == 1).map fun t => { t with tag := 0 }
        let s2 := s1.modEp fun e => { e with
          tags := e.tags.map fun t => { t with use := 3 }, tagWait := again ++ e.tagWait }
        let s3 := hit.foldl (fun t a => t.epFail a) s2
        s3.record 4 0xD004 [(2, reads.length), (2, hit.length)])

/-- BUS_MASTER_SET (R502, R509, R516): held entries are written, their interrupts follow, and waiting reads are issued; `mrrs` is Max Read
Request Size as the host last wrote it (log entry 57). -/
def execBusMasterSet (mem : Bool) (mrrs : Nat) (s : State) : Host.Outcome State Fault Refusal :=
  .next (if s.ep.resetting ∨ s.ep.link ≠ 2 then s
    else ((s.modEp fun e => { e with busMaster := true, memSpace := mem, mrrs := mrrs }).epRelease.msixPending).epReads)

/-- D3HOT_ENTRY (R503). -/
def execD3hotEntry (s : State) : Host.Outcome State Fault Refusal :=
  .next (if s.ep.resetting ∨ s.ep.link ≠ 2 then s else (s.modEp fun e => { e with d3 := true }).intaUpdate)

/-- D0_ENTRY (R503): completions and interrupts that waited follow. -/
def execD0Entry (s : State) : Host.Outcome State Fault Refusal :=
  .next (if !s.ep.d3 then s
    else
      let s1 := s.modEp fun e => { e with d3 := false, d3Cq := [], d3Int := [] }
      let s2 := s.ep.d3Cq.foldl (fun t x => t.epComplete x.2) s1
      let s3 := s.ep.d3Int.foldl (fun t v => t.msixRaise v) s2
      s3.epRelease.msixPending.intaUpdate.epReads)

/-! ### The controller's registers and queues (R500, R504, R505, R508) -/

/-- Controller Capabilities (R504): MQES 1,023, CQR, TO 20 and the NVM command set; everything else 0. -/
def epCap : Nat := 1023 + 2 ^ 16 + 20 * 2 ^ 24 + 2 ^ 37

/-- A register of BAR0 by the offset NVM Express gives it: its value and its bytes.  An undefined offset holds none (R504). -/
def State.epRegister (s : State) (off : Nat) : Option (Nat × Nat) :=
  match off with
  | 0x00 => some (epCap, 8)
  | 0x08 => some (0x00020000, 4)
  | 0x0C => some (s.ep.intms, 4)
  | 0x10 => some (s.ep.intms, 4)
  | 0x14 => some (s.ep.cc, 4)
  | 0x1C => some (b2n s.ep.ready + 4 * s.ep.shst, 4)
  | 0x24 => some (s.ep.aqa, 4)
  | 0x28 => some (s.ep.asq, 8)
  | 0x30 => some (s.ep.acq, 8)
  | _ => none

/-- The capabilities of the function, at their offsets: capability ids of the first list, extended ones from 0x100 on (R501; the ids are
those of PCI Express, log entry 48). -/
def epCapabilities : List (Nat × Nat) :=
  [(0x40, 0x01), (0x50, 0x11), (0x60, 0x10), (0x100, 0x0001), (0x148, 0x0003), (0x158, 0x0019), (0x178, 0x0026), (0x1A8, 0x002A),
   (0x1E0, 0x0027)]

/-- The Device Serial Number: the low 64 bits of the SHA3-512 of fw_serial (R501). -/
def epSerialNumber : Nat := (Config.sha3 Config.serial).toNat % 2 ^ 64

/-- The link is lost: a host's reads of the windows and of configuration space return all ones (R519). -/
def State.epGone (s : State) : Bool := s.ep.linkLost || s.ep.link == 0 || s.ep.link == 1

/-- What the windows of the endpoint serve: memory space enabled and D0 (R503); otherwise an access is an Unsupported Request. -/
def State.epWindow (s : State) : Bool := s.ep.memSpace && !s.ep.d3

/-- A 4-byte word of BAR0 as a host reads it: undefined offsets read zero, and without a link all ones (R504, R519). -/
def State.bar0Word (s : State) (off : Nat) : Option Nat :=
  if s.epGone then some (2 ^ 32 - 1)
  else if !s.epWindow then none
  else
    match s.epRegister off, s.epRegister (off - 4) with
    | some r, _ => some (r.1 % 2 ^ 32)
    | none, some (v, 8) => some (if 4 ≤ off then v / 2 ^ 32 else 0)
    | none, _ => some 0

/-- The expansion ROM driver: component kind 2 of the active slot's package (R460, R508). -/
def State.romDriver (s : State) : List Byte :=
  let p := (s.slot s.md.active).package
  match (pkgComponents p).find? fun c => c.1 == 2 with
  | some c => slice p c.2.1 c.2.2
  | none => []

/-- A byte of the expansion ROM window (R508): the driver from offset 0 while ep_rom_enable is 1, zero otherwise and past the driver's
end. -/
def State.romByte (s : State) (off : Nat) : Option Byte :=
  if !s.epWindow then none
  else if s.get Obj.ep_rom_enable = 0 then some 0
  else some (s.romDriver.getD off 0)

/-- The configuration header as built (R500): offset, bytes and value of each field it fixes. -/
def State.epHeader (s : State) : List (Nat × Nat × Nat) :=
  [(0x00, 2, 0x1F8A), (0x02, 2, 0x2460), (0x08, 1, 0xB0), (0x09, 3, 0x010802), (0x0E, 1, 0x00), (0x2C, 2, 0x1F8A),
   (0x2E, 2, s.ep.subsystem), (0x34, 1, 0x40), (0x3D, 1, 0x01)]

/-- The NVMe controller of the endpoint is disabled: its commands, queues and reads go (R504). -/
def State.epDisable (s : State) : State :=
  (((s.epDropCmds).1.epDrop fun _ => true).modEp fun e => { e with
    ready := false, shst := 0, sqs := [], cqs := [], heldCq := [], d3Cq := [], d3Int := [] }).intaUpdate

/-- A shutdown by CC.SHN is complete once every command of the endpoint has completed (R311, R504). -/
def State.epShutdown (s : State) : State :=
  if s.ep.shst = 1 && !(s.ce.cmds.any fun c => c.cap.src == .endpoint) then s.modEp fun e => { e with shst := 2 } else s

/-- EP_CC_WRITE (R504): Controller Configuration, with the admin queues' sizes and bases as AQA, ASQ and ACQ hold them. -/
def execEpCcWrite (value sqDepth cqDepth sqBase cqBase : Nat) (s : State) : Host.Outcome State Fault Refusal :=
  .next (if !s.epOpen then s
    else
      let was := bit s.ep.cc 0
      let s1 := s.modEp fun e => { e with
        cc := value % 2 ^ 32, aqa := (sqDepth - 1) + 2 ^ 16 * (cqDepth - 1), asq := sqBase, acq := cqBase }
      let s2 :=
        if bit value 0 && !was then s1.modEp fun e => { e with
          ready := true, shst := 0,
          sqs := [{ id := 0, depth := sqDepth, base := sqBase }], cqs := [{ id := 0, depth := cqDepth, ints := true, base := cqBase }] }
        else if !bit value 0 && was then s1.epDisable
        else s1
      if bit value 0 && bits value 15 14 != 0 && s2.ep.shst == 0 then (s2.modEp fun e => { e with shst := 1 }).epShutdown else s2)

/-- An admin command of the endpoint alone (R505): an association's draws Invalid Command Opcode. -/
def State.epAdmin (src : CmdSrc) (cid : Nat) (run : State → Status × State) (s : State) : State :=
  s.adminCmd src cid true false fun _ t =>
    if src ≠ .endpoint then t.respond src 0 cid .invalidOpcode
    else
      let r := run t
      r.2.respond src 0 cid r.1

/-- CREATE_IO_COMPLETION_QUEUE (R504, R505, R510): `size` is zero-based, as QSIZE. -/
def execCreateIoCompletionQueue (src : CmdSrc) (cid qid size vector : Nat) (pc ien : Bool) (base : Nat) (s : State) :
    Host.Outcome State Fault Refusal :=
  .next (s.epAdmin src cid (fun t =>
    if qid = 0 ∨ 63 < qid ∨ (epQueue? t.ep.cqs qid).isSome then (.invalidQueueId, t)
    else if size = 0 ∨ 1023 < size then (.invalidQueueSize, t)
    else if 62 < vector then (.invalidVector, t)
    else if !pc then (.invalidField, t)
    else (.success, t.modEp fun e => { e with
      cqs := e.cqs ++ [{ id := qid, depth := size + 1, vector := vector, ints := ien, base := base }] })))

/-- CREATE_IO_SUBMISSION_QUEUE (R504, R505). -/
def execCreateIoSubmissionQueue (src : CmdSrc) (cid qid size cqid : Nat) (pc : Bool) (base : Nat) (s : State) :
    Host.Outcome State Fault Refusal :=
  .next (s.epAdmin src cid (fun t =>
    if cqid = 0 ∨ (epQueue? t.ep.cqs cqid).isNone then (.invalidCq, t)
    else if qid = 0 ∨ 63 < qid ∨ (epQueue? t.ep.sqs qid).isSome then (.invalidQueueId, t)
    else if size = 0 ∨ 1023 < size then (.invalidQueueSize, t)
    else if !pc then (.invalidField, t)
    else (.success, t.modEp fun e => { e with
      sqs := e.sqs ++ [{ id := qid, depth := size + 1, cq := cqid, base := base }] })))

/-- DELETE_IO_SUBMISSION_QUEUE (R505): its commands are dropped as at the end of an association, and its fetches with them. -/
def execDeleteIoSubmissionQueue (src : CmdSrc) (cid qid : Nat) (s : State) : Host.Outcome State Fault Refusal :=
  .next (s.epAdmin src cid (fun t =>
    if qid = 0 ∨ (epQueue? t.ep.sqs qid).isNone then (.invalidQueueId, t)
    else
      let mine := (t.ce.cmds.filter fun c => c.cap.src == .endpoint && c.cap.sqid == qid).map (·.arrival)
      let t1 := mine.foldl (fun x a => x.dropCmd a) t
      let t2 := t1.epDrop fun g => (g.use == 1 && g.sq == qid) || (g.use != 1 && mine.contains g.arrival)
      (.success, (t2.modEp fun e => { e with sqs := e.sqs.filter fun q => q.id != qid }).settle)))

/-- DELETE_IO_COMPLETION_QUEUE (R505): refused while a submission queue uses it. -/
def execDeleteIoCompletionQueue (src : CmdSrc) (cid qid : Nat) (s : State) : Host.Outcome State Fault Refusal :=
  .next (s.epAdmin src cid (fun t =>
    if qid = 0 ∨ (epQueue? t.ep.cqs qid).isNone then (.invalidQueueId, t)
    else if t.ep.sqs.any fun q => q.cq == qid then (.invalidQueueDeletion, t)
    else (.success, t.modEp fun e => { e with
      cqs := e.cqs.filter fun q => q.id != qid, heldCq := e.heldCq.filter fun x => x.1 != qid })))

end Sys2Proof.Machine
end

