-- ==== Sys2Proof/Machine/Partial.lean ====
section
/-! DEFINITION. Partial resets of one unit (R419, R420, R468, R469). -/

namespace Sys2Proof.Machine

/-- Units a partial reset reaches: cipher cores, network ports, root ports, the endpoint, stewards (R469). -/
def resettable (u : Nat) : Bool :=
  (decide (0x20 ≤ u) && decide (u ≤ 0x2F)) || (decide (1 ≤ u) && decide (u ≤ 4)) || (decide (8 ≤ u) && decide (u ≤ 0x1F)) ||
  u == 6 || (decide (0x58 ≤ u) && decide (u ≤ 0x5F))

/-- A unit is a cipher core, a root port, a steward. -/
def isCore (u : Nat) : Bool := decide (0x20 ≤ u) && decide (u ≤ 0x2F)
/-- A unit is a root port. -/
def isRoot (u : Nat) : Bool := decide (8 ≤ u) && decide (u ≤ 0x1F)
/-- A unit is a steward. -/
def isSteward (u : Nat) : Bool := decide (0x58 ≤ u) && decide (u ≤ 0x5F)

/-! ### What the start of a reset does, unit by unit -/

/-- The places of the cells that come, from the next one of this leg to the last of the next time round. -/
def State.placesAhead (s : State) : List (Nat × Nat × Nat) :=
  let legs := if s.tt.pattern = .image then Nat.max 1 (imgLegs s.activeImage) else 1
  let leg (k : Nat) : List (Nat × Nat × Nat) := (List.range 64).flatMap fun slot => (List.range 64).map fun lane =>
    ((s.tt.leg + k) % legs, slot, lane)
  ((leg 0).filter fun x => s.unfired x.2.1 x.2.2) ++ (List.range legs).flatMap fun k => leg (k + 1)

/-- The requests assigned to a core and not started: those given to it at a cell that has gone by, and those whose data is in its bed and
whose earliest cell is one of its (R414, R419). -/
def State.coreAssigned (s : State) (core : Nat) : List CipherReq :=
  let cells := s.placesAhead.filterMap fun x =>
    let c := cellWord (s.cellOf x.1 x.2.1 x.2.2)
    if c.opc = Opc.cipher then some c else none
  let first (t : Transfer) : Option CipherReq :=
    match cells.findSome? fun c => (s.wouldAssign c t).map fun r => (c.core, r) with
    | some (k, r) => if k = core then some r else none
    | none => none
  (s.cy.reqs.filter fun r => r.core == some core) ++ s.ce.ready.filterMap first

/-- A block of a read-room pull is returned with RESET (R420): it is assigned to another core; where its bed holds no data it is read
again; a third time the pull is given up, and the host asks again (log entry 132). -/
def State.resetPull (p i core : Nat) (lostData : Bool) (s : State) : State :=
  match s.pull? p with
  | none => s
  | some x =>
    let b := x.blocks.getD i {}
    let s0 := s.returned (0x20 + core) Oc.reset
    if 2 ≤ b.cores.length then
      let s1 := (s0.tick Obj.cy_retry_failures).record 5 0x5004
        ([(2, b.nsid), (8, b.lba)] ++ (b.cores ++ [core]).map fun k => (1, k))
      let s2 := (x.blocks.filterMap (·.bed)).foldl (fun t h => t.freeOwned h) s1
      let mine (j : Job) : Bool := j.pullOf.any fun q => q.1 == p
      ((s2.dropJobs mine).modCy fun y => { y with reqs := y.reqs.filter fun r => !r.pull.any fun q => q.1 == p }).pullEnds x
    else
      let f (q : PullBlock) : PullBlock := { q with cores := q.cores ++ [core], bed := if lostData then none else q.bed }
      let s1 := (s0.tick Obj.cy_retries).modPull p fun y => { y with blocks := y.blocks.modify i f }
      if !lostData then s1
      else
        let s2 := match b.bed with | some h => s1.freeOwned h | none => s1
        ((s2.dropPullReq p i).dropJobs fun j => j == .pullCipher p i).push x.cls Opc.cacheRd none none 0 (.pullRead p i)

/-- A cipher core (R419, R420): what was assigned to it and not started returns with RESET, its cache is cleared; with the core of its
parity unit also out, the accumulations of that unit are discarded and their blocks take any core. -/
def State.coreStop (core : Nat) (s : State) : State × Nat :=
  let mine := s.coreAssigned core
  let pairOut : Bool := s.cy.coreState.getD (core ^^^ 4) 0 != 0
  let unit := 0x30 + tapUnit core
  let s1 := (s.unassign (· == core)).modCy fun y => { y with coreState := y.coreState.set core 1, caches := y.caches.set core [] }
  let s2 := mine.foldl (fun t r => match r.pull with
    | some x => t.resetPull x.1 x.2 core false
    | none => t.resetBlock r.arrival r.lba core false) s1
  let s3 :=
    if pairOut then
      let tapped (a : Nat) : Bool := s2.cy.reqs.any fun r => r.arrival == a && r.tap == some unit
      ((s2.pe.accums.filter fun m => m.unit == unit && tapped m.arrival).foldl (fun t m => t.discardAccum m.arrival m.stripe) s2).modCy
        fun y => { y with reqs := y.reqs.map fun r => if r.tap = some unit then { r with tap := none } else r }
    else s2
  (s3, mine.length)

/-- A network port (R350, R469): its links go down, what is staged or waits to leave is discarded, transfers out of it return to the
engine and are sent anew, and the port trains. -/
def State.portStop (port : Nat) (s : State) : State × Nat :=
  let links := (List.range 8).map fun j => 8 * port + j
  let down := links.filter fun l => (s.link l).up
  let s1 := down.foldl (fun t l => t.linkDown l 2) s
  let gone := s1.pc.staged.filter fun f => links.contains f.link
  let s2 := gone.foldl (fun t f => t.tick Obj.pc_tx_link_down_drops (f.link + 1)) s1
  let ids := gone.map (·.id)
  let pulls := s2.ce.ready.filterMap fun t => match t.job with
    | .payloadIn a lba _ _ f _ => if ids.contains f then some (a, lba) else none
    | _ => none
  let rooms := s2.ce.ready.filter fun t => match t.job with
    | .roomIn _ _ _ _ f _ => ids.contains f
    | _ => false
  let s3 := pulls.foldl (fun t x => t.pullAgain x.1 x.2) s2
  let s4 := rooms.foldl (fun t x => t.dropRoomIn x) s3
  let s5 := s4.dropJobs fun j => match j with
    | .waitIn tag => s4.tr.waiting.any fun w => w.tag == tag && ids.contains w.packet.frame
    | .frameIn f => ids.contains f
    | _ => false
  let s6 := s5.modPc fun p => { p with staged := p.staged.filter fun f => !links.contains f.link }
  (s6.trainPort port, gone.length)

/-- Drive commands that wait for a port in reset: reads reconstruct (R111, R469). -/
def State.portReads (bay : Nat) (s : State) : State :=
  let isRead (d : DriveCmd) : Bool := d.bay == bay && !d.held && (match d.use with
    | .blockRead _ _ => true
    | .fill .. => true
    | .row _ _ => true
    | _ => false)
  let mine := s.drives.cmds.filter isRead
  let s1 := s.modDrives fun x => { x with cmds := x.cmds.filter fun d => !isRead d }
  (mine.filter fun d => !d.discard).foldl (fun t d => t.driveReset bay d.use) s1

/-- A root port (R383, R469): outstanding commands return with RESET; reads reconstruct, journal copies are re-homed, and every other
command is held and issued again when the port is ready. -/
def State.rootStop (bay : Nat) (s : State) : State × Nat :=
  let mine := s.drives.cmds.filter fun d => d.bay == bay && d.outstanding
  let jrn := (mine.filter fun d => !d.discard).filterMap fun d => match d.use with
    | .journal w j => some (w, j)
    | _ => none
  let s1 := s.portReads bay
  let leaves (d : DriveCmd) : Bool := d.bay == bay && d.outstanding && (match d.use with
    | .journal _ _ => true
    | .driveAbort _ => true
    | _ => false)
  let hold (d : DriveCmd) : DriveCmd :=
    if d.bay = bay ∧ d.outstanding then { d with outstanding := false, held := true, aborting := false } else d
  let s2 := s1.modDrives fun x => { x with cmds := (x.cmds.filter fun d => !leaves d).map hold }
  let heldIds := (s2.drives.cmds.filter fun d => d.bay == bay && d.held).map (·.cid)
  let s3 := s2.dropJobs fun j => match j with
    | .driveOut b _ cid => b == bay && heldIds.contains cid
    | .journal b w n => b == bay && jrn.contains (w, n)
    | _ => false
  let beds := mine.flatMap (·.beds)
  let s4 := (beds.foldl (fun t h => t.freeOwned h) s3).modDrives fun x => { x with
    cmds := x.cmds.map fun d => if d.bay = bay ∧ d.held then { d with beds := [] } else d }
  let s5 := jrn.foldl (fun t x => t.journalGone x.1 x.2 bay) s4
  (mine.foldl (fun t c => (t.driveCounted bay c.queue Oc.reset).returned (rootUnit bay) Oc.reset) s5, mine.length)

/-- The main-die ACTIONs a steward had started end with RESET (R469); which of the eight started a run is a free value, and a run of
a reset's own RESULT is the mode unit's (log entry 60). -/
def State.stewardRuns (steward : Nat) (s : State) : State :=
  let runs := (s.results.filter fun x => !x.2.ready).map fun x => x.1 / 256
  let main := runs.filter fun ix => (match objRow ix 0 with | some r => !r.gatehouse | none => false) &&
    ix != Obj.fw_unit_reset_result && ix != Obj.cy_core_reset_result
  main.foldl (fun t ix => (if t.freeVal 3 = steward then t.endRun ix (outcomeVal Oc.reset) else t).drawn) s

/-- A steward (R290, R469): the wait entries at the heads of the work queues end with RESET, and so do its ACTIONs. -/
def State.stewardStop (steward : Nat) (s : State) : State × Nat :=
  let qs := s.tr.queues.filter fun q => !q.stopped && !q.entries.isEmpty
  ((qs.foldl (fun t q => t.waitEnds q.id Oc.reset) s).stewardRuns steward, qs.length)

/-! ### The course of a reset (R468) -/

/-- Ask for the result of a reset that is under way. -/
def State.joinReset (u : Nat) (byObject byCore : Bool) (s : State) : State :=
  s.modMd fun m => { m with
    resets := modFirst (fun r => r.unit == u)
      (fun r => { r with byObject := r.byObject || byObject, byCore := r.byCore || byCore }) m.resets }

/-- A reset starts, or joins one under way (R468).  Triggers: 0 a write, 1 an automatic one.  Causes of record 0x5001: 1 a fault of the
core, 2 fw_unit_reset, 3 cy_core_reset (log entry 20). -/
def State.startReset (u trigger : Nat) (byObject byCore : Bool) (s : State) : State :=
  if s.md.resets.any fun r => r.unit == u then s.joinReset u byObject byCore
  else if u = 6 then (s.epReset 0).joinReset u byObject byCore
  else
    let r := if isCore u then s.coreStop (u - 0x20) else if isRoot u then s.rootStop (u - 8)
      else if isSteward u then s.stewardStop (u - 0x58) else s.portStop (u - 1)
    let s1 := (r.1.closeUnit u).modMd fun m => { m with
      resets := m.resets ++ [{ unit := u, trigger := trigger, byObject := byObject, byCore := byCore, start := s.gh.now, returned := r.2 }] }
    let s2 := (s1.tick Obj.fw_unit_resets).record 4 0xE007 [(1, u), (1, trigger), (2, r.2), (4, 0)]
    let s3 := if isCore u then
        s2.record 5 0x5001 [(1, u - 0x20), (1, if trigger = 1 then 1 else if byCore then 3 else 2), (2, r.2)] else s2
    s3.settle

/-- A request is accepted (R468): in Service, Standby or Drain, for a unit of R469, a root port's bay being in use. -/
def State.mayReset (s : State) (u : Nat) : Bool :=
  (s.md.mode == .service || s.md.mode == .standby || s.md.mode == .drain) && resettable u && (!isRoot u || s.bayInUse (u - 8))

/-- FW_UNIT_RESET (R468, R478). -/
def execFwUnitReset (cls value : Nat) (s : State) : Host.Outcome State Fault Refusal :=
  .next (s.action cls Obj.fw_unit_reset Obj.fw_unit_reset_result fun t =>
    if t.mayReset value then t.startReset value 0 true false else t.endRun Obj.fw_unit_reset_result (outcomeVal Oc.denied))

/-- CY_CORE_RESET (R419, R468, R478). -/
def execCyCoreReset (cls value : Nat) (s : State) : Host.Outcome State Fault Refusal :=
  .next (s.action cls Obj.cy_core_reset Obj.cy_core_reset_result fun t =>
    if value < 16 ∧ t.mayReset (0x20 + value) then t.startReset (0x20 + value) 0 false true
    else t.endRun Obj.cy_core_reset_result (outcomeVal Oc.denied))

/-- CORE_FAULT (R419, R420): passes of a core that found a fault in it, on blocks of commands and of read-room pulls, return RESET with
no data, and the core is reset. -/
def execCoreFault (core : Nat) (passes pulls : List (Nat × Nat)) (s : State) : Host.Outcome State Fault Refusal :=
  .next (if 16 ≤ core || !s.mayReset (0x20 + core) || s.cy.coreState.getD core 2 != 0 then s
    else
      let due := passes.filter fun x => (s.cmd? x.1).any fun c => c.blocks.any fun b => b.lba == x.2 && b.stage == .inBed
      let s1 := due.foldl (fun t x => t.resetBlock x.1 x.2 core true) s
      let here := pulls.filter fun x => (s1.reqOf (.pullCipher x.1 x.2)).isSome
      (here.foldl (fun t x => t.resetPull x.1 x.2 core true) s1).startReset (0x20 + core) 1 false false)

/-- STEWARD_WATCHDOG (R469): a steward silent for 100 ms. -/
def execStewardWatchdog (steward : Nat) (s : State) : Host.Outcome State Fault Refusal :=
  .next (if 8 ≤ steward || !s.mayReset (0x58 + steward) || s.md.closedStewards.contains (0x58 + steward) then s
    else s.startReset (0x58 + steward) 1 false false)

/-- Commands held by a root-port reset are issued again, and those that waited are sent (R340, R469). -/
def State.rootReady (bay : Nat) (s : State) : State :=
  let held := s.drives.cmds.filter fun d => d.bay == bay && d.held
  let s1 := s.modDrives fun x => { x with cmds := x.cmds.filter fun d => !(d.bay == bay && d.held) }
  let again (t : State) (d : DriveCmd) : State :=
    let cid := t.drives.nextCid
    let d0 : DriveCmd := { d with held := false }
    if d.op == .write then (t.repeatWrite d0).modDriveCmd bay d.queue cid fun x => { x with repeated := d.repeated }
    else t.issueDrive { d0 with outstanding := true }
  let s2 := held.foldl again s1
  let waits := s2.drives.cmds.filter fun d => d.bay == bay && !d.outstanding
  waits.foldl (fun t d => t.ringNext bay d.queue) s2

/-- UNIT_READY (R468, R469): a unit in reset reports ready; its cells reopen at the next leg boundary. -/
def execUnitReady (unit : Nat) (s : State) : Host.Outcome State Fault Refusal :=
  .next (match s.md.resets.find? fun r => r.unit == unit && r.phase != .ready with
    | none => s
    | some r =>
      if unit = 6 then s
      else
        let s1 := (if r.phase = .requested then s.freeOfUnit unit else s).modMd fun m => { m with
          resets := modFirst (fun r => r.unit == unit) (fun r => { r with phase := .ready }) m.resets }
        let s2 := s1.reopenUnit unit
        if isCore unit then s2.modCy fun y => { y with coreState := y.coreState.set (unit - 0x20) 0 }
        else if isRoot unit then s2.rootReady (unit - 8)
        else s2)

/-- The results that wait for a reset. -/
def State.resetEnds (r : UnitReset) (outcome : Nat) (s : State) : State :=
  let s1 := if r.byObject then s.endRun Obj.fw_unit_reset_result (outcomeVal outcome) else s
  if r.byCore then s1.endRun Obj.cy_core_reset_result (outcomeVal outcome) else s1

/-- Stewards that are left, steward 0 among them, do not suffice (R469). -/
def State.stewardsShort (s : State) : Bool := s.md.closedStewards.contains 0x58 || decide (4 < s.md.closedStewards.length)

/-- UNIT_READY_LIMIT (R468, R469): the unit stays closed, with its consequence. -/
def execUnitReadyLimit (unit : Nat) (s : State) : Host.Outcome State Fault Refusal :=
  .next (match s.md.resets.find? fun r => r.unit == unit && r.phase != .ready with
    | none => s
    | some r =>
      let ms := (s.gh.now - r.start) / 1000000
      let s1 := (s.freeOfUnit unit).modMd fun m => { m with resets := m.resets.filter fun x => x.unit != unit }
      let s2 := (s1.record 6 0xE007 [(1, unit), (1, r.trigger), (2, r.returned), (4, ms)]).resetEnds r Oc.timeout
      if isCore unit then s2.modCy fun y => { y with coreState := y.coreState.set (unit - 0x20) 2 }
      else if isRoot unit then s2.contain (unit - 8) 9
      else if unit = 6 then s2.modEp fun e => { e with link := 0, rate := 0, width := 0, resetting := false, tags := [] }
      else if isSteward unit then
        let s3 := s2.modMd fun m => { m with closedStewards := addNew m.closedStewards unit }
        if s3.stewardsShort then s3.warmReset 6 else s3
      else s2.modPc fun p => { p with portState := p.portState.set (unit - 1) 0, portMode := p.portMode.set (unit - 1) 4 })

/-- Data a drive returned before its port's cells closed and no cell has moved is discarded (R468 steps 3 and 4). -/
def State.portLeft (bay : Nat) (s : State) : State :=
  let left := s.ce.ready.filterMap fun t => match t.job with
    | .driveIn u _ _ => if t.src = some (rootUnit bay) then some u else none
    | _ => none
  let stays (t : Transfer) : Bool := match t.job with
    | .driveIn _ _ _ => t.src != some (rootUnit bay)
    | _ => true
  left.foldl (fun t u => t.driveReset bay u) (s.modCe fun c => { c with ready := c.ready.filter stays })

/-- Partial resets at a leg boundary (R468): the cells of a unit asked for have closed and the porter frees its beds; those of a unit
that is ready have reopened, and its reset is over; reads that wait for a root port in reset reconstruct. -/
def State.resetsLeg (s : State) : State :=
  s.md.resets.foldl (fun t r =>
    match r.phase with
    | .requested =>
      let t1 := (t.freeOfUnit r.unit).modMd fun m => { m with
        resets := modFirst (fun x => x.unit == r.unit) (fun x => { x with phase := .closed }) m.resets }
      if isRoot r.unit then (t1.portLeft (r.unit - 8)).portReads (r.unit - 8) else t1
    | .closed => if isRoot r.unit then t.portReads (r.unit - 8) else t
    | .ready => (t.modMd fun m => { m with resets := m.resets.filter fun x => x.unit != r.unit }).resetEnds r Oc.ok) s

end Sys2Proof.Machine
end

