-- ==== Sys2Proof/Machine/Sequencer.lean ====
section
/-! DEFINITION. The sequencer: every cell of the leg fires at its slot, the one a command names and, before it, whatever is left of
the slots that have passed (R32, R38, R40).  The commands of the cells. -/

namespace Sys2Proof.Machine

/-- Which transfers a cell of an operation class may take, and their effect.  Of NET_OUT `bytes` is the length of the frame that
leaves, of CIPHER `good` the outcome of the pass's GHASH check (R416). -/
def cellWork (opc bytes : Nat) (good : Bool) : CellWork :=
  match opc with
  | 0x01 => { ok := okNetIn, run := runNetIn }
  | 0x02 => { ok := okNetOut bytes, run := runNetOut bytes }
  | 0x03 => { ok := fun c s t => coreFits c s t && keysThere s t, before := fun c s => (s.assignCores c).lateKeys c, run := runCipher good }
  | 0x04 => { run := runDriveIn }
  | 0x05 => { run := runDriveOut }
  | 0x06 => { ok := okParityIn, before := fun c s => s.rowWaits c, run := runParityIn }
  | 0x07 => { ok := okParityOut, before := fun c s => s.settleResults c, run := fun c t bed s => (runParityOut c t bed s).reconsOn t }
  | 0x08 => { ok := okSisterOut, run := runSisterOut }
  | 0x09 => { run := runSisterIn }
  | 0x0A => { run := runCacheRd }
  | 0x0B => { ok := okCacheWr, run := runCacheWr }
  | 0x0C => { ok := okContext, run := runContext }
  | 0x0D => { ok := okJournal, run := runJournal }
  | 0x0E => { ok := okEndpoint, run := runEndpoint }
  | 0x0F => { run := runVault }
  | 0x10 => { ok := okControl, run := runControl }
  | 0x11 => { run := runDump }
  | _ => { run := fun _ _ bed s => s.returnBed bed }

/-- A cell that no command fires by itself: the length of its frame is a free value, at least that of its block (log entry 17), and
its GHASH check passes: a block that came in bad is marked so in its bed. -/
def State.cellRest (slot lane : Nat) (s : State) : State :=
  let word := s.cellRead slot lane
  let opc := (cellWord (s.cellAt slot lane)).opc
  (if opc = Opc.netOut then s.drawn else s).fire opc slot lane word (cellWork opc (4096 + s.freeVal 12) true)

/-- What is left of a slot fires, lane by lane; what the slot's transfers let go on is ready for the next one (R32, R39). -/
def State.slotRest (slot : Nat) (s : State) : State :=
  let lanes := if s.tt.slot = slot then (List.range 64).filter fun l => !s.tt.fired.contains l else List.range 64
  if lanes.isEmpty then s else (lanes.foldl (fun t l => t.cellRest slot l) s).settle

/-- Every cell of the slots before `slot` has fired (R32, R38). -/
def State.toSlot (slot : Nat) (s : State) : State :=
  if s.firing then (List.range (Nat.min slot 64 - s.tt.slot)).foldl (fun t k => t.slotRest (s.tt.slot + k)) s else s

/-- A cell command: the slots before its own are over, its cell fires, and what that lets go on follows. -/
def State.cellCommand (opc slot lane word bytes : Nat) (good : Bool) (s : State) : State :=
  if s.unfired slot lane then ((s.toSlot slot).fire opc slot lane word (cellWork opc bytes good)).settle else s

/-- NONE (R36): a compiler-empty cell moves nothing. -/
def execNoneCmd (slot lane word : Nat) (s : State) : Host.Outcome State Fault Refusal :=
  .next (s.cellCommand Opc.none slot lane word 0 true)

/-- NET_OUT (R109): `bytes` is the length of the frame that leaves. -/
def execNetOut (slot lane word bytes : Nat) (s : State) : Host.Outcome State Fault Refusal :=
  .next (s.cellCommand Opc.netOut slot lane word bytes true)

/-- CIPHER (R76): `good` is the outcome of the pass's GHASH check (R416). -/
def execCipher (slot lane word : Nat) (good : Bool) (s : State) : Host.Outcome State Fault Refusal :=
  .next (s.cellCommand Opc.cipher slot lane word 0 good)

/-- NET_IN (R72). -/
def execNetIn (slot lane word : Nat) (s : State) : Host.Outcome State Fault Refusal :=
  .next (s.cellCommand Opc.netIn slot lane word 0 true)

/-- DRIVE_IN (R108). -/
def execDriveIn (slot lane word : Nat) (s : State) : Host.Outcome State Fault Refusal :=
  .next (s.cellCommand Opc.driveIn slot lane word 0 true)

/-- DRIVE_OUT (R81). -/
def execDriveOut (slot lane word : Nat) (s : State) : Host.Outcome State Fault Refusal :=
  .next (s.cellCommand Opc.driveOut slot lane word 0 true)

/-- PARITY_IN (R157). -/
def execParityIn (slot lane word : Nat) (s : State) : Host.Outcome State Fault Refusal :=
  .next (s.cellCommand Opc.parityIn slot lane word 0 true)

/-- PARITY_OUT (R158). -/
def execParityOut (slot lane word : Nat) (s : State) : Host.Outcome State Fault Refusal :=
  .next (s.cellCommand Opc.parityOut slot lane word 0 true)

/-- SISTER_OUT (R236). -/
def execSisterOut (slot lane word : Nat) (s : State) : Host.Outcome State Fault Refusal :=
  .next (s.cellCommand Opc.sisterOut slot lane word 0 true)

/-- SISTER_IN (R240). -/
def execSisterIn (slot lane word : Nat) (s : State) : Host.Outcome State Fault Refusal :=
  .next (s.cellCommand Opc.sisterIn slot lane word 0 true)

/-- CACHE_RD (R107). -/
def execCacheRd (slot lane word : Nat) (s : State) : Host.Outcome State Fault Refusal :=
  .next (s.cellCommand Opc.cacheRd slot lane word 0 true)

/-- CACHE_WR (R85). -/
def execCacheWr (slot lane word : Nat) (s : State) : Host.Outcome State Fault Refusal :=
  .next (s.cellCommand Opc.cacheWr slot lane word 0 true)

/-- CONTEXT (R275). -/
def execContext (slot lane word : Nat) (s : State) : Host.Outcome State Fault Refusal :=
  .next (s.cellCommand Opc.context slot lane word 0 true)

/-- JOURNAL (R201). -/
def execJournal (slot lane word : Nat) (s : State) : Host.Outcome State Fault Refusal :=
  .next (s.cellCommand Opc.journal slot lane word 0 true)

/-- ENDPOINT (R506). -/
def execEndpoint (slot lane word : Nat) (s : State) : Host.Outcome State Fault Refusal :=
  .next (s.cellCommand Opc.endpoint slot lane word 0 true)

/-- VAULT (R208). -/
def execVault (slot lane word : Nat) (s : State) : Host.Outcome State Fault Refusal :=
  .next (s.cellCommand Opc.vault slot lane word 0 true)

/-- CONTROL (R35). -/
def execControl (slot lane word : Nat) (s : State) : Host.Outcome State Fault Refusal :=
  .next (s.cellCommand Opc.control slot lane word 0 true)

/-- DUMP (R538). -/
def execDump (slot lane word : Nat) (s : State) : Host.Outcome State Fault Refusal :=
  .next (s.cellCommand Opc.dump slot lane word 0 true)

end Sys2Proof.Machine
end

