-- ==== Sys2Proof/Machine/Leg.lean ====
section
/-! DEFINITION. The leg boundary (R13, R29): what takes effect at cycle 0 of slot 0 of every leg, and what the spec counts by the
second. -/

namespace Sys2Proof.Machine

/-- The clocks at a leg boundary (R29, R30): the first one after Muster starts the timetable clears the 10 ns stamp, a later one finds
it 512 further; in Muster on a held frequency the cells stand still from here on. -/
def State.clockBoundary (s : State) : State :=
  s.modClk fun c => { c with
    musterHalted := s.md.mode == .muster && c.pll == .holdover,
    stamp := if c.stampArmed then 0 else c.stamp + 512,
    stampArmed := false }

/-- The round at a leg boundary (R12, R41, R67): the next leg starts at slot 0, cells that failed their check are loaded again. -/
def State.roundBoundary (s : State) : State :=
  let legs := if s.tt.pattern = .image then Nat.max 1 (imgLegs s.activeImage) else 1
  s.modTt fun t => { t with
    leg := if t.legStarted then (t.leg + 1) % legs else 0,
    legCount := if t.legStarted then t.legCount + 1 else 0,
    legStarted := true, slot := 0, fired := [], reopenClasses := false,
    closedClasses := if t.reopenClasses then [] else t.closedClasses }

/-- The image that waits for Muster's step 13, or for a takeover, becomes active (R62, R63); a switch to store 3 is one under R59,
which a digest that no longer matches refuses. -/
def State.pendingImage (s : State) : State :=
  match s.tt.activatePend with
  | some n =>
    if s.md.mode = .muster ∧ s.md.step ≠ 13 then s
    else if ((s.store n).state = .accepted ∨ (s.store n).state = .active) ∧
        (n ≠ 3 ∨ imgDigest (s.store n).image = imgSha (s.store n).image) then
      (s.modTt fun t => { t with activatePend := none }).activate n
    else s.modTt fun t => { t with activatePend := none }
  | none => s

/-- Waybills whose copy is held become eligible (R87). -/
def State.eligibleLeg (s : State) : State :=
  s.modLg fun l => { l with recs := l.recs.map fun r => if r.copyHeld then { r with eligible := true } else r }

/-- Drain is entered for a cause that holds, and left once none does (R454, R465); the power state before PS2 comes back with it
(R330), and an activation's commit completes (R323); in Drain the stewards of an activation restart once the slab is empty (R467). -/
def State.drainLeg (s : State) : State :=
  if (s.md.mode = .service ∨ s.md.mode = .standby) ∧ !s.md.causes.isEmpty then
    (((s.modMd fun m => { m with before := m.mode }).setMode .drain 2).saveCursors).patrolStop
  else if s.md.mode = .drain ∧ s.md.causes.isEmpty then
    let s1 := s.setMode s.md.before 3
    (if s1.ce.ps = 2 then s1.setPs s1.ce.psBefore 2 else s1).activationOver
  else s.restartStewards

/-- The sisters, the lanterns and the ledger at a leg boundary, in their order: the packet of the leg that ended leaves, wings are
decided, taken and yielded, the size in force is settled, and what the packet did not take goes to the journal. -/
def State.ledgerWork (s : State) : State :=
  let s1 := s.sisterLeg
  let s2 := if s1.md.mode = .muster ∧ s1.md.step = 10 then (s1.musterDecide 1).musterDecide 2 else s1
  (s2.lanternLeg.ledgerLeg).journalLeg.sisterLegEnd

/-- Once in 195,313 legs, a second, what is recorded by the second (R186, R386, R403, R416, R512). -/
def State.secondLeg (s : State) : State :=
  if s.tt.legCount % 195313 ≠ 0 then s
  else
    let s1 := s.drawRecords.portSecond.cipherSecond.epSecond
    if s1.rb.requestDrops = 0 then s1
    else (s1.record 4 0x7203 [(4, s1.rb.requestDrops)]).modRb fun r => { r with requestDrops := 0 }

/-- What every leg boundary brings, in whatever mode. -/
def State.boundaryBasics (s : State) : State :=
  let s1 := (s.clockBoundary.reloadCells.roundBoundary).writesInForce
  let s2 := if s1.tt.holdupPend then
      (s1.modTt fun t => { t with pattern := .holdupPattern, holdupPend := false, leg := 0 }).flushBegin else s1
  let s3 := (s2.switchReportDue.switchAtBoundary).pendingImage
  (s3.closuresAtBoundary.resetsLeg).countersAtBoundary.modBook fun b => { b with dumpLegs := b.dumpLegs + 1 }

/-- The datapath at a leg boundary: queues sampled, rates, rooms, keys and pools. -/
def State.boundaryFlow (s : State) : State :=
  (s.sampleVoqs.clockLeg.ptpLeg.connLeg).roomsLeg.requestsLeg.evictKeys.watermarks

/-- Work that a leg boundary lets go on: rebuild and patrol, replay, admission, reservations, deletions, waiting capsules. -/
def State.boundaryWork (s : State) : State :=
  let s1 := (s.eligibleLeg.rebuildLeg).replayNext.newBerths.admitAll
  (s1.settle.resPass).nsDeletePass.rangeFree.epShutdown

/-- LEG_BOUNDARY (R13): whatever of the leg has not fired fires first (R32, R38); nothing before Muster starts the timetable; in Holdup the flush alone goes on, and Muster on a held frequency
stands still (R30, R64). -/
def execLegBoundary (s : State) : Host.Outcome State Fault Refusal :=
  .next (if s.md.mode = .vigil ∨ s.clk.pll = .off ∨ (!s.clk.stampArmed ∧ !s.tt.legStarted) then s
    else
      let s1 := (s.toSlot 64).boundaryBasics
      if s1.md.mode = .holdup ∨ s1.clk.musterHalted then s1
      else
        let s2 := s1.boundaryFlow.drainLeg
        (s2.ledgerWork.boundaryWork).secondLeg.shutdownLeg)

end Sys2Proof.Machine
end

