-- ==== Sys2Proof/Machine/Guestbook.lean ====
section
/-! DEFINITION. Reading, clearing and merging the guestbook (R521 to R530). -/

namespace Sys2Proof.Machine

/-! ### Records as bytes (R521, R528, R530) -/

/-- The bytes of a record: its header, its payload, zeros up to its length (R521). -/
def GbRecord.bytes (r : GbRecord) : List Byte :=
  leBytes 2 (b2n r.gate * 32768 + b2n r.suppressed.isSome * 16384 + r.severity % 8 * 2048 + r.length % 2048) ++
    leBytes 2 r.code ++ leBytes 4 r.seq ++ leBytes 8 r.time ++ padTo (r.length - 16) r.payload

/-- A gap record (R530): sequence the cursor, time that of the reply, the count of missing sequences. -/
def gapRecord (cursor now missing : Nat) : GbRecord :=
  { severity := 0, code := 0xC001, seq := cursor, time := now, length := 24, payload := leBytes 4 missing }

/-- The storage sequence has passed 0xFFFFFFFF with older records still stored (R523). -/
def Guestbook.wrapped (g : Guestbook) : Bool := g.records.any fun r => decide (g.seqNext ≤ r.seq)

/-- A sequence as a position that rises in storage order (R523, R528). -/
def Guestbook.pos (g : Guestbook) (q : Nat) : Nat := if g.wrapped && decide (q < g.seqNext) then q + (2 ^ 32 - 1) else q

/-- The position of the next sequence. -/
def Guestbook.posNext (g : Guestbook) : Nat := if g.wrapped then g.seqNext + (2 ^ 32 - 1) else g.seqNext

/-- Whole records while they fit in the bytes left: their bytes and the cursor after them (R528). -/
def takeRecords : List GbRecord → Nat → Nat → List Byte × Nat
  | [], _, cursor => ([], cursor)
  | r :: rest, left, cursor =>
    if r.length ≤ left then
      let p := takeRecords rest (left - r.length) (seqAfter r.seq)
      (r.bytes ++ p.1, p.2)
    else ([], cursor)

/-- A read of a window (R528 to R530): the bytes returned and the cursor after the read.  Cursor 0 reads as 1. -/
def Guestbook.window (g : Guestbook) (now cursor len : Nat) : List Byte × Nat :=
  let c := Nat.max 1 cursor
  let l := g.records.filter fun r => decide (g.pos c ≤ g.pos r.seq)
  let first := match l with | [] => g.posNext | r :: _ => g.pos r.seq
  let seqFirst := match l with | [] => g.seqNext | r :: _ => r.seq
  if g.pos c < first then
    if len < 24 then ([], cursor)
    else
      let p := takeRecords l (len - 24) seqFirst
      ((gapRecord c now (first - g.pos c)).bytes ++ p.1, p.2)
  else takeRecords l len cursor

/-! ### gb_clear and the section's copies (R523, R525) -/

/-- A write to gb_clear (R523, R540): the records go, the sequence goes on. -/
def State.gbClear (cls value : Nat) (s : State) : State :=
  s.action cls Obj.gb_clear Obj.gb_clear_result (fun t =>
    if value = 1 then
      ((t.modBook fun b => { b with main := { b.main with records := [] } }).record 3 0xC002 []).endRun
        Obj.gb_clear_result (outcomeVal Oc.ok)
    else t.endRun Obj.gb_clear_result (outcomeVal Oc.denied))

/-- GB_CLEAR (R523). -/
def execGbClear (cls value : Nat) (s : State) : Host.Outcome State Fault Refusal := .next (s.gbClear cls value)

/-- GATE_COPY (R525): section records not merged yet are copied while copying runs. -/
def execGateCopy (s : State) : Host.Outcome State Fault Refusal := .next (if s.book.copying then s.copySection else s)

end Sys2Proof.Machine
end

