-- ==== Sys2Proof/Machine/Views.lean ====
section
/-! DEFINITION. What a read of the object dictionary shows: the objects that mirror the state of a unit, by index range, then the
value of any object as its bytes (R67, R132, R160, R188, R228, R262, R304, R346, R386, R403, R422, R452, R470, R472, R498, R520,
R540, R561). -/

namespace Sys2Proof.Machine

/-- What an object that mirrors a unit's state shows: a number, a signed number, a block of bytes, or a block of entries of one
size. -/
inductive View where
  | num (n : Nat)
  | int (i : Int)
  | bytes (l : List Byte)
  | entries (size count : Nat) (entry : Nat → List Byte)

/-- A truth value shows as 0 or 1. -/
def View.bool (b : Bool) : View := .num (b2n b)

/-- An entry of a list of numbers shows at subindex 1 on. -/
def View.nth (l : List Nat) (sub : Nat) : View := .num (l.getD (sub - 1) 0)

/-- Fields of an entry, little-endian: size and value (R8). -/
def fields (l : List (Nat × Nat)) : List Byte := l.flatMap fun p => leBytes p.1 p.2

/-! ### 0x1000 to 0x1FFF: identity, field network, sessions (R498) -/

/-- The controller's field-network address: link-local, modified EUI-64 (R488). -/
def fieldAddress : List Byte :=
  let m := beBytes 6 Config.fieldMac.toNat
  [0xFE#8, 0x80#8, 0#8, 0#8, 0#8, 0#8, 0#8, 0#8, m.getD 0 0#8 ^^^ 2#8, m.getD 1 0#8, m.getD 2 0#8, 0xFF#8, 0xFE#8,
   m.getD 3 0#8, m.getD 4 0#8, m.getD 5 0#8]

/-- Sessions that are open: AUTH_OK was sent. -/
def State.openSessions (s : State) : List Session := s.dict.sessions.filter (·.opened)

/-- An entry of fw_session_view (R498): its idle time is the time since its last accepted message (log entry 62). -/
def State.sessionEntry (s : State) (i : Nat) : List Byte :=
  match s.openSessions[i]? with
  | some x => fields [(4, x.id), (1, x.credential), (1, x.cls), (1, b2n x.vlan.isSome), (1, 0), (4, (s.gh.now - x.last) / 1000000), (4, 0)]
  | none => List.replicate 16 0#8

def State.view1 (s : State) (ix _sub : Nat) : Option View :=
  if ix = Obj.fw_vendor_name then some (.bytes (ascii "Kryirdor"))
  else if ix = Obj.fw_part_name then some (.bytes (ascii "KA2460"))
  else if ix = Obj.fw_ordering_code then some (.bytes (ascii (if Config.d36 then "KA2460-D36" else "KA2460-D24")))
  else if ix = Obj.fw_serial then some (.bytes (Config.serial.take 64))
  else if ix = Obj.fw_manufacture_time then some (.num Config.manufactureTime)
  else if ix = Obj.fw_device_key then some (.bytes Config.deviceKey)
  else if ix = Obj.fw_device_key_digest then some (.bytes (sha3Bytes Config.deviceKey))
  else if ix = Obj.fw_dictionary_scope then some (.bool s.dict.scope)
  else if ix = Obj.gh_field_mac then some (.bytes (beBytes 6 Config.fieldMac.toNat))
  else if ix = Obj.gh_field_address then some (.bytes fieldAddress)
  else if ix = Obj.gh_field_link then some (.num (if s.get Obj.gh_plca_node_id = 255 then 1 else 2))
  else if ix = Obj.fw_sessions_open then some (.num s.openSessions.length)
  else if ix = Obj.fw_session_view then some (.entries 16 8 s.sessionEntry)
  else none

/-! ### 0x2000 to 0x2FFF: the gatehouse (R438, R452, R540, R561) -/

/-- The mean of the product of two columns: µW of mV and mA (R438). -/
def GateSt.meanPower (g : GateSt) (v i : Nat) : Int :=
  let n := g.samples.length
  if n = 0 then 0 else (g.samples.foldl (fun a r => a + r.getD v 0 * r.getD i 0) 0) / (n : Int)

/-- An unsigned object shows a negative quantity as 0. -/
def View.clamp (i : Int) : View := .num i.toNat

/-- The number of a switch's state as gh_bay_state gives it (R452): off, starting, on, limiting, off time, latched, empty,
disabled. -/
def State.bayShows (s : State) (b : Nat) : Nat :=
  let x := s.gh.bays.getD b {}
  if x.latched then 5
  else if s.get Obj.gh_bay_enable (b + 1) = 0 then 7
  else if !(s.gh.pins.getD b {}).present then 6
  else if x.on then (if x.acc ≠ 0 then 3 else if x.good then 2 else 1)
  else if x.offTicks ≠ 0 then 4 else 0

def State.boardShows (s : State) : Nat :=
  let x := s.gh.board
  if x.latched then 4 else if x.on then (if x.good then 2 else 1) else if x.offTicks ≠ 0 then 3 else 0

/-- An entry of gh_tally_capacitance, oldest first. -/
def State.capEntry (s : State) (i : Nat) : List Byte :=
  let e := s.gh.capHistory.getD i (0, 0, 0)
  fields [(8, e.1), (4, e.2.1), (4, e.2.2)]

def State.view20 (s : State) (ix sub : Nat) : Option View :=
  let g := s.gh
  if ix = Obj.gh_feed_voltage then some (.clamp (g.mean (2 * (sub - 1))))
  else if ix = Obj.gh_feed_current then some (.clamp (g.mean (2 * (sub - 1) + 1)))
  else if ix = Obj.gh_feed_power then some (.clamp (g.meanPower (2 * (sub - 1)) (2 * (sub - 1) + 1) / 1000))
  else if ix = Obj.gh_feed_energy then some (.num (g.energy.getD (sub - 1) 0 / 10000))
  else if ix = Obj.gh_feed_state then some (.num (s.feed (sub - 1)).state)
  else if ix = Obj.gh_feed_selected then some (.num g.selected)
  else if ix = Obj.gh_board_state then some (.num s.boardShows)
  else if ix = Obj.gh_bus_voltage then some (.clamp (g.mean 5))
  else if ix = Obj.gh_board_current then some (.clamp (g.mean 6))
  else if ix = Obj.gh_board_trips then some (.num g.board.trips)
  else if ix = Obj.gh_board_off_remaining then some (.num (g.board.offTicks * 1000))
  else none

def State.view21 (s : State) (ix sub : Nat) : Option View :=
  let g := s.gh
  let b := sub - 1
  let x := g.bays.getD b {}
  if ix = Obj.gh_bay_state then some (.num (s.bayShows b))
  else if ix = Obj.gh_bay_voltage then some (.clamp (g.mean (9 + 2 * b)))
  else if ix = Obj.gh_bay_current then some (.clamp (g.mean (10 + 2 * b)))
  else if ix = Obj.gh_bay_power then some (.clamp (g.meanPower (9 + 2 * b) (10 + 2 * b) / 1000))
  else if ix = Obj.gh_bay_energy then some (.num (g.energy.getD (2 + b) 0 / 10000))
  else if ix = Obj.gh_bay_present then some (.bool (g.pins.getD b {}).present)
  else if ix = Obj.gh_bay_trips then some (.num x.trips)
  else if ix = Obj.gh_bay_off_remaining then some (.num (x.offTicks * 1000))
  else if ix = Obj.gh_bay_attempt_time then some (.num x.attempt)
  else if ix = Obj.gh_bay_rail_voltage then some (.clamp (g.mean 8))
  else none

def State.view2x (s : State) (ix sub : Nat) : Option View :=
  let g := s.gh
  let bank := (g.mean 7).toNat
  if ix = Obj.gh_bank_voltage then some (.num bank)
  else if ix = Obj.gh_bank_energy then some (.num (s.bankEnergy bank))
  else if ix = Obj.gh_bank_target_voltage then some (.num s.bankTarget)
  else if ix = Obj.gh_bank_state then some (.num g.bankState)
  else if ix = Obj.gh_rail_state then some (.nth g.rails sub)
  else if ix = Obj.gh_shelf_time then some (.num g.now)
  else if ix = Obj.gh_time_source then some (.num g.timeSource)
  else if ix = Obj.gh_die_temperature then
    some (.int (if s.md.mode == .vigil && decide (sub < 4) then 0 else g.temps.getD (sub - 1) 0))
  else if ix = Obj.gh_die_temperature_peak then
    if s.md.mode == .vigil && decide (sub < 4) then some (.int 0) else none
  else if ix = Obj.gh_tally_capacitance then some (.entries 16 g.capHistory.length s.capEntry)
  else none

/-! ### 0x3000 to 0x3FFF: ports and the switch core (R360, R373, R384, R386) -/

/-- A VOQ's depth and age in a sample (R384). -/
def voqEntry (l : List (Nat × Nat × Nat)) (v : Nat) : List Byte :=
  let e := lookup l v (0, 0)
  fields [(4, e.1), (4, e.2)]

/-- An entry of pc_discard_samples (R360), oldest first. -/
def State.discardEntry (s : State) (i : Nat) : List Byte :=
  let e := s.pc.discards.reverse.getD i []
  fields [(8, e.getD 0 0), (1, e.getD 1 0), (1, e.getD 2 0), (2, e.getD 3 0), (4, 0)] ++
    padTo 128 ((e.drop 4).map fun n => BitVec.ofNat 8 n)

/-- An entry of pc_ptp_tx_stamps (R373), oldest first. -/
def State.stampEntry (s : State) (i : Nat) : List Byte :=
  let e := s.pc.stamps.getD i (0, 0, 0)
  fields [(2, e.1), (1, e.2.1), (5, 0), (8, e.2.2)]

def State.view3 (s : State) (ix sub : Nat) : Option View :=
  let p := s.pc
  let l := p.links.getD (sub - 1) {}
  if ix = Obj.pc_port_state then some (.nth p.portState sub)
  else if ix = Obj.pc_link_up then some (.bool l.up)
  else if ix = Obj.pc_link_rate then some (.num l.rate)
  else if ix = Obj.pc_paused then some (.num (sumN (l.pauses.map fun x => 2 ^ x.tc)))
  else if ix = Obj.pc_ptp_state then some (.num p.ptpState)
  else if ix = Obj.pc_ptp_offset then some (.int p.ptpOffset)
  else if ix = Obj.pc_clock_time then some (.num p.clockNs)
  else if ix = Obj.pc_clock_rate_adj then some (.int p.clockStep)
  else if ix = Obj.pc_ptp_tx_stamps then some (.entries 16 p.stamps.length s.stampEntry)
  else if ix = Obj.pc_discard_samples then some (.entries 144 p.discards.length s.discardEntry)
  else if ix = Obj.sw_voq_now then some (.entries 8 2560 (voqEntry p.voqNow))
  else if ix = Obj.sw_voq_peak then some (.entries 8 2560 (voqEntry p.voqPeak))
  else none

/-! ### 0x4000 to 0x5FFF: transport and cipher (R279, R304, R411, R422) -/

/-- A room descriptor (R279); its base is a value no rule states (log entry 9). -/
def Room.descriptor (r : Room) : List Byte :=
  let key := if r.state = 0 ∧ r.gen = 0 then 0 else r.key
  leBytes 32 (key * 2 ^ 224 + r.gen % 2 ^ 16 * 2 ^ 208 + r.owner % 2 ^ 24 * 2 ^ 184 + r.kind % 4 * 2 ^ 182 +
    b2n r.rd * 2 ^ 181 + b2n r.wr * 2 ^ 180 + r.state % 8 * 2 ^ 177 + r.length % 2 ^ 32 * 2 ^ 128 +
    (if r.kind = 0 then 0 else (Config.roomBase key r.gen).toNat) * 2 ^ 64 + r.openLegs % 2 ^ 32 * 2 ^ 32)

def State.roomEntry (s : State) (i : Nat) : List Byte :=
  match s.tr.rooms.find? fun r => r.index == i with
  | some r => r.descriptor
  | none => List.replicate 32 0#8

def State.view4 (s : State) (ix _sub : Nat) : Option View :=
  let t := s.tr
  if ix = Obj.tr_contexts_used then some (.num (t.conns.filter fun c => !qpAdmin c.qpn).length)
  else if ix = Obj.tr_waiting_room_used then some (.num t.waiting.length)
  else if ix = Obj.tr_rooms_open then some (.num (t.rooms.filter fun r => r.state == 1 || r.state == 2).length)
  else if ix = Obj.tr_room_view then some (.entries 32 262144 s.roomEntry)
  else none

/-- A key slot (R411). -/
def State.slotEntry (s : State) (i : Nat) : List Byte :=
  match s.cy.slots.find? fun e => e.1 == i with
  | some (_, mode, owner, gen, id) =>
    leBytes 32 (mode % 4 * 2 ^ 254 + owner % 2 ^ 16 * 2 ^ 224 + gen % 2 ^ 32 * 2 ^ 128 + id % 2 ^ 128)
  | none => List.replicate 32 0#8

def State.view5 (s : State) (ix sub : Nat) : Option View :=
  let c := s.cy
  if ix = Obj.cy_key_slots_used then some (.num c.slots.length)
  else if ix = Obj.cy_slot_view then some (.entries 32 65536 s.slotEntry)
  else if ix = Obj.cy_core_state then some (.nth c.coreState sub)
  else if Obj.cy_ns_key_gen ≤ ix ∧ ix < Obj.cy_ns_key_gen + 1024 then
    match s.ns? (ix - Obj.cy_ns_key_gen + 1) with
    | some n => some (.num (if sub = 1 then n.keyGen else n.nsid - 1))
    | none => some (.num 0)
  else none

/-! ### 0x6000 to 0x6FFF: the command engine (R132, R346) -/

/-- ce_bay_state (R346). -/
def bayStateNo : BayState → Nat
  | .empty => 0 | .examining => 1 | .inUse => 2 | .contained => 3 | .refused => 4

def State.view6 (s : State) (ix sub : Nat) : Option View :=
  let c := s.ce
  if ix = Obj.ce_range_entries_used then some (.num s.rangeUsed)
  else if ix = Obj.ce_cache_used then some (.num (c.cache.length * 4096))
  else if ix = Obj.ce_cache_pinned then some (.num ((c.cache.filter fun e => !e.pins.isEmpty).length * 4096))
  else if ix = Obj.ce_associations_used then some (.num c.assocs.length)
  else if ix = Obj.ce_ioq_used then
    some (.num (sumN (c.assocs.map fun a => (a.queues.filter fun q => q.1 != 0).length)))
  else if ix = Obj.ce_power_state then some (.num c.ps)
  else if ix = Obj.ce_bay_state then some (.num (bayStateNo (s.drive (sub - 1)).state))
  else if ix = Obj.ce_bay_link then some (.num (s.drive (sub - 1)).link)
  else if Obj.ce_ns_nguid ≤ ix ∧ ix < Obj.ce_ns_nguid + 1024 then
    match s.ns? (ix - Obj.ce_ns_nguid + 1) with
    | some n =>
      if sub = 2 then some (.bytes (beBytes 16 n.nguid))
      else if sub = 3 then some (.num n.rtype)
      else if sub = 4 then some (.num n.registrants.length)
      else if sub = 5 then some (.num n.resGen)
      else none
    | none => if sub = 2 then some (.bytes (List.replicate 16 0#8)) else if sub = 1 then none else some (.num 0)
  else none

/-! ### 0x7000 to 0x7FFF: placement, rebuild and the night watch (R149, R160, R188) -/

/-- An entry of pe_patrol_log (R188), oldest first. -/
def patrolEntryBytes (e : PatrolLog) : List Byte :=
  fields [(8, e.time), (8, e.stripe), (2, e.nsid), (1, e.row), (1, e.wing), (1, e.cause), (3, 0), (4, e.bays), (4, 0)]

def State.viewNs (s : State) (n : Namespace) (sub : Nat) : Nat :=
  match sub with
  | 1 => n.layout.toNat
  | 2 => n.wing
  | 3 => n.rows
  | 4 => n.base
  | 5 => nsCapacity n
  | 6 => n.creationGen
  | 7 => s.spareUsed n
  | _ => s.unplaced n

/-- MB/s of rebuild reads of a wing over the last 195,313 legs, which are 1.000 s (R188). -/
def State.rebuildNow (s : State) (w : Nat) : Nat := (s.rb.readLog.filter fun x => x.2 == w).length * 4096 / 1000000

/-- pe_rebuild_eta (R188): the reads of the due stripes still to come at pe_rebuild_rate_now, rounded up (log entry 63). -/
def State.rebuildEta (s : State) (w : Nat) : Nat :=
  let due := s.dueStripes w
  let bytes := sumN (due.map fun x => layBlocks (s.ns x.1).layout * 4096)
  if due.isEmpty then 0
  else if s.rebuildNow w = 0 then 0xFFFFFFFF
  else Nat.min 0xFFFFFFFF (ceilDiv bytes (s.rebuildNow w * 1000000))

/-- pe_rebuild_state (R188). -/
def State.rebuildShows (s : State) (w : Nat) : Nat :=
  let due := s.dueStripes w
  if due.isEmpty then 0
  else if s.rebuildRate = 0 && !(due.any fun x => s.tierOf x.1 x.2 == 0) then 2 else 1

/-- Stripes done in running events (R188). -/
def State.rebuildDoneCount (s : State) (w : Nat) : Nat :=
  sumN (((s.place w).log.filter fun e => !e.done).map fun e => e.bits.length)

def State.view7 (s : State) (ix sub : Nat) : Option View :=
  if ix = Obj.pe_placement_gen then some (.num (s.place sub).gen)
  else if ix = Obj.pe_placement_log then
    some (.entries 16 (s.place sub).log.length fun i => logEntryBytes ((s.place sub).log.getD i {}))
  else if ix = Obj.pe_home_gen_w1 then some (.nth (s.place 1).home sub)
  else if ix = Obj.pe_home_gen_w2 then some (.nth (s.place 2).home sub)
  else if ix = Obj.pe_bay_lost then some (.bool (s.bayLost (sub - 1)))
  else if Obj.pe_ns_layout_id ≤ ix ∧ ix < Obj.pe_ns_layout_id + 1024 then
    match s.ns? (ix - Obj.pe_ns_layout_id + 1) with
    | some n => some (.num (s.viewNs n sub))
    | none => some (.num 0)
  else if ix = Obj.pe_rebuild_state then some (.num (s.rebuildShows sub))
  else if ix = Obj.pe_rebuild_due then some (.num (s.dueStripes sub).length)
  else if ix = Obj.pe_rebuild_done then some (.num (s.rebuildDoneCount sub))
  else if ix = Obj.pe_rebuild_tier0 then
    some (.num ((s.dueStripes sub).filter fun x => s.tierOf x.1 x.2 == 0).length)
  else if ix = Obj.pe_rebuild_rate_now then some (.num (s.rebuildNow sub))
  else if ix = Obj.pe_patrol_cursor then some (.num (s.patrolCursor sub))
  else if ix = Obj.pe_rebuild_eta then some (.num (s.rebuildEta sub))
  else if ix = Obj.pe_patrol_queue then some (.num s.rb.requests.length)
  else if ix = Obj.pe_patrol_log then
    some (.entries 32 s.rb.log.length fun i => patrolEntryBytes (s.rb.log.getD i {}))
  else none

/-! ### 0x8000 to 0x9FFF: ledger and porter (R228, R390, R403) -/

/-- lg_copy_path (R228). -/
def copyPathNo : CopyPath → Nat
  | .none => 0 | .sisterLink => 1 | .journalZones => 2

def State.view8 (s : State) (ix sub : Nat) : Option View :=
  let l := s.lg
  let v := l.images.getD (sub - 1) {}
  if ix = Obj.lg_ledger_in_force then some (.num l.inForce)
  else if ix = Obj.lg_slab_used then some (.num s.slabUsed)
  else if ix = Obj.lg_shadow_used then some (.num (sumN (s.si.shadow.map fun r => r.blocks.length) * 4096))
  else if ix = Obj.lg_seal_next then some (.num (s.sealNext sub))
  else if ix = Obj.lg_waybills then some (.num s.waybills)
  else if ix = Obj.lg_intents then some (.num s.intents)
  else if ix = Obj.lg_copy_path then some (.num (copyPathNo (s.wing sub).copyPath))
  else if ix = Obj.lg_flush_power then some (.num s.flushPower)
  else if ix = Obj.lg_usable_energy then some (.num s.usableEnergy)
  else if ix = Obj.lg_pf_comparator_state then some (.nth l.comparators sub)
  else if ix = Obj.lg_pf_vote then some (.num s.pfVote)
  else if ix = Obj.lg_holdup_events then some (.num (s.get Obj.gh_tally_holdups))
  else if ix = Obj.lg_vault_image_state then some (.num v.state)
  else if ix = Obj.lg_vault_flush_seq then some (.num v.seq)
  else if ix = Obj.lg_journal_zone_used then
    some (.num (sumN ((l.zones.filter fun z => z.bay == sub - 1).map Zone.used)))
  else if ix = Obj.lg_rehome_pending then some (.num s.rehomePending)
  else if ix = Obj.lg_descriptor_generation then some (.num l.descGen)
  else none

/-- The bed a position of po_bed_view names: pools in order, each by half and index (R403). -/
def bedAt : List Nat → Nat → Nat → Nat
  | [], _, _ => 0
  | n :: rest, pool, i =>
    if i < n then mkHandle pool (i / (n / 2)) 0 (i % (n / 2)) else bedAt rest (pool + 1) (i - n)

def State.view9 (s : State) (ix sub : Nat) : Option View :=
  let p := s.po
  if ix = Obj.po_count then some (.nth p.counts sub)
  else if ix = Obj.po_resize_state then some (.num p.resize)
  else if ix = Obj.po_free then some (.num (p.free (sub - 1)))
  else if ix = Obj.po_free_min then
    some (.num (match p.freeMin.getD (sub - 1) none with | some n => n | none => p.free (sub - 1)))
  else if ix = Obj.po_level then some (.nth p.levels sub)
  else if ix = Obj.po_bed_view then
    some (.entries 4 (sumN p.counts) fun i => leBytes 4 (p.word (bedAt p.counts 0 i)).bits)
  else none

/-! ### 0xA000 to 0xBFFF: timetable and sisters (R67, R262) -/

/-- tt_store_state (R67). -/
def storeNo : StoreState → Nat
  | .empty => 0 | .loaded => 1 | .accepted => 2 | .rejected => 3 | .active => 4

def State.viewA (s : State) (ix sub : Nat) : Option View :=
  let t := s.tt
  let x := s.store sub
  let a := s.activeImage
  if ix = Obj.tt_state then some (.num (match t.pattern with | .musterPattern => 0 | .image => 1 | .holdupPattern => 2))
  else if ix = Obj.tt_store_state then some (.num (storeNo x.state))
  else if ix = Obj.tt_store_image_id then some (.num (if x.image.isEmpty then 0 else imgId x.image))
  else if ix = Obj.tt_store_cause then some (.num x.cause)
  else if ix = Obj.tt_store_security_version then some (.num (if x.image.isEmpty then 0 else imgSecurity x.image))
  else if ix = Obj.tt_leg_count then some (.num t.legCount)
  else if ix = Obj.tt_round_legs then
    some (.num (if t.pattern == .image then imgLegs a else if t.legStarted then 1 else 0))
  else if ix = Obj.tt_class_berths then some (.num (if a.isEmpty then 0 else imgBerthSum a (sub - 1)))
  else if ix = Obj.tt_class_bound then some (.num (if a.isEmpty then 0 else imgBound a (sub - 1)))
  else if ix = Obj.tt_unit_closed then some (.bool (t.closedUnits.contains sub))
  else if ix = Obj.tt_rollback_floor then some (.num (s.get Obj.gh_tally_rollback_tt))
  else none

/-- si_lantern_state (R262). -/
def lanternNo : LanternState → Nat
  | .standby => 0 | .holder => 1 | .taking => 2 | .yielding => 3

def State.viewB (s : State) (ix sub : Nat) : Option View :=
  let x := s.si
  if ix = Obj.si_sister_id then some (.num x.id)
  else if ix = Obj.si_lantern_state then some (.num (lanternNo (s.wing sub).state))
  else if ix = Obj.si_claim then some (.num (s.wing sub).claim)
  else if ix = Obj.si_claim_seen then some (.num (s.wing sub).seen)
  else if ix = Obj.si_bay_owner then some (.bool x.bayOwner)
  else if ix = Obj.si_sideband_silent then some (.bool x.silent)
  else if ix = Obj.si_link_state then some (.num s.siLink)
  else if ix = Obj.si_legs_since_packet then some (.num x.silence)
  else if ix = Obj.si_lease_time then some (.num (s.wing sub).lease)
  else if ix = Obj.si_warden_state then some (.num (if s.hasWarden then x.wardenState else 0))
  else if ix = Obj.si_holdoff_legs then some (.num (if x.id = 0 then 0 else 1024))
  else if ix = Obj.si_takeovers then some (.num (s.get Obj.gh_tally_takeovers))
  else if ix = Obj.si_resync_state then some (.num x.resync)
  else if ix = Obj.si_resync_bytes then some (.num x.resyncBytes)
  else none

/-! ### 0xC000 to 0xCFFF: guestbook and counters (R533, R538 to R540) -/

/-- The unit ids of the unit table and the crossbar lanes, ascending: the blocks of a snapshot (R533, R538). -/
def ctrBlocks : List Nat := ((List.range 0x60).filter fun u => (unitKind u).isSome) ++ (List.range 64).map (· + 0x100)

/-- One block of a snapshot, 112 bytes (R538). -/
def Snapshot.block (x : Snapshot) (b : Nat) : List Byte :=
  let u := (x.units.find? fun u => u.block == b).getD { block := b }
  fields [(2, b), (6, 0), (8, x.leg * 64 * (unitPeriods b / 64) % 2 ^ 64)] ++ u.counters.flatMap (leBytes 8) ++
    u.config.flatMap (leBytes 4)

/-- A snapshot of 37,120 bytes (R538). -/
def Snapshot.bytes (x : Snapshot) : List Byte :=
  fields [(8, x.seq), (8, x.leg), (8, x.time), (40, 0)] ++ ctrBlocks.flatMap x.block ++
    (List.range 2560).flatMap (voqEntry x.voqs)

/-- A sample of 64 bytes (R539). -/
def Sample.bytes (x : Sample) : List Byte :=
  fields [(8, x.leg), (1, x.slot), (1, x.lane), (6, 0), (8, x.cell.toNat), (8, x.arrival), (2, x.nsid), (2, 0), (4, x.room),
    (8, x.address), (4, x.age), (4, x.wait), (8, 0)]

def State.viewC (s : State) (ix sub : Nat) : Option View :=
  let b := s.book
  if ix = Obj.gb_used then some (.num b.main.used)
  else if ix = Obj.gb_seq_next then some (.num b.main.seqNext)
  else if ix = Obj.gb_seq_oldest then
    some (.num (match b.main.records with | [] => b.main.seqNext | r :: _ => r.seq))
  else if ix = Obj.gb_gate_merged then some (.num b.merged)
  else if ix = Obj.gb_dump then some (.entries 37120 b.dumps.length fun i => (b.dumps.getD i {}).bytes)
  else if ix = Obj.gb_filter then some (.bytes (lookup b.filterNext (sub - 1) (s.filterOf (sub - 1))))
  else if ix = Obj.gb_samples then some (.entries 64 b.samples.length fun i => (b.samples.getD i {}).bytes)
  else if ix = Obj.gb_event_catalogue then some (.bytes Config.eventCatalogue)
  else if Obj.gb_unit_cycles ≤ ix ∧ ix < Obj.gb_unit_cycles + 512 then
    let n := ix - Obj.gb_unit_cycles
    if sub = 1 then some (.num (s.unitCycles n))
    else if sub = 10 then some (.num (s.unitCtr n).overflow)
    else some (.num ((s.unitCtr n).counters.getD (sub - 2) 0))
  else if Obj.gb_unit_config ≤ ix ∧ ix < Obj.gb_unit_config + 512 then
    let u := s.unitCtr (ix - Obj.gb_unit_config)
    some (.num (lookup u.configNext (sub - 1) (u.config.getD (sub - 1) 0)))
  else none

/-! ### 0xD000 to 0xEFFF: endpoint, modes and firmware (R470, R520) -/

def State.viewD (s : State) (ix _sub : Nat) : Option View :=
  let e := s.ep
  if ix = Obj.ep_link_state then some (.num e.link)
  else if ix = Obj.ep_link_rate then some (.num e.rate)
  else if ix = Obj.ep_link_width then some (.num e.width)
  else if ix = Obj.ep_power_state then some (.num (if e.d3 then 3 else 0))
  else if ix = Obj.ep_interrupt_mode then
    some (.num (if e.link ≠ 2 then 0 else if e.msix then 2 else if e.intxDisable then 0 else 1))
  else if ix = Obj.ep_tags_outstanding then some (.num e.tags.length)
  else if ix = Obj.ep_held_entries then some (.num e.heldCq.length)
  else if ix = Obj.ep_ioq_used then some (.num (e.sqs.filter fun q => q.id != 0).length)
  else none

def State.viewE (s : State) (ix sub : Nat) : Option View :=
  let m := s.md
  let x := m.slots.getD (sub - 1) {}
  if ix = Obj.fw_mode then some (.num (modeNo m.mode))
  else if ix = Obj.fw_muster_step then some (.num m.step)
  else if ix = Obj.fw_drain_causes then some (.num (sumN (m.causes.map fun k => 2 ^ k)))
  else if ix = Obj.fw_warm_resets then some (.num (s.get Obj.gh_tally_warm_resets))
  else if ix = Obj.fw_slot_revision then some (.bytes (x.revision.take 8))
  else if ix = Obj.fw_slot_security_version then some (.num x.security)
  else if ix = Obj.fw_active_slot then some (.num m.active)
  else if ix = Obj.fw_next_slot then some (.num m.next)
  else if ix = Obj.fw_rollback_floor then some (.num (s.get Obj.gh_tally_rollback_fw))
  else if ix = Obj.fw_boot_state then some (.num m.boot)
  else if ix = Obj.fw_vendor_key_digest then some (.bytes (leBytes 64 Config.vendorKeyDigest.toNat))
  else if ix = Obj.fw_owner_key_state then some (.bool (!m.ownerKey.isEmpty))
  else if ix = Obj.fw_owner_key_digest then
    some (.bytes (if m.ownerKey.isEmpty then List.replicate 64 0#8 else sha3Bytes m.ownerKey))
  else none

/-! ### The value of any object (R472, R480) -/

/-- What an object that mirrors state shows, none where the value is kept as an object. -/
def State.view (s : State) (ix sub : Nat) : Option View :=
  match ix / 4096 with
  | 1 => s.view1 ix sub
  | 2 => if ix / 256 = 0x20 then s.view20 ix sub else if ix / 256 = 0x21 then s.view21 ix sub else s.view2x ix sub
  | 3 => s.view3 ix sub
  | 4 => s.view4 ix sub
  | 5 => s.view5 ix sub
  | 6 => s.view6 ix sub
  | 7 => s.view7 ix sub
  | 8 => s.view8 ix sub
  | 9 => s.view9 ix sub
  | 10 => s.viewA ix sub
  | 11 => s.viewB ix sub
  | 12 => s.viewC ix sub
  | 13 => s.viewD ix sub
  | 14 => s.viewE ix sub
  | _ => none

/-- A RESULT as its bytes (R472). -/
def Rslt.bytes (r : Rslt) : List Byte :=
  BitVec.ofNat 8 (b2n r.ready) :: ([0#8, 0#8, 0#8] ++ leBytes 4 r.seq ++ r.value)

/-- The number of an object kept as an object: what was written last, in force or not yet (R473, R386). -/
def State.numNow (s : State) (ix sub : Nat) : Nat := lookup s.dict.objNext (objKey ix sub) (s.get ix sub)

/-- The default block of a STR or DOMAIN object (R67, R386, R422, R498). -/
def blobDefault (ix sub : Nat) : List Byte :=
  if ix = Obj.pc_vid_accept then vid1
  else if ix = Obj.pc_mac_address then beBytes 6 (Config.linkMac (sub - 1)).toNat
  else if ix = Obj.tt_association_weights then List.replicate 4096 0#8
  else if ix = Obj.pc_mcast_hash then List.replicate 512 0#8
  else if ix = Obj.pc_dscp_map ∨ ix = Obj.fw_cred_digest then List.replicate 64 0#8
  else if ix = Obj.cy_host_key_hostid then List.replicate 16 0#8
  else []

/-- The bytes of an object kept as an object: what was written last, in force or not yet. -/
def State.blobNow (s : State) (ix sub : Nat) : List Byte :=
  lookup s.dict.blobNext (objKey ix sub) (s.blob ix sub (blobDefault ix sub))

/-- The block of a DOMAIN: entry size, entries, and each entry's bytes. -/
def View.block : View → Nat × Nat × (Nat → List Byte)
  | .num _ => (0, 0, fun _ => [])
  | .int _ => (0, 0, fun _ => [])
  | .bytes l => (l.length, 1, fun _ => l)
  | .entries n k f => (n, k, f)

/-- What a DOMAIN object shows (R482). -/
def State.domain (s : State) (ix sub : Nat) : Nat × Nat × (Nat → List Byte) :=
  match s.view ix sub with
  | some v => v.block
  | none => View.block (.bytes (s.blobNow ix sub))

/-- `n` bytes of a block from an offset. -/
def blockSlice (b : Nat × Nat × (Nat → List Byte)) (off n : Nat) : List Byte :=
  if b.1 = 0 then []
  else
    let first := off / b.1
    let last := Nat.min b.2.1 ((off + n + b.1 - 1) / b.1)
    slice ((List.range (last - first)).flatMap fun i => b.2.2 (first + i)) (off - first * b.1) n

/-- The value of an object as the bytes of its type: a DOMAIN has none outside the DOMAIN messages, an ACTION none at all (R472,
R473, R491). -/
def State.valueOf (s : State) (ix sub : Nat) : List Byte :=
  match objRow ix sub with
  | none => []
  | some r =>
    match r.ty with
    | .domain _ => []
    | .action => []
    | .result => (s.result ix).bytes
    | .str => match s.view ix sub with
      | some (.bytes l) => l
      | _ => s.blobNow ix sub
    | ty => match s.view ix sub with
      | some (.num n) => leBytes ty.width n
      | some (.int i) => leBytes ty.width (encInt (8 * ty.width) i)
      | _ => leBytes ty.width (s.numNow ix sub)

/-- What a read of a statistics object clears (R385): its count, or what stands for it. -/
def State.clearStat (ix sub : Nat) (s : State) : State :=
  if ix = Obj.po_free_min then s.modPo fun p => { p with freeMin := p.freeMin.set (sub - 1) none }
  else s.put ix sub 0

/-- The entries of a DOMAIN statistics object that a read returned whole are cleared (R385, R482; log entry 64). -/
def State.clearEntries (ix first last : Nat) (s : State) : State :=
  if ix = Obj.sw_voq_peak then
    s.modPc fun p => { p with voqPeak := p.voqPeak.filter fun e => !(decide (first ≤ e.1) && decide (e.1 < last)) }
  else if ix = Obj.gb_samples then
    s.modBook fun b => { b with samples := b.samples.take first ++ b.samples.drop last }
  else s

end Sys2Proof.Machine
end

