-- ==== Sys2Proof/Machine/Dictionary.lean ====
section
/-! DEFINITION. Reads and writes of the object dictionary, its three paths, sessions and domains (R385, R471 to R497, R507,
R528). -/

namespace Sys2Proof.Machine

/-! ### Writes (R473 to R478, R486) -/

/-- What a meaning leaves: its next state; the state before where it stops. -/
def State.after (s : State) (o : Host.Outcome State Fault Refusal) : State :=
  match o with
  | .next t => t
  | _ => s

/-- A byte continues a UTF-8 sequence. -/
def utf8Tail (b : Byte) : Bool := decide (0x80 ≤ b.toNat) && decide (b.toNat < 0xC0)

/-- Well-formed UTF-8 (R472, R477). -/
def utf8Ok : List Byte → Bool
  | [] => true
  | a :: r =>
    if a.toNat < 0x80 then utf8Ok r
    else
      match r with
      | [] => false
      | b :: r2 =>
        if !utf8Tail b then false
        else if decide (0xC2 ≤ a.toNat) && decide (a.toNat < 0xE0) then utf8Ok r2
        else
          match r2 with
          | [] => false
          | c :: r3 =>
            if !utf8Tail c then false
            else if decide (0xE0 ≤ a.toNat) && decide (a.toNat < 0xF0) then
              (a != 0xE0#8 || decide (0xA0 ≤ b.toNat)) && (a != 0xED#8 || decide (b.toNat < 0xA0)) && utf8Ok r3
            else
              match r3 with
              | [] => false
              | d :: r4 =>
                utf8Tail d && decide (0xF0 ≤ a.toNat) && decide (a.toNat < 0xF5) && (a != 0xF0#8 || decide (0x90 ≤ b.toNat)) &&
                  (a != 0xF4#8 || decide (b.toNat < 0x90)) && utf8Ok r4

/-- A numeric value lies in the type and range of its object (R472, R477). -/
def ObjRow.inRange (r : ObjRow) (v : Nat) : Bool :=
  match r.ty with
  | .bool => decide (v ≤ 1)
  | .i w => r.ranges.isEmpty || r.ranges.any fun x => decide (x.1 ≤ decInt (8 * w) v) && decide (decInt (8 * w) v ≤ x.2)
  | _ => r.ranges.isEmpty || r.ranges.any fun x => decide (x.1 ≤ (v : Int)) && decide ((v : Int) ≤ x.2)

/-- Relations between objects that a write must keep (R402, R424, R430, R477, R498; the ranges of R132, R386 and R403). -/
def State.keepsOrder (s : State) (ix sub v : Nat) : Bool :=
  if ix = Obj.po_amber then decide (s.numNow Obj.po_red sub < v)
  else if ix = Obj.po_red then decide (s.numNow Obj.po_black sub < v) && decide (v < s.numNow Obj.po_amber sub)
  else if ix = Obj.po_black then decide (v < s.numNow Obj.po_red sub)
  else if ix = Obj.pc_pfc_xon then decide (v < s.numNow Obj.pc_pfc_xoff 0)
  else if ix = Obj.pc_pfc_xoff then decide (s.numNow Obj.pc_pfc_xon 0 < v)
  else if ix = Obj.gh_feed_uv_falling then decide (v + 100 ≤ s.get Obj.gh_feed_uv_rising)
  else if ix = Obj.gh_feed_uv_rising then decide (s.get Obj.gh_feed_uv_falling + 100 ≤ v)
  else if ix = Obj.gh_bay_limit ∨ ix = Obj.gh_bay_sense then
    let nV := v * s.get (if ix = Obj.gh_bay_limit then Obj.gh_bay_sense else Obj.gh_bay_limit) sub
    decide (2000000 ≤ nV) && decide (nV ≤ 40000000)
  else if ix = Obj.ce_stripe_cache_size then
    v % 2 ^ 30 == 0 && decide (v ≤ if Config.d36 then 30064771072 else 17179869184)
  else if ix = Obj.fw_cred_role then
    v != 1 || (List.range 16).all fun e => e + 1 == sub || s.get Obj.fw_cred_role (e + 1) != 1
  else if ix = Obj.fw_cred_class then s.get ix sub != 3
  else true

/-- Objects whose chapters let a write take effect at the next leg boundary (R188, R262, R304, R356, R386, R402; log entry 129). -/
def atBoundary (ix : Nat) : Bool :=
  ix == Obj.pc_mcast_hash || ix == Obj.pc_pfc_xoff || ix == Obj.pc_pfc_xon || ix == Obj.pc_pause_time_tx ||
  ix == Obj.pc_pause_storm_limit || ix == Obj.pc_flow_mode || ix == Obj.pc_pfc_enable || ix == Obj.pc_mgmt_vid ||
  ix == Obj.pc_pvid || ix == Obj.pc_vid_accept || ix == Obj.pc_rx_strip || ix == Obj.pc_egress_tc_limit ||
  ix == Obj.pc_pcp_map || ix == Obj.pc_dscp_map || ix == Obj.pc_tc_source || ix == Obj.sw_strict_tc7 ||
  (decide (Obj.pc_tx_tag ≤ ix) && decide (ix < Obj.pc_tx_tag + 8)) ||
  (decide (Obj.sw_tc_weight ≤ ix) && decide (ix < Obj.sw_tc_weight + 8)) || ix == Obj.sw_ct_ingress ||
  ix == Obj.sw_ct_egress || ix == Obj.po_amber || ix == Obj.po_red || ix == Obj.po_black || ix == Obj.po_hysteresis ||
  ix == Obj.si_silence_legs || ix == Obj.tr_cnp_interval || ix == Obj.tr_cc_cut_gap || ix == Obj.tr_cc_hold ||
  ix == Obj.tr_cc_step || ix == Obj.tr_cc_rate_min || ix == Obj.pe_rebuild_rate

/-- An object of the rate limiter (R527). -/
def isRate (ix : Nat) : Bool :=
  ix == Obj.gb_rate_default || ix == Obj.gb_burst_default || ix == Obj.gb_rate_code || ix == Obj.gb_rate_rate ||
  ix == Obj.gb_rate_burst

/-- The buckets a write to a rate object concerns are refilled to the burst in force after it (R527). -/
def State.refill (ix sub old : Nat) (s : State) : State :=
  let listed (c : Nat) : Bool := (List.range 32).any fun i => s.get Obj.gb_rate_code (i + 1) == c
  let hit (c : Nat) : Bool :=
    if ix = Obj.gb_rate_default ∨ ix = Obj.gb_burst_default then !listed c
    else c == s.get Obj.gb_rate_code sub || (ix == Obj.gb_rate_code && c == old)
  let f (b : Bucket) : Bucket :=
    if hit b.code then { b with tokens := (s.rateOf b.code).2 * 1000000000, time := s.gh.now } else b
  s.modBook fun k => { k with
    main := { k.main with buckets := k.main.buckets.map f }, gate := { k.gate with buckets := k.gate.buckets.map f } }

/-- Keep a numeric value: at once, or from the next leg boundary. -/
def State.keepNum (ix sub v : Nat) (s : State) : State :=
  if atBoundary ix then s.modDict fun d => { d with objNext := assign d.objNext (objKey ix sub) v }
  else if isRate ix then (s.put ix sub v).refill ix sub (s.get ix sub)
  else s.put ix sub v

/-- Keep a STR or DOMAIN value. -/
def State.keepBlob (ix sub : Nat) (v : List Byte) (s : State) : State :=
  if atBoundary ix then s.modDict fun d => { d with blobNext := assign d.blobNext (objKey ix sub) v }
  else s.putBlob ix sub v

/-- The bytes of an object's type at the front of what is written; an ACTION takes the first 8 (R491; log entry 65). -/
def ObjRow.taken (r : ObjRow) (v : List Byte) : Nat :=
  match r.ty with
  | .action => leNat (v.take 8)
  | ty => leNat (v.take ty.width)

/-- A write to an object without behaviour of its own stores the value (R476, R477, R483). -/
def State.storeObject (cls ix sub : Nat) (v : List Byte) (s : State) : State :=
  match objRow ix sub with
  | none => s.violation cls
  | some r =>
    match r.ty with
    | .action => s.violation cls
    | .result => s.violation cls
    | .str => s.guarded cls ix sub (decide (v.length ≤ 64) && utf8Ok v) fun t => t.keepBlob ix sub v
    | .domain limit => s.guarded cls ix sub (decide (v.length ≤ limit)) fun t => t.keepBlob ix sub v
    | _ => s.guarded cls ix sub (r.inRange (r.taken v) && s.keepsOrder ix sub (r.taken v)) fun t =>
        t.keepNum ix sub (r.taken v)

/-- An object of the credential table that names a caller: digest, class, role, secret (R492). -/
def isCredential (ix : Nat) : Bool :=
  ix == Obj.fw_cred_digest || ix == Obj.fw_cred_class || ix == Obj.fw_cred_role || ix == Obj.fw_cred_secret

/-- A session ends with a CLOSE and its reason where it is open (R490, R492, R494). -/
def State.endSession (id : Nat) (reason : Option Nat) (s : State) : State :=
  match s.dict.sessions.find? fun x => x.id == id with
  | none => s
  | some x =>
    let s1 := s.modDict fun d => { d with sessions := d.sessions.filter fun y => y.id != id }
    match reason with
    | some n => if x.opened then s1.tagSend x.vlan x.ks id 5 (x.tx + 1) 0 [BitVec.ofNat 8 n] else s1
    | none => s1

/-- Every session opened under an entry ends with reason 2 (R492), that of the warden too. -/
def State.endUnder (entry : Nat) (warden : Bool) (s : State) : State :=
  let s1 := (s.dict.sessions.filter fun x => x.credential == entry).foldl (fun t x => t.endSession x.id (some 2)) s
  if warden ∧ s1.si.wardenSession = 3 then
    (s1.modSi fun i => { i with wardenSession := 0, wardenTx := i.wardenTx + 1 }).tagSend none s1.si.wardenKs s1.si.wardenId 5
      (s1.si.wardenTx + 1) 0 [2#8]
  else s1

/-- A write to a credential entry (R492): stored, and the sessions opened under the entry end where it changed. -/
def State.writeCredential (cls ix sub : Nat) (v : List Byte) (s : State) : State :=
  let warden := s.get Obj.fw_cred_role sub == 1
  let s1 := s.storeObject cls ix sub v
  if s1.blobNow ix sub = s.blobNow ix sub ∧ s1.get ix sub = s.get ix sub then s1 else s1.endUnder (sub - 1) warden

/-- A write to ep_bar2_class (R507): through BAR2, or from a caller of custodian class. -/
def State.bar2ClassWrite (bar2 : Bool) (cls value : Nat) (s : State) : State :=
  if s.dict.scope && (bar2 || decide (2 ≤ cls)) && decide (value ≤ 2) then s.put Obj.ep_bar2_class 0 value else s.violation cls

/-- The RESULT of an ACTION (R478), none for a trigger. -/
def resultOf (ix : Nat) : Option Nat :=
  lookup [(Obj.tt_check, some Obj.tt_check_result), (Obj.tt_switch, some Obj.tt_switch_result),
    (Obj.si_handback, some Obj.si_handback_result), (Obj.si_promote, some Obj.si_promote_result),
    (Obj.tr_rekey, some Obj.tr_rekey_result), (Obj.ce_power_state_set, some Obj.ce_power_state_result),
    (Obj.ce_ns_create, some Obj.ce_ns_create_result), (Obj.ce_ns_delete, some Obj.ce_ns_delete_result),
    (Obj.cy_core_reset, some Obj.cy_core_reset_result), (Obj.cy_host_key_derive, some Obj.cy_host_key),
    (Obj.gh_board_unlatch, some Obj.gh_board_unlatch_result), (Obj.gh_bay_unlatch, some Obj.gh_bay_unlatch_result),
    (Obj.gh_bank_measure, some Obj.gh_bank_measure_result), (Obj.gh_time_set, some Obj.gh_time_set_result),
    (Obj.fw_shutdown, some Obj.fw_shutdown_result), (Obj.fw_unit_reset, some Obj.fw_unit_reset_result),
    (Obj.gb_clear, some Obj.gb_clear_result)] ix none

/-- A write to an ACTION: the effect of its command with the value written. -/
def State.writeAction (cls ix v : Nat) (s : State) : State :=
  if ix = Obj.tt_check then s.ttCheck cls v
  else if ix = Obj.tt_switch then s.ttSwitch cls v
  else if ix = Obj.tt_shadow_to_f1 then s.shadowToF1 cls v
  else if ix = Obj.pe_patrol_log_clear then s.after (execPePatrolLogClear cls v s)
  else if ix = Obj.si_handback then s.after (execSiHandback cls v s)
  else if ix = Obj.si_promote then s.after (execSiPromote cls v s)
  else if ix = Obj.tr_rekey then s.rekeyWrite cls v
  else if ix = Obj.ce_power_state_set then s.psWrite cls v
  else if ix = Obj.ce_ns_create then s.nsCreate cls v
  else if ix = Obj.ce_ns_delete then s.nsDelete cls v
  else if ix = Obj.ce_bay_contain then s.after (execCeBayContain cls v s)
  else if ix = Obj.ce_bay_release then s.after (execCeBayRelease cls v s)
  else if ix = Obj.ce_bay_accept then s.after (execCeBayAccept cls v s)
  else if ix = Obj.cy_core_reset then s.after (execCyCoreReset cls v s)
  else if ix = Obj.cy_host_key_derive then s.hostKeyDerive cls v
  else if ix = Obj.gh_board_unlatch then s.after (execGhBoardUnlatch cls v s)
  else if ix = Obj.gh_bay_unlatch then s.after (execGhBayUnlatch cls v s)
  else if ix = Obj.gh_bank_measure then s.after (execGhBankMeasure cls v s)
  else if ix = Obj.gh_time_set then s.after (execGhTimeSet cls v s)
  else if ix = Obj.fw_start then s.after (execFwStart cls v s)
  else if ix = Obj.fw_shutdown then s.after (execFwShutdown cls v s)
  else if ix = Obj.fw_warm_reset then s.after (execFwWarmReset cls v s)
  else if ix = Obj.fw_unit_reset then s.after (execFwUnitReset cls v s)
  else if ix = Obj.gb_clear then s.gbClear cls v
  else s.violation cls

/-- A write of a value to any object but a DOMAIN (R476, R486): objects with behaviour of their own, the others are stored. -/
def State.writeObject (bar2 : Bool) (cls ix sub : Nat) (v : List Byte) (s : State) : State :=
  match objRow ix sub with
  | none => s.violation cls
  | some r =>
    let n := r.taken v
    if r.ty = .action then s.writeAction cls ix n
    else if isCredential ix then s.writeCredential cls ix sub v
    else if ix = Obj.gh_bay_enable then s.after (execGhBayEnableWrite cls (sub - 1) n s)
    else if ix = Obj.gh_bank_energy_ceiling then s.after (execGhBankEnergyCeilingWrite cls n s)
    else if ix = Obj.lg_ledger_size then s.after (execLgLedgerSizeWrite cls n s)
    else if ix = Obj.lg_flush_profile then s.after (execLgFlushProfileWrite cls n s)
    else if ix = Obj.pe_rebuild_rate then s.after (execPeRebuildRateWrite cls n s)
    else if ix = Obj.pe_patrol_enable then s.after (execPePatrolEnableWrite cls n s)
    else if Obj.ce_ns_party_mask ≤ ix ∧ ix < Obj.ce_ns_party_mask + 1024 then
      s.partyMask cls (ix - Obj.ce_ns_party_mask + 1) n
    else if Obj.gb_unit_config ≤ ix ∧ ix < Obj.gb_unit_config + 512 then
      s.counterConfig cls (ix - Obj.gb_unit_config) (sub - 1) n
    else if ix = Obj.ep_bar2_class then s.bar2ClassWrite bar2 cls n
    else s.storeObject cls ix sub v

/-- The END of a DOMAIN write (R483, R484): the staged block goes to its object. -/
def State.writeDomain (cls ix sub : Nat) (v : List Byte) (s : State) : State :=
  if ix = Obj.tt_shadow_image then s.shadowEnd cls v
  else if ix = Obj.cy_owner_root then s.ownerRootWrite cls v
  else if ix = Obj.fw_owner_key then s.after (execFwOwnerKeyWrite cls v s)
  else if ix = Obj.fw_recovery_image then s.after (execFwRecoveryImage cls v s)
  else if ix = Obj.gb_filter then s.filterWrite cls (sub - 1) v
  else if isCredential ix then s.writeCredential cls ix sub v
  else s.storeObject cls ix sub v

/-- The sequence the run of an accepted write to an ACTION with a RESULT will carry, else 0 (R491). -/
def State.runOf (s : State) (cls ix sub : Nat) : Nat :=
  match objRow ix sub, resultOf ix with
  | some r, some res =>
    if r.ty == .action && s.mayWrite cls ix sub && (s.result res).ready then ((s.result res).seq + 1) % 2 ^ 32 else 0
  | _, _ => 0

/-! ### Reads (R385, R473, R476, R480, R491) -/

/-- A read of one object by a READ item: its value slot of 64 bytes; a statistics object is cleared (R385, R476, R491).  A DOMAIN
reads as zeros. -/
def State.readItem (cls ix sub : Nat) (s : State) : List Byte × State :=
  if s.mayRead cls ix sub then
    let stats : Bool := (objRow ix sub).elim false (·.stats)
    let domain : Bool := match objRow ix sub with
      | some r => (match r.ty with | .domain _ => true | _ => false)
      | none => false
    (padTo 64 (s.valueOf ix sub), if stats && !domain then s.clearStat ix sub else s)
  else (List.replicate 64 0#8, s.violation cls)

/-- A path into the dictionary, with its cursors and staging: a session, or BAR2 (R482, R483, R485). -/
inductive Caller where
  | session (id : Nat) | bar2
  deriving DecidableEq, Repr

def State.session? (s : State) (id : Nat) : Option Session := s.dict.sessions.find? fun x => x.id == id

def State.modSession (id : Nat) (f : Session → Session) (s : State) : State :=
  s.modDict fun d => { d with sessions := modFirst (fun x => x.id == id) f d.sessions }

/-- The read cursor of a caller on a DOMAIN (R482). -/
def State.readCursor (s : State) (c : Caller) (key : Nat) : Nat :=
  match c with
  | .session id => lookup ((s.session? id).elim [] (·.cursors)) key 0
  | .bar2 => lookup s.dict.bar2Cursors key 0

def State.setReadCursor (c : Caller) (key v : Nat) (s : State) : State :=
  match c with
  | .session id => s.modSession id fun x => { x with cursors := assign x.cursors key v }
  | .bar2 => s.modDict fun d => { d with bar2Cursors := assign d.bar2Cursors key v }

/-- The staged write of a caller (R483). -/
def State.stagedBy (s : State) (c : Caller) : Option Staging :=
  match c with
  | .session id => (s.session? id).bind (·.staging)
  | .bar2 => s.dict.bar2Staging

def State.setStaged (c : Caller) (x : Option Staging) (s : State) : State :=
  match c with
  | .session id => s.modSession id fun y => { y with staging := x }
  | .bar2 => s.modDict fun d => { d with bar2Staging := x }

/-- The object is a DOMAIN. -/
def isDomain (ix sub : Nat) : Bool :=
  match objRow ix sub with
  | some r => (match r.ty with | .domain _ => true | _ => false)
  | none => false

/-- A DOMAIN read (R482, R528): cursor after the read, total length, bytes. -/
def State.readDomain (c : Caller) (cls ix sub : Nat) (seek : Bool) (off len : Nat) (s : State) : (Nat × Nat × List Byte) × State :=
  let key := objKey ix sub
  let cur := if seek then off else s.readCursor c key
  if !(s.mayRead cls ix sub && isDomain ix sub) then ((s.readCursor c key, 0, []), s.violation cls)
  else if ix = Obj.gb_window ∨ ix = Obj.gb_gate_window then
    let g := if ix = Obj.gb_window then s.book.main else s.book.gate
    let p := g.window s.gh.now cur len
    ((p.2, g.seqNext, p.1), s.setReadCursor c key p.2)
  else
    let b := s.domain ix sub
    let total := b.1 * b.2.1
    let n := Nat.min len (total - cur)
    let next := cur + n
    ((next, total, blockSlice b cur n),
      (s.clearEntries ix (ceilDiv cur b.1) (next / b.1)).setReadCursor c key next)

/-- A fragment of a DOMAIN write (R483): the bytes staged after it. -/
def State.stageDomain (c : Caller) (cls ix sub : Nat) (first endd : Bool) (off : Nat) (data : List Byte) (s : State) :
    Nat × State :=
  let key := objKey ix sub
  if !(s.mayWrite cls ix sub && isDomain ix sub) then (0, s.violation cls)
  else
    let now : Option (List Byte) :=
      if first then some data
      else match s.stagedBy c with
        | some x => if x.key = key ∧ off = x.bytes.length then some (x.bytes ++ data) else none
        | none => none
    match now with
    | none => (0, (s.setStaged c none).violation cls)
    | some l =>
      if endd then (l.length, (s.setStaged c none).writeDomain cls ix sub l)
      else (l.length, s.setStaged c (some { key := key, bytes := l, last := s.gh.now }))

/-! ### Message bodies (R486, R490, R491): big-endian, served on every path -/

/-- The item address at an offset: index and subindex. -/
def itemAt (l : List Byte) (off : Nat) : Nat × Nat := (beField l off 2, beField l (off + 2) 1)

/-- A body of count items of a size is whole (R490). -/
def itemsWhole (size : Nat) (body : List Byte) : Bool :=
  let n := beField body 0 1
  decide (1 ≤ n) && decide (n ≤ 16) && decide (4 + n * size ≤ body.length)

/-- The body of a READ is served: its reply (R486, R491). -/
def State.serveRead (cls : Nat) (body : List Byte) (s : State) : List Byte × State :=
  let n := beField body 0 1
  let r := (List.range n).foldl (fun (p : List Byte × State) i =>
    let a := itemAt body (4 + 4 * i)
    let v := p.2.readItem cls a.1 a.2
    (p.1 ++ slice body (4 + 4 * i) 4 ++ v.1, v.2)) ([], s)
  (beBytes 1 n ++ [0#8, 0#8, 0#8] ++ r.1, r.2)

/-- The value a WRITE takes from a slot: of a STR the bytes up to the first zero byte (R491). -/
def slotValue (ix sub : Nat) (slot : List Byte) : List Byte :=
  match objRow ix sub with
  | some r => if r.ty = .str then slot.takeWhile (· != 0#8) else slot
  | none => slot

/-- One item of a WRITE: its run number (R486, R491).  A DOMAIN is not written. -/
def State.writeItem (bar2 : Bool) (cls ix sub : Nat) (slot : List Byte) (s : State) : Nat × State :=
  if isDomain ix sub then (0, s)
  else (s.runOf cls ix sub, s.writeObject bar2 cls ix sub (slotValue ix sub slot))

/-- The body of a WRITE is served: its reply (R486, R491). -/
def State.serveWrite (bar2 : Bool) (cls : Nat) (body : List Byte) (s : State) : List Byte × State :=
  let n := beField body 0 1
  let r := (List.range n).foldl (fun (p : List Byte × State) i =>
    let a := itemAt body (4 + 68 * i)
    let v := p.2.writeItem bar2 cls a.1 a.2 (slice body (8 + 68 * i) 64)
    (p.1 ++ slice body (4 + 68 * i) 4 ++ beBytes 4 v.1, v.2)) ([], s)
  (beBytes 1 n ++ [0#8, 0#8, 0#8] ++ r.1, r.2)

/-- A DOMAIN_READ body is whole: 1 to 1,024 bytes asked for. -/
def domainReadWhole (body : List Byte) : Bool :=
  decide (16 ≤ body.length) && decide (1 ≤ beField body 12 2) && decide (beField body 12 2 ≤ 1024)

/-- The body of a DOMAIN_READ is served (R482, R490). -/
def State.serveDomainRead (c : Caller) (cls : Nat) (body : List Byte) (s : State) : List Byte × State :=
  let a := itemAt body 0
  let r := s.readDomain c cls a.1 a.2 (bit (beField body 4 1) 0) (beField body 8 4) (beField body 12 2)
  (slice body 0 4 ++ beBytes 4 r.1.1 ++ beBytes 4 r.1.2.1 ++ beBytes 2 r.1.2.2.length ++ [0#8, 0#8] ++ r.1.2.2, r.2)

/-- A DOMAIN_WRITE body is whole: at most 1,024 bytes, all there. -/
def domainWriteWhole (body : List Byte) : Bool :=
  decide (16 ≤ body.length) && decide (beField body 12 2 ≤ 1024) && decide (16 + beField body 12 2 ≤ body.length)

/-- The body of a DOMAIN_WRITE is served (R483, R490). -/
def State.serveDomainWrite (c : Caller) (cls : Nat) (body : List Byte) (s : State) : List Byte × State :=
  let a := itemAt body 0
  let f := beField body 4 1
  let r := s.stageDomain c cls a.1 a.2 (bit f 0) (bit f 1) (beField body 8 4) (slice body 16 (beField body 12 2))
  (slice body 0 4 ++ beBytes 4 r.1, r.2)

/-! ### Sessions (R490 to R496) -/

/-- A path reaches the dictionary (R485): the gatehouse serves the field network while it is powered; the management VLAN needs its
VID, its link and the object dictionary server. -/
def State.pathUp (s : State) (vlan : Option Nat) : Bool :=
  s.gh.powered && vlan.all fun l => s.dict.scope && s.get Obj.pc_mgmt_vid != 0 && decide (l < 32) && (s.link l).up

/-- A tagged message on a session (R490): served where session, tag and counter pass and the body is whole, and answered. -/
def State.request (m : FieldMsg) (type reply : Nat) (body : List Byte) (whole : Bool)
    (serve : Session → State → List Byte × State) (s0 : State) : State :=
  if !s0.pathUp m.vlan then s0
  else
    let s := s0.fieldGot m.vlan (msgBytes body true)
    match s.session? m.session with
    | none => s.tick Obj.fw_tag_failures
    | some x =>
      if !x.opened || x.vlan != m.vlan || m.tag != msgTag x.ks type m.session m.counter m.request body then
        s.tick Obj.fw_tag_failures
      else if m.counter ≤ x.rx then s.tick Obj.fw_counter_drops
      else if !whole then s
      else
        let s1 := s.modSession m.session fun y => { y with rx := m.counter, last := s.gh.now }
        let r := serve x s1
        match r.2.session? m.session with
        | none => r.2
        | some y =>
          (r.2.modSession m.session fun z => { z with tx := y.tx + 1 }).tagSend y.vlan y.ks y.id reply (y.tx + 1) m.request r.1

/-- FIELD_READ: a READ message (R486, R490). -/
def execFieldRead (m : FieldMsg) (body : List Byte) (s : State) : Host.Outcome State Fault Refusal :=
  .next (s.request m 0x10 0x11 body (itemsWhole 4 body) fun x t => t.serveRead x.cls body)

/-- FIELD_WRITE: a WRITE message (R486, R490). -/
def execFieldWrite (m : FieldMsg) (body : List Byte) (s : State) : Host.Outcome State Fault Refusal :=
  .next (s.request m 0x12 0x13 body (itemsWhole 68 body) fun x t => t.serveWrite false x.cls body)

/-- DOMAIN_READ (R482). -/
def execDomainRead (m : FieldMsg) (body : List Byte) (s : State) : Host.Outcome State Fault Refusal :=
  .next (s.request m 0x14 0x15 body (domainReadWhole body) fun x t => t.serveDomainRead (.session x.id) x.cls body)

/-- DOMAIN_WRITE (R483). -/
def execDomainWrite (m : FieldMsg) (body : List Byte) (s : State) : Host.Outcome State Fault Refusal :=
  .next (s.request m 0x16 0x17 body (domainWriteWhole body) fun x t => t.serveDomainWrite (.session x.id) x.cls body)

/-- GB_WINDOW_READ (R528): a DOMAIN_READ of gb_window or gb_gate_window. -/
def execGbWindowRead (m : FieldMsg) (body : List Byte) (s : State) : Host.Outcome State Fault Refusal :=
  let a := itemAt body 0
  .next (if a.1 = Obj.gb_window ∨ a.1 = Obj.gb_gate_window then
    s.request m 0x14 0x15 body (domainReadWhole body) fun x t => t.serveDomainRead (.session x.id) x.cls body
  else s)

/-- A session id that is not 0 and not in use, from a free value on (R493; log entry 9). -/
def State.freeSession (s : State) : Nat :=
  let used := s.si.wardenId :: s.dict.sessions.map (·.id)
  ((List.range 16).find? fun k => (s.freeVal 32 + k) % 2 ^ 32 != 0 && !used.contains ((s.freeVal 32 + k) % 2 ^ 32)).elim 1
    fun k => (s.freeVal 32 + k) % 2 ^ 32

/-- HELLO (R493, R494, R496): an entry of role 0 whose digest is that of the key opens a session and draws a CHALLENGE; an unknown
key, or a ninth session, is a failure and silence. -/
def execHello (vlan : Option Nat) (nonce cls : Nat) (key : List Byte) (s0 : State) : Host.Outcome State Fault Refusal :=
  .next (if !s0.pathUp vlan || key.length != 2592 then s0
  else
    let hello := beBytes 32 nonce ++ beBytes 1 cls ++ [0#8, 0#8, 0#8] ++ key
    let s := s0.fieldGot vlan (msgBytes hello false)
    match s.credential 0 key with
    | none => s.tick Obj.fw_auth_failures
    | some e =>
      if 8 ≤ s.dict.sessions.length then s.tick Obj.fw_auth_failures
      else
        let id := s.freeSession
        let s1 := s.drawn
        let nonceD := beBytes 32 (s1.freeVal 256)
        let upTo := nonceD ++ Config.deviceKey
        let signature := Config.mldsaSign "KA2460 FIELD D" (sha3Bytes (hello ++ upTo))
        let x : Session := {
          id := id, credential := e, vlan := vlan, asked := cls, key := key, last := s.gh.now,
          hello := sha3Bytes (hello ++ upTo ++ signature), nonces := beBytes 32 nonce ++ nonceD }
        (s1.drawn.modDict fun d => { d with sessions := d.sessions ++ [x] }).fieldSend vlan id 2 0 0 (upTo ++ signature) none)

/-- AUTH (R492, R493): the caller's signature opens the session with AUTH_OK, counter 1; its class is the lower of the one asked
for and the entry's. -/
def execAuth (session : Nat) (signature : List Byte) (s0 : State) : Host.Outcome State Fault Refusal :=
  let vlan : Option Nat := (s0.session? session).elim none (·.vlan)
  .next (if !s0.pathUp vlan then s0
  else
    let s := s0.fieldGot vlan (msgBytes signature false)
    match s.session? session with
    | none => s.tick Obj.fw_tag_failures
    | some x =>
      if x.opened then s.tick Obj.fw_tag_failures
      else if Config.mldsaVerify x.key "KA2460 FIELD C" x.hello signature then
        let ks := sessionKey (s.credSecret x.credential) x.nonces session
        let cls := Nat.min x.asked (s.get Obj.fw_cred_class (x.credential + 1))
        (s.modSession session fun y => { y with opened := true, ks := ks, cls := cls, tx := 1, last := s.gh.now }).tagSend vlan ks
          session 4 1 0 (beBytes 1 cls ++ [0#8, 0#8, 0#8] ++ beBytes 4 (s.get Obj.fw_session_idle))
      else (s.endSession session none).tick Obj.fw_auth_failures)

/-- AUTH_TIMEOUT (R493): no AUTH within 2 s of the CHALLENGE. -/
def execAuthTimeout (session : Nat) (s : State) : Host.Outcome State Fault Refusal :=
  .next (match s.session? session with
  | some x =>
    if x.opened ∨ s.gh.now < x.last + 2000000000 then s else (s.endSession session none).tick Obj.fw_auth_failures
  | none => s)

/-- CLOSE (R490): a tagged CLOSE of the caller ends its session, one of the warden ends the session to it. -/
def execClose (m : FieldMsg) (body : List Byte) (s0 : State) : Host.Outcome State Fault Refusal :=
  .next (if !s0.pathUp m.vlan then s0
  else
    let s := s0.fieldGot m.vlan (msgBytes body true)
    if m.vlan.isNone && s.si.wardenSession == 3 && s.si.wardenId == m.session then
      if m.tag != msgTag s.si.wardenKs 5 m.session m.counter m.request body then s.tick Obj.fw_tag_failures
      else if m.counter ≤ s.si.wardenRx then s.tick Obj.fw_counter_drops
      else if body.isEmpty then s else s.modSi fun i => { i with wardenSession := 0 }
    else
      match s.session? m.session with
      | none => s.tick Obj.fw_tag_failures
      | some x =>
        if !x.opened || x.vlan != m.vlan || m.tag != msgTag x.ks 5 m.session m.counter m.request body then
          s.tick Obj.fw_tag_failures
        else if m.counter ≤ x.rx then s.tick Obj.fw_counter_drops
        else if body.isEmpty then s else s.endSession m.session none)

/-- SESSION_IDLE (R494): no accepted message for fw_session_idle. -/
def execSessionIdle (session : Nat) (s : State) : Host.Outcome State Fault Refusal :=
  .next (match s.session? session with
  | some x =>
    if x.opened ∧ x.last + s.get Obj.fw_session_idle * 1000000 ≤ s.gh.now then s.endSession session (some 1) else s
  | none => s)

/-- STAGING_TIMEOUT (R483): 10 s without a fragment; none names BAR2. -/
def execStagingTimeout (session : Option Nat) (s : State) : Host.Outcome State Fault Refusal :=
  let c := match session with
    | some id => Caller.session id
    | none => .bar2
  .next (match s.stagedBy c with
  | some x => if x.last + 10000000000 ≤ s.gh.now then s.setStaged c none else s
  | none => s)

/-- REASSEMBLY_TIMEOUT (R488): a datagram not complete within 100 ms, or beyond 16,384 bytes, is discarded. -/
def execReassemblyTimeout (source : Nat) (s : State) : Host.Outcome State Fault Refusal :=
  .next (if s.gh.powered then
    (s.modDict fun d => { d with reassembly := d.reassembly.filter fun x => x.1 != source }).tick Obj.gh_field_rx_drops
  else s)

/-- NEIGHBOUR_DISCOVERY (R488): answered for the controller's own address only. -/
def execNeighbourDiscovery (address : Nat) (s : State) : Host.Outcome State Fault Refusal :=
  .next (if s.gh.powered then
    let s1 := s.fieldGot none 64
    if address = beNat fieldAddress then (s1.count Obj.gh_field_tx_frames 0 1).emit (.neighbour address) else s1
  else s)

/-! ### Single accesses as commands (R385, R476, R492, R507) -/

/-- OBJECT_WRITE (R476): a write of one value by a caller of a class. -/
def execObjectWrite (cls ix sub : Nat) (value : List Byte) (s : State) : Host.Outcome State Fault Refusal :=
  .next (if isDomain ix sub then s.writeDomain cls ix sub value else s.writeObject false cls ix sub value)

/-- CREDENTIAL_WRITE (R492). -/
def execCredentialWrite (cls ix sub : Nat) (value : List Byte) (s : State) : Host.Outcome State Fault Refusal :=
  .next (if isCredential ix then s.writeCredential cls ix sub value else s)

/-- STATISTICS_READ (R385): the value of a statistics object leaves, and its count is cleared. -/
def execStatisticsRead (cls ix sub : Nat) (s : State) : Host.Outcome State Fault Refusal :=
  let r := s.readItem cls ix sub
  .next (r.2.emit (.value ix sub r.1))

/-- EP_BAR2_CLASS_WRITE (R507). -/
def execEpBar2ClassWrite (bar2 : Bool) (cls value : Nat) (s : State) : Host.Outcome State Fault Refusal :=
  .next (s.bar2ClassWrite bar2 cls value)

/-! ### The BAR2 mailbox (R497, R507, R510) -/

/-- Serve a request of the mailbox: its reply, empty where the type or the body is none of R490's. -/
def State.serveBar2 (type : Nat) (body : List Byte) (s : State) : List Byte × State :=
  let cls := s.get Obj.ep_bar2_class
  if type = 0x10 ∧ itemsWhole 4 body then s.serveRead cls body
  else if type = 0x12 ∧ itemsWhole 68 body then s.serveWrite true cls body
  else if type = 0x14 ∧ domainReadWhole body then s.serveDomainRead .bar2 cls body
  else if type = 0x16 ∧ domainWriteWhole body then s.serveDomainWrite .bar2 cls body
  else ([], s)

/-- BAR2_DOORBELL (R497, R507, R510): the request in the mailbox is served with class ep_bar2_class, and as busy falls vector 63 is
raised.  It is served within the command (log entry 66). -/
def execBar2Doorbell (type : Nat) (body : List Byte) (s : State) : Host.Outcome State Fault Refusal :=
  .next (if s.epOpen && s.dict.scope && decide (body.length ≤ 4096) then
    let s1 := s.modDict fun d => { d with bar2Request := body }
    let r := s1.serveBar2 type body
    let s2 := r.2.modDict fun d => { d with bar2Reply := r.1 }
    if s2.ep.msix then s2.msixRaise 63 else s2
  else s)

end Sys2Proof.Machine
end

