-- ==== Sys2Proof/Machine/Dispatch.lean ====
section
/-! DEFINITION. One arm per command. -/

namespace Sys2Proof.Machine

/-- The effect of a command on everything but the queue. -/
def exec (i : Instr) (s : State) : Host.Outcome State Fault Refusal :=
  match i with
  | .legBoundary => Sys2Proof.Machine.execLegBoundary s
  | .refclkLoss => Sys2Proof.Machine.execRefclkLoss s
  | .refclkRelock => Sys2Proof.Machine.execRefclkRelock s
  | .holdoverEnd => Sys2Proof.Machine.execHoldoverEnd s
  | .noneCmd slot lane word => Sys2Proof.Machine.execNoneCmd slot lane word s
  | .netIn slot lane word => Sys2Proof.Machine.execNetIn slot lane word s
  | .netOut slot lane word bytes => Sys2Proof.Machine.execNetOut slot lane word bytes s
  | .cipher slot lane word good => Sys2Proof.Machine.execCipher slot lane word good s
  | .driveIn slot lane word => Sys2Proof.Machine.execDriveIn slot lane word s
  | .driveOut slot lane word => Sys2Proof.Machine.execDriveOut slot lane word s
  | .parityIn slot lane word => Sys2Proof.Machine.execParityIn slot lane word s
  | .parityOut slot lane word => Sys2Proof.Machine.execParityOut slot lane word s
  | .sisterOut slot lane word => Sys2Proof.Machine.execSisterOut slot lane word s
  | .sisterIn slot lane word => Sys2Proof.Machine.execSisterIn slot lane word s
  | .cacheRd slot lane word => Sys2Proof.Machine.execCacheRd slot lane word s
  | .cacheWr slot lane word => Sys2Proof.Machine.execCacheWr slot lane word s
  | .context slot lane word => Sys2Proof.Machine.execContext slot lane word s
  | .journal slot lane word => Sys2Proof.Machine.execJournal slot lane word s
  | .endpoint slot lane word => Sys2Proof.Machine.execEndpoint slot lane word s
  | .vault slot lane word => Sys2Proof.Machine.execVault slot lane word s
  | .control slot lane word => Sys2Proof.Machine.execControl slot lane word s
  | .dump slot lane word => Sys2Proof.Machine.execDump slot lane word s
  | .shadowImageEnd cls image => Sys2Proof.Machine.execShadowImageEnd cls image s
  | .ttCheck cls value => Sys2Proof.Machine.execTtCheck cls value s
  | .ttCheckDone => Sys2Proof.Machine.execTtCheckDone s
  | .ttSwitch cls value => Sys2Proof.Machine.execTtSwitch cls value s
  | .ttSwitchDigestDone => Sys2Proof.Machine.execTtSwitchDigestDone s
  | .ttSwitchClassEmpty => Sys2Proof.Machine.execTtSwitchClassEmpty s
  | .ttSwitchClassTimeout => Sys2Proof.Machine.execTtSwitchClassTimeout s
  | .ttShadowToF1 cls value => Sys2Proof.Machine.execTtShadowToF1 cls value s
  | .capsuleAccept p => Sys2Proof.Machine.execCapsuleAccept p s
  | .fullStripeIssue arrival stripe => Sys2Proof.Machine.execFullStripeIssue arrival stripe s
  | .copyAckTimeout leg => Sys2Proof.Machine.execCopyAckTimeout leg s
  | .applyStart nsid stripe => Sys2Proof.Machine.execApplyStart nsid stripe s
  | .driveCompletion bay queue cid good d => Sys2Proof.Machine.execDriveCompletion bay queue cid good d s
  | .blockFix arrival lba => Sys2Proof.Machine.execBlockFix arrival lba s
  | .readHedge arrival lba => Sys2Proof.Machine.execReadHedge arrival lba s
  | .readRoomHoldExpiry arrival => Sys2Proof.Machine.execReadRoomHoldExpiry arrival s
  | .roomRdmaRead p => Sys2Proof.Machine.execRoomRdmaRead p s
  | .bayContain bay cause => Sys2Proof.Machine.execBayContain bay cause s
  | .returnEvent wing bay => Sys2Proof.Machine.execReturnEvent wing bay s
  | .rebuildStripe => Sys2Proof.Machine.execRebuildStripe s
  | .rebuildStripeDone nsid stripe => Sys2Proof.Machine.execRebuildStripeDone nsid stripe s
  | .patrolStripe wing => Sys2Proof.Machine.execPatrolStripe wing s
  | .patrolRewrite => Sys2Proof.Machine.execPatrolRewrite s
  | .peRebuildRateWrite cls value => Sys2Proof.Machine.execPeRebuildRateWrite cls value s
  | .pePatrolEnableWrite cls value => Sys2Proof.Machine.execPePatrolEnableWrite cls value s
  | .pePatrolLogClear cls value => Sys2Proof.Machine.execPePatrolLogClear cls value s
  | .pfTrip seen => Sys2Proof.Machine.execPfTrip seen s
  | .flushEndPage mw => Sys2Proof.Machine.execFlushEndPage mw s
  | .bankFloorReached => Sys2Proof.Machine.execBankFloorReached s
  | .comparatorSuspect comparator => Sys2Proof.Machine.execComparatorSuspect comparator s
  | .journalRecordHeld wing jseq => Sys2Proof.Machine.execJournalRecordHeld wing jseq s
  | .descriptorCommit => Sys2Proof.Machine.execDescriptorCommit s
  | .lgLedgerSizeWrite cls value => Sys2Proof.Machine.execLgLedgerSizeWrite cls value s
  | .lgFlushProfileWrite cls value => Sys2Proof.Machine.execLgFlushProfileWrite cls value s
  | .sisterSbTx lines => Sys2Proof.Machine.execSisterSbTx lines s
  | .sisterSbRx frame lines => Sys2Proof.Machine.execSisterSbRx frame lines s
  | .sidebandSilent lines => Sys2Proof.Machine.execSidebandSilent lines s
  | .bayOwnerRelease => Sys2Proof.Machine.execBayOwnerRelease s
  | .legPacketRx frames => Sys2Proof.Machine.execLegPacketRx frames s
  | .legPacketAck frame => Sys2Proof.Machine.execLegPacketAck frame s
  | .legPacketNak frame => Sys2Proof.Machine.execLegPacketNak frame s
  | .holderSilence wing => Sys2Proof.Machine.execHolderSilence wing s
  | .wardenGrant m wing claim lease => Sys2Proof.Machine.execWardenGrant m wing claim lease s
  | .wardenRefuse m wing claim lease => Sys2Proof.Machine.execWardenRefuse m wing claim lease s
  | .wardenTimeout wing => Sys2Proof.Machine.execWardenTimeout wing s
  | .holdoffExpiry wing key => Sys2Proof.Machine.execHoldoffExpiry wing key s
  | .renew => Sys2Proof.Machine.execRenew s
  | .reservationConflict bay queue cid key => Sys2Proof.Machine.execReservationConflict bay queue cid key s
  | .driveWon wing bay holder keys good => Sys2Proof.Machine.execDriveWon wing bay holder keys good s
  | .preemptTimeout wing => Sys2Proof.Machine.execPreemptTimeout wing s
  | .quorumRetry wing => Sys2Proof.Machine.execQuorumRetry wing s
  | .resyncReq frame => Sys2Proof.Machine.execResyncReq frame s
  | .resyncDone frame => Sys2Proof.Machine.execResyncDone frame s
  | .siHandback cls value => Sys2Proof.Machine.execSiHandback cls value s
  | .handback frame => Sys2Proof.Machine.execHandback frame s
  | .handbackTimeout wing => Sys2Proof.Machine.execHandbackTimeout wing s
  | .siPromote cls value => Sys2Proof.Machine.execSiPromote cls value s
  | .cmReq priv hostQpn link resources depth mtu => Sys2Proof.Machine.execCmReq priv hostQpn link resources depth mtu s
  | .rdmaReadResponse p => Sys2Proof.Machine.execRdmaReadResponse p s
  | .rdmaWritePush p => Sys2Proof.Machine.execRdmaWritePush p s
  | .acknowledge p => Sys2Proof.Machine.execAcknowledge p s
  | .cnp p => Sys2Proof.Machine.execCnp p s
  | .sack p => Sys2Proof.Machine.execSack p s
  | .sackInterval qpn => Sys2Proof.Machine.execSackInterval qpn s
  | .spreadTimeout qpn msg => Sys2Proof.Machine.execSpreadTimeout qpn msg s
  | .ackTimeout qpn => Sys2Proof.Machine.execAckTimeout qpn s
  | .trRekey cls qpn => Sys2Proof.Machine.execTrRekey cls qpn s
  | .rekeyOverlapEnd qpn => Sys2Proof.Machine.execRekeyOverlapEnd qpn s
  | .contextFetchDone qpn => Sys2Proof.Machine.execContextFetchDone qpn s
  | .waitEntryTimeout queue => Sys2Proof.Machine.execWaitEntryTimeout queue s
  | .fabricsConnect c => Sys2Proof.Machine.execFabricsConnect c s
  | .propertyGet src cid offset => Sys2Proof.Machine.execPropertyGet src cid offset s
  | .propertySet src cid offset value => Sys2Proof.Machine.execPropertySet src cid offset value s
  | .disconnect src cid => Sys2Proof.Machine.execDisconnect src cid s
  | .identifyController src cid cns => Sys2Proof.Machine.execIdentifyController src cid cns s
  | .identifyNamespace src cid nsid => Sys2Proof.Machine.execIdentifyNamespace src cid nsid s
  | .activeNamespaceList src cid nsid => Sys2Proof.Machine.execActiveNamespaceList src cid nsid s
  | .namespaceDescriptorList src cid nsid => Sys2Proof.Machine.execNamespaceDescriptorList src cid nsid s
  | .getLogPage src cid lid nsid offset length rae => Sys2Proof.Machine.execGetLogPage src cid lid nsid offset length rae s
  | .setFeatures src cid fid nsid value save => Sys2Proof.Machine.execSetFeatures src cid fid nsid value save s
  | .getFeatures src cid fid nsid sel => Sys2Proof.Machine.execGetFeatures src cid fid nsid sel s
  | .firmwareImageDownload src cid offset data => Sys2Proof.Machine.execFirmwareImageDownload src cid offset data s
  | .firmwareCommit src cid action slot => Sys2Proof.Machine.execFirmwareCommit src cid action slot s
  | .firmwareActivationReady => Sys2Proof.Machine.execFirmwareActivationReady s
  | .mtfaTimeout => Sys2Proof.Machine.execMtfaTimeout s
  | .abortCmd src cid sqid target => Sys2Proof.Machine.execAbortCmd src cid sqid target s
  | .keepAlive src cid => Sys2Proof.Machine.execKeepAlive src cid s
  | .katoExpiry assoc => Sys2Proof.Machine.execKatoExpiry assoc s
  | .asynchronousEventRequest src cid => Sys2Proof.Machine.execAsynchronousEventRequest src cid s
  | .readCmd arrival => Sys2Proof.Machine.execReadCmd arrival s
  | .writeCmd arrival => Sys2Proof.Machine.execWriteCmd arrival s
  | .flushCmd arrival => Sys2Proof.Machine.execFlushCmd arrival s
  | .writeZeroes arrival => Sys2Proof.Machine.execWriteZeroes arrival s
  | .datasetManagement arrival => Sys2Proof.Machine.execDatasetManagement arrival s
  | .reservationRegister arrival => Sys2Proof.Machine.execReservationRegister arrival s
  | .reservationAcquire arrival => Sys2Proof.Machine.execReservationAcquire arrival s
  | .reservationRelease arrival => Sys2Proof.Machine.execReservationRelease arrival s
  | .reservationReport arrival => Sys2Proof.Machine.execReservationReport arrival s
  | .roomOpen arrival => Sys2Proof.Machine.execRoomOpen arrival s
  | .roomModify arrival => Sys2Proof.Machine.execRoomModify arrival s
  | .roomClose arrival => Sys2Proof.Machine.execRoomClose arrival s
  | .roomCloseTimeout room => Sys2Proof.Machine.execRoomCloseTimeout room s
  | .cePowerStateSet cls value => Sys2Proof.Machine.execCePowerStateSet cls value s
  | .ps2EntryComplete => Sys2Proof.Machine.execPs2EntryComplete s
  | .psEntryLimitExpiry => Sys2Proof.Machine.execPsEntryLimitExpiry s
  | .ceNsCreate cls value => Sys2Proof.Machine.execCeNsCreate cls value s
  | .ceNsDelete cls value => Sys2Proof.Machine.execCeNsDelete cls value s
  | .nsPartyMaskWrite cls nsid value => Sys2Proof.Machine.execNsPartyMaskWrite cls nsid value s
  | .driveIoTimeout bay queue cid => Sys2Proof.Machine.execDriveIoTimeout bay queue cid s
  | .driveAdminTimeout bay cid => Sys2Proof.Machine.execDriveAdminTimeout bay cid s
  | .driveAbortWaitExpiry bay queue cid => Sys2Proof.Machine.execDriveAbortWaitExpiry bay queue cid s
  | .ceBayContain cls value => Sys2Proof.Machine.execCeBayContain cls value s
  | .driveExamine bay => Sys2Proof.Machine.execDriveExamine bay s
  | .driveExamineDone bay size link fit queues cache content => Sys2Proof.Machine.execDriveExamineDone bay size link fit queues cache content s
  | .driveExamineTimeout bay => Sys2Proof.Machine.execDriveExamineTimeout bay s
  | .ceBayRelease cls value => Sys2Proof.Machine.execCeBayRelease cls value s
  | .ceBayAccept cls value => Sys2Proof.Machine.execCeBayAccept cls value s
  | .rxFrameHead link head => Sys2Proof.Machine.execRxFrameHead link head s
  | .rxFrameEnd frame len fcs corrected uncorrected => Sys2Proof.Machine.execRxFrameEnd frame len fcs corrected uncorrected s
  | .pauseFrame link quanta => Sys2Proof.Machine.execPauseFrame link quanta s
  | .pfcFrame link mask quanta => Sys2Proof.Machine.execPfcFrame link mask quanta s
  | .pauseExpiry link tc => Sys2Proof.Machine.execPauseExpiry link tc s
  | .pauseStorm link tc => Sys2Proof.Machine.execPauseStorm link tc s
  | .pfcRefresh link => Sys2Proof.Machine.execPfcRefresh link s
  | .txFrameBoundary link stomp => Sys2Proof.Machine.execTxFrameBoundary link stomp s
  | .linkDown link => Sys2Proof.Machine.execLinkDown link s
  | .linkUp link => Sys2Proof.Machine.execLinkUp link s
  | .ptpSync link offset => Sys2Proof.Machine.execPtpSync link offset s
  | .ptpLoss => Sys2Proof.Machine.execPtpLoss s
  | .statisticsRead cls ix sub => Sys2Proof.Machine.execStatisticsRead cls ix sub s
  | .draw port pool half owner => Sys2Proof.Machine.execDraw port pool half owner s
  | .drawBySize size half unit => Sys2Proof.Machine.execDrawBySize size half unit s
  | .shareCmd handle unit => Sys2Proof.Machine.execShareCmd handle unit s
  | .releaseCmd handle unit => Sys2Proof.Machine.execReleaseCmd handle unit s
  | .freeCmd handle unit => Sys2Proof.Machine.execFreeCmd handle unit s
  | .handover handle unit dest => Sys2Proof.Machine.execHandover handle unit dest s
  | .cyOwnerRootWrite cls value => Sys2Proof.Machine.execCyOwnerRootWrite cls value s
  | .cyHostKeyDerive cls value => Sys2Proof.Machine.execCyHostKeyDerive cls value s
  | .keyDerivationDone => Sys2Proof.Machine.execKeyDerivationDone s
  | .cyCoreReset cls value => Sys2Proof.Machine.execCyCoreReset cls value s
  | .coreFault core passes pulls => Sys2Proof.Machine.execCoreFault core passes pulls s
  | .ghTick t => Sys2Proof.Machine.execGhTick t s
  | .feedValid feed => Sys2Proof.Machine.execFeedValid feed s
  | .feedMake => Sys2Proof.Machine.execFeedMake s
  | .feedReturn feed => Sys2Proof.Machine.execFeedReturn feed s
  | .faultTimerExpiry switch => Sys2Proof.Machine.execFaultTimerExpiry switch s
  | .pgTimeout switch => Sys2Proof.Machine.execPgTimeout switch s
  | .offTimeEnd switch => Sys2Proof.Machine.execOffTimeEnd switch s
  | .accumulatorClear switch => Sys2Proof.Machine.execAccumulatorClear switch s
  | .tripCountClear switch => Sys2Proof.Machine.execTripCountClear switch s
  | .ghBoardUnlatch cls value => Sys2Proof.Machine.execGhBoardUnlatch cls value s
  | .ghBayUnlatch cls bay => Sys2Proof.Machine.execGhBayUnlatch cls bay s
  | .presenceDebounced bay => Sys2Proof.Machine.execPresenceDebounced bay s
  | .bayStagger => Sys2Proof.Machine.execBayStagger s
  | .carrierRemoval bay => Sys2Proof.Machine.execCarrierRemoval bay s
  | .bayEmptyClear bay => Sys2Proof.Machine.execBayEmptyClear bay s
  | .ghBayEnableWrite cls bay value => Sys2Proof.Machine.execGhBayEnableWrite cls bay value s
  | .measurementSample => Sys2Proof.Machine.execMeasurementSample s
  | .bankPublish => Sys2Proof.Machine.execBankPublish s
  | .chargeTargetReached => Sys2Proof.Machine.execChargeTargetReached s
  | .chargeTimeout => Sys2Proof.Machine.execChargeTimeout s
  | .ghBankEnergyCeilingWrite cls value => Sys2Proof.Machine.execGhBankEnergyCeilingWrite cls value s
  | .bankBleedDone => Sys2Proof.Machine.execBankBleedDone s
  | .capacitanceMeasure => Sys2Proof.Machine.execCapacitanceMeasure s
  | .ghBankMeasure cls value => Sys2Proof.Machine.execGhBankMeasure cls value s
  | .bankMeasureDone c esr => Sys2Proof.Machine.execBankMeasureDone c esr s
  | .railSequence => Sys2Proof.Machine.execRailSequence s
  | .railPgTimeout => Sys2Proof.Machine.execRailPgTimeout s
  | .railFault rail => Sys2Proof.Machine.execRailFault rail s
  | .shelfTimeSave => Sys2Proof.Machine.execShelfTimeSave s
  | .ptpCompare => Sys2Proof.Machine.execPtpCompare s
  | .ghTimeSet cls value => Sys2Proof.Machine.execGhTimeSet cls value s
  | .gatehousePowerOnReset pin => Sys2Proof.Machine.execGatehousePowerOnReset pin s
  | .vigilExit => Sys2Proof.Machine.execVigilExit s
  | .fwStart cls value => Sys2Proof.Machine.execFwStart cls value s
  | .musterStepEnd step r => Sys2Proof.Machine.execMusterStepEnd step r s
  | .warmReset roots => Sys2Proof.Machine.execWarmReset roots s
  | .fwWarmReset cls value => Sys2Proof.Machine.execFwWarmReset cls value s
  | .fwShutdown cls value => Sys2Proof.Machine.execFwShutdown cls value s
  | .shutdownTimeout => Sys2Proof.Machine.execShutdownTimeout s
  | .fwRecoveryImage cls data => Sys2Proof.Machine.execFwRecoveryImage cls data s
  | .fwOwnerKeyWrite cls value => Sys2Proof.Machine.execFwOwnerKeyWrite cls value s
  | .fwConfirmExpiry => Sys2Proof.Machine.execFwConfirmExpiry s
  | .fwUnitReset cls value => Sys2Proof.Machine.execFwUnitReset cls value s
  | .unitReady unit => Sys2Proof.Machine.execUnitReady unit s
  | .unitReadyLimit unit => Sys2Proof.Machine.execUnitReadyLimit unit s
  | .stewardWatchdog steward => Sys2Proof.Machine.execStewardWatchdog steward s
  | .thermalTrip die => Sys2Proof.Machine.execThermalTrip die s
  | .drvPerstRelease bay => Sys2Proof.Machine.execDrvPerstRelease bay s
  | .hello vlan nonce cls key => Sys2Proof.Machine.execHello vlan nonce cls key s
  | .auth session signature => Sys2Proof.Machine.execAuth session signature s
  | .authTimeout session => Sys2Proof.Machine.execAuthTimeout session s
  | .close m body => Sys2Proof.Machine.execClose m body s
  | .sessionIdle session => Sys2Proof.Machine.execSessionIdle session s
  | .fieldRead m body => Sys2Proof.Machine.execFieldRead m body s
  | .fieldWrite m body => Sys2Proof.Machine.execFieldWrite m body s
  | .objectWrite cls ix sub value => Sys2Proof.Machine.execObjectWrite cls ix sub value s
  | .domainRead m body => Sys2Proof.Machine.execDomainRead m body s
  | .domainWrite m body => Sys2Proof.Machine.execDomainWrite m body s
  | .stagingTimeout session => Sys2Proof.Machine.execStagingTimeout session s
  | .reassemblyTimeout source => Sys2Proof.Machine.execReassemblyTimeout source s
  | .credentialWrite cls ix sub value => Sys2Proof.Machine.execCredentialWrite cls ix sub value s
  | .bar2Doorbell type body => Sys2Proof.Machine.execBar2Doorbell type body s
  | .epBar2ClassWrite bar2 cls value => Sys2Proof.Machine.execEpBar2ClassWrite bar2 cls value s
  | .epDoorbell qid cq value => Sys2Proof.Machine.execEpDoorbell qid cq value s
  | .createIoSubmissionQueue src cid qid size cqid pc base => Sys2Proof.Machine.execCreateIoSubmissionQueue src cid qid size cqid pc base s
  | .createIoCompletionQueue src cid qid size vector pc ien base => Sys2Proof.Machine.execCreateIoCompletionQueue src cid qid size vector pc ien base s
  | .deleteIoSubmissionQueue src cid qid => Sys2Proof.Machine.execDeleteIoSubmissionQueue src cid qid s
  | .deleteIoCompletionQueue src cid qid => Sys2Proof.Machine.execDeleteIoCompletionQueue src cid qid s
  | .epReadCompletion tag good data cap => Sys2Proof.Machine.execEpReadCompletion tag good data cap s
  | .epCompletionTimeout tag => Sys2Proof.Machine.execEpCompletionTimeout tag s
  | .epError uncorrectable errBit header regs => Sys2Proof.Machine.execEpError uncorrectable errBit header regs s
  | .busMasterClear mem => Sys2Proof.Machine.execBusMasterClear mem s
  | .busMasterSet mem mrrs => Sys2Proof.Machine.execBusMasterSet mem mrrs s
  | .functionLevelReset cause => Sys2Proof.Machine.execFunctionLevelReset cause s
  | .epResetDone link => Sys2Proof.Machine.execEpResetDone link s
  | .d3hotEntry => Sys2Proof.Machine.execD3hotEntry s
  | .interruptModeChange msix fnMask intxDisable intms => Sys2Proof.Machine.execInterruptModeChange msix fnMask intxDisable intms s
  | .gbClear cls value => Sys2Proof.Machine.execGbClear cls value s
  | .gateCopy => Sys2Proof.Machine.execGateCopy s
  | .gbWindowRead m body => Sys2Proof.Machine.execGbWindowRead m body s
  | .clusterDump => Sys2Proof.Machine.execClusterDump s
  | .counterConfigWrite cls block entry value => Sys2Proof.Machine.execCounterConfigWrite cls block entry value s
  | .filterWrite cls slot value => Sys2Proof.Machine.execFilterWrite cls slot value s
  | .tallySave => Sys2Proof.Machine.execTallySave s
  | .gatehousePowerLoss => Sys2Proof.Machine.execGatehousePowerLoss s
  | .challenge session nonce key signature => Sys2Proof.Machine.execChallenge session nonce key signature s
  | .authOk m body => Sys2Proof.Machine.execAuthOk m body s
  | .lanternResend wing => Sys2Proof.Machine.execLanternResend wing s
  | .d0Entry => Sys2Proof.Machine.execD0Entry s
  | .temperatureRead temps => Sys2Proof.Machine.execTemperatureRead temps s
  | .interruptUnmask vector => Sys2Proof.Machine.execInterruptUnmask vector s
  | .epCcWrite value sqDepth cqDepth sqBase cqBase => Sys2Proof.Machine.execEpCcWrite value sqDepth cqDepth sqBase cqBase s
  | .neighbourDiscovery address => Sys2Proof.Machine.execNeighbourDiscovery address s

end Sys2Proof.Machine
end

