-- ==== Sys2Proof/Machine/Step.lean ====
section
/-! DEFINITION. One step: the command at the front of the queue, run on the state with the queue's rest. -/

namespace Sys2Proof.Machine

/-- One step.  On an empty queue the block idles (log entry 5). -/
def step (s : State) : Host.Outcome State Fault Refusal :=
  match s.pending with
  | [] => .next s
  | c :: rest => exec c (s.modPending fun _ => rest)

/-- `s` with command `c` put at the front of its queue. -/
def State.withFront (s : State) (c : Instr) : State := s.modPending fun l => c :: l

/-- `s` with the command a word spells put at the front of its queue; no word spells one (log entry 67). -/
def State.withFetchWord (s : State) (nbits w : Nat) : State :=
  match decodeTableWord nbits w with
  | some c => s.withFront c
  | none => s

end Sys2Proof.Machine
end

