-- ==== Sys2Proof/Safety.lean ====
section
/-! DEFINITION. What a safe state is, and which areas of the state a command reaches: the terms of the statements. -/

namespace Sys2Proof.Machine

/-! ### Invariants -/

/-- GH_IGATE and GH_HU_DRV are not on together (R439). -/
def State.interlocked (s : State) : Prop := ¬(s.gh.igate = true ∧ s.gh.huDrv = true)

/-- Both guestbooks hold no more than their capacity (R523, R525). -/
def State.booksFit (s : State) : Prop := s.book.main.used ≤ gbMainCap ∧ s.book.gate.used ≤ gbGateCap

/-- At most 8 sessions of the object protocol are open or opening (R494). -/
def State.sessionsFit (s : State) : Prop := s.dict.sessions.length ≤ 8

/-- Outstanding endpoint reads hold distinct tags, each below 128 (R513). -/
def State.tagsFit (s : State) : Prop := (s.ep.tags.map (·.tag)).Nodup ∧ ∀ t ∈ s.ep.tags, t.tag < 128

/-- The objects are in their canonical form: keys strictly rising, no entry at its default (R471, R475). -/
def State.objsCanonical (s : State) : Prop := objsWf s.objs = true

/-! ### Areas of the state -/

/-- The areas of State other than the queue. -/
inductive Area where
  | objs | blobs | results | clk | tt | adm | ce | drives | places | pe | rb | lg | si | tr | pc | po | cy | gh | md | dict | ep
  | book | out | fresh
  deriving DecidableEq, Repr

/-- The place of an area in a mask. -/
def Area.bit : Area → Nat
  | .objs => 0 | .blobs => 1 | .results => 2 | .clk => 3 | .tt => 4 | .adm => 5 | .ce => 6 | .drives => 7 | .places => 8
  | .pe => 9 | .rb => 10 | .lg => 11 | .si => 12 | .tr => 13 | .pc => 14 | .po => 15 | .cy => 16 | .gh => 17 | .md => 18
  | .dict => 19 | .ep => 20 | .book => 21 | .out => 22 | .fresh => 23

/-- Two states agree on an area. -/
def Area.same : Area → State → State → Prop
  | .objs, s, t => t.objs = s.objs
  | .blobs, s, t => t.blobs = s.blobs
  | .results, s, t => t.results = s.results
  | .clk, s, t => t.clk = s.clk
  | .tt, s, t => t.tt = s.tt
  | .adm, s, t => t.adm = s.adm
  | .ce, s, t => t.ce = s.ce
  | .drives, s, t => t.drives = s.drives
  | .places, s, t => t.places = s.places
  | .pe, s, t => t.pe = s.pe
  | .rb, s, t => t.rb = s.rb
  | .lg, s, t => t.lg = s.lg
  | .si, s, t => t.si = s.si
  | .tr, s, t => t.tr = s.tr
  | .pc, s, t => t.pc = s.pc
  | .po, s, t => t.po = s.po
  | .cy, s, t => t.cy = s.cy
  | .gh, s, t => t.gh = s.gh
  | .md, s, t => t.md = s.md
  | .dict, s, t => t.dict = s.dict
  | .ep, s, t => t.ep = s.ep
  | .book, s, t => t.book = s.book
  | .out, s, t => t.out = s.out
  | .fresh, s, t => t.fresh = s.fresh

/-- The areas of a list, as a mask. -/
def areaMask (l : List Area) : Nat := l.foldl (fun n p => Nat.lor n (Nat.shiftLeft 1 p.bit)) 0

/-- Every area. -/
def allAreas : List Area :=
  [.objs, .blobs, .results, .clk, .tt, .adm, .ce, .drives, .places, .pe, .rb, .lg, .si, .tr, .pc, .po, .cy, .gh, .md, .dict,
    .ep, .book, .out, .fresh]

/-- Every area but those of a list. -/
def allBut (l : List Area) : List Area := allAreas.filter fun p => !l.contains p

/-- The areas of the state a command may change; every other area it leaves as it is (the frame of the command). -/
def touches : Instr → List Area
  | .legBoundary => allBut []
  | .refclkLoss => [.clk, .md]
  | .refclkRelock => [.clk, .md]
  | .holdoverEnd => allBut [.out]
  | .noneCmd _ _ _ => allBut [.results, .clk, .places, .gh, .dict]
  | .netIn _ _ _ => allBut [.results, .clk, .places, .gh, .dict]
  | .netOut _ _ _ _ => allBut [.results, .clk, .places, .gh, .dict]
  | .cipher _ _ _ _ => allBut [.results, .clk, .places, .gh, .dict]
  | .driveIn _ _ _ => allBut [.results, .clk, .places, .gh, .dict]
  | .driveOut _ _ _ => allBut [.results, .clk, .places, .gh, .dict]
  | .parityIn _ _ _ => allBut [.results, .clk, .places, .gh, .dict]
  | .parityOut _ _ _ => allBut [.results, .clk, .places, .gh, .dict]
  | .sisterOut _ _ _ => allBut [.results, .clk, .places, .gh, .dict]
  | .sisterIn _ _ _ => allBut [.results, .clk, .places, .gh, .dict]
  | .cacheRd _ _ _ => allBut [.results, .clk, .places, .gh, .dict]
  | .cacheWr _ _ _ => allBut [.results, .clk, .places, .gh, .dict]
  | .context _ _ _ => allBut [.results, .clk, .places, .gh, .dict]
  | .journal _ _ _ => allBut [.results, .clk, .places, .gh, .dict]
  | .endpoint _ _ _ => allBut [.results, .clk, .places, .gh, .dict]
  | .vault _ _ _ => allBut [.results, .clk, .places, .gh, .dict]
  | .control _ _ _ => allBut [.results, .clk, .places, .gh, .dict]
  | .dump _ _ _ => allBut [.results, .clk, .places, .gh, .dict]
  | .shadowImageEnd _ _ => [.objs, .tt]
  | .ttCheck _ _ => [.objs, .results, .tt]
  | .ttCheckDone => [.results, .tt]
  | .ttSwitch _ _ => [.objs, .results, .tt]
  | .ttSwitchDigestDone => [.results, .tt]
  | .ttSwitchClassEmpty => [.tt]
  | .ttSwitchClassTimeout => [.results, .tt]
  | .ttShadowToF1 _ _ => [.objs, .tt]
  | .capsuleAccept _ => allBut [.blobs, .results, .clk, .tt, .places, .rb, .gh, .dict]
  | .fullStripeIssue _ _ => [.objs, .adm, .ce, .drives, .pe, .rb, .lg, .po, .cy, .ep, .book, .out]
  | .copyAckTimeout _ => [.objs, .lg, .si]
  | .applyStart _ _ => allBut [.blobs, .results, .clk, .tt, .places, .si, .pc, .gh, .md, .dict, .fresh]
  | .driveCompletion _ _ _ _ _ => allBut [.results, .clk, .pc, .gh, .md, .dict]
  | .blockFix _ _ => allBut [.blobs, .results, .clk, .tt, .places, .si, .pc, .gh, .md, .dict, .fresh]
  | .readHedge _ _ => allBut [.blobs, .results, .clk, .tt, .places, .si, .pc, .gh, .md, .dict, .fresh]
  | .readRoomHoldExpiry _ => [.objs, .ce]
  | .roomRdmaRead _ => allBut [.blobs, .results, .clk, .tt, .places, .rb, .gh, .dict]
  | .bayContain _ _ => allBut [.results, .clk, .pc, .gh, .md, .dict]
  | .returnEvent _ _ => [.blobs, .ce, .drives, .places, .rb, .lg, .out, .fresh]
  | .rebuildStripe => allBut [.blobs, .results, .clk, .tt, .places, .si, .pc, .gh, .md, .dict, .fresh]
  | .rebuildStripeDone _ _ => allBut [.results, .clk, .tt, .si, .tr, .pc, .gh, .md, .dict]
  | .patrolStripe _ => [.objs, .ce, .drives, .pe, .rb, .lg, .tr, .po, .book, .out]
  | .patrolRewrite => [.objs, .ce, .drives, .rb, .tr, .book, .out]
  | .peRebuildRateWrite _ _ => [.objs, .dict, .book]
  | .pePatrolEnableWrite _ _ => [.objs, .ce, .pe, .rb, .po, .book]
  | .pePatrolLogClear _ _ => [.objs, .rb]
  | .pfTrip _ => allBut [.fresh]
  | .flushEndPage _ => allBut []
  | .bankFloorReached => allBut [.out]
  | .comparatorSuspect _ => [.objs, .lg, .book]
  | .journalRecordHeld _ _ => [.objs, .adm, .ce, .drives, .pe, .rb, .lg, .po, .cy, .ep, .book, .out]
  | .descriptorCommit => allBut [.clk, .tt, .places, .rb, .si, .tr, .pc, .gh, .md, .dict, .ep]
  | .lgLedgerSizeWrite _ _ => [.objs, .lg]
  | .lgFlushProfileWrite _ _ => [.objs, .lg]
  | .sisterSbTx _ => [.objs, .drives, .si, .gh, .book, .out]
  | .sisterSbRx _ _ => [.objs, .ce, .drives, .si, .pc, .gh, .book, .out, .fresh]
  | .sidebandSilent _ => [.objs, .drives, .si, .gh, .book]
  | .bayOwnerRelease => [.si]
  | .legPacketRx _ => [.objs, .ce, .drives, .si, .tr, .book, .out]
  | .legPacketAck _ => allBut [.blobs, .results, .clk, .tt, .places, .tr, .pc, .gh, .md, .dict, .fresh]
  | .legPacketNak _ => [.objs, .ce, .drives, .lg, .si, .book, .out]
  | .holderSilence _ => [.objs, .si, .pc, .book, .out, .fresh]
  | .wardenGrant _ _ _ _ => allBut [.blobs, .results, .adm, .places, .pe, .rb, .dict, .ep, .fresh]
  | .wardenRefuse _ _ _ _ => [.objs, .drives, .si, .book, .out]
  | .wardenTimeout _ => [.objs, .tt, .ce, .drives, .si, .book, .out]
  | .holdoffExpiry _ _ => [.objs, .tt, .ce, .drives, .si, .book, .out]
  | .renew => [.objs, .si, .pc, .out, .fresh]
  | .reservationConflict _ _ _ _ => allBut [.results, .clk, .pc, .gh, .md, .dict]
  | .driveWon _ _ _ _ _ => [.objs, .tt, .ce, .drives, .si, .pc, .book, .out, .fresh]
  | .preemptTimeout _ => allBut [.results, .clk, .pc, .gh, .md, .dict]
  | .quorumRetry _ => [.objs, .ce, .drives, .si, .book, .out]
  | .resyncReq _ => [.objs, .ce, .drives, .si, .book, .out]
  | .resyncDone _ => [.objs, .ce, .drives, .si, .book, .out]
  | .siHandback _ _ => [.objs, .results, .si]
  | .handback _ => [.objs, .ce, .drives, .si, .pc, .book, .out, .fresh]
  | .handbackTimeout _ => [.results, .ce, .si]
  | .siPromote _ _ => allBut [.blobs, .adm, .places, .pe, .rb, .dict, .ep, .fresh]
  | .cmReq _ _ _ _ _ _ => [.objs, .ce, .tr, .cy, .out, .fresh]
  | .rdmaReadResponse _ => allBut [.blobs, .results, .clk, .tt, .places, .rb, .gh, .dict]
  | .rdmaWritePush _ => allBut [.blobs, .results, .clk, .tt, .places, .rb, .gh, .dict]
  | .acknowledge _ => allBut [.blobs, .results, .clk, .tt, .places, .rb, .gh, .dict]
  | .cnp _ => allBut [.blobs, .results, .clk, .tt, .places, .rb, .gh, .dict]
  | .sack _ => allBut [.blobs, .results, .clk, .tt, .places, .rb, .gh, .dict]
  | .sackInterval _ => [.objs, .pc, .out, .fresh]
  | .spreadTimeout _ _ => [.objs, .adm, .ce, .drives, .pe, .lg, .si, .tr, .po, .cy, .book]
  | .ackTimeout _ => [.objs, .adm, .ce, .drives, .pe, .lg, .si, .tr, .po, .cy, .book, .out]
  | .trRekey _ _ => [.objs, .results, .tr, .cy, .book]
  | .rekeyOverlapEnd _ => [.tr]
  | .contextFetchDone _ => allBut [.blobs, .results, .clk, .tt, .places, .rb, .gh, .dict]
  | .waitEntryTimeout _ => [.objs, .tr, .book, .out]
  | .fabricsConnect _ => allBut [.blobs, .results, .clk, .tt, .places, .rb, .gh, .md, .dict, .ep]
  | .propertyGet _ _ _ => [.objs, .ce, .tr, .pc, .cy, .book, .out, .fresh]
  | .propertySet _ _ _ _ => [.objs, .ce, .tr, .pc, .cy, .book, .out, .fresh]
  | .disconnect _ _ => allBut [.blobs, .results, .clk, .tt, .places, .rb, .gh, .md, .dict, .ep]
  | .identifyController _ _ _ => [.objs, .ce, .tr, .pc, .cy, .book, .out, .fresh]
  | .identifyNamespace _ _ _ => [.objs, .ce, .tr, .pc, .cy, .book, .out, .fresh]
  | .activeNamespaceList _ _ _ => [.objs, .ce, .tr, .pc, .cy, .book, .out, .fresh]
  | .namespaceDescriptorList _ _ _ => [.objs, .ce, .tr, .pc, .cy, .book, .out, .fresh]
  | .getLogPage _ _ _ _ _ _ _ => [.objs, .ce, .tr, .pc, .cy, .book, .out, .fresh]
  | .setFeatures _ _ _ _ _ _ => [.objs, .results, .ce, .tr, .pc, .cy, .md, .book, .out, .fresh]
  | .getFeatures _ _ _ _ _ => [.objs, .ce, .tr, .pc, .cy, .book, .out, .fresh]
  | .firmwareImageDownload _ _ _ _ => [.objs, .ce, .tr, .pc, .cy, .book, .out, .fresh]
  | .firmwareCommit _ _ _ _ => [.objs, .ce, .tr, .pc, .cy, .md, .book, .out, .fresh]
  | .firmwareActivationReady => [.tt, .md]
  | .mtfaTimeout => allBut [.out, .fresh]
  | .abortCmd _ _ _ _ => allBut [.results, .clk, .tt, .places, .rb, .si, .gh, .md, .dict]
  | .keepAlive _ _ => [.objs, .ce, .tr, .pc, .cy, .book, .out, .fresh]
  | .katoExpiry _ => [.objs, .adm, .ce, .drives, .pe, .lg, .si, .tr, .po, .cy, .book]
  | .asynchronousEventRequest _ _ => [.objs, .ce, .tr, .pc, .cy, .book, .out, .fresh]
  | .readCmd _ => [.objs, .adm, .ce, .drives, .pe, .lg, .tr, .po, .cy, .book]
  | .writeCmd _ => [.objs, .adm, .ce, .drives, .pe, .lg, .tr, .po, .cy, .ep, .book, .out]
  | .flushCmd _ => [.ce]
  | .writeZeroes _ => [.objs, .adm, .ce, .drives, .pe, .lg, .po, .cy, .ep, .book, .out]
  | .datasetManagement _ => [.objs, .adm, .ce, .drives, .pe, .lg, .po, .cy, .ep, .book, .out]
  | .reservationRegister _ => [.objs, .blobs, .adm, .ce, .drives, .pe, .lg, .po, .cy, .book, .out, .fresh]
  | .reservationAcquire _ => [.objs, .blobs, .adm, .ce, .drives, .pe, .lg, .po, .cy, .book, .out, .fresh]
  | .reservationRelease _ => [.objs, .blobs, .adm, .ce, .drives, .pe, .lg, .po, .cy, .book, .out, .fresh]
  | .reservationReport _ => [.objs, .blobs, .adm, .ce, .drives, .pe, .lg, .po, .cy, .book, .out, .fresh]
  | .roomOpen _ => [.ce, .tr, .fresh]
  | .roomModify _ => [.ce, .tr]
  | .roomClose _ => [.ce, .tr]
  | .roomCloseTimeout _ => [.tr]
  | .cePowerStateSet _ _ => [.objs, .results, .ce, .md, .book]
  | .ps2EntryComplete => [.objs, .results, .ce, .book]
  | .psEntryLimitExpiry => [.results, .ce, .md]
  | .ceNsCreate _ _ => [.objs, .blobs, .results, .ce, .drives, .lg, .cy, .out, .fresh]
  | .ceNsDelete _ _ => [.objs, .blobs, .results, .ce, .drives, .lg, .tr, .cy, .book, .out, .fresh]
  | .nsPartyMaskWrite _ _ _ => [.objs, .blobs, .ce, .drives, .lg, .out, .fresh]
  | .driveIoTimeout _ _ _ => [.objs, .drives, .book, .out]
  | .driveAdminTimeout _ _ => [.objs, .drives, .book, .out]
  | .driveAbortWaitExpiry _ _ _ => allBut [.results, .clk, .pc, .gh, .md, .dict]
  | .ceBayContain _ _ => allBut [.results, .clk, .pc, .gh, .md, .dict]
  | .driveExamine _ => [.drives, .out]
  | .driveExamineDone _ _ _ _ _ _ _ => [.objs, .tt, .drives, .places, .book, .out]
  | .driveExamineTimeout _ => [.objs, .drives, .book]
  | .ceBayRelease _ _ => [.objs, .drives, .out]
  | .ceBayAccept _ _ => [.objs, .drives, .out]
  | .rxFrameHead _ _ => [.objs, .pc, .out]
  | .rxFrameEnd _ _ _ _ _ => allBut [.blobs, .results, .clk, .tt, .places, .rb, .si, .gh, .md, .dict, .fresh]
  | .pauseFrame _ _ => [.objs, .pc]
  | .pfcFrame _ _ _ => [.objs, .pc]
  | .pauseExpiry _ _ => [.pc]
  | .pauseStorm _ _ => [.objs, .pc, .book]
  | .pfcRefresh _ => [.objs, .pc, .out]
  | .txFrameBoundary _ _ => [.objs, .pc, .out]
  | .linkDown _ => allBut [.blobs, .results, .clk, .tt, .places, .rb, .si, .gh, .md, .dict, .fresh]
  | .linkUp _ => [.objs, .ce, .si, .tr, .pc, .book, .out, .fresh]
  | .ptpSync _ _ => [.objs, .pc, .book, .fresh]
  | .ptpLoss => [.objs, .pc, .book]
  | .statisticsRead _ _ _ => [.objs, .po, .out]
  | .draw _ _ _ _ => [.objs, .po]
  | .drawBySize _ _ _ => [.objs, .po, .out]
  | .shareCmd _ _ => [.objs, .po, .book, .out]
  | .releaseCmd _ _ => [.objs, .po, .book, .out]
  | .freeCmd _ _ => [.objs, .po, .book, .out]
  | .handover _ _ _ => [.objs, .po, .book, .out]
  | .cyOwnerRootWrite _ _ => [.objs, .results, .cy, .book]
  | .cyHostKeyDerive _ _ => [.objs, .results]
  | .keyDerivationDone => [.objs, .cy]
  | .cyCoreReset _ _ => allBut [.blobs, .clk, .places, .gh]
  | .coreFault _ _ _ => allBut [.blobs, .clk, .places, .gh]
  | .ghTick _ => allBut [.out, .fresh]
  | .feedValid _ => [.objs, .gh, .book]
  | .feedMake => [.objs, .gh, .book]
  | .feedReturn _ => [.objs, .gh, .book]
  | .faultTimerExpiry _ => allBut [.out, .fresh]
  | .pgTimeout _ => allBut [.out, .fresh]
  | .offTimeEnd _ => [.gh]
  | .accumulatorClear _ => [.gh]
  | .tripCountClear _ => [.objs, .gh, .book]
  | .ghBoardUnlatch _ _ => [.objs, .results, .gh]
  | .ghBayUnlatch _ _ => [.objs, .results, .gh, .book]
  | .presenceDebounced _ => [.objs, .gh]
  | .bayStagger => [.gh]
  | .carrierRemoval _ => allBut [.results, .clk, .pc, .md, .dict]
  | .bayEmptyClear _ => [.objs, .gh, .book]
  | .ghBayEnableWrite _ _ _ => [.objs, .drives, .gh]
  | .measurementSample => [.gh]
  | .bankPublish => [.lg]
  | .chargeTargetReached => [.gh]
  | .chargeTimeout => [.objs, .gh, .book]
  | .ghBankEnergyCeilingWrite _ _ => [.objs, .gh]
  | .bankBleedDone => allBut [.out, .fresh]
  | .capacitanceMeasure => [.gh]
  | .ghBankMeasure _ _ => [.objs, .results, .gh]
  | .bankMeasureDone _ _ => [.objs, .results, .gh, .book]
  | .railSequence => [.gh]
  | .railPgTimeout => allBut [.out]
  | .railFault _ => allBut [.out]
  | .shelfTimeSave => [.gh]
  | .ptpCompare => [.objs, .gh, .book, .fresh]
  | .ghTimeSet _ _ => [.objs, .results, .gh, .book]
  | .gatehousePowerOnReset _ => allBut [.out]
  | .vigilExit => allBut [.blobs, .results, .adm, .places, .pe, .rb, .dict, .ep, .fresh]
  | .fwStart _ _ => allBut [.blobs, .results, .adm, .places, .pe, .rb, .dict, .ep, .fresh]
  | .musterStepEnd _ _ => allBut [.results, .adm, .pe, .rb]
  | .warmReset _ => allBut [.out, .fresh]
  | .fwWarmReset _ _ => allBut [.out, .fresh]
  | .fwShutdown _ _ => allBut [.out, .fresh]
  | .shutdownTimeout => [.results, .md]
  | .fwRecoveryImage _ _ => allBut [.out, .fresh]
  | .fwOwnerKeyWrite _ _ => [.objs, .results, .md, .book]
  | .fwConfirmExpiry => [.objs, .book]
  | .fwUnitReset _ _ => allBut [.blobs, .clk, .places, .gh]
  | .unitReady _ => [.objs, .tt, .ce, .drives, .po, .cy, .md, .book, .out]
  | .unitReadyLimit _ => allBut []
  | .stewardWatchdog _ => allBut [.blobs, .clk, .places, .gh]
  | .thermalTrip _ => allBut [.out]
  | .drvPerstRelease _ => [.drives]
  | .hello _ _ _ _ => [.objs, .pc, .dict, .out, .fresh]
  | .auth _ _ => [.objs, .pc, .dict, .out]
  | .authTimeout _ => [.objs, .pc, .dict, .out]
  | .close _ _ => [.objs, .si, .pc, .dict, .out]
  | .sessionIdle _ => [.objs, .pc, .dict, .out]
  | .fieldRead _ _ => [.objs, .pc, .po, .dict, .out]
  | .fieldWrite _ _ => allBut []
  | .objectWrite _ _ _ _ => allBut []
  | .domainRead _ _ => [.objs, .pc, .dict, .book, .out]
  | .domainWrite _ _ => allBut [.fresh]
  | .stagingTimeout _ => [.dict]
  | .reassemblyTimeout _ => [.objs, .dict]
  | .credentialWrite _ _ _ _ => [.objs, .blobs, .si, .pc, .dict, .book, .out]
  | .bar2Doorbell _ _ => allBut []
  | .epBar2ClassWrite _ _ _ => [.objs]
  | .epDoorbell _ _ _ => [.objs, .ep, .out]
  | .createIoSubmissionQueue _ _ _ _ _ _ _ => [.objs, .ce, .tr, .pc, .cy, .ep, .book, .out, .fresh]
  | .createIoCompletionQueue _ _ _ _ _ _ _ _ => [.objs, .ce, .tr, .pc, .cy, .ep, .book, .out, .fresh]
  | .deleteIoSubmissionQueue _ _ _ => allBut [.blobs, .results, .clk, .tt, .places, .rb, .si, .gh, .md, .dict]
  | .deleteIoCompletionQueue _ _ _ => [.objs, .ce, .tr, .pc, .cy, .ep, .book, .out, .fresh]
  | .epReadCompletion _ _ _ _ => allBut [.blobs, .results, .clk, .tt, .places, .rb, .si, .pc, .gh, .dict, .fresh]
  | .epCompletionTimeout _ => [.objs, .adm, .ce, .drives, .pe, .lg, .po, .cy, .ep, .book, .out]
  | .epError _ _ _ _ => allBut [.blobs, .results, .clk, .places, .rb, .si, .tr, .pc, .gh, .fresh]
  | .busMasterClear _ => [.objs, .adm, .ce, .drives, .pe, .lg, .po, .cy, .ep, .book, .out]
  | .busMasterSet _ _ => [.ep, .out]
  | .functionLevelReset _ => allBut [.blobs, .results, .clk, .places, .rb, .si, .tr, .pc, .gh, .fresh]
  | .epResetDone _ => [.objs, .tt, .md, .ep, .book]
  | .d3hotEntry => [.ep, .out]
  | .interruptModeChange _ _ _ _ => [.ep, .out]
  | .gbClear _ _ => [.objs, .results, .book]
  | .gateCopy => [.objs, .book]
  | .gbWindowRead _ _ => [.objs, .pc, .dict, .book, .out]
  | .clusterDump => [.objs, .ce, .book]
  | .counterConfigWrite _ _ _ _ => [.objs, .book]
  | .filterWrite _ _ _ => [.objs, .book]
  | .tallySave => [.objs, .gh]
  | .gatehousePowerLoss => allBut [.out]
  | .challenge _ _ _ _ => [.objs, .si, .pc, .out]
  | .authOk _ _ => [.objs, .si, .pc, .out]
  | .lanternResend _ => [.objs, .si, .pc, .out, .fresh]
  | .d0Entry => [.ep, .out]
  | .temperatureRead _ => [.objs, .ce, .gh]
  | .interruptUnmask _ => [.ep, .out]
  | .epCcWrite _ _ _ _ _ => [.objs, .adm, .ce, .drives, .pe, .lg, .po, .cy, .ep, .book, .out]
  | .neighbourDiscovery _ => [.objs, .out]

/-! ### Writes that an object may refuse -/

/-- A write command: the caller's class, the object, the RESULT of its run where it has one, and whether the object takes the
value in the present state (R476 to R479). -/
structure WriteTo where
  cls : Nat
  ix : Nat
  sub : Nat := 0
  res : Option Nat := none
  ok : Bool := true
  deriving DecidableEq, Repr

/-- The write a command makes, none where it makes none that its object judges. -/
def writeOf (s : State) : Instr → Option WriteTo
  | .shadowImageEnd cls image =>
    some { cls := cls, ix := Obj.tt_shadow_image
           ok := !s.tt.checkBusy && !(s.tt.switch.any fun q => q.target == 2) && decide (image.length ≤ 536170) }
  | .ttCheck cls _ => some { cls := cls, ix := Obj.tt_check, res := some Obj.tt_check_result }
  | .ttSwitch cls _ => some { cls := cls, ix := Obj.tt_switch, res := some Obj.tt_switch_result }
  | .ttShadowToF1 cls v => some { cls := cls, ix := Obj.tt_shadow_to_f1, ok := v == 1 && (s.store 2).state == .accepted }
  | .peRebuildRateWrite cls v => some { cls := cls, ix := Obj.pe_rebuild_rate, ok := decide (v ≤ 180000) }
  | .pePatrolEnableWrite cls v => some { cls := cls, ix := Obj.pe_patrol_enable, ok := decide (v ≤ 1) }
  | .pePatrolLogClear cls v => some { cls := cls, ix := Obj.pe_patrol_log_clear, ok := v == 1 }
  | .lgLedgerSizeWrite cls v =>
    some { cls := cls, ix := Obj.lg_ledger_size, ok := decide (v ≤ 2147483648) && v % 16777216 == 0 }
  | .lgFlushProfileWrite cls v => some { cls := cls, ix := Obj.lg_flush_profile, ok := decide (v ≤ 1) }
  | .siHandback cls _ => some { cls := cls, ix := Obj.si_handback, res := some Obj.si_handback_result }
  | .siPromote cls _ => some { cls := cls, ix := Obj.si_promote, res := some Obj.si_promote_result }
  | .trRekey cls _ => some { cls := cls, ix := Obj.tr_rekey, res := some Obj.tr_rekey_result }
  | .cePowerStateSet cls _ => some { cls := cls, ix := Obj.ce_power_state_set, res := some Obj.ce_power_state_result }
  | .ceNsCreate cls _ => some { cls := cls, ix := Obj.ce_ns_create, res := some Obj.ce_ns_create_result }
  | .ceNsDelete cls _ => some { cls := cls, ix := Obj.ce_ns_delete, res := some Obj.ce_ns_delete_result }
  | .nsPartyMaskWrite cls nsid v =>
    some { cls := cls, ix := Obj.ce_ns_party_mask + (nsid - 1), sub := 1
           ok := decide (1 ≤ nsid) && decide (nsid ≤ 1024) && decide (v < 65536) }
  | .ceBayContain cls v => some { cls := cls, ix := Obj.ce_bay_contain, ok := decide (v < 24) }
  | .ceBayRelease cls v => some { cls := cls, ix := Obj.ce_bay_release, ok := decide (v < 24) }
  | .ceBayAccept cls v => some { cls := cls, ix := Obj.ce_bay_accept, ok := decide (v < 24) }
  | .cyOwnerRootWrite cls _ => some { cls := cls, ix := Obj.cy_owner_root, res := some Obj.cy_owner_root_result }
  | .cyHostKeyDerive cls _ => some { cls := cls, ix := Obj.cy_host_key_derive, res := some Obj.cy_host_key }
  | .cyCoreReset cls _ => some { cls := cls, ix := Obj.cy_core_reset, res := some Obj.cy_core_reset_result }
  | .ghBoardUnlatch cls _ => some { cls := cls, ix := Obj.gh_board_unlatch, res := some Obj.gh_board_unlatch_result }
  | .ghBayUnlatch cls _ => some { cls := cls, ix := Obj.gh_bay_unlatch, res := some Obj.gh_bay_unlatch_result }
  | .ghBayEnableWrite cls bay v => some { cls := cls, ix := Obj.gh_bay_enable, sub := bay + 1, ok := decide (v ≤ 1) }
  | .ghBankEnergyCeilingWrite cls v =>
    some { cls := cls, ix := Obj.gh_bank_energy_ceiling, ok := decide (1000000 ≤ v) && decide (v ≤ 24000000) }
  | .ghBankMeasure cls _ => some { cls := cls, ix := Obj.gh_bank_measure, res := some Obj.gh_bank_measure_result }
  | .ghTimeSet cls _ => some { cls := cls, ix := Obj.gh_time_set, res := some Obj.gh_time_set_result }
  | .fwStart cls v => some { cls := cls, ix := Obj.fw_start, ok := v == 1 && s.heldForPromotion }
  | .fwWarmReset cls v => some { cls := cls, ix := Obj.fw_warm_reset, ok := v == 1 }
  | .fwShutdown cls _ => some { cls := cls, ix := Obj.fw_shutdown, res := some Obj.fw_shutdown_result }
  | .fwRecoveryImage cls data =>
    some { cls := cls, ix := Obj.fw_recovery_image, ok := s.md.boot == 3 && decide (data.length ≤ 16777216) }
  | .fwOwnerKeyWrite cls _ => some { cls := cls, ix := Obj.fw_owner_key, res := some Obj.fw_owner_key_result }
  | .fwUnitReset cls _ => some { cls := cls, ix := Obj.fw_unit_reset, res := some Obj.fw_unit_reset_result }
  | .gbClear cls _ => some { cls := cls, ix := Obj.gb_clear, res := some Obj.gb_clear_result }
  | .counterConfigWrite cls block i _ => some { cls := cls, ix := Obj.gb_unit_config + block, sub := i + 1 }
  | .filterWrite cls slot v => some { cls := cls, ix := Obj.gb_filter, sub := slot + 1, ok := v.length == 48 }
  | _ => none

/-- The object takes the write: the caller may write it, it takes the value, and no run of its RESULT is in progress. -/
def State.takesWrite (s : State) (w : WriteTo) : Bool :=
  s.mayWrite w.cls w.ix w.sub && w.ok && (match w.res with | some r => (s.result r).ready | none => true)

/-- A RESULT after the end of a run: ready 1, the sequence raised by 1, the value (R478). -/
def Rslt.ended (r : Rslt) (value : List Byte) : Rslt := { ready := true, seq := (r.seq + 1) % 2 ^ 32, value := value }

/-- The write of a command, where it makes one, is taken. -/
def State.takes (s : State) (c : Instr) : Prop := ∀ w, writeOf s c = some w → s.takesWrite w = true

/-- The sender of an admin command and the state it is run in, none where the command is not run: an association with its admin
connection, or the endpoint's own; a discovery association runs what the discovery controller has (R307, R308, R502). -/
def State.adminFrom (s : State) (src : CmdSrc) (ep disc : Bool) : Option (Assoc × State) :=
  match src with
  | .assoc i =>
    match (if s.transportOn then s.assoc? i else none), s.adminConn i with
    | some a, some c =>
      if 2048 ≤ i ∨ (a.discovery && !disc) = true then none
      else some ({ a with alive := s.gh.ticks }, (s.sendIn c.qpn).keepAlive i)
    | _, _ => none
  | .conn _ => none
  | .endpoint => if s.ep.ready && ep then some (s.ce.endpointAssoc, s.stamped) else none

/-! ### Slot-cells -/

/-- Slot, lane and word of a cell command. -/
def cellNamed : Instr → Option (Nat × Nat × Nat)
  | .noneCmd slot lane word => some (slot, lane, word)
  | .netIn slot lane word => some (slot, lane, word)
  | .netOut slot lane word _ => some (slot, lane, word)
  | .cipher slot lane word _ => some (slot, lane, word)
  | .driveIn slot lane word => some (slot, lane, word)
  | .driveOut slot lane word => some (slot, lane, word)
  | .parityIn slot lane word => some (slot, lane, word)
  | .parityOut slot lane word => some (slot, lane, word)
  | .sisterOut slot lane word => some (slot, lane, word)
  | .sisterIn slot lane word => some (slot, lane, word)
  | .cacheRd slot lane word => some (slot, lane, word)
  | .cacheWr slot lane word => some (slot, lane, word)
  | .context slot lane word => some (slot, lane, word)
  | .journal slot lane word => some (slot, lane, word)
  | .endpoint slot lane word => some (slot, lane, word)
  | .vault slot lane word => some (slot, lane, word)
  | .control slot lane word => some (slot, lane, word)
  | .dump slot lane word => some (slot, lane, word)
  | _ => none

/-- The operation class of a cell command, the length of the frame that leaves, and the outcome of its pass (R35, R109, R416). -/
def cellKind : Instr → Nat × Nat × Bool
  | .netIn .. => (Opc.netIn, 0, true)
  | .netOut _ _ _ bytes => (Opc.netOut, bytes, true)
  | .cipher _ _ _ good => (Opc.cipher, 0, good)
  | .driveIn .. => (Opc.driveIn, 0, true)
  | .driveOut .. => (Opc.driveOut, 0, true)
  | .parityIn .. => (Opc.parityIn, 0, true)
  | .parityOut .. => (Opc.parityOut, 0, true)
  | .sisterOut .. => (Opc.sisterOut, 0, true)
  | .sisterIn .. => (Opc.sisterIn, 0, true)
  | .cacheRd .. => (Opc.cacheRd, 0, true)
  | .cacheWr .. => (Opc.cacheWr, 0, true)
  | .context .. => (Opc.context, 0, true)
  | .journal .. => (Opc.journal, 0, true)
  | .endpoint .. => (Opc.endpoint, 0, true)
  | .vault .. => (Opc.vault, 0, true)
  | .control .. => (Opc.control, 0, true)
  | .dump .. => (Opc.dump, 0, true)
  | _ => (Opc.none, 0, true)

/-- The word the pattern in force holds at a place, as its fields. -/
def State.wordAt (s : State) (slot lane : Nat) : CellWord := cellWord (s.cellAt slot lane)

/-- The sequencer fires the cell a command names: the timetable runs, the cell has not fired in this leg, and the pattern in force
holds a cell of that class there (R32, R38). -/
def State.firesCell (s : State) (opc slot lane : Nat) : Bool :=
  s.firing && s.unfired slot lane && (s.wordAt slot lane).opc == opc

/-- A cell has its place in the leg and takes its drawn bed (R32, R394): that bed, and the state after it. -/
def State.cellPlaced (s : State) (slot lane : Nat) : Option Nat × State :=
  State.takeDrawn (s.wordAt slot lane) (s.modTt fun t =>
    { t with slot := slot, fired := (if t.slot = slot then t.fired else []) ++ [lane] })

/-- A cell that fires counts for the units at its ends (R533). -/
def State.cellCounted (s : State) (c : CellWord) : State :=
  (s.unitEvent c.src 1 0 1 c.berth {} none).unitEvent c.snk 2 0 1 c.berth {} none

/-- One end of a cell is closed (R65). -/
def State.cellClosed (s : State) (c : CellWord) : Bool := s.tt.closedUnits.contains c.src || s.tt.closedUnits.contains c.snk

/-- What a cell carries: the transfer it chooses, the bed drawn for it, and the state with the cell counted; none where it carries
nothing (R39, R40). -/
def State.carries (s : State) (w : CellWork) (slot lane word : Nat) : Option (Transfer × Option Nat × State) :=
  let c := s.wordAt slot lane
  let d := s.cellPlaced slot lane
  let u := w.before c (d.2.cellCounted c)
  if cellChkGood word && word == s.cellRead slot lane && c.opc != Opc.none && !s.cellClosed c then
    match u.choose c (w.ok c u) with
    | some t => if c.pool ≤ 4 ∧ d.1.isNone then none else some (t, d.1, u.cellUsed c slot lane word t d.1)
    | none => none
  else none

/-- What a cell command carries, once the slots before its own are over (R32). -/
def State.carried (s : State) (c : Instr) : Option (Transfer × Option Nat × State) :=
  match cellNamed c with
  | none => none
  | some (slot, lane, word) =>
    let k := cellKind c
    let u := s.toSlot slot
    if s.unfired slot lane && u.firesCell k.1 slot lane then u.carries (cellWork k.1 k.2.1 k.2.2) slot lane word else none

/-- The fields of the word a cell command fires. -/
def State.firedWord (s : State) (c : Instr) : CellWord :=
  match cellNamed c with
  | some (slot, lane, _) => (s.toSlot slot).wordAt slot lane
  | none => cellWord 0

/-! ### Messages of a session -/

/-- A tagged message of a type passes in a session (R490). -/
def State.passes (s : State) (m : FieldMsg) (type : Nat) (body : List Byte) (x : Session) : Prop :=
  s.pathUp m.vlan = true ∧ s.session? m.session = some x ∧ x.opened = true ∧ x.vlan = m.vlan ∧
  m.tag = msgTag x.ks type m.session m.counter m.request body ∧ x.rx < m.counter

/-- A request message: its type, its reply's type, whether its body is whole, and what serves it (R482, R483, R486, R528). -/
def servedAs : Instr → Option (FieldMsg × List Byte × Nat × Nat × Bool × (Session → State → List Byte × State))
  | .fieldRead m b => some (m, b, 0x10, 0x11, itemsWhole 4 b, fun x t => t.serveRead x.cls b)
  | .fieldWrite m b => some (m, b, 0x12, 0x13, itemsWhole 68 b, fun x t => t.serveWrite false x.cls b)
  | .domainRead m b => some (m, b, 0x14, 0x15, domainReadWhole b, fun x t => t.serveDomainRead (.session x.id) x.cls b)
  | .domainWrite m b => some (m, b, 0x16, 0x17, domainWriteWhole b, fun x t => t.serveDomainWrite (.session x.id) x.cls b)
  | .gbWindowRead m b =>
    if (itemAt b 0).1 = Obj.gb_window ∨ (itemAt b 0).1 = Obj.gb_gate_window then
      some (m, b, 0x14, 0x15, domainReadWhole b, fun x t => t.serveDomainRead (.session x.id) x.cls b)
    else none
  | _ => none

end Sys2Proof.Machine
end

