-- ==== Sys2Proof/Certificates/Slice0/Obligations.lean ====
section
/-! DEFINITION. The statements put to the provers.  Each cites the rules of the spec it formalises; the list is
OBLIGATIONS.json. -/

open Sys2Proof Sys2Proof.Machine

/-! ### The queue, the frame and the invariants -/

/-- Step runs the command at the front of the queue on the state with the queue's rest; on an empty queue the block idles,
which is the model's choice (log entry 5). -/
def Obligations.StepRunsTheFrontCommand : Prop :=
  (∀ (c : Instr) (rest : List Instr) (s : State), s.pending = c :: rest →
     step s = exec c { s with pending := rest }) ∧
  (∀ s : State, s.pending = [] → step s = .next s)

/-- Every command completes in every state, whatever its operands, and leaves the queue behind it alone; what has left the
package stays where it is in the list of outputs, and free values are never drawn again. -/
def Obligations.EveryCommandCompletes : Prop :=
  ∀ (c : Instr) (s : State), ∃ t, exec c s = .next t ∧ t.pending = s.pending ∧ s.out <:+ t.out ∧ s.fresh ≤ t.fresh

/-- The frame of every command: what `touches` does not list for it stays as it was. -/
def Obligations.FrameOfEveryCommand : Prop :=
  ∀ (c : Instr) (s t : State), exec c s = .next t → ∀ a : Area, a ∉ touches c → a.same s t

/-- GH_IGATE and GH_HU_DRV are never driven on in the same tick: every step keeps the interlock (R439). -/
def Obligations.StepKeepsInterlock : Prop :=
  ∀ s t : State, s.interlocked → step s = .next t → t.interlocked

/-- Every step keeps the bounds of what the controller holds: 4 MiB of the main guestbook and 64 KiB of the gatehouse
section (R523, R525), 8 sessions (R494), and tags of outstanding endpoint reads that are distinct and below 128
(R513). -/
def Obligations.StepKeepsBounds : Prop :=
  ∀ s t : State, step s = .next t →
    (s.booksFit → t.booksFit) ∧ (s.sessionsFit → t.sessionsFit) ∧ (s.tagsFit → t.tagsFit)

/-- Every step keeps the objects in their canonical form, so that equal contents are equal data. -/
def Obligations.StepKeepsObjectsCanonical : Prop :=
  ∀ s t : State, s.objsCanonical → step s = .next t → t.objsCanonical

/-- The state after reset meets every invariant, in Vigil with the rails and both drives of the board bus off (R18, R454). -/
def Obligations.ResetMeetsInvariants : Prop :=
  State.reset.interlocked ∧ State.reset.booksFit ∧ State.reset.sessionsFit ∧ State.reset.tagsFit ∧
    State.reset.objsCanonical ∧ State.reset.pending = [] ∧ State.reset.md.mode = .vigil ∧
    State.reset.gh.igate = false ∧ State.reset.gh.huDrv = false ∧ State.reset.gh.selected = 0

/-- An object reads back what was put into it, and no other object changes. -/
def Obligations.ObjectsReadBack : Prop :=
  ∀ (s : State) (ix sub v : Nat), s.objsCanonical → sub < 256 →
    (s.put ix sub v).get ix sub = v ∧
    ∀ jx jsub, jsub < 256 → (jx, jsub) ≠ (ix, sub) → (s.put ix sub v).get jx jsub = s.get jx jsub

/-! ### Writes to objects and runs of RESULTs -/

/-- A write that reaches no object, lies beyond the caller's class, brings a value the object does not take, or finds a
run of its RESULT in progress, changes nothing but the count of violations of the caller's class (R476 to R479). A run
keeps sequence and value while ready is 0; its end writes the value, raises the sequence by 1 and sets ready, and no
other RESULT changes (R478). -/
def Obligations.WritesAreRefusedOrRun : Prop :=
  (∀ (c : Instr) (w : WriteTo) (s : State), writeOf s c = some w → s.takesWrite w = false →
     exec c s = .next (s.violation w.cls)) ∧
  (∀ (s : State) (res : Nat) (value : List Byte),
     ((s.startRun res).result res).ready = false ∧ ((s.startRun res).result res).seq = (s.result res).seq ∧
     ((s.startRun res).result res).value = (s.result res).value ∧
     ((s.result res).ready = false →
       (s.endRun res value).result res = (s.result res).ended value) ∧
     (∀ other, other ≠ res →
       (s.startRun res).result other = s.result other ∧ (s.endRun res value).result other = s.result other))

/-! ### The timetable's stores, checker and switch -/

/-- The checker's commands: an image written whole becomes store 2, loaded; tt_check 1 starts the checker; its end gives
the store its state and cause and the RESULT its outcome (R57, R478, R565, R566). -/
def Obligations.CheckerJudgesStoreTwo : Prop :=
  ∀ (s : State) (cls : Nat) (image : List Byte),
    (s.takes (.shadowImageEnd cls image) → s.tt.stores.length = 4 →
      ∃ t, exec (.shadowImageEnd cls image) s = .next t ∧ t = { s with tt := t.tt } ∧
        t.tt = { s.tt with stores := t.tt.stores } ∧ t.store 2 = { image := image, state := .loaded, cause := 0 } ∧
        t.store 1 = s.store 1 ∧ t.store 3 = s.store 3 ∧ t.store 4 = s.store 4) ∧
    (s.takes (.ttCheck cls 1) →
      exec (.ttCheck cls 1) s = .next { s.startRun Obj.tt_check_result with tt := { s.tt with checkBusy := true } }) ∧
    (s.tt.checkBusy = true → (s.result Obj.tt_check_result).ready = false → s.tt.stores.length = 4 →
      ∃ t, exec .ttCheckDone s = .next t ∧ t = { s with tt := t.tt, results := t.results } ∧ t.tt.checkBusy = false ∧
        t.store 1 = s.store 1 ∧ t.store 3 = s.store 3 ∧ t.store 4 = s.store 4 ∧
        (t.store 2).image = (s.store 2).image ∧
        (let cause := checkImage s.checkEnv Config.vendorKey (s.store 2).image
         (cause ≠ 0x14 → (t.store 2).cause = cause ∧ (t.store 2).state = if cause = 0 then .accepted else .rejected) ∧
         t.result Obj.tt_check_result = (s.result Obj.tt_check_result).ended (causeVal cause)))

/-- A switch: tt_switch of an accepted store starts its digest; the matching digest schedules it, or waits for the classes
that lose their berths, whose emptying schedules it and whose 64 legs without emptying end it with TIMEOUT (R59, R60). -/
def Obligations.SwitchRunsItsPhases : Prop :=
  ∀ (s : State) (cls n : Nat) (q : SwitchReq),
    (2 ≤ n → n ≤ 4 → (s.store n).state = .accepted → s.takes (.ttSwitch cls n) →
      exec (.ttSwitch cls n) s = .next { s.startRun Obj.tt_switch_result with
        tt := { s.tt with switch := some { target := n, phase := .digest, report := true } } }) ∧
    (s.tt.switch = some q → q.phase = .digest → imgDigest (s.store q.target).image = imgSha (s.store q.target).image →
      exec .ttSwitchDigestDone s = .next (
        if s.blockedClasses (s.store q.target).image = [] then
          { s with tt := { s.tt with switch := some { q with phase := .scheduled } } }
        else { s with tt := { s.tt with switch := some { q with phase := .classWait 0 }
                                        closedClasses := s.blockedClasses (s.store q.target).image } })) ∧
    (∀ k, s.tt.switch = some q → q.phase = .classWait k → (∀ c ∈ s.tt.closedClasses, s.classBusy c = false) →
      exec .ttSwitchClassEmpty s = .next { s with tt := { s.tt with switch := some { q with phase := .scheduled } } }) ∧
    (∀ k, s.tt.switch = some q → q.phase = .classWait k → 64 ≤ k → (∃ c ∈ s.tt.closedClasses, s.classBusy c = true) →
      (s.result Obj.tt_switch_result).ready = false →
      ∃ t, exec .ttSwitchClassTimeout s = .next t ∧ t = { s with tt := t.tt, results := t.results } ∧
        t.tt = { s.tt with switch := none, reopenClasses := true } ∧
        t.result Obj.tt_switch_result = (s.result Obj.tt_switch_result).ended (outcomeWith Oc.timeout [0x15#8])) ∧
    (s.takes (.ttShadowToF1 cls 1) → s.tt.stores.length = 4 →
      ∃ t, exec (.ttShadowToF1 cls 1) s = .next t ∧ t = { s with tt := t.tt } ∧ t.tt = { s.tt with stores := t.tt.stores } ∧
        t.store 3 = s.store 2 ∧ t.store 1 = s.store 1 ∧ t.store 2 = s.store 2 ∧ t.store 4 = s.store 4)

/-! ### The porter -/

/-- A draw takes a free bed of the half its cell names: the bed is held with count 1 by the unit, and waits for the cell
at the porter port; a draw that fails is counted and leaves its cell without a bed; a draw by size takes it from the
smallest pool that fits, above 256 KiB is DENIED and on an empty half answers EXHAUSTED (R391, R392). -/
def Obligations.BedsAreDrawn : Prop :=
  ∀ (s : State) (port pool half unit size b : Nat) (q : PorterSt),
    (s.po.pick (pool * 2 + half % 2) = some (b, q) →
      ∃ t, exec (.draw port pool half unit) s = .next t ∧ t = { s with po := t.po } ∧
        lookup t.po.drawn port 0 = b + (q.word b).gen * 2 ^ 24 ∧
        t.po.word b = { q.word b with state := 1, owner := unit, count := 1 }) ∧
    (s.po.pick (pool * 2 + half % 2) = none →
      exec (.draw port pool half unit) s = .next { s.tick Obj.po_exhausted (pool + 1) with po := { s.po with
        failedDraws := assign s.po.failedDraws (pool * 2 + half % 2) (lookup s.po.failedDraws (pool * 2 + half % 2) 0 + 1)
        missed := addNew s.po.missed port } }) ∧
    (262144 < size → exec (.drawBySize size half unit) s = .next (s.emit (.bedReturn unit 0 Oc.denied))) ∧
    (∀ p, p = (if size ≤ 256 then 0 else if size ≤ 4096 then 1 else if size ≤ 16384 then 2
        else if size ≤ 65536 then 3 else 4) → size ≤ 262144 →
      (s.po.pick (p * 2 + half % 2) = some (b, q) →
        ∃ t, exec (.drawBySize size half unit) s = .next t ∧ t = { s.tick Obj.po_draws (p + 1) with po := t.po, out := t.out } ∧
          t.out = .bedReturn unit (b + (q.word b).gen * 2 ^ 24) Oc.ok :: s.out ∧
          t.po.word b = { q.word b with state := 1, owner := unit, count := 1 }) ∧
      (s.po.pick (p * 2 + half % 2) = none →
        exec (.drawBySize size half unit) s = .next { s.tick Obj.po_exhausted (p + 1) with
          out := .bedReturn unit 0 Oc.exhausted :: s.out
          po := { s.po with
            failedDraws := assign s.po.failedDraws (p * 2 + half % 2) (lookup s.po.failedDraws (p * 2 + half % 2) 0 + 1) } }))

/-- SHARE, RELEASE, FREE and HANDOVER of a bed whose handle is current do what they are for, each returned to its issuer
with OK: one more reference, one less, the owner's given up (a last reference frees the bed under the next
generation), another owner (R399). A bed operation with an outdated generation changes no bed, answers STALE, and
counts among the refused (R399, R403). -/
def Obligations.BedReferencesCount : Prop :=
  (∀ (s : State) (h unit dest : Nat), (s.po.word h).gen = hGen h →
     ((s.po.word h).state ≠ 0 → (s.po.word h).count < 1023 →
       ∃ t, exec (.shareCmd h unit) s = .next t ∧ t = { s with po := t.po, out := .bedReturn unit h Oc.ok :: s.out } ∧
         t.po.word h = { s.po.word h with count := (s.po.word h).count + 1 }) ∧
     ((s.po.word h).state ≠ 0 → 2 ≤ (s.po.word h).count →
       ∃ t, exec (.releaseCmd h unit) s = .next t ∧ t = { s with po := t.po, out := .bedReturn unit h Oc.ok :: s.out } ∧
         t.po.word h = { s.po.word h with count := (s.po.word h).count - 1 }) ∧
     ((s.po.word h).state = 2 → (s.po.word h).count ≤ 1 →
       ∃ t, exec (.releaseCmd h unit) s = .next t ∧ t = { s with po := t.po, out := .bedReturn unit h Oc.ok :: s.out } ∧
         t.po.word h = { s.po.word h with state := 0, gen := (hGen h + 1) % 16, count := 0 }) ∧
     ((s.po.word h).state = 1 → (s.po.word h).owner = unit →
       ∃ t, exec (.freeCmd h unit) s = .next t ∧ t = { s with po := t.po, out := .bedReturn unit h Oc.ok :: s.out } ∧
         t.po.word h = if (s.po.word h).count ≤ 1 then
             { s.po.word h with state := 0, gen := (hGen h + 1) % 16, count := 0 }
           else { s.po.word h with state := 2, count := (s.po.word h).count - 1 }) ∧
     ((s.po.word h).state = 1 → (s.po.word h).owner = unit →
       ∃ t, exec (.handover h unit dest) s = .next t ∧ t = { s with po := t.po, out := .bedReturn unit h Oc.ok :: s.out } ∧
         t.po.word h = { s.po.word h with owner := dest })) ∧
  (∀ (s : State) (h unit dest : Nat) (c : Instr),
     c ∈ [Instr.shareCmd h unit, .releaseCmd h unit, .freeCmd h unit, .handover h unit dest] →
     (s.po.word h).gen ≠ hGen h →
     ∃ t, exec c s = .next t ∧ t = { s with objs := t.objs, book := t.book, out := .bedReturn unit h Oc.stale :: s.out })

/-! ### Guestbook and counters -/

/-- gb_clear empties the main guestbook and writes record 0xC002, whose sequence goes on; GATE_COPY copies a record of the
section that is not merged yet behind the main guestbook's last, under the main sequence (R523, R525). -/
def Obligations.GuestbookClearsAndCopies : Prop :=
  ∀ (s : State) (cls : Nat) (r : GbRecord),
    (s.takes (.gbClear cls 1) → s.toSection 0xC002 = false →
      ∃ t, exec (.gbClear cls 1) s = .next t ∧ t = { s with book := t.book, results := t.results, objs := t.objs } ∧
        (∃ x, t.book.main.records = [x] ∧ x.code = 0xC002 ∧ x.severity = 3 ∧ x.seq = s.book.main.seqNext) ∧
        t.book.main.seqNext = seqAfter s.book.main.seqNext ∧ t.book.gate = s.book.gate ∧
        t.result Obj.gb_clear_result = (s.result Obj.gb_clear_result).ended (outcomeVal Oc.ok)) ∧
    (s.book.copying = true → (s.book.gate.records.filter fun x => decide (s.book.merged < x.seq)) = [r] →
      s.book.main.used + r.length ≤ gbMainCap →
      ∃ t, exec .gateCopy s = .next t ∧ t = { s with book := t.book } ∧ t.book.gate = s.book.gate ∧
        t.book.main.records = s.book.main.records ++ [{ r with seq := s.book.main.seqNext }] ∧
        t.book.merged = r.seq)

/-- Counter configuration words, and filters with their reserved fields zero, wait for the leg boundary; a cluster dump
samples every counter and hands its cells to the timetable, or counts a skipped one while a snapshot is being written
(R534, R537, R538). -/
def Obligations.CountersAreConfiguredAndDumped : Prop :=
  ∀ (s : State) (cls block i v : Nat) (f : List Byte),
    (s.takes (.counterConfigWrite cls block i v) →
      ∃ t, exec (.counterConfigWrite cls block i v) s = .next t ∧ t = { s with book := t.book } ∧
        t.book = { s.book with units := t.book.units } ∧
        t.unitCtr block = { s.unitCtr block with configNext := assign (s.unitCtr block).configNext i (configMask i v) }) ∧
    (s.takes (.filterWrite cls i f) →
      exec (.filterWrite cls i f) s = .next { s with book := { s.book with
        filterNext := assign s.book.filterNext i (f.take 10 ++ [0#8, 0#8] ++ slice f 12 28 ++ List.replicate 8 0#8) } }) ∧
    (s.get Obj.gb_dump_interval ≠ 0 → s.get Obj.gb_dump_interval ≤ s.book.dumpLegs →
      (s.book.dumping = 0 → ∃ t, exec .clusterDump s = .next t ∧ t = { s with book := t.book, ce := t.ce } ∧
        t.book = { s.book with
          dumpLegs := 0, dumping := 10, dumpHold := s.book.units, dumpLeg := s.tt.legCount, dumpTime := s.gh.now
          dumpVoq := s.pc.voqNow } ∧
        t.ce = { s.ce with ready := t.ce.ready } ∧ t.ce.ready.length = s.ce.ready.length + 10) ∧
      (s.book.dumping ≠ 0 → ∃ t, exec .clusterDump s = .next t ∧
        t = ({ s with book := { s.book with dumpLegs := 0 } } : State).tick Obj.gb_dumps_skipped))

/-! ### The cipher -/

/-- Keys: a derivation that completes enters the key store, evicting none below 8,192 keys; the owner root written in
Service, Standby or Drain waits for the reset that takes it into use, in other modes it is in use at once;
cy_host_key_derive answers the host key of the named host identifier (R406, R409, R413). -/
def Obligations.KeysAreDerivedAndReplaced : Prop :=
  ∀ (s : State) (cls : Nat) (root : List Byte) (k : DerivedKey) (r : List DerivedKey),
    (s.cy.derivs = k :: r → s.cy.store.length < 8192 →
      exec .keyDerivationDone s = .next
        (({ s with cy := { s.cy with derivs := r, store := k :: s.cy.store } } : State).tick Obj.cy_derivations)) ∧
    (s.takes (.cyOwnerRootWrite cls root) → s.get Obj.cy_owner_root_state ≠ 1 → root.length = 32 →
      (s.md.mode ≠ .service → s.md.mode ≠ .standby → s.md.mode ≠ .drain →
        ∃ t, exec (.cyOwnerRootWrite cls root) s = .next t ∧ t.cy.ownerRootNext = some (leNat root) ∧
          t.cy.ownerRoot = some (leNat root) ∧ t.result Obj.cy_owner_root_result =
            (s.result Obj.cy_owner_root_result).ended (outcomeVal Oc.ok)) ∧
      ((s.md.mode = .service ∨ s.md.mode = .standby ∨ s.md.mode = .drain) → s.ce.namespaces = [] →
        ∃ t, exec (.cyOwnerRootWrite cls root) s = .next t ∧ t.cy.ownerRootNext = some (leNat root) ∧
          t.cy.ownerRoot = s.cy.ownerRoot ∧ t.result Obj.cy_owner_root_result =
            (s.result Obj.cy_owner_root_result).ended (outcomeVal Oc.ok)) ∧
      ((s.md.mode = .service ∨ s.md.mode = .standby ∨ s.md.mode = .drain) → s.ce.namespaces ≠ [] →
        ∃ t, exec (.cyOwnerRootWrite cls root) s = .next t ∧ t = { s with results := t.results } ∧
          t.result Obj.cy_owner_root_result = (s.result Obj.cy_owner_root_result).ended (outcomeVal Oc.denied))) ∧
    (s.takes (.cyHostKeyDerive cls 1) →
      ∃ t, exec (.cyHostKeyDerive cls 1) s = .next t ∧ t = { s with results := t.results } ∧
        t.result Obj.cy_host_key = (s.result Obj.cy_host_key).ended
          (s.kHost (beNat (s.blob Obj.cy_host_key_hostid 0 (List.replicate 16 0)))))

/-! ### Modes, resets and the clock -/

/-- The reference clock: its loss puts a locked PLL into holdover and adds a cause of Drain in Service, Standby and Drain,
and is remembered in every mode; its return locks a PLL in holdover and clears that cause, and the reference is there
where its rail is on; a holdover that ends leads to a warm reset with the PLL off, its record's code a free value (log
entry 47), and outside holdover, in Vigil and in Holdup its end changes nothing (R30). -/
def Obligations.ReferenceClockDrains : Prop :=
  ∀ s : State,
    (s.clk.pll = .locked →
      exec .refclkLoss s = .next { s with
        clk := { s.clk with refclk := false, refLost := true, pll := .holdover }
        md := if s.md.mode = .service ∨ s.md.mode = .standby ∨ s.md.mode = .drain then
            { s.md with causes := addNew s.md.causes 2 } else s.md }) ∧
    (s.clk.pll ≠ .locked →
      exec .refclkLoss s = .next { s with clk := { s.clk with refclk := false, refLost := true } }) ∧
    (s.clk.pll = .holdover →
      exec .refclkRelock s = .next { s with
        clk := { s.clk with
          refclk := (s.md.mode != .vigil && (s.md.mode != .muster || decide (3 ≤ s.md.step))) ||
            decide (s.get Obj.gh_rail_used 12 = 0)
          refLost := false, pll := .locked }
        md := { s.md with causes := s.md.causes.filter (· != 2) } }) ∧
    (s.clk.pll = .holdover → s.md.mode ≠ .vigil → s.md.mode ≠ .holdup →
      exec .holdoverEnd s =
        .next ({ s.drawn.record 7 (0xE000 + s.freeVal 12) [] with clk := { s.clk with pll := .off } }.warmReset 2)) ∧
    ((s.clk.pll ≠ .holdover ∨ s.md.mode = .vigil ∨ s.md.mode = .holdup) → exec .holdoverEnd s = .next s)

/-- What a warm reset leaves: Muster at step 3; command engine, admission, drives' queues, connections, ports, porter and
endpoint at their reset content, but that every root port drives its clock pair; every main-die RESULT ready with
sequence 0; the vault's images and, outside Holdup, all of the gatehouse as they were; in Muster it counts against the
firmware slot (R454, R455, R463, R481, R548). The commands that reset the main dies: fw_warm_reset 1, an automatic
warm reset (record 0xE004 first where the roots' copies are at fault), and the expiry of an activation, which counts
against the slot being activated (R26, R454, R463, R467). What an entry to Vigil leaves: step 0, the main guestbook
lost and its section kept, shelf time saved, the main dies at their reset content (R454, R455, R523, R525). -/
def Obligations.ResetsAndVigilEntry : Prop :=
  (∀ (s : State) (cause : Nat), s.md.mode ≠ .vigil →
     (s.warmReset cause).md.mode = .muster ∧ (s.warmReset cause).md.step = 3 ∧
     (s.warmReset cause).ce = {} ∧ (s.warmReset cause).adm = {} ∧
     (s.warmReset cause).drives = { bays := List.replicate 24 { refclk := true } } ∧
     (s.warmReset cause).tr = {} ∧ (s.warmReset cause).pc = {} ∧ (s.warmReset cause).po = {} ∧ (s.warmReset cause).ep = {} ∧
     (∀ ix, keyCleared false (objKey ix 0) = true → (s.warmReset cause).result ix = {}) ∧
     (s.warmReset cause).lg.images = s.lg.images ∧ (s.md.mode ≠ .holdup → (s.warmReset cause).gh = s.gh) ∧
     (s.warmReset cause).md.failedBoots =
       if s.md.mode = .muster ∨ cause = 4 then s.md.failedBoots + 1 else s.md.failedBoots) ∧
  (∀ (s : State) (cls slot : Nat) (src : CmdSrc) (cid : Nat), s.md.mode ≠ .vigil →
     (s.takes (.fwWarmReset cls 1) → exec (.fwWarmReset cls 1) s = .next (s.warmReset 1)) ∧
     exec (.warmReset false) s = .next (s.warmReset 8) ∧
     exec (.warmReset true) s = .next ((s.record 7 0xE004 [(1, 2)]).warmReset 7) ∧
     (s.md.activation = some (slot, src, cid) → s.md.activationReady = false → s.md.mode = .drain →
       exec .mtfaTimeout s = .next ({ s with md := { s.md with active := slot, failedBoots := 0 } }.warmReset 4))) ∧
  (∀ (s : State) (orderly : Bool) (cause : Nat), s.md.mode ≠ .vigil →
     (s.enterVigil orderly cause).md.mode = .vigil ∧ (s.enterVigil orderly cause).md.step = 0 ∧
     (s.enterVigil orderly cause).ce = {} ∧ (s.enterVigil orderly cause).adm = {} ∧ (s.enterVigil orderly cause).drives = {} ∧
     (s.enterVigil orderly cause).tr = {} ∧ (s.enterVigil orderly cause).pc = {} ∧ (s.enterVigil orderly cause).po = {} ∧
     (s.enterVigil orderly cause).ep = {} ∧ (s.enterVigil orderly cause).book.main = {} ∧
     (s.enterVigil orderly cause).gh.saved = s.gh.now ∧ (s.enterVigil orderly cause).lg.images = s.lg.images ∧
     (orderly = false → (s.enterVigil orderly cause).gh.igate = false ∧ (s.enterVigil orderly cause).gh.board.on = false))

/-- fw_shutdown 1: a cause of Drain in Service, Standby and Drain, whose end is Vigil; at once Vigil in Muster; DENIED in
Vigil and Holdup. Its timeout ends the run with TIMEOUT and takes the cause back (R454, R466). -/
def Obligations.ShutdownPassesThroughDrain : Prop :=
  ∀ (s : State) (cls : Nat),
    (s.takes (.fwShutdown cls 1) → (s.md.mode = .service ∨ s.md.mode = .standby ∨ s.md.mode = .drain) →
      exec (.fwShutdown cls 1) s = .next { s.startRun Obj.fw_shutdown_result with
        md := { s.md with shutdown := true, causes := addNew s.md.causes 4 } }) ∧
    (s.takes (.fwShutdown cls 1) → s.md.mode = .muster →
      exec (.fwShutdown cls 1) s = .next (((s.startRun Obj.fw_shutdown_result).endRun Obj.fw_shutdown_result
        (outcomeVal Oc.ok)).enterVigil true 8)) ∧
    (s.takes (.fwShutdown cls 1) → (s.md.mode = .vigil ∨ s.md.mode = .holdup) →
      exec (.fwShutdown cls 1) s = .next ((s.startRun Obj.fw_shutdown_result).endRun Obj.fw_shutdown_result
        (outcomeVal Oc.denied))) ∧
    (s.md.shutdown = true →
      exec .shutdownTimeout s = .next ({ s with
        md := { s.md with shutdown := false, causes := s.md.causes.filter (· != 4) } }.endRun Obj.fw_shutdown_result
          (outcomeVal Oc.timeout)))

/-! ### Holdup -/

/-- A power-fail trip with votes enough (R206) enters Holdup from Service, Standby and Drain: the charger and the bank
gate off, the stage on, the flush due, and but for the light profile, which takes links and clocks down, nothing else;
in Muster it enters Vigil (R207, R441). The flush ends: the end page goes to the vault and makes the image complete
and keeps its size and time, the bank's floor cuts the flush short and counts a partial one; then the stage stops,
which with a valid feed is a warm reset and without one bleeds the bank (R208 to R211, R441). -/
def Obligations.HoldupFlushesAndEnds : Prop :=
  (∀ (s : State) (seen : List Bool), s.gh.powered = true → s.pfVote ≠ 0 →
     s.pfVote ≤ ((List.range 3).filter fun i => seen.getD i false && s.lg.comparators.getD i 1 != 1).length →
     ((s.md.mode = .service ∨ s.md.mode = .standby ∨ s.md.mode = .drain) →
       ∃ t, exec (.pfTrip seen) s = .next t ∧ t.md.mode = .holdup ∧ t.gh.charging = false ∧ t.gh.igate = false ∧
         t.gh.huDrv = true ∧ t.gh.bankState = 4 ∧ t.tt = { s.tt with holdupPend := true, activatePend := none } ∧
         t.lg.flush = some { image := s.lg.nextImage, total := 0, start := s.gh.now } ∧
         (s.get Obj.lg_flush_profile ≠ 1 →
           t.lg = { s.lg with
             flush := some { image := s.lg.nextImage, total := 0, start := s.gh.now }
             flushSeq := s.lg.flushSeq + (if s.wingBits = 0 then 0 else 1) } ∧
           t = { s with
             objs := t.objs, md := { s.md with mode := .holdup }, gh := t.gh, tt := t.tt, book := t.book, lg := t.lg })) ∧
     (s.md.mode = .muster →
       exec (.pfTrip seen) s = .next ((if s.feedValid then s else s.bleedResidue).enterVigil true 4))) ∧
  (∀ (s : State) (mw : Nat) (f : FlushSt), s.lg.flush = some f → s.md.mode = .holdup →
     (f.boundary = true → f.total ≤ f.pages + 1 → f.total ≠ 0 →
       exec (.flushEndPage mw) s = .next (
         let u := ((s.vaultWrite f.image (f.total - 1)).flushWritten true).record 4 0x8021 [(8, f.total * 4096), (8, s.gh.now - f.start), (4, mw)]
         let v := (u.put Obj.lg_last_flush_bytes 0 (f.total * 4096)).put Obj.lg_last_flush_time 0 (s.gh.now - f.start)
         if v.get Obj.lg_flush_power_measured = mw then v.stageStop
         else ((v.put Obj.lg_flush_power_measured 0 mw).modLg fun l => { l with recompute := true }).stageStop)) ∧
     (s.gh.huDrv = true → (f.total ≠ 0 ∨ f.boundary = false) →
       exec .bankFloorReached s = .next ((s.flushWritten false).tick Obj.gh_tally_partial_flushes).stageStop) ∧
     ((s.feedValid = true → (s.stageStop) = ({ s with gh := { s.gh with
         huDrv := false, igate := true, bankState := 1, charging := true, chargeAt := s.gh.ticks, chargeLogged := false
         board := { s.gh.board with on := true, onTicks := 0, goodTicks := 0 } } } : State).warmReset 3) ∧
       (s.feedValid = false → s.stageStop.gh.bleed = true ∧ s.stageStop.gh.huDrv = false ∧ s.stageStop.gh.bankState = 5 ∧
         s.stageStop = { s with gh := s.stageStop.gh })))

/-! ### Partial resets of a unit -/

/-- A partial reset that starts: the unit's cells close at the next leg boundary and the reset is under way, whether it is
asked for by fw_unit_reset, cy_core_reset, the fault of a core, whose passes in it return RESET first, or a silent
steward (R419, R420, R468, R469). A partial reset that ends: a unit that reports ready has its cells reopened at the
next leg boundary, a core runs again; one that does not report in time stays closed: a core, a port, the endpoint's
link, a root port, whose bay is contained, and a steward, of which enough must be left, each as R469 says. -/
def Obligations.PartialResetsCloseAndEnd : Prop :=
  (∀ (s : State) (cls u : Nat), s.mayReset u = true → u ≠ 6 → (∀ r ∈ s.md.resets, r.unit ≠ u) →
     (s.takes (.fwUnitReset cls u) →
       exec (.fwUnitReset cls u) s = .next ((s.startRun Obj.fw_unit_reset_result).startReset u 0 true false)) ∧
     (0x20 ≤ u → u < 0x30 → s.takes (.cyCoreReset cls (u - 0x20)) →
       exec (.cyCoreReset cls (u - 0x20)) s = .next ((s.startRun Obj.cy_core_reset_result).startReset u 0 false true)) ∧
     (∀ (v : State) (trigger : Nat) (byObject byCore : Bool), (∀ r ∈ v.md.resets, r.unit ≠ u) →
       u ∈ (v.startReset u trigger byObject byCore).tt.closePend ∧
       ∃ r ∈ (v.startReset u trigger byObject byCore).md.resets, r.unit = u ∧ r.phase = .requested ∧ r.trigger = trigger ∧
         r.byObject = byObject ∧ r.byCore = byCore ∧ r.start = v.gh.now) ∧
     (0x20 ≤ u → u < 0x30 → s.cy.coreState.getD (u - 0x20) 2 = 0 →
       ∀ passes pulls : List (Nat × Nat),
         (∀ x ∈ passes, (s.cmd? x.1).any (fun c => c.blocks.any fun b => b.lba == x.2 && b.stage == .inBed) = true) →
         let v := passes.foldl (fun t x => t.resetBlock x.1 x.2 (u - 0x20) true) s
         (∀ x ∈ pulls, (v.reqOf (.pullCipher x.1 x.2)).isSome = true) →
         exec (.coreFault (u - 0x20) passes pulls) s =
           .next ((pulls.foldl (fun t x => t.resetPull x.1 x.2 (u - 0x20) true) v).startReset u 1 false false)) ∧
     (0x58 ≤ u → u < 0x60 → u ∉ s.md.closedStewards →
       exec (.stewardWatchdog (u - 0x58)) s = .next (s.startReset u 1 false false))) ∧
  (∀ (s : State) (u : Nat) (r : UnitReset), (s.md.resets.find? fun x => x.unit == u && x.phase != .ready) = some r →
     (let v := State.reopenUnit u ((if r.phase = .requested then s.freeOfUnit u else s).modMd fun m => { m with
         resets := modFirst (fun x => x.unit == u) (fun x => { x with phase := .ready }) m.resets })
      (0x20 ≤ u → u < 0x30 → exec (.unitReady u) s = .next (v.modCy fun y => { y with
         coreState := y.coreState.set (u - 0x20) 0 })) ∧
      (8 ≤ u → u < 0x20 → exec (.unitReady u) s = .next (v.rootReady (u - 8))) ∧
      ((1 ≤ u ∧ u ≤ 4 ∨ 0x58 ≤ u ∧ u ≤ 0x5F) → exec (.unitReady u) s = .next v) ∧
      u ∈ v.tt.reopenPend) ∧
     (0x20 ≤ u → u < 0x30 →
       ∃ t, exec (.unitReadyLimit u) s = .next t ∧ t.cy.coreState = s.cy.coreState.set (u - 0x20) 2 ∧
         t.md = { s.md with resets := s.md.resets.filter fun x => x.unit != u }) ∧
     (1 ≤ u → u ≤ 4 →
       ∃ t, exec (.unitReadyLimit u) s = .next t ∧ t.pc.portState = s.pc.portState.set (u - 1) 0 ∧
         t.pc.portMode = s.pc.portMode.set (u - 1) 4 ∧
         t.md = { s.md with resets := s.md.resets.filter fun x => x.unit != u }) ∧
     (u = 6 →
       ∃ t, exec (.unitReadyLimit u) s = .next t ∧
         t.ep = { s.ep with link := 0, rate := 0, width := 0, resetting := false, tags := [] } ∧
         t.md = { s.md with resets := s.md.resets.filter fun x => x.unit != u }) ∧
     (let v := State.resetEnds r Oc.timeout (State.record 6 0xE007
         [(1, u), (1, r.trigger), (2, r.returned), (4, (s.gh.now - r.start) / 1000000)]
         { s.freeOfUnit u with md := { s.md with resets := s.md.resets.filter fun x => x.unit != u } })
      (8 ≤ u → u ≤ 0x1F → exec (.unitReadyLimit u) s = .next (v.contain (u - 8) 9)) ∧
      (0x58 ≤ u → u ≤ 0x5F →
        let x : State := { v with md := { v.md with closedStewards := addNew v.md.closedStewards u } }
        exec (.unitReadyLimit u) s = .next (if x.stewardsShort = true then x.warmReset 6 else x))))

/-! ### Firmware -/

/-- Firmware by way of the command engine: a fragment is kept, Commit of the slot's own package with action 2 names the
slot for the next warm reset, and an activation whose stewards restarted in Drain and are ready runs its slot on every
one, reopens their cells and takes the cause of Drain back (R65, R320 to R323, R465, R467). -/
def Obligations.FirmwareIsDownloadedAndCommitted : Prop :=
  ∀ (s u : State) (src src' : CmdSrc) (cid cid' offset slot : Nat) (data : List Byte) (a : Assoc),
    (s.adminFrom src true false = some (a, u) → u.firmwareFrom a = true → (u.ce.download = none ∨ u.ce.download = some a.index) →
      data ≠ [] → offset % 4 = 0 → data.length % 4 = 0 → data.length ≤ 2097152 → offset + data.length ≤ 16777216 →
      (∀ f ∈ u.ce.fragments, offset + data.length ≤ f.1 ∨ f.1 + f.2.length ≤ offset) →
      exec (.firmwareImageDownload src cid offset data) s = .next ({ u with ce := { u.ce with
        download := some a.index, fragments := insertBy (·.1) (offset, data) u.ce.fragments } }.respond src 0 cid .success)) ∧
    (s.adminFrom src true false = some (a, u) → u.firmwareFrom a = true → u.ce.download = none → (slot = 1 ∨ slot = 2) →
      checkPackage (u.get Obj.gh_tally_rollback_fw) u.md.ownerKey (u.slot slot).package = 0 →
      exec (.firmwareCommit src cid 2 slot) s = .next
        ({ u.put Obj.fw_package_cause 0 0 with md := { u.md with next := slot } }.respond src 0 cid .success)) ∧
    (s.md.activation = some (slot, src', cid') → s.md.activationReady = false → s.md.mode = .drain → s.md.restarting = true →
      exec .firmwareActivationReady s = .next { s.liveStewards.foldl (fun t u => t.reopenUnit u) s with md := { s.md with
        active := slot, next := (if s.md.next = slot then 0 else s.md.next), failedBoots := 0, activationReady := true
        ranFrom := some s.gh.now, restarting := false, causes := s.md.causes.filter (· != 1) } })

/-- Custodians' packages and keys: in recovery a package that passes goes to slot 1 and the controller starts anew, one
that fails leaves recovery as it is but for the shown cause and its record; the owner key is held once; firmware that
has run the confirm time raises the rollback floor (R459, R462, R464). -/
def Obligations.PackagesAndKeysAreJudged : Prop :=
  ∀ (s : State) (cls : Nat) (p : List Byte),
    (s.takes (.fwRecoveryImage cls p) →
      (checkPackage (s.get Obj.gh_tally_rollback_fw) s.md.ownerKey p = 0 →
        exec (.fwRecoveryImage cls p) s = .next ((s.put Obj.fw_package_cause 0 0).putSlot 1 p |>.warmReset 5)) ∧
      (checkPackage (s.get Obj.gh_tally_rollback_fw) s.md.ownerKey p ≠ 0 →
        exec (.fwRecoveryImage cls p) s = .next
          ((s.put Obj.fw_package_cause 0 (checkPackage (s.get Obj.gh_tally_rollback_fw) s.md.ownerKey p)).record 4 0xE005
            [(1, checkPackage (s.get Obj.gh_tally_rollback_fw) s.md.ownerKey p), (1, 3)]))) ∧
    (s.takes (.fwOwnerKeyWrite cls p) → s.md.ownerKey = [] → p.length = 2592 →
      ∃ t, exec (.fwOwnerKeyWrite cls p) s = .next t ∧
        t = { ({ s.startRun Obj.fw_owner_key_result with md := { s.md with ownerKey := p } } : State).record 3 0xE009
          [(64, (Config.sha3 p).toNat)] with results := t.results } ∧
        t.result Obj.fw_owner_key_result = (s.result Obj.fw_owner_key_result).ended (outcomeVal Oc.ok)) ∧
    (s.takes (.fwOwnerKeyWrite cls p) → (s.md.ownerKey ≠ [] ∨ p.length ≠ 2592) →
      ∃ t, exec (.fwOwnerKeyWrite cls p) s = .next t ∧ t = { s with results := t.results } ∧
        t.result Obj.fw_owner_key_result = (s.result Obj.fw_owner_key_result).ended (outcomeVal Oc.denied)) ∧
    ((s.md.mode = .service ∨ s.md.mode = .standby) → s.confirmed = true → s.get Obj.gh_tally_rollback_fw < (s.slot s.md.active).security →
      exec .fwConfirmExpiry s = .next ((s.put Obj.gh_tally_rollback_fw 0 (s.slot s.md.active).security).record 3 0xE006
        [(4, s.get Obj.gh_tally_rollback_fw), (4, (s.slot s.md.active).security)]))

/-! ### Muster -/

/-- Vigil is left where a feed is selected and the start policy permits: step 1 of Muster turns the board switch on;
fw_start and si_promote release a controller that is held, which goes on at once unless Muster stands still (R30,
R250, R258, R454, R455). -/
def Obligations.VigilIsLeftUnderThePolicy : Prop :=
  ∀ (s : State) (cls : Nat),
    (s.md.mode = .vigil → s.gh.powered = true → s.gh.selected ≠ 0 → s.gh.board.offTicks = 0 → s.gh.board.latched = false →
      s.gh.railsOff = none → s.gh.bleedGoal ≠ 1 →
      (s.get Obj.fw_start_policy ≠ 1 ∨ s.md.released = true ∨ s.si.promoted = true) →
      let v := State.tick Obj.gh_tally_power_cycles 0 { s with
        lg := { s.lg with comparators := [0, 0, 0] }
        md := { s.md with held := s.get Obj.fw_start_policy == 2 && !(s.md.released || s.si.promoted) } }
      exec .vigilExit s = .next (State.musterGo 1 (v.setMode .muster 7)) ∧
        (State.musterGo 1 (v.setMode .muster 7)).md = { v.md with
          mode := .muster, step := 1, stepStart := s.gh.now, hold := .none }) ∧
    (s.takes (.fwStart cls 1) → (s.md.mode ≠ .muster ∨ s.md.hold ≠ .policy ∨ s.clk.pll = .holdover ∨
        s.clk.musterHalted = true) →
      exec (.fwStart cls 1) s = .next { s with md := { s.md with released := true, held := false } }) ∧
    (s.takes (.fwStart cls 1) → s.md.mode = .muster → s.md.hold = .policy → s.clk.pll ≠ .holdover →
      s.clk.musterHalted = false →
      exec (.fwStart cls 1) s = .next { s with md := { s.md with released := true, held := false } }.musterNext) ∧
    (s.takes (.siPromote cls 1) → s.singleShelf = true → s.heldForPromotion = true →
      exec (.siPromote cls 1) s = .next (((s.startRun Obj.si_promote_result).promote none).endRun Obj.si_promote_result
        (outcomeVal Oc.ok))) ∧
    (s.takes (.siPromote cls 1) → (s.singleShelf = false ∨ s.heldForPromotion = false) →
      exec (.siPromote cls 1) s = .next ((s.startRun Obj.si_promote_result).endRun Obj.si_promote_result
        (outcomeVal Oc.denied)))

/-- Steps of Muster end where what they wait for has come about: without a reference step 3 waits; step 5 copies the
section; step 12 ends once the sister has answered; step 13 ends Muster in Service with a lantern held, else in
Standby; a step that is not in progress, or a Muster that stands still, leaves everything as it is (R30, R62, R454,
R457). -/
def Obligations.MusterStepsEnd : Prop :=
  ∀ (s : State) (r : MusterIn), s.md.mode = .muster → s.md.hold ≠ .selfTest → s.md.hold ≠ .recovery →
    (∀ n, (n ≠ s.md.step ∨ s.clk.pll = .holdover ∨ s.clk.musterHalted = true) → exec (.musterStepEnd n r) s = .next s) ∧
    (s.clk.pll ≠ .holdover → s.clk.musterHalted = false →
    (s.md.step = 3 → s.clk.refclk = false →
      exec (.musterStepEnd 3 r) s = .next { s with md := { s.md with hold := .reference } }) ∧
    (s.md.step = 5 →
      exec (.musterStepEnd 5 r) s = .next (s.copySection.modBook fun b => { b with copying := true }).musterNext) ∧
    (s.md.step = 12 → (s.paired = false ∨ (s.link 32).up = false ∨ s.si.answered = true) →
      exec (.musterStepEnd 12 r) s = .next { s.put Obj.fw_muster_times 12
          (Nat.min ((s.gh.now - s.md.stepStart) / 1000) (2 ^ 32 - 1)) with
        md := { s.md with step := 13, stepStart := s.gh.now, hold := .none } }) ∧
    (s.md.step = 13 → s.tt.pattern = .image → s.si.idConflict = false → (s.paired = false ∨ s.fallbackReady = true) →
      ∃ t, exec (.musterStepEnd 13 r) s = .next t ∧
        t = { s with objs := t.objs, book := t.book, md := t.md, lg := { s.lg with recompute := true }
                     si := { s.si with promoted := false, promoteClaim := none } } ∧
        t.md = { s.md with
          mode := (if s.heldWings = [] then .standby else .service), step := 0, hold := .none, failedBoots := 0, absentAt7 := []
          ranFrom := some s.gh.now }))

/-! ### The gatehouse: switches and bays -/

/-- A switch this gatehouse controls trips when its fault timer expires or power-good does not come in time: a bay's goes
off, its trips rise, its off time is 63 times the attempt and at least 2 s, and at the seventh trip it latches; other
switches keep what they hold (R429, R433). What clears a switch: 100 ms below its limit the accumulator, 60 s of
power-good the trip count, an unlatch or a bay empty long enough count, latch and off time; the board's unlatch also
releases THERM_TRIP_N (R429, R434, R436, R558). The board switch is turned on again when its off time ends outside
Vigil and Holdup, with the limits it then keeps; a bay's turn comes under R435 by bayNext, which turns on the first
bay that may be on once the stagger has passed (R429, R433, R435). -/
def Obligations.SwitchesTripAndTurnOn : Prop :=
  (∀ (s : State) (i : Nat), s.gh.powered = true → s.controls i = true → (s.switch i).on = true →
     ((s.switch i).letThrough * 1000000 ≤ (s.switch i).acc →
       exec (.faultTimerExpiry i) s = .next (s.tripSwitch i 1)) ∧
     ((s.switch i).good = false → (s.switch i).pgTimeout ≤ (s.switch i).onTicks * 1000 →
       exec (.pgTimeout i) s = .next (s.tripSwitch i 2)) ∧
     (∀ k, i < 24 → s.gh.bays.length = 24 →
       ((s.tripSwitch i k).switch i).on = false ∧ ((s.tripSwitch i k).switch i).trips = Nat.min ((s.switch i).trips + 1) 7 ∧
       ((s.tripSwitch i k).switch i).latched = decide (6 ≤ (s.switch i).trips) ∧
       ((s.tripSwitch i k).switch i).offTicks =
         (if 6 ≤ (s.switch i).trips then 0 else Nat.max (63 * (s.switch i).onTicks) 2000000) ∧
       ((s.tripSwitch i k).switch i).attempt = (s.switch i).onTicks * 1000 ∧
       ∀ j, j ≠ i → (s.tripSwitch i k).switch j = s.switch j)) ∧
  (∀ (s : State) (cls i : Nat), s.gh.powered = true →
     (i ≤ 24 → 100000 ≤ (s.switch i).below →
       exec (.accumulatorClear i) s = .next (s.modSwitch i fun x => { x with acc := 0 })) ∧
     (i ≤ 24 → 60000000 ≤ (s.switch i).goodTicks → (s.switch i).trips ≠ 0 →
       exec (.tripCountClear i) s = .next
         (if i < 24 then (s.modSwitch i fun x => { x with trips := 0 }).record 3 0x2103 [(1, i), (1, 1)]
          else s.modSwitch i fun x => { x with trips := 0 })) ∧
     (s.takes (.ghBoardUnlatch cls 1) →
       ∃ t, exec (.ghBoardUnlatch cls 1) s = .next t ∧ t = { s with gh := t.gh, results := t.results } ∧
         t.gh.board = { s.gh.board with offTicks := 0, trips := 0, latched := false } ∧ t.gh.thermTrip = false ∧
         t.result Obj.gh_board_unlatch_result = (s.result Obj.gh_board_unlatch_result).ended (outcomeVal Oc.ok)) ∧
     (s.takes (.ghBayUnlatch cls i) → i < 24 →
       exec (.ghBayUnlatch cls i) s = .next (State.endRun Obj.gh_bay_unlatch_result (outcomeVal Oc.ok) (State.bayNext
         (((s.startRun Obj.gh_bay_unlatch_result).modSwitch i fun x =>
           { x with offTicks := 0, trips := 0, latched := false }).record 3 0x2103 [(1, i), (1, 3)])))) ∧
     (i < 24 → (s.gh.pins.getD i {}).present = false → (s.gh.pins.getD i {}).low = false →
       (s.gh.pins.getD i {}).needEmpty ≠ 0 → (s.gh.pins.getD i {}).needEmpty ≤ (s.gh.pins.getD i {}).empty →
       (s.switch i).trips = 0 → (s.switch i).latched = false →
       exec (.bayEmptyClear i) s = .next (s.modSwitch i fun x => { x with offTicks := 0, trips := 0, latched := false }))) ∧
  (∀ (s : State) (i : Nat), s.gh.powered = true →
     ((s.switch 24).on = false → (s.switch 24).latched = false → (s.switch 24).trips ≠ 0 → (s.switch 24).offTicks = 0 →
       s.md.mode ≠ .vigil → s.md.mode ≠ .holdup →
       ∃ t, exec (.offTimeEnd 24) s = .next t ∧ t = { s with gh := t.gh } ∧ t.gh.board.on = true ∧
         t.gh.board.limit = s.get Obj.gh_board_limit ∧ t.gh.board.letThrough = s.get Obj.gh_board_let_through ∧
         t.gh.igate = !s.gh.huDrv) ∧
     (i < 24 → (s.switch i).on = false → (s.switch i).latched = false → (s.switch i).trips ≠ 0 → (s.switch i).offTicks = 0 →
       exec (.offTimeEnd i) s = .next s.bayNext) ∧
     exec .bayStagger s = .next s.bayNext ∧
     (i < 24 → s.gh.bays.length = 24 → s.bayMay i = true → (∀ j, j < i → s.bayMay j = false) → s.staggered = true →
       s.bayNext = { s with gh := s.bayNext.gh } ∧ (s.bayNext.switch i).on = true ∧
         (s.bayNext.switch i).limit = s.get Obj.gh_bay_limit (i + 1) ∧ s.bayNext.gh.stagger = some s.gh.ticks ∧
         ∀ j, j ≠ i → j < 24 → s.bayNext.switch j = s.switch j))

/-- Carriers: 250 ms of presence count an insertion, a removal turns the bay off and contains its drive with cause 4, an
enable of 0 turns it off at once, and power-good for 100 ms with the bay's clock there releases the drive's reset
(R343, R435, R436, R531, R548, R552). -/
def Obligations.CarriersComeAndGo : Prop :=
  ∀ (s : State) (cls bay : Nat), bay < 24 → s.gh.powered = true →
    ((s.gh.pins.getD bay {}).low = true → (s.gh.pins.getD bay {}).present = false →
      250000 ≤ (s.gh.pins.getD bay {}).lowTicks →
      ∃ u : State, exec (.presenceDebounced bay) s = .next u.bayNext ∧
        u = State.tick Obj.gh_tally_bay_insertions (bay + 1) { s with gh := u.gh } ∧
        u.gh = { s.gh with pins := s.gh.pins.modify bay fun x => { x with present := true, empty := 0 } }) ∧
    ((s.gh.pins.getD bay {}).present = true → (s.gh.pins.getD bay {}).low = false →
      ∃ u : State, exec (.carrierRemoval bay) s = .next ((u.switchOff bay).contain bay 4) ∧ u = { s with gh := u.gh } ∧
        u.gh = { s.gh with pins := s.gh.pins.modify bay fun x =>
          { x with present := false, needEmpty := Nat.max 1000000 (s.switch bay).offTicks } }) ∧
    (s.takes (.ghBayEnableWrite cls bay 0) → s.drivesBays = true →
      exec (.ghBayEnableWrite cls bay 0) s = .next ((s.put Obj.gh_bay_enable (bay + 1) 0).switchOff bay)) ∧
    (s.takes (.ghBayEnableWrite cls bay 1) →
      exec (.ghBayEnableWrite cls bay 1) s = .next (s.put Obj.gh_bay_enable (bay + 1) 1).bayNext) ∧
    ((s.switch bay).on = true → (s.switch bay).good = true → (s.drive bay).refclk = true → s.heldForPromotion = false →
      s.md.mode ≠ .vigil →
      (s.md.mode = .muster → 7 ≤ s.md.step) →
      exec (.drvPerstRelease bay) s = .next (s.modDrive bay fun d => { d with perst := false }))

/-! ### The gatehouse: feeds, tick, bank, rails, time and power -/

/-- Feeds: 10 ms within the limits make a feed valid and reselect; the new pair goes on 20 ticks after the break unless it
is over or blocked; a feed earlier in priority and valid for the delay is returned to (R424 to R426). -/
def Obligations.FeedsChangeOver : Prop :=
  ∀ (s : State) (i n : Nat), s.gh.powered = true →
    (i < 2 → (s.feed i).valid = false → 10000 ≤ (s.feed i).inRange →
      ∃ u : State, exec (.feedValid i) s = .next u.reselect ∧ u = { s with gh := { s.gh with feeds := s.gh.feeds.modify i fun y =>
        { y with valid := true, blocked := false, validTicks := 0, state := 1 } } }) ∧
    (s.gh.changeover = some (i + 1, n) → 20 ≤ n →
      ∃ u : State, exec .feedMake s = .next u.reselect ∧ u = { s with gh := { s.gh with
        changeover := none, feeds := s.gh.feeds.modify i fun y => { y with pairOn := y.overT < 2 && !y.blocked } } }) ∧
    (i < 2 → s.gh.changeover = none → s.gh.selected ≠ 0 → s.gh.selected ≠ i + 1 → s.bestFeed = i + 1 →
      s.get Obj.gh_feed_return_delay ≤ (s.feed i).validTicks * 1000 →
      (s.gh.changed = false ∨ 1000000 ≤ s.gh.ticks - s.gh.lastChange) →
      ∃ t, exec (.feedReturn i) s = .next t ∧ t = State.record 4 0x2001
          [(1, s.gh.selected), (1, i + 1), (1, 2), (4, (s.feed 0).mv), (4, (s.feed 1).mv)]
          (State.tick Obj.gh_feed_changeovers 0 { s with gh := { s.gh with
            selected := i + 1, changeover := some (i + 1, 0), lastChange := s.gh.ticks, changed := true
            feeds := s.gh.feeds.modify (s.gh.selected - 1) fun y => { y with pairOn := false } } })) ∧
    (s.gh.changeover = none → s.gh.selected = 0 → s.bestFeed = i + 1 →
      s.reselect = { s with gh := { s.gh with
        selected := i + 1, feeds := s.gh.feeds.modify i fun y => { y with pairOn := true } } })

/-- The gatehouse's tick: a powered one counts a microsecond, and shelf time moves on by 1,000 ns, by one more or one less
in every tenth tick while a slew is pending; in Muster a tick that leaves no feed valid leads to Vigil; an unpowered
one stands still (R423, R449, R450, R454). What the gatehouse keeps for others, while it is powered: a sample of every
quantity and its energy, the bank's figures for the ledger, shelf time and the tally's seconds and energy (R224, R438,
R444, R449, R531). Shelf time and the gatehouse's own supply: PTP steps it at 1 ms of offset and slews it below,
learning a trim within its range, a free value (log entry 45); gh_time_set sets it unless PTP is locked; a lost supply
brings everything but what is stored back to reset, at the saved shelf time, unpowered and in Vigil; its power-on
reset takes the sister id from its pin (R18, R434, R449 to R451). -/
def Obligations.GatehouseTicksPublishesAndKeepsTime : Prop :=
  (∀ (s : State) (i : TickIn),
     (s.gh.powered = false → exec (.ghTick i) s = .next s) ∧
     (s.gh.powered = true →
       let t := State.bankTick (State.railTick (State.switchTick i (State.feedTick i s.timeTick)))
       exec (.ghTick i) s =
         .next (if s.md.mode = .muster ∧ t.feedValid = false then t.bleedResidue.enterVigil true 4 else t) ∧
       t.gh.ticks = s.gh.ticks + 1 ∧
       (t.gh.now : Int) = s.gh.now + 1000 +
         (if (s.gh.ticks + 1) % 10 = 0 then (if 0 < s.gh.slew then 1 else if s.gh.slew < 0 then -1 else 0) else 0) ∧
       t.gh.saved = s.gh.saved ∧ t.md = s.md ∧ t.drives = s.drives)) ∧
  (∀ s : State, s.gh.powered = true →
     exec .measurementSample s = .next { s with gh := { s.gh with
       samples := (s.gh.sampleNow :: s.gh.samples).take 100
       energy := s.gh.energy.zipWith (· + ·)
         ((s.gh.feeds.map fun f => f.mv * f.ma.toNat) ++ s.gh.bays.map fun b => b.vout * b.ma)
       feedUnsaved := s.gh.feedUnsaved.zipWith (· + ·) (s.gh.feeds.map fun f => f.mv * f.ma.toNat) } } ∧
     exec .bankPublish s = .next { s with lg := { s.lg with
       bankPub := [s.gh.meanN 7, s.get Obj.gh_bank_capacitance, s.get Obj.gh_bank_energy_ceiling, s.gh.bankState]
       recompute := true } } ∧
     exec .shelfTimeSave s = .next { s with gh := { s.gh with saved := s.gh.now } } ∧
     exec .tallySave s = .next {
       ([0, 1].foldl (fun t i => t.count Obj.gh_tally_feed_energy (i + 1) (s.gh.feedUnsaved.getD i 0 / 10000))
         ((s.count Obj.gh_tally_gatehouse_seconds 0 s.gh.seconds).count Obj.gh_tally_rail_seconds 0 s.gh.railSeconds)) with
       gh := { s.gh with seconds := 0, railSeconds := 0, feedUnsaved := s.gh.feedUnsaved.map (· % 10000) } }) ∧
  (∀ (s : State) (cls v : Nat) (pin : Bool),
     (s.pc.ptpState = 2 → s.gh.powered = true → 1000000 ≤ ((s.pc.clockNs : Int) - (s.gh.now : Int)).natAbs →
       exec .ptpCompare s = .next ((s.put Obj.gh_time_offset 0 (encInt 64 ((s.pc.clockNs : Int) - (s.gh.now : Int)))).stepTime
         s.pc.clockNs 2)) ∧
     (s.pc.ptpState = 2 → s.gh.powered = true → ((s.pc.clockNs : Int) - (s.gh.now : Int)).natAbs < 1000000 →
       let t : State := { s.put Obj.gh_time_offset 0 (encInt 64 ((s.pc.clockNs : Int) - (s.gh.now : Int))) with
         gh := { s.gh with slew := (s.pc.clockNs : Int) - (s.gh.now : Int), timeSource := 2 } }
       (s.pc.clockNs = s.gh.now → exec .ptpCompare s = .next t) ∧
       (s.pc.clockNs ≠ s.gh.now → ∃ trim : Int, -200000 ≤ trim ∧ trim ≤ 200000 ∧ exec .ptpCompare s = .next
         { t.put Obj.gh_calendar_trim 0 (encInt 32 trim) with fresh := s.fresh + 1 })) ∧
     (s.takes (.ghTimeSet cls v) → s.pc.ptpState ≠ 2 →
       ∃ t, exec (.ghTimeSet cls v) s = .next t ∧ t = { State.record 4 0x2401 [(8, s.gh.now), (8, v), (1, 1)]
           { s.startRun Obj.gh_time_set_result with gh := { s.gh with now := v, slew := 0, timeSource := 1 } } with
             results := t.results } ∧
         t.result Obj.gh_time_set_result = (s.result Obj.gh_time_set_result).ended (outcomeVal Oc.ok)) ∧
     (s.takes (.ghTimeSet cls v) → s.pc.ptpState = 2 →
       ∃ t, exec (.ghTimeSet cls v) s = .next t ∧ t = { s with results := t.results } ∧
         t.result Obj.gh_time_set_result = (s.result Obj.gh_time_set_result).ended (outcomeVal Oc.denied)) ∧
     (s.gh.powered = true →
       let t := s.flushCut.gateLost
       exec .gatehousePowerLoss s = .next t ∧
         t.gh = { now := s.gh.saved, saved := s.gh.saved, capHistory := s.gh.capHistory, capAt := s.gh.capAt, powered := false } ∧
         t.md.mode = .vigil ∧ t.si = {} ∧ t.book = {} ∧ t.clk = {} ∧ t.dict = {} ∧ t.ce = {} ∧ t.drives = {} ∧ t.tr = {} ∧
         t.pc = {} ∧ t.po = {} ∧ t.ep = {} ∧ t.lg.flush = none) ∧
     (s.gh.powered = false →
       exec (.gatehousePowerOnReset pin) s = .next (State.tick Obj.gh_tally_gatehouse_resets 0
         { s with gh := { s.gh with powered := true }, si := { s.si with id := b2n pin } })) ∧
     (s.gh.powered = true →
       exec (.gatehousePowerOnReset pin) s = .next (State.tick Obj.gh_tally_gatehouse_resets 0
         { s.flushCut.gateLost with
           gh := { now := s.gh.saved, saved := s.gh.saved, capHistory := s.gh.capHistory, capAt := s.gh.capAt, powered := true }
           si := { id := b2n pin } })))

/-- The bank: at its target it floats, 60 s without are recorded, a raised ceiling charges and one below the present
energy bleeds, a measurement starts from float and ends with its figures, and a bank bled to its residue leads to
Vigil (R440 to R443). -/
def Obligations.TheBankChargesAndMeasures : Prop :=
  ∀ (s : State) (cls v c esr : Nat),
    (s.gh.charging = true → s.gh.floatBand = false → s.gh.measuring = none →
      s.bankTarget * 998 ≤ s.gh.bankMv * 1000 → s.gh.bankMv * 1000 ≤ s.bankTarget * 1002 →
      exec .chargeTargetReached s = .next ({ s with gh := { s.gh with floatBand := true, bankState := 2 } } : State).measureStart) ∧
    (s.gh.charging = true → s.gh.floatBand = false → s.gh.chargeLogged = false → 60000000 ≤ s.gh.ticks - s.gh.chargeAt →
      exec .chargeTimeout s = .next (({ s with gh := { s.gh with chargeLogged := true } } : State).record 6 0x2204
        [(4, s.gh.bankMv), (4, s.get Obj.gh_bank_charge_power)])) ∧
    (s.takes (.ghBankEnergyCeilingWrite cls v) → s.gh.measuring = none → s.gh.bleedGoal ≠ 1 → s.md.mode ≠ .holdup →
      s.get Obj.gh_bank_energy_ceiling < v → s.mayCharge = true →
      exec (.ghBankEnergyCeilingWrite cls v) s = .next (s.put Obj.gh_bank_energy_ceiling 0 v).startCharge) ∧
    (s.takes (.ghBankEnergyCeilingWrite cls v) → s.gh.measuring = none → s.gh.bleedGoal ≠ 1 → s.md.mode ≠ .holdup →
      v ≤ s.get Obj.gh_bank_energy_ceiling → v < s.bankEnergy s.gh.bankMv → s.objsCanonical →
      ∃ t, exec (.ghBankEnergyCeilingWrite cls v) s = .next t ∧
        t = { s.put Obj.gh_bank_energy_ceiling 0 v with
          gh := { s.gh with bleed := true, bleedGoal := 2, floatBand := false, bankState := 5 } }) ∧
    (s.gh.powered = true → s.gh.measuring = none → s.md.mode ≠ .holdup → s.gh.floatBand = true → s.gh.changeover = none →
      s.gh.sequencing = none →
      exec .capacitanceMeasure s = .next { s with gh := { s.gh with
        measuring := some (!(s.result Obj.gh_bank_measure_result).ready), measurePend := false, bleed := true, bleedGoal := 3
        floatBand := false, bankState := 3 } }) ∧
    (s.takes (.ghBankMeasure cls 1) → s.md.mode ≠ .holdup → s.gh.measuring = none →
      exec (.ghBankMeasure cls 1) s = .next ({ s.startRun Obj.gh_bank_measure_result with
        gh := { s.gh with measurePend := true } } : State).measureStart) ∧
    (s.gh.measuring = some true → (s.result Obj.gh_bank_measure_result).ready = false →
      ∃ t, exec (.bankMeasureDone c esr) s = .next t ∧ t.gh.measuring = none ∧ t.gh.bleed = false ∧ t.gh.floatBand = true ∧
        t.gh.bankState = 2 ∧
        (let u := State.record 2 0x2201 [(4, c), (4, esr)] { ((s.put Obj.gh_bank_capacitance 0 c).put Obj.gh_bank_esr 0
          esr).put Obj.gh_bank_last_measure 0 s.gh.now with gh := t.gh }
         let v := if c < s.get Obj.gh_bank_c_warn then u.record 5 0x2202 [(4, c)] else u
         t = { (if s.get Obj.gh_bank_esr_limit < esr then v.record 5 0x2203 [(4, esr)] else v) with results := t.results }) ∧
        t.result Obj.gh_bank_measure_result = (s.result Obj.gh_bank_measure_result).ended (outcomeWith Oc.ok (leBytes 4 c))) ∧
    (s.gh.bleed = true → s.gh.bleedGoal = 1 → s.bankEnergy s.gh.bankMv ≤ s.get Obj.gh_bank_residue →
      ∃ u : State, exec .bankBleedDone s = .next (State.record 4 0x2205 [(4, s.bankEnergy s.gh.bankMv),
          (4, (s.bankEnergy s.gh.bankMv - s.bankEnergy 6000) / 25000)] (State.enterVigil true 4 u)) ∧
        u = { s with gh := { s.gh with bleed := false, bleedGoal := 0, bankState := 0 } })

/-- Rails and heat: a rail is enabled its delay after the one before; without power-good in time, or after it was lost for
longer than the deglitch, every rail goes off and Vigil follows; temperatures are read, in Vigil 0 but for the
gatehouse's; ten reads above the trip temperature latch the board switch off and lead to Vigil (R446, R447, R558,
R561). -/
def Obligations.RailsAndHeatStopTheDies : Prop :=
  ∀ (s : State) (r d limit die : Nat) (rest : List (Nat × Nat × Nat)) (temps : List Int),
    (s.gh.sequencing = some ((r, d, limit) :: rest) → s.gh.rails.getD r 0 = 0 →
      ((∀ x ∈ s.gh.rails, x ≠ 2) ∨ d ≤ s.gh.railWait * 1000) →
      exec .railSequence s = .next { s with gh := { s.gh with rails := s.gh.rails.set r 1, railWait := 0 } }) ∧
    (s.gh.sequencing = some ((r, d, limit) :: rest) → s.gh.rails.getD r 0 = 1 → s.gh.railGood.getD r false = false →
      limit ≤ s.gh.railWait * 1000 → exec .railPgTimeout s = .next (s.railFailed r 1)) ∧
    (r < 12 → s.gh.railsOff = none → s.gh.rails.getD r 0 = 2 →
      s.get Obj.gh_rail_pg_deglitch < s.gh.railLow.getD r 0 * 1000 → exec (.railFault r) s = .next (s.railFailed r 2)) ∧
    (∀ k, s.md.mode ≠ .vigil → (s.railFailed r k).md.mode = .vigil ∧ (s.railFailed r k).gh.huDrv = false ∧
      (s.railFailed r k).gh.igate = false ∧ (s.railFailed r k).gh.board.on = false) ∧
    (s.gh.powered = true →
      let now : List Int := (List.range 4).map fun i => if s.md.mode = .vigil ∧ i ≠ 3 then 0 else temps.getD i 0
      exec (.temperatureRead temps) s = .next (State.raiseWarnings ((List.range 4).foldl (fun t i =>
        if decInt 32 (t.get Obj.gh_die_temperature_peak (i + 1)) < now.getD i 0 then
          t.put Obj.gh_die_temperature_peak (i + 1) (encInt 32 (now.getD i 0)) else t)
        { s with gh := { s.gh with
          temps := now
          hotMs := (List.range 4).map fun i => if tripAt i < now.getD i 0 then s.gh.hotMs.getD i 0 + 1 else 0 } }) s)) ∧
    (s.gh.powered = true → die < 4 → 10 ≤ s.gh.hotMs.getD die 0 → s.gh.thermTrip = false →
      exec (.thermalTrip die) s = .next (s.heatTrip die)) ∧
    (s.md.mode ≠ .vigil → (s.heatTrip die).md.mode = .vigil ∧ (s.heatTrip die).gh.thermTrip = true ∧
      (s.heatTrip die).gh.board.latched = true ∧ (s.heatTrip die).gh.board.on = false ∧ (s.heatTrip die).gh.huDrv = false)

/-! ### Slot-cells -/

/-- A cell that carries nothing. One whose place has fired leaves all as it is. Otherwise the slots before it are over;
where the pattern in force holds no cell of its class there, or holds another word, no more comes about. A cell that
fails its check is counted and reloaded; a NONE cell moves nothing; one with a closed end returns its bed and is
counted closed; one with no ready transfer is counted as run empty, its bed returned; so is one whose draw failed
(R32, R36, R38, R40, R41, R65, R393). A NONE cell that the sequencer fires moves nothing: it only has its place in the
leg (R36). A bad cell is recorded under a code that is a free value, and counted; a cell of the active image is loaded
from the vault copy at the next leg boundary; it runs empty (R41). -/
def Obligations.CellsThatCarryNothing : Prop :=
  (∀ (s : State) (c : Instr) (slot lane word : Nat), cellNamed c = some (slot, lane, word) →
     (s.unfired slot lane = false → exec c s = .next s) ∧
     (s.unfired slot lane = true →
       (let w := cellWork (cellKind c).1 (cellKind c).2.1 (cellKind c).2.2
        let u := s.toSlot slot
        let x := u.wordAt slot lane
        let bed := (u.cellPlaced slot lane).1
        let v := (u.cellPlaced slot lane).2
        let y := w.before x (v.cellCounted x)
        (u.firesCell (cellKind c).1 slot lane = false → exec c s = .next u.settle) ∧
        (cellChkGood word = true → word ≠ u.cellRead slot lane → exec c s = .next u.settle) ∧
        (u.firesCell (cellKind c).1 slot lane = true → cellChkGood word = false →
          exec c s = .next (v.cellBad slot lane word x bed).settle) ∧
        (u.firesCell (cellKind c).1 slot lane = true → cellChkGood word = true → word = u.cellRead slot lane →
          (x.opc = Opc.none → exec c s = .next v.settle) ∧
          (x.opc ≠ Opc.none → u.cellClosed x = true → exec c s = .next
            ((((v.cellCounted x).returnBed bed).tick Obj.tt_class_closed (x.berth + 1)).cellEvent x 4 1 {} none).settle) ∧
          (x.opc ≠ Opc.none → u.cellClosed x = false → y.choose x (w.ok x y) = none →
            exec c s = .next (y.runEmpty x bed).settle) ∧
          (x.opc ≠ Opc.none → u.cellClosed x = false → ∀ t, y.choose x (w.ok x y) = some t → x.pool ≤ 4 → bed = none →
            exec c s = .next ((y.dropRoomIn t).runEmpty x none).settle))))) ∧
  (∀ (s : State) (slot lane word : Nat), s.unfired slot lane = true → (s.toSlot slot).firesCell Opc.none slot lane = true →
     cellChkGood word = true → word = (s.toSlot slot).cellRead slot lane → 4 < ((s.toSlot slot).wordAt slot lane).pool →
     exec (.noneCmd slot lane word) s = .next (((s.toSlot slot).modTt fun t =>
       { t with slot := slot, fired := (if t.slot = slot then t.fired else []) ++ [lane] })).settle) ∧
  (∀ (s : State) (slot lane word : Nat) (c : CellWord) (bed : Option Nat),
     (s.cellBad slot lane word c bed).fresh = s.fresh + 1 ∧
     (c.opc = Opc.none →
       (s.cellBad slot lane word c bed).tt.reload =
         if s.tt.pattern = .image then addNew s.tt.reload (s.tt.leg, slot, lane) else s.tt.reload))

/-- A cell that carries a transfer has its family's effect on it, with the bed drawn for the cell, and what waited on it
is carried on (R32, R39). A cell takes of the transfers that fit it the earliest ready one, ties by arrival sequence,
and a fill ahead of demand only where there is no other (R39, R125). -/
def Obligations.CellsRunTheEarliestTransfer : Prop :=
  (∀ (s u : State) (c : Instr) (t : Transfer) (bed : Option Nat), s.carried c = some (t, bed, u) →
     exec c s = .next
       ((cellWork (cellKind c).1 (cellKind c).2.1 (cellKind c).2.2).run (s.firedWord c) t bed u).settle) ∧
  (∀ (s : State) (c : CellWord) (ok : Transfer → Bool),
     let may (x : Transfer) : Bool := x.fits c s.slotNow && x.job.poolOk c.pool && ok x
     (∀ t, s.choose c ok = some t → t ∈ s.ce.ready ∧ may t = true ∧
       (∀ x ∈ s.ce.ready, may x = true → x.job.isFill = t.job.isFill → x.before t = false) ∧
       (t.job.isFill = true → ∀ x ∈ s.ce.ready, may x = true → x.job.isFill = true)) ∧
     (s.choose c ok = none → ∀ x ∈ s.ce.ready, may x = false))

/-- Cells of the network and the host interface that carry a transfer: a payload fills its bed and goes on to its cipher
pass, a Read's block leaves as an RDMA WRITE, a room's pulled block leaves, a pull is asked for, a command's response
and a reply leave, contexts are fetched and spilled, the endpoint's blocks are exchanged with host memory, a dump's
part is written (R35, R72, R109, R117, R275, R276, R281, R377, R506, R538). -/
def Obligations.HostCellsMoveTheirTransfer : Prop :=
  ∀ (s u : State) (slot lane word bytes a lba f h q i ix p : Nat) (t : Transfer) (bed : Option Nat) (d : Block) (bad : Bool)
    (e : Nat × Nat) (r : Reply) (x : Cmd) (b : BlockSt) (n : Conn) (k : Waiting),
    (s.carried (.netIn slot lane word) = some (t, some h, u) →
      (t.job = .payloadIn a lba d bad f e →
        exec (.netIn slot lane word) s = .next (u.pulledIn a lba h f t.notBefore d bad e).settle) ∧
      (t.job = .roomIn ix i d bad f e →
        exec (.netIn slot lane word) s = .next
          ((((u.fillBed h d bad true).modBed h fun b => { b with frame := f, esp := e }).placeRoom ix i h).releaseFrame f).settle) ∧
      (t.job = .waitIn q → u.tr.waiting.find? (fun w => w.tag == q) = some k →
        exec (.netIn slot lane word) s = .next ((u.waitFilled q h).releaseFrame k.packet.frame).settle)) ∧
    (s.carried (.netIn slot lane word) = some (t, bed, u) → t.job = .frameIn f →
      exec (.netIn slot lane word) s = .next ((u.returnBed bed).releaseFrame f).settle) ∧
    (s.carried (.netOut slot lane word bytes) = some (t, none, u) →
      (t.job = .blockOut a lba → exec (.netOut slot lane word bytes) s = .next (u.blockSent a lba bytes).settle ∧
        (u.cmd? a = some x → x.blk? lba = some b → u.conn? x.cap.qpn = some n →
          .rdmaWrite x.cap.qpn (x.cap.address + 4096 * (lba - x.cap.slba)) x.cap.key (u.waypointFor x.cap.qpn 4096)
            (u.bed (b.bed.getD 0)).esp (u.bed (b.bed.getD 0)).data ∈ (u.blockSent a lba bytes).settle.out)) ∧
      (t.job = .pullOut p i → exec (.netOut slot lane word bytes) s = .next (u.pullSent p i bytes).settle)) ∧
    (s.carried (.control slot lane word) = some (t, none, u) →
      (t.job = .pullRequest a lba → exec (.control slot lane word) s = .next (u.pullAsked a lba).settle ∧
        (u.cmd? a = some x →
          .rdmaRead x.cap.qpn (x.cap.address + 4096 * (lba - x.cap.slba)) x.cap.key 4096 (u.waypointFor x.cap.qpn 4096) ∈
            (u.pullAsked a lba).settle.out)) ∧
      (t.job = .response a → exec (.control slot lane word) s = .next (u.responseSent a).settle) ∧
      (t.job = .reply r → exec (.control slot lane word) s = .next (u.replySent r).settle)) ∧
    (s.carried (.context slot lane word) = some (t, bed, u) →
      (t.job = .contextFetch q → exec (.context slot lane word) s = .next ((u.returnBed bed).fetchMoved q).settle) ∧
      (t.job = .contextSpill q → exec (.context slot lane word) s = .next ((u.returnBed bed).spillMoved q).settle)) ∧
    (s.carried (.endpoint slot lane word) = some (t, some h, u) → t.job = .endpointIn a lba d →
      exec (.endpoint slot lane word) s = .next (u.endpointArrived a lba h d).settle) ∧
    (s.carried (.endpoint slot lane word) = some (t, none, u) → t.job = .endpointOut a lba →
      exec (.endpoint slot lane word) s = .next (u.endpointSent a lba).settle ∧
      (u.cmd? a = some x → x.blk? lba = some b →
        .epWrite (x.cap.spans lba) (u.bed (b.bed.getD 0)).data ∈ (u.endpointSent a lba).settle.out)) ∧
    (s.carried (.dump slot lane word) = some (t, bed, u) → t.job = .dump i →
      exec (.dump slot lane word) s = .next (u.returnBed bed).dumpMoved.settle)

/-- Cells of the cipher, the drives, the parity units and the HBM that carry a transfer hand its block to the pass, the
member read, the sector, the row job, the accumulator, the slab or the cache it is for (R76, R81, R85, R106 to R109,
R116, R125, R157, R158). -/
def Obligations.MediaCellsMoveTheirTransfer : Prop :=
  ∀ (s u : State) (slot lane word a lba h id m p i ns cls no row st bay qu cid k w : Nat) (t : Transfer) (bed : Option Nat)
    (d : Block) (trl : BitVec 128) (good isQ : Bool) (g : Nat),
    (s.carried (.cipher slot lane word good) = some (t, bed, u) →
      (t.job = .cipherBlock a lba → exec (.cipher slot lane word good) s =
        .next ((u.returnBed bed).cipherPass a lba (((s.toSlot slot).wordAt slot lane).snk - 0x20) good).settle) ∧
      (t.job = .pullCipher p i → exec (.cipher slot lane word good) s =
        .next ((u.returnBed bed).pullPass p i (((s.toSlot slot).wordAt slot lane).snk - 0x20)).settle)) ∧
    (s.carried (.driveIn slot lane word) = some (t, some h, u) →
      (t.job = .driveIn (.blockRead a lba) d trl →
        exec (.driveIn slot lane word) s = .next (u.memberIn a lba h d trl).settle) ∧
      (t.job = .driveIn (.fill ns lba cls no) d trl →
        exec (.driveIn slot lane word) s = .next (u.fillIn ns lba cls no h d trl).settle) ∧
      (t.job = .driveIn (.row id m) d trl → exec (.driveIn slot lane word) s = .next (u.rowIn id m h d trl).settle)) ∧
    (s.carried (.driveIn slot lane word) = some (t, bed, u) → t.job = .driveIn (.descRead w p g) d trl →
      exec (.driveIn slot lane word) s = .next ((u.returnBed bed).descIn (t.src.getD 8 - 8) w p).settle) ∧
    (s.carried (.driveOut slot lane word) = some (t, bed, u) → t.job = .driveOut bay qu cid →
      exec (.driveOut slot lane word) s =
        .next ((u.returnBed bed).sectorOut bay qu cid ((s.toSlot slot).wordAt slot lane)).settle) ∧
    (s.carried (.parityIn slot lane word) = some (t, bed, u) →
      (t.job = .parityIn id m h trl → exec (.parityIn slot lane word) s =
        .next ((u.returnBed bed).parityTaken id m h ((s.toSlot slot).wordAt slot lane).snk trl).settle) ∧
      (t.job = .parityTapIn a lba → exec (.parityIn slot lane word) s =
        .next ((u.returnBed bed).tapAgain a lba ((s.toSlot slot).wordAt slot lane).snk).settle)) ∧
    (s.carried (.parityOut slot lane word) = some (t, some h, u) →
      (t.job = .parityOut id m → exec (.parityOut slot lane word) s =
        .next (((((u.rowUnit id ((s.toSlot slot).wordAt slot lane).src).tick Obj.pe_unit_out_blocks
          (((s.toSlot slot).wordAt slot lane).src - 0x30 + 1)).rowResult id m h).reconsOn t).settle)) ∧
      (t.job = .parityFull a st row isQ → exec (.parityOut slot lane word) s =
        .next (((u.tick Obj.pe_unit_out_blocks
          (((s.toSlot slot).wordAt slot lane).src - 0x30 + 1)).fullOut a st row isQ h).settle))) ∧
    (s.carried (.cacheRd slot lane word) = some (t, some h, u) →
      (t.job = .slabRead a lba k → exec (.cacheRd slot lane word) s = .next (u.slabIn a lba k h).settle) ∧
      (t.job = .cacheRead a lba → exec (.cacheRd slot lane word) s = .next (u.cacheIn a lba h).settle) ∧
      (t.job = .rowCache id m → exec (.cacheRd slot lane word) s = .next (u.rowCached id m h).settle) ∧
      (t.job = .pullRead p i → exec (.cacheRd slot lane word) s = .next (u.pullIn p i h).settle)) ∧
    (s.carried (.cacheWr slot lane word) = some (t, bed, u) →
      (t.job = .slabWrite a lba → exec (.cacheWr slot lane word) s = .next ((u.returnBed bed).slabIn' a lba).settle) ∧
      (t.job = .cacheFill ns lba h no → exec (.cacheWr slot lane word) s = .next ((u.returnBed bed).fillDone no h).settle) ∧
      (t.job = .roomPin a lba → exec (.cacheWr slot lane word) s = .next ((u.returnBed bed).pinIn a lba).settle))

/-- Cells of the copy paths that carry a transfer: a sector of a journal record reaches its drive, a page of the flush,
its consumed page or a page of the replayed image moves, a frame of a leg packet or a snapshot leaves, a frame of a
leg packet is shadowed (R201, R208, R209, R211, R236, R240, R260). -/
def Obligations.CopyCellsMoveTheirTransfer : Prop :=
  ∀ (s u : State) (slot lane word bay w j leg k i : Nat) (t : Transfer) (bed : Option Nat) (f : FlushSt) (p : LegPacket)
    (y : LegPacket) (rest : List LegPacket) (x : List Byte) (more : List (List Byte)),
    (s.carried (.journal slot lane word) = some (t, bed, u) → t.job = .journal bay w j →
      exec (.journal slot lane word) s = .next ((u.returnBed bed).journalOut bay w j).settle) ∧
    (s.carried (.vault slot lane word) = some (t, none, u) →
      (t.job = .vaultConsumed → exec (.vault slot lane word) s = .next u.consumedOut.settle) ∧
      (t.job = .vaultPage k →
        (u.lg.flush = some f → f.total ≤ f.pages + 2 → exec (.vault slot lane word) s =
          .next ((u.vaultWrite f.image f.pages).modLg fun l => { l with flush := some { f with pages := f.pages + 1 } }).settle) ∧
        (u.lg.flush = some f → f.pages + 2 < f.total → exec (.vault slot lane word) s =
          .next (((u.vaultWrite f.image f.pages).modLg fun l => { l with flush := some { f with pages := f.pages + 1 } }).push
            Bc.vault Opc.vault none (some 0x50) 0 (.vaultPage (f.pages + 1))).settle) ∧
        (u.lg.flush = none → u.lg.vaultRead = some (i, 1) → exec (.vault slot lane word) s =
          .next (u.modLg fun l => { l with vaultRead := some (i, 0) }).settle))) ∧
    (s.carried (.sisterOut slot lane word) = some (t, none, u) →
      (t.job = .legFrame leg k → exec (.sisterOut slot lane word) s = .next (u.legFrameOut leg).settle ∧
        (u.si.packets.find? (fun p => p.leg == leg && !p.frames.isEmpty) = some p →
          .sisterFrame (p.frames.headD []) ∈ (u.legFrameOut leg).settle.out)) ∧
      (t.job = .snapshotFrame k → u.si.snapshot = x :: more → exec (.sisterOut slot lane word) s =
        .next ((u.modSi fun i => { i with snapshot := more }).emit (.sisterFrame x)).settle)) ∧
    (s.carried (.sisterIn slot lane word) = some (t, none, u) → t.job = .shadowFrame k → u.si.incoming = y :: rest →
      (2 ≤ y.framesLeft → exec (.sisterIn slot lane word) s =
        .next (u.modSi fun i => { i with incoming := { y with framesLeft := y.framesLeft - 1 } :: rest }).settle) ∧
      (y.framesLeft ≤ 1 → exec (.sisterIn slot lane word) s =
        .next (((u.modSi fun i => { i with incoming := rest }).sisterMsgs fun n => n - 1).packetShadowed
          { y with framesLeft := 0 }).settle))

/-! ### Ledger, rebuild, night watch -/

/-- Writes to the objects of maintenance take effect: rebuild rate (with record 0x7105), patrol enable, patrol log, ledger
size, flush profile (whose change forgets the measured power) and party mask; the rate at the next leg boundary (R173,
R188, R222, R224, R337, R478). The slab is applied: a stripe with eligible waybills of a wing held and not in replay,
with nothing else at work on it, has them marked as begun and grouped under the last seal, with the patrol's rows of
the stripe discarded and the reconstructions of it waiting; while a correction of the stripe is out, the write waits;
without eligible waybills, or in a replay, which keeps its own order (R215), nothing starts. A full-stripe part whose
data, P, Q and intent copy are there leaves its accumulator (R81, R84, R112, R185, R192). Records and the descriptor:
a journal record complete on every bay becomes held, and its items with it; a comparator that disagrees is suspect,
with record 0x8023; a generation written to every present drive is committed (R197, R202 to R204, R206, R331). -/
def Obligations.MaintenanceAppliesAndCommits : Prop :=
  (∀ (s : State) (cls v nsid : Nat),
     (s.takes (.peRebuildRateWrite cls v) → exec (.peRebuildRateWrite cls v) s = .next
       ((s.modDict fun d => { d with objNext := assign d.objNext (objKey Obj.pe_rebuild_rate 0) v }).record 2 0x7105
         [(4, lookup s.dict.objNext (objKey Obj.pe_rebuild_rate 0) (s.get Obj.pe_rebuild_rate)), (4, v)])) ∧
     (s.takes (.pePatrolEnableWrite cls v) → exec (.pePatrolEnableWrite cls v) s = .next
       (if v = 0 then (s.put Obj.pe_patrol_enable 0 0).patrolStop else s.put Obj.pe_patrol_enable 0 1)) ∧
     (s.takes (.pePatrolLogClear cls 1) →
       exec (.pePatrolLogClear cls 1) s = .next { s with rb := { s.rb with log := [] } }) ∧
     (s.takes (.lgLedgerSizeWrite cls v) → exec (.lgLedgerSizeWrite cls v) s = .next
       { s.put Obj.lg_ledger_size 0 v with lg := { s.lg with recompute := true } }) ∧
     (s.takes (.lgFlushProfileWrite cls v) → exec (.lgFlushProfileWrite cls v) s = .next
       (if s.get Obj.lg_flush_profile = v then s
        else { (s.put Obj.lg_flush_profile 0 v).put Obj.lg_flush_power_measured 0 0 with
          lg := { s.lg with recompute := true } })) ∧
     (s.takes (.nsPartyMaskWrite cls nsid v) → exec (.nsPartyMaskWrite cls nsid v) s = .next
       (if s.get (Obj.ce_ns_party_mask + (nsid - 1)) 1 = v ∨ s.ns? nsid = none then
          s.put (Obj.ce_ns_party_mask + (nsid - 1)) 1 v
        else if s.holdsWing (s.ns nsid).wing = true then
          ((s.put (Obj.ce_ns_party_mask + (nsid - 1)) 1 v).nsChanged nsid).descRequest
        else (s.put (Obj.ce_ns_party_mask + (nsid - 1)) 1 v).nsChanged nsid))) ∧
  (∀ (s : State) (ns st a : Nat) (r : Rec) (c : Cmd) (p : Part) (m : Accum),
     ((s.eligibleRecs ns st).getLast? = some r →
       ((s.stripeOpen ns st = true → s.holdsWing r.wing = true → s.firing = true → s.lg.replayWing ≠ some r.wing →
          (s.correcting ns st = false → exec (.applyStart ns st) s = .next (State.settle (State.startGroup
             { wing := r.wing, nsid := ns, stripe := st, sealNo := r.sealNo, seals := (s.eligibleRecs ns st).map (·.sealNo) }
             ((s.eligibleRecs ns st).map (·.toLedgerRec))
             (((s.patrolDiscard ns st (s.applyHits ns st)).reconWaits ns st).modLg fun l => { l with
               recs := l.recs.map fun x => x.begins r.wing ((s.eligibleRecs ns st).map (·.sealNo)) })))) ∧
          (s.correcting ns st = true → exec (.applyStart ns st) s = .next (s.patrolDiscard ns st (s.applyHits ns st)).settle)) ∧
        ((s.stripeOpen ns st = false ∨ s.holdsWing r.wing = false ∨ s.firing = false ∨ s.lg.replayWing = some r.wing) →
          exec (.applyStart ns st) s = .next s.settle))) ∧
     (s.eligibleRecs ns st = [] → exec (.applyStart ns st) s = .next s.settle) ∧
     exec (.fullStripeIssue a st) s = .next (s.fullStripeIssue a st).settle ∧
     (s.cmd? a = some c → c.parts.find? (fun p => p.full && p.stripe == st) = some p → s.accum? a st = some m →
       p.issued = false → p.fault = false → m.freed = true → s.stripeOpen c.cap.nsid st = true →
       s.correcting c.cap.nsid st = false → s.md.mode ≠ .holdup →
       (p.intent.any fun q => s.lg.recs.any fun r =>
         r.kind == 2 && r.wing == (s.ns c.cap.nsid).wing && r.sealNo == q && r.copyHeld) = true →
       (c.blocks.filter fun b => inSpan b.lba (p.first, p.blocks)).length = p.blocks →
       (∀ b ∈ c.blocks, inSpan b.lba (p.first, p.blocks) = true →
         b.stage = .ciphered ∧ b.bed.isSome = true ∧ s.frameOpen b.frame = false) →
       (s.fullStripeIssue a st).accum? a st = none)) ∧
  (∀ (s : State) (w j i g : Nat) (r : JRec),
     (s.jrec? w j = some r → r.held = false → r.pending = [] → r.bays ≠ [] →
       (let u := s.modLg fun l => { l with jrecs := l.jrecs.map (r.holds w j) }
        (r.carry = false → r.origins = [] → exec (.journalRecordHeld w j) s = .next (State.settle (State.journalTidy
          (State.rehomeOver (State.itemsHeld r.items
            (u.count Obj.lg_rehome_items 0 (if r.forBay.isSome then r.items.length else 0))))))) ∧
        (r.carry = false → r.origins ≠ [] → exec (.journalRecordHeld w j) s = .next (State.settle (State.journalTidy
          (State.rehomeOver (u.count Obj.lg_rehome_items 0 (if r.forBay.isSome then r.items.length else 0)))))) ∧
        (r.carry = true → r.origins ≠ [] → exec (.journalRecordHeld w j) s = .next (State.settle (State.journalTidy
          (State.rehomeOver (r.bays.foldl (fun t b => t.putZone { t.zone w b with
            records := (t.zone w b).records.filter fun x => !r.origins.contains x.1 }) u))))))) ∧
     ((s.jrec? w j).all (fun r => r.held || !r.pending.isEmpty || r.bays.isEmpty) = true →
       exec (.journalRecordHeld w j) s = .next s) ∧
     (s.lg.comparators.getD i 1 = 0 →
       exec (.comparatorSuspect i) s = .next (({ s with lg := { s.lg with
         comparators := s.lg.comparators.set i 2 } } : State).record 6 0x8023 [(1, i), (1, s.pfVote)])) ∧
     (s.lg.comparators.getD i 1 ≠ 0 → exec (.comparatorSuspect i) s = .next s) ∧
     (s.lg.descWriting = some (g, []) →
       let u := State.resPass (State.nsCommitted { s with lg := { s.lg with
         descGen := g, descWriting := none, descBlank := false } })
       exec .descriptorCommit s = .next (if u.lg.descAgain = true ∧ u.lg.descWriting = none then u.descStart else u)))

/-- The rebuild: it takes the first stripe of its order while the image fires, but at rate 0 only the first tier's, with a
row job for every row, copied where every destination can be; a stripe of a wing it does not rebuild, or one not due,
leaves the order; a stripe at work elsewhere waits; a stripe whose rows are all written is recorded once, its lost
rows in one record (R166, R167, R169, R173, R176). The night watch and the return of a bay: the patrol takes the
stripe at its cursor in a wing held and starts a row job for every row, or skips a stripe that is not at rest; a
request of a stripe at rest is rewritten in place, and one without a namespace or a member falls away; a RETURN gives
the wing its next generation and renews the rebuild's order (R143, R180, R184, R186, R569). -/
def Obligations.RebuildAndNightWatchProceed : Prop :=
  (∀ (s : State) (tier w ns st : Nat) (rest : List (Nat × Nat × Nat × Nat)) (h : Hold) (n : Namespace),
     (s.rb.order = [] → exec .rebuildStripe s = .next s.settle) ∧
     (s.rb.order = (tier, w, ns, st) :: rest →
       (s.rebuilds w = false → exec .rebuildStripe s = .next (s.modRb fun r => { r with order := rest }).settle) ∧
       (s.rebuilds w = true → (s.imageFires = false ∨ (s.get Obj.pe_rebuild_rate = 0 ∧ tier ≠ 0)) →
         exec .rebuildStripe s = .next s.settle) ∧
       (s.rebuilds w = true → s.imageFires = true → (s.get Obj.pe_rebuild_rate ≠ 0 ∨ tier = 0) →
         (s.ns? ns = none → exec .rebuildStripe s = .next (s.modRb fun r => { r with order := rest }).settle) ∧
         (s.ns? ns = some n → (s.rebuildHolds ns st = true ∨ runningFor n st (s.place w).effLog = []) →
           exec .rebuildStripe s = .next (s.modRb fun r => { r with order := rest }).settle) ∧
         (s.ns? ns = some n → s.rebuildHolds ns st = false → runningFor n st (s.place w).effLog ≠ [] →
           ((s.applying ns st = true ∨ s.fullWriting ns st = true) → exec .rebuildStripe s = .next s.settle) ∧
           (s.applying ns st = false → s.fullWriting ns st = false →
             (let run := runningFor n st (s.place w).effLog
              let dests := s.destsOf n st run
              let copy := s.copies n st run dests
              let rows := if dests.isEmpty then 0 else layS n.layout
              exec .rebuildStripe s = .next (State.settle (State.runAhead (State.limitedPump' ((List.range rows).foldl
                (fun t x => t.startJob { use := .rebuild, nsid := ns, stripe := st, row := x, cls := Bc.rebuild, copy := copy
                                         issue := if copy then dests.map (·.1) else [] })
                (((s.modRb fun r => { r with order := rest }).modRb fun r => { r with
                  held := r.held ++ [{ wing := w, nsid := ns, stripe := st, events := run.map (·.2.gen), dests := dests,
                                       rowsLeft := rows }]
                  cut := r.cut.filter fun x => x != (ns, st) }).count Obj.pe_rebuild_repeats 0
                    (if s.rb.cut.contains (ns, st) then 1 else 0))))))))))) ∧
     (s.hold? ns st = some h → h.rowsLeft = 0 → h.recorded = false →
       (let f (e : LogEntry) : LogEntry :=
          if h.events.contains e.gen && !e.done then { e with bits := addNew e.bits (ns, st) } else e
        let u := ((s.modPlace h.wing fun p => { p with log := p.log.map f }).makeFinal 5 h.wing ns st (h.events.getLastD 0)
          (s.ns ns).layout).modHold ns st fun x => { x with recorded := true }
        exec (.rebuildStripeDone ns st) s = .next (State.settle (State.eventsDone h.wing (if h.lostRows = 0 then u
          else u.record 6 0x7103 [(1, h.wing), (2, ns), (8, st), (4, h.lostRows), (4, h.lostBlocks)]))))) ∧
     (s.hold? ns st = none → exec (.rebuildStripeDone ns st) s = .next s.settle)) ∧
  (∀ (s : State) (w bay : Nat) (q : PatrolReq) (n : Namespace) (st : Nat) (p : Nat × Nat),
     ((w ≠ 1 ∧ w ≠ 2) → exec (.patrolStripe w) s = .next s) ∧
     ((w = 1 ∨ w = 2) → exec (.patrolStripe w) s = .next (s.patrolStripe w)) ∧
     ((s.patrolOver.holdsWing w = false ∨ s.patrolOver.patrolRuns = false ∨ s.patrolOver.rb.patrolHeld.isSome = true ∨
         s.patrolOver.rb.requests ≠ []) → s.patrolStripe w = s.patrolOver) ∧
     (s.patrolOver.holdsWing w = true → s.patrolOver.patrolRuns = true → s.patrolOver.rb.patrolHeld = none →
       s.patrolOver.rb.requests = [] → (s.patrolOver.rb.passStart.any fun p => p.1 == w) = true →
       s.patrolOver.patrolCursor w < sumN ((s.patrolOver.wingNs w).map nsStripes) →
       stripeAt (s.patrolOver.wingNs w) (s.patrolOver.patrolCursor w) = some (n, st) →
       (let u := if s.patrolOver.patrolSkips n st = true then
            (s.patrolOver.tick Obj.pe_patrol_skipped).setCursor w (s.patrolOver.patrolCursor w + 1)
          else State.limitedPump' ((List.range (layS n.layout)).foldl
            (fun t row => t.startJob { use := .patrol, nsid := n.nsid, stripe := st, row := row, cls := Bc.patrol })
            (s.patrolOver.modRb fun r => { r with patrolHeld := some (w, n.nsid, st), patrolDone := false, patrolOn := true }))
        s.patrolStripe w =
          if sumN ((s.patrolOver.wingNs w).map nsStripes) ≤ u.patrolCursor w then u.passEnds w else u)) ∧
     (s.patrolOver.rb.requests = [] → exec .patrolRewrite s = .next s.patrolOver) ∧
     ((s.patrolOver.rb.patrolHeld.isSome = true ∨ s.patrolOver.imageFires = false) →
       exec .patrolRewrite s = .next s.patrolOver) ∧
     (s.patrolOver.rb.patrolHeld = none → s.patrolOver.imageFires = true →
       s.patrolOver.rb.requests.find? (fun q => s.patrolOver.holdsWing (s.patrolOver.ns q.nsid).wing &&
         !s.patrolOver.applying q.nsid q.stripe && !s.patrolOver.fullWriting q.nsid q.stripe &&
         !s.patrolOver.rebuildHolds q.nsid q.stripe) = some q →
       (let u := s.patrolOver.modRb fun r => { r with requests := dropFirst (· == q) r.requests }
        let n := s.patrolOver.ns q.nsid
        ((s.patrolOver.ns? q.nsid = none ∨ s.patrolOver.memberAt n q.stripe q.member = none) →
          exec .patrolRewrite s = .next u) ∧
        (s.patrolOver.ns? q.nsid ≠ none → s.patrolOver.memberAt n q.stripe q.member = some p →
          (let v := u.writeMember p.1 n.wing 12 Bc.patrol 0 (.patrolRewrite q.nsid q.stripe q.row q.member)
             [{ lba := p.2 + q.row, data := q.data
                trl := mkTrailer q.sealNo (s.patrolOver.stripeGen n q.stripe q.member) n.layout.toNat q.member
                  { zero := q.data == 0 } q.data }] []
           exec .patrolRewrite s = .next (State.tick Obj.pe_patrol_rewrites 0
             (if q.member < layK n.layout then v.cacheCancelProv q.nsid (hostLba n.layout q.stripe q.member q.row) else v)))))) ∧
     (s.holdsWing w = true → (s.place w).waitingReturn.contains bay = true → s.bayInUse bay = true →
       (s.place w).log.length + 25 ≤ 64 → (s.place w).pendingLoss.contains bay = false →
       exec (.returnEvent w bay) s = .next (State.descRequest ((s.modPlace w fun q => { q with
         gen := genNext (s.place w).gen
         log := q.log ++ [{ gen := genNext (s.place w).gen, loss := false, bay := bay, start := s.gh.now }]
         waitingReturn := q.waitingReturn.filter (· != bay) }).modRb fun r => { r with reorder := true }))) ∧
     ((s.holdsWing w = false ∨ (s.place w).waitingReturn.contains bay = false ∨ s.bayInUse bay = false ∨
         64 < (s.place w).log.length + 25 ∨ (s.place w).pendingLoss.contains bay = true) →
       exec (.returnEvent w bay) s = .next s))

/-! ### Drives -/

/-- Examination of a bay: it starts for a drive that is present in an empty or lost bay, by ce_bay_release or for an
accepted refused drive; it ends, its Identify issued, with the drive in use (its volatile cache disabled before), or
refused with its cause (R338, R339, R345). Containment, by a cause of R343 or by the operator: the bay is cut off: its
drive is contained (empty where the carrier is gone), its commands are gone, its root port's cells close at the next
leg boundary, its link and clock are held off; then its strips are lost to the wings held, what waited on its commands
is told of the reset, and record 0x6102 names the cause. A bay without a drive in use, under examination or refused
stays as it is (R343, R344, R548). -/
def Obligations.BaysAreExaminedAndContained : Prop :=
  (∀ (s : State) (cls bay size link : Nat) (cache : Bool), bay < 24 →
     (s.bayPin bay = true → s.md.mode ≠ .vigil →
       ((s.drive bay).state = .empty ∨
         (s.bayLost bay = true ∧ (s.drive bay).state ≠ .inUse ∧ (s.drive bay).state ≠ .examining)) →
       exec (.driveExamine bay) s = .next (s.examine bay)) ∧
     (s.takes (.ceBayRelease cls bay) → s.bayPin bay = true → (s.drive bay).state ≠ .inUse →
       (s.drive bay).state ≠ .examining → exec (.ceBayRelease cls bay) s = .next (s.examine bay)) ∧
     (s.takes (.ceBayRelease cls bay) →
       (s.bayPin bay = false ∨ (s.drive bay).state = .inUse ∨ (s.drive bay).state = .examining) →
       exec (.ceBayRelease cls bay) s = .next s) ∧
     (s.takes (.ceBayAccept cls bay) → s.bayPin bay = true → (s.drive bay).state = .refused → s.drives.bays.length = 24 →
       exec (.ceBayAccept cls bay) s = .next ((s.modDrive bay fun x => { x with accepted := true }).examine bay)) ∧
     (s.takes (.ceBayAccept cls bay) → (s.bayPin bay = false ∨ (s.drive bay).state ≠ .refused) → s.drives.bays.length = 24 →
       exec (.ceBayAccept cls bay) s = .next (s.modDrive bay fun x => { x with accepted := true })) ∧
     ((s.drive bay).state = .examining → exec (.driveExamineTimeout bay) s = .next (s.refuseDrive bay 4)) ∧
     ((s.drive bay).state = .examining → (∃ c ∈ s.drives.cmds, c.bay = bay ∧ c.use = .examine 1) →
       exec (.driveExamineDone bay size link false true cache .thisShelf) s = .next (s.refuseDrive bay 1) ∧
       exec (.driveExamineDone bay size link true false cache .thisShelf) s = .next (s.refuseDrive bay 1) ∧
       exec (.driveExamineDone bay size link true true cache .thisShelf) s =
         .next (s.examineAccept bay size link cache false false) ∧
       exec (.driveExamineDone bay size link true true cache .invalid) s = .next (s.refuseDrive bay 3) ∧
       exec (.driveExamineDone bay size link true true cache .blank) s = .next
         (if s.get Obj.ce_auto_format = 1 then s.examineAccept bay size link cache true false else s.refuseDrive bay 3) ∧
       exec (.driveExamineDone bay size link true true cache .otherShelf) s = .next
         (if (s.drive bay).accepted then s.examineAccept bay size link cache true true else s.refuseDrive bay 2)) ∧
     (s.drives.bays.length = 24 →
       ((s.examine bay).drive bay).state = .examining ∧ ∀ cause, ((s.refuseDrive bay cause).drive bay).state = .refused)) ∧
  (∀ (s : State) (cls bay cause q cid : Nat) (d : DriveCmd), bay < 24 →
     (((s.drive bay).state = .inUse ∨ (s.drive bay).state = .examining ∨ (s.drive bay).state = .refused) →
       (let mine := s.drives.cmds.filter fun c => c.bay == bay
        let live := (mine.filter fun c => !c.discard).map (·.use)
        let cut := (s.cutBay bay).descGone bay
        let lost := cut.heldWings.foldl (fun t w => t.loseBay w bay) cut
        let told := (live ++ s.arrivedFrom (rootUnit bay)).foldl (fun t u => t.driveReset bay u)
          ((lost.lg.jrecs.filter fun r => r.pending.contains bay && !(live.contains (.journal r.wing r.jseq))).foldl
            (fun t r => t.journalGone r.wing r.jseq bay) lost)
        let counted := mine.foldl (fun t c => (t.driveCounted bay c.queue Oc.reset).returned (rootUnit bay) Oc.reset) told
        let after (k : Nat) : State := State.raiseWarnings
          ((counted.tick Obj.ce_containments).record 6 0x6102 [(1, bay), (1, k), (2, mine.length)]).settle s
        exec (.bayContain bay cause) s = .next (after cause) ∧
        (s.takes (.ceBayContain cls bay) → exec (.ceBayContain cls bay) s = .next (after 7)) ∧
        (s.driveCmd? bay q cid = some d → d.aborting = true → (∃ x ∈ s.drives.cmds, x.bay = bay ∧ x.use = .driveAbort cid) →
          exec (.driveAbortWaitExpiry bay q cid) s = .next (after 1)))) ∧
     (((s.drive bay).state = .empty ∨ (s.drive bay).state = .contained) →
       exec (.bayContain bay cause) s = .next s ∧
       (s.takes (.ceBayContain cls bay) → exec (.ceBayContain cls bay) s = .next s)) ∧
     (s.driveCmd? bay q cid = none → exec (.driveAbortWaitExpiry bay q cid) s = .next s) ∧
     (s.drives.bays.length = 24 →
       ((s.cutBay bay).drive bay).state = (if s.bayPin bay = true then .contained else .empty) ∧
       ((s.cutBay bay).drive bay).linkHeld = true ∧ ((s.cutBay bay).drive bay).refclk = false ∧
       ((s.cutBay bay).drive bay).acquired = []) ∧
     rootUnit bay ∈ (s.cutBay bay).tt.closePend ∧ (∀ c ∈ (s.cutBay bay).drives.cmds, c.bay ≠ bay))

/-- Commands to the drives: one that times out is aborted and recorded (0x6101); a late member read of a Read is hedged; a
completion takes the command from its queue, frees its beds, counts its outcome (one of 1 to 7 for a failure that did
not time out, which is a free value), and carries on what waited on it, unless it was given up; a command still moving
its data cannot complete, nor while the root ports are dark; a failed write is repeated once, and the second time its
bay contained (R111, R227, R340 to R342, R469). -/
def Obligations.DriveCommandsEnd : Prop :=
  ∀ (s : State) (bay q cid a lba : Nat) (good : Bool) (r : DriveData) (d : DriveCmd) (c : Cmd),
    (s.driveCmd? bay q cid = some d → d.aborting = false → (∀ x, d.use ≠ .driveAbort x) → d.outstanding = true →
      d.held = false →
      (q ≠ 0 → exec (.driveIoTimeout bay q cid) s = .next (State.record 4 0x6101
          [(1, bay), (1, q), (1, d.opcode), (4, s.get Obj.ce_drive_io_timeout / 1000000)]
          (State.tick Obj.ce_drive_timeouts 0 ((s.modDriveCmd bay q cid fun x => { x with aborting := true }).issueDrive
            { bay := bay, queue := 0, op := .abort, use := .driveAbort cid })))) ∧
      (q = 0 → exec (.driveAdminTimeout bay cid) s = .next (State.record 4 0x6101
          [(1, bay), (1, 0), (1, d.opcode), (4, s.get Obj.ce_drive_admin_timeout / 1000000)]
          (State.tick Obj.ce_drive_timeouts 0 ((s.modDriveCmd bay 0 cid fun x => { x with aborting := true }).issueDrive
            { bay := bay, queue := 0, op := .abort, use := .driveAbort cid }))))) ∧
    ((∃ x ∈ s.drives.cmds, x.use = .blockRead a lba ∧ x.outstanding = true ∧ x.discard = false) →
      (((s.cmd? a).bind (·.blk? lba)).any fun b => b.stage == .sourcing && !b.hedged) = true →
      s.get Obj.ce_read_hedge ≠ 0 →
      exec (.readHedge a lba) s = .next ((s.tick Obj.ce_hedged_reads).memberErased a lba false).settle) ∧
    (s.cmd? a = some c → (c.blk? lba).any (fun b => b.stage == .blocked) = false →
      (s.pe.jobs.any fun j => j.use == .recon a lba) = false →
      s.rowApplying c.cap.nsid (stripeOf (s.ns c.cap.nsid).layout lba) (stripBlock (s.ns c.cap.nsid).layout lba) = false →
      s.memberErased a lba false = (((s.modBlk a lba fun b => { b with unread := b.unread || false }).modBlk a lba fun b =>
        { b with hedged := true }).startRecon a lba ((c.blk? lba).any (·.unread))).readDone a) ∧
    (s.dark = true → exec (.driveCompletion bay q cid good r) s = .next s) ∧
    (s.driveCmd? bay q cid = some d → (d.outstanding = false ∨ d.held = true ∨ 0 < d.toMove) →
      exec (.driveCompletion bay q cid good r) s = .next s) ∧
    (s.driveCmd? bay q cid = some d → d.outstanding = true → d.held = false → d.toMove = 0 → s.dark = false →
      (∀ w k, d.use ≠ .preempt w k) → (∀ w, d.use ≠ .reservationReport w) → (∀ k, d.use ≠ .examine k) →
      (let u := (d.beds.foldl (fun t h => t.freeOwned h) (s.drawn.dropDriveCmd bay q cid)).driveCounted bay q
         (if good then Oc.ok else if d.aborting then Oc.timeout else 1 + s.freeVal 3 % 7)
       (d.discard = true → exec (.driveCompletion bay q cid good r) s = .next u.settle) ∧
       (d.discard = false → good = true → exec (.driveCompletion bay q cid good r) s = .next (State.driveGood d r u).settle) ∧
       (d.discard = false → good = false → exec (.driveCompletion bay q cid good r) s = .next (State.driveFailed d u).settle))) ∧
    (∀ u : State, (∀ x y, d.use = .blockRead x y →
        State.driveGood d r u = u.readArrived d r.data r.trl ∧
        State.driveFailed d u = (u.tick Obj.ce_read_unreadable).memberErased x y true) ∧
      (∀ id m, d.use = .rowWrite id m → State.driveGood d r u = u.rowWritten id m) ∧
      (∀ x st m, d.use = .fullStripe x st m → State.driveGood d r u = u.memberWritten x st m ∧
        State.driveFailed d u = (if d.repeated then (u.driveReset d.bay d.use).contain d.bay 8 else u.repeatWrite d)) ∧
      (∀ g, d.use = .descriptor g → State.driveGood d r u = u.descDone d.bay))

/-! ### Commands of the host -/

/-- I/O commands after acceptance: the checks come in the order of R312 and the first that fails is the status; a Read and
a Write that pass are split into pieces, which are admitted; a Flush waits for what came before; zeroing commands have
their parts sealed; a block of a Read takes its source in the order slab, lost, cache, member; a Read's pins go when
their hold is over (R44, R78, R92, R106, R118, R311 to R313). -/
def Obligations.HostCommandsPassTheirChecks : Prop :=
  ∀ (s : State) (a lba : Nat) (c : Cmd) (b : BlockSt) (r : Rec) (st : Status),
    (c.cap.refused = true → s.checkCmd c = some .invalidField) ∧
    (c.cap.refused = false → (c.active = false ∨ s.ns? c.cap.nsid = none) → s.checkCmd c = some .invalidNamespace) ∧
    (s.checkNs c = none → (∃ x ∈ c.ranges, nsCapacity (s.ns c.cap.nsid) < x.1 + x.2) → s.checkCmd c = some .lbaOutOfRange) ∧
    (s.fresh? a .read = some c → s.checkCmd c = some st → exec (.readCmd a) s = .next (s.finish c.arrival st)) ∧
    (s.fresh? a .write = some c → s.checkCmd c = some st → exec (.writeCmd a) s = .next (s.finish c.arrival st)) ∧
    (s.fresh? a .writeZeroes = some c → s.checkCmd c = some st → exec (.writeZeroes a) s = .next (s.finish c.arrival st)) ∧
    (s.fresh? a .read = some c → s.checkCmd c = none →
      let bs := (List.range c.cap.nlb).map fun i => ({ lba := c.cap.slba + i } : BlockSt)
      exec (.readCmd a) s = .next (State.admitAll ((splitPieces (s.pieceOf c) (c.cap.nlb + 1) c.cap.slba c.cap.nlb).foldl
        (fun t p => t.enqueue { c with checked := true, blocks := bs } p)
        ((s.passed c.arrival).modCmd c.arrival fun q => { q with blocks := bs })))) ∧
    (s.fresh? a .write = some c → s.checkCmd c = none →
      let bs := (List.range c.cap.nlb).map fun i => ({ lba := c.cap.slba + i } : BlockSt)
      let d := { c with checked := true, blocks := bs, parts := if c.retry then [] else s.writeParts c }
      exec (.writeCmd a) s = .next (State.pump (State.admitAll ((s.writeParts c).foldl (fun t p =>
        (splitPieces (s.pieceOf c) (p.blocks + 1) p.first p.blocks).foldl (fun u x => u.enqueue d x) t)
        (s.modCmd c.arrival fun _ => d))))) ∧
    (s.fresh? a .flush = some c → c.cap.refused = false → (c.cap.nsid = 0xFFFFFFFF ∨ s.checkNs c = none) →
      exec (.flushCmd a) s = .next (s.passed a).flushPass) ∧
    (s.checkCmd c = none → s.zeroParts c ≠ [] →
      (s.fresh? a .writeZeroes = some c → exec (.writeZeroes a) s = .next
        (s.modCmd c.arrival fun q => { q with checked := true, parts := s.zeroParts c }).pump) ∧
      (s.fresh? a .dsm = some c → c.cap.ad = true → exec (.datasetManagement a) s = .next
        (s.modCmd c.arrival fun q => { q with checked := true, parts := s.zeroParts c }).pump)) ∧
    (s.fresh? a .dsm = some c → s.checkCmd c = none → c.cap.ad = false →
      exec (.datasetManagement a) s = .next ((s.passed a).finish a .success)) ∧
    (s.cmd? a = some c → c.blk? lba = some b → b.stage = .blocked → c.cap.op = .read → c.status = none →
      (s.clear c lba = true → s.usableRec c.cap.nsid a lba = some r → exec (.blockFix a lba) s = .next (State.pump
        (((s.tick Obj.ce_read_slab_hits).modBlk a lba fun q => { q with stage := .sourcing }).push c.classOf Opc.cacheRd none
          none a (.slabRead a lba r.sealNo)))) ∧
      (s.clear c lba = true → s.usableRec c.cap.nsid a lba = none → s.isLost c.cap.nsid lba = true →
        exec (.blockFix a lba) s = .next ((s.blockLost a lba).readDone a).pump) ∧
      (∀ e, s.clear c lba = true → s.usableRec c.cap.nsid a lba = none → s.isLost c.cap.nsid lba = false →
        s.cacheAt c.cap.nsid lba = some e → c.cap.src ≠ .endpoint → c.cap.sub ≠ 0xF → exec (.blockFix a lba) s = .next (State.pump
          ((State.modBlk a lba (fun q => { q with stage := .sourcing }) (((s.cachePromote c.cap.nsid lba).cacheTouch
            c.cap.nsid lba).tick Obj.ce_read_cache_hits)).push c.classOf Opc.cacheRd none none a (.cacheRead a lba)))) ∧
      (s.clear c lba = false → b.waited = false → exec (.blockFix a lba) s = .next
        ((s.modBlk a lba fun q => { q with waited := true }).tick Obj.ce_overlap_waits).pump)) ∧
    ((∃ x ∈ s.ce.roomReads, x.arrival = a ∧ x.answered = true) → exec (.readRoomHoldExpiry a) s = .next
      (((s.unpin a).modCe fun y => { y with roomReads := y.roomReads.filter fun x => x.arrival != a }).tick
        Obj.ce_room_hold_expiries))

/-- Reservation commands take their turn, one at a time in each namespace; a namespace is created in the lowest extent
that fits and deleted once nothing of it is left, each with the descriptor's next generation; power states 0 and 1 are
entered at once, 2 by way of Drain (R142, R327 to R331, R335, R336). -/
def Obligations.ReservationsNamespacesAndPowerStates : Prop :=
  ∀ (s : State) (cls a v e : Nat) (c : Cmd) (i : Instr) (op : CmdOp) (n : Namespace) (who : Option (CmdSrc × Nat)) (k : Nat),
    ((i, op) ∈ [(Instr.reservationRegister a, CmdOp.resRegister), (.reservationAcquire a, .resAcquire),
        (.reservationRelease a, .resRelease), (.reservationReport a, .resReport)] → s.fresh? a op = some c →
      (s.checkNs c = none → exec i s = .next ((s.passed a).resServe c.cap.nsid)) ∧
      ∀ st, s.checkNs c = some st → exec i s = .next ((s.finish a st).resServe c.cap.nsid)) ∧
    ((∃ x ∈ s.ce.resCmds, x.nsid = v) → s.resServe v = s) ∧
    (s.ce.resCmds = [] → s.ce.cmds.find? (fun d => d.cap.nsid == v && isRes d.cap.op && d.status.isNone) = some c →
      c.checked = true → s.resServe v = State.resPump v s.ce.cmds.length (s.resRun c)) ∧
    (s.takes (.ceNsCreate cls 1) →
      let t := s.startRun Obj.ce_ns_create_result
      let id := if t.get Obj.ce_ns_new_nsid = 0 then t.freeNsid else t.get Obj.ce_ns_new_nsid
      let w := t.get Obj.ce_ns_new_wing
      let l := BitVec.ofNat 16 (t.get Obj.ce_ns_new_layout_id)
      let rows := ceilDiv (t.get Obj.ce_ns_new_blocks) (Nat.max 1 (24 * layBlocks l))
      layValid l = true → id ≤ 1024 → t.ns? id = none → (w = 1 ∨ w = 2) → (t.place w).openLoss = false →
      t.holdsWing w = true → t.ce.namespaces.length < 1024 →
      fitExtent (extentBlocks l rows) (t.get Obj.pe_member_size w) (t.extents w) = some e →
      let x : Namespace :=
        { nsid := id, layout := l, wing := w, creationGen := (t.place w).gen, base := e, rows := rows, nguid := t.freeVal 128
          created := t.gh.now, creating := true }
      exec (.ceNsCreate cls 1) s = .next (State.descRequest ((t.drawn.modCe fun c => { c with
        namespaces := sortBy (fun y : Namespace => y.nsid) (c.namespaces ++ [x]), createRun := some (id, t.descAwait) }).fillSlot
          (id - 1) 1 (id - 1) 1 x.nguid))) ∧
    (s.takes (.ceNsDelete cls v) → s.ns? v = some n → n.creating = false → n.deleting = false → s.holdsWing n.wing = true →
      exec (.ceNsDelete cls v) s = .next (State.nsDeletePass (((s.startRun Obj.ce_ns_delete_result).modNs v fun x =>
        { x with deleting := true }).modCe fun y => { y with deleteRun := some (v, 0) }))) ∧
    (s.takes (.cePowerStateSet cls v) → s.ce.psEntry = none → v ≠ s.ce.ps →
      (v = 2 → 4 ∉ s.md.causes → exec (.cePowerStateSet cls v) s = .next { s.startRun Obj.ce_power_state_result with
        ce := { s.ce with psEntry := some (s.ce.arrivalNext, none), psBefore := s.ce.ps }
        md := { s.md with causes := addNew s.md.causes 0 } }) ∧
      (v ≤ 1 → s.ce.ps ≠ 2 → exec (.cePowerStateSet cls v) s = .next
        (((s.startRun Obj.ce_power_state_result).setPs v 1).endRun Obj.ce_power_state_result (outcomeVal Oc.ok))) ∧
      (v ≤ 1 → s.ce.ps = 2 → exec (.cePowerStateSet cls v) s = .next (State.endRun Obj.ce_power_state_result (outcomeVal Oc.ok)
        { s.startRun Obj.ce_power_state_result with
          ce := { s.ce with psBefore := v }, md := { s.md with causes := s.md.causes.filter (· != 0) } }))) ∧
    (s.ce.psEntry = some (k, who) →
      (s.psDone = true → exec .ps2EntryComplete s = .next (State.psAnswer who true (State.setPs 2 (if who.isSome then 0 else 1)
        { s with ce := { s.ce with psEntry := none } }))) ∧
      (s.psDone = false → exec .ps2EntryComplete s = .next s) ∧
      exec .psEntryLimitExpiry s = .next (State.psAnswer who false
        { s with ce := { s.ce with psEntry := none }, md := { s.md with causes := s.md.causes.filter (· != 0) } }))

/-- Rooms: an open one is given a key with the next tag and generation of its index, is modified and closed by its owner
alone, and a closing one is cut when its time is over (R279, R280, R285, R286). -/
def Obligations.RoomsOpenAndClose : Prop :=
  ∀ (s : State) (a ix : Nat) (c : Cmd) (r : Room),
    (s.fresh? a .roomOpen = some c → c.cap.src ≠ .endpoint → c.cap.refused = false →
      roomShape (c.cap.cdw.getD 0 0 % 4) (c.cap.cdw.getD 1 0) (bit (c.cap.cdw.getD 0 0) 2) (bit (c.cap.cdw.getD 0 0) 3) = true →
      s.roomsHeld (some c.assoc) < s.get Obj.tr_rooms_per_assoc →
      (c.cap.cdw.getD 0 0 % 4 = 1 → s.pushRoomFits (c.cap.cdw.getD 1 0) = true) → s.freeRoom = some ix →
      let old := (s.tr.rooms.find? fun r => r.index == ix).getD { index := ix }
      let x := openRoom old c.cap.qpn (c.cap.cdw.getD 0 0 % 4) (c.cap.cdw.getD 1 0) (s.get Obj.tr_room_close_timeout)
        (bit (c.cap.cdw.getD 0 0) 2) (bit (c.cap.cdw.getD 0 0) 3)
      exec (.roomOpen a) s = .next (State.finish a .success (State.modCmd a (fun q => { q with checked := true, dw0 := x.key })
        (s.drawn.modTr fun t => { t with rooms := x :: t.rooms.filter fun y => y.index != ix }))) ∧
        x.index = old.index ∧ x.gen = (old.gen + 1) % 65536 ∧ x.tag = (if old.tag + 1 < 16384 then old.tag + 1 else 1) ∧
        x.owner = c.cap.qpn ∧ x.state = 1 ∧ x.length = c.cap.cdw.getD 1 0 ∧ x.kind = c.cap.cdw.getD 0 0 % 4) ∧
    (s.fresh? a .roomOpen = some c → c.cap.src ≠ .endpoint → c.cap.refused = false →
      roomShape (c.cap.cdw.getD 0 0 % 4) (c.cap.cdw.getD 1 0) (bit (c.cap.cdw.getD 0 0) 2) (bit (c.cap.cdw.getD 0 0) 3) = true →
      (s.get Obj.tr_rooms_per_assoc ≤ s.roomsHeld (some c.assoc) ∨ s.freeRoom = none) →
      exec (.roomOpen a) s = .next (s.finish a .capacityExceeded)) ∧
    (s.fresh? a .roomModify = some c → c.cap.src ≠ .endpoint → s.ownRoom c = some r → r.state = 1 → c.cap.refused = false →
      roomShape r.kind (c.cap.cdw.getD 1 0) (bit (c.cap.cdw.getD 2 0) 0) (bit (c.cap.cdw.getD 2 0) 1) = true →
      exec (.roomModify a) s = .next ((s.passed a).modRoom r.index fun x => { x with
        modify := some (c.cap.cdw.getD 1 0, bit (c.cap.cdw.getD 2 0) 0, bit (c.cap.cdw.getD 2 0) 1)
        modifiers := x.modifiers ++ [a] })) ∧
    (s.fresh? a .roomModify = some c → c.cap.src ≠ .endpoint → s.ownRoom c = none →
      exec (.roomModify a) s = .next (s.finish a .invalidField)) ∧
    (s.fresh? a .roomClose = some c → c.cap.src ≠ .endpoint → s.ownRoom c = some r → r.state = 1 → c.cap.refused = false →
      exec (.roomClose a) s = .next (((s.passed a).roomClosing r.index).modRoom r.index fun x => { x with
        closers := x.closers ++ [a] })) ∧
    (s.fresh? a .roomClose = some c → c.cap.src ≠ .endpoint → s.ownRoom c = none →
      exec (.roomClose a) s = .next (s.finish a .invalidField)) ∧
    (s.tr.rooms.find? (fun x => x.index == ix) = some r → r.state = 2 →
      r.closeLimit ≤ (s.tt.legCount + 2 ^ 32 - r.openLegs) % 2 ^ 32 * 5120 →
      exec (.roomCloseTimeout ix) s = .next (s.modRoom ix fun x => { x with cut := true }))

/-- Admin commands with a sender are answered: properties, Identify, log pages, features, Keep Alive; Disconnect and an
expired keep alive end the association; an Abort is decided at the completion gate; at most eight event requests are
held; a Connect makes an association or adds its queue pair (R306 to R319, R324, R325). -/
def Obligations.AdminCommandsAreAnswered : Prop :=
  ∀ (s u : State) (src : CmdSrc) (cid nsid v i : Nat) (a : Assoc) (d : ConnectData) (n : Conn),
    (s.adminFrom src false true = some (a, u) →
      exec (.propertyGet src cid 0) s = .next (u.respondWith src 0 cid (capValue % 2 ^ 32) (leBytes 8 capValue)) ∧
      exec (.propertyGet src cid 8) s = .next (u.respondWith src 0 cid 0x00020000 (leBytes 4 0x00020000)) ∧
      exec (.propertyGet src cid 0x14) s = .next (u.respondWith src 0 cid (a.cc % 2 ^ 32) (leBytes 4 a.cc)) ∧
      exec (.propertyGet src cid 0x1C) s = .next (u.respondWith src 0 cid (a.csts % 2 ^ 32) (leBytes 4 a.csts)) ∧
      exec (.propertySet src cid 0x14 v) s = .next (State.respond src 0 cid .success (State.shutdownPass (u.modAssoc a.index
        fun x => { x with cc := v % 2 ^ 32, ready := bit v 0, shutdown := bits v 15 14 != 0
                          shutdownDone := (bits v 15 14 != 0) && x.shutdownDone }))) ∧
      (∀ o, o ≠ 0x14 → exec (.propertySet src cid o v) s = .next (u.respond src 0 cid .invalidField)) ∧
      exec (.disconnect src cid) s = .next (u.endAssoc a.index 1)) ∧
    (s.adminFrom src true true = some (a, u) →
      exec (.identifyController src cid 1) s = .next (u.respondWith src 0 cid 0 (u.idController a)) ∧
      exec (.keepAlive src cid) s = .next (u.respond src 0 cid .success) ∧
      (∀ p lid off len, u.logPage a lid nsid = .ok p → off % 4 = 0 →
        exec (.getLogPage src cid lid nsid off len true) s = .next (u.respondWith src 0 cid 0 (slice p off len)) ∧
        exec (.getLogPage src cid lid nsid off len false) s =
          .next ((u.respondWith src 0 cid 0 (slice p off len)).pageRead a.index lid)) ∧
      (∀ st lid off len rae, u.logPage a lid nsid = .error st → off % 4 = 0 →
        exec (.getLogPage src cid lid nsid off len rae) s = .next (u.respond src 0 cid st)) ∧
      (∀ lid off len rae, off % 4 ≠ 0 →
        exec (.getLogPage src cid lid nsid off len rae) s = .next (u.respond src 0 cid .invalidField)) ∧
      (a.discovery = true →
        exec (.identifyNamespace src cid nsid) s = .next (u.respond src 0 cid .invalidField) ∧
        exec (.namespaceDescriptorList src cid nsid) s = .next (u.respond src 0 cid .invalidField) ∧
        exec (.activeNamespaceList src cid nsid) s = .next (u.respond src 0 cid .invalidField)) ∧
      (a.discovery = false →
        (u.nsActive (u.partyOf a.index) nsid = true →
          exec (.identifyNamespace src cid nsid) s = .next (u.respondWith src 0 cid 0 (idNamespace (u.ns nsid))) ∧
          exec (.namespaceDescriptorList src cid nsid) s = .next (u.respondWith src 0 cid 0 (List.take 4096
            (leBytes 4 (2 + 16 * 256) ++ beBytes 16 (u.ns nsid).nguid ++ leBytes 4 (3 + 16 * 256) ++
              beBytes 16 (Config.nsUuid (u.ns nsid).nguid).toNat ++ List.replicate 4096 0)))) ∧
        (u.nsActive (u.partyOf a.index) nsid = false →
          exec (.identifyNamespace src cid nsid) s = .next (u.respond src 0 cid .invalidNamespace) ∧
          exec (.namespaceDescriptorList src cid nsid) s = .next (u.respond src 0 cid .invalidNamespace)) ∧
        exec (.activeNamespaceList src cid nsid) s = .next (u.respondWith src 0 cid 0 (List.take 4096 (((u.ce.namespaces.map
          fun y : Namespace => y.nsid).filter fun m => decide (nsid < m) && u.nsActive (u.partyOf a.index) m).flatMap (leBytes 4)
            ++ List.replicate 4096 0))))) ∧
    (s.adminFrom src true false = some (a, u) →
      (bits v 19 16 = 0 → bits v 21 20 = 0 → exec (.setFeatures src cid 4 nsid v false) s =
        .next ((u.modAssoc a.index fun x => { x with tempThreshold := v % 65536 }).respond src 0 cid .success)) ∧
      (katoOk v = true → exec (.setFeatures src cid 0xF nsid v false) s =
        .next ((u.modAssoc a.index fun x => { x with kato := ceilDiv v 100 * 100 }).respond src 0 cid .success)) ∧
      exec (.setFeatures src cid 0xB nsid v false) s =
        .next ((u.modAssoc a.index fun x => { x with aenConfig := v % 2 ^ 32 }).respond src 0 cid .success) ∧
      (∀ fid, fid ≠ 0x83 → exec (.setFeatures src cid fid nsid v true) s = .next (u.respond src 0 cid .invalidField)) ∧
      (∀ fid sel x, u.feature a fid nsid = some x → sel < 3 →
        exec (.getFeatures src cid fid nsid sel) s = .next (u.respondWith src 0 cid x.1 x.2)) ∧
      (∀ fid sel, u.feature a fid nsid = none →
        exec (.getFeatures src cid fid nsid sel) s = .next (u.respond src 0 cid .invalidField)) ∧
      (∀ t, t = u.tick Obj.ce_aborts →
        (4 ≤ (t.ce.aborts.filter fun x => x.1 == a.index).length →
          exec (.abortCmd src cid v nsid) s = .next (t.respond src 0 cid .abortLimit)) ∧
        ((t.ce.aborts.filter fun x => x.1 == a.index).length < 4 →
          let r := ({ t with ce := { t.ce with aborts := t.ce.aborts ++ [(a.index, cid)] } } : State).abortAt src v nsid
          exec (.abortCmd src cid v nsid) s = .next (r.2.respondWith src 0 cid (b2n (!r.1)) []).pump)) ∧
      (8 ≤ a.aers.length → exec (.asynchronousEventRequest src cid) s = .next (u.respond src 0 cid .asyncLimit)) ∧
      (a.aers.length < 8 → exec (.asynchronousEventRequest src cid) s =
        .next ((u.modAssoc a.index fun x => { x with aers := x.aers ++ [cid] }).aerServe a.index))) ∧
    (s.ce.assocs.find? (fun x => x.index == i) = some a → a.kato * 1000 ≤ s.gh.ticks - a.alive →
      exec (.katoExpiry i) s = .next (State.endAssoc i 3
        ((s.record 4 0x6003 [(2, s.cntlid i), (4, a.kato)]).tick Obj.ce_kato_expiries))) ∧
    (s.transportOn = true → s.conn? d.qpn = some n → n.assoc = none → n.qid = d.qid →
      exec (.fabricsConnect d) s = .next (if d.qid = 0 then (s.sendIn d.qpn).adminConnect d n else (s.sendIn d.qpn).ioConnect d n))

/-! ### Transport -/

/-- Packets: in other modes than Standby, Service and Drain, or with no connection, one is dropped; one that passes the
checks of its arrival waits for its context or runs in its order: a capsule is accepted, a READ response goes on to
its block, a WRITE into a push room and a READ of a read room run under the room's rights, an acknowledgement frees
what is sent, a NAK resends or ends the connection, a SACK resends what it misses, a congestion notice waits for the
leg boundary; a context that is fetched runs what waited for it (R68, R72, R117, R264, R268, R271, R275 to R277, R281,
R284, R289, R295 to R302, R573). -/
def Obligations.PacketsRunTheirCourse : Prop :=
  ∀ (s t u : State) (p : Packet) (i : Instr) (ops : List Nat) (c k : Conn) (n : Nat) (r : Room) (m : Msg) (y : SentMsg),
    ((i, ops) ∈ [(Instr.capsuleAccept p, [0x04]), (.rdmaReadResponse p, [0x0D, 0x0E, 0x0F, 0x10]),
        (.rdmaWritePush p, [0x06, 0x07, 0x08, 0x0A]), (.roomRdmaRead p, [0x0C]), (.acknowledge p, [0x11]), (.sack p, [0x11]),
        (.cnp p, [0x81])] → p.opcode ∈ ops → (i = .acknowledge p → p.isSack = false) → (i = .sack p → p.isSack = true) →
      (s.transportOn = false → exec i s = .next (s.packetGone p)) ∧
      (s.transportOn = true → s.conn? p.qpn = none → exec i s = .next ((s.tick Obj.tr_stale_qpn).packetGone p)) ∧
      (s.arrive p = (.dropped, t) → exec i s = .next t) ∧
      (s.arrive p = (.badIcv c, t) → exec i s =
        .next (if 0x0D ≤ p.opcode ∧ p.opcode ≤ 0x10 ∧ t.pullOpen c p = true then t.poisonBlock p.arrival p.lba else t)) ∧
      (s.arrive p = (.accepted c, t) → t.mustWait c = true → exec i s = .next (t.waitPacket c p)) ∧
      (s.arrive p = (.accepted c, t) → t.mustWait c = false → t.conn? p.qpn = some k → u = t.useCtx k.qpn →
        (p.opcode = 0x04 → 64 < p.bytes → exec i s = .next ((u.packetGone p).nakEnd k 1)) ∧
        ((p.opcode = 0x04 ∧ p.bytes ≤ 64 ∨ 0x06 ≤ p.opcode ∧ p.opcode ≤ 0x0C) →
          (u.orderOf k p = .dup → exec i s = .next (u.noteDup k p)) ∧
          (u.orderOf k p = .gap → exec i s = .next (u.noteGap k p)) ∧
          (u.orderOf k p = .bad → exec i s = .next ((u.packetGone p).nakEnd k 1)) ∧
          (u.orderOf k p = .over → exec i s = .next (u.noteOver p))))) ∧
    (s.arrive p = (.accepted c, t) → t.mustWait c = false → t.conn? p.qpn = some k → u = t.useCtx k.qpn →
      (p.opcode = 0x04 → p.bytes ≤ 64 → u.orderOf k p = .next →
        exec (.capsuleAccept p) s = .next ((u.packetGone p).noteTaken k p 0 0 (some { p.cap with
          qpn := k.qpn, src := match k.assoc with | some i => .assoc i | none => p.cap.src }))) ∧
      (0x0D ≤ p.opcode → p.opcode ≤ 0x10 → (k.spread = true → u.orderOf k p = .next) →
        (let v := if k.spread then u.noteTaken k p 0 0 none else u
         (∀ b, (v.cmd? p.arrival).bind (·.blk? p.lba) = some b → v.pullOpen k p = true →
           exec (.rdmaReadResponse p) s = .next (((v.pullAnswered k b.psn).modBlk p.arrival p.lba fun b => { b with
             stage := .staged }).push (u.connWrite k) Opc.netIn (some (1 + k.port)) none p.arrival
               (.payloadIn p.arrival p.lba p.data false p.frame (k.espOf p)))) ∧
         (v.pullOpen k p = false → exec (.rdmaReadResponse p) s = .next (v.packetGone p)))) ∧
      (p.opcode ∈ [0x06, 0x07, 0x08, 0x0A] → u.orderOf k p = .next → p.address % 4096 = 0 → p.size % 4096 = 0 →
        p.bytes % 4096 = 0 →
        (u.pushFull = true → exec (.rdmaWritePush p) s = .next (u.noteOver p)) ∧
        (u.pushFull = false →
          ((if k.spread then k.msgs.find? (fun m => m.number == p.msg) = none else p.opcode = 0x06 ∨ p.opcode = 0x0A) →
            (u.mayStart k p 1 = some r → exec (.rdmaWritePush p) s = .next (u.pushTaken k p r
              (p.address + (if k.spread then p.msgOffset else 0)) r.gen true
              (if k.spread then decide (p.size ≤ 4096) else p.opcode == 0x0A))) ∧
            (u.mayStart k p 1 = none → exec (.rdmaWritePush p) s = .next (u.refuseMsg k p))) ∧
          (∀ ix gen off g, k.spread = false → (p.opcode = 0x07 ∨ p.opcode = 0x08) → k.roomMsg = some (ix, gen, off) →
            u.tr.rooms.find? (fun r => r.index == ix) = some r → (r.state = 1 ∨ r.state = 2) → r.genOf gen = some g →
            exec (.rdmaWritePush p) s = .next (if off + p.bytes ≤ g.1 ∧ g.2.1 = true then
              u.pushTaken k p r off gen false (p.opcode == 0x08) else u.refuseMsg k p)) ∧
          (∀ g, k.spread = true → k.msgs.find? (fun m => m.number == p.msg) = some m →
            u.tr.rooms.find? (fun r => r.index == m.room / 2 ^ 14) = some r → (r.state = 1 ∨ r.state = 2) →
            r.genOf m.gen = some g →
            exec (.rdmaWritePush p) s = .next (if p.address + p.msgOffset + p.bytes ≤ g.1 ∧ g.2.1 = true then
              u.pushTaken k p r (p.address + p.msgOffset) m.gen false (decide (ceilDiv p.size 4096 ≤ m.bits.length + 1))
              else u.refuseMsg k p)))) ∧
      (p.opcode = 0x0C → u.orderOf k p = .next → u.mayStart k p 2 = some r → p.size ≠ 0 → k.reads < 16 →
        (let blocks := (List.range ((p.address + p.size - 1) / 4096 + 1 - p.address / 4096)).map fun j =>
           u.pinned r.index (4096 * (p.address / 4096 + j))
         blocks.any (·.isNone) = false →
         exec (.roomRdmaRead p) s = .next ((List.range blocks.length).foldl
           (fun w j => w.push (u.connRead k) Opc.cacheRd none none 0 (.pullRead u.ce.pullNext j))
           (((((u.noteTaken k p p.key r.gen none).modConn k.qpn fun x => { x with reads := x.reads + 1 }).modCe fun e => { e with
             pulls := e.pulls ++ [{ id := u.ce.pullNext, qpn := k.qpn, room := r.index, cls := u.connRead k
                                    blocks := blocks.filterMap id }]
             pullNext := u.ce.pullNext + 1 }).modRoom r.index fun x => { x with
               openMsgs := x.openMsgs + 1, quiet := false }).packetGone p)))) ∧
      (p.opcode = 0x0C → u.orderOf k p = .next → u.mayStart k p 2 = none →
        exec (.roomRdmaRead p) s = .next (u.refuseMsg k p)) ∧
      (p.opcode = 0x11 → p.isSack = false →
        (p.nak = none → (let v := u.modConn k.qpn fun x =>
            if x.spread then { x with txMsgs := x.txMsgs.filter fun m => m.number != p.number } else Conn.ackedTo p.number x
          exec (.acknowledge p) s = .next (match p.work with | some q => v.workAcked q | none => v))) ∧
        (p.nak = some 0 → exec (.acknowledge p) s = .next (u.retry k p.number)) ∧
        (∀ x, x ≠ 0 → p.nak = some x → exec (.acknowledge p) s = .next (u.endConn k.qpn (if x = 1 then 1 else 2)))) ∧
      (p.opcode = 0x11 → p.isSack = true → k.txMsgs.find? (fun z => z.number == p.msg) = some y →
        (let miss := (List.range (ceilDiv y.bytes 4096)).filter fun j => !p.got.contains j
         (miss ≠ [] → u.get Obj.tr_spread_rto ≤ u.gh.now - y.last → exec (.sack p) s =
           .next ((u.emit (.resend k.qpn p.msg (miss.map (· * 4096)))).modConn k.qpn fun x =>
             { x with txMsgs := modFirst (fun z => z.number == p.msg) (fun z => { z with last := u.gh.now }) x.txMsgs })) ∧
         ((miss = [] ∨ u.gh.now - y.last < u.get Obj.tr_spread_rto) → exec (.sack p) s = .next u))) ∧
      (p.opcode = 0x81 → exec (.cnp p) s = .next (u.modConn k.qpn fun x => { x with cnp := true }))) ∧
    (s.conn? n = some k → k.fetching = true → s.tr.fetches.contains n = false →
      (let v := (s.modConn n fun x => { x with fetching := false, cached := true }).tick Obj.tr_context_fetches
       let w := if 1500 < (s.slotNow - k.fetchAt) * 80 then v.tick Obj.tr_fetch_bound_excess else v
       let x := w.modTr fun x => { x with waiting := x.waiting.filter fun z => z.qpn != n }
       (s.transportOn = true → exec (.contextFetchDone n) s =
         .next ((w.tr.waiting.filter fun z => z.qpn == n).foldl (fun a z => a.runWaiting z) x)) ∧
       (s.transportOn = false → exec (.contextFetchDone n) s = .next ((w.tr.waiting.filter fun z => z.qpn == n).foldl
         (fun a z => (z.bed.elim a fun h => a.freeOwned h).packetGone z.packet) x))))

/-- Connections: a request is answered with the next use of a free context index, or rejected; a message taken in order is
acknowledged, and the capsule it carried accepted; timeouts resend or end the connection; the oldest incomplete
message's bitmap is sent; rekeying takes the next count; chained waits that last too long stop their queue (R68, R263,
R265 to R267, R270, R273, R289, R290, R292, R295, R296, R298, R299). -/
def Obligations.ConnectionsLiveAndEnd : Prop :=
  ∀ (s : State) (priv : List Byte) (hostQpn link depth mtu qpn n ix k cls : Nat) (c : Conn) (p : Packet) (cap : Capsule)
    (q : WorkQueue) (rest : List WorkEntry) (y : Msg),
    (s.transportOn = false → exec (.cmReq priv hostQpn link k depth mtu) s = .next s) ∧
    (s.transportOn = true → (mtu < 4096 ∨ field priv 0 2 ≠ 0) → exec (.cmReq priv hostQpn link k depth mtu) s =
      .next ((s.tick Obj.tr_connect_rejects).emit (.cmReply false 0 0 0 []))) ∧
    (s.transportOn = true → 4096 ≤ mtu → field priv 0 2 = 0 →
      (s.tr.conns.filter fun x => qpAdmin x.qpn == (field priv 2 2 == 0)).length < 2048 →
      s.freeIndex (field priv 2 2 == 0) = some ix →
      (let admin := field priv 2 2 == 0
       let last := lookup s.tr.reuse (ix + (if admin then 65536 else 0)) 0
       let reuse := if last = 127 then 1 else last + 1
       let qp := (if admin then 2 ^ 23 else 0) + reuse * 2 ^ 16 + ix
       let sp := bit (field priv 26 1) 0 && s.get Obj.tr_spread_enable == 1
       let v := s.drawn.modTr fun t => { t with
         conns := t.conns ++ [{ qpn := qp, hostid := field priv 10 16, hostQpn := hostQpn, qid := field priv 2 2
                                port := link / 8, link := link, spread := sp, claimGen := s.claimGen, depth := Nat.min k 16
                                rate := (s.link link).rate / 8, goal := (s.link link).rate / 8
                                gap := s.get Obj.tr_cc_cut_gap }]
         reuse := assign t.reuse (ix + (if admin then 65536 else 0)) reuse }
       exec (.cmReq priv hostQpn link k depth mtu) s = .next ((([1, 2].foldl (fun t dir =>
         t.wantKey { mode := 2, slot := 0, gen := 0, dir := dir, qpn := qp })
           ((if admin then v else v.spillFor qp).useCtx qp)).emit
             (.cmReply true qp (Nat.min k 16) (Nat.min depth 16) (cmReplyPriv (field priv 6 2) sp s.claimGen)))))) ∧
    (c.spread = false → s.noteTaken c p 0 0 (some cap) =
      (let v := s.modConn c.qpn fun x => { x with psn := (x.psn + 1) % 2 ^ 24, nakSent := false, unacked := x.unacked + 1 }
       State.capsuleIn c cap (if lastOp p.opcode ∨ 16 ≤ c.unacked + 1 then v.sendAck c p.psn else v))) ∧
    (s.conn? qpn = some c →
      exec (.rekeyOverlapEnd qpn) s = .next (s.modConn qpn fun x =>
        { x with rx := { x.rx with old := none, oldSeq := 0, oldSeen := [] } }) ∧
      (s.transportOn = true → c.spread = false → c.txOldest ≠ c.txPsn →
        exec (.ackTimeout qpn) s = .next (s.retry c c.txOldest)) ∧
      (s.get Obj.tr_retry_count ≤ (if n = c.txOldest then c.tries else 0) → s.retry c n = s.endConn c.qpn 3) ∧
      ((if n = c.txOldest then c.tries else 0) < s.get Obj.tr_retry_count → s.retry c n =
        (s.emit (.resend c.qpn n [])).modConn c.qpn fun x =>
          { x with tries := (if n = c.txOldest then c.tries else 0) + 1, txOldest := n }) ∧
      (c.oldest = some y → c.spread = true → s.transportOn = true →
        exec (.sackInterval qpn) s = .next ((s.emit (.sack qpn y.number y.bits)).sendControl c)) ∧
      (c.oldest = none → exec (.sackInterval qpn) s = .next s) ∧
      (s.transportOn = true → c.msgs.find? (fun z => z.number == n && !z.complete && decide (z.limit ≤ s.gh.now - z.time)) = some y →
        exec (.spreadTimeout qpn n) s = .next (State.endConn qpn 4 ((s.tick Obj.tr_spread_timeouts).record 4 0x4005
          [(4, qpn), (4, n), (4, y.bits.length)]))) ∧
      (s.transportOn = true → c.msgs.find? (fun z => z.number == n && !z.complete && decide (z.limit ≤ s.gh.now - z.time)) = none →
        (∃ z ∈ c.txMsgs, z.number = n ∧ z.limit ≤ s.gh.now - z.start) →
        exec (.spreadTimeout qpn n) s = .next (State.endConn qpn 4 ((s.tick Obj.tr_spread_timeouts).record 4 0x4005
          [(4, qpn), (4, n), (4, 0)]))) ∧
      (s.takes (.trRekey cls qpn) → exec (.trRekey cls qpn) s = .next
        (((s.startRun Obj.tr_rekey_result).rekeyOut qpn).endRun Obj.tr_rekey_result (outcomeVal Oc.ok)))) ∧
    (s.conn? qpn = none → s.takes (.trRekey cls qpn) → exec (.trRekey cls qpn) s = .next
      ((s.startRun Obj.tr_rekey_result).endRun Obj.tr_rekey_result (outcomeVal Oc.denied))) ∧
    (s.tr.queues.find? (fun z => z.id == n && !z.stopped) = some q →
      (∀ a b, q.entries = .waitQueue a b :: rest → exec (.waitEntryTimeout n) s = .next (s.waitEnds n Oc.timeout)) ∧
      (∀ a b d, q.entries = .waitDrive a b d :: rest → exec (.waitEntryTimeout n) s = .next (s.waitEnds n Oc.timeout)))

/-! ### The object protocol -/

/-- Sessions: a HELLO under a known credential draws a CHALLENGE, an unknown one or a ninth session is a failure; a
signature that verifies opens the session under the lower class with AUTH_OK, one that fails ends it; AUTH_TIMEOUT,
CLOSE and silence end sessions (R490, R492 to R494). -/
def Obligations.SessionsOpenAndClose : Prop :=
  ∀ (s : State) (vlan : Option Nat) (nonce cls e id : Nat) (key sig body : List Byte) (x : Session) (m : FieldMsg),
    (s.pathUp vlan = true → key.length = 2592 →
      let hello := beBytes 32 nonce ++ beBytes 1 cls ++ [0, 0, 0] ++ key
      let t := s.fieldGot vlan (msgBytes hello false)
      (t.credential 0 key = none → exec (.hello vlan nonce cls key) s = .next (t.tick Obj.fw_auth_failures)) ∧
      (8 ≤ s.dict.sessions.length → exec (.hello vlan nonce cls key) s = .next (t.tick Obj.fw_auth_failures)) ∧
      (t.credential 0 key = some e → s.dict.sessions.length < 8 →
        (let nonceD := beBytes 32 (t.drawn.freeVal 256)
         let upTo := nonceD ++ Config.deviceKey
         let signature := Config.mldsaSign "KA2460 FIELD D" (sha3Bytes (hello ++ upTo))
         exec (.hello vlan nonce cls key) s = .next ((t.drawn.drawn.modDict fun d => { d with sessions := d.sessions ++
           [{ id := t.freeSession, credential := e, vlan := vlan, asked := cls, key := key, last := s.gh.now
              hello := sha3Bytes (hello ++ upTo ++ signature), nonces := beBytes 32 nonce ++ nonceD }] }).fieldSend vlan
                t.freeSession 2 0 0 (upTo ++ signature) none)))) ∧
    (s.session? id = some x → s.pathUp x.vlan = true →
      let t := s.fieldGot x.vlan (msgBytes sig false)
      (x.opened = false → Config.mldsaVerify x.key "KA2460 FIELD C" x.hello sig = true →
        let ks := sessionKey (t.credSecret x.credential) x.nonces id
        let c := Nat.min x.asked (t.get Obj.fw_cred_class (x.credential + 1))
        exec (.auth id sig) s = .next ((t.modSession id fun y =>
          { y with opened := true, ks := ks, cls := c, tx := 1, last := s.gh.now }).tagSend x.vlan ks id 4 1 0
            (beBytes 1 c ++ [0, 0, 0] ++ beBytes 4 (t.get Obj.fw_session_idle)))) ∧
      (x.opened = false → Config.mldsaVerify x.key "KA2460 FIELD C" x.hello sig = false →
        exec (.auth id sig) s = .next ((t.endSession id none).tick Obj.fw_auth_failures)) ∧
      (x.opened = true → exec (.auth id sig) s = .next (t.tick Obj.fw_tag_failures))) ∧
    (s.session? id = some x → x.opened = false →
      (x.last + 2000000000 ≤ s.gh.now → exec (.authTimeout id) s = .next ((s.endSession id none).tick Obj.fw_auth_failures)) ∧
      (s.gh.now < x.last + 2000000000 → exec (.authTimeout id) s = .next s)) ∧
    (s.session? id = some x → x.opened = true →
      exec (.authTimeout id) s = .next s ∧
      (x.last + s.get Obj.fw_session_idle * 1000000 ≤ s.gh.now →
        exec (.sessionIdle id) s = .next (s.endSession id (some 1))) ∧
      (s.gh.now < x.last + s.get Obj.fw_session_idle * 1000000 → exec (.sessionIdle id) s = .next s)) ∧
    (s.passes m 5 body x → body ≠ [] → (m.vlan ≠ none ∨ s.si.wardenSession ≠ 3 ∨ s.si.wardenId ≠ m.session) →
      exec (.close m body) s = .next ((s.fieldGot m.vlan (msgBytes body true)).endSession m.session none)) ∧
    (m.vlan = none → s.pathUp none = true → s.si.wardenSession = 3 → s.si.wardenId = m.session →
      m.tag = msgTag s.si.wardenKs 5 m.session m.counter m.request body → s.si.wardenRx < m.counter → body ≠ [] →
      exec (.close m body) s = .next ((s.fieldGot none (msgBytes body true)).modSi fun i => { i with wardenSession := 0 })) ∧
    (s.session? id = some x → ∀ r, (s.endSession id r).dict.sessions = s.dict.sessions.filter fun y => y.id != id)

/-- Messages: one that passes is served and answered with the next counter; one that names no session or fails its tag is
counted and dropped, and so is one whose counter is not higher; a body that is not whole is dropped (R482, R483, R486,
R490, R528). -/
def Obligations.MessagesAreServed : Prop :=
  ∀ (s : State) (c : Instr) (m : FieldMsg) (b : List Byte) (type reply : Nat) (whole : Bool)
    (serve : Session → State → List Byte × State) (x : Session),
    servedAs c = some (m, b, type, reply, whole, serve) →
    (s.passes m type b x → whole = true →
      let u := (s.fieldGot m.vlan (msgBytes b true)).modSession m.session fun y => { y with rx := m.counter, last := s.gh.now }
      (∀ y, (serve x u).2.session? m.session = some y → exec c s = .next (State.tagSend y.vlan y.ks y.id reply (y.tx + 1)
        m.request (serve x u).1 (State.modSession m.session (fun z => { z with tx := y.tx + 1 }) (serve x u).2))) ∧
      ((serve x u).2.session? m.session = none → exec c s = .next (serve x u).2)) ∧
    (s.passes m type b x → whole = false → exec c s = .next (s.fieldGot m.vlan (msgBytes b true))) ∧
    (s.pathUp m.vlan = true → s.session? m.session = none →
      exec c s = .next ((s.fieldGot m.vlan (msgBytes b true)).tick Obj.fw_tag_failures)) ∧
    (s.pathUp m.vlan = true → s.session? m.session = some x → m.tag ≠ msgTag x.ks type m.session m.counter m.request b →
      exec c s = .next ((s.fieldGot m.vlan (msgBytes b true)).tick Obj.fw_tag_failures)) ∧
    (s.pathUp m.vlan = true → s.session? m.session = some x → x.opened = true → x.vlan = m.vlan →
      m.tag = msgTag x.ks type m.session m.counter m.request b → m.counter ≤ x.rx →
      exec c s = .next ((s.fieldGot m.vlan (msgBytes b true)).tick Obj.fw_counter_drops)) ∧
    (s.pathUp m.vlan = false → exec c s = .next s)

/-- Objects: a write to an index the dictionary does not have is counted; a number in range is kept, at once or for the
next leg boundary; a change of a credential ends the sessions under it; ep_bar2_class is written through BAR2 or by a
custodian; a statistics object is shown and cleared; a staged write and a datagram time out; the mailbox is served
(R385, R476, R477, R483, R488, R492, R507). -/
def Obligations.ObjectsAreWrittenAndRead : Prop :=
  ∀ (s : State) (cls ix sub v a type : Nat) (value body : List Byte) (r : ObjRow) (w : Nat),
    (objRow ix sub = none → exec (.objectWrite cls ix sub value) s = .next (s.violation cls)) ∧
    (objRow ix sub = some r → r.ty = .u w → isCredential ix = false →
      ix ∉ [Obj.gh_bay_enable, Obj.gh_bank_energy_ceiling, Obj.lg_ledger_size, Obj.lg_flush_profile, Obj.pe_rebuild_rate,
        Obj.pe_patrol_enable, Obj.ep_bar2_class] → (ix < Obj.ce_ns_party_mask ∨ Obj.ce_ns_party_mask + 1024 ≤ ix) →
      (ix < Obj.gb_unit_config ∨ Obj.gb_unit_config + 512 ≤ ix) →
      ((s.mayWrite cls ix sub = false ∨ r.inRange (leNat (value.take w)) = false) →
        exec (.objectWrite cls ix sub value) s = .next (s.violation cls)) ∧
      (s.mayWrite cls ix sub = true → r.inRange (leNat (value.take w)) = true → s.keepsOrder ix sub (leNat (value.take w)) = true →
        (atBoundary ix = true → exec (.objectWrite cls ix sub value) s = .next { s with dict := { s.dict with
          objNext := assign s.dict.objNext (objKey ix sub) (leNat (value.take w)) } }) ∧
        (atBoundary ix = false → isRate ix = false →
          exec (.objectWrite cls ix sub value) s = .next (s.put ix sub (leNat (value.take w)))))) ∧
    (isCredential ix = true → exec (.credentialWrite cls ix sub value) s = .next (
      let t := s.storeObject cls ix sub value
      if t.blobNow ix sub = s.blobNow ix sub ∧ t.get ix sub = s.get ix sub then t
      else t.endUnder (sub - 1) (s.get Obj.fw_cred_role sub == 1))) ∧
    (s.dict.scope = true → v ≤ 2 →
      exec (.epBar2ClassWrite true cls v) s = .next (s.put Obj.ep_bar2_class 0 v) ∧
      (2 ≤ cls → exec (.epBar2ClassWrite false cls v) s = .next (s.put Obj.ep_bar2_class 0 v)) ∧
      (cls < 2 → exec (.epBar2ClassWrite false cls v) s = .next (s.violation cls))) ∧
    (objRow ix sub = some r → r.stats = true → (∀ n, r.ty ≠ .domain n) → s.mayRead cls ix sub = true →
      exec (.statisticsRead cls ix sub) s = .next ((s.clearStat ix sub).emit (.value ix sub (padTo 64 (s.valueOf ix sub))))) ∧
    (s.mayRead cls ix sub = false →
      exec (.statisticsRead cls ix sub) s = .next ((s.violation cls).emit (.value ix sub (List.replicate 64 0)))) ∧
    (∀ z, s.stagedBy (.session a) = some z →
      (z.last + 10000000000 ≤ s.gh.now →
        exec (.stagingTimeout (some a)) s = .next (s.modSession a fun y => { y with staging := none })) ∧
      (s.gh.now < z.last + 10000000000 → exec (.stagingTimeout (some a)) s = .next s)) ∧
    (∀ z, s.dict.bar2Staging = some z → z.last + 10000000000 ≤ s.gh.now →
      exec (.stagingTimeout none) s = .next (s.modDict fun d => { d with bar2Staging := none })) ∧
    (s.gh.powered = true →
      exec (.reassemblyTimeout a) s = .next (({ s with dict := { s.dict with
        reassembly := s.dict.reassembly.filter fun x => x.1 != a } } : State).tick Obj.gh_field_rx_drops) ∧
      (a = beNat fieldAddress → exec (.neighbourDiscovery a) s =
        .next (((s.fieldGot none 64).count Obj.gh_field_tx_frames 0 1).emit (.neighbour a))) ∧
      (a ≠ beNat fieldAddress → exec (.neighbourDiscovery a) s = .next (s.fieldGot none 64))) ∧
    (s.epOpen = true → s.dict.scope = true → body.length ≤ 4096 →
      let t := ({ s with dict := { s.dict with bar2Request := body } } : State).serveBar2 type body
      let u := ({ t.2 with dict := { t.2.dict with bar2Reply := t.1 } } : State)
      exec (.bar2Doorbell type body) s = .next (if u.ep.msix = true then u.msixRaise 63 else u))

/-! ### Ports -/

/-- Links: a head is staged under its class and output or discarded for its cause; an end counts the frame and hands it on
or discards it; pause frames hold their classes under their own mode and are counted as ignored under the others; a
boundary sends the frame chosen; links come up at their mode's rate and go down with everything they hold; Sync frames
steer the port clock (R347, R352 to R357, R360 to R366, R370, R372, R375, R381). -/
def Obligations.LinksCarryAndPauseFrames : Prop :=
  ∀ (s : State) (l tc q mask vid id len cor unc n : Nat) (h : FrameHead) (qs : List Nat) (f : StagedFrame) (g : EgressFrame)
    (p : PauseSt) (stomp fcs : Bool) (off : Int),
    ((s.link l).up = true →
      (l < 32 → s.get Obj.pc_staging_bytes < s.stagedPort (l / 8) + 9216 →
        exec (.rxFrameHead l h) s = .next (s.stageHead l h 4 0 0 8 false)) ∧
      (l < 32 → s.stagedPort (l / 8) + 9216 ≤ s.get Obj.pc_staging_bytes →
        (s.addressOk l h = false → exec (.rxFrameHead l h) s = .next (s.stageHead l h 5 9216 0 8 false)) ∧
        (s.addressOk l h = true → h.etype = 0x8808 → h.macOp ≠ 1 → h.macOp ≠ 0x0101 →
          exec (.rxFrameHead l h) s = .next ((s.macFrame l).tick Obj.pc_rx_pause_ignored (l + 1))) ∧
        (s.addressOk l h = true → h.etype ≠ 0x8808 → s.vidOf l h = some vid →
          exec (.rxFrameHead l h) s = .next (State.flowCheck l false (s.stageHead l h
            (if s.classify l vid h = 8 then 7 else 0) 9216 (s.tcOf l h) (s.classify l vid h)
            (bit (s.get Obj.sw_ct_ingress (l / 8 + 1)) (s.tcOf l h) && (s.classify l vid h == 5 || s.classify l vid h == 6))))) ∧
        (s.addressOk l h = true → h.etype ≠ 0x8808 → s.vidOf l h = none →
          exec (.rxFrameHead l h) s = .next (State.flowCheck l false (s.stageHead l h 6 9216 0 8 false)))) ∧
      ((s.macFrame l).get Obj.pc_flow_mode (l + 1) = 1 →
        exec (.pauseFrame l q) s = .next ((List.range 8).foldl (fun t c => t.setPause l c q)
          ((s.macFrame l).tick Obj.pc_rx_pause_frames (l + 1))) ∧
        exec (.pfcFrame l mask qs) s = .next ((s.macFrame l).tick Obj.pc_rx_pause_ignored (l + 1))) ∧
      ((s.macFrame l).get Obj.pc_flow_mode (l + 1) = 2 →
        exec (.pauseFrame l q) s = .next ((s.macFrame l).tick Obj.pc_rx_pause_ignored (l + 1)) ∧
        exec (.pfcFrame l mask qs) s = .next ((List.range 8).foldl (fun t c =>
          if bit mask c then t.setPause l c (qs.getD c 0) else t) ((s.macFrame l).tick Obj.pc_rx_pause_frames (l + 1)))) ∧
      exec (.pfcRefresh l) s = .next (s.flowCheck l true) ∧
      (∀ v : State, ((s.link l).sending = none ∧ v = s ∨ ∃ y, (s.link l).sending = some y ∧ stomp = false ∧ y.bad = false ∧
          v = State.emit (.txFrame l y.tc y.bytes false)
            ((s.tick Obj.pc_tx_frames (l + 1)).count Obj.pc_tx_bytes (l + 1) y.bytes)) →
        let u := State.fillPort l (v.modLink l fun k => { k with
          sending := none, pauses := k.pauses.map fun x => { x with pending := false } })
        ((u.link l).choose (u.get Obj.sw_strict_tc7 == 1) = none → exec (.txFrameBoundary l stomp) s = .next u) ∧
        ((u.link l).choose (u.get Obj.sw_strict_tc7 == 1) = some g → g.ptp = none →
          exec (.txFrameBoundary l stomp) s = .next (u.modLink l fun k => { k with
            sending := some g, vt := g.start, frames := dropFirst (fun x => x == g) k.frames })) ∧
        ((u.link l).choose (u.get Obj.sw_strict_tc7 == 1) = some g → g.ptp = some n →
          exec (.txFrameBoundary l stomp) s = .next (State.modPc (fun x => { x with
            stamps := (x.stamps ++ [(n, l, s.stamp Obj.pc_ptp_egress_latency l)]).drop
              ((x.stamps ++ [(n, l, s.stamp Obj.pc_ptp_egress_latency l)]).length - 64) }) (u.modLink l fun k => { k with
            sending := some g, vt := g.start, frames := dropFirst (fun x => x == g) k.frames })))) ∧
      (l ≤ 31 → exec (.linkDown l) s = .next (s.linkDown l 1)) ∧
      (l = 32 → exec (.linkDown l) s = .next (s.linkDown 32 1).closeSisterRooms)) ∧
    ((s.link l).up = false → exec (.rxFrameHead l h) s = .next s ∧ exec (.pauseFrame l q) s = .next s ∧
      exec (.linkDown l) s = .next s ∧ exec (.txFrameBoundary l stomp) s = .next s) ∧
    (s.frame? id = some f → f.ended = false →
      let u := (s.count Obj.pc_fec_corrected (f.link + 1) cor).count Obj.pc_fec_uncorrected (f.link + 1) unc
      let v := if unc = 0 then u else u.modPc fun x => { x with
        fecSecond := assign x.fecSecond f.link (lookup x.fecSecond f.link 0 + unc) }
      exec (.rxFrameEnd id len fcs cor unc) s = .next (State.rxEnd f len
        (if len < 64 then 1 else if 9216 < len then 2 else if !fcs ∨ unc ≠ 0 then 3 else f.cause)
        ((v.tick Obj.pc_rx_frames (f.link + 1)).count Obj.pc_rx_bytes (f.link + 1) len))) ∧
    exec (.pauseExpiry l tc) s = .next (s.modLink l fun k => { k with
      pauses := k.pauses.filter fun x => !(x.tc == tc && !x.pending) }) ∧
    ((s.link l).pauses.find? (fun x => x.tc == tc) = some p → p.logged = false →
      s.get Obj.pc_pause_storm_limit ≤ s.gh.now - p.since → exec (.pauseStorm l tc) s = .next (State.record 5 0x3004
        [(4, l), (4, tc), (8, s.gh.now - p.since)] (State.tick Obj.pc_pause_storms (l + 1) (s.modLink l fun k => { k with
          pauses := modFirst (fun x => x.tc == tc) (fun x => { x with logged := true }) k.pauses })))) ∧
    (l < 32 → s.linkReady l = true → exec (.linkUp l) s = .next (s.linkUp l) ∧
      (s.pc.links.length = 33 → ((s.linkUp l).link l).up = true ∧
        ((s.linkUp l).link l).rate = (modeLinks (s.pc.portMode.getD (l / 8) 4)).2)) ∧
    (s.linkReady 32 = true → exec (.linkUp 32) s = .next s.sisterLinkUp) ∧
    (s.get Obj.pc_ptp_enable = 1 → l = s.get Obj.pc_ptp_link → (s.link l).up = true →
      let good := if off.natAbs < 100 then s.pc.ptpGood + 1 else 0
      let u := s.drawn.modPc fun x => { x with
        ptpGood := good, ptpOffset := off, ptpLast := s.gh.now
        clockStep := Int.ofNat (s.freeVal 32 % 1000001) - 500000, ptpSeq := (x.ptpSeq + 1) % 65536 }
      let v := if 16 ≤ good then u.ptpTo 2 else if s.pc.ptpState = 0 then u.ptpTo 1 else u
      exec (.ptpSync l off) s = .next (v.drawn.sendFrame l (v.get Obj.sw_mgmt_tc) (64 + v.freeVal 16 % 9153) false
        (some s.pc.ptpSeq))) ∧
    ((s.pc.ptpState = 1 ∨ s.pc.ptpState = 2) → s.get Obj.pc_ptp_loss ≤ s.gh.now - s.pc.ptpLast →
      exec .ptpLoss s = .next (State.record 3 0x3005 [(1, s.pc.ptpState), (1, 3), (8, encInt 64 s.pc.ptpOffset)]
        (s.modPc fun x => { x with ptpGood := 0, ptpState := 3 })))

/-! ### The service endpoint -/

/-- Queues of the endpoint: a tail asks for its new entries, a head frees completion entries; I/O queues are created and
deleted under the checks of their commands; a completion brings what its read was for, one that is late fails its
command; CC enables and disables the controller (R504 to R506, R513, R514). -/
def Obligations.EndpointServesItsQueues : Prop :=
  ∀ (s u : State) (qid v tag sq size vec cqid base cid : Nat) (q : EpQueue) (t : EpTag) (a : Assoc) (good ien : Bool) (d : Block)
    (cap : Option Capsule),
    (s.epOpen = true → s.ep.ready = true →
      (epQueue? s.ep.sqs qid = some q → v < q.depth → exec (.epDoorbell qid false v) s = .next (State.modEp
        (fun e => { e with sqs := modFirst (fun x => x.id == qid) (fun x => { x with tail := v }) e.sqs })
        (s.epFetch q ((v + q.depth - q.tail) % Nat.max 1 q.depth) 0))) ∧
      (epQueue? s.ep.cqs qid = some q → v < q.depth → exec (.epDoorbell qid true v) s = .next (State.intaUpdate (State.epRelease
        { s with ep := { s.ep with cqs := modFirst (fun x => x.id == qid) (fun x => { x with
          head := v, posted := x.posted - Nat.min q.posted ((v + q.depth - q.head) % Nat.max 1 q.depth) }) s.ep.cqs } }))) ∧
      (∀ b, epQueue? (if b then s.ep.cqs else s.ep.sqs) qid = none → exec (.epDoorbell qid b v) s = .next s)) ∧
    (s.epOpen = true →
      let w := s.modEp fun e => { e with cc := v % 2 ^ 32, aqa := (sq - 1) + 2 ^ 16 * (vec - 1), asq := size, acq := base }
      let on := w.modEp fun e => { e with ready := true, shst := 0, sqs := [{ id := 0, depth := sq, base := size }]
                                          cqs := [{ id := 0, depth := vec, ints := true, base := base }] }
      (bit s.ep.cc 0 = false → bit v 0 = true → bits v 15 14 = 0 → exec (.epCcWrite v sq vec size base) s = .next on) ∧
      (bit s.ep.cc 0 = false → bit v 0 = true → bits v 15 14 ≠ 0 → exec (.epCcWrite v sq vec size base) s =
        .next (on.modEp fun e => { e with shst := 1 }).epShutdown) ∧
      (bit s.ep.cc 0 = true → bit v 0 = false → exec (.epCcWrite v sq vec size base) s = .next w.epDisable)) ∧
    (s.adminFrom .endpoint true false = some (a, u) →
      (1 ≤ qid → qid ≤ 63 → epQueue? u.ep.cqs qid = none → 1 ≤ size → size ≤ 1023 → vec ≤ 62 →
        exec (.createIoCompletionQueue .endpoint cid qid size vec true ien base) s = .next (State.respond .endpoint 0 cid .success
          { u with ep := { u.ep with
            cqs := u.ep.cqs ++ [{ id := qid, depth := size + 1, vector := vec, ints := ien, base := base }] } })) ∧
      (cqid ≠ 0 → (epQueue? u.ep.cqs cqid).isSome = true → 1 ≤ qid → qid ≤ 63 → epQueue? u.ep.sqs qid = none → 1 ≤ size →
        size ≤ 1023 → exec (.createIoSubmissionQueue .endpoint cid qid size cqid true base) s = .next (State.respond .endpoint 0 cid
          .success { u with ep := { u.ep with sqs := u.ep.sqs ++ [{ id := qid, depth := size + 1, cq := cqid, base := base }] } })) ∧
      (qid ≠ 0 → (epQueue? u.ep.cqs qid).isSome = true → (∀ x ∈ u.ep.sqs, x.cq ≠ qid) →
        exec (.deleteIoCompletionQueue .endpoint cid qid) s = .next (State.respond .endpoint 0 cid .success { u with ep := { u.ep with
          cqs := u.ep.cqs.filter fun x => x.id != qid, heldCq := u.ep.heldCq.filter fun x => x.1 != qid } })) ∧
      (qid ≠ 0 → (epQueue? u.ep.sqs qid).isSome = true →
        let mine := (u.ce.cmds.filter fun c => c.cap.src == .endpoint && c.cap.sqid == qid).map (·.arrival)
        exec (.deleteIoSubmissionQueue .endpoint cid qid) s = .next (State.respond .endpoint 0 cid .success (State.settle
          (State.modEp (fun e => { e with sqs := e.sqs.filter fun x => x.id != qid })
            (State.epDrop (fun g => (g.use == 1 && g.sq == qid) || (g.use != 1 && mine.contains g.arrival))
              (mine.foldl (fun x a => x.dropCmd a) u)))))) ∧
      ((qid = 0 ∨ epQueue? u.ep.sqs qid = none) →
        exec (.deleteIoSubmissionQueue .endpoint cid qid) s = .next (u.respond .endpoint 0 cid .invalidQueueId))) ∧
    (s.ep.tags.find? (fun x => x.tag == tag) = some t →
      (t.use = 0 → good = true → exec (.epReadCompletion tag good d cap) s =
        .next ((s.epRetire tag).epData t d).epReads) ∧
      (t.use = 0 → good = false → exec (.epReadCompletion tag good d cap) s =
        .next ((s.epRetire tag).epFail t.arrival).epReads) ∧
      (t.use = 2 → exec (.epReadCompletion tag good d cap) s =
        .next (if good then (s.epRetire tag).epListIn t.arrival else (s.epRetire tag).epFail t.arrival).epReads) ∧
      (t.use = 1 → exec (.epReadCompletion tag good d cap) s =
        .next ((s.epRetire tag).epEntry t.sq (if good then cap else none)).epReads) ∧
      (t.use = 3 → exec (.epReadCompletion tag good d cap) s =
        .next ((s.epRetire tag).tick Obj.ep_bme_discards).epReads) ∧
      let w := State.epError true 14 0 (((s.epRetire tag).tick Obj.ep_cpl_timeouts).modEp fun e => { e with
        resetTimeouts := if e.resetting then e.resetTimeouts + 1 else e.resetTimeouts })
      (t.use = 0 ∨ t.use = 2 → exec (.epCompletionTimeout tag) s = .next (w.epFail t.arrival).epReads) ∧
      (t.use = 1 → exec (.epCompletionTimeout tag) s = .next (w.epTake t.sq).epReads) ∧
      (t.use = 3 → exec (.epCompletionTimeout tag) s = .next w.epReads)) ∧
    (s.ep.tags.find? (fun x => x.tag == tag) = none →
      exec (.epReadCompletion tag good d cap) s = .next s ∧ exec (.epCompletionTimeout tag) s = .next s)

/-- Interrupts, errors and resets of the endpoint: masks and power states keep conditions pending until they may be
signalled; a cleared bus master discards reads and fails their commands; errors are counted, logged and signalled, and
a fatal one of the link resets the endpoint; a reset ends once every tag has retired (R503, R509, R511, R512, R515 to
R520). -/
def Obligations.EndpointSignalsAndResets : Prop :=
  ∀ (s : State) (msix fn dis mem unc : Bool) (intms v cause e hdr mrrs : Nat) (regs : EpErrRegs) (link : Option (Nat × Nat)),
    (s.ep.resetting = false → s.ep.link = 2 →
      (s.ep.msix = true → exec (.interruptModeChange msix fn dis intms) s = .next (State.msixPending (State.intaUpdate
        { s with ep := { s.ep with msix := msix, fnMask := fn, intxDisable := dis, intms := intms } }))) ∧
      (s.ep.msix = false → exec (.interruptModeChange true fn dis intms) s = .next (State.msixPending (State.msixAgain
        (State.intaUpdate { s with ep := { s.ep with msix := true, fnMask := fn, intxDisable := dis, intms := intms } })))) ∧
      exec (.interruptUnmask none) s = .next (State.msixPending { s with ep := { s.ep with fnMask := false } }) ∧
      exec (.interruptUnmask (some v)) s = .next (State.msixPending { s with ep := { s.ep with
        vecMask := s.ep.vecMask.set v false } }) ∧
      exec .d3hotEntry s = .next (State.intaUpdate { s with ep := { s.ep with d3 := true } }) ∧
      exec (.busMasterSet mem mrrs) s = .next (State.epReads (State.msixPending (State.epRelease
        { s with ep := { s.ep with busMaster := true, memSpace := mem, mrrs := mrrs } }))) ∧
      ((s.ep.busMaster = false ∨ ∀ t ∈ s.ep.tags, t.use = 3) →
        exec (.busMasterClear mem) s = .next { s with ep := { s.ep with busMaster := false, memSpace := mem } }) ∧
      (s.ep.busMaster = true → (∃ t ∈ s.ep.tags, t.use ≠ 3) →
        let reads := s.ep.tags.filter fun t => t.use != 3
        let hit := (s.ce.cmds.filter fun c => c.cap.src == .endpoint && c.status.isNone && (c.needsHost ||
          (s.ep.tags ++ s.ep.tagWait).any fun t => t.use != 1 && t.use != 3 && t.arrival == c.arrival)).map (·.arrival)
        let u := s.modEp fun x => { x with
          busMaster := false, memSpace := mem, tags := x.tags.map fun t => { t with use := 3 }
          tagWait := ((reads.filter fun t => t.use == 1).map fun t => { t with tag := 0 }) ++ x.tagWait }
        exec (.busMasterClear mem) s = .next (State.record 4 0xD004 [(2, reads.length), (2, hit.length)]
          (hit.foldl (fun w a => w.epFail a) u)))) ∧
    (s.ep.d3 = true → exec .d0Entry s = .next (State.epReads (State.intaUpdate (State.msixPending (State.epRelease
      (s.ep.d3Int.foldl (fun t x => t.msixRaise x) (s.ep.d3Cq.foldl (fun t x => t.epComplete x.2)
        (s.modEp fun x => { x with d3 := false, d3Cq := [], d3Int := [] })))))))) ∧
    (s.ep.d3 = false → exec .d0Entry s = .next s) ∧
    (1 ≤ cause → cause ≤ 4 → exec (.functionLevelReset cause) s = .next (s.epReset cause)) ∧
    (s.md.mode ≠ .vigil → s.ep.link ≠ 0 → s.ep.resetting = false →
      6 ∈ (s.epReset cause).tt.closePend ∧ (s.epReset cause).ep.resetting = true ∧ (s.epReset cause).ep.link = 3 ∧
      ∀ t ∈ (s.epReset cause).ep.tags, t.use = 3) ∧
    (s.ep.link ≠ 0 → e ∈ (if unc then epUncorrectable else epCorrectable) → exec (.epError unc e hdr regs) s = .next (
      let u := State.epError unc e hdr { s with ep := { s.ep with
        aerMask := regs.mask, aerSeverity := regs.severity, corMask := regs.corMask, errEnables := regs.enables } }
      if unc = false then u else if e = 5 then u.epReset 3
      else if e = 4 ∨ e = 13 ∨ e = 18 then u.epReset 2 else if e = 22 then u.epReset 5 else u)) ∧
    (s.ep.resetting = true → s.ep.tags = [] →
      let u := State.modMd (fun m => { m with
          resets := modFirst (fun r => r.unit == 6) (fun r => { r with phase := .ready }) m.resets })
        (State.reopenUnit 6 (State.record 3 0xD003 [(1, s.ep.resetTimeouts), (4, (s.gh.now - s.ep.resetAt) / 1000000)]
          { s with ep :=
            { link := if s.ep.linkLost then 1 else 2, rate := if s.ep.linkLost then 0 else s.ep.rate
              width := if s.ep.linkLost then 0 else s.ep.width, errRecs := s.ep.errRecs
              subsystem := s.get Obj.ep_subsystem_id, sris := s.get Obj.ep_sris == 1 } }))
      (s.ep.linkLost = false → exec (.epResetDone link) s = .next u) ∧
      (s.ep.linkLost = true → exec (.epResetDone link) s = .next (u.epLinkUp link))) ∧
    ((s.ep.resetting = false ∨ s.ep.tags ≠ []) → exec (.epResetDone link) s = .next s)

/-! ### The lantern and the sisters -/

/-- The lantern: silence and refusals move a wing as R248 to R253 say; the warden's session opens with its challenge; a
drive that answers is judged, won or refused; one not won in time is lost, or stops a taker that needs a quorum; a
conflict on a write is met by defence, yielding or backing off (R233 to R235, R247 to R255, R490, R495). -/
def Obligations.TheLanternMoves : Prop :=
  ∀ (s : State) (w bay holder key claim lease session reason n queue cid : Nat) (keys : List Nat) (nonce dk sig body : List Byte)
    (m : FieldMsg) (t : Takeover) (d : DriveCmd) (good : Bool),
    (s.get Obj.si_silence_legs ≤ s.si.silence → exec (.holderSilence w) s = .next (s.holderFailed w 1)) ∧
    (s.si.silence < s.get Obj.si_silence_legs → exec (.holderSilence w) s = .next s) ∧
    (let u := s.fieldGot none (msgBytes (nonce ++ dk ++ sig) false)
     let shut := u.modSi fun i => { i with wardenSession := 0 }
     (u.si.wardenSession = 1 → u.credential 1 dk = none → exec (.challenge session nonce dk sig) s = .next shut) ∧
     (∀ e, u.si.wardenSession = 1 → u.credential 1 dk = some e →
        Config.mldsaVerify dk "KA2460 FIELD D" (sha3Bytes (u.helloBody ++ nonce ++ dk)) sig = false →
        exec (.challenge session nonce dk sig) s = .next shut) ∧
     (∀ e, u.si.wardenSession = 1 → u.credential 1 dk = some e →
        Config.mldsaVerify dk "KA2460 FIELD D" (sha3Bytes (u.helloBody ++ nonce ++ dk)) sig = true →
        exec (.challenge session nonce dk sig) s = .next (State.fieldSend none session 3 0 0
          (Config.mldsaSign "KA2460 FIELD C" (sha3Bytes (u.helloBody ++ nonce ++ dk ++ sig))) none
          (u.modSi fun i => { i with
            wardenSession := 2, wardenId := session
            wardenKs := sessionKey (u.credSecret e) (leBytes 32 u.si.wardenNonce ++ nonce) session }))) ∧
     (u.si.wardenSession ≠ 1 → exec (.challenge session nonce dk sig) s = .next u)) ∧
    (let u := s.fieldGot none (msgBytes body true)
     u.si.wardenSession = 2 → m.session = u.si.wardenId → m.counter ≠ 0 →
      m.tag = msgTag u.si.wardenKs 4 m.session m.counter m.request body →
      exec (.authOk m body) s = .next (u.si.wardenOut.foldl (fun v x => v.lanternOut x.1 x.2) (u.modSi fun i => { i with
        wardenSession := 3, wardenRx := m.counter, wardenOut := [] }))) ∧
    (let u := s.fieldGot none 80
     u.fromWarden m (lanternBody 4 w 0 claim 0 lease) = true →
     let v := ((u.wardenHeard w m.counter (u.wing w).lease).sawClaim w claim).record 4 0xB005 [(1, w), (8, claim), (4, lease)]
     ((u.wing w).request = none → u.holdsWing w = true → exec (.wardenRefuse m w claim lease) s = .next (v.yieldDue w claim 3)) ∧
     ((u.wing w).request = none → u.holdsWing w = false → exec (.wardenRefuse m w claim lease) s = .next v) ∧
     ((u.wing w).request.isSome = true → (u.wing w).takeover.isSome = true →
       exec (.wardenRefuse m w claim lease) s = .next (v.standBy w)) ∧
     ((u.wing w).request.isSome = true → (u.wing w).takeover = none →
       exec (.wardenRefuse m w claim lease) s = .next (v.modWingSt w fun y => { y with handback := 0 }))) ∧
    (let u := s.fieldGot none 80
     u.fromWarden m (lanternBody 4 w 0 claim 0 lease) = false → exec (.wardenRefuse m w claim lease) s = .next
      (if u.wardenTag m (lanternBody 4 w 0 claim 0 lease) = true then u.tick Obj.fw_counter_drops
       else u.tick Obj.fw_tag_failures)) ∧
    (let u := s.fieldGot none 80
     u.fromWarden m (lanternBody 3 w 0 claim 0 lease) = true →
     let v := (u.wardenHeard w m.counter lease).modWingSt w fun y => { y with leaseEnd := u.gh.now + lease * 1000 }
     ((u.wing w).request = some (reason, n) → exec (.wardenGrant m w claim lease) s = .next
       ((v.sawClaim w claim).takeNow w (if reason = 3 then 3 else 1) claim false)) ∧
     ((u.wing w).request = none → u.holdsWing w = true → exec (.wardenGrant m w claim lease) s = .next v) ∧
     ((u.wing w).request = none → u.holdsWing w = false → w = 1 → u.heldForPromotion = true → u.singleShelf = true →
       exec (.wardenGrant m w claim lease) s = .next ((v.sawClaim 1 claim).promote (some claim)))) ∧
    (let u := s.fieldGot none 80
     u.fromWarden m (lanternBody 3 w 0 claim 0 lease) = false → exec (.wardenGrant m w claim lease) s = .next
      (if u.wardenTag m (lanternBody 3 w 0 claim 0 lease) = true then u.tick Obj.fw_counter_drops
       else u.tick Obj.fw_tag_failures)) ∧
    ((s.wing w).request = some (reason, n) →
      exec (.lanternResend w) s = .next ((s.modWingSt w fun y => { y with request := some (reason, n + 1) }).sendLantern 2 w)) ∧
    ((s.wing w).request = none → (s.wing w).renewFirst = true →
      (s.renews = true → exec (.lanternResend w) s = .next (s.sendLantern 1 w)) ∧
      exec (.wardenTimeout w) s = .next (State.modWingSt w (fun y => { y with renewFirst := false })
        (s.modSi fun i => { i with wardenState := if s.hasWarden then 2 else 0 }))) ∧
    ((s.wing w).request = some (reason, n) →
      let u := State.record 5 0xB006 [(1, w), (4, n)] (State.modWingSt w (fun y => { y with request := none })
        (s.modSi fun i => { i with wardenState := if s.hasWarden then 2 else 0 }))
      (reason = 3 → exec (.wardenTimeout w) s = .next (u.takeNow w 3 (u.nextClaim w) false)) ∧
      (reason ≠ 3 → (s.get Obj.si_fallback_enable = 0 ∨ s.si.silent = false ∨ s.gh.now < s.si.sbSilentAt + 5000000) →
        exec (.wardenTimeout w) s = .next (if (s.wing w).takeover.isSome = true then u.standBy w else u)) ∧
      (reason ≠ 3 → s.get Obj.si_fallback_enable ≠ 0 → s.si.silent = true → s.si.sbSilentAt + 5000000 ≤ s.gh.now →
        exec (.wardenTimeout w) s = .next (u.modWingSt w fun y => { y with holdoff := true }))) ∧
    ((s.wing w).holdoff = true →
      let u := s.modWingSt w fun x => { x with holdoff := false }
      let v := (u.sawClaim (3 - w) key).yieldDue (3 - w) key 1
      (s.holdsWing (3 - w) = true → (s.wing (3 - w)).claim < key → exec (.holdoffExpiry w key) s = .next
        (if (v.wing w).takeover.isSome = true then v.standBy w else v)) ∧
      ((s.holdsWing (3 - w) = false ∨ key ≤ (s.wing (3 - w)).claim) →
        exec (.holdoffExpiry w key) s = .next (u.takeNow w 2 (u.nextClaim w) true))) ∧
    ((s.wing w).holdoff = false → exec (.holdoffExpiry w key) s = .next s) ∧
    (s.renews = true → exec .renew s = .next (s.heldWings.foldl (fun u x => u.sendLantern 1 x) s)) ∧
    (s.renews = false → s.heldForPromotion = true → s.hasWarden = true → s.si.wardenSession = 0 →
      exec .renew s = .next s.helloWarden) ∧
    (s.drives.cmds.find? (fun x => x.bay == bay && (x.use == .preempt w 1 || x.use == .preempt w 2)) = some d →
      (d.use = .preempt w 2 →
        (exec (.driveWon w bay holder keys false) s = .next (s.dropDriveCmd bay 0 d.cid)) ∧
        exec (.driveWon w bay holder keys true) s = .next ([1, 2, 3, 4, 5, 6, 7, 8, 9, 10, 11, 12].foldl
          (fun u q => u.ringNext bay q) (State.takeCheck w (State.modDrive bay (fun x => { x with acquired := addNew x.acquired w })
            (State.modTake w (fun x => { x with won := addNew x.won bay }) (s.dropDriveCmd bay 0 d.cid)))))) ∧
      (d.use = .preempt w 1 →
        let v := State.modTake w (fun x => { x with reports := assign x.reports bay holder })
          ((holder :: keys).foldl (fun u k => u.sawClaim w k) (s.dropDriveCmd bay 0 d.cid))
        exec (.driveWon w bay holder keys good) s = .next (
          if ((v.wing w).takeover.map (·.claim)).getD 0 = 0 then (v.musterDecide w).takeCheck w
          else (v.judgeDrive w bay holder).takeCheck w))) ∧
    (s.drives.cmds.find? (fun x => x.bay == bay && (x.use == .preempt w 1 || x.use == .preempt w 2)) = none →
      exec (.driveWon w bay holder keys good) s = .next s) ∧
    ((s.wing w).takeover = some t → t.claim ≠ 0 → t.stopped = false →
      (s.wing w).preemptStart + s.get Obj.si_preempt_timeout ≤ s.gh.now →
      (t.quorum = true → t.stands = false → exec (.preemptTimeout w) s = .next (State.record 7 0xB004
        [(1, w), (1, t.won.length), (1, 24 - (s.presentBays w).length)]
        ((s.dropPreempts w).modTake w fun x => { x with stopped := true }))) ∧
      ((t.quorum = false ∨ t.stands = true) → exec (.preemptTimeout w) s = .next (State.settle (State.takeCheck w
        ((t.asked.filter fun b => !t.won.contains b).foldl (fun u b => u.loseUnwon w b) (s.dropPreempts w)))))) ∧
    ((s.wing w).takeover = some t → t.stopped = true →
      let todo := (s.presentBays w).filter fun b => !t.won.contains b
      (t.claim < (s.wing w).seen → exec (.quorumRetry w) s = .next (s.backOff w (s.wing w).seen)) ∧
      ((s.wing w).seen ≤ t.claim → exec (.quorumRetry w) s = .next (todo.foldl (fun v b => v.askDrive w b)
        (State.modWingSt w (fun x => { x with preemptStart := 0 })
          (s.modTake w fun x => { x with stopped := false, asked := t.won ++ todo, reports := [], refused := [] }))))) ∧
    ((s.wing w).takeover = some t → t.stopped = false → exec (.quorumRetry w) s = .next s) ∧
    (s.driveCmd? bay queue cid = some d → queue ≠ 0 → d.op = .write → d.outstanding = true → d.toMove = 0 →
      let v := (d.beds.foldl (fun u h => u.freeOwned h) (s.dropDriveCmd bay queue cid)).sawClaim d.nsid key
      (s.holdsWing d.nsid = true → (s.wing d.nsid).claim < key → s.defends d.nsid = true →
        exec (.reservationConflict bay queue cid key) s = .next ((v.repeatWrite d).challenged d.nsid key).settle) ∧
      (s.holdsWing d.nsid = true → (s.wing d.nsid).claim < key → s.defends d.nsid = false →
        exec (.reservationConflict bay queue cid key) s = .next (v.challenged d.nsid key).settle) ∧
      (s.holdsWing d.nsid = true → key ≤ (s.wing d.nsid).claim → d.repeated = true →
        exec (.reservationConflict bay queue cid key) s = .next ((v.driveReset bay d.use).contain bay 6).settle) ∧
      (s.holdsWing d.nsid = true → key ≤ (s.wing d.nsid).claim → d.repeated = false →
        exec (.reservationConflict bay queue cid key) s = .next (v.repeatWrite d).settle) ∧
      (s.holdsWing d.nsid = false → (s.wing d.nsid).state = .taking → (s.wing d.nsid).claim < key →
        exec (.reservationConflict bay queue cid key) s = .next (v.backOff d.nsid key).settle))

/-- The sisters: a frame is judged by its CRC and claims; leg packets wait for their cells or draw a NAK, a copy path that
fails goes to the journal zones, resynchronisation and hand-back follow their steps, and the sideband gives claims,
mode and bay ownership (R89, R90, R237 to R246, R260, R261). -/
def Obligations.TheSistersCopyAndHandBack : Prop :=
  ∀ (s : State) (leg w cls lines : Nat) (frame pay hp : List Byte) (frames : List (List Byte)) (h : SisterHead)
    (p : LegPacket) (recs : List LedgerRec) (assoc : List (Nat × Bool × Nat)),
    (s.linkHears = true → frameOf frame = none →
      exec (.legPacketAck frame) s = .next (s.tick Obj.si_frames_discarded) ∧
      exec (.legPacketNak frame) s = .next (s.tick Obj.si_frames_discarded)) ∧
    (s.linkHears = true → frameOf frame = some (h, pay) → s.lowClaim h = true →
      exec (.legPacketAck frame) s = .next (s.tick Obj.si_frames_discarded) ∧
      exec (.legPacketNak frame) s = .next (s.tick Obj.si_frames_discarded)) ∧
    (s.linkHears = true → frameOf frame = some (h, pay) → s.lowClaim h = false →
      let u := s.frameClaims h
      (h.type = 5 → u.si.packets.find? (fun q => q.leg == beField pay 0 8 && q.frames.isEmpty) = some p →
        (p.digest = field pay 8 64 → exec (.legPacketAck frame) s = .next (State.settle (State.itemsHeld
          (p.recs.filter fun r => p.governs.contains r.wing) (State.tick Obj.si_packets_acked 0 (u.modSi fun i => { i with
            packets := i.packets.filter fun q => q.leg != beField pay 0 8, snapDigest := field pay 8 64, answered := true }))))) ∧
        (p.digest ≠ field pay 8 64 → exec (.legPacketAck frame) s = .next (State.copyFailed
          ((u.record 6 0xB008 [(8, beField pay 0 8), (1, 2)]).modSi fun i => { i with answered := true })))) ∧
      (h.type = 6 → (∃ q ∈ u.si.packets, q.leg = beField pay 0 8) → exec (.legPacketNak frame) s = .next (State.tick Obj.si_naks 0
        (State.copyFailed ((u.record 6 0xB008 [(8, beField pay 0 8), (1, beField pay 8 1)]).modSi fun i =>
          { i with answered := true })))) ∧
      (h.type = 6 → (∀ q ∈ u.si.packets, q.leg ≠ beField pay 0 8) → exec (.legPacketNak frame) s = .next u) ∧
      (h.type = 7 → u.sendsPackets = true → exec (.resyncReq frame) s = .next (u.modSi fun i => { i with
        snapshotDue := true, resyncStart := s.gh.now })) ∧
      (h.type = 8 → u.sendsPackets = true → u.si.snapshot = [] → (field pay 0 64 = u.si.digestTx ∨ field pay 0 64 = u.si.snapDigest) →
        exec (.resyncDone frame) s = .next (u.modSi fun i => { i with linkAgain := true })) ∧
      (h.type = 9 → beField pay 0 1 = w → (u.wing w).state = .standby → (u.wing w).takeover = none → u.sendsPackets = true →
        (w = 1 ∨ w = 2) →
        exec (.handback frame) s = .next (State.requestWing w 3 (State.modSi (fun i => { i with
          shadowSeals := i.shadowSeals.set (w - 1) (Nat.max (i.shadowSeals.getD (w - 1) 0) (beField pay 9 8)) })
          (State.modWingSt w (fun x => { x with handback := 3 }) (u.sawClaim w (beField pay 1 8))))))) ∧
    (s.linkHears = true →
      let kept := (frames.filterMap frameOf).filter fun x => !s.lowClaim x.1
      let first := kept.find? fun x => x.1.type == 1 && x.1.index == 0
      (first = none → exec (.legPacketRx frames) s = .next (s.count Obj.si_frames_discarded 0 frames.length)) ∧
      (first = some (h, hp) →
        let mine := kept.filter fun x => x.1.leg == h.leg && x.1.flags == h.flags
        let u := State.headHeard h hp (s.count Obj.si_frames_discarded 0 (frames.length - kept.length))
        (bit h.flags 0 = false → wholePacket hp mine = none →
          ((u.si.resync = 1 ∨ u.si.resync = 2) → exec (.legPacketRx frames) s = .next (u.nakLeg h.leg 1)) ∧
          (u.si.resync ≠ 1 → u.si.resync ≠ 2 → exec (.legPacketRx frames) s = .next (u.refuseLeg h.leg 1))) ∧
        (wholePacket hp mine = some (recs, assoc) →
          let q : LegPacket := { leg := h.leg, recs := recs, digest := field hp 64 64, framesLeft := mine.length, assoc := assoc
                                 snapshot := bit h.flags 0, head := hp.take 64 }
          (bit h.flags 0 = false → u.si.resync ≠ 1 → exec (.legPacketRx frames) s = .next (u.packetWaits q)) ∧
          (bit h.flags 0 = false → u.si.resync = 1 → exec (.legPacketRx frames) s = .next ((u.nakLeg h.leg 3).packetWaits q)) ∧
          (bit h.flags 0 = true → (u.si.resync = 1 ∨ u.si.resync = 2) →
            exec (.legPacketRx frames) s = .next ((u.modSi fun i => { i with resync := 2 }).packetWaits q))))) ∧
    ((∃ q ∈ s.si.packets, q.leg = leg ∧ q.frames = [] ∧ 8 ≤ q.age) →
      exec (.copyAckTimeout leg) s = .next (s.modSi fun i => { i with answered := true }).copyFailed) ∧
    ((∀ q ∈ s.si.packets, q.leg ≠ leg) → exec (.copyAckTimeout leg) s = .next s) ∧
    (s.linkHears = false → exec (.legPacketRx frames) s = .next s ∧ exec (.legPacketAck frame) s = .next s ∧
      exec (.legPacketNak frame) s = .next s ∧ exec (.resyncReq frame) s = .next s ∧ exec (.resyncDone frame) s = .next s ∧
      exec (.handback frame) s = .next s) ∧
    (s.takes (.siHandback cls w) →
      let u := s.startRun Obj.si_handback_result
      (u.paired = true → u.holdsWing 1 = true → u.holdsWing 2 = true → u.si.sbMode = 2 → u.si.silent = false →
        (u.wing 1).copyPath = .sisterLink → (u.wing 2).copyPath = .sisterLink → w = 2 - u.si.id →
        exec (.siHandback cls w) s = .next (u.modWingSt w fun y => { y with handback := 1 })) ∧
      ((u.paired = false ∨ u.holdsWing 1 = false ∨ u.holdsWing 2 = false ∨ u.si.sbMode ≠ 2 ∨ u.si.silent = true ∨
        (u.wing 1).copyPath ≠ .sisterLink ∨ (u.wing 2).copyPath ≠ .sisterLink ∨ w ≠ 2 - u.si.id) →
        exec (.siHandback cls w) s = .next (u.endRun Obj.si_handback_result (outcomeVal Oc.denied)))) ∧
    ((s.wing w).handback = 2 → s.holdsWing w = true → (s.wing w).seen ≤ (s.wing w).claim →
      exec (.handbackTimeout w) s = .next (((s.modWingSt w fun y => { y with handback := 0 }).setAna w .optimized).endRun
        Obj.si_handback_result (outcomeVal Oc.timeout))) ∧
    (s.gh.powered = true →
      (let u := (s.modSi fun x => { x with sbSince := x.sbSince + 1 }).ownerCheck lines
       let shown (v : Nat) : Nat := if u.holdsWing v = true then (u.wing v).claim else 0
       exec (.sisterSbTx lines) s = .next (u.emit (.sideband (sidebandFrame u.si.id (modeNo u.md.mode)
         (b2n u.si.bayOwner + 2 * b2n (u.holdsWing 1) + 4 * b2n (u.holdsWing 2)) (shown 1) (shown 2)
         (if u.si.bayDriving ∨ u.singleShelf then u.baysOn else lines))))) ∧
      (s.singleShelf = false → sidebandGood frame = false → exec (.sisterSbRx frame lines) s = .next s) ∧
      (s.singleShelf = false → sidebandGood frame = true → beField frame 0 1 = s.si.id → s.si.idConflict = false →
        exec (.sisterSbRx frame lines) s = .next (State.record 6 (0xB000 + s.freeVal 12) [(1, s.si.id)]
          (s.modSi fun x => { x with idConflict := true }).drawn)) ∧
      (s.singleShelf = false → sidebandGood frame = true → beField frame 0 1 ≠ s.si.id →
        (beField frame 1 1 = 2 ∨ beField frame 1 1 = 3 ∨ beField frame 1 1 = 4) →
        let u := State.otherClaim 2 (beField frame 12 8) (State.otherClaim 1 (beField frame 4 8) (s.modSi fun x => { x with
          idConflict := false, silent := false, sbSince := 0, sbOther := [beField frame 4 8, beField frame 12 8]
          sbMode := beField frame 1 1, sbOwner := bit (beField frame 2 1) 0
          ownerMs := if bit (beField frame 2 1) 0 && decide (s.bayClaim < Nat.max (beField frame 4 8) (beField frame 12 8)) then
            x.ownerMs + 1 else 0 }))
        exec (.sisterSbRx frame lines) s = .next (u.ownerCheck (if u.si.bayDriving then u.baysOn else lines))) ∧
      (s.si.silent = false → 5 ≤ s.si.sbSince → exec (.sidebandSilent lines) s = .next (State.ownerCheck lines (s.modSi fun x =>
        { x with silent := true, sbOther := [0, 0], sbOwner := false, sbSilentAt := s.gh.now, ownerMs := 0 }))) ∧
      ((s.si.silent = true ∨ s.si.sbSince < 5) → exec (.sidebandSilent lines) s = .next s)) ∧
    (s.si.bayOwner = true → 2 ≤ s.si.ownerMs → s.singleShelf = false → exec .bayOwnerRelease s = .next (s.modSi fun x => { x with
      bayOwner := false, bayDriving := false, bayFrozen := false, ownerMs := 0 })) ∧
    ((s.si.bayOwner = false ∨ s.si.ownerMs < 2 ∨ s.singleShelf = true) → exec .bayOwnerRelease s = .next s)

/-! ### The leg boundary -/

/-- A leg boundary: nothing before Muster starts the timetable; what is left of the leg fires first; in Holdup and in a
Muster on a held frequency it brings its basics alone; else the flow, the ledgers' work and what is done by the
second; a cause of drain moves Service and Standby to Drain and its end moves them back (R13, R29, R30, R64). -/
def Obligations.TheLegBoundaryBrings : Prop :=
  ∀ s : State,
    ((s.md.mode = .vigil ∨ s.clk.pll = .off ∨ (s.clk.stampArmed = false ∧ s.tt.legStarted = false)) →
      exec .legBoundary s = .next s) ∧
    (s.md.mode ≠ .vigil → s.clk.pll ≠ .off → (s.clk.stampArmed = true ∨ s.tt.legStarted = true) →
      let u := (s.toSlot 64).boundaryBasics
      ((u.md.mode = .holdup ∨ u.clk.musterHalted = true) → exec .legBoundary s = .next u) ∧
      (u.md.mode ≠ .holdup → u.clk.musterHalted = false →
        exec .legBoundary s = .next (u.boundaryFlow.drainLeg.ledgerWork.boundaryWork).secondLeg.shutdownLeg)) ∧
    (s.clockBoundary.clk.stamp = (if s.clk.stampArmed then 0 else s.clk.stamp + 512) ∧ s.clockBoundary.clk.stampArmed = false ∧
      (s.clockBoundary.clk.musterHalted = true ↔ s.md.mode = .muster ∧ s.clk.pll = .holdover)) ∧
    (s.roundBoundary.tt.slot = 0 ∧ s.roundBoundary.tt.fired = [] ∧ s.roundBoundary.tt.legStarted = true ∧
      (s.tt.legStarted = true → s.roundBoundary.tt.legCount = s.tt.legCount + 1)) ∧
    ((s.md.mode = .service ∨ s.md.mode = .standby) → s.md.causes ≠ [] → s.drainLeg =
      (State.saveCursors (State.setMode .drain 2 (s.modMd fun m => { m with before := m.mode }))).patrolStop) ∧
    (s.md.mode = .drain → s.md.causes = [] → s.drainLeg = State.activationOver
      (if (s.setMode s.md.before 3).ce.ps = 2 then (s.setMode s.md.before 3).setPs (s.setMode s.md.before 3).ce.psBefore 2
       else s.setMode s.md.before 3))

/-! ### The silent rule's runs, rows and places -/

/-- A write to an ACTION whose RESULT has ready 0 is ignored and counted, by a command of its own as by an item of a
message or a mailbox request; a run that has started shows ready 0 until it ends (R479). -/
def Obligations.RunningActionsIgnoreWrites : Prop :=
  ∀ (s : State) (cls ix sub res : Nat) (row : ObjRow) (c : Instr) (w : WriteTo) (slot value : List Byte) (bar2 : Bool),
    (writeOf s c = some w → w.res = some res → (s.result res).ready = false → exec c s = .next (s.violation w.cls)) ∧
    (objRow ix sub = some row → row.ty = .action → resultOf ix = some res → (s.result res).ready = false →
      s.writeItem bar2 cls ix sub slot = (0, s.violation cls)) ∧
    ((s.startRun res).result res).ready = false ∧
    ((s.result res).ready = false → ∀ other, other ≠ res → ((s.endRun other value).result res).ready = false)

/-- Reading a RESULT changes nothing, two reads with no run ending between them are alike, and while ready is 0 they show
the sequence and the value of the run before (R480). -/
def Obligations.ResultsReadWithoutEffect : Prop :=
  ∀ (s : State) (cls ix sub : Nat) (row : ObjRow), objRow ix sub = some row → row.ty = .result →
    row.stats = false ∧
    (s.readItem cls ix sub).2.results = s.results ∧
    (s.mayRead cls ix sub = true → s.readItem cls ix sub = (padTo 64 (s.result ix).bytes, s)) ∧
    (∀ t : State, t.results = s.results → t.mayRead cls ix sub = s.mayRead cls ix sub →
      (t.readItem cls ix sub).1 = (s.readItem cls ix sub).1) ∧
    ((s.startRun ix).result ix).bytes = 0#8 :: (s.result ix).bytes.drop 1

/-- A layout id is valid in the ranges of R138 only, and the creation of a namespace with another is refused. -/
def Obligations.InvalidLayoutsAreRefused : Prop :=
  (∀ l : BitVec 16, layValid l = true ↔ (4 ≤ layK l ∧ layK l ≤ 22 ∧ layStrip l ≤ 2 ∧ laySpare l ≤ 2 ∧
    (layK l = 22 → laySpare l = 0))) ∧
  ∀ (s : State) (cls value : Nat), s.takes (.ceNsCreate cls value) →
    layValid (BitVec.ofNat 16 (s.get Obj.ce_ns_new_layout_id)) = false →
    exec (.ceNsCreate cls value) s =
      .next ((s.startRun Obj.ce_ns_create_result).endRun Obj.ce_ns_create_result (outcomeVal Oc.denied))

/-- No two blocks of a namespace share a place: home places of different strips are different, a stripe's members lie on
different bays, spare slots lie apart from home strips, and every host block has its member and its block in a strip
(R144, R146, R147). -/
def Obligations.PlacesAreDistinct : Prop :=
  ∀ (n : Namespace), layValid n.layout = true →
    (∀ stripe m stripe' m' u u' : Nat, m < layW n.layout → m' < layW n.layout → u < layS n.layout → u' < layS n.layout →
      homeBay n.layout stripe m = homeBay n.layout stripe' m' → homeLba n stripe m + u = homeLba n stripe' m' + u' →
      stripe = stripe' ∧ m = m' ∧ u = u') ∧
    (∀ stripe m m' : Nat, m < layW n.layout → m' < layW n.layout → homeBay n.layout stripe m = homeBay n.layout stripe m' →
      m = m') ∧
    (∀ stripe m : Nat, homeBay n.layout stripe m < 24) ∧
    (∀ stripe m stripe' j u u' : Nat, m < layW n.layout → j < laySpare n.layout → u < layS n.layout → u' < layS n.layout →
      homeLba n stripe m + u ≠ spareLba n stripe' j + u') ∧
    (∀ lba : Nat, hostLba n.layout (stripeOf n.layout lba) (memberIx n.layout lba) (stripBlock n.layout lba) = lba ∧
      memberIx n.layout lba < layK n.layout ∧ stripBlock n.layout lba < layS n.layout)

/-- Double parity: a row whose P and Q are those of R134 gives back every data block from the k blocks that its erasure
case reads, whichever one or two members are erased; with three erased it has no case (R111, R133 to R136). -/
def Obligations.RowsAreReconstructed : Prop :=
  ∀ (k : Nat) (d : Nat → Block) (erased : List Nat), 4 ≤ k → k ≤ 22 → erased.Nodup → (∀ m ∈ erased, m < k + 2) →
    let data : List (Nat × Block) := (List.range k).map fun i => (i, d i)
    let row : List (Nat × Block) := data ++ [(k, parityP data), (k + 1, parityQ data)]
    let got : List (Nat × Block) := (rowReads k erased).map fun m => (m, memberOf row m)
    (erased.length ≤ 2 → (rowReads k erased).length = k ∧ (∀ m ∈ rowReads k erased, m ∉ erased) ∧
      ∀ i, i < k → memberOf (rowData k erased got) i = d i) ∧
    (3 ≤ erased.length → rowCase k erased = none)
end

