-- ==== Sys2Proof/Laws/State.lean ====
section
/-! SUPPORT. What each update of State leaves: one lemma per field and update, true by rfl. -/

set_option Elab.async false

namespace Sys2Proof.Machine

variable (s : State)

section
variable (f : List (Nat × Nat) → List (Nat × Nat))
@[simp] theorem State.modObjs_objs : (s.modObjs f).objs = f s.objs := rfl
@[simp] theorem State.modObjs_blobs : (s.modObjs f).blobs = s.blobs := rfl
@[simp] theorem State.modObjs_results : (s.modObjs f).results = s.results := rfl
@[simp] theorem State.modObjs_clk : (s.modObjs f).clk = s.clk := rfl
@[simp] theorem State.modObjs_tt : (s.modObjs f).tt = s.tt := rfl
@[simp] theorem State.modObjs_adm : (s.modObjs f).adm = s.adm := rfl
@[simp] theorem State.modObjs_ce : (s.modObjs f).ce = s.ce := rfl
@[simp] theorem State.modObjs_drives : (s.modObjs f).drives = s.drives := rfl
@[simp] theorem State.modObjs_places : (s.modObjs f).places = s.places := rfl
@[simp] theorem State.modObjs_pe : (s.modObjs f).pe = s.pe := rfl
@[simp] theorem State.modObjs_rb : (s.modObjs f).rb = s.rb := rfl
@[simp] theorem State.modObjs_lg : (s.modObjs f).lg = s.lg := rfl
@[simp] theorem State.modObjs_si : (s.modObjs f).si = s.si := rfl
@[simp] theorem State.modObjs_tr : (s.modObjs f).tr = s.tr := rfl
@[simp] theorem State.modObjs_pc : (s.modObjs f).pc = s.pc := rfl
@[simp] theorem State.modObjs_po : (s.modObjs f).po = s.po := rfl
@[simp] theorem State.modObjs_cy : (s.modObjs f).cy = s.cy := rfl
@[simp] theorem State.modObjs_gh : (s.modObjs f).gh = s.gh := rfl
@[simp] theorem State.modObjs_md : (s.modObjs f).md = s.md := rfl
@[simp] theorem State.modObjs_dict : (s.modObjs f).dict = s.dict := rfl
@[simp] theorem State.modObjs_ep : (s.modObjs f).ep = s.ep := rfl
@[simp] theorem State.modObjs_book : (s.modObjs f).book = s.book := rfl
@[simp] theorem State.modObjs_out : (s.modObjs f).out = s.out := rfl
@[simp] theorem State.modObjs_fresh : (s.modObjs f).fresh = s.fresh := rfl
@[simp] theorem State.modObjs_pending : (s.modObjs f).pending = s.pending := rfl
end

section
variable (f : List (Nat × List Byte) → List (Nat × List Byte))
@[simp] theorem State.modBlobs_objs : (s.modBlobs f).objs = s.objs := rfl
@[simp] theorem State.modBlobs_blobs : (s.modBlobs f).blobs = f s.blobs := rfl
@[simp] theorem State.modBlobs_results : (s.modBlobs f).results = s.results := rfl
@[simp] theorem State.modBlobs_clk : (s.modBlobs f).clk = s.clk := rfl
@[simp] theorem State.modBlobs_tt : (s.modBlobs f).tt = s.tt := rfl
@[simp] theorem State.modBlobs_adm : (s.modBlobs f).adm = s.adm := rfl
@[simp] theorem State.modBlobs_ce : (s.modBlobs f).ce = s.ce := rfl
@[simp] theorem State.modBlobs_drives : (s.modBlobs f).drives = s.drives := rfl
@[simp] theorem State.modBlobs_places : (s.modBlobs f).places = s.places := rfl
@[simp] theorem State.modBlobs_pe : (s.modBlobs f).pe = s.pe := rfl
@[simp] theorem State.modBlobs_rb : (s.modBlobs f).rb = s.rb := rfl
@[simp] theorem State.modBlobs_lg : (s.modBlobs f).lg = s.lg := rfl
@[simp] theorem State.modBlobs_si : (s.modBlobs f).si = s.si := rfl
@[simp] theorem State.modBlobs_tr : (s.modBlobs f).tr = s.tr := rfl
@[simp] theorem State.modBlobs_pc : (s.modBlobs f).pc = s.pc := rfl
@[simp] theorem State.modBlobs_po : (s.modBlobs f).po = s.po := rfl
@[simp] theorem State.modBlobs_cy : (s.modBlobs f).cy = s.cy := rfl
@[simp] theorem State.modBlobs_gh : (s.modBlobs f).gh = s.gh := rfl
@[simp] theorem State.modBlobs_md : (s.modBlobs f).md = s.md := rfl
@[simp] theorem State.modBlobs_dict : (s.modBlobs f).dict = s.dict := rfl
@[simp] theorem State.modBlobs_ep : (s.modBlobs f).ep = s.ep := rfl
@[simp] theorem State.modBlobs_book : (s.modBlobs f).book = s.book := rfl
@[simp] theorem State.modBlobs_out : (s.modBlobs f).out = s.out := rfl
@[simp] theorem State.modBlobs_fresh : (s.modBlobs f).fresh = s.fresh := rfl
@[simp] theorem State.modBlobs_pending : (s.modBlobs f).pending = s.pending := rfl
end

section
variable (f : List (Nat × Rslt) → List (Nat × Rslt))
@[simp] theorem State.modResults_objs : (s.modResults f).objs = s.objs := rfl
@[simp] theorem State.modResults_blobs : (s.modResults f).blobs = s.blobs := rfl
@[simp] theorem State.modResults_results : (s.modResults f).results = f s.results := rfl
@[simp] theorem State.modResults_clk : (s.modResults f).clk = s.clk := rfl
@[simp] theorem State.modResults_tt : (s.modResults f).tt = s.tt := rfl
@[simp] theorem State.modResults_adm : (s.modResults f).adm = s.adm := rfl
@[simp] theorem State.modResults_ce : (s.modResults f).ce = s.ce := rfl
@[simp] theorem State.modResults_drives : (s.modResults f).drives = s.drives := rfl
@[simp] theorem State.modResults_places : (s.modResults f).places = s.places := rfl
@[simp] theorem State.modResults_pe : (s.modResults f).pe = s.pe := rfl
@[simp] theorem State.modResults_rb : (s.modResults f).rb = s.rb := rfl
@[simp] theorem State.modResults_lg : (s.modResults f).lg = s.lg := rfl
@[simp] theorem State.modResults_si : (s.modResults f).si = s.si := rfl
@[simp] theorem State.modResults_tr : (s.modResults f).tr = s.tr := rfl
@[simp] theorem State.modResults_pc : (s.modResults f).pc = s.pc := rfl
@[simp] theorem State.modResults_po : (s.modResults f).po = s.po := rfl
@[simp] theorem State.modResults_cy : (s.modResults f).cy = s.cy := rfl
@[simp] theorem State.modResults_gh : (s.modResults f).gh = s.gh := rfl
@[simp] theorem State.modResults_md : (s.modResults f).md = s.md := rfl
@[simp] theorem State.modResults_dict : (s.modResults f).dict = s.dict := rfl
@[simp] theorem State.modResults_ep : (s.modResults f).ep = s.ep := rfl
@[simp] theorem State.modResults_book : (s.modResults f).book = s.book := rfl
@[simp] theorem State.modResults_out : (s.modResults f).out = s.out := rfl
@[simp] theorem State.modResults_fresh : (s.modResults f).fresh = s.fresh := rfl
@[simp] theorem State.modResults_pending : (s.modResults f).pending = s.pending := rfl
end

section
variable (f : ClockSt → ClockSt)
@[simp] theorem State.modClk_objs : (s.modClk f).objs = s.objs := rfl
@[simp] theorem State.modClk_blobs : (s.modClk f).blobs = s.blobs := rfl
@[simp] theorem State.modClk_results : (s.modClk f).results = s.results := rfl
@[simp] theorem State.modClk_clk : (s.modClk f).clk = f s.clk := rfl
@[simp] theorem State.modClk_tt : (s.modClk f).tt = s.tt := rfl
@[simp] theorem State.modClk_adm : (s.modClk f).adm = s.adm := rfl
@[simp] theorem State.modClk_ce : (s.modClk f).ce = s.ce := rfl
@[simp] theorem State.modClk_drives : (s.modClk f).drives = s.drives := rfl
@[simp] theorem State.modClk_places : (s.modClk f).places = s.places := rfl
@[simp] theorem State.modClk_pe : (s.modClk f).pe = s.pe := rfl
@[simp] theorem State.modClk_rb : (s.modClk f).rb = s.rb := rfl
@[simp] theorem State.modClk_lg : (s.modClk f).lg = s.lg := rfl
@[simp] theorem State.modClk_si : (s.modClk f).si = s.si := rfl
@[simp] theorem State.modClk_tr : (s.modClk f).tr = s.tr := rfl
@[simp] theorem State.modClk_pc : (s.modClk f).pc = s.pc := rfl
@[simp] theorem State.modClk_po : (s.modClk f).po = s.po := rfl
@[simp] theorem State.modClk_cy : (s.modClk f).cy = s.cy := rfl
@[simp] theorem State.modClk_gh : (s.modClk f).gh = s.gh := rfl
@[simp] theorem State.modClk_md : (s.modClk f).md = s.md := rfl
@[simp] theorem State.modClk_dict : (s.modClk f).dict = s.dict := rfl
@[simp] theorem State.modClk_ep : (s.modClk f).ep = s.ep := rfl
@[simp] theorem State.modClk_book : (s.modClk f).book = s.book := rfl
@[simp] theorem State.modClk_out : (s.modClk f).out = s.out := rfl
@[simp] theorem State.modClk_fresh : (s.modClk f).fresh = s.fresh := rfl
@[simp] theorem State.modClk_pending : (s.modClk f).pending = s.pending := rfl
end

section
variable (f : TtSt → TtSt)
@[simp] theorem State.modTt_objs : (s.modTt f).objs = s.objs := rfl
@[simp] theorem State.modTt_blobs : (s.modTt f).blobs = s.blobs := rfl
@[simp] theorem State.modTt_results : (s.modTt f).results = s.results := rfl
@[simp] theorem State.modTt_clk : (s.modTt f).clk = s.clk := rfl
@[simp] theorem State.modTt_tt : (s.modTt f).tt = f s.tt := rfl
@[simp] theorem State.modTt_adm : (s.modTt f).adm = s.adm := rfl
@[simp] theorem State.modTt_ce : (s.modTt f).ce = s.ce := rfl
@[simp] theorem State.modTt_drives : (s.modTt f).drives = s.drives := rfl
@[simp] theorem State.modTt_places : (s.modTt f).places = s.places := rfl
@[simp] theorem State.modTt_pe : (s.modTt f).pe = s.pe := rfl
@[simp] theorem State.modTt_rb : (s.modTt f).rb = s.rb := rfl
@[simp] theorem State.modTt_lg : (s.modTt f).lg = s.lg := rfl
@[simp] theorem State.modTt_si : (s.modTt f).si = s.si := rfl
@[simp] theorem State.modTt_tr : (s.modTt f).tr = s.tr := rfl
@[simp] theorem State.modTt_pc : (s.modTt f).pc = s.pc := rfl
@[simp] theorem State.modTt_po : (s.modTt f).po = s.po := rfl
@[simp] theorem State.modTt_cy : (s.modTt f).cy = s.cy := rfl
@[simp] theorem State.modTt_gh : (s.modTt f).gh = s.gh := rfl
@[simp] theorem State.modTt_md : (s.modTt f).md = s.md := rfl
@[simp] theorem State.modTt_dict : (s.modTt f).dict = s.dict := rfl
@[simp] theorem State.modTt_ep : (s.modTt f).ep = s.ep := rfl
@[simp] theorem State.modTt_book : (s.modTt f).book = s.book := rfl
@[simp] theorem State.modTt_out : (s.modTt f).out = s.out := rfl
@[simp] theorem State.modTt_fresh : (s.modTt f).fresh = s.fresh := rfl
@[simp] theorem State.modTt_pending : (s.modTt f).pending = s.pending := rfl
end

section
variable (f : AdmSt → AdmSt)
@[simp] theorem State.modAdm_objs : (s.modAdm f).objs = s.objs := rfl
@[simp] theorem State.modAdm_blobs : (s.modAdm f).blobs = s.blobs := rfl
@[simp] theorem State.modAdm_results : (s.modAdm f).results = s.results := rfl
@[simp] theorem State.modAdm_clk : (s.modAdm f).clk = s.clk := rfl
@[simp] theorem State.modAdm_tt : (s.modAdm f).tt = s.tt := rfl
@[simp] theorem State.modAdm_adm : (s.modAdm f).adm = f s.adm := rfl
@[simp] theorem State.modAdm_ce : (s.modAdm f).ce = s.ce := rfl
@[simp] theorem State.modAdm_drives : (s.modAdm f).drives = s.drives := rfl
@[simp] theorem State.modAdm_places : (s.modAdm f).places = s.places := rfl
@[simp] theorem State.modAdm_pe : (s.modAdm f).pe = s.pe := rfl
@[simp] theorem State.modAdm_rb : (s.modAdm f).rb = s.rb := rfl
@[simp] theorem State.modAdm_lg : (s.modAdm f).lg = s.lg := rfl
@[simp] theorem State.modAdm_si : (s.modAdm f).si = s.si := rfl
@[simp] theorem State.modAdm_tr : (s.modAdm f).tr = s.tr := rfl
@[simp] theorem State.modAdm_pc : (s.modAdm f).pc = s.pc := rfl
@[simp] theorem State.modAdm_po : (s.modAdm f).po = s.po := rfl
@[simp] theorem State.modAdm_cy : (s.modAdm f).cy = s.cy := rfl
@[simp] theorem State.modAdm_gh : (s.modAdm f).gh = s.gh := rfl
@[simp] theorem State.modAdm_md : (s.modAdm f).md = s.md := rfl
@[simp] theorem State.modAdm_dict : (s.modAdm f).dict = s.dict := rfl
@[simp] theorem State.modAdm_ep : (s.modAdm f).ep = s.ep := rfl
@[simp] theorem State.modAdm_book : (s.modAdm f).book = s.book := rfl
@[simp] theorem State.modAdm_out : (s.modAdm f).out = s.out := rfl
@[simp] theorem State.modAdm_fresh : (s.modAdm f).fresh = s.fresh := rfl
@[simp] theorem State.modAdm_pending : (s.modAdm f).pending = s.pending := rfl
end

section
variable (f : CeSt → CeSt)
@[simp] theorem State.modCe_objs : (s.modCe f).objs = s.objs := rfl
@[simp] theorem State.modCe_blobs : (s.modCe f).blobs = s.blobs := rfl
@[simp] theorem State.modCe_results : (s.modCe f).results = s.results := rfl
@[simp] theorem State.modCe_clk : (s.modCe f).clk = s.clk := rfl
@[simp] theorem State.modCe_tt : (s.modCe f).tt = s.tt := rfl
@[simp] theorem State.modCe_adm : (s.modCe f).adm = s.adm := rfl
@[simp] theorem State.modCe_ce : (s.modCe f).ce = f s.ce := rfl
@[simp] theorem State.modCe_drives : (s.modCe f).drives = s.drives := rfl
@[simp] theorem State.modCe_places : (s.modCe f).places = s.places := rfl
@[simp] theorem State.modCe_pe : (s.modCe f).pe = s.pe := rfl
@[simp] theorem State.modCe_rb : (s.modCe f).rb = s.rb := rfl
@[simp] theorem State.modCe_lg : (s.modCe f).lg = s.lg := rfl
@[simp] theorem State.modCe_si : (s.modCe f).si = s.si := rfl
@[simp] theorem State.modCe_tr : (s.modCe f).tr = s.tr := rfl
@[simp] theorem State.modCe_pc : (s.modCe f).pc = s.pc := rfl
@[simp] theorem State.modCe_po : (s.modCe f).po = s.po := rfl
@[simp] theorem State.modCe_cy : (s.modCe f).cy = s.cy := rfl
@[simp] theorem State.modCe_gh : (s.modCe f).gh = s.gh := rfl
@[simp] theorem State.modCe_md : (s.modCe f).md = s.md := rfl
@[simp] theorem State.modCe_dict : (s.modCe f).dict = s.dict := rfl
@[simp] theorem State.modCe_ep : (s.modCe f).ep = s.ep := rfl
@[simp] theorem State.modCe_book : (s.modCe f).book = s.book := rfl
@[simp] theorem State.modCe_out : (s.modCe f).out = s.out := rfl
@[simp] theorem State.modCe_fresh : (s.modCe f).fresh = s.fresh := rfl
@[simp] theorem State.modCe_pending : (s.modCe f).pending = s.pending := rfl
end

section
variable (f : DriveSt → DriveSt)
@[simp] theorem State.modDrives_objs : (s.modDrives f).objs = s.objs := rfl
@[simp] theorem State.modDrives_blobs : (s.modDrives f).blobs = s.blobs := rfl
@[simp] theorem State.modDrives_results : (s.modDrives f).results = s.results := rfl
@[simp] theorem State.modDrives_clk : (s.modDrives f).clk = s.clk := rfl
@[simp] theorem State.modDrives_tt : (s.modDrives f).tt = s.tt := rfl
@[simp] theorem State.modDrives_adm : (s.modDrives f).adm = s.adm := rfl
@[simp] theorem State.modDrives_ce : (s.modDrives f).ce = s.ce := rfl
@[simp] theorem State.modDrives_drives : (s.modDrives f).drives = f s.drives := rfl
@[simp] theorem State.modDrives_places : (s.modDrives f).places = s.places := rfl
@[simp] theorem State.modDrives_pe : (s.modDrives f).pe = s.pe := rfl
@[simp] theorem State.modDrives_rb : (s.modDrives f).rb = s.rb := rfl
@[simp] theorem State.modDrives_lg : (s.modDrives f).lg = s.lg := rfl
@[simp] theorem State.modDrives_si : (s.modDrives f).si = s.si := rfl
@[simp] theorem State.modDrives_tr : (s.modDrives f).tr = s.tr := rfl
@[simp] theorem State.modDrives_pc : (s.modDrives f).pc = s.pc := rfl
@[simp] theorem State.modDrives_po : (s.modDrives f).po = s.po := rfl
@[simp] theorem State.modDrives_cy : (s.modDrives f).cy = s.cy := rfl
@[simp] theorem State.modDrives_gh : (s.modDrives f).gh = s.gh := rfl
@[simp] theorem State.modDrives_md : (s.modDrives f).md = s.md := rfl
@[simp] theorem State.modDrives_dict : (s.modDrives f).dict = s.dict := rfl
@[simp] theorem State.modDrives_ep : (s.modDrives f).ep = s.ep := rfl
@[simp] theorem State.modDrives_book : (s.modDrives f).book = s.book := rfl
@[simp] theorem State.modDrives_out : (s.modDrives f).out = s.out := rfl
@[simp] theorem State.modDrives_fresh : (s.modDrives f).fresh = s.fresh := rfl
@[simp] theorem State.modDrives_pending : (s.modDrives f).pending = s.pending := rfl
end

section
variable (f : List Placement → List Placement)
@[simp] theorem State.modPlaces_objs : (s.modPlaces f).objs = s.objs := rfl
@[simp] theorem State.modPlaces_blobs : (s.modPlaces f).blobs = s.blobs := rfl
@[simp] theorem State.modPlaces_results : (s.modPlaces f).results = s.results := rfl
@[simp] theorem State.modPlaces_clk : (s.modPlaces f).clk = s.clk := rfl
@[simp] theorem State.modPlaces_tt : (s.modPlaces f).tt = s.tt := rfl
@[simp] theorem State.modPlaces_adm : (s.modPlaces f).adm = s.adm := rfl
@[simp] theorem State.modPlaces_ce : (s.modPlaces f).ce = s.ce := rfl
@[simp] theorem State.modPlaces_drives : (s.modPlaces f).drives = s.drives := rfl
@[simp] theorem State.modPlaces_places : (s.modPlaces f).places = f s.places := rfl
@[simp] theorem State.modPlaces_pe : (s.modPlaces f).pe = s.pe := rfl
@[simp] theorem State.modPlaces_rb : (s.modPlaces f).rb = s.rb := rfl
@[simp] theorem State.modPlaces_lg : (s.modPlaces f).lg = s.lg := rfl
@[simp] theorem State.modPlaces_si : (s.modPlaces f).si = s.si := rfl
@[simp] theorem State.modPlaces_tr : (s.modPlaces f).tr = s.tr := rfl
@[simp] theorem State.modPlaces_pc : (s.modPlaces f).pc = s.pc := rfl
@[simp] theorem State.modPlaces_po : (s.modPlaces f).po = s.po := rfl
@[simp] theorem State.modPlaces_cy : (s.modPlaces f).cy = s.cy := rfl
@[simp] theorem State.modPlaces_gh : (s.modPlaces f).gh = s.gh := rfl
@[simp] theorem State.modPlaces_md : (s.modPlaces f).md = s.md := rfl
@[simp] theorem State.modPlaces_dict : (s.modPlaces f).dict = s.dict := rfl
@[simp] theorem State.modPlaces_ep : (s.modPlaces f).ep = s.ep := rfl
@[simp] theorem State.modPlaces_book : (s.modPlaces f).book = s.book := rfl
@[simp] theorem State.modPlaces_out : (s.modPlaces f).out = s.out := rfl
@[simp] theorem State.modPlaces_fresh : (s.modPlaces f).fresh = s.fresh := rfl
@[simp] theorem State.modPlaces_pending : (s.modPlaces f).pending = s.pending := rfl
end

section
variable (f : ParitySt → ParitySt)
@[simp] theorem State.modPe_objs : (s.modPe f).objs = s.objs := rfl
@[simp] theorem State.modPe_blobs : (s.modPe f).blobs = s.blobs := rfl
@[simp] theorem State.modPe_results : (s.modPe f).results = s.results := rfl
@[simp] theorem State.modPe_clk : (s.modPe f).clk = s.clk := rfl
@[simp] theorem State.modPe_tt : (s.modPe f).tt = s.tt := rfl
@[simp] theorem State.modPe_adm : (s.modPe f).adm = s.adm := rfl
@[simp] theorem State.modPe_ce : (s.modPe f).ce = s.ce := rfl
@[simp] theorem State.modPe_drives : (s.modPe f).drives = s.drives := rfl
@[simp] theorem State.modPe_places : (s.modPe f).places = s.places := rfl
@[simp] theorem State.modPe_pe : (s.modPe f).pe = f s.pe := rfl
@[simp] theorem State.modPe_rb : (s.modPe f).rb = s.rb := rfl
@[simp] theorem State.modPe_lg : (s.modPe f).lg = s.lg := rfl
@[simp] theorem State.modPe_si : (s.modPe f).si = s.si := rfl
@[simp] theorem State.modPe_tr : (s.modPe f).tr = s.tr := rfl
@[simp] theorem State.modPe_pc : (s.modPe f).pc = s.pc := rfl
@[simp] theorem State.modPe_po : (s.modPe f).po = s.po := rfl
@[simp] theorem State.modPe_cy : (s.modPe f).cy = s.cy := rfl
@[simp] theorem State.modPe_gh : (s.modPe f).gh = s.gh := rfl
@[simp] theorem State.modPe_md : (s.modPe f).md = s.md := rfl
@[simp] theorem State.modPe_dict : (s.modPe f).dict = s.dict := rfl
@[simp] theorem State.modPe_ep : (s.modPe f).ep = s.ep := rfl
@[simp] theorem State.modPe_book : (s.modPe f).book = s.book := rfl
@[simp] theorem State.modPe_out : (s.modPe f).out = s.out := rfl
@[simp] theorem State.modPe_fresh : (s.modPe f).fresh = s.fresh := rfl
@[simp] theorem State.modPe_pending : (s.modPe f).pending = s.pending := rfl
end

section
variable (f : RebuildSt → RebuildSt)
@[simp] theorem State.modRb_objs : (s.modRb f).objs = s.objs := rfl
@[simp] theorem State.modRb_blobs : (s.modRb f).blobs = s.blobs := rfl
@[simp] theorem State.modRb_results : (s.modRb f).results = s.results := rfl
@[simp] theorem State.modRb_clk : (s.modRb f).clk = s.clk := rfl
@[simp] theorem State.modRb_tt : (s.modRb f).tt = s.tt := rfl
@[simp] theorem State.modRb_adm : (s.modRb f).adm = s.adm := rfl
@[simp] theorem State.modRb_ce : (s.modRb f).ce = s.ce := rfl
@[simp] theorem State.modRb_drives : (s.modRb f).drives = s.drives := rfl
@[simp] theorem State.modRb_places : (s.modRb f).places = s.places := rfl
@[simp] theorem State.modRb_pe : (s.modRb f).pe = s.pe := rfl
@[simp] theorem State.modRb_rb : (s.modRb f).rb = f s.rb := rfl
@[simp] theorem State.modRb_lg : (s.modRb f).lg = s.lg := rfl
@[simp] theorem State.modRb_si : (s.modRb f).si = s.si := rfl
@[simp] theorem State.modRb_tr : (s.modRb f).tr = s.tr := rfl
@[simp] theorem State.modRb_pc : (s.modRb f).pc = s.pc := rfl
@[simp] theorem State.modRb_po : (s.modRb f).po = s.po := rfl
@[simp] theorem State.modRb_cy : (s.modRb f).cy = s.cy := rfl
@[simp] theorem State.modRb_gh : (s.modRb f).gh = s.gh := rfl
@[simp] theorem State.modRb_md : (s.modRb f).md = s.md := rfl
@[simp] theorem State.modRb_dict : (s.modRb f).dict = s.dict := rfl
@[simp] theorem State.modRb_ep : (s.modRb f).ep = s.ep := rfl
@[simp] theorem State.modRb_book : (s.modRb f).book = s.book := rfl
@[simp] theorem State.modRb_out : (s.modRb f).out = s.out := rfl
@[simp] theorem State.modRb_fresh : (s.modRb f).fresh = s.fresh := rfl
@[simp] theorem State.modRb_pending : (s.modRb f).pending = s.pending := rfl
end

section
variable (f : LedgerSt → LedgerSt)
@[simp] theorem State.modLg_objs : (s.modLg f).objs = s.objs := rfl
@[simp] theorem State.modLg_blobs : (s.modLg f).blobs = s.blobs := rfl
@[simp] theorem State.modLg_results : (s.modLg f).results = s.results := rfl
@[simp] theorem State.modLg_clk : (s.modLg f).clk = s.clk := rfl
@[simp] theorem State.modLg_tt : (s.modLg f).tt = s.tt := rfl
@[simp] theorem State.modLg_adm : (s.modLg f).adm = s.adm := rfl
@[simp] theorem State.modLg_ce : (s.modLg f).ce = s.ce := rfl
@[simp] theorem State.modLg_drives : (s.modLg f).drives = s.drives := rfl
@[simp] theorem State.modLg_places : (s.modLg f).places = s.places := rfl
@[simp] theorem State.modLg_pe : (s.modLg f).pe = s.pe := rfl
@[simp] theorem State.modLg_rb : (s.modLg f).rb = s.rb := rfl
@[simp] theorem State.modLg_lg : (s.modLg f).lg = f s.lg := rfl
@[simp] theorem State.modLg_si : (s.modLg f).si = s.si := rfl
@[simp] theorem State.modLg_tr : (s.modLg f).tr = s.tr := rfl
@[simp] theorem State.modLg_pc : (s.modLg f).pc = s.pc := rfl
@[simp] theorem State.modLg_po : (s.modLg f).po = s.po := rfl
@[simp] theorem State.modLg_cy : (s.modLg f).cy = s.cy := rfl
@[simp] theorem State.modLg_gh : (s.modLg f).gh = s.gh := rfl
@[simp] theorem State.modLg_md : (s.modLg f).md = s.md := rfl
@[simp] theorem State.modLg_dict : (s.modLg f).dict = s.dict := rfl
@[simp] theorem State.modLg_ep : (s.modLg f).ep = s.ep := rfl
@[simp] theorem State.modLg_book : (s.modLg f).book = s.book := rfl
@[simp] theorem State.modLg_out : (s.modLg f).out = s.out := rfl
@[simp] theorem State.modLg_fresh : (s.modLg f).fresh = s.fresh := rfl
@[simp] theorem State.modLg_pending : (s.modLg f).pending = s.pending := rfl
end

section
variable (f : SisterSt → SisterSt)
@[simp] theorem State.modSi_objs : (s.modSi f).objs = s.objs := rfl
@[simp] theorem State.modSi_blobs : (s.modSi f).blobs = s.blobs := rfl
@[simp] theorem State.modSi_results : (s.modSi f).results = s.results := rfl
@[simp] theorem State.modSi_clk : (s.modSi f).clk = s.clk := rfl
@[simp] theorem State.modSi_tt : (s.modSi f).tt = s.tt := rfl
@[simp] theorem State.modSi_adm : (s.modSi f).adm = s.adm := rfl
@[simp] theorem State.modSi_ce : (s.modSi f).ce = s.ce := rfl
@[simp] theorem State.modSi_drives : (s.modSi f).drives = s.drives := rfl
@[simp] theorem State.modSi_places : (s.modSi f).places = s.places := rfl
@[simp] theorem State.modSi_pe : (s.modSi f).pe = s.pe := rfl
@[simp] theorem State.modSi_rb : (s.modSi f).rb = s.rb := rfl
@[simp] theorem State.modSi_lg : (s.modSi f).lg = s.lg := rfl
@[simp] theorem State.modSi_si : (s.modSi f).si = f s.si := rfl
@[simp] theorem State.modSi_tr : (s.modSi f).tr = s.tr := rfl
@[simp] theorem State.modSi_pc : (s.modSi f).pc = s.pc := rfl
@[simp] theorem State.modSi_po : (s.modSi f).po = s.po := rfl
@[simp] theorem State.modSi_cy : (s.modSi f).cy = s.cy := rfl
@[simp] theorem State.modSi_gh : (s.modSi f).gh = s.gh := rfl
@[simp] theorem State.modSi_md : (s.modSi f).md = s.md := rfl
@[simp] theorem State.modSi_dict : (s.modSi f).dict = s.dict := rfl
@[simp] theorem State.modSi_ep : (s.modSi f).ep = s.ep := rfl
@[simp] theorem State.modSi_book : (s.modSi f).book = s.book := rfl
@[simp] theorem State.modSi_out : (s.modSi f).out = s.out := rfl
@[simp] theorem State.modSi_fresh : (s.modSi f).fresh = s.fresh := rfl
@[simp] theorem State.modSi_pending : (s.modSi f).pending = s.pending := rfl
end

section
variable (f : TransportSt → TransportSt)
@[simp] theorem State.modTr_objs : (s.modTr f).objs = s.objs := rfl
@[simp] theorem State.modTr_blobs : (s.modTr f).blobs = s.blobs := rfl
@[simp] theorem State.modTr_results : (s.modTr f).results = s.results := rfl
@[simp] theorem State.modTr_clk : (s.modTr f).clk = s.clk := rfl
@[simp] theorem State.modTr_tt : (s.modTr f).tt = s.tt := rfl
@[simp] theorem State.modTr_adm : (s.modTr f).adm = s.adm := rfl
@[simp] theorem State.modTr_ce : (s.modTr f).ce = s.ce := rfl
@[simp] theorem State.modTr_drives : (s.modTr f).drives = s.drives := rfl
@[simp] theorem State.modTr_places : (s.modTr f).places = s.places := rfl
@[simp] theorem State.modTr_pe : (s.modTr f).pe = s.pe := rfl
@[simp] theorem State.modTr_rb : (s.modTr f).rb = s.rb := rfl
@[simp] theorem State.modTr_lg : (s.modTr f).lg = s.lg := rfl
@[simp] theorem State.modTr_si : (s.modTr f).si = s.si := rfl
@[simp] theorem State.modTr_tr : (s.modTr f).tr = f s.tr := rfl
@[simp] theorem State.modTr_pc : (s.modTr f).pc = s.pc := rfl
@[simp] theorem State.modTr_po : (s.modTr f).po = s.po := rfl
@[simp] theorem State.modTr_cy : (s.modTr f).cy = s.cy := rfl
@[simp] theorem State.modTr_gh : (s.modTr f).gh = s.gh := rfl
@[simp] theorem State.modTr_md : (s.modTr f).md = s.md := rfl
@[simp] theorem State.modTr_dict : (s.modTr f).dict = s.dict := rfl
@[simp] theorem State.modTr_ep : (s.modTr f).ep = s.ep := rfl
@[simp] theorem State.modTr_book : (s.modTr f).book = s.book := rfl
@[simp] theorem State.modTr_out : (s.modTr f).out = s.out := rfl
@[simp] theorem State.modTr_fresh : (s.modTr f).fresh = s.fresh := rfl
@[simp] theorem State.modTr_pending : (s.modTr f).pending = s.pending := rfl
end

section
variable (f : PortSt → PortSt)
@[simp] theorem State.modPc_objs : (s.modPc f).objs = s.objs := rfl
@[simp] theorem State.modPc_blobs : (s.modPc f).blobs = s.blobs := rfl
@[simp] theorem State.modPc_results : (s.modPc f).results = s.results := rfl
@[simp] theorem State.modPc_clk : (s.modPc f).clk = s.clk := rfl
@[simp] theorem State.modPc_tt : (s.modPc f).tt = s.tt := rfl
@[simp] theorem State.modPc_adm : (s.modPc f).adm = s.adm := rfl
@[simp] theorem State.modPc_ce : (s.modPc f).ce = s.ce := rfl
@[simp] theorem State.modPc_drives : (s.modPc f).drives = s.drives := rfl
@[simp] theorem State.modPc_places : (s.modPc f).places = s.places := rfl
@[simp] theorem State.modPc_pe : (s.modPc f).pe = s.pe := rfl
@[simp] theorem State.modPc_rb : (s.modPc f).rb = s.rb := rfl
@[simp] theorem State.modPc_lg : (s.modPc f).lg = s.lg := rfl
@[simp] theorem State.modPc_si : (s.modPc f).si = s.si := rfl
@[simp] theorem State.modPc_tr : (s.modPc f).tr = s.tr := rfl
@[simp] theorem State.modPc_pc : (s.modPc f).pc = f s.pc := rfl
@[simp] theorem State.modPc_po : (s.modPc f).po = s.po := rfl
@[simp] theorem State.modPc_cy : (s.modPc f).cy = s.cy := rfl
@[simp] theorem State.modPc_gh : (s.modPc f).gh = s.gh := rfl
@[simp] theorem State.modPc_md : (s.modPc f).md = s.md := rfl
@[simp] theorem State.modPc_dict : (s.modPc f).dict = s.dict := rfl
@[simp] theorem State.modPc_ep : (s.modPc f).ep = s.ep := rfl
@[simp] theorem State.modPc_book : (s.modPc f).book = s.book := rfl
@[simp] theorem State.modPc_out : (s.modPc f).out = s.out := rfl
@[simp] theorem State.modPc_fresh : (s.modPc f).fresh = s.fresh := rfl
@[simp] theorem State.modPc_pending : (s.modPc f).pending = s.pending := rfl
end

section
variable (f : PorterSt → PorterSt)
@[simp] theorem State.modPo_objs : (s.modPo f).objs = s.objs := rfl
@[simp] theorem State.modPo_blobs : (s.modPo f).blobs = s.blobs := rfl
@[simp] theorem State.modPo_results : (s.modPo f).results = s.results := rfl
@[simp] theorem State.modPo_clk : (s.modPo f).clk = s.clk := rfl
@[simp] theorem State.modPo_tt : (s.modPo f).tt = s.tt := rfl
@[simp] theorem State.modPo_adm : (s.modPo f).adm = s.adm := rfl
@[simp] theorem State.modPo_ce : (s.modPo f).ce = s.ce := rfl
@[simp] theorem State.modPo_drives : (s.modPo f).drives = s.drives := rfl
@[simp] theorem State.modPo_places : (s.modPo f).places = s.places := rfl
@[simp] theorem State.modPo_pe : (s.modPo f).pe = s.pe := rfl
@[simp] theorem State.modPo_rb : (s.modPo f).rb = s.rb := rfl
@[simp] theorem State.modPo_lg : (s.modPo f).lg = s.lg := rfl
@[simp] theorem State.modPo_si : (s.modPo f).si = s.si := rfl
@[simp] theorem State.modPo_tr : (s.modPo f).tr = s.tr := rfl
@[simp] theorem State.modPo_pc : (s.modPo f).pc = s.pc := rfl
@[simp] theorem State.modPo_po : (s.modPo f).po = f s.po := rfl
@[simp] theorem State.modPo_cy : (s.modPo f).cy = s.cy := rfl
@[simp] theorem State.modPo_gh : (s.modPo f).gh = s.gh := rfl
@[simp] theorem State.modPo_md : (s.modPo f).md = s.md := rfl
@[simp] theorem State.modPo_dict : (s.modPo f).dict = s.dict := rfl
@[simp] theorem State.modPo_ep : (s.modPo f).ep = s.ep := rfl
@[simp] theorem State.modPo_book : (s.modPo f).book = s.book := rfl
@[simp] theorem State.modPo_out : (s.modPo f).out = s.out := rfl
@[simp] theorem State.modPo_fresh : (s.modPo f).fresh = s.fresh := rfl
@[simp] theorem State.modPo_pending : (s.modPo f).pending = s.pending := rfl
end

section
variable (f : CipherSt → CipherSt)
@[simp] theorem State.modCy_objs : (s.modCy f).objs = s.objs := rfl
@[simp] theorem State.modCy_blobs : (s.modCy f).blobs = s.blobs := rfl
@[simp] theorem State.modCy_results : (s.modCy f).results = s.results := rfl
@[simp] theorem State.modCy_clk : (s.modCy f).clk = s.clk := rfl
@[simp] theorem State.modCy_tt : (s.modCy f).tt = s.tt := rfl
@[simp] theorem State.modCy_adm : (s.modCy f).adm = s.adm := rfl
@[simp] theorem State.modCy_ce : (s.modCy f).ce = s.ce := rfl
@[simp] theorem State.modCy_drives : (s.modCy f).drives = s.drives := rfl
@[simp] theorem State.modCy_places : (s.modCy f).places = s.places := rfl
@[simp] theorem State.modCy_pe : (s.modCy f).pe = s.pe := rfl
@[simp] theorem State.modCy_rb : (s.modCy f).rb = s.rb := rfl
@[simp] theorem State.modCy_lg : (s.modCy f).lg = s.lg := rfl
@[simp] theorem State.modCy_si : (s.modCy f).si = s.si := rfl
@[simp] theorem State.modCy_tr : (s.modCy f).tr = s.tr := rfl
@[simp] theorem State.modCy_pc : (s.modCy f).pc = s.pc := rfl
@[simp] theorem State.modCy_po : (s.modCy f).po = s.po := rfl
@[simp] theorem State.modCy_cy : (s.modCy f).cy = f s.cy := rfl
@[simp] theorem State.modCy_gh : (s.modCy f).gh = s.gh := rfl
@[simp] theorem State.modCy_md : (s.modCy f).md = s.md := rfl
@[simp] theorem State.modCy_dict : (s.modCy f).dict = s.dict := rfl
@[simp] theorem State.modCy_ep : (s.modCy f).ep = s.ep := rfl
@[simp] theorem State.modCy_book : (s.modCy f).book = s.book := rfl
@[simp] theorem State.modCy_out : (s.modCy f).out = s.out := rfl
@[simp] theorem State.modCy_fresh : (s.modCy f).fresh = s.fresh := rfl
@[simp] theorem State.modCy_pending : (s.modCy f).pending = s.pending := rfl
end

section
variable (f : GateSt → GateSt)
@[simp] theorem State.modGh_objs : (s.modGh f).objs = s.objs := rfl
@[simp] theorem State.modGh_blobs : (s.modGh f).blobs = s.blobs := rfl
@[simp] theorem State.modGh_results : (s.modGh f).results = s.results := rfl
@[simp] theorem State.modGh_clk : (s.modGh f).clk = s.clk := rfl
@[simp] theorem State.modGh_tt : (s.modGh f).tt = s.tt := rfl
@[simp] theorem State.modGh_adm : (s.modGh f).adm = s.adm := rfl
@[simp] theorem State.modGh_ce : (s.modGh f).ce = s.ce := rfl
@[simp] theorem State.modGh_drives : (s.modGh f).drives = s.drives := rfl
@[simp] theorem State.modGh_places : (s.modGh f).places = s.places := rfl
@[simp] theorem State.modGh_pe : (s.modGh f).pe = s.pe := rfl
@[simp] theorem State.modGh_rb : (s.modGh f).rb = s.rb := rfl
@[simp] theorem State.modGh_lg : (s.modGh f).lg = s.lg := rfl
@[simp] theorem State.modGh_si : (s.modGh f).si = s.si := rfl
@[simp] theorem State.modGh_tr : (s.modGh f).tr = s.tr := rfl
@[simp] theorem State.modGh_pc : (s.modGh f).pc = s.pc := rfl
@[simp] theorem State.modGh_po : (s.modGh f).po = s.po := rfl
@[simp] theorem State.modGh_cy : (s.modGh f).cy = s.cy := rfl
@[simp] theorem State.modGh_gh : (s.modGh f).gh = f s.gh := rfl
@[simp] theorem State.modGh_md : (s.modGh f).md = s.md := rfl
@[simp] theorem State.modGh_dict : (s.modGh f).dict = s.dict := rfl
@[simp] theorem State.modGh_ep : (s.modGh f).ep = s.ep := rfl
@[simp] theorem State.modGh_book : (s.modGh f).book = s.book := rfl
@[simp] theorem State.modGh_out : (s.modGh f).out = s.out := rfl
@[simp] theorem State.modGh_fresh : (s.modGh f).fresh = s.fresh := rfl
@[simp] theorem State.modGh_pending : (s.modGh f).pending = s.pending := rfl
end

section
variable (f : ModeSt → ModeSt)
@[simp] theorem State.modMd_objs : (s.modMd f).objs = s.objs := rfl
@[simp] theorem State.modMd_blobs : (s.modMd f).blobs = s.blobs := rfl
@[simp] theorem State.modMd_results : (s.modMd f).results = s.results := rfl
@[simp] theorem State.modMd_clk : (s.modMd f).clk = s.clk := rfl
@[simp] theorem State.modMd_tt : (s.modMd f).tt = s.tt := rfl
@[simp] theorem State.modMd_adm : (s.modMd f).adm = s.adm := rfl
@[simp] theorem State.modMd_ce : (s.modMd f).ce = s.ce := rfl
@[simp] theorem State.modMd_drives : (s.modMd f).drives = s.drives := rfl
@[simp] theorem State.modMd_places : (s.modMd f).places = s.places := rfl
@[simp] theorem State.modMd_pe : (s.modMd f).pe = s.pe := rfl
@[simp] theorem State.modMd_rb : (s.modMd f).rb = s.rb := rfl
@[simp] theorem State.modMd_lg : (s.modMd f).lg = s.lg := rfl
@[simp] theorem State.modMd_si : (s.modMd f).si = s.si := rfl
@[simp] theorem State.modMd_tr : (s.modMd f).tr = s.tr := rfl
@[simp] theorem State.modMd_pc : (s.modMd f).pc = s.pc := rfl
@[simp] theorem State.modMd_po : (s.modMd f).po = s.po := rfl
@[simp] theorem State.modMd_cy : (s.modMd f).cy = s.cy := rfl
@[simp] theorem State.modMd_gh : (s.modMd f).gh = s.gh := rfl
@[simp] theorem State.modMd_md : (s.modMd f).md = f s.md := rfl
@[simp] theorem State.modMd_dict : (s.modMd f).dict = s.dict := rfl
@[simp] theorem State.modMd_ep : (s.modMd f).ep = s.ep := rfl
@[simp] theorem State.modMd_book : (s.modMd f).book = s.book := rfl
@[simp] theorem State.modMd_out : (s.modMd f).out = s.out := rfl
@[simp] theorem State.modMd_fresh : (s.modMd f).fresh = s.fresh := rfl
@[simp] theorem State.modMd_pending : (s.modMd f).pending = s.pending := rfl
end

section
variable (f : DictSt → DictSt)
@[simp] theorem State.modDict_objs : (s.modDict f).objs = s.objs := rfl
@[simp] theorem State.modDict_blobs : (s.modDict f).blobs = s.blobs := rfl
@[simp] theorem State.modDict_results : (s.modDict f).results = s.results := rfl
@[simp] theorem State.modDict_clk : (s.modDict f).clk = s.clk := rfl
@[simp] theorem State.modDict_tt : (s.modDict f).tt = s.tt := rfl
@[simp] theorem State.modDict_adm : (s.modDict f).adm = s.adm := rfl
@[simp] theorem State.modDict_ce : (s.modDict f).ce = s.ce := rfl
@[simp] theorem State.modDict_drives : (s.modDict f).drives = s.drives := rfl
@[simp] theorem State.modDict_places : (s.modDict f).places = s.places := rfl
@[simp] theorem State.modDict_pe : (s.modDict f).pe = s.pe := rfl
@[simp] theorem State.modDict_rb : (s.modDict f).rb = s.rb := rfl
@[simp] theorem State.modDict_lg : (s.modDict f).lg = s.lg := rfl
@[simp] theorem State.modDict_si : (s.modDict f).si = s.si := rfl
@[simp] theorem State.modDict_tr : (s.modDict f).tr = s.tr := rfl
@[simp] theorem State.modDict_pc : (s.modDict f).pc = s.pc := rfl
@[simp] theorem State.modDict_po : (s.modDict f).po = s.po := rfl
@[simp] theorem State.modDict_cy : (s.modDict f).cy = s.cy := rfl
@[simp] theorem State.modDict_gh : (s.modDict f).gh = s.gh := rfl
@[simp] theorem State.modDict_md : (s.modDict f).md = s.md := rfl
@[simp] theorem State.modDict_dict : (s.modDict f).dict = f s.dict := rfl
@[simp] theorem State.modDict_ep : (s.modDict f).ep = s.ep := rfl
@[simp] theorem State.modDict_book : (s.modDict f).book = s.book := rfl
@[simp] theorem State.modDict_out : (s.modDict f).out = s.out := rfl
@[simp] theorem State.modDict_fresh : (s.modDict f).fresh = s.fresh := rfl
@[simp] theorem State.modDict_pending : (s.modDict f).pending = s.pending := rfl
end

section
variable (f : EndpointSt → EndpointSt)
@[simp] theorem State.modEp_objs : (s.modEp f).objs = s.objs := rfl
@[simp] theorem State.modEp_blobs : (s.modEp f).blobs = s.blobs := rfl
@[simp] theorem State.modEp_results : (s.modEp f).results = s.results := rfl
@[simp] theorem State.modEp_clk : (s.modEp f).clk = s.clk := rfl
@[simp] theorem State.modEp_tt : (s.modEp f).tt = s.tt := rfl
@[simp] theorem State.modEp_adm : (s.modEp f).adm = s.adm := rfl
@[simp] theorem State.modEp_ce : (s.modEp f).ce = s.ce := rfl
@[simp] theorem State.modEp_drives : (s.modEp f).drives = s.drives := rfl
@[simp] theorem State.modEp_places : (s.modEp f).places = s.places := rfl
@[simp] theorem State.modEp_pe : (s.modEp f).pe = s.pe := rfl
@[simp] theorem State.modEp_rb : (s.modEp f).rb = s.rb := rfl
@[simp] theorem State.modEp_lg : (s.modEp f).lg = s.lg := rfl
@[simp] theorem State.modEp_si : (s.modEp f).si = s.si := rfl
@[simp] theorem State.modEp_tr : (s.modEp f).tr = s.tr := rfl
@[simp] theorem State.modEp_pc : (s.modEp f).pc = s.pc := rfl
@[simp] theorem State.modEp_po : (s.modEp f).po = s.po := rfl
@[simp] theorem State.modEp_cy : (s.modEp f).cy = s.cy := rfl
@[simp] theorem State.modEp_gh : (s.modEp f).gh = s.gh := rfl
@[simp] theorem State.modEp_md : (s.modEp f).md = s.md := rfl
@[simp] theorem State.modEp_dict : (s.modEp f).dict = s.dict := rfl
@[simp] theorem State.modEp_ep : (s.modEp f).ep = f s.ep := rfl
@[simp] theorem State.modEp_book : (s.modEp f).book = s.book := rfl
@[simp] theorem State.modEp_out : (s.modEp f).out = s.out := rfl
@[simp] theorem State.modEp_fresh : (s.modEp f).fresh = s.fresh := rfl
@[simp] theorem State.modEp_pending : (s.modEp f).pending = s.pending := rfl
end

section
variable (f : BookSt → BookSt)
@[simp] theorem State.modBook_objs : (s.modBook f).objs = s.objs := rfl
@[simp] theorem State.modBook_blobs : (s.modBook f).blobs = s.blobs := rfl
@[simp] theorem State.modBook_results : (s.modBook f).results = s.results := rfl
@[simp] theorem State.modBook_clk : (s.modBook f).clk = s.clk := rfl
@[simp] theorem State.modBook_tt : (s.modBook f).tt = s.tt := rfl
@[simp] theorem State.modBook_adm : (s.modBook f).adm = s.adm := rfl
@[simp] theorem State.modBook_ce : (s.modBook f).ce = s.ce := rfl
@[simp] theorem State.modBook_drives : (s.modBook f).drives = s.drives := rfl
@[simp] theorem State.modBook_places : (s.modBook f).places = s.places := rfl
@[simp] theorem State.modBook_pe : (s.modBook f).pe = s.pe := rfl
@[simp] theorem State.modBook_rb : (s.modBook f).rb = s.rb := rfl
@[simp] theorem State.modBook_lg : (s.modBook f).lg = s.lg := rfl
@[simp] theorem State.modBook_si : (s.modBook f).si = s.si := rfl
@[simp] theorem State.modBook_tr : (s.modBook f).tr = s.tr := rfl
@[simp] theorem State.modBook_pc : (s.modBook f).pc = s.pc := rfl
@[simp] theorem State.modBook_po : (s.modBook f).po = s.po := rfl
@[simp] theorem State.modBook_cy : (s.modBook f).cy = s.cy := rfl
@[simp] theorem State.modBook_gh : (s.modBook f).gh = s.gh := rfl
@[simp] theorem State.modBook_md : (s.modBook f).md = s.md := rfl
@[simp] theorem State.modBook_dict : (s.modBook f).dict = s.dict := rfl
@[simp] theorem State.modBook_ep : (s.modBook f).ep = s.ep := rfl
@[simp] theorem State.modBook_book : (s.modBook f).book = f s.book := rfl
@[simp] theorem State.modBook_out : (s.modBook f).out = s.out := rfl
@[simp] theorem State.modBook_fresh : (s.modBook f).fresh = s.fresh := rfl
@[simp] theorem State.modBook_pending : (s.modBook f).pending = s.pending := rfl
end

section
variable (f : List Out → List Out)
@[simp] theorem State.modOut_objs : (s.modOut f).objs = s.objs := rfl
@[simp] theorem State.modOut_blobs : (s.modOut f).blobs = s.blobs := rfl
@[simp] theorem State.modOut_results : (s.modOut f).results = s.results := rfl
@[simp] theorem State.modOut_clk : (s.modOut f).clk = s.clk := rfl
@[simp] theorem State.modOut_tt : (s.modOut f).tt = s.tt := rfl
@[simp] theorem State.modOut_adm : (s.modOut f).adm = s.adm := rfl
@[simp] theorem State.modOut_ce : (s.modOut f).ce = s.ce := rfl
@[simp] theorem State.modOut_drives : (s.modOut f).drives = s.drives := rfl
@[simp] theorem State.modOut_places : (s.modOut f).places = s.places := rfl
@[simp] theorem State.modOut_pe : (s.modOut f).pe = s.pe := rfl
@[simp] theorem State.modOut_rb : (s.modOut f).rb = s.rb := rfl
@[simp] theorem State.modOut_lg : (s.modOut f).lg = s.lg := rfl
@[simp] theorem State.modOut_si : (s.modOut f).si = s.si := rfl
@[simp] theorem State.modOut_tr : (s.modOut f).tr = s.tr := rfl
@[simp] theorem State.modOut_pc : (s.modOut f).pc = s.pc := rfl
@[simp] theorem State.modOut_po : (s.modOut f).po = s.po := rfl
@[simp] theorem State.modOut_cy : (s.modOut f).cy = s.cy := rfl
@[simp] theorem State.modOut_gh : (s.modOut f).gh = s.gh := rfl
@[simp] theorem State.modOut_md : (s.modOut f).md = s.md := rfl
@[simp] theorem State.modOut_dict : (s.modOut f).dict = s.dict := rfl
@[simp] theorem State.modOut_ep : (s.modOut f).ep = s.ep := rfl
@[simp] theorem State.modOut_book : (s.modOut f).book = s.book := rfl
@[simp] theorem State.modOut_out : (s.modOut f).out = f s.out := rfl
@[simp] theorem State.modOut_fresh : (s.modOut f).fresh = s.fresh := rfl
@[simp] theorem State.modOut_pending : (s.modOut f).pending = s.pending := rfl
end

section
variable (f : Nat → Nat)
@[simp] theorem State.modFresh_objs : (s.modFresh f).objs = s.objs := rfl
@[simp] theorem State.modFresh_blobs : (s.modFresh f).blobs = s.blobs := rfl
@[simp] theorem State.modFresh_results : (s.modFresh f).results = s.results := rfl
@[simp] theorem State.modFresh_clk : (s.modFresh f).clk = s.clk := rfl
@[simp] theorem State.modFresh_tt : (s.modFresh f).tt = s.tt := rfl
@[simp] theorem State.modFresh_adm : (s.modFresh f).adm = s.adm := rfl
@[simp] theorem State.modFresh_ce : (s.modFresh f).ce = s.ce := rfl
@[simp] theorem State.modFresh_drives : (s.modFresh f).drives = s.drives := rfl
@[simp] theorem State.modFresh_places : (s.modFresh f).places = s.places := rfl
@[simp] theorem State.modFresh_pe : (s.modFresh f).pe = s.pe := rfl
@[simp] theorem State.modFresh_rb : (s.modFresh f).rb = s.rb := rfl
@[simp] theorem State.modFresh_lg : (s.modFresh f).lg = s.lg := rfl
@[simp] theorem State.modFresh_si : (s.modFresh f).si = s.si := rfl
@[simp] theorem State.modFresh_tr : (s.modFresh f).tr = s.tr := rfl
@[simp] theorem State.modFresh_pc : (s.modFresh f).pc = s.pc := rfl
@[simp] theorem State.modFresh_po : (s.modFresh f).po = s.po := rfl
@[simp] theorem State.modFresh_cy : (s.modFresh f).cy = s.cy := rfl
@[simp] theorem State.modFresh_gh : (s.modFresh f).gh = s.gh := rfl
@[simp] theorem State.modFresh_md : (s.modFresh f).md = s.md := rfl
@[simp] theorem State.modFresh_dict : (s.modFresh f).dict = s.dict := rfl
@[simp] theorem State.modFresh_ep : (s.modFresh f).ep = s.ep := rfl
@[simp] theorem State.modFresh_book : (s.modFresh f).book = s.book := rfl
@[simp] theorem State.modFresh_out : (s.modFresh f).out = s.out := rfl
@[simp] theorem State.modFresh_fresh : (s.modFresh f).fresh = f s.fresh := rfl
@[simp] theorem State.modFresh_pending : (s.modFresh f).pending = s.pending := rfl
end

section
variable (f : List Instr → List Instr)
@[simp] theorem State.modPending_objs : (s.modPending f).objs = s.objs := rfl
@[simp] theorem State.modPending_blobs : (s.modPending f).blobs = s.blobs := rfl
@[simp] theorem State.modPending_results : (s.modPending f).results = s.results := rfl
@[simp] theorem State.modPending_clk : (s.modPending f).clk = s.clk := rfl
@[simp] theorem State.modPending_tt : (s.modPending f).tt = s.tt := rfl
@[simp] theorem State.modPending_adm : (s.modPending f).adm = s.adm := rfl
@[simp] theorem State.modPending_ce : (s.modPending f).ce = s.ce := rfl
@[simp] theorem State.modPending_drives : (s.modPending f).drives = s.drives := rfl
@[simp] theorem State.modPending_places : (s.modPending f).places = s.places := rfl
@[simp] theorem State.modPending_pe : (s.modPending f).pe = s.pe := rfl
@[simp] theorem State.modPending_rb : (s.modPending f).rb = s.rb := rfl
@[simp] theorem State.modPending_lg : (s.modPending f).lg = s.lg := rfl
@[simp] theorem State.modPending_si : (s.modPending f).si = s.si := rfl
@[simp] theorem State.modPending_tr : (s.modPending f).tr = s.tr := rfl
@[simp] theorem State.modPending_pc : (s.modPending f).pc = s.pc := rfl
@[simp] theorem State.modPending_po : (s.modPending f).po = s.po := rfl
@[simp] theorem State.modPending_cy : (s.modPending f).cy = s.cy := rfl
@[simp] theorem State.modPending_gh : (s.modPending f).gh = s.gh := rfl
@[simp] theorem State.modPending_md : (s.modPending f).md = s.md := rfl
@[simp] theorem State.modPending_dict : (s.modPending f).dict = s.dict := rfl
@[simp] theorem State.modPending_ep : (s.modPending f).ep = s.ep := rfl
@[simp] theorem State.modPending_book : (s.modPending f).book = s.book := rfl
@[simp] theorem State.modPending_out : (s.modPending f).out = s.out := rfl
@[simp] theorem State.modPending_fresh : (s.modPending f).fresh = s.fresh := rfl
@[simp] theorem State.modPending_pending : (s.modPending f).pending = f s.pending := rfl
end

end Sys2Proof.Machine
end

