-- ==== Sys2Proof/Laws/Moves.lean ====
section
/-! SUPPORT. What every command does to the state, whatever else it does: the queue stays, objects change by writes and
resets alone, the outputs and the free values only grow, the guestbooks change by stores and clears, GH_IGATE and
GH_HU_DRV never come on together, and no table outgrows its bound.  One relation, kept by every operation; invariants of
a step follow from it. -/

set_option Elab.async false

namespace Sys2Proof.Machine

/-- The object list changes by writes of single objects and by resets of whole groups. -/
inductive ObjMoves (l : List (Nat × Nat)) : List (Nat × Nat) → Prop
  | refl : ObjMoves l l
  | put (key v : Nat) {m : List (Nat × Nat)} : ObjMoves l m → ObjMoves l (objPut key v m)
  | clear (p : Nat × Nat → Bool) {m : List (Nat × Nat)} : ObjMoves l m → ObjMoves l (m.filter p)

/-- A guestbook of a capacity changes by stores, by its limiter's buckets, and by being emptied. -/
inductive BookMoves (cap : Nat) (g : Guestbook) : Guestbook → Prop
  | refl : BookMoves cap g g
  | store (r : GbRecord) {h : Guestbook} : BookMoves cap g h → BookMoves cap g (h.store cap r).1
  | buckets (l : List Bucket) {h : Guestbook} : BookMoves cap g h → BookMoves cap g { h with buckets := l }
  | clear {h : Guestbook} : BookMoves cap g h → BookMoves cap g { h with records := [] }
  | reset : BookMoves cap g {}

theorem ObjMoves.trans {l m n : List (Nat × Nat)} (h : ObjMoves l m) (k : ObjMoves m n) : ObjMoves l n := by
  induction k with
  | refl => exact h
  | put key v _ ih => exact .put key v ih
  | clear p _ ih => exact .clear p ih

theorem BookMoves.trans {cap : Nat} {f g h : Guestbook} (a : BookMoves cap f g) (b : BookMoves cap g h) :
    BookMoves cap f h := by
  induction b with
  | refl => exact a
  | store r _ ih => exact .store r ih
  | buckets l _ ih => exact .buckets l ih
  | clear _ ih => exact .clear ih
  | reset => exact .reset

/-- The limiter changes its buckets alone (R527). -/
theorem gbLimit_buckets (rate burst now sev code : Nat) (g : Guestbook) :
    ∃ l, (gbLimit rate burst now sev code g).1 = { g with buckets := l } := by
  unfold gbLimit
  dsimp only
  split
  · exact ⟨_, rfl⟩
  · split
    · exact ⟨_, rfl⟩
    · split <;> exact ⟨_, rfl⟩

theorem BookMoves.limit {cap : Nat} {g h : Guestbook} (rate burst now sev code : Nat) (k : BookMoves cap g h) :
    BookMoves cap g (gbLimit rate burst now sev code h).1 := by
  obtain ⟨l, e⟩ := gbLimit_buckets rate burst now sev code h
  exact e ▸ .buckets l k

theorem modFirst_length {α : Type} (p : α → Bool) (f : α → α) (l : List α) : (modFirst p f l).length = l.length := by
  induction l with
  | nil => rfl
  | cons x l ih => unfold modFirst; split <;> simp [ih]

/-- Outstanding endpoint reads hold distinct tags below 128 (R513). -/
def TagsOk (l : List EpTag) : Prop := (l.map (·.tag)).Nodup ∧ ∀ t ∈ l, t.tag < 128

theorem TagsOk.nil : TagsOk [] := ⟨List.nodup_nil, fun _ h => nomatch h⟩

theorem TagsOk.filter (p : EpTag → Bool) {l : List EpTag} (h : TagsOk l) : TagsOk (l.filter p) :=
  ⟨h.1.sublist (List.filter_sublist.map _), fun t k => h.2 t (List.mem_of_mem_filter k)⟩

theorem TagsOk.map (f : EpTag → EpTag) (e : ∀ t, (f t).tag = t.tag) {l : List EpTag} (h : TagsOk l) : TagsOk (l.map f) := by
  refine ⟨?_, fun t k => ?_⟩
  · have : (l.map f).map (·.tag) = l.map (·.tag) := by simp [Function.comp_def, e]
    exact this ▸ h.1
  · obtain ⟨u, m, rfl⟩ := List.mem_map.1 k
    exact (e u).symm ▸ h.2 u m

theorem TagsOk.snoc {l : List EpTag} (x : EpTag) (h : TagsOk l)
    (k : (List.range 128).find? (fun n => !(l.any fun t => t.tag == n)) = some x.tag) : TagsOk (l ++ [x]) := by
  have a := List.find?_some k
  have b := List.mem_range.1 (List.mem_of_find?_eq_some k)
  simp only [Bool.not_eq_true', List.any_eq_false, beq_iff_eq] at a
  refine ⟨?_, fun t m => ?_⟩
  · simp only [List.map_append, List.map_cons, List.map_nil, List.nodup_append, List.nodup_singleton, true_and]
    refine ⟨h.1, fun n m q z => ?_⟩
    obtain ⟨u, m', rfl⟩ := List.mem_map.1 m
    exact fun e => a u m' (e.trans (List.mem_singleton.1 z))
  · rcases List.mem_append.1 m with m | m
    · exact h.2 t m
    · exact (List.mem_singleton.1 m) ▸ b

/-- The areas of mask `a` are among those of `m`. -/
def Sub (a m : Nat) : Prop := ∀ p : Area, a.testBit p.bit = true → m.testBit p.bit = true

theorem Sub.refl (m : Nat) : Sub m m := fun _ h => h

/-- Masks written as numerals: `a` within `b`, and `b` within `m`. -/
theorem Sub.of {a b m : Nat} (q : Sub b m) (e : Nat.land a b = a) : Sub a m := fun p h => q p (by
  have : (Nat.land a b).testBit p.bit = true := by rw [e]; exact h
  rw [show Nat.land a b = a &&& b from rfl, Nat.testBit_and, Bool.and_eq_true] at this
  exact this.2)

/-- An area outside `m` is outside a mask within it. -/
theorem Sub.out {a m : Nat} (q : Sub a m) {p : Area} (e : m.testBit p.bit = false) : a.testBit p.bit = false := by
  cases h : a.testBit p.bit with
  | false => rfl
  | true => rw [q p h] at e; exact absurd e.symm Bool.false_ne_true

/-- What every command does to the state, from `s` to `t`: areas outside the mask `m` stay. -/
structure Moves (m : Nat) (s t : State) : Prop where
  frame : ∀ p : Area, m.testBit p.bit = false → p.same s t
  queue : t.pending = s.pending
  objs : ObjMoves s.objs t.objs
  out : s.out <:+ t.out
  fresh : s.fresh ≤ t.fresh
  gate : t.gh.igate = true → t.gh.huDrv = true → s.gh.igate = true ∧ s.gh.huDrv = true
  main : BookMoves gbMainCap s.book.main t.book.main
  section_ : BookMoves gbGateCap s.book.gate t.book.gate
  sessions : t.dict.sessions.length ≤ max s.dict.sessions.length 8
  tags : TagsOk s.ep.tags → TagsOk t.ep.tags
  places : s.places.length = 2 → t.places.length = 2

theorem Moves.refl (m : Nat) (s : State) : Moves m s s where
  frame := fun p _ => by cases p <;> rfl
  queue := rfl
  objs := .refl
  out := List.suffix_rfl
  fresh := Nat.le_refl _
  gate := fun a b => ⟨a, b⟩
  main := .refl
  section_ := .refl
  sessions := Nat.le_max_left _ _
  tags := id
  places := id

theorem Moves.trans {m : Nat} {s t u : State} (h : Moves m s t) (k : Moves m t u) : Moves m s u where
  frame := fun p e => by have a := h.frame p e; have b := k.frame p e; cases p <;> exact Eq.trans b a
  queue := k.queue.trans h.queue
  objs := h.objs.trans k.objs
  out := h.out.trans k.out
  fresh := h.fresh.trans k.fresh
  gate := fun a b => (fun c => h.gate c.1 c.2) (k.gate a b)
  main := h.main.trans k.main
  section_ := h.section_.trans k.section_
  sessions := by have := h.sessions; have := k.sessions; omega
  tags := k.tags ∘ h.tags
  places := k.places ∘ h.places

/-- The same of an outcome: a next state it answers. -/
def OutMoves (m : Nat) (s : State) (o : Host.Outcome State Fault Refusal) : Prop := ∀ t, o = .next t → Moves m s t

theorem OutMoves.next {m : Nat} {s t : State} (h : Moves m s t) : OutMoves m s (.next t) := by
  intro u e; cases e; exact h

theorem OutMoves.ite {m : Nat} {s : State} {c : Prop} [Decidable c] {a b : Host.Outcome State Fault Refusal} (h : OutMoves m s a)
    (k : OutMoves m s b) : OutMoves m s (if c then a else b) := by
  split <;> assumption

theorem Moves.ite {m : Nat} {s : State} {c : Prop} [Decidable c] {a b : State} (h : Moves m s a) (k : Moves m s b) :
    Moves m s (if c then a else b) := by
  split <;> assumption

theorem Moves.elim {m : Nat} {α : Type} {s t : State} {f : α → State} (o : Option α) (h : Moves m s t) (k : ∀ x, Moves m s (f x)) :
    Moves m s (o.elim t f) := by
  cases o with
  | none => exact h
  | some x => exact k x

theorem Moves.foldl {m : Nat} {α : Type} {s t : State} {f : State → α → State} (l : List α) (h : Moves m s t)
    (k : ∀ u a, Moves m s u → Moves m s (f u a)) : Moves m s (l.foldl f t) := by
  induction l generalizing t with
  | nil => exact h
  | cons a l ih => exact ih (k t a h)

theorem Moves.iteSnd {m : Nat} {α : Type} {s : State} {c : Prop} [Decidable c] {a b : α × State} (h : Moves m s a.2)
    (k : Moves m s b.2) : Moves m s (if c then a else b).2 := by
  split <;> assumption

theorem Moves.iteFst {m : Nat} {α : Type} {s : State} {c : Prop} [Decidable c] {a b : State × α} (h : Moves m s a.1)
    (k : Moves m s b.1) : Moves m s (if c then a else b).1 := by
  split <;> assumption

/-- A fold whose state is the second of a pair. -/
theorem Moves.foldlSnd {m : Nat} {α β : Type} {s : State} {f : β × State → α → β × State} (l : List α) (p : β × State)
    (h : Moves m s p.2) (k : ∀ u a, Moves m s u.2 → Moves m s (f u a).2) : Moves m s (l.foldl f p).2 := by
  induction l generalizing p with
  | nil => exact h
  | cons a l ih => exact ih (f p a) (k p a h)

/-- A fold whose state is the first of a pair. -/
theorem Moves.foldlFst {m : Nat} {α β : Type} {s : State} {f : State × β → α → State × β} (l : List α) (p : State × β)
    (h : Moves m s p.1) (k : ∀ u a, Moves m s u.1 → Moves m s (f u a).1) : Moves m s (l.foldl f p).1 := by
  induction l generalizing p with
  | nil => exact h
  | cons a l ih => exact ih (f p a) (k p a h)

section
variable {m : Nat} {s t : State}

theorem State.modBlobs_moves (f : List (Nat × List Byte) → List (Nat × List Byte)) (h : Moves m s t)
    (q : Sub 0x2 m := by exact .of ‹_› rfl) : Moves m s (t.modBlobs f) :=
  { h with
    frame := fun p e => by have f := q.out e; cases p <;> first | exact h.frame _ e | exact absurd f (by decide) }
theorem State.modResults_moves (f : List (Nat × Rslt) → List (Nat × Rslt)) (h : Moves m s t)
    (q : Sub 0x4 m := by exact .of ‹_› rfl) : Moves m s (t.modResults f) :=
  { h with
    frame := fun p e => by have f := q.out e; cases p <;> first | exact h.frame _ e | exact absurd f (by decide) }
theorem State.modClk_moves (f : ClockSt → ClockSt) (h : Moves m s t)
    (q : Sub 0x8 m := by exact .of ‹_› rfl) : Moves m s (t.modClk f) :=
  { h with
    frame := fun p e => by have f := q.out e; cases p <;> first | exact h.frame _ e | exact absurd f (by decide) }
theorem State.modTt_moves (f : TtSt → TtSt) (h : Moves m s t)
    (q : Sub 0x10 m := by exact .of ‹_› rfl) : Moves m s (t.modTt f) :=
  { h with
    frame := fun p e => by have f := q.out e; cases p <;> first | exact h.frame _ e | exact absurd f (by decide) }
theorem State.modAdm_moves (f : AdmSt → AdmSt) (h : Moves m s t)
    (q : Sub 0x20 m := by exact .of ‹_› rfl) : Moves m s (t.modAdm f) :=
  { h with
    frame := fun p e => by have f := q.out e; cases p <;> first | exact h.frame _ e | exact absurd f (by decide) }
theorem State.modCe_moves (f : CeSt → CeSt) (h : Moves m s t)
    (q : Sub 0x40 m := by exact .of ‹_› rfl) : Moves m s (t.modCe f) :=
  { h with
    frame := fun p e => by have f := q.out e; cases p <;> first | exact h.frame _ e | exact absurd f (by decide) }
theorem State.modDrives_moves (f : DriveSt → DriveSt) (h : Moves m s t)
    (q : Sub 0x80 m := by exact .of ‹_› rfl) : Moves m s (t.modDrives f) :=
  { h with
    frame := fun p e => by have f := q.out e; cases p <;> first | exact h.frame _ e | exact absurd f (by decide) }
theorem State.modPe_moves (f : ParitySt → ParitySt) (h : Moves m s t)
    (q : Sub 0x200 m := by exact .of ‹_› rfl) : Moves m s (t.modPe f) :=
  { h with
    frame := fun p e => by have f := q.out e; cases p <;> first | exact h.frame _ e | exact absurd f (by decide) }
theorem State.modRb_moves (f : RebuildSt → RebuildSt) (h : Moves m s t)
    (q : Sub 0x400 m := by exact .of ‹_› rfl) : Moves m s (t.modRb f) :=
  { h with
    frame := fun p e => by have f := q.out e; cases p <;> first | exact h.frame _ e | exact absurd f (by decide) }
theorem State.modLg_moves (f : LedgerSt → LedgerSt) (h : Moves m s t)
    (q : Sub 0x800 m := by exact .of ‹_› rfl) : Moves m s (t.modLg f) :=
  { h with
    frame := fun p e => by have f := q.out e; cases p <;> first | exact h.frame _ e | exact absurd f (by decide) }
theorem State.modSi_moves (f : SisterSt → SisterSt) (h : Moves m s t)
    (q : Sub 0x1000 m := by exact .of ‹_› rfl) : Moves m s (t.modSi f) :=
  { h with
    frame := fun p e => by have f := q.out e; cases p <;> first | exact h.frame _ e | exact absurd f (by decide) }
theorem State.modTr_moves (f : TransportSt → TransportSt) (h : Moves m s t)
    (q : Sub 0x2000 m := by exact .of ‹_› rfl) : Moves m s (t.modTr f) :=
  { h with
    frame := fun p e => by have f := q.out e; cases p <;> first | exact h.frame _ e | exact absurd f (by decide) }
theorem State.modPc_moves (f : PortSt → PortSt) (h : Moves m s t)
    (q : Sub 0x4000 m := by exact .of ‹_› rfl) : Moves m s (t.modPc f) :=
  { h with
    frame := fun p e => by have f := q.out e; cases p <;> first | exact h.frame _ e | exact absurd f (by decide) }
theorem State.modPo_moves (f : PorterSt → PorterSt) (h : Moves m s t)
    (q : Sub 0x8000 m := by exact .of ‹_› rfl) : Moves m s (t.modPo f) :=
  { h with
    frame := fun p e => by have f := q.out e; cases p <;> first | exact h.frame _ e | exact absurd f (by decide) }
theorem State.modCy_moves (f : CipherSt → CipherSt) (h : Moves m s t)
    (q : Sub 0x10000 m := by exact .of ‹_› rfl) : Moves m s (t.modCy f) :=
  { h with
    frame := fun p e => by have f := q.out e; cases p <;> first | exact h.frame _ e | exact absurd f (by decide) }
theorem State.modMd_moves (f : ModeSt → ModeSt) (h : Moves m s t)
    (q : Sub 0x40000 m := by exact .of ‹_› rfl) : Moves m s (t.modMd f) :=
  { h with
    frame := fun p e => by have f := q.out e; cases p <;> first | exact h.frame _ e | exact absurd f (by decide) }

theorem State.modObjs_put (key v : Nat) (h : Moves m s t)
    (q : Sub 0x1 m := by exact .of ‹_› rfl) : Moves m s (t.modObjs (objPut key v)) :=
  { h with
    frame := fun p e => by have f := q.out e; cases p <;> first | exact h.frame _ e | exact absurd f (by decide)
    objs := .put key v h.objs }
theorem State.modObjs_filter (p : Nat × Nat → Bool) (h : Moves m s t)
    (q : Sub 0x1 m := by exact .of ‹_› rfl) : Moves m s (t.modObjs fun l => l.filter p) :=
  { h with
    frame := fun p e => by have f := q.out e; cases p <;> first | exact h.frame _ e | exact absurd f (by decide)
    objs := .clear p h.objs }
theorem State.emit_moves (o : Out) (h : Moves m s t)
    (q : Sub 0x400000 m := by exact .of ‹_› rfl) : Moves m s (t.emit o) :=
  { h with
    frame := fun p e => by have f := q.out e; cases p <;> first | exact h.frame _ e | exact absurd f (by decide)
    out := h.out.trans (List.suffix_cons _ _) }
theorem State.drawn_moves (h : Moves m s t)
    (q : Sub 0x800000 m := by exact .of ‹_› rfl) : Moves m s t.drawn :=
  { h with
    frame := fun p e => by have f := q.out e; cases p <;> first | exact h.frame _ e | exact absurd f (by decide)
    fresh := Nat.le_succ_of_le h.fresh }
theorem State.modPlaces_moves (f : List Placement → List Placement) (h : Moves m s t)
    (k : (f t.places).length = t.places.length)
    (q : Sub 0x100 m := by exact .of ‹_› rfl) : Moves m s (t.modPlaces f) :=
  { h with
    frame := fun p e => by have f := q.out e; cases p <;> first | exact h.frame _ e | exact absurd f (by decide)
    places := fun e => k.trans (h.places e) }
theorem State.modGh_moves (f : GateSt → GateSt) (h : Moves m s t)
    (k : (f t.gh).igate = true → (f t.gh).huDrv = true → t.gh.igate = true ∧ t.gh.huDrv = true)
    (q : Sub 0x20000 m := by exact .of ‹_› rfl) : Moves m s (t.modGh f) :=
  { h with
    frame := fun p e => by have f := q.out e; cases p <;> first | exact h.frame _ e | exact absurd f (by decide)
    gate := fun a b => (fun c => h.gate c.1 c.2) (k a b) }
theorem State.modDict_moves (f : DictSt → DictSt) (h : Moves m s t)
    (k : (f t.dict).sessions.length ≤ max t.dict.sessions.length 8)
    (q : Sub 0x80000 m := by exact .of ‹_› rfl) : Moves m s (t.modDict f) :=
  { h with
    frame := fun p e => by have f := q.out e; cases p <;> first | exact h.frame _ e | exact absurd f (by decide)
    sessions := k.trans (max_le h.sessions (le_max_right _ _)) }
theorem State.modEp_moves (f : EndpointSt → EndpointSt) (h : Moves m s t)
    (k : TagsOk t.ep.tags → TagsOk (f t.ep).tags)
    (q : Sub 0x100000 m := by exact .of ‹_› rfl) : Moves m s (t.modEp f) :=
  { h with
    frame := fun p e => by have f := q.out e; cases p <;> first | exact h.frame _ e | exact absurd f (by decide)
    tags := k ∘ h.tags }
theorem State.modBook_moves (f : BookSt → BookSt) (h : Moves m s t)
    (k : BookMoves gbMainCap t.book.main (f t.book).main)
    (r : BookMoves gbGateCap t.book.gate (f t.book).gate)
    (q : Sub 0x200000 m := by exact .of ‹_› rfl) : Moves m s (t.modBook f) :=
  { h with
    frame := fun p e => by have f := q.out e; cases p <;> first | exact h.frame _ e | exact absurd f (by decide)
    main := h.main.trans k, section_ := h.section_.trans r }

end

end Sys2Proof.Machine
end

