-- ==== Sys2Proof/Laws/MovesTransfer.lean ====
section
/-! SUPPORT. What admission, the timetable, the stages of commands and the ports do: each operation moves the state as Moves says. -/

set_option Elab.async false

namespace Sys2Proof.Machine

variable {m : Nat} {s₀ s : State}

/-! ### Machine/Ops.lean -/

theorem State.put_moves {a0 a1 a2} (h : Moves m s₀ s) (q : Sub 0x1 m := by exact .of ‹_› rfl) :
    Moves m s₀ (State.put a0 a1 a2 s) := by
  unfold State.put
  try dsimp only
  repeat' first | with_reducible assumption | exact Sub.of ‹_› rfl | with_reducible apply State.modObjs_put

theorem State.count_moves {a0 a1 a2} (h : Moves m s₀ s) (q : Sub 0x1 m := by exact .of ‹_› rfl) :
    Moves m s₀ (State.count a0 a1 a2 s) := by
  unfold State.count
  try dsimp only
  repeat' first
    | with_reducible assumption | exact Sub.of ‹_› rfl
    | (with_reducible first | apply Moves.ite | apply State.put_moves)

theorem State.tick_moves {a0 a1} (h : Moves m s₀ s) (q : Sub 0x1 m := by exact .of ‹_› rfl) :
    Moves m s₀ (State.tick a0 a1 s) := by
  unfold State.tick
  try dsimp only
  repeat' first | with_reducible assumption | exact Sub.of ‹_› rfl | with_reducible apply State.count_moves

theorem State.putBlob_moves {a0 a1 a2} (h : Moves m s₀ s) (q : Sub 0x2 m := by exact .of ‹_› rfl) :
    Moves m s₀ (State.putBlob a0 a1 a2 s) := by
  unfold State.putBlob
  try dsimp only
  repeat' first
    | with_reducible assumption | exact Sub.of ‹_› rfl | (intro _) | with_reducible apply State.modBlobs_moves

theorem State.emits_moves {a0} (h : Moves m s₀ s) (q : Sub 0x400000 m := by exact .of ‹_› rfl) :
    Moves m s₀ (State.emits a0 s) := by
  unfold State.emits
  try dsimp only
  repeat' first
    | with_reducible assumption | exact Sub.of ‹_› rfl | (intro _)
    | (with_reducible first | apply Moves.foldl | apply State.emit_moves)

theorem State.putResult_moves {a0 a1} (h : Moves m s₀ s) (q : Sub 0x4 m := by exact .of ‹_› rfl) :
    Moves m s₀ (State.putResult a0 a1 s) := by
  unfold State.putResult
  try dsimp only
  repeat' first
    | with_reducible assumption | exact Sub.of ‹_› rfl | (intro _) | with_reducible apply State.modResults_moves

theorem State.startRun_moves {a0} (h : Moves m s₀ s) (q : Sub 0x4 m := by exact .of ‹_› rfl) :
    Moves m s₀ (State.startRun a0 s) := by
  unfold State.startRun
  try dsimp only
  repeat' first | with_reducible assumption | exact Sub.of ‹_› rfl | with_reducible apply State.putResult_moves

theorem State.endRun_moves {a0 a1} (h : Moves m s₀ s) (q : Sub 0x4 m := by exact .of ‹_› rfl) :
    Moves m s₀ (State.endRun a0 a1 s) := by
  unfold State.endRun
  try dsimp only
  repeat' first
    | with_reducible assumption | exact Sub.of ‹_› rfl
    | (with_reducible first | apply Moves.ite | apply State.putResult_moves)

theorem State.violation_moves {a0} (h : Moves m s₀ s) (q : Sub 0x1 m := by exact .of ‹_› rfl) :
    Moves m s₀ (State.violation a0 s) := by
  unfold State.violation
  try dsimp only
  repeat' first | with_reducible assumption | exact Sub.of ‹_› rfl | with_reducible apply State.tick_moves

theorem State.action_moves {a0 a1 a2 a3} (h : Moves m s₀ s) (q : Sub 0x5 m := by exact .of ‹_› rfl) (k3 : ∀  u, Moves m s₀ u → Moves m s₀ (a3 u)) :
    Moves m s₀ (State.action a0 a1 a2 a3 s) := by
  unfold State.action
  try dsimp only
  repeat' first
    | with_reducible assumption | exact Sub.of ‹_› rfl
    | (with_reducible first | apply Moves.ite | apply State.startRun_moves | apply State.violation_moves | apply k3)

theorem State.trigger_moves {a0 a1 a2 a3} (h : Moves m s₀ s) (q : Sub 0x1 m := by exact .of ‹_› rfl) (k3 : ∀  u, Moves m s₀ u → Moves m s₀ (a3 u)) :
    Moves m s₀ (State.trigger a0 a1 a2 a3 s) := by
  unfold State.trigger
  try dsimp only
  repeat' first
    | with_reducible assumption | exact Sub.of ‹_› rfl
    | (with_reducible first | apply Moves.ite | apply State.violation_moves | apply k3)

theorem State.guarded_moves {a0 a1 a2 a3 a4} (h : Moves m s₀ s) (q : Sub 0x1 m := by exact .of ‹_› rfl) (k4 : ∀  u, Moves m s₀ u → Moves m s₀ (a4 u)) :
    Moves m s₀ (State.guarded a0 a1 a2 a3 a4 s) := by
  unfold State.guarded
  try dsimp only
  repeat' first
    | with_reducible assumption | exact Sub.of ‹_› rfl
    | (with_reducible first | apply Moves.ite | apply State.violation_moves | apply k4)

theorem State.gbCounts_moves {a0 a1 a2 a3 a4} (h : Moves m s₀ s) (q : Sub 0x1 m := by exact .of ‹_› rfl) :
    Moves m s₀ (State.gbCounts a0 a1 a2 a3 a4 s) := by
  unfold State.gbCounts
  try dsimp only
  repeat' first
    | with_reducible assumption | exact Sub.of ‹_› rfl | (intro _)
    | (with_reducible first | apply Moves.ite | apply Moves.foldl | apply State.tick_moves)

theorem State.recordMain_moves {a0 a1 a2} (h : Moves m s₀ s) (q : Sub 0x200001 m := by exact .of ‹_› rfl) :
    Moves m s₀ (State.recordMain a0 a1 a2 s) := by
  unfold State.recordMain
  dsimp only
  split
  · exact State.tick_moves (State.modBook_moves _ h (.limit _ _ _ _ _ .refl) .refl)
  · exact State.gbCounts_moves (State.modBook_moves _ h (.store _ (.limit _ _ _ _ _ .refl)) .refl)

theorem State.recordGate_moves {a0 a1 a2} (h : Moves m s₀ s) (q : Sub 0x200001 m := by exact .of ‹_› rfl) :
    Moves m s₀ (State.recordGate a0 a1 a2 s) := by
  unfold State.recordGate
  dsimp only
  split
  · exact State.tick_moves (State.modBook_moves _ h .refl (.limit _ _ _ _ _ .refl))
  · exact State.gbCounts_moves (State.modBook_moves _ h .refl (.store _ (.limit _ _ _ _ _ .refl)))

theorem State.record_moves {a0 a1 a2} (h : Moves m s₀ s) (q : Sub 0x200001 m := by exact .of ‹_› rfl) :
    Moves m s₀ (State.record a0 a1 a2 s) := by
  unfold State.record
  try dsimp only
  repeat' first
    | with_reducible assumption | exact Sub.of ‹_› rfl
    | (with_reducible first | apply Moves.ite | apply State.recordGate_moves | apply State.recordMain_moves)

theorem State.copyRecord_moves {a0} (h : Moves m s₀ s) (q : Sub 0x200001 m := by exact .of ‹_› rfl) :
    Moves m s₀ (State.copyRecord a0 s) :=
  State.gbCounts_moves (State.modBook_moves _ h (.store _ .refl) .refl)

theorem State.copySection_moves (h : Moves m s₀ s) (q : Sub 0x200001 m := by exact .of ‹_› rfl) :
    Moves m s₀ (State.copySection s) := by
  unfold State.copySection
  try dsimp only
  repeat' first
    | with_reducible assumption | exact Sub.of ‹_› rfl | (intro _)
    | (with_reducible first | apply Moves.foldl | apply State.copyRecord_moves)

theorem State.modWingSt_moves {a0 a1} (h : Moves m s₀ s) (q : Sub 0x1000 m := by exact .of ‹_› rfl) :
    Moves m s₀ (State.modWingSt a0 a1 s) := by
  unfold State.modWingSt
  try dsimp only
  repeat' first
    | with_reducible assumption | exact Sub.of ‹_› rfl | (intro _) | with_reducible apply State.modSi_moves

theorem State.modDrive_moves {a0 a1} (h : Moves m s₀ s) (q : Sub 0x80 m := by exact .of ‹_› rfl) :
    Moves m s₀ (State.modDrive a0 a1 s) := by
  unfold State.modDrive
  try dsimp only
  repeat' first
    | with_reducible assumption | exact Sub.of ‹_› rfl | (intro _) | with_reducible apply State.modDrives_moves

theorem State.modNs_moves {a0 a1} (h : Moves m s₀ s) (q : Sub 0x40 m := by exact .of ‹_› rfl) :
    Moves m s₀ (State.modNs a0 a1 s) := by
  unfold State.modNs
  try dsimp only
  repeat' first
    | with_reducible assumption | exact Sub.of ‹_› rfl | (intro _) | with_reducible apply State.modCe_moves

/-! ### Machine/Counters.lean -/

theorem State.modUnitCtr_moves {a0 a1} (h : Moves m s₀ s) (q : Sub 0x200000 m := by exact .of ‹_› rfl) :
    Moves m s₀ (State.modUnitCtr a0 a1 s) := by
  unfold State.modUnitCtr
  try dsimp only
  repeat' first
    | with_reducible assumption | exact Sub.of ‹_› rfl | exact BookMoves.refl | exact BookMoves.reset
    | exact .clear .refl | exact .buckets _ .refl | (intro _)
    | (with_reducible first | apply Moves.ite | apply State.modBook_moves)

theorem State.unitEvent_moves {a0 a1 a2 a3 a4 a5 a6} (h : Moves m s₀ s) (q : Sub 0x200000 m := by exact .of ‹_› rfl) :
    Moves m s₀ (State.unitEvent a0 a1 a2 a3 a4 a5 a6 s) := by
  unfold State.unitEvent
  try dsimp only
  repeat' first
    | with_reducible assumption | exact Sub.of ‹_› rfl | (intro _)
    | (with_reducible first
        | apply Moves.ite | apply Moves.foldl | apply Moves.foldlSnd | apply Moves.foldlFst
        | apply State.modUnitCtr_moves)

theorem State.returned_moves {a0 a1} (h : Moves m s₀ s) (q : Sub 0x200000 m := by exact .of ‹_› rfl) :
    Moves m s₀ (State.returned a0 a1 s) := by
  unfold State.returned
  try dsimp only
  repeat' first | with_reducible assumption | exact Sub.of ‹_› rfl | with_reducible apply State.unitEvent_moves

theorem State.addSample_moves {a0} (h : Moves m s₀ s) (q : Sub 0x200001 m := by exact .of ‹_› rfl) :
    Moves m s₀ (State.addSample a0 s) := by
  unfold State.addSample
  try dsimp only
  repeat' first
    | with_reducible assumption | exact Sub.of ‹_› rfl | exact BookMoves.refl | exact BookMoves.reset
    | exact .clear .refl | exact .buckets _ .refl | (intro _)
    | (with_reducible first | apply Moves.ite | apply State.modBook_moves | apply State.tick_moves)

theorem State.sampleCell_moves {a0 a1 a2 a3 a4 a5 a6} (h : Moves m s₀ s) (q : Sub 0x200001 m := by exact .of ‹_› rfl) :
    Moves m s₀ (State.sampleCell a0 a1 a2 a3 a4 a5 a6 s) := by
  unfold State.sampleCell
  try dsimp only
  repeat' first
    | with_reducible assumption | exact Sub.of ‹_› rfl | exact BookMoves.refl | exact BookMoves.reset
    | exact .clear .refl | exact .buckets _ .refl | (intro _)
    | (with_reducible first | apply Moves.ite | apply State.addSample_moves | apply State.modBook_moves)
    | split

theorem State.countKept_moves {a0 a1} (h : Moves m s₀ s) (q : Sub 0x200001 m := by exact .of ‹_› rfl) :
    Moves m s₀ (State.countKept a0 a1 s) := by
  unfold State.countKept
  try dsimp only
  repeat' first
    | with_reducible assumption | exact Sub.of ‹_› rfl | exact BookMoves.refl | exact BookMoves.reset
    | exact .clear .refl | exact .buckets _ .refl | (intro _)
    | (with_reducible first
        | apply Moves.foldl | apply Moves.foldlSnd | apply Moves.foldlFst | apply State.addSample_moves
        | apply State.modBook_moves)

theorem State.countDropped_moves {a0 a1} (h : Moves m s₀ s) (q : Sub 0x200000 m := by exact .of ‹_› rfl) :
    Moves m s₀ (State.countDropped a0 a1 s) := by
  unfold State.countDropped
  try dsimp only
  repeat' first
    | with_reducible assumption | exact Sub.of ‹_› rfl | exact BookMoves.refl | exact BookMoves.reset
    | exact .clear .refl | exact .buckets _ .refl | (intro _) | with_reducible apply State.modBook_moves

theorem State.countersAtBoundary_moves (h : Moves m s₀ s) (q : Sub 0x200000 m := by exact .of ‹_› rfl) :
    Moves m s₀ (State.countersAtBoundary s) := by
  unfold State.countersAtBoundary
  try dsimp only
  repeat' first
    | with_reducible assumption | exact Sub.of ‹_› rfl | exact BookMoves.refl | exact BookMoves.reset
    | exact .clear .refl | exact .buckets _ .refl | (intro _)
    | (with_reducible first | apply Moves.foldl | apply State.modBook_moves)

theorem State.counterConfig_moves {a0 a1 a2 a3} (h : Moves m s₀ s) (q : Sub 0x200001 m := by exact .of ‹_› rfl) :
    Moves m s₀ (State.counterConfig a0 a1 a2 a3 s) := by
  unfold State.counterConfig
  try dsimp only
  repeat' first
    | with_reducible assumption | exact Sub.of ‹_› rfl | (intro _)
    | (with_reducible first | apply State.guarded_moves | apply State.modUnitCtr_moves)

theorem execCounterConfigWrite_moves {a0 a1 a2 a3} (h : Moves m s₀ s) (q : Sub 0x200001 m := by exact .of ‹_› rfl) :
    OutMoves m s₀ (execCounterConfigWrite a0 a1 a2 a3 s) := by
  unfold execCounterConfigWrite
  try dsimp only
  repeat' first
    | (with_reducible first | apply OutMoves.next | assumption)
    | exact Sub.of ‹_› rfl | with_reducible apply State.counterConfig_moves

theorem State.filterWrite_moves {a0 a1 a2} (h : Moves m s₀ s) (q : Sub 0x200001 m := by exact .of ‹_› rfl) :
    Moves m s₀ (State.filterWrite a0 a1 a2 s) := by
  unfold State.filterWrite
  try dsimp only
  repeat' first
    | with_reducible assumption | exact Sub.of ‹_› rfl | exact BookMoves.refl | exact BookMoves.reset
    | exact .clear .refl | exact .buckets _ .refl | (intro _)
    | (with_reducible first | apply State.guarded_moves | apply State.modBook_moves)

theorem execFilterWrite_moves {a0 a1 a2} (h : Moves m s₀ s) (q : Sub 0x200001 m := by exact .of ‹_› rfl) :
    OutMoves m s₀ (execFilterWrite a0 a1 a2 s) := by
  unfold execFilterWrite
  try dsimp only
  repeat' first
    | (with_reducible first | apply OutMoves.next | assumption)
    | exact Sub.of ‹_› rfl | with_reducible apply State.filterWrite_moves

theorem State.dumpDue_moves (h : Moves m s₀ s) (q : Sub 0x200041 m := by exact .of ‹_› rfl) :
    Moves m s₀ (State.dumpDue s) := by
  unfold State.dumpDue
  try dsimp only
  repeat' first
    | with_reducible assumption | exact Sub.of ‹_› rfl | exact BookMoves.refl | exact BookMoves.reset
    | exact .clear .refl | exact .buckets _ .refl | (intro _)
    | (with_reducible first
        | apply Moves.ite | apply State.modBook_moves | apply State.modCe_moves | apply State.tick_moves)

theorem execClusterDump_moves (h : Moves m s₀ s) (q : Sub 0x200041 m := by exact .of ‹_› rfl) :
    OutMoves m s₀ (execClusterDump s) := by
  unfold execClusterDump
  try dsimp only
  repeat' first
    | (with_reducible first | apply OutMoves.next | assumption)
    | exact Sub.of ‹_› rfl
    | (with_reducible first | apply Moves.ite | apply OutMoves.ite | apply State.dumpDue_moves)

theorem State.dumpMoved_moves (h : Moves m s₀ s) (q : Sub 0x200000 m := by exact .of ‹_› rfl) :
    Moves m s₀ (State.dumpMoved s) := by
  unfold State.dumpMoved
  try dsimp only
  repeat' first
    | with_reducible assumption | exact Sub.of ‹_› rfl | exact BookMoves.refl | exact BookMoves.reset
    | exact .clear .refl | exact .buckets _ .refl | (intro _)
    | (with_reducible first | apply Moves.ite | apply State.modBook_moves)

/-! ### Machine/Porter.lean -/

theorem State.bedOp_moves {a0 a1 a2 a3} (h : Moves m s₀ s) (q : Sub 0x208001 m := by exact .of ‹_› rfl) :
    Moves m s₀ (State.bedOp a0 a1 a2 a3 s).2 := by
  unfold State.bedOp
  try dsimp only
  repeat' first
    | with_reducible assumption | exact Sub.of ‹_› rfl
    | (with_reducible first | apply State.modPo_moves | apply State.record_moves | apply State.tick_moves)
    | split

theorem State.shareBed_moves {a0 a1} (h : Moves m s₀ s) (q : Sub 0x208001 m := by exact .of ‹_› rfl) :
    Moves m s₀ (State.shareBed a0 a1 s) := by
  unfold State.shareBed
  try dsimp only
  repeat' first
    | with_reducible assumption | exact Sub.of ‹_› rfl | (intro _) | with_reducible apply State.bedOp_moves

theorem State.freeBed_moves {a0 a1} (h : Moves m s₀ s) (q : Sub 0x208001 m := by exact .of ‹_› rfl) :
    Moves m s₀ (State.freeBed a0 a1 s) := by
  unfold State.freeBed
  try dsimp only
  repeat' first
    | with_reducible assumption | exact Sub.of ‹_› rfl | (intro _) | with_reducible apply State.bedOp_moves

theorem State.freeOwned_moves {a0} (h : Moves m s₀ s) (q : Sub 0x208001 m := by exact .of ‹_› rfl) :
    Moves m s₀ (State.freeOwned a0 s) := by
  unfold State.freeOwned
  try dsimp only
  repeat' first
    | with_reducible assumption | exact Sub.of ‹_› rfl | (intro _) | with_reducible apply State.freeBed_moves

theorem State.drawFailed_moves {a0} (h : Moves m s₀ s) (q : Sub 0x8001 m := by exact .of ‹_› rfl) :
    Moves m s₀ (State.drawFailed a0 s) := by
  unfold State.drawFailed
  try dsimp only
  repeat' first
    | with_reducible assumption | exact Sub.of ‹_› rfl | (intro _)
    | (with_reducible first | apply State.modPo_moves | apply State.tick_moves)

theorem State.drawBed_moves {a0 a1} (h : Moves m s₀ s) (q : Sub 0x8001 m := by exact .of ‹_› rfl) :
    Moves m s₀ (State.drawBed a0 a1 s).2 := by
  unfold State.drawBed
  try dsimp only
  repeat' first
    | with_reducible assumption | exact Sub.of ‹_› rfl | (intro _)
    | (with_reducible first | apply State.drawFailed_moves | apply State.modPo_moves | apply State.tick_moves)
    | split

theorem State.modBed_moves {a0 a1} (h : Moves m s₀ s) (q : Sub 0x8000 m := by exact .of ‹_› rfl) :
    Moves m s₀ (State.modBed a0 a1 s) := by
  unfold State.modBed
  try dsimp only
  repeat' first
    | with_reducible assumption | exact Sub.of ‹_› rfl | (intro _) | with_reducible apply State.modPo_moves

theorem State.fillBed_moves {a0 a1 a2 a3} (h : Moves m s₀ s) (q : Sub 0x8000 m := by exact .of ‹_› rfl) :
    Moves m s₀ (State.fillBed a0 a1 a2 a3 s) := by
  unfold State.fillBed
  try dsimp only
  repeat' first
    | with_reducible assumption | exact Sub.of ‹_› rfl | (intro _) | with_reducible apply State.modBed_moves

theorem State.freeOfUnit_moves {a0} (h : Moves m s₀ s) (q : Sub 0x208001 m := by exact .of ‹_› rfl) :
    Moves m s₀ (State.freeOfUnit a0 s) := by
  unfold State.freeOfUnit
  try dsimp only
  repeat' first
    | with_reducible assumption | exact Sub.of ‹_› rfl | (intro _)
    | (with_reducible first | apply Moves.foldl | apply State.freeBed_moves)

theorem State.watermark_moves {a0} (h : Moves m s₀ s) (q : Sub 0x208001 m := by exact .of ‹_› rfl) :
    Moves m s₀ (State.watermark a0 s) := by
  unfold State.watermark
  try dsimp only
  repeat' first
    | with_reducible assumption | exact Sub.of ‹_› rfl | (intro _)
    | (with_reducible first
        | apply Moves.ite | apply State.modPo_moves | apply State.record_moves | apply State.tick_moves)

theorem State.watermarks_moves (h : Moves m s₀ s) (q : Sub 0x208001 m := by exact .of ‹_› rfl) :
    Moves m s₀ (State.watermarks s) := by
  unfold State.watermarks
  try dsimp only
  repeat' first
    | with_reducible assumption | exact Sub.of ‹_› rfl | (intro _)
    | (with_reducible first | apply Moves.foldl | apply State.watermark_moves)

theorem State.drawRecords_moves (h : Moves m s₀ s) (q : Sub 0x208001 m := by exact .of ‹_› rfl) :
    Moves m s₀ (State.drawRecords s) := by
  unfold State.drawRecords
  try dsimp only
  repeat' first
    | with_reducible assumption | exact Sub.of ‹_› rfl | (intro _)
    | (with_reducible first
        | apply Moves.ite | apply Moves.foldl | apply State.modPo_moves | apply State.record_moves)

theorem State.dividePools_moves (h : Moves m s₀ s) (q : Sub 0x208001 m := by exact .of ‹_› rfl) :
    Moves m s₀ (State.dividePools s) := by
  unfold State.dividePools
  try dsimp only
  repeat' first
    | with_reducible assumption | exact Sub.of ‹_› rfl | (intro _)
    | (with_reducible first | apply Moves.ite | apply State.modPo_moves | apply State.record_moves)

theorem execDraw_moves {a b c d} (h : Moves m s₀ s) (q : Sub 0x8001 m := by exact .of ‹_› rfl) : OutMoves m s₀ (execDraw a b c d s) := by
  unfold execDraw
  dsimp only
  split
  · exact .next (State.modPo_moves _ h)
  · exact .next (State.modPo_moves _ (State.drawFailed_moves h))

theorem execDrawBySize_moves {a0 a1 a2} (h : Moves m s₀ s) (q : Sub 0x408001 m := by exact .of ‹_› rfl) :
    OutMoves m s₀ (execDrawBySize a0 a1 a2 s) := by
  unfold execDrawBySize
  try dsimp only
  repeat' first
    | (with_reducible first | apply OutMoves.next | assumption)
    | exact Sub.of ‹_› rfl
    | (with_reducible first | apply State.drawBed_moves | apply State.emit_moves)
    | split

theorem State.bedCommand_moves {a0 a1 a2 a3} (h : Moves m s₀ s) (q : Sub 0x608001 m := by exact .of ‹_› rfl) :
    Moves m s₀ (State.bedCommand a0 a1 a2 a3 s) := by
  unfold State.bedCommand
  try dsimp only
  repeat' first
    | with_reducible assumption | exact Sub.of ‹_› rfl
    | (with_reducible first | apply State.bedOp_moves | apply State.emit_moves)

theorem execShareCmd_moves {a0 a1} (h : Moves m s₀ s) (q : Sub 0x608001 m := by exact .of ‹_› rfl) :
    OutMoves m s₀ (execShareCmd a0 a1 s) := by
  unfold execShareCmd
  try dsimp only
  repeat' first
    | (with_reducible first | apply OutMoves.next | assumption)
    | exact Sub.of ‹_› rfl | with_reducible apply State.bedCommand_moves

theorem execReleaseCmd_moves {a0 a1} (h : Moves m s₀ s) (q : Sub 0x608001 m := by exact .of ‹_› rfl) :
    OutMoves m s₀ (execReleaseCmd a0 a1 s) := by
  unfold execReleaseCmd
  try dsimp only
  repeat' first
    | (with_reducible first | apply OutMoves.next | assumption)
    | exact Sub.of ‹_› rfl | with_reducible apply State.bedCommand_moves

theorem execFreeCmd_moves {a0 a1} (h : Moves m s₀ s) (q : Sub 0x608001 m := by exact .of ‹_› rfl) :
    OutMoves m s₀ (execFreeCmd a0 a1 s) := by
  unfold execFreeCmd
  try dsimp only
  repeat' first
    | (with_reducible first | apply OutMoves.next | assumption)
    | exact Sub.of ‹_› rfl | with_reducible apply State.bedCommand_moves

theorem execHandover_moves {a0 a1 a2} (h : Moves m s₀ s) (q : Sub 0x608001 m := by exact .of ‹_› rfl) :
    OutMoves m s₀ (execHandover a0 a1 a2 s) := by
  unfold execHandover
  try dsimp only
  repeat' first
    | (with_reducible first | apply OutMoves.next | assumption)
    | exact Sub.of ‹_› rfl | with_reducible apply State.bedCommand_moves

/-! ### Machine/Timetable.lean -/

theorem State.modStore_moves {a0 a1} (h : Moves m s₀ s) (q : Sub 0x10 m := by exact .of ‹_› rfl) :
    Moves m s₀ (State.modStore a0 a1 s) := by
  unfold State.modStore
  try dsimp only
  repeat' first
    | with_reducible assumption | exact Sub.of ‹_› rfl | (intro _) | with_reducible apply State.modTt_moves

theorem State.checkStore_moves {a0} (h : Moves m s₀ s) (q : Sub 0x10 m := by exact .of ‹_› rfl) :
    Moves m s₀ (State.checkStore a0 s).2 := by
  unfold State.checkStore
  try dsimp only
  repeat' first
    | with_reducible assumption | exact Sub.of ‹_› rfl | (intro _)
    | (with_reducible first | apply Moves.ite | apply Moves.iteSnd | apply State.modStore_moves)

theorem State.learnConfig_moves {a0} (h : Moves m s₀ s) (q : Sub 0x40000 m := by exact .of ‹_› rfl) :
    Moves m s₀ (State.learnConfig a0 s) := by
  unfold State.learnConfig
  try dsimp only
  repeat' first
    | with_reducible assumption | exact Sub.of ‹_› rfl | (intro _)
    | (with_reducible first | apply Moves.ite | apply State.modMd_moves)

theorem State.endSwitch_moves {a0} (h : Moves m s₀ s) (q : Sub 0x14 m := by exact .of ‹_› rfl) :
    Moves m s₀ (State.endSwitch a0 s) := by
  unfold State.endSwitch
  try dsimp only
  repeat' first
    | with_reducible assumption | exact Sub.of ‹_› rfl | (intro _)
    | (with_reducible first | apply State.endRun_moves | apply State.modTt_moves)

theorem State.shadowEnd_moves {a0 a1} (h : Moves m s₀ s) (q : Sub 0x11 m := by exact .of ‹_› rfl) :
    Moves m s₀ (State.shadowEnd a0 a1 s) := by
  unfold State.shadowEnd
  try dsimp only
  repeat' first
    | with_reducible assumption | exact Sub.of ‹_› rfl | (intro _)
    | (with_reducible first | apply State.guarded_moves | apply State.modStore_moves)

theorem execShadowImageEnd_moves {a0 a1} (h : Moves m s₀ s) (q : Sub 0x11 m := by exact .of ‹_› rfl) :
    OutMoves m s₀ (execShadowImageEnd a0 a1 s) := by
  unfold execShadowImageEnd
  try dsimp only
  repeat' first
    | (with_reducible first | apply OutMoves.next | assumption)
    | exact Sub.of ‹_› rfl | with_reducible apply State.shadowEnd_moves

theorem State.ttCheck_moves {a0 a1} (h : Moves m s₀ s) (q : Sub 0x15 m := by exact .of ‹_› rfl) :
    Moves m s₀ (State.ttCheck a0 a1 s) := by
  unfold State.ttCheck
  try dsimp only
  repeat' first
    | with_reducible assumption | exact Sub.of ‹_› rfl | (intro _)
    | (with_reducible first
        | apply Moves.ite | apply State.action_moves | apply State.endRun_moves | apply State.modTt_moves)

theorem execTtCheck_moves {a0 a1} (h : Moves m s₀ s) (q : Sub 0x15 m := by exact .of ‹_› rfl) :
    OutMoves m s₀ (execTtCheck a0 a1 s) := by
  unfold execTtCheck
  try dsimp only
  repeat' first
    | (with_reducible first | apply OutMoves.next | assumption)
    | exact Sub.of ‹_› rfl | with_reducible apply State.ttCheck_moves

theorem execTtCheckDone_moves (h : Moves m s₀ s) (q : Sub 0x14 m := by exact .of ‹_› rfl) :
    OutMoves m s₀ (execTtCheckDone s) := by
  unfold execTtCheckDone
  try dsimp only
  repeat' first
    | (with_reducible first | apply OutMoves.next | assumption)
    | exact Sub.of ‹_› rfl | (intro _)
    | (with_reducible first
        | apply Moves.ite | apply OutMoves.ite | apply State.checkStore_moves | apply State.endRun_moves
        | apply State.modTt_moves)

theorem State.ttSwitch_moves {a0 a1} (h : Moves m s₀ s) (q : Sub 0x15 m := by exact .of ‹_› rfl) :
    Moves m s₀ (State.ttSwitch a0 a1 s) := by
  unfold State.ttSwitch
  try dsimp only
  repeat' first
    | with_reducible assumption | exact Sub.of ‹_› rfl | (intro _)
    | (with_reducible first
        | apply Moves.ite | apply State.action_moves | apply State.endRun_moves | apply State.endSwitch_moves
        | apply State.modTt_moves)
    | split

theorem execTtSwitch_moves {a0 a1} (h : Moves m s₀ s) (q : Sub 0x15 m := by exact .of ‹_› rfl) :
    OutMoves m s₀ (execTtSwitch a0 a1 s) := by
  unfold execTtSwitch
  try dsimp only
  repeat' first
    | (with_reducible first | apply OutMoves.next | assumption)
    | exact Sub.of ‹_› rfl | with_reducible apply State.ttSwitch_moves

theorem State.digestGood_moves {a0} (h : Moves m s₀ s) (q : Sub 0x10 m := by exact .of ‹_› rfl) :
    Moves m s₀ (State.digestGood a0 s) := by
  unfold State.digestGood
  try dsimp only
  repeat' first
    | with_reducible assumption | exact Sub.of ‹_› rfl | (intro _)
    | (with_reducible first | apply Moves.ite | apply State.modTt_moves)

theorem execTtSwitchDigestDone_moves (h : Moves m s₀ s) (q : Sub 0x14 m := by exact .of ‹_› rfl) :
    OutMoves m s₀ (execTtSwitchDigestDone s) := by
  unfold execTtSwitchDigestDone
  try dsimp only
  repeat' first
    | (with_reducible first | apply OutMoves.next | assumption)
    | exact Sub.of ‹_› rfl
    | (with_reducible first
        | apply Moves.ite | apply OutMoves.ite | apply State.digestGood_moves | apply State.endSwitch_moves)
    | split

theorem execTtSwitchClassEmpty_moves (h : Moves m s₀ s) (q : Sub 0x10 m := by exact .of ‹_› rfl) :
    OutMoves m s₀ (execTtSwitchClassEmpty s) := by
  unfold execTtSwitchClassEmpty
  try dsimp only
  repeat' first
    | (with_reducible first | apply OutMoves.next | assumption)
    | exact Sub.of ‹_› rfl | (intro _)
    | (with_reducible first | apply Moves.ite | apply OutMoves.ite | apply State.modTt_moves)
    | split

theorem execTtSwitchClassTimeout_moves (h : Moves m s₀ s) (q : Sub 0x14 m := by exact .of ‹_› rfl) :
    OutMoves m s₀ (execTtSwitchClassTimeout s) := by
  unfold execTtSwitchClassTimeout
  try dsimp only
  repeat' first
    | (with_reducible first | apply OutMoves.next | assumption)
    | exact Sub.of ‹_› rfl | (intro _)
    | (with_reducible first
        | apply Moves.ite | apply OutMoves.ite | apply State.endSwitch_moves | apply State.modTt_moves)
    | split

theorem State.shadowToF1_moves {a0 a1} (h : Moves m s₀ s) (q : Sub 0x11 m := by exact .of ‹_› rfl) :
    Moves m s₀ (State.shadowToF1 a0 a1 s) := by
  unfold State.shadowToF1
  try dsimp only
  repeat' first
    | with_reducible assumption | exact Sub.of ‹_› rfl | (intro _)
    | (with_reducible first | apply State.modStore_moves | apply State.trigger_moves)

theorem execTtShadowToF1_moves {a0 a1} (h : Moves m s₀ s) (q : Sub 0x11 m := by exact .of ‹_› rfl) :
    OutMoves m s₀ (execTtShadowToF1 a0 a1 s) := by
  unfold execTtShadowToF1
  try dsimp only
  repeat' first
    | (with_reducible first | apply OutMoves.next | assumption)
    | exact Sub.of ‹_› rfl | with_reducible apply State.shadowToF1_moves

theorem State.activate_moves {a0} (h : Moves m s₀ s) (q : Sub 0x10011 m := by exact .of ‹_› rfl) :
    Moves m s₀ (State.activate a0 s) := by
  unfold State.activate
  try dsimp only
  repeat' first
    | with_reducible assumption | exact Sub.of ‹_› rfl | (intro _)
    | (with_reducible first
        | apply Moves.ite | apply State.modCy_moves | apply State.modTt_moves | apply State.put_moves)

theorem State.switchAtBoundary_moves (h : Moves m s₀ s) (q : Sub 0x10015 m := by exact .of ‹_› rfl) :
    Moves m s₀ (State.switchAtBoundary s) := by
  unfold State.switchAtBoundary
  try dsimp only
  repeat' first
    | with_reducible assumption | exact Sub.of ‹_› rfl | (intro _)
    | (with_reducible first
        | apply Moves.ite | apply State.activate_moves | apply State.endSwitch_moves | apply State.modTt_moves)
    | split

theorem State.switchReportDue_moves (h : Moves m s₀ s) (q : Sub 0x14 m := by exact .of ‹_› rfl) :
    Moves m s₀ (State.switchReportDue s) := by
  unfold State.switchReportDue
  try dsimp only
  repeat' first
    | with_reducible assumption | exact Sub.of ‹_› rfl | (intro _)
    | (with_reducible first | apply State.endRun_moves | apply State.modTt_moves)
    | split

theorem State.closeUnit_moves {a0} (h : Moves m s₀ s) (q : Sub 0x10 m := by exact .of ‹_› rfl) :
    Moves m s₀ (State.closeUnit a0 s) := by
  unfold State.closeUnit
  try dsimp only
  repeat' first
    | with_reducible assumption | exact Sub.of ‹_› rfl | (intro _) | with_reducible apply State.modTt_moves

theorem State.reopenUnit_moves {a0} (h : Moves m s₀ s) (q : Sub 0x10 m := by exact .of ‹_› rfl) :
    Moves m s₀ (State.reopenUnit a0 s) := by
  unfold State.reopenUnit
  try dsimp only
  repeat' first
    | with_reducible assumption | exact Sub.of ‹_› rfl | (intro _) | with_reducible apply State.modTt_moves

theorem State.closuresAtBoundary_moves (h : Moves m s₀ s) (q : Sub 0x10 m := by exact .of ‹_› rfl) :
    Moves m s₀ (State.closuresAtBoundary s) := by
  unfold State.closuresAtBoundary
  try dsimp only
  repeat' first
    | with_reducible assumption | exact Sub.of ‹_› rfl | (intro _)
    | (with_reducible first | apply Moves.foldl | apply State.modTt_moves)

theorem State.reloadCells_moves (h : Moves m s₀ s) (q : Sub 0x10 m := by exact .of ‹_› rfl) :
    Moves m s₀ (State.reloadCells s) := by
  unfold State.reloadCells
  try dsimp only
  repeat' first
    | with_reducible assumption | exact Sub.of ‹_› rfl | (intro _)
    | (with_reducible first | apply State.modStore_moves | apply State.modTt_moves)

theorem State.reloadStores_moves (h : Moves m s₀ s) (q : Sub 0x10 m := by exact .of ‹_› rfl) :
    Moves m s₀ (State.reloadStores s) := by
  unfold State.reloadStores
  try dsimp only
  repeat' first
    | with_reducible assumption | exact Sub.of ‹_› rfl | (intro _) | with_reducible apply State.modTt_moves

/-! ### Machine/Flow.lean -/

theorem State.pushAt_moves {a0 a1 a2 a3 a4 a5 a6} (h : Moves m s₀ s) (q : Sub 0x40 m := by exact .of ‹_› rfl) :
    Moves m s₀ (State.pushAt a0 a1 a2 a3 a4 a5 a6 s) := by
  unfold State.pushAt
  try dsimp only
  repeat' first
    | with_reducible assumption | exact Sub.of ‹_› rfl | (intro _) | with_reducible apply State.modCe_moves

theorem State.push_moves {a0 a1 a2 a3 a4 a5} (h : Moves m s₀ s) (q : Sub 0x40 m := by exact .of ‹_› rfl) :
    Moves m s₀ (State.push a0 a1 a2 a3 a4 a5 s) := by
  unfold State.push
  try dsimp only
  repeat' first | with_reducible assumption | exact Sub.of ‹_› rfl | with_reducible apply State.pushAt_moves

theorem State.dropJobs_moves {a0} (h : Moves m s₀ s) (q : Sub 0x40 m := by exact .of ‹_› rfl) :
    Moves m s₀ (State.dropJobs a0 s) := by
  unfold State.dropJobs
  try dsimp only
  repeat' first
    | with_reducible assumption | exact Sub.of ‹_› rfl | (intro _) | with_reducible apply State.modCe_moves

theorem State.msixRaise_moves {a0} (h : Moves m s₀ s) (q : Sub 0x500000 m := by exact .of ‹_› rfl) :
    Moves m s₀ (State.msixRaise a0 s) := by
  unfold State.msixRaise
  try dsimp only
  repeat' first
    | with_reducible assumption | exact Sub.of ‹_› rfl | with_reducible exact id | exact TagsOk.filter _
    | with_reducible exact fun _ => TagsOk.nil | refine TagsOk.map _ ?_ | (intro _)
    | (with_reducible first | apply Moves.ite | apply State.emit_moves | apply State.modEp_moves)

theorem State.intaUpdate_moves (h : Moves m s₀ s) (q : Sub 0x500000 m := by exact .of ‹_› rfl) :
    Moves m s₀ (State.intaUpdate s) := by
  unfold State.intaUpdate
  try dsimp only
  repeat' first
    | with_reducible assumption | exact Sub.of ‹_› rfl | with_reducible exact id | exact TagsOk.filter _
    | with_reducible exact fun _ => TagsOk.nil | refine TagsOk.map _ ?_ | (intro _)
    | (with_reducible first | apply Moves.ite | apply State.emit_moves | apply State.modEp_moves)

theorem State.cqInterrupt_moves {a0} (h : Moves m s₀ s) (q : Sub 0x500000 m := by exact .of ‹_› rfl) :
    Moves m s₀ (State.cqInterrupt a0 s) := by
  unfold State.cqInterrupt
  try dsimp only
  repeat' first
    | with_reducible assumption | exact Sub.of ‹_› rfl | (intro _)
    | (with_reducible first | apply Moves.ite | apply State.intaUpdate_moves | apply State.msixRaise_moves)
    | split

theorem State.cqWrite_moves {a0 a1} (h : Moves m s₀ s) (q : Sub 0x500000 m := by exact .of ‹_› rfl) :
    Moves m s₀ (State.cqWrite a0 a1 s) := by
  unfold State.cqWrite
  try dsimp only
  repeat' first
    | with_reducible assumption | exact Sub.of ‹_› rfl | with_reducible exact id | exact TagsOk.filter _
    | with_reducible exact fun _ => TagsOk.nil | refine TagsOk.map _ ?_ | (intro _)
    | (with_reducible first | apply State.cqInterrupt_moves | apply State.emit_moves | apply State.modEp_moves)

theorem State.epComplete_moves {a0} (h : Moves m s₀ s) (q : Sub 0x500000 m := by exact .of ‹_› rfl) :
    Moves m s₀ (State.epComplete a0 s) := by
  unfold State.epComplete
  try dsimp only
  repeat' first
    | with_reducible assumption | exact Sub.of ‹_› rfl | with_reducible exact id | exact TagsOk.filter _
    | with_reducible exact fun _ => TagsOk.nil | refine TagsOk.map _ ?_ | (intro _)
    | (with_reducible first | apply Moves.ite | apply State.cqWrite_moves | apply State.modEp_moves)

theorem State.reply_moves {a0} (h : Moves m s₀ s) (q : Sub 0x40 m := by exact .of ‹_› rfl) :
    Moves m s₀ (State.reply a0 s) := by
  unfold State.reply
  try dsimp only
  repeat' first | with_reducible assumption | exact Sub.of ‹_› rfl | with_reducible apply State.push_moves

theorem State.respond_moves {a0 a1 a2 a3} (h : Moves m s₀ s) (q : Sub 0x40 m := by exact .of ‹_› rfl) :
    Moves m s₀ (State.respond a0 a1 a2 a3 s) := by
  unfold State.respond
  try dsimp only
  repeat' first | with_reducible assumption | exact Sub.of ‹_› rfl | with_reducible apply State.reply_moves

theorem State.respondWith_moves {a0 a1 a2 a3 a4} (h : Moves m s₀ s) (q : Sub 0x40 m := by exact .of ‹_› rfl) :
    Moves m s₀ (State.respondWith a0 a1 a2 a3 a4 s) := by
  unfold State.respondWith
  try dsimp only
  repeat' first | with_reducible assumption | exact Sub.of ‹_› rfl | with_reducible apply State.reply_moves

theorem State.modAssoc_moves {a0 a1} (h : Moves m s₀ s) (q : Sub 0x40 m := by exact .of ‹_› rfl) :
    Moves m s₀ (State.modAssoc a0 a1 s) := by
  unfold State.modAssoc
  try dsimp only
  repeat' first
    | with_reducible assumption | exact Sub.of ‹_› rfl | (intro _)
    | (with_reducible first | apply Moves.ite | apply State.modCe_moves)

theorem State.modConn_moves {a0 a1} (h : Moves m s₀ s) (q : Sub 0x2000 m := by exact .of ‹_› rfl) :
    Moves m s₀ (State.modConn a0 a1 s) := by
  unfold State.modConn
  try dsimp only
  repeat' first
    | with_reducible assumption | exact Sub.of ‹_› rfl | (intro _) | with_reducible apply State.modTr_moves

theorem State.modCmd_moves {a0 a1} (h : Moves m s₀ s) (q : Sub 0x40 m := by exact .of ‹_› rfl) :
    Moves m s₀ (State.modCmd a0 a1 s) := by
  unfold State.modCmd
  try dsimp only
  repeat' first
    | with_reducible assumption | exact Sub.of ‹_› rfl | (intro _) | with_reducible apply State.modCe_moves

theorem State.modBlk_moves {a0 a1 a2} (h : Moves m s₀ s) (q : Sub 0x40 m := by exact .of ‹_› rfl) :
    Moves m s₀ (State.modBlk a0 a1 a2 s) := by
  unfold State.modBlk
  try dsimp only
  repeat' first
    | with_reducible assumption | exact Sub.of ‹_› rfl | (intro _) | with_reducible apply State.modCmd_moves

theorem State.modPart_moves {a0 a1 a2} (h : Moves m s₀ s) (q : Sub 0x40 m := by exact .of ‹_› rfl) :
    Moves m s₀ (State.modPart a0 a1 a2 s) := by
  unfold State.modPart
  try dsimp only
  repeat' first
    | with_reducible assumption | exact Sub.of ‹_› rfl | (intro _) | with_reducible apply State.modCmd_moves

theorem State.finish_moves {a0 a1} (h : Moves m s₀ s) (q : Sub 0x40 m := by exact .of ‹_› rfl) :
    Moves m s₀ (State.finish a0 a1 s) := by
  unfold State.finish
  try dsimp only
  repeat' first
    | with_reducible assumption | exact Sub.of ‹_› rfl | (intro _)
    | (with_reducible first
        | apply Moves.ite | apply State.modCe_moves | apply State.modCmd_moves | apply State.push_moves)
    | split

theorem State.freeCmdBeds_moves {a0} (h : Moves m s₀ s) (q : Sub 0x208041 m := by exact .of ‹_› rfl) :
    Moves m s₀ (State.freeCmdBeds a0 s) := by
  unfold State.freeCmdBeds
  try dsimp only
  repeat' first
    | with_reducible assumption | exact Sub.of ‹_› rfl | (intro _)
    | (with_reducible first | apply Moves.foldl | apply State.freeOwned_moves | apply State.modCmd_moves)
    | dsimp only | split

theorem State.stopCmd_moves {a0} (h : Moves m s₀ s) (q : Sub 0x2182c1 m := by exact .of ‹_› rfl) :
    Moves m s₀ (State.stopCmd a0 s) := by
  unfold State.stopCmd
  try dsimp only
  repeat' first
    | with_reducible assumption | exact Sub.of ‹_› rfl | (intro _)
    | (with_reducible first
        | apply Moves.ite | apply Moves.foldl | apply State.dropJobs_moves | apply State.freeOwned_moves
        | apply State.modCy_moves | apply State.modDrives_moves | apply State.modPe_moves)

theorem State.sealRec_moves {a0 a1} (h : Moves m s₀ s) (q : Sub 0x800 m := by exact .of ‹_› rfl) :
    Moves m s₀ (State.sealRec a0 a1 s) := by
  unfold State.sealRec
  try dsimp only
  repeat' first
    | with_reducible assumption | exact Sub.of ‹_› rfl | (intro _) | with_reducible apply State.modLg_moves

theorem State.makeFinal_moves {a0 a1 a2 a3 a4 a5} (h : Moves m s₀ s) (q : Sub 0x800 m := by exact .of ‹_› rfl) :
    Moves m s₀ (State.makeFinal a0 a1 a2 a3 a4 a5 s) := by
  unfold State.makeFinal
  try dsimp only
  repeat' first
    | with_reducible assumption | exact Sub.of ‹_› rfl | (intro _) | with_reducible apply State.modLg_moves

theorem State.finalRec_moves {a0} (h : Moves m s₀ s) (q : Sub 0x800 m := by exact .of ‹_› rfl) :
    Moves m s₀ (State.finalRec a0 s) := by
  unfold State.finalRec
  try dsimp only
  repeat' first
    | with_reducible assumption | exact Sub.of ‹_› rfl | (intro _)
    | (with_reducible first | apply Moves.ite | apply State.makeFinal_moves | apply State.modLg_moves)

theorem State.issueDrive_moves {a0} (h : Moves m s₀ s) (q : Sub 0x400080 m := by exact .of ‹_› rfl) :
    Moves m s₀ (State.issueDrive a0 s) := by
  unfold State.issueDrive
  try dsimp only
  repeat' first
    | with_reducible assumption | exact Sub.of ‹_› rfl | (intro _)
    | (with_reducible first | apply Moves.ite | apply State.emit_moves | apply State.modDrives_moves)

theorem State.ringNext_moves {a0 a1} (h : Moves m s₀ s) (q : Sub 0x400080 m := by exact .of ‹_› rfl) :
    Moves m s₀ (State.ringNext a0 a1 s) := by
  unfold State.ringNext
  try dsimp only
  repeat' first
    | with_reducible assumption | exact Sub.of ‹_› rfl | (intro _)
    | (with_reducible first | apply Moves.ite | apply State.emit_moves | apply State.modDrives_moves)
    | split

theorem State.readMember_moves {a0 a1 a2 a3 a4} (h : Moves m s₀ s) (q : Sub 0x400080 m := by exact .of ‹_› rfl) :
    Moves m s₀ (State.readMember a0 a1 a2 a3 a4 s) := by
  unfold State.readMember
  try dsimp only
  repeat' first | with_reducible assumption | exact Sub.of ‹_› rfl | with_reducible apply State.issueDrive_moves

theorem State.writeMember_moves {a0 a1 a2 a3 a4 a5 a6 a7} (h : Moves m s₀ s) (q : Sub 0x4000c0 m := by exact .of ‹_› rfl) :
    Moves m s₀ (State.writeMember a0 a1 a2 a3 a4 a5 a6 a7 s) := by
  unfold State.writeMember
  try dsimp only
  repeat' first
    | with_reducible assumption | exact Sub.of ‹_› rfl | (intro _)
    | (with_reducible first | apply Moves.foldl | apply State.issueDrive_moves | apply State.push_moves)

theorem State.modDriveCmd_moves {a0 a1 a2 a3} (h : Moves m s₀ s) (q : Sub 0x80 m := by exact .of ‹_› rfl) :
    Moves m s₀ (State.modDriveCmd a0 a1 a2 a3 s) := by
  unfold State.modDriveCmd
  try dsimp only
  repeat' first
    | with_reducible assumption | exact Sub.of ‹_› rfl | (intro _) | with_reducible apply State.modDrives_moves

theorem State.dropDriveCmd_moves {a0 a1 a2} (h : Moves m s₀ s) (q : Sub 0x400080 m := by exact .of ‹_› rfl) :
    Moves m s₀ (State.dropDriveCmd a0 a1 a2 s) := by
  unfold State.dropDriveCmd
  try dsimp only
  repeat' first
    | with_reducible assumption | exact Sub.of ‹_› rfl | (intro _)
    | (with_reducible first | apply State.modDrives_moves | apply State.ringNext_moves)

theorem State.workNext_moves {a0} (h : Moves m s₀ s) (q : Sub 0x2000 m := by exact .of ‹_› rfl) :
    Moves m s₀ (State.workNext a0 s) := by
  unfold State.workNext
  try dsimp only
  repeat' first
    | with_reducible assumption | exact Sub.of ‹_› rfl | (intro _) | with_reducible apply State.modTr_moves

theorem State.endWaits_moves {a0 a1 a2} (h : Moves m s₀ s) (q : Sub 0x602001 m := by exact .of ‹_› rfl) : Moves m s₀ (State.endWaits a0 a1 a2 s) := by
  induction a1 generalizing a2 s with
  | zero => exact h
  | succ _ ih =>
    cases a2 with
    | nil => exact h
    | cons x r => exact ih (State.record_moves (State.tick_moves (State.emit_moves _ (State.modTr_moves _ h))))

theorem State.waitEnds_moves {a0 a1} (h : Moves m s₀ s) (q : Sub 0x602001 m := by exact .of ‹_› rfl) :
    Moves m s₀ (State.waitEnds a0 a1 s) := by
  unfold State.waitEnds
  try dsimp only
  repeat' first | with_reducible assumption | exact Sub.of ‹_› rfl | with_reducible apply State.endWaits_moves

theorem State.workStaled_moves {a0} (h : Moves m s₀ s) (q : Sub 0x602001 m := by exact .of ‹_› rfl) :
    Moves m s₀ (State.workStaled a0 s) := by
  unfold State.workStaled
  try dsimp only
  repeat' first
    | with_reducible assumption | exact Sub.of ‹_› rfl | (intro _)
    | (with_reducible first
        | apply Moves.foldl | apply State.emit_moves | apply State.modTr_moves | apply State.waitEnds_moves)

theorem State.serveWaits_moves {a0} (h : Moves m s₀ s) (q : Sub 0x602001 m := by exact .of ‹_› rfl) :
    Moves m s₀ (State.serveWaits a0 s) := by
  induction a0 generalizing s with
  | zero => exact h
  | succ _ ih =>
    unfold State.serveWaits
    try dsimp only
    repeat' first
      | with_reducible assumption | exact Sub.of ‹_› rfl | (intro _)
      | (with_reducible first
          | apply State.emit_moves | apply State.tick_moves | apply State.workNext_moves
          | apply State.workStaled_moves)
      | split | with_reducible apply ih

theorem State.enqueueWork_moves {a0 a1} (h : Moves m s₀ s) (q : Sub 0x602001 m := by exact .of ‹_› rfl) :
    Moves m s₀ (State.enqueueWork a0 a1 s) := by
  unfold State.enqueueWork
  try dsimp only
  repeat' first
    | with_reducible assumption | exact Sub.of ‹_› rfl | (intro _)
    | (with_reducible first | apply Moves.ite | apply State.modTr_moves | apply State.serveWaits_moves)

theorem State.postWork_moves {a0 a1} (h : Moves m s₀ s) (q : Sub 0x602001 m := by exact .of ‹_› rfl) :
    Moves m s₀ (State.postWork a0 a1 s).2 := by
  unfold State.postWork
  try dsimp only
  repeat' first
    | with_reducible assumption | exact Sub.of ‹_› rfl
    | (with_reducible first | apply Moves.ite | apply Moves.iteSnd | apply State.enqueueWork_moves)
    | split

theorem State.workStale_moves {a0 a1} (h : Moves m s₀ s) (q : Sub 0x602001 m := by exact .of ‹_› rfl) :
    Moves m s₀ (State.workStale a0 a1 s) := by
  unfold State.workStale
  try dsimp only
  repeat' first
    | with_reducible assumption | exact Sub.of ‹_› rfl | (intro _)
    | (with_reducible first | apply Moves.ite | apply State.modTr_moves | apply State.serveWaits_moves)

theorem State.cacheRemove_moves {a0 a1} (h : Moves m s₀ s) (q : Sub 0x602041 m := by exact .of ‹_› rfl) :
    Moves m s₀ (State.cacheRemove a0 a1 s) := by
  unfold State.cacheRemove
  try dsimp only
  repeat' first
    | with_reducible assumption | exact Sub.of ‹_› rfl | (intro _)
    | (with_reducible first
        | apply Moves.ite | apply State.count_moves | apply State.countDropped_moves | apply State.modCe_moves
        | apply State.workStale_moves)

theorem State.cacheCancelProv_moves {a0 a1} (h : Moves m s₀ s) (q : Sub 0x602041 m := by exact .of ‹_› rfl) :
    Moves m s₀ (State.cacheCancelProv a0 a1 s) := by
  unfold State.cacheCancelProv
  try dsimp only
  repeat' first
    | with_reducible assumption | exact Sub.of ‹_› rfl | (intro _)
    | (with_reducible first
        | apply Moves.ite | apply State.count_moves | apply State.countDropped_moves | apply State.modCe_moves
        | apply State.workStale_moves)

theorem State.cacheTouch_moves {a0 a1} (h : Moves m s₀ s) (q : Sub 0x40 m := by exact .of ‹_› rfl) :
    Moves m s₀ (State.cacheTouch a0 a1 s) := by
  unfold State.cacheTouch
  try dsimp only
  repeat' first
    | with_reducible assumption | exact Sub.of ‹_› rfl | (intro _) | with_reducible apply State.modCe_moves

theorem State.cachePromote_moves {a0 a1} (h : Moves m s₀ s) (q : Sub 0x200041 m := by exact .of ‹_› rfl) :
    Moves m s₀ (State.cachePromote a0 a1 s) := by
  unfold State.cachePromote
  try dsimp only
  repeat' first
    | with_reducible assumption | exact Sub.of ‹_› rfl | (intro _)
    | (with_reducible first
        | apply Moves.ite | apply State.countKept_moves | apply State.modCe_moves | apply State.tick_moves)
    | split

theorem State.cacheEvict_moves (h : Moves m s₀ s) (q : Sub 0x602041 m := by exact .of ‹_› rfl) :
    Moves m s₀ (State.cacheEvict s) := by
  unfold State.cacheEvict
  try dsimp only
  repeat' first
    | with_reducible assumption | exact Sub.of ‹_› rfl | (intro _)
    | (with_reducible first
        | apply State.countDropped_moves | apply State.modCe_moves | apply State.tick_moves
        | apply State.workStale_moves)
    | split

theorem State.cacheRoom_moves (h : Moves m s₀ s) (q : Sub 0x602041 m := by exact .of ‹_› rfl) :
    Moves m s₀ (State.cacheRoom s) := by
  unfold State.cacheRoom
  try dsimp only
  repeat' first
    | with_reducible assumption | exact Sub.of ‹_› rfl
    | (with_reducible first | apply Moves.ite | apply State.cacheEvict_moves)

theorem State.cacheInsert_moves {a0} (h : Moves m s₀ s) (q : Sub 0x602041 m := by exact .of ‹_› rfl) :
    Moves m s₀ (State.cacheInsert a0 s) := by
  unfold State.cacheInsert
  try dsimp only
  repeat' first
    | with_reducible assumption | exact Sub.of ‹_› rfl | (intro _)
    | (with_reducible first | apply Moves.ite | apply State.cacheRoom_moves | apply State.modCe_moves)

theorem State.unpin_moves {a0} (h : Moves m s₀ s) (q : Sub 0x40 m := by exact .of ‹_› rfl) :
    Moves m s₀ (State.unpin a0 s) := by
  unfold State.unpin
  try dsimp only
  repeat' first
    | with_reducible assumption | exact Sub.of ‹_› rfl | (intro _) | with_reducible apply State.modCe_moves

theorem State.putLostPage_moves {a0} (h : Moves m s₀ s) (q : Sub 0x40 m := by exact .of ‹_› rfl) :
    Moves m s₀ (State.putLostPage a0 s) := by
  unfold State.putLostPage
  try dsimp only
  repeat' first
    | with_reducible assumption | exact Sub.of ‹_› rfl | (intro _)
    | (with_reducible first | apply Moves.ite | apply State.modCe_moves)

theorem State.loseBlock_moves {a0 a1 a2} (h : Moves m s₀ s) (q : Sub 0x200041 m := by exact .of ‹_› rfl) :
    Moves m s₀ (State.loseBlock a0 a1 a2 s) := by
  unfold State.loseBlock
  try dsimp only
  repeat' first
    | with_reducible assumption | exact Sub.of ‹_› rfl | (intro _)
    | (with_reducible first
        | apply Moves.ite | apply State.count_moves | apply State.putLostPage_moves | apply State.record_moves
        | apply State.tick_moves)
    | split

theorem State.restoreBlocks_moves {a0 a1 a2} (h : Moves m s₀ s) (q : Sub 0x41 m := by exact .of ‹_› rfl) :
    Moves m s₀ (State.restoreBlocks a0 a1 a2 s) := by
  unfold State.restoreBlocks
  try dsimp only
  repeat' first
    | with_reducible assumption | exact Sub.of ‹_› rfl | (intro _)
    | (with_reducible first | apply Moves.ite | apply State.put_moves | apply State.putLostPage_moves)

theorem State.aerServe_moves {a0} (h : Moves m s₀ s) (q : Sub 0x40 m := by exact .of ‹_› rfl) :
    Moves m s₀ (State.aerServe a0 s) := by
  unfold State.aerServe
  try dsimp only
  repeat' first
    | with_reducible assumption | exact Sub.of ‹_› rfl | (intro _)
    | (with_reducible first | apply Moves.ite | apply State.modAssoc_moves | apply State.respondWith_moves)
    | split

theorem State.raiseOn_moves {a0 a1 a2 a3} (h : Moves m s₀ s) (q : Sub 0x40 m := by exact .of ‹_› rfl) :
    Moves m s₀ (State.raiseOn a0 a1 a2 a3 s) := by
  unfold State.raiseOn
  try dsimp only
  repeat' first
    | with_reducible assumption | exact Sub.of ‹_› rfl | (intro _)
    | (with_reducible first | apply Moves.ite | apply State.aerServe_moves | apply State.modAssoc_moves)
    | split

theorem State.raiseAll_moves {a0 a1 a2} (h : Moves m s₀ s) (q : Sub 0x40 m := by exact .of ‹_› rfl) :
    Moves m s₀ (State.raiseAll a0 a1 a2 s) := by
  unfold State.raiseAll
  try dsimp only
  repeat' first
    | with_reducible assumption | exact Sub.of ‹_› rfl | (intro _)
    | (with_reducible first | apply Moves.foldl | apply State.raiseOn_moves)

theorem State.raiseLost_moves {a0} (h : Moves m s₀ s) (q : Sub 0x40 m := by exact .of ‹_› rfl) :
    Moves m s₀ (State.raiseLost a0 s) := by
  unfold State.raiseLost
  try dsimp only
  repeat' first
    | with_reducible assumption | exact Sub.of ‹_› rfl | (intro _)
    | (with_reducible first | apply Moves.ite | apply Moves.foldl | apply State.raiseOn_moves)

theorem State.loseReported_moves {a0 a1 a2} (h : Moves m s₀ s) (q : Sub 0x200041 m := by exact .of ‹_› rfl) :
    Moves m s₀ (State.loseReported a0 a1 a2 s) := by
  unfold State.loseReported
  try dsimp only
  repeat' first
    | with_reducible assumption | exact Sub.of ‹_› rfl
    | (with_reducible first | apply Moves.ite | apply State.loseBlock_moves | apply State.raiseLost_moves)

theorem State.loseRead_moves {a0 a1} (h : Moves m s₀ s) (q : Sub 0x200041 m := by exact .of ‹_› rfl) :
    Moves m s₀ (State.loseRead a0 a1 s) := by
  unfold State.loseRead
  try dsimp only
  repeat' first
    | with_reducible assumption | exact Sub.of ‹_› rfl
    | (with_reducible first | apply Moves.ite | apply State.loseReported_moves | apply State.record_moves)

/-! ### Machine/Rows.lean -/

theorem State.modJob_moves {a0 a1} (h : Moves m s₀ s) (q : Sub 0x200 m := by exact .of ‹_› rfl) :
    Moves m s₀ (State.modJob a0 a1 s) := by
  unfold State.modJob
  try dsimp only
  repeat' first
    | with_reducible assumption | exact Sub.of ‹_› rfl | (intro _) | with_reducible apply State.modPe_moves

theorem State.dropJob_moves {a0} (h : Moves m s₀ s) (q : Sub 0x208241 m := by exact .of ‹_› rfl) :
    Moves m s₀ (State.dropJob a0 s) := by
  unfold State.dropJob
  try dsimp only
  repeat' first
    | with_reducible assumption | exact Sub.of ‹_› rfl | (intro _)
    | (with_reducible first
        | apply Moves.ite | apply Moves.foldl | apply State.dropJobs_moves | apply State.freeOwned_moves
        | apply State.modPe_moves)
    | dsimp only | split

theorem State.askMember_moves {a0 a1} (h : Moves m s₀ s) (q : Sub 0x4002c1 m := by exact .of ‹_› rfl) :
    Moves m s₀ (State.askMember a0 a1 s) := by
  unfold State.askMember
  try dsimp only
  repeat' first
    | with_reducible assumption | exact Sub.of ‹_› rfl | (intro _)
    | (with_reducible first
        | apply Moves.ite | apply State.count_moves | apply State.modJob_moves | apply State.push_moves
        | apply State.readMember_moves)
    | split

theorem State.planJob_moves {a0} (h : Moves m s₀ s) (q : Sub 0x4002c1 m := by exact .of ‹_› rfl) :
    Moves m s₀ (State.planJob a0 s) := by
  unfold State.planJob
  try dsimp only
  repeat' first
    | with_reducible assumption | exact Sub.of ‹_› rfl | (intro _)
    | (with_reducible first
        | apply Moves.ite | apply Moves.foldl | apply State.askMember_moves | apply State.modJob_moves)
    | dsimp only | split

theorem State.writeRow_moves {a0 a1 a2} (h : Moves m s₀ s) (q : Sub 0x60a2c1 m := by exact .of ‹_› rfl) :
    Moves m s₀ (State.writeRow a0 a1 a2 s) := by
  unfold State.writeRow
  try dsimp only
  repeat' first
    | with_reducible assumption | exact Sub.of ‹_› rfl | (intro _)
    | (with_reducible first
        | apply Moves.ite | apply State.cacheCancelProv_moves | apply State.freeOwned_moves
        | apply State.modJob_moves | apply State.tick_moves | apply State.writeMember_moves)
    | split

theorem State.emitRow_moves {a0 a1 a2} (h : Moves m s₀ s) (q : Sub 0x60a2c1 m := by exact .of ‹_› rfl) :
    Moves m s₀ (State.emitRow a0 a1 a2 s) := by
  unfold State.emitRow
  try dsimp only
  repeat' first
    | with_reducible assumption | exact Sub.of ‹_› rfl | (intro _)
    | (with_reducible first
        | apply Moves.ite | apply Moves.foldl | apply State.modJob_moves | apply State.pushAt_moves
        | apply State.writeRow_moves)
    | dsimp only | split

theorem State.countCase_moves {a0 a1} (h : Moves m s₀ s) (q : Sub 0x1 m := by exact .of ‹_› rfl) :
    Moves m s₀ (State.countCase a0 a1 s) := by
  unfold State.countCase
  try dsimp only
  repeat' first
    | with_reducible assumption | exact Sub.of ‹_› rfl
    | (with_reducible first | apply Moves.ite | apply State.tick_moves)
    | split

theorem State.modGroup_moves {a0 a1 a2} (h : Moves m s₀ s) (q : Sub 0x800 m := by exact .of ‹_› rfl) :
    Moves m s₀ (State.modGroup a0 a1 a2 s) := by
  unfold State.modGroup
  try dsimp only
  repeat' first
    | with_reducible assumption | exact Sub.of ‹_› rfl | (intro _) | with_reducible apply State.modLg_moves

theorem State.loseRow_moves {a0 a1 a2} (h : Moves m s₀ s) (q : Sub 0x200041 m := by exact .of ‹_› rfl) :
    Moves m s₀ (State.loseRow a0 a1 a2 s) := by
  unfold State.loseRow
  try dsimp only
  repeat' first
    | with_reducible assumption | exact Sub.of ‹_› rfl | (intro _)
    | (with_reducible first | apply Moves.foldl | apply State.loseReported_moves)

theorem State.computeApply_moves {a0} (h : Moves m s₀ s) (q : Sub 0x60aac1 m := by exact .of ‹_› rfl) :
    Moves m s₀ (State.computeApply a0 s) := by
  unfold State.computeApply
  try dsimp only
  repeat' first
    | with_reducible assumption | exact Sub.of ‹_› rfl | (intro _)
    | (with_reducible first
        | apply Moves.ite | apply State.countCase_moves | apply State.emitRow_moves | apply State.loseRow_moves
        | apply State.modGroup_moves)

theorem State.computeResync_moves {a0} (h : Moves m s₀ s) (q : Sub 0x60a2c1 m := by exact .of ‹_› rfl) :
    Moves m s₀ (State.computeResync a0 s) := by
  unfold State.computeResync
  try dsimp only
  repeat' first
    | with_reducible assumption | exact Sub.of ‹_› rfl | (intro _)
    | (with_reducible first | apply State.emitRow_moves | apply State.loseRow_moves)

theorem State.computeReplay_moves {a0} (h : Moves m s₀ s) (q : Sub 0x60a2c1 m := by exact .of ‹_› rfl) :
    Moves m s₀ (State.computeReplay a0 s) := by
  unfold State.computeReplay
  try dsimp only
  repeat' first
    | with_reducible assumption | exact Sub.of ‹_› rfl | (intro _)
    | (with_reducible first
        | apply Moves.ite | apply Moves.foldl | apply State.count_moves | apply State.countCase_moves
        | apply State.dropJob_moves | apply State.emitRow_moves | apply State.loseRow_moves
        | apply State.tick_moves)
    | dsimp only | split

theorem State.modHold_moves {a0 a1 a2} (h : Moves m s₀ s) (q : Sub 0x400 m := by exact .of ‹_› rfl) :
    Moves m s₀ (State.modHold a0 a1 a2 s) := by
  unfold State.modHold
  try dsimp only
  repeat' first
    | with_reducible assumption | exact Sub.of ‹_› rfl | (intro _) | with_reducible apply State.modRb_moves

theorem State.computeRebuild_moves {a0} (h : Moves m s₀ s) (q : Sub 0x60a6c1 m := by exact .of ‹_› rfl) :
    Moves m s₀ (State.computeRebuild a0 s) := by
  unfold State.computeRebuild
  try dsimp only
  repeat' first
    | with_reducible assumption | exact Sub.of ‹_› rfl | (intro _)
    | (with_reducible first
        | apply Moves.ite | apply State.countCase_moves | apply State.dropJob_moves | apply State.emitRow_moves
        | apply State.loseRow_moves | apply State.modHold_moves | apply State.tick_moves)
    | split

theorem State.passCount_moves {a0 a1 a2 a3} (h : Moves m s₀ s) (q : Sub 0x400 m := by exact .of ‹_› rfl) :
    Moves m s₀ (State.passCount a0 a1 a2 a3 s) := by
  unfold State.passCount
  try dsimp only
  repeat' first
    | with_reducible assumption | exact Sub.of ‹_› rfl | (intro _)
    | (with_reducible first | apply Moves.ite | apply State.modRb_moves)

theorem State.computePatrol_moves {a0} (h : Moves m s₀ s) (q : Sub 0x60a6c1 m := by exact .of ‹_› rfl) :
    Moves m s₀ (State.computePatrol a0 s) := by
  unfold State.computePatrol
  try dsimp only
  repeat' first
    | with_reducible assumption | exact Sub.of ‹_› rfl | (intro _)
    | (with_reducible first
        | apply Moves.ite | apply Moves.foldl | apply State.countCase_moves | apply State.emitRow_moves
        | apply State.loseRow_moves | apply State.modRb_moves | apply State.passCount_moves
        | apply State.record_moves | apply State.tick_moves)
    | dsimp only | split

theorem State.nightRequest_moves {a0} (h : Moves m s₀ s) (q : Sub 0x401 m := by exact .of ‹_› rfl) :
    Moves m s₀ (State.nightRequest a0 s) := by
  unfold State.nightRequest
  try dsimp only
  repeat' first
    | with_reducible assumption | exact Sub.of ‹_› rfl | (intro _)
    | (with_reducible first | apply Moves.ite | apply State.modRb_moves | apply State.tick_moves)

theorem State.blockLost_moves {a0 a1} (h : Moves m s₀ s) (q : Sub 0x41 m := by exact .of ‹_› rfl) :
    Moves m s₀ (State.blockLost a0 a1 s) := by
  unfold State.blockLost
  try dsimp only
  repeat' first
    | with_reducible assumption | exact Sub.of ‹_› rfl | (intro _)
    | (with_reducible first | apply State.modBlk_moves | apply State.tick_moves)

theorem State.computeRecon_moves {a0 a1 a2} (h : Moves m s₀ s) (q : Sub 0x641 m := by exact .of ‹_› rfl) :
    Moves m s₀ (State.computeRecon a0 a1 a2 s) := by
  unfold State.computeRecon
  try dsimp only
  repeat' first
    | with_reducible assumption | exact Sub.of ‹_› rfl | (intro _)
    | (with_reducible first
        | apply Moves.ite | apply State.countCase_moves | apply State.modJob_moves | apply State.nightRequest_moves
        | apply State.pushAt_moves | apply State.tick_moves)

theorem State.computeJob_moves {a0} (h : Moves m s₀ s) (q : Sub 0x60aec1 m := by exact .of ‹_› rfl) :
    Moves m s₀ (State.computeJob a0 s) := by
  unfold State.computeJob
  try dsimp only
  repeat' first
    | with_reducible assumption | exact Sub.of ‹_› rfl
    | (with_reducible first
        | apply State.computeApply_moves | apply State.computePatrol_moves | apply State.computeRebuild_moves
        | apply State.computeRecon_moves | apply State.computeReplay_moves | apply State.computeResync_moves)
    | split

theorem State.groupDone_moves {a0} (h : Moves m s₀ s) (q : Sub 0x200801 m := by exact .of ‹_› rfl) :
    Moves m s₀ (State.groupDone a0 s) := by
  unfold State.groupDone
  try dsimp only
  repeat' first
    | with_reducible assumption | exact Sub.of ‹_› rfl | (intro _)
    | (with_reducible first
        | apply Moves.ite | apply Moves.foldl | apply State.finalRec_moves | apply State.modLg_moves
        | apply State.record_moves)

theorem State.groupRow_moves {a0 a1} (h : Moves m s₀ s) (q : Sub 0x200801 m := by exact .of ‹_› rfl) :
    Moves m s₀ (State.groupRow a0 a1 s) := by
  unfold State.groupRow
  try dsimp only
  repeat' first
    | with_reducible assumption | exact Sub.of ‹_› rfl | (intro _)
    | (with_reducible first | apply Moves.ite | apply State.groupDone_moves | apply State.modGroup_moves)
    | split

theorem State.patrolRecord_moves {a0 a1} (h : Moves m s₀ s) (q : Sub 0x200001 m := by exact .of ‹_› rfl) :
    Moves m s₀ (State.patrolRecord a0 a1 s) := by
  unfold State.patrolRecord
  try dsimp only
  repeat' first
    | with_reducible assumption | exact Sub.of ‹_› rfl
    | (with_reducible first | apply Moves.ite | apply State.record_moves)

theorem State.endJob_moves {a0} (h : Moves m s₀ s) (q : Sub 0x208e41 m := by exact .of ‹_› rfl) :
    Moves m s₀ (State.endJob a0 s) := by
  unfold State.endJob
  try dsimp only
  repeat' first
    | with_reducible assumption | exact Sub.of ‹_› rfl | (intro _)
    | (with_reducible first
        | apply Moves.ite | apply State.dropJob_moves | apply State.groupRow_moves | apply State.modHold_moves
        | apply State.modRb_moves | apply State.patrolRecord_moves)
    | split

theorem State.runJob_moves {a0} (h : Moves m s₀ s) (q : Sub 0x60aec1 m := by exact .of ‹_› rfl) :
    Moves m s₀ (State.runJob a0 s) := by
  unfold State.runJob
  try dsimp only
  repeat' first
    | with_reducible assumption | exact Sub.of ‹_› rfl
    | (with_reducible first | apply Moves.ite | apply State.computeJob_moves | apply State.endJob_moves)
    | split

theorem State.rowInput_moves {a0 a1 a2 a3} (h : Moves m s₀ s) (q : Sub 0x60aec1 m := by exact .of ‹_› rfl) :
    Moves m s₀ (State.rowInput a0 a1 a2 a3 s) := by
  unfold State.rowInput
  try dsimp only
  repeat' first
    | with_reducible assumption | exact Sub.of ‹_› rfl | (intro _)
    | (with_reducible first | apply State.modJob_moves | apply State.runJob_moves)

theorem State.rowErase_moves {a0 a1 a2} (h : Moves m s₀ s) (q : Sub 0x60aec1 m := by exact .of ‹_› rfl) :
    Moves m s₀ (State.rowErase a0 a1 a2 s) := by
  unfold State.rowErase
  try dsimp only
  repeat' first
    | with_reducible assumption | exact Sub.of ‹_› rfl | (intro _)
    | (with_reducible first
        | apply Moves.ite | apply State.blockLost_moves | apply State.countCase_moves | apply State.dropJob_moves
        | apply State.loseRead_moves | apply State.modJob_moves | apply State.planJob_moves
        | apply State.runJob_moves)
    | split

theorem State.startJob_moves {a0} (h : Moves m s₀ s) (q : Sub 0x60aec1 m := by exact .of ‹_› rfl) :
    Moves m s₀ (State.startJob a0 s) := by
  unfold State.startJob
  try dsimp only
  repeat' first
    | with_reducible assumption | exact Sub.of ‹_› rfl | (intro _)
    | (with_reducible first
        | apply Moves.ite | apply Moves.foldl | apply State.modPe_moves | apply State.planJob_moves
        | apply State.runJob_moves)

theorem State.startRecon_moves {a0 a1 a2} (h : Moves m s₀ s) (q : Sub 0x60aec1 m := by exact .of ‹_› rfl) :
    Moves m s₀ (State.startRecon a0 a1 a2 s) := by
  unfold State.startRecon
  try dsimp only
  repeat' first
    | with_reducible assumption | exact Sub.of ‹_› rfl
    | (with_reducible first
        | apply Moves.ite | apply State.blockLost_moves | apply State.loseRead_moves | apply State.startJob_moves
        | apply State.tick_moves)
    | split

theorem State.rowResult_moves {a0 a1 a2} (h : Moves m s₀ s) (q : Sub 0x60aec1 m := by exact .of ‹_› rfl) :
    Moves m s₀ (State.rowResult a0 a1 a2 s) := by
  unfold State.rowResult
  try dsimp only
  repeat' first
    | with_reducible assumption | exact Sub.of ‹_› rfl | (intro _)
    | (with_reducible first
        | apply Moves.ite | apply State.dropJob_moves | apply State.endJob_moves | apply State.fillBed_moves
        | apply State.freeOwned_moves | apply State.modBlk_moves | apply State.writeRow_moves)
    | split

theorem State.provSettle_moves {a0} (h : Moves m s₀ s) (q : Sub 0x6002c1 m := by exact .of ‹_› rfl) :
    Moves m s₀ (State.provSettle a0 s).2 := by
  unfold State.provSettle
  try dsimp only
  repeat' first
    | with_reducible assumption | exact Sub.of ‹_› rfl | (intro _)
    | (with_reducible first
        | apply Moves.ite | apply Moves.iteSnd | apply Moves.foldl | apply Moves.foldlSnd | apply Moves.foldlFst
        | apply State.cachePromote_moves | apply State.count_moves | apply State.dropJobs_moves
        | apply State.modJob_moves | apply State.planJob_moves)
    | dsimp only | split

/-! ### Machine/Writes.lean -/

theorem State.wantKey_moves {a0} (h : Moves m s₀ s) (q : Sub 0x10000 m := by exact .of ‹_› rfl) :
    Moves m s₀ (State.wantKey a0 s) := by
  unfold State.wantKey
  try dsimp only
  repeat' first
    | with_reducible assumption | exact Sub.of ‹_› rfl | (intro _)
    | (with_reducible first | apply Moves.ite | apply State.modCy_moves)

theorem State.cipherRequest_moves {a0 a1 a2} (h : Moves m s₀ s) (q : Sub 0x10000 m := by exact .of ‹_› rfl) :
    Moves m s₀ (State.cipherRequest a0 a1 a2 s) := by
  unfold State.cipherRequest
  try dsimp only
  repeat' first
    | with_reducible assumption | exact Sub.of ‹_› rfl | (intro _)
    | (with_reducible first
        | apply Moves.ite | apply Moves.foldl | apply State.modCy_moves | apply State.wantKey_moves)

theorem State.retag_moves {a0 a1 a2 a3} (h : Moves m s₀ s) (q : Sub 0x10000 m := by exact .of ‹_› rfl) :
    Moves m s₀ (State.retag a0 a1 a2 a3 s) := by
  unfold State.retag
  try dsimp only
  repeat' first
    | with_reducible assumption | exact Sub.of ‹_› rfl | (intro _)
    | (with_reducible first | apply Moves.ite | apply State.modCy_moves | apply State.wantKey_moves)

theorem State.rekeyOut_moves {a0} (h : Moves m s₀ s) (q : Sub 0x212001 m := by exact .of ‹_› rfl) :
    Moves m s₀ (State.rekeyOut a0 s) := by
  unfold State.rekeyOut
  try dsimp only
  repeat' first
    | with_reducible assumption | exact Sub.of ‹_› rfl | (intro _)
    | (with_reducible first | apply State.modConn_moves | apply State.record_moves | apply State.retag_moves)
    | split

theorem State.takeSeq_moves {a0} (h : Moves m s₀ s) (q : Sub 0x212001 m := by exact .of ‹_› rfl) :
    Moves m s₀ (State.takeSeq a0 s) := by
  unfold State.takeSeq
  try dsimp only
  repeat' first
    | with_reducible assumption | exact Sub.of ‹_› rfl | (intro _)
    | (with_reducible first | apply Moves.ite | apply State.modConn_moves | apply State.rekeyOut_moves)
    | split

theorem State.dropReq_moves {a0 a1} (h : Moves m s₀ s) (q : Sub 0x10000 m := by exact .of ‹_› rfl) :
    Moves m s₀ (State.dropReq a0 a1 s) := by
  unfold State.dropReq
  try dsimp only
  repeat' first
    | with_reducible assumption | exact Sub.of ‹_› rfl | (intro _) | with_reducible apply State.modCy_moves

theorem State.modRoom_moves {a0 a1} (h : Moves m s₀ s) (q : Sub 0x2000 m := by exact .of ‹_› rfl) :
    Moves m s₀ (State.modRoom a0 a1 s) := by
  unfold State.modRoom
  try dsimp only
  repeat' first
    | with_reducible assumption | exact Sub.of ‹_› rfl | (intro _) | with_reducible apply State.modTr_moves

theorem State.failCmd_moves {a0 a1} (h : Moves m s₀ s) (q : Sub 0x218ae1 m := by exact .of ‹_› rfl) :
    Moves m s₀ (State.failCmd a0 a1 s) := by
  unfold State.failCmd
  try dsimp only
  repeat' first
    | with_reducible assumption | exact Sub.of ‹_› rfl | (intro _)
    | (with_reducible first
        | apply Moves.ite | apply Moves.foldl | apply State.finalRec_moves | apply State.finish_moves
        | apply State.freeCmdBeds_moves | apply State.modAdm_moves | apply State.modCmd_moves
        | apply State.stopCmd_moves)
    | dsimp only | split

theorem State.enqueue_moves {a0 a1} (h : Moves m s₀ s) (q : Sub 0x20 m := by exact .of ‹_› rfl) :
    Moves m s₀ (State.enqueue a0 a1 s) := by
  unfold State.enqueue
  try dsimp only
  repeat' first
    | with_reducible assumption | exact Sub.of ‹_› rfl | (intro _) | with_reducible apply State.modAdm_moves

theorem State.countWait_moves {a0 a1} (h : Moves m s₀ s) (q : Sub 0x21 m := by exact .of ‹_› rfl) :
    Moves m s₀ (State.countWait a0 a1 s) := by
  unfold State.countWait
  try dsimp only
  repeat' first
    | with_reducible assumption | exact Sub.of ‹_› rfl | (intro _)
    | (with_reducible first | apply Moves.ite | apply State.modAdm_moves | apply State.tick_moves)

theorem State.unguard_moves {a0 a1} (h : Moves m s₀ s) (q : Sub 0x800 m := by exact .of ‹_› rfl) :
    Moves m s₀ (State.unguard a0 a1 s) := by
  unfold State.unguard
  try dsimp only
  repeat' first
    | with_reducible assumption | exact Sub.of ‹_› rfl | (intro _)
    | (with_reducible first | apply Moves.ite | apply State.modLg_moves)

theorem State.retryAdmitted_moves {a0 a1} (h : Moves m s₀ s) (q : Sub 0x40 m := by exact .of ‹_› rfl) :
    Moves m s₀ (State.retryAdmitted a0 a1 s) := by
  unfold State.retryAdmitted
  try dsimp only
  repeat' first
    | with_reducible assumption | exact Sub.of ‹_› rfl | (intro _)
    | (with_reducible first | apply Moves.ite | apply State.finish_moves | apply State.modCmd_moves)
    | split

theorem State.admitPiece_moves {a0 a1} (h : Moves m s₀ s) (q : Sub 0x21aae1 m := by exact .of ‹_› rfl) :
    Moves m s₀ (State.admitPiece a0 a1 s) := by
  unfold State.admitPiece
  try dsimp only
  repeat' first
    | with_reducible assumption | exact Sub.of ‹_› rfl | (intro _)
    | (with_reducible first
        | apply Moves.ite | apply Moves.foldl | apply State.cipherRequest_moves | apply State.failCmd_moves
        | apply State.modAdm_moves | apply State.modBlk_moves | apply State.modCe_moves | apply State.modCmd_moves
        | apply State.modPart_moves | apply State.modPe_moves | apply State.modRoom_moves
        | apply State.retryAdmitted_moves | apply State.shareBed_moves | apply State.unguard_moves)
    | dsimp only | split

theorem State.admitClass_moves {a0 a1} (h : Moves m s₀ s) (q : Sub 0x21aae1 m := by exact .of ‹_› rfl) :
    Moves m s₀ (State.admitClass a0 a1 s) := by
  induction a1 generalizing s with
  | zero => exact h
  | succ _ ih =>
    unfold State.admitClass
    try dsimp only
    repeat' first
      | with_reducible assumption | exact Sub.of ‹_› rfl | (intro _)
      | (with_reducible first
          | apply Moves.ite | apply State.admitPiece_moves | apply State.countWait_moves | apply State.modAdm_moves
          | apply State.tick_moves)
      | split | with_reducible apply ih

theorem State.admitAll_moves (h : Moves m s₀ s) (q : Sub 0x21aae1 m := by exact .of ‹_› rfl) :
    Moves m s₀ (State.admitAll s) := by
  unfold State.admitAll
  try dsimp only
  repeat' first
    | with_reducible assumption | exact Sub.of ‹_› rfl | (intro _)
    | (with_reducible first | apply Moves.foldl | apply State.admitClass_moves)

theorem State.newBerths_moves (h : Moves m s₀ s) (q : Sub 0x20 m := by exact .of ‹_› rfl) :
    Moves m s₀ (State.newBerths s) := by
  unfold State.newBerths
  try dsimp only
  repeat' first
    | with_reducible assumption | exact Sub.of ‹_› rfl | (intro _) | with_reducible apply State.modAdm_moves

theorem State.supersede_moves {a0 a1 a2 a3} (h : Moves m s₀ s) (q : Sub 0x800 m := by exact .of ‹_› rfl) :
    Moves m s₀ (State.supersede a0 a1 a2 a3 s) := by
  unfold State.supersede
  try dsimp only
  repeat' first
    | with_reducible assumption | exact Sub.of ‹_› rfl | (intro _)
    | (with_reducible first | apply Moves.ite | apply State.modLg_moves)

theorem State.sealIntent_moves {a0 a1} (h : Moves m s₀ s) (q : Sub 0x840 m := by exact .of ‹_› rfl) :
    Moves m s₀ (State.sealIntent a0 a1 s) := by
  unfold State.sealIntent
  try dsimp only
  repeat' first
    | with_reducible assumption | exact Sub.of ‹_› rfl | (intro _)
    | (with_reducible first
        | apply Moves.ite | apply State.modPart_moves | apply State.sealRec_moves | apply State.supersede_moves)
    | split

theorem State.sealZero_moves {a0 a1} (h : Moves m s₀ s) (q : Sub 0x841 m := by exact .of ‹_› rfl) :
    Moves m s₀ (State.sealZero a0 a1 s) := by
  unfold State.sealZero
  try dsimp only
  repeat' first
    | with_reducible assumption | exact Sub.of ‹_› rfl | (intro _)
    | (with_reducible first
        | apply Moves.ite | apply State.count_moves | apply State.modCmd_moves | apply State.modPart_moves
        | apply State.sealRec_moves | apply State.tick_moves)
    | split

theorem State.epAsk_moves {a0 a1} (h : Moves m s₀ s) (q : Sub 0x500001 m := by exact .of ‹_› rfl) : Moves m s₀ (State.epAsk a0 a1 s) := by
  unfold State.epAsk
  dsimp only
  split
  · next e =>
    refine .ite (State.emit_moves _ (State.modEp_moves _ h fun k => ?_)) (State.modEp_moves _ h id)
    exact TagsOk.snoc _ k e
  · exact State.tick_moves (State.modEp_moves _ h id)

theorem State.epAskSpan_moves {a0 a1 a2 a3} (h : Moves m s₀ s) (q : Sub 0x500001 m := by exact .of ‹_› rfl) :
    Moves m s₀ (State.epAskSpan a0 a1 a2 a3 s) := by
  unfold State.epAskSpan
  try dsimp only
  repeat' first
    | with_reducible assumption | exact Sub.of ‹_› rfl | (intro _)
    | (with_reducible first | apply Moves.foldl | apply State.epAsk_moves)

theorem State.epAskBlock_moves {a0 a1} (h : Moves m s₀ s) (q : Sub 0x500001 m := by exact .of ‹_› rfl) :
    Moves m s₀ (State.epAskBlock a0 a1 s) := by
  unfold State.epAskBlock
  try dsimp only
  repeat' first
    | with_reducible assumption | exact Sub.of ‹_› rfl | (intro _)
    | (with_reducible first
        | apply Moves.foldl | apply Moves.foldlSnd | apply Moves.foldlFst | apply State.epAskSpan_moves)

theorem State.epAskList_moves {a0} (h : Moves m s₀ s) (q : Sub 0x500001 m := by exact .of ‹_› rfl) :
    Moves m s₀ (State.epAskList a0 s) := by
  unfold State.epAskList
  try dsimp only
  repeat' first
    | with_reducible assumption | exact Sub.of ‹_› rfl
    | (with_reducible first | apply Moves.ite | apply State.epAskSpan_moves)

theorem State.startIntake_moves {a0 a1} (h : Moves m s₀ s) (q : Sub 0x718ae1 m := by exact .of ‹_› rfl) :
    Moves m s₀ (State.startIntake a0 a1 s) := by
  unfold State.startIntake
  try dsimp only
  repeat' first
    | with_reducible assumption | exact Sub.of ‹_› rfl | (intro _)
    | (with_reducible first
        | apply Moves.ite | apply State.epAskBlock_moves | apply State.failCmd_moves | apply State.modBlk_moves
        | apply State.push_moves | apply State.tick_moves)
    | split

theorem State.pump_moves (h : Moves m s₀ s) (q : Sub 0x718ae1 m := by exact .of ‹_› rfl) :
    Moves m s₀ (State.pump s) := by
  unfold State.pump
  try dsimp only
  repeat' first
    | with_reducible assumption | exact Sub.of ‹_› rfl | (intro _)
    | (with_reducible first
        | apply Moves.ite | apply Moves.foldl | apply State.sealIntent_moves | apply State.sealZero_moves
        | apply State.startIntake_moves)

theorem State.pullAgain_moves {a0 a1} (h : Moves m s₀ s) (q : Sub 0x718ae1 m := by exact .of ‹_› rfl) :
    Moves m s₀ (State.pullAgain a0 a1 s) := by
  unfold State.pullAgain
  try dsimp only
  repeat' first
    | with_reducible assumption | exact Sub.of ‹_› rfl | (intro _)
    | (with_reducible first
        | apply Moves.ite | apply State.cipherRequest_moves | apply State.dropJobs_moves
        | apply State.dropReq_moves | apply State.freeOwned_moves | apply State.modBlk_moves
        | apply State.startIntake_moves)
    | split

theorem State.discardAccum_moves {a0 a1} (h : Moves m s₀ s) (q : Sub 0x208241 m := by exact .of ‹_› rfl) :
    Moves m s₀ (State.discardAccum a0 a1 s) := by
  unfold State.discardAccum
  try dsimp only
  repeat' first
    | with_reducible assumption | exact Sub.of ‹_› rfl | (intro _)
    | (with_reducible first
        | apply Moves.foldl | apply State.dropJobs_moves | apply State.freeOwned_moves | apply State.modPe_moves)
    | dsimp only | split

theorem State.poisonBlock_moves {a0 a1} (h : Moves m s₀ s) (q : Sub 0x718ae1 m := by exact .of ‹_› rfl) :
    Moves m s₀ (State.poisonBlock a0 a1 s) := by
  unfold State.poisonBlock
  try dsimp only
  repeat' first
    | with_reducible assumption | exact Sub.of ‹_› rfl | (intro _)
    | (with_reducible first
        | apply Moves.ite | apply State.discardAccum_moves | apply State.failCmd_moves | apply State.modBlk_moves
        | apply State.pullAgain_moves)
    | split

theorem State.boundCheck_moves {a0 a1 a2} (h : Moves m s₀ s) (q : Sub 0x1 m := by exact .of ‹_› rfl) :
    Moves m s₀ (State.boundCheck a0 a1 a2 s) := by
  unfold State.boundCheck
  try dsimp only
  repeat' first
    | with_reducible assumption | exact Sub.of ‹_› rfl
    | (with_reducible first | apply Moves.ite | apply State.tick_moves)

theorem State.pathEnds_moves {a0 a1 a2} (h : Moves m s₀ s) (q : Sub 0x1 m := by exact .of ‹_› rfl) :
    Moves m s₀ (State.pathEnds a0 a1 a2 s) := by
  unfold State.pathEnds
  try dsimp only
  repeat' first
    | with_reducible assumption | exact Sub.of ‹_› rfl
    | (with_reducible first | apply Moves.ite | apply State.boundCheck_moves)
    | split

theorem State.copiesSent_moves {a0} (h : Moves m s₀ s) (q : Sub 0x1 m := by exact .of ‹_› rfl) :
    Moves m s₀ (State.copiesSent a0 s) := by
  unfold State.copiesSent
  try dsimp only
  repeat' first
    | with_reducible assumption | exact Sub.of ‹_› rfl | (intro _)
    | (with_reducible first | apply Moves.foldl | apply State.pathEnds_moves)
    | dsimp only | split

theorem State.sealPiece_moves {a0 a1} (h : Moves m s₀ s) (q : Sub 0x840 m := by exact .of ‹_› rfl) :
    Moves m s₀ (State.sealPiece a0 a1 s) := by
  unfold State.sealPiece
  try dsimp only
  repeat' first
    | with_reducible assumption | exact Sub.of ‹_› rfl | (intro _)
    | (with_reducible first
        | apply Moves.ite | apply State.modCmd_moves | apply State.modPart_moves | apply State.sealRec_moves)
    | split

theorem State.retireParts_moves {a0} (h : Moves m s₀ s) (q : Sub 0x800 m := by exact .of ‹_› rfl) :
    Moves m s₀ (State.retireParts a0 s) := by
  unfold State.retireParts
  try dsimp only
  repeat' first
    | with_reducible assumption | exact Sub.of ‹_› rfl | (intro _)
    | (with_reducible first | apply Moves.foldl | apply State.finalRec_moves)

theorem State.ackCmd_moves {a0} (h : Moves m s₀ s) (q : Sub 0x841 m := by exact .of ‹_› rfl) :
    Moves m s₀ (State.ackCmd a0 s) := by
  unfold State.ackCmd
  try dsimp only
  repeat' first
    | with_reducible assumption | exact Sub.of ‹_› rfl | (intro _)
    | (with_reducible first
        | apply Moves.ite | apply Moves.foldl | apply State.finish_moves | apply State.modCe_moves
        | apply State.raiseLost_moves | apply State.restoreBlocks_moves | apply State.retireParts_moves)

theorem State.ackPass_moves (h : Moves m s₀ s) (q : Sub 0x841 m := by exact .of ‹_› rfl) :
    Moves m s₀ (State.ackPass s) := by
  unfold State.ackPass
  try dsimp only
  repeat' first
    | with_reducible assumption | exact Sub.of ‹_› rfl | (intro _)
    | (with_reducible first | apply Moves.foldl | apply State.ackCmd_moves)

theorem State.flushPass_moves (h : Moves m s₀ s) (q : Sub 0x40 m := by exact .of ‹_› rfl) :
    Moves m s₀ (State.flushPass s) := by
  unfold State.flushPass
  try dsimp only
  repeat' first
    | with_reducible assumption | exact Sub.of ‹_› rfl | (intro _)
    | (with_reducible first | apply Moves.ite | apply Moves.foldl | apply State.finish_moves)

theorem State.freePass_moves (h : Moves m s₀ s) (q : Sub 0x800 m := by exact .of ‹_› rfl) :
    Moves m s₀ (State.freePass s) := by
  unfold State.freePass
  try dsimp only
  repeat' first
    | with_reducible assumption | exact Sub.of ‹_› rfl | (intro _) | with_reducible apply State.modLg_moves

theorem State.settle_moves (h : Moves m s₀ s) (q : Sub 0x718ae1 m := by exact .of ‹_› rfl) :
    Moves m s₀ (State.settle s) := by
  unfold State.settle
  try dsimp only
  repeat' first
    | with_reducible assumption | exact Sub.of ‹_› rfl
    | (with_reducible first
        | apply State.ackPass_moves | apply State.flushPass_moves | apply State.freePass_moves
        | apply State.pump_moves)

theorem State.itemsHeld_moves {a0} (h : Moves m s₀ s) (q : Sub 0xc00 m := by exact .of ‹_› rfl) :
    Moves m s₀ (State.itemsHeld a0 s) := by
  unfold State.itemsHeld
  try dsimp only
  repeat' first
    | with_reducible assumption | exact Sub.of ‹_› rfl | (intro _)
    | (with_reducible first | apply Moves.ite | apply State.modLg_moves | apply State.modRb_moves)

theorem State.blockInBed_moves {a0 a1 a2 a3} (h : Moves m s₀ s) (q : Sub 0x208041 m := by exact .of ‹_› rfl) :
    Moves m s₀ (State.blockInBed a0 a1 a2 a3 s) := by
  unfold State.blockInBed
  try dsimp only
  repeat' first
    | with_reducible assumption | exact Sub.of ‹_› rfl | (intro _)
    | (with_reducible first
        | apply Moves.ite | apply State.freeOwned_moves | apply State.modBlk_moves | apply State.push_moves)
    | split

theorem State.pinBlock_moves {a0 a1} (h : Moves m s₀ s) (q : Sub 0x40 m := by exact .of ‹_› rfl) :
    Moves m s₀ (State.pinBlock a0 a1 s) := by
  unfold State.pinBlock
  try dsimp only
  repeat' first
    | with_reducible assumption | exact Sub.of ‹_› rfl | (intro _)
    | (with_reducible first | apply State.modBlk_moves | apply State.modCe_moves)
    | split

theorem State.readDone_moves {a0} (h : Moves m s₀ s) (q : Sub 0x40 m := by exact .of ‹_› rfl) :
    Moves m s₀ (State.readDone a0 s) := by
  unfold State.readDone
  try dsimp only
  repeat' first
    | with_reducible assumption | exact Sub.of ‹_› rfl | (intro _)
    | (with_reducible first | apply Moves.ite | apply State.finish_moves | apply State.modCe_moves)
    | split

theorem State.fixBlock_moves {a0 a1} (h : Moves m s₀ s) (q : Sub 0x60aec1 m := by exact .of ‹_› rfl) :
    Moves m s₀ (State.fixBlock a0 a1 s) := by
  unfold State.fixBlock
  try dsimp only
  repeat' first
    | with_reducible assumption | exact Sub.of ‹_› rfl | (intro _)
    | (with_reducible first
        | apply Moves.ite | apply State.blockLost_moves | apply State.cachePromote_moves
        | apply State.cacheTouch_moves | apply State.modBlk_moves | apply State.pinBlock_moves
        | apply State.push_moves | apply State.readDone_moves | apply State.readMember_moves
        | apply State.startRecon_moves | apply State.tick_moves)
    | split

/-! ### Machine/Ports.lean -/

theorem State.modLink_moves {a0 a1} (h : Moves m s₀ s) (q : Sub 0x4000 m := by exact .of ‹_› rfl) :
    Moves m s₀ (State.modLink a0 a1 s) := by
  unfold State.modLink
  try dsimp only
  repeat' first
    | with_reducible assumption | exact Sub.of ‹_› rfl | (intro _) | with_reducible apply State.modPc_moves

theorem State.modFrame_moves {a0 a1} (h : Moves m s₀ s) (q : Sub 0x4000 m := by exact .of ‹_› rfl) :
    Moves m s₀ (State.modFrame a0 a1 s) := by
  unfold State.modFrame
  try dsimp only
  repeat' first
    | with_reducible assumption | exact Sub.of ‹_› rfl | (intro _) | with_reducible apply State.modPc_moves

theorem State.dropFrame_moves {a0} (h : Moves m s₀ s) (q : Sub 0x4000 m := by exact .of ‹_› rfl) :
    Moves m s₀ (State.dropFrame a0 s) := by
  unfold State.dropFrame
  try dsimp only
  repeat' first
    | with_reducible assumption | exact Sub.of ‹_› rfl | (intro _) | with_reducible apply State.modPc_moves

theorem State.enterEgress_moves {a0 a1} (h : Moves m s₀ s) (q : Sub 0x4000 m := by exact .of ‹_› rfl) :
    Moves m s₀ (State.enterEgress a0 a1 s) := by
  unfold State.enterEgress
  try dsimp only
  repeat' first
    | with_reducible assumption | exact Sub.of ‹_› rfl | (intro _) | with_reducible apply State.modLink_moves

theorem State.sendEgress_moves {a0 a1} (h : Moves m s₀ s) (q : Sub 0x4001 m := by exact .of ‹_› rfl) :
    Moves m s₀ (State.sendEgress a0 a1 s) := by
  unfold State.sendEgress
  try dsimp only
  repeat' first
    | with_reducible assumption | exact Sub.of ‹_› rfl | (intro _)
    | (with_reducible first
        | apply Moves.ite | apply State.enterEgress_moves | apply State.modLink_moves | apply State.tick_moves)

theorem State.admitEgress_moves {a0} (h : Moves m s₀ s) (q : Sub 0x4000 m := by exact .of ‹_› rfl) :
    Moves m s₀ (State.admitEgress a0 s) := by
  unfold State.admitEgress
  try dsimp only
  repeat' first
    | with_reducible assumption | exact Sub.of ‹_› rfl | (intro _)
    | (with_reducible first
        | apply Moves.ite | apply Moves.foldl | apply State.enterEgress_moves | apply State.modLink_moves)

theorem State.sendFrame_moves {a0 a1 a2 a3 a4} (h : Moves m s₀ s) (q : Sub 0x4001 m := by exact .of ‹_› rfl) :
    Moves m s₀ (State.sendFrame a0 a1 a2 a3 a4 s) := by
  unfold State.sendFrame
  try dsimp only
  repeat' first | with_reducible assumption | exact Sub.of ‹_› rfl | with_reducible apply State.sendEgress_moves

theorem State.sendShort_moves {a0 a1} (h : Moves m s₀ s) (q : Sub 0x804001 m := by exact .of ‹_› rfl) :
    Moves m s₀ (State.sendShort a0 a1 s) := by
  unfold State.sendShort
  try dsimp only
  repeat' first
    | with_reducible assumption | exact Sub.of ‹_› rfl
    | (with_reducible first | apply State.drawn_moves | apply State.sendFrame_moves)

theorem State.sendFlow_moves {a0 a2} (h : Moves m s₀ s) (q : Sub 0x400001 m := by exact .of ‹_› rfl) :
    Moves m s₀ (State.sendFlow a0 s a2) := by
  unfold State.sendFlow
  try dsimp only
  repeat' first
    | with_reducible assumption | exact Sub.of ‹_› rfl
    | (with_reducible first | apply State.count_moves | apply State.emit_moves | apply State.tick_moves)

theorem State.flowOut_moves {a0} (h : Moves m s₀ s) (q : Sub 0x404001 m := by exact .of ‹_› rfl) :
    Moves m s₀ (State.flowOut a0 s) := by
  unfold State.flowOut
  try dsimp only
  repeat' first
    | with_reducible assumption | exact Sub.of ‹_› rfl | (intro _)
    | (with_reducible first | apply Moves.foldl | apply State.modLink_moves | apply State.sendFlow_moves)

theorem State.fillPort_moves {a0} (h : Moves m s₀ s) (q : Sub 0x404001 m := by exact .of ‹_› rfl) :
    Moves m s₀ (State.fillPort a0 s) := by
  unfold State.fillPort
  try dsimp only
  repeat' first
    | with_reducible assumption | exact Sub.of ‹_› rfl | (intro _)
    | (with_reducible first
        | apply Moves.ite | apply Moves.foldl | apply State.admitEgress_moves | apply State.flowOut_moves)

theorem State.txBoundary_moves {a0 a1} (h : Moves m s₀ s) (q : Sub 0x404001 m := by exact .of ‹_› rfl) :
    Moves m s₀ (State.txBoundary a0 a1 s) := by
  unfold State.txBoundary
  try dsimp only
  repeat' first
    | with_reducible assumption | exact Sub.of ‹_› rfl | (intro _)
    | (with_reducible first
        | apply Moves.ite | apply State.fillPort_moves | apply State.count_moves
        | apply State.emit_moves | apply State.modLink_moves | apply State.modPc_moves
        | apply State.tick_moves)
    | dsimp only | split

theorem execTxFrameBoundary_moves {a0 a1} (h : Moves m s₀ s) (q : Sub 0x404001 m := by exact .of ‹_› rfl) :
    OutMoves m s₀ (execTxFrameBoundary a0 a1 s) := by
  unfold execTxFrameBoundary
  try dsimp only
  repeat' first
    | (with_reducible first | apply OutMoves.next | assumption)
    | exact Sub.of ‹_› rfl
    | (with_reducible first | apply Moves.ite | apply OutMoves.ite | apply State.txBoundary_moves)

theorem State.setPause_moves {a0 a1 a2} (h : Moves m s₀ s) (q : Sub 0x4000 m := by exact .of ‹_› rfl) :
    Moves m s₀ (State.setPause a0 a1 a2 s) := by
  unfold State.setPause
  try dsimp only
  repeat' first
    | with_reducible assumption | exact Sub.of ‹_› rfl | (intro _)
    | (with_reducible first | apply Moves.ite | apply State.modLink_moves)

theorem State.macFrame_moves {a0} (h : Moves m s₀ s) (q : Sub 0x1 m := by exact .of ‹_› rfl) :
    Moves m s₀ (State.macFrame a0 s) := by
  unfold State.macFrame
  try dsimp only
  repeat' first
    | with_reducible assumption | exact Sub.of ‹_› rfl
    | (with_reducible first | apply State.count_moves | apply State.tick_moves)

theorem execPauseFrame_moves {a0 a1} (h : Moves m s₀ s) (q : Sub 0x4001 m := by exact .of ‹_› rfl) :
    OutMoves m s₀ (execPauseFrame a0 a1 s) := by
  unfold execPauseFrame
  try dsimp only
  repeat' first
    | (with_reducible first | apply OutMoves.next | assumption)
    | exact Sub.of ‹_› rfl | (intro _)
    | (with_reducible first
        | apply Moves.ite | apply OutMoves.ite | apply Moves.foldl | apply State.macFrame_moves
        | apply State.setPause_moves | apply State.tick_moves)

theorem execPfcFrame_moves {a0 a1 a2} (h : Moves m s₀ s) (q : Sub 0x4001 m := by exact .of ‹_› rfl) :
    OutMoves m s₀ (execPfcFrame a0 a1 a2 s) := by
  unfold execPfcFrame
  try dsimp only
  repeat' first
    | (with_reducible first | apply OutMoves.next | assumption)
    | exact Sub.of ‹_› rfl | (intro _)
    | (with_reducible first
        | apply Moves.ite | apply OutMoves.ite | apply Moves.foldl | apply State.macFrame_moves
        | apply State.setPause_moves | apply State.tick_moves)

theorem execPauseExpiry_moves {a0 a1} (h : Moves m s₀ s) (q : Sub 0x4000 m := by exact .of ‹_› rfl) :
    OutMoves m s₀ (execPauseExpiry a0 a1 s) := by
  unfold execPauseExpiry
  try dsimp only
  repeat' first
    | (with_reducible first | apply OutMoves.next | assumption)
    | exact Sub.of ‹_› rfl | (intro _) | with_reducible apply State.modLink_moves

theorem execPauseStorm_moves {a0 a1} (h : Moves m s₀ s) (q : Sub 0x204001 m := by exact .of ‹_› rfl) :
    OutMoves m s₀ (execPauseStorm a0 a1 s) := by
  unfold execPauseStorm
  try dsimp only
  repeat' first
    | (with_reducible first | apply OutMoves.next | assumption)
    | exact Sub.of ‹_› rfl | (intro _)
    | (with_reducible first
        | apply Moves.ite | apply OutMoves.ite | apply State.modLink_moves | apply State.record_moves
        | apply State.tick_moves)
    | split

theorem State.flowClass_moves {a0 a1 a2 a3} (h : Moves m s₀ s) (q : Sub 0x404001 m := by exact .of ‹_› rfl) :
    Moves m s₀ (State.flowClass a0 a1 a2 a3 s) := by
  unfold State.flowClass
  try dsimp only
  repeat' first
    | with_reducible assumption | exact Sub.of ‹_› rfl | (intro _)
    | (with_reducible first | apply Moves.ite | apply State.modLink_moves | apply State.sendFlow_moves)

theorem State.flowCheck_moves {a0 a1} (h : Moves m s₀ s) (q : Sub 0x404001 m := by exact .of ‹_› rfl) :
    Moves m s₀ (State.flowCheck a0 a1 s) := by
  unfold State.flowCheck
  try dsimp only
  repeat' first
    | with_reducible assumption | exact Sub.of ‹_› rfl | (intro _)
    | (with_reducible first | apply Moves.ite | apply Moves.foldl | apply State.flowClass_moves)

theorem execPfcRefresh_moves {a0} (h : Moves m s₀ s) (q : Sub 0x404001 m := by exact .of ‹_› rfl) :
    OutMoves m s₀ (execPfcRefresh a0 s) := by
  unfold execPfcRefresh
  try dsimp only
  repeat' first
    | (with_reducible first | apply OutMoves.next | assumption)
    | exact Sub.of ‹_› rfl
    | (with_reducible first | apply Moves.ite | apply OutMoves.ite | apply State.flowCheck_moves)

theorem State.discardFrame_moves {a0 a1 a2 a3} (h : Moves m s₀ s) (q : Sub 0x4001 m := by exact .of ‹_› rfl) :
    Moves m s₀ (State.discardFrame a0 a1 a2 a3 s) := by
  unfold State.discardFrame
  try dsimp only
  repeat' first
    | with_reducible assumption | exact Sub.of ‹_› rfl | (intro _)
    | (with_reducible first | apply Moves.ite | apply State.modPc_moves | apply State.tick_moves)

theorem State.releaseFrame_moves {a0} (h : Moves m s₀ s) (q : Sub 0x404001 m := by exact .of ‹_› rfl) :
    Moves m s₀ (State.releaseFrame a0 s) := by
  unfold State.releaseFrame
  try dsimp only
  repeat' first
    | with_reducible assumption | exact Sub.of ‹_› rfl | (intro _)
    | (with_reducible first
        | apply Moves.ite | apply State.dropFrame_moves | apply State.flowCheck_moves | apply State.modFrame_moves)
    | split

theorem State.stageHead_moves {a0 a1 a2 a3 a4 a5 a6} (h : Moves m s₀ s) (q : Sub 0x4000 m := by exact .of ‹_› rfl) :
    Moves m s₀ (State.stageHead a0 a1 a2 a3 a4 a5 a6 s) := by
  unfold State.stageHead
  try dsimp only
  repeat' first
    | with_reducible assumption | exact Sub.of ‹_› rfl | (intro _)
    | (with_reducible first
        | apply State.modPc_moves)

theorem State.rxHead_moves {a0 a1} (h : Moves m s₀ s) (q : Sub 0x404001 m := by exact .of ‹_› rfl) :
    Moves m s₀ (State.rxHead a0 a1 s) := by
  unfold State.rxHead
  try dsimp only
  repeat' first
    | with_reducible assumption | exact Sub.of ‹_› rfl | (intro _)
    | (with_reducible first
        | apply Moves.ite | apply State.flowCheck_moves | apply State.macFrame_moves | apply State.stageHead_moves
        | apply State.tick_moves)
    | split

theorem execRxFrameHead_moves {a0 a1} (h : Moves m s₀ s) (q : Sub 0x404001 m := by exact .of ‹_› rfl) :
    OutMoves m s₀ (execRxFrameHead a0 a1 s) := by
  unfold execRxFrameHead
  try dsimp only
  repeat' first
    | (with_reducible first | apply OutMoves.next | assumption)
    | exact Sub.of ‹_› rfl
    | (with_reducible first | apply Moves.ite | apply OutMoves.ite | apply State.rxHead_moves)

theorem State.badPacket_moves {a0} (h : Moves m s₀ s) (q : Sub 0x71eae1 m := by exact .of ‹_› rfl) :
    Moves m s₀ (State.badPacket a0 s) := by
  unfold State.badPacket
  try dsimp only
  repeat' first
    | with_reducible assumption | exact Sub.of ‹_› rfl | (intro _)
    | (with_reducible first
        | apply Moves.ite | apply Moves.foldl | apply State.freeOwned_moves | apply State.modBed_moves
        | apply State.modCe_moves | apply State.modPc_moves | apply State.modTr_moves
        | apply State.poisonBlock_moves | apply State.tick_moves)

theorem State.rxEnd_moves {a0 a1 a2} (h : Moves m s₀ s) (q : Sub 0x71eae1 m := by exact .of ‹_› rfl) :
    Moves m s₀ (State.rxEnd a0 a1 a2 s) := by
  unfold State.rxEnd
  try dsimp only
  repeat' first
    | with_reducible assumption | exact Sub.of ‹_› rfl | (intro _)
    | (with_reducible first
        | apply Moves.ite | apply Moves.foldl | apply State.badPacket_moves | apply State.discardFrame_moves
        | apply State.dropFrame_moves | apply State.flowCheck_moves | apply State.modFrame_moves
        | apply State.push_moves | apply State.sealPiece_moves)
    | dsimp only | split

theorem execRxFrameEnd_moves {a0 a1 a2 a3 a4} (h : Moves m s₀ s) (q : Sub 0x71eae1 m := by exact .of ‹_› rfl) :
    OutMoves m s₀ (execRxFrameEnd a0 a1 a2 a3 a4 s) := by
  unfold execRxFrameEnd
  try dsimp only
  repeat' first
    | (with_reducible first | apply OutMoves.next | assumption)
    | exact Sub.of ‹_› rfl | (intro _)
    | (with_reducible first
        | apply Moves.ite | apply OutMoves.ite | apply State.count_moves | apply State.modPc_moves
        | apply State.rxEnd_moves | apply State.tick_moves)
    | split

theorem State.linkDown_moves {a0 a1} (h : Moves m s₀ s) (q : Sub 0x71eae1 m := by exact .of ‹_› rfl) :
    Moves m s₀ (State.linkDown a0 a1 s) := by
  unfold State.linkDown
  try dsimp only
  repeat' first
    | with_reducible assumption | exact Sub.of ‹_› rfl | (intro _)
    | (with_reducible first
        | apply Moves.ite | apply Moves.foldl | apply State.count_moves | apply State.emits_moves
        | apply State.modLink_moves | apply State.modPc_moves | apply State.record_moves | apply State.rxEnd_moves)

theorem State.linkUp_moves {a0} (h : Moves m s₀ s) (q : Sub 0x204001 m := by exact .of ‹_› rfl) :
    Moves m s₀ (State.linkUp a0 s) := by
  unfold State.linkUp
  try dsimp only
  repeat' first
    | with_reducible assumption | exact Sub.of ‹_› rfl | (intro _)
    | (with_reducible first
        | apply Moves.ite | apply State.modLink_moves | apply State.modPc_moves | apply State.record_moves)

theorem State.trainPort_moves {a0} (h : Moves m s₀ s) (q : Sub 0x4000 m := by exact .of ‹_› rfl) :
    Moves m s₀ (State.trainPort a0 s) := by
  unfold State.trainPort
  try dsimp only
  repeat' first
    | with_reducible assumption | exact Sub.of ‹_› rfl | (intro _)
    | (with_reducible first
        | apply Moves.ite | apply Moves.foldl | apply State.modLink_moves | apply State.modPc_moves)

theorem State.ptpTo_moves {a0} (h : Moves m s₀ s) (q : Sub 0x204001 m := by exact .of ‹_› rfl) :
    Moves m s₀ (State.ptpTo a0 s) := by
  unfold State.ptpTo
  try dsimp only
  repeat' first
    | with_reducible assumption | exact Sub.of ‹_› rfl | (intro _)
    | (with_reducible first | apply Moves.ite | apply State.modPc_moves | apply State.record_moves)

theorem State.ptpLeg_moves (h : Moves m s₀ s) (q : Sub 0x204001 m := by exact .of ‹_› rfl) :
    Moves m s₀ (State.ptpLeg s) := by
  unfold State.ptpLeg
  try dsimp only
  repeat' first
    | with_reducible assumption | exact Sub.of ‹_› rfl | (intro _)
    | (with_reducible first | apply Moves.ite | apply State.modPc_moves | apply State.ptpTo_moves)

theorem execPtpSync_moves {a0 a1} (h : Moves m s₀ s) (q : Sub 0xa04001 m := by exact .of ‹_› rfl) :
    OutMoves m s₀ (execPtpSync a0 a1 s) := by
  unfold execPtpSync
  try dsimp only
  repeat' first
    | (with_reducible first | apply OutMoves.next | assumption)
    | exact Sub.of ‹_› rfl | (intro _)
    | (with_reducible first
        | apply Moves.ite | apply OutMoves.ite | apply State.drawn_moves | apply State.modPc_moves
        | apply State.ptpTo_moves | apply State.sendFrame_moves)

theorem execPtpLoss_moves (h : Moves m s₀ s) (q : Sub 0x204001 m := by exact .of ‹_› rfl) :
    OutMoves m s₀ (execPtpLoss s) := by
  unfold execPtpLoss
  try dsimp only
  repeat' first
    | (with_reducible first | apply OutMoves.next | assumption)
    | exact Sub.of ‹_› rfl | (intro _)
    | (with_reducible first
        | apply Moves.ite | apply OutMoves.ite | apply State.modPc_moves | apply State.ptpTo_moves)

theorem State.clockLeg_moves (h : Moves m s₀ s) (q : Sub 0x4000 m := by exact .of ‹_› rfl) :
    Moves m s₀ (State.clockLeg s) := by
  unfold State.clockLeg
  try dsimp only
  repeat' first
    | with_reducible assumption | exact Sub.of ‹_› rfl | (intro _) | with_reducible apply State.modPc_moves

theorem State.sampleVoqs_moves (h : Moves m s₀ s) (q : Sub 0x4000 m := by exact .of ‹_› rfl) :
    Moves m s₀ (State.sampleVoqs s) := by
  unfold State.sampleVoqs
  try dsimp only
  repeat' first
    | with_reducible assumption | exact Sub.of ‹_› rfl | (intro _)
    | (with_reducible first | apply Moves.foldl | apply State.modPc_moves)

theorem State.portSecond_moves (h : Moves m s₀ s) (q : Sub 0x204001 m := by exact .of ‹_› rfl) :
    Moves m s₀ (State.portSecond s) := by
  unfold State.portSecond
  try dsimp only
  repeat' first
    | with_reducible assumption | exact Sub.of ‹_› rfl | (intro _)
    | (with_reducible first
        | apply Moves.ite | apply Moves.foldl | apply State.modPc_moves | apply State.record_moves)

/-! ### Machine/Cipher.lean -/

theorem State.fillSlot_moves {a0 a1 a2 a3 a4} (h : Moves m s₀ s) (q : Sub 0x10000 m := by exact .of ‹_› rfl) :
    Moves m s₀ (State.fillSlot a0 a1 a2 a3 a4 s) := by
  unfold State.fillSlot
  try dsimp only
  repeat' first
    | with_reducible assumption | exact Sub.of ‹_› rfl | (intro _) | with_reducible apply State.modCy_moves

theorem State.emptySlot_moves {a0} (h : Moves m s₀ s) (q : Sub 0x10000 m := by exact .of ‹_› rfl) :
    Moves m s₀ (State.emptySlot a0 s) := by
  unfold State.emptySlot
  try dsimp only
  repeat' first
    | with_reducible assumption | exact Sub.of ‹_› rfl | (intro _) | with_reducible apply State.modCy_moves

theorem State.storeKey_moves {a0} (h : Moves m s₀ s) (q : Sub 0x10000 m := by exact .of ‹_› rfl) :
    Moves m s₀ (State.storeKey a0 s) := by
  unfold State.storeKey
  try dsimp only
  repeat' first
    | with_reducible assumption | exact Sub.of ‹_› rfl | (intro _)
    | (with_reducible first | apply Moves.ite | apply State.modCy_moves)

theorem execKeyDerivationDone_moves (h : Moves m s₀ s) (q : Sub 0x10001 m := by exact .of ‹_› rfl) :
    OutMoves m s₀ (execKeyDerivationDone s) := by
  unfold execKeyDerivationDone
  try dsimp only
  repeat' first
    | (with_reducible first | apply OutMoves.next | assumption)
    | exact Sub.of ‹_› rfl | (intro _)
    | (with_reducible first
        | apply Moves.ite | apply OutMoves.ite | apply State.modCy_moves | apply State.storeKey_moves
        | apply State.tick_moves)
    | split

theorem State.loadKey_moves {a0 a1} (h : Moves m s₀ s) (q : Sub 0x10001 m := by exact .of ‹_› rfl) :
    Moves m s₀ (State.loadKey a0 a1 s) := by
  unfold State.loadKey
  try dsimp only
  repeat' first
    | with_reducible assumption | exact Sub.of ‹_› rfl | (intro _)
    | (with_reducible first | apply Moves.ite | apply State.modCy_moves | apply State.tick_moves)

theorem State.requestsLeg_moves (h : Moves m s₀ s) (q : Sub 0x10000 m := by exact .of ‹_› rfl) :
    Moves m s₀ (State.requestsLeg s) := by
  unfold State.requestsLeg
  try dsimp only
  repeat' first
    | with_reducible assumption | exact Sub.of ‹_› rfl | (intro _) | with_reducible apply State.modCy_moves

theorem State.evictKeys_moves (h : Moves m s₀ s) (q : Sub 0x10000 m := by exact .of ‹_› rfl) :
    Moves m s₀ (State.evictKeys s) := by
  unfold State.evictKeys
  try dsimp only
  repeat' first
    | with_reducible assumption | exact Sub.of ‹_› rfl | (intro _) | with_reducible apply State.modCy_moves

theorem State.unassign_moves {a0} (h : Moves m s₀ s) (q : Sub 0x10000 m := by exact .of ‹_› rfl) :
    Moves m s₀ (State.unassign a0 s) := by
  unfold State.unassign
  try dsimp only
  repeat' first
    | with_reducible assumption | exact Sub.of ‹_› rfl | (intro _)
    | (with_reducible first | apply Moves.ite | apply State.modCy_moves)

theorem State.readAgain_moves {a0 a1} (h : Moves m s₀ s) (q : Sub 0x61aec1 m := by exact .of ‹_› rfl) :
    Moves m s₀ (State.readAgain a0 a1 s) := by
  unfold State.readAgain
  try dsimp only
  repeat' first
    | with_reducible assumption | exact Sub.of ‹_› rfl | (intro _)
    | (with_reducible first
        | apply State.cipherRequest_moves | apply State.dropReq_moves | apply State.fixBlock_moves
        | apply State.freeOwned_moves | apply State.modBlk_moves)
    | split

theorem State.resetBlock_moves {a0 a1 a2 a3} (h : Moves m s₀ s) (q : Sub 0x71aee1 m := by exact .of ‹_› rfl) :
    Moves m s₀ (State.resetBlock a0 a1 a2 a3 s) := by
  unfold State.resetBlock
  try dsimp only
  repeat' first
    | with_reducible assumption | exact Sub.of ‹_› rfl | (intro _)
    | (with_reducible first
        | apply Moves.ite | apply State.failCmd_moves | apply State.modBlk_moves | apply State.pullAgain_moves
        | apply State.readAgain_moves | apply State.record_moves | apply State.returned_moves
        | apply State.tick_moves)
    | split

theorem State.ownerRootWrite_moves {a0 a1} (h : Moves m s₀ s) (q : Sub 0x210005 m := by exact .of ‹_› rfl) :
    Moves m s₀ (State.ownerRootWrite a0 a1 s) := by
  unfold State.ownerRootWrite
  try dsimp only
  repeat' first
    | with_reducible assumption | exact Sub.of ‹_› rfl | (intro _)
    | (with_reducible first
        | apply Moves.ite | apply State.action_moves | apply State.endRun_moves | apply State.modCy_moves
        | apply State.put_moves | apply State.record_moves)

theorem execCyOwnerRootWrite_moves {a0 a1} (h : Moves m s₀ s) (q : Sub 0x210005 m := by exact .of ‹_› rfl) :
    OutMoves m s₀ (execCyOwnerRootWrite a0 a1 s) := by
  unfold execCyOwnerRootWrite
  try dsimp only
  repeat' first
    | (with_reducible first | apply OutMoves.next | assumption)
    | exact Sub.of ‹_› rfl | with_reducible apply State.ownerRootWrite_moves

theorem State.hostKeyDerive_moves {a0 a1} (h : Moves m s₀ s) (q : Sub 0x5 m := by exact .of ‹_› rfl) :
    Moves m s₀ (State.hostKeyDerive a0 a1 s) := by
  unfold State.hostKeyDerive
  try dsimp only
  repeat' first
    | with_reducible assumption | exact Sub.of ‹_› rfl | (intro _)
    | (with_reducible first | apply Moves.ite | apply State.action_moves | apply State.endRun_moves)

theorem execCyHostKeyDerive_moves {a0 a1} (h : Moves m s₀ s) (q : Sub 0x5 m := by exact .of ‹_› rfl) :
    OutMoves m s₀ (execCyHostKeyDerive a0 a1 s) := by
  unfold execCyHostKeyDerive
  try dsimp only
  repeat' first
    | (with_reducible first | apply OutMoves.next | assumption)
    | exact Sub.of ‹_› rfl | with_reducible apply State.hostKeyDerive_moves

theorem State.cipherSecond_moves (h : Moves m s₀ s) (q : Sub 0x210001 m := by exact .of ‹_› rfl) :
    Moves m s₀ (State.cipherSecond s) := by
  unfold State.cipherSecond
  try dsimp only
  repeat' first
    | with_reducible assumption | exact Sub.of ‹_› rfl | (intro _)
    | (with_reducible first
        | apply Moves.ite | apply Moves.foldl | apply State.modCy_moves | apply State.record_moves)

/-! ### Machine/Accept.lean -/

theorem State.setPs_moves {a0 a1} (h : Moves m s₀ s) (q : Sub 0x200041 m := by exact .of ‹_› rfl) :
    Moves m s₀ (State.setPs a0 a1 s) := by
  unfold State.setPs
  try dsimp only
  repeat' first
    | with_reducible assumption | exact Sub.of ‹_› rfl | (intro _)
    | (with_reducible first | apply Moves.ite | apply State.modCe_moves | apply State.record_moves)

theorem State.clearCause_moves {a0} (h : Moves m s₀ s) (q : Sub 0x40000 m := by exact .of ‹_› rfl) :
    Moves m s₀ (State.clearCause a0 s) := by
  unfold State.clearCause
  try dsimp only
  repeat' first
    | with_reducible assumption | exact Sub.of ‹_› rfl | (intro _) | with_reducible apply State.modMd_moves

theorem State.addCause_moves {a0} (h : Moves m s₀ s) (q : Sub 0x40000 m := by exact .of ‹_› rfl) :
    Moves m s₀ (State.addCause a0 s) := by
  unfold State.addCause
  try dsimp only
  repeat' first
    | with_reducible assumption | exact Sub.of ‹_› rfl | (intro _) | with_reducible apply State.modMd_moves

theorem State.fillBlock_moves {a0 a1 a2 a3} (h : Moves m s₀ s) (q : Sub 0x6020c1 m := by exact .of ‹_› rfl) :
    Moves m s₀ (State.fillBlock a0 a1 a2 a3 s) := by
  unfold State.fillBlock
  try dsimp only
  repeat' first
    | with_reducible assumption | exact Sub.of ‹_› rfl | (intro _)
    | (with_reducible first
        | apply Moves.ite | apply State.cacheInsert_moves | apply State.modCe_moves | apply State.readMember_moves)
    | split

theorem State.readAhead_moves {a0} (h : Moves m s₀ s) (q : Sub 0x6020c1 m := by exact .of ‹_› rfl) :
    Moves m s₀ (State.readAhead a0 s) := by
  unfold State.readAhead
  try dsimp only
  repeat' first
    | with_reducible assumption | exact Sub.of ‹_› rfl | (intro _)
    | (with_reducible first
        | apply Moves.ite | apply Moves.foldl | apply State.fillBlock_moves | apply State.modNs_moves)
    | dsimp only | split

theorem State.acceptCap_moves {a0} (h : Moves m s₀ s) (q : Sub 0x7420c1 m := by exact .of ‹_› rfl) :
    Moves m s₀ (State.acceptCap a0 s) := by
  unfold State.acceptCap
  try dsimp only
  repeat' first
    | with_reducible assumption | exact Sub.of ‹_› rfl | (intro _)
    | (with_reducible first
        | apply Moves.ite | apply Moves.foldl | apply Moves.foldlSnd | apply Moves.foldlFst
        | apply State.cacheRemove_moves | apply State.clearCause_moves | apply State.epAskList_moves
        | apply State.finish_moves | apply State.modCe_moves | apply State.readAhead_moves | apply State.tick_moves)

theorem State.takeCap_moves {a0} (h : Moves m s₀ s) (q : Sub 0x7420c1 m := by exact .of ‹_› rfl) :
    Moves m s₀ (State.takeCap a0 s) := by
  unfold State.takeCap
  try dsimp only
  repeat' first
    | with_reducible assumption | exact Sub.of ‹_› rfl | (intro _)
    | (with_reducible first
        | apply Moves.ite | apply State.acceptCap_moves | apply State.modCe_moves | apply State.tick_moves)

theorem State.rangeServe_moves {a0} (h : Moves m s₀ s) (q : Sub 0x7420c1 m := by exact .of ‹_› rfl) :
    Moves m s₀ (State.rangeServe a0 s) := by
  induction a0 generalizing s with
  | zero => exact h
  | succ _ ih =>
    unfold State.rangeServe
    try dsimp only
    repeat' first
      | with_reducible assumption | exact Sub.of ‹_› rfl | (intro _)
      | (with_reducible first | apply Moves.ite | apply State.acceptCap_moves | apply State.modCe_moves)
      | split | with_reducible apply ih

theorem State.rangeFree_moves (h : Moves m s₀ s) (q : Sub 0x7420c1 m := by exact .of ‹_› rfl) :
    Moves m s₀ (State.rangeFree s) := by
  unfold State.rangeFree
  try dsimp only
  repeat' first | with_reducible assumption | exact Sub.of ‹_› rfl | with_reducible apply State.rangeServe_moves

/-! ### Machine/Transport.lean -/

theorem State.sendControl_moves {a0} (h : Moves m s₀ s) (q : Sub 0x804001 m := by exact .of ‹_› rfl) :
    Moves m s₀ (State.sendControl a0 s) := by
  unfold State.sendControl
  try dsimp only
  repeat' first | with_reducible assumption | exact Sub.of ‹_› rfl | with_reducible apply State.sendShort_moves

theorem State.sendOwn_moves {a0} (h : Moves m s₀ s) (q : Sub 0xa16001 m := by exact .of ‹_› rfl) :
    Moves m s₀ (State.sendOwn a0 s) := by
  unfold State.sendOwn
  try dsimp only
  repeat' first
    | with_reducible assumption | exact Sub.of ‹_› rfl
    | (with_reducible first | apply State.sendControl_moves | apply State.takeSeq_moves)

theorem State.packetGone_moves {a0} (h : Moves m s₀ s) (q : Sub 0x404001 m := by exact .of ‹_› rfl) :
    Moves m s₀ (State.packetGone a0 s) := by
  unfold State.packetGone
  try dsimp only
  repeat' first | with_reducible assumption | exact Sub.of ‹_› rfl | with_reducible apply State.releaseFrame_moves

theorem State.unpinRoom_moves {a0} (h : Moves m s₀ s) (q : Sub 0x40 m := by exact .of ‹_› rfl) :
    Moves m s₀ (State.unpinRoom a0 s) := by
  unfold State.unpinRoom
  try dsimp only
  repeat' first
    | with_reducible assumption | exact Sub.of ‹_› rfl | (intro _)
    | (with_reducible first | apply Moves.foldl | apply State.modCe_moves | apply State.unpin_moves)

theorem State.roomClosing_moves {a0} (h : Moves m s₀ s) (q : Sub 0x2040 m := by exact .of ‹_› rfl) :
    Moves m s₀ (State.roomClosing a0 s) := by
  unfold State.roomClosing
  try dsimp only
  repeat' first
    | with_reducible assumption | exact Sub.of ‹_› rfl | (intro _)
    | (with_reducible first | apply State.modRoom_moves | apply State.unpinRoom_moves)

theorem State.roomClosed_moves {a0} (h : Moves m s₀ s) (q : Sub 0x20a041 m := by exact .of ‹_› rfl) :
    Moves m s₀ (State.roomClosed a0 s) := by
  unfold State.roomClosed
  try dsimp only
  repeat' first
    | with_reducible assumption | exact Sub.of ‹_› rfl | (intro _)
    | (with_reducible first
        | apply Moves.foldl | apply State.finish_moves | apply State.freeOwned_moves | apply State.modRoom_moves
        | apply State.unpinRoom_moves)

theorem State.closeRoomsOf_moves {a0} (h : Moves m s₀ s) (q : Sub 0x2040 m := by exact .of ‹_› rfl) :
    Moves m s₀ (State.closeRoomsOf a0 s) := by
  unfold State.closeRoomsOf
  try dsimp only
  repeat' first
    | with_reducible assumption | exact Sub.of ‹_› rfl | (intro _)
    | (with_reducible first
        | apply Moves.ite | apply Moves.foldl | apply State.modRoom_moves | apply State.roomClosing_moves)

theorem State.dropCmd_moves {a0} (h : Moves m s₀ s) (q : Sub 0x218ae1 m := by exact .of ‹_› rfl) :
    Moves m s₀ (State.dropCmd a0 s) := by
  unfold State.dropCmd
  try dsimp only
  repeat' first
    | with_reducible assumption | exact Sub.of ‹_› rfl | (intro _)
    | (with_reducible first
        | apply Moves.ite | apply Moves.foldl | apply State.dropJobs_moves | apply State.finalRec_moves
        | apply State.freeCmdBeds_moves | apply State.freeOwned_moves | apply State.modAdm_moves
        | apply State.modCe_moves | apply State.modCmd_moves | apply State.modCy_moves | apply State.stopCmd_moves)
    | dsimp only | split

theorem State.endAssoc_moves {a0 a1} (h : Moves m s₀ s) (q : Sub 0x21bae1 m := by exact .of ‹_› rfl) :
    Moves m s₀ (State.endAssoc a0 a1 s) := by
  unfold State.endAssoc
  try dsimp only
  repeat' first
    | with_reducible assumption | exact Sub.of ‹_› rfl | (intro _)
    | (with_reducible first
        | apply Moves.ite | apply Moves.foldl | apply State.closeRoomsOf_moves | apply State.dropCmd_moves
        | apply State.dropJobs_moves | apply State.emptySlot_moves | apply State.modCe_moves
        | apply State.modSi_moves | apply State.modTr_moves | apply State.record_moves)
    | dsimp only | split

theorem State.endConn_moves {a0 a1} (h : Moves m s₀ s) (q : Sub 0x21bae1 m := by exact .of ‹_› rfl) :
    Moves m s₀ (State.endConn a0 a1 s) := by
  unfold State.endConn
  try dsimp only
  repeat' first
    | with_reducible assumption | exact Sub.of ‹_› rfl | (intro _)
    | (with_reducible first
        | apply State.closeRoomsOf_moves | apply State.endAssoc_moves | apply State.modTr_moves
        | apply State.record_moves | apply State.tick_moves | apply State.unitEvent_moves)
    | split

theorem State.nakEnd_moves {a0 a1} (h : Moves m s₀ s) (q : Sub 0xe1fae1 m := by exact .of ‹_› rfl) :
    Moves m s₀ (State.nakEnd a0 a1 s) := by
  unfold State.nakEnd
  try dsimp only
  repeat' first
    | with_reducible assumption | exact Sub.of ‹_› rfl
    | (with_reducible first
        | apply Moves.ite | apply State.emit_moves | apply State.endConn_moves | apply State.sendOwn_moves)

theorem State.txMove_moves {a0 a1} (h : Moves m s₀ s) (q : Sub 0x2000 m := by exact .of ‹_› rfl) :
    Moves m s₀ (State.txMove a0 a1 s) := by
  unfold State.txMove
  try dsimp only
  repeat' first
    | with_reducible assumption | exact Sub.of ‹_› rfl | (intro _)
    | (with_reducible first | apply Moves.ite | apply State.modConn_moves)

theorem State.txPacket_moves {a0 a1} (h : Moves m s₀ s) (q : Sub 0x212001 m := by exact .of ‹_› rfl) :
    Moves m s₀ (State.txPacket a0 a1 s) := by
  unfold State.txPacket
  try dsimp only
  repeat' first
    | with_reducible assumption | exact Sub.of ‹_› rfl
    | (with_reducible first | apply State.takeSeq_moves | apply State.txMove_moves)

theorem State.sendAck_moves {a0 a1} (h : Moves m s₀ s) (q : Sub 0xe16001 m := by exact .of ‹_› rfl) :
    Moves m s₀ (State.sendAck a0 a1 s) := by
  unfold State.sendAck
  try dsimp only
  repeat' first
    | with_reducible assumption | exact Sub.of ‹_› rfl | (intro _)
    | (with_reducible first | apply State.emit_moves | apply State.modConn_moves | apply State.sendOwn_moves)

theorem State.ceMark_moves {a0} (h : Moves m s₀ s) (q : Sub 0xe16001 m := by exact .of ‹_› rfl) :
    Moves m s₀ (State.ceMark a0 s) := by
  unfold State.ceMark
  try dsimp only
  repeat' first
    | with_reducible assumption | exact Sub.of ‹_› rfl | (intro _)
    | (with_reducible first
        | apply Moves.ite | apply State.emit_moves | apply State.modConn_moves | apply State.sendShort_moves
        | apply State.takeSeq_moves | apply State.tick_moves)

theorem State.arrive_moves {a0} (h : Moves m s₀ s) (q : Sub 0xe1fae1 m := by exact .of ‹_› rfl) :
    Moves m s₀ (State.arrive a0 s).2 := by
  unfold State.arrive
  try dsimp only
  repeat' first
    | with_reducible assumption | exact Sub.of ‹_› rfl | (intro _)
    | (with_reducible first
        | apply Moves.ite | apply Moves.iteSnd | apply State.ceMark_moves | apply State.modConn_moves
        | apply State.nakEnd_moves | apply State.packetGone_moves | apply State.record_moves
        | apply State.tick_moves)
    | split

theorem State.spillFor_moves {a0} (h : Moves m s₀ s) (q : Sub 0x2040 m := by exact .of ‹_› rfl) :
    Moves m s₀ (State.spillFor a0 s) := by
  unfold State.spillFor
  try dsimp only
  repeat' first
    | with_reducible assumption | exact Sub.of ‹_› rfl | (intro _)
    | (with_reducible first
        | apply Moves.ite | apply Moves.foldl | apply State.modConn_moves | apply State.push_moves)
    | dsimp only | split

theorem State.useCtx_moves {a0} (h : Moves m s₀ s) (q : Sub 0x2000 m := by exact .of ‹_› rfl) :
    Moves m s₀ (State.useCtx a0 s) := by
  unfold State.useCtx
  try dsimp only
  repeat' first
    | with_reducible assumption | exact Sub.of ‹_› rfl | (intro _)
    | (with_reducible first | apply State.modConn_moves | apply State.modTr_moves)

theorem State.fetchCtx_moves {a0} (h : Moves m s₀ s) (q : Sub 0x2040 m := by exact .of ‹_› rfl) :
    Moves m s₀ (State.fetchCtx a0 s) := by
  unfold State.fetchCtx
  try dsimp only
  repeat' first
    | with_reducible assumption | exact Sub.of ‹_› rfl | (intro _)
    | (with_reducible first
        | apply Moves.ite | apply State.modConn_moves | apply State.modTr_moves | apply State.push_moves
        | apply State.spillFor_moves)

theorem State.waitPacket_moves {a0 a1} (h : Moves m s₀ s) (q : Sub 0x606041 m := by exact .of ‹_› rfl) :
    Moves m s₀ (State.waitPacket a0 a1 s) := by
  unfold State.waitPacket
  try dsimp only
  repeat' first
    | with_reducible assumption | exact Sub.of ‹_› rfl | (intro _)
    | (with_reducible first
        | apply Moves.ite | apply State.fetchCtx_moves | apply State.modTr_moves | apply State.packetGone_moves
        | apply State.push_moves | apply State.record_moves | apply State.tick_moves)

theorem State.stamped_moves (h : Moves m s₀ s) (q : Sub 0x40 m := by exact .of ‹_› rfl) :
    Moves m s₀ (State.stamped s) := by
  unfold State.stamped
  try dsimp only
  repeat' first
    | with_reducible assumption | exact Sub.of ‹_› rfl | (intro _) | with_reducible apply State.modCe_moves

theorem State.capsuleIn_moves {a0 a1} (h : Moves m s₀ s) (q : Sub 0x7420c1 m := by exact .of ‹_› rfl) :
    Moves m s₀ (State.capsuleIn a0 a1 s) := by
  unfold State.capsuleIn
  try dsimp only
  repeat' first
    | with_reducible assumption | exact Sub.of ‹_› rfl
    | (with_reducible first | apply Moves.ite | apply State.stamped_moves | apply State.takeCap_moves)

theorem State.noteTaken_moves {a0 a1 a2 a3 a4} (h : Moves m s₀ s) (q : Sub 0xf560c1 m := by exact .of ‹_› rfl) :
    Moves m s₀ (State.noteTaken a0 a1 a2 a3 a4 s) := by
  unfold State.noteTaken
  try dsimp only
  repeat' first
    | with_reducible assumption | exact Sub.of ‹_› rfl | (intro _)
    | (with_reducible first
        | apply Moves.ite | apply Moves.elim | apply Moves.foldl | apply State.capsuleIn_moves
        | apply State.modConn_moves | apply State.sendAck_moves)

theorem State.noteDup_moves {a0 a1} (h : Moves m s₀ s) (q : Sub 0xe16001 m := by exact .of ‹_› rfl) :
    Moves m s₀ (State.noteDup a0 a1 s) := by
  unfold State.noteDup
  try dsimp only
  repeat' first
    | with_reducible assumption | exact Sub.of ‹_› rfl
    | (with_reducible first
        | apply Moves.ite | apply State.packetGone_moves | apply State.sendAck_moves | apply State.tick_moves)

theorem State.noteGap_moves {a0 a1} (h : Moves m s₀ s) (q : Sub 0xe16001 m := by exact .of ‹_› rfl) :
    Moves m s₀ (State.noteGap a0 a1 s) := by
  unfold State.noteGap
  try dsimp only
  repeat' first
    | with_reducible assumption | exact Sub.of ‹_› rfl | (intro _)
    | (with_reducible first
        | apply Moves.ite | apply State.emit_moves | apply State.modConn_moves | apply State.packetGone_moves
        | apply State.sendOwn_moves)

theorem State.noteOver_moves {a0} (h : Moves m s₀ s) (q : Sub 0x404001 m := by exact .of ‹_› rfl) :
    Moves m s₀ (State.noteOver a0 s) := by
  unfold State.noteOver
  try dsimp only
  repeat' first
    | with_reducible assumption | exact Sub.of ‹_› rfl
    | (with_reducible first | apply State.packetGone_moves | apply State.tick_moves)

theorem State.inOrder_moves {a0 a1 a2} (h : Moves m s₀ s) (q : Sub 0xe1fae1 m := by exact .of ‹_› rfl) (k2 : ∀  u, Moves m s₀ u → Moves m s₀ (a2 u)) :
    Moves m s₀ (State.inOrder a0 a1 a2 s) := by
  unfold State.inOrder
  try dsimp only
  repeat' first
    | with_reducible assumption | exact Sub.of ‹_› rfl
    | (with_reducible first
        | apply State.nakEnd_moves | apply State.noteDup_moves | apply State.noteGap_moves
        | apply State.noteOver_moves | apply State.packetGone_moves | apply k2)
    | split

theorem State.pullAnswered_moves {a0 a1} (h : Moves m s₀ s) (q : Sub 0x2000 m := by exact .of ‹_› rfl) :
    Moves m s₀ (State.pullAnswered a0 a1 s) := by
  unfold State.pullAnswered
  try dsimp only
  repeat' first
    | with_reducible assumption | exact Sub.of ‹_› rfl | (intro _)
    | (with_reducible first | apply Moves.ite | apply State.modConn_moves)

theorem State.takePulled_moves {a0 a1} (h : Moves m s₀ s) (q : Sub 0xf560c1 m := by exact .of ‹_› rfl) :
    Moves m s₀ (State.takePulled a0 a1 s) := by
  unfold State.takePulled
  try dsimp only
  repeat' first
    | with_reducible assumption | exact Sub.of ‹_› rfl | (intro _)
    | (with_reducible first
        | apply Moves.ite | apply State.modBlk_moves | apply State.noteTaken_moves | apply State.packetGone_moves
        | apply State.pullAnswered_moves | apply State.push_moves)
    | split

theorem State.runPulled_moves {a0 a1} (h : Moves m s₀ s) (q : Sub 0xf5fae1 m := by exact .of ‹_› rfl) :
    Moves m s₀ (State.runPulled a0 a1 s) := by
  unfold State.runPulled
  try dsimp only
  repeat' first
    | with_reducible assumption | exact Sub.of ‹_› rfl | (intro _)
    | (with_reducible first | apply Moves.ite | apply State.inOrder_moves | apply State.takePulled_moves)

theorem State.pulledIn_moves {a0 a1 a2 a3 a4 a5 a6 a7} (h : Moves m s₀ s) (q : Sub 0x61c041 m := by exact .of ‹_› rfl) :
    Moves m s₀ (State.pulledIn a0 a1 a2 a3 a4 a5 a6 a7 s) := by
  unfold State.pulledIn
  try dsimp only
  repeat' first
    | with_reducible assumption | exact Sub.of ‹_› rfl | (intro _)
    | (with_reducible first
        | apply State.fillBed_moves | apply State.freeOwned_moves | apply State.modBed_moves
        | apply State.modBlk_moves | apply State.push_moves | apply State.releaseFrame_moves
        | apply State.retag_moves)
    | split

theorem State.refuseMsg_moves {a0 a1} (h : Moves m s₀ s) (q : Sub 0xe1fae1 m := by exact .of ‹_› rfl) :
    Moves m s₀ (State.refuseMsg a0 a1 s) := by
  unfold State.refuseMsg
  try dsimp only
  repeat' first
    | with_reducible assumption | exact Sub.of ‹_› rfl
    | (with_reducible first | apply State.nakEnd_moves | apply State.packetGone_moves | apply State.tick_moves)

theorem State.pushTaken_moves {a0 a1 a2 a3 a4 a5 a6} (h : Moves m s₀ s) (q : Sub 0xf560c1 m := by exact .of ‹_› rfl) :
    Moves m s₀ (State.pushTaken a0 a1 a2 a3 a4 a5 a6 s) := by
  unfold State.pushTaken
  try dsimp only
  repeat' first
    | with_reducible assumption | exact Sub.of ‹_› rfl | (intro _)
    | (with_reducible first
        | apply Moves.ite | apply State.modConn_moves | apply State.modRoom_moves | apply State.noteTaken_moves
        | apply State.push_moves)

theorem State.runPush_moves {a0 a1} (h : Moves m s₀ s) (q : Sub 0xf5fae1 m := by exact .of ‹_› rfl) :
    Moves m s₀ (State.runPush a0 a1 s) := by
  unfold State.runPush
  try dsimp only
  repeat' first
    | with_reducible assumption | exact Sub.of ‹_› rfl | (intro _)
    | (with_reducible first
        | apply Moves.ite | apply State.inOrder_moves | apply State.nakEnd_moves | apply State.noteOver_moves
        | apply State.packetGone_moves | apply State.pushTaken_moves | apply State.refuseMsg_moves)
    | split

theorem State.placeRoom_moves {a0 a1 a2} (h : Moves m s₀ s) (q : Sub 0x20a001 m := by exact .of ‹_› rfl) :
    Moves m s₀ (State.placeRoom a0 a1 a2 s) := by
  unfold State.placeRoom
  try dsimp only
  repeat' first
    | with_reducible assumption | exact Sub.of ‹_› rfl | (intro _)
    | (with_reducible first | apply State.freeOwned_moves | apply State.modRoom_moves)
    | split

theorem State.runRoomRead_moves {a0 a1} (h : Moves m s₀ s) (q : Sub 0xf5fae1 m := by exact .of ‹_› rfl) :
    Moves m s₀ (State.runRoomRead a0 a1 s) := by
  unfold State.runRoomRead
  try dsimp only
  repeat' first
    | with_reducible assumption | exact Sub.of ‹_› rfl | (intro _)
    | (with_reducible first
        | apply Moves.ite | apply Moves.foldl | apply State.inOrder_moves | apply State.modCe_moves
        | apply State.modConn_moves | apply State.modRoom_moves | apply State.nakEnd_moves
        | apply State.noteTaken_moves | apply State.packetGone_moves | apply State.push_moves
        | apply State.refuseMsg_moves)
    | dsimp only | split

theorem State.runCapsule_moves {a0 a1} (h : Moves m s₀ s) (q : Sub 0xf5fae1 m := by exact .of ‹_› rfl) :
    Moves m s₀ (State.runCapsule a0 a1 s) := by
  unfold State.runCapsule
  try dsimp only
  repeat' first
    | with_reducible assumption | exact Sub.of ‹_› rfl | (intro _)
    | (with_reducible first
        | apply Moves.ite | apply State.inOrder_moves | apply State.nakEnd_moves | apply State.noteTaken_moves
        | apply State.packetGone_moves)

theorem State.retry_moves {a0 a1} (h : Moves m s₀ s) (q : Sub 0x61bae1 m := by exact .of ‹_› rfl) :
    Moves m s₀ (State.retry a0 a1 s) := by
  unfold State.retry
  try dsimp only
  repeat' first
    | with_reducible assumption | exact Sub.of ‹_› rfl | (intro _)
    | (with_reducible first
        | apply Moves.ite | apply State.emit_moves | apply State.endConn_moves | apply State.modConn_moves)

theorem State.workAcked_moves {a0} (h : Moves m s₀ s) (q : Sub 0x602001 m := by exact .of ‹_› rfl) :
    Moves m s₀ (State.workAcked a0 s) := by
  unfold State.workAcked
  try dsimp only
  repeat' first
    | with_reducible assumption | exact Sub.of ‹_› rfl | (intro _)
    | (with_reducible first
        | apply Moves.ite | apply State.emit_moves | apply State.serveWaits_moves | apply State.workNext_moves)
    | split

theorem State.runAck_moves {a0 a1} (h : Moves m s₀ s) (q : Sub 0x61bae1 m := by exact .of ‹_› rfl) :
    Moves m s₀ (State.runAck a0 a1 s) := by
  unfold State.runAck
  try dsimp only
  repeat' first
    | with_reducible assumption | exact Sub.of ‹_› rfl | (intro _)
    | (with_reducible first
        | apply Moves.ite | apply State.endConn_moves | apply State.modConn_moves | apply State.retry_moves
        | apply State.workAcked_moves)
    | split

theorem State.runSack_moves {a0 a1} (h : Moves m s₀ s) (q : Sub 0x402000 m := by exact .of ‹_› rfl) :
    Moves m s₀ (State.runSack a0 a1 s) := by
  unfold State.runSack
  try dsimp only
  repeat' first
    | with_reducible assumption | exact Sub.of ‹_› rfl | (intro _)
    | (with_reducible first | apply Moves.ite | apply State.emit_moves | apply State.modConn_moves)
    | split

theorem State.runPacket_moves {a0} (h : Moves m s₀ s) (q : Sub 0xf5fae1 m := by exact .of ‹_› rfl) :
    Moves m s₀ (State.runPacket a0 s) := by
  unfold State.runPacket
  try dsimp only
  repeat' first
    | with_reducible assumption | exact Sub.of ‹_› rfl | (intro _)
    | (with_reducible first
        | apply Moves.ite | apply State.modConn_moves | apply State.packetGone_moves | apply State.runAck_moves
        | apply State.runCapsule_moves | apply State.runPulled_moves | apply State.runPush_moves
        | apply State.runRoomRead_moves | apply State.runSack_moves | apply State.useCtx_moves)
    | split

theorem State.packetIn_moves {p ops} (h : Moves m s₀ s) (q : Sub 0xf5fae1 m := by exact .of ‹_› rfl) : Moves m s₀ (State.packetIn p ops s) := by
  have k : Moves m s₀ (s.arrive p).2 := State.arrive_moves h
  unfold State.packetIn
  refine .ite h ?_
  split <;> (rename_i e; rw [e] at k)
  · exact .ite (State.waitPacket_moves k) (State.runPacket_moves k)
  · exact .ite (State.poisonBlock_moves k) k
  · exact k

theorem execRdmaReadResponse_moves {a0} (h : Moves m s₀ s) (q : Sub 0xf5fae1 m := by exact .of ‹_› rfl) :
    OutMoves m s₀ (execRdmaReadResponse a0 s) := by
  unfold execRdmaReadResponse
  try dsimp only
  repeat' first
    | (with_reducible first | apply OutMoves.next | assumption)
    | exact Sub.of ‹_› rfl | with_reducible apply State.packetIn_moves

theorem execCapsuleAccept_moves {a0} (h : Moves m s₀ s) (q : Sub 0xf5fae1 m := by exact .of ‹_› rfl) :
    OutMoves m s₀ (execCapsuleAccept a0 s) := by
  unfold execCapsuleAccept
  try dsimp only
  repeat' first
    | (with_reducible first | apply OutMoves.next | assumption)
    | exact Sub.of ‹_› rfl | with_reducible apply State.packetIn_moves

theorem execRdmaWritePush_moves {a0} (h : Moves m s₀ s) (q : Sub 0xf5fae1 m := by exact .of ‹_› rfl) :
    OutMoves m s₀ (execRdmaWritePush a0 s) := by
  unfold execRdmaWritePush
  try dsimp only
  repeat' first
    | (with_reducible first | apply OutMoves.next | assumption)
    | exact Sub.of ‹_› rfl | with_reducible apply State.packetIn_moves

theorem execRoomRdmaRead_moves {a0} (h : Moves m s₀ s) (q : Sub 0xf5fae1 m := by exact .of ‹_› rfl) :
    OutMoves m s₀ (execRoomRdmaRead a0 s) := by
  unfold execRoomRdmaRead
  try dsimp only
  repeat' first
    | (with_reducible first | apply OutMoves.next | assumption)
    | exact Sub.of ‹_› rfl | with_reducible apply State.packetIn_moves

theorem State.waitFilled_moves {a0 a1} (h : Moves m s₀ s) (q : Sub 0x20a001 m := by exact .of ‹_› rfl) :
    Moves m s₀ (State.waitFilled a0 a1 s) := by
  unfold State.waitFilled
  try dsimp only
  repeat' first
    | with_reducible assumption | exact Sub.of ‹_› rfl | (intro _)
    | (with_reducible first
        | apply State.fillBed_moves | apply State.freeOwned_moves | apply State.modBed_moves
        | apply State.modTr_moves)
    | split

theorem State.runWaiting_moves {a0} (h : Moves m s₀ s) (q : Sub 0xf5fae1 m := by exact .of ‹_› rfl) :
    Moves m s₀ (State.runWaiting a0 s) := by
  unfold State.runWaiting
  try dsimp only
  repeat' first
    | with_reducible assumption | exact Sub.of ‹_› rfl | (intro _)
    | (with_reducible first
        | apply Moves.ite | apply State.dropJobs_moves | apply State.fillBed_moves | apply State.freeOwned_moves
        | apply State.modBed_moves | apply State.modCe_moves | apply State.placeRoom_moves
        | apply State.pulledIn_moves | apply State.runPacket_moves)
    | split

theorem execContextFetchDone_moves {a0} (h : Moves m s₀ s) (q : Sub 0xf5fae1 m := by exact .of ‹_› rfl) :
    OutMoves m s₀ (execContextFetchDone a0 s) := by
  unfold execContextFetchDone
  try dsimp only
  repeat' first
    | (with_reducible first | apply OutMoves.next | assumption)
    | exact Sub.of ‹_› rfl | (intro _)
    | (with_reducible first
        | apply Moves.ite | apply OutMoves.ite | apply Moves.elim | apply Moves.foldl | apply State.freeOwned_moves
        | apply State.modConn_moves | apply State.modTr_moves | apply State.packetGone_moves
        | apply State.runWaiting_moves | apply State.tick_moves)
    | dsimp only | split

theorem State.fetchMoved_moves {a0} (h : Moves m s₀ s) (q : Sub 0x2000 m := by exact .of ‹_› rfl) :
    Moves m s₀ (State.fetchMoved a0 s) := by
  unfold State.fetchMoved
  try dsimp only
  repeat' first
    | with_reducible assumption | exact Sub.of ‹_› rfl | (intro _) | with_reducible apply State.modTr_moves

theorem State.spillMoved_moves {a0} (h : Moves m s₀ s) (q : Sub 0x2041 m := by exact .of ‹_› rfl) :
    Moves m s₀ (State.spillMoved a0 s) := by
  unfold State.spillMoved
  try dsimp only
  repeat' first
    | with_reducible assumption | exact Sub.of ‹_› rfl | (intro _)
    | (with_reducible first
        | apply Moves.ite | apply State.fetchCtx_moves | apply State.modConn_moves | apply State.tick_moves)
    | split

theorem execCmReq_moves {a0 a1 a2 a3 a4 a5} (h : Moves m s₀ s) (q : Sub 0xc12041 m := by exact .of ‹_› rfl) :
    OutMoves m s₀ (execCmReq a0 a1 a2 a3 a4 a5 s) := by
  unfold execCmReq
  try dsimp only
  repeat' first
    | (with_reducible first | apply OutMoves.next | assumption)
    | exact Sub.of ‹_› rfl | (intro _)
    | (with_reducible first
        | apply Moves.ite | apply OutMoves.ite | apply Moves.foldl | apply State.drawn_moves
        | apply State.emit_moves | apply State.modTr_moves | apply State.spillFor_moves | apply State.tick_moves
        | apply State.useCtx_moves | apply State.wantKey_moves)
    | dsimp only | split

theorem State.driveCounted_moves {a0 a1 a2} (h : Moves m s₀ s) (q : Sub 0x602081 m := by exact .of ‹_› rfl) :
    Moves m s₀ (State.driveCounted a0 a1 a2 s) := by
  unfold State.driveCounted
  try dsimp only
  repeat' first
    | with_reducible assumption | exact Sub.of ‹_› rfl | (intro _)
    | (with_reducible first
        | apply Moves.ite | apply Moves.foldl | apply State.modDrive_moves | apply State.serveWaits_moves
        | apply State.waitEnds_moves)

theorem execWaitEntryTimeout_moves {a0} (h : Moves m s₀ s) (q : Sub 0x602001 m := by exact .of ‹_› rfl) :
    OutMoves m s₀ (execWaitEntryTimeout a0 s) := by
  unfold execWaitEntryTimeout
  try dsimp only
  repeat' first
    | (with_reducible first | apply OutMoves.next | assumption)
    | exact Sub.of ‹_› rfl | (intro _) | with_reducible apply State.waitEnds_moves | split

theorem execAcknowledge_moves {a0} (h : Moves m s₀ s) (q : Sub 0xf5fae1 m := by exact .of ‹_› rfl) :
    OutMoves m s₀ (execAcknowledge a0 s) := by
  unfold execAcknowledge
  try dsimp only
  repeat' first
    | (with_reducible first | apply OutMoves.next | assumption)
    | exact Sub.of ‹_› rfl
    | (with_reducible first | apply Moves.ite | apply OutMoves.ite | apply State.packetIn_moves)

theorem execSack_moves {a0} (h : Moves m s₀ s) (q : Sub 0xf5fae1 m := by exact .of ‹_› rfl) :
    OutMoves m s₀ (execSack a0 s) := by
  unfold execSack
  try dsimp only
  repeat' first
    | (with_reducible first | apply OutMoves.next | assumption)
    | exact Sub.of ‹_› rfl
    | (with_reducible first | apply Moves.ite | apply OutMoves.ite | apply State.packetIn_moves)

theorem execAckTimeout_moves {a0} (h : Moves m s₀ s) (q : Sub 0x61bae1 m := by exact .of ‹_› rfl) :
    OutMoves m s₀ (execAckTimeout a0 s) := by
  unfold execAckTimeout
  try dsimp only
  repeat' first
    | (with_reducible first | apply OutMoves.next | assumption)
    | exact Sub.of ‹_› rfl
    | (with_reducible first | apply Moves.ite | apply OutMoves.ite | apply State.retry_moves)
    | split

theorem execSackInterval_moves {a0} (h : Moves m s₀ s) (q : Sub 0xc04001 m := by exact .of ‹_› rfl) :
    OutMoves m s₀ (execSackInterval a0 s) := by
  unfold execSackInterval
  try dsimp only
  repeat' first
    | (with_reducible first | apply OutMoves.next | assumption)
    | exact Sub.of ‹_› rfl
    | (with_reducible first
        | apply Moves.ite | apply OutMoves.ite | apply State.emit_moves | apply State.sendControl_moves)
    | split

theorem execSpreadTimeout_moves {a0 a1} (h : Moves m s₀ s) (q : Sub 0x21bae1 m := by exact .of ‹_› rfl) :
    OutMoves m s₀ (execSpreadTimeout a0 a1 s) := by
  unfold execSpreadTimeout
  try dsimp only
  repeat' first
    | (with_reducible first | apply OutMoves.next | assumption)
    | exact Sub.of ‹_› rfl | (intro _)
    | (with_reducible first
        | apply Moves.ite | apply OutMoves.ite | apply State.endConn_moves | apply State.record_moves
        | apply State.tick_moves)
    | split

theorem execCnp_moves {a0} (h : Moves m s₀ s) (q : Sub 0xf5fae1 m := by exact .of ‹_› rfl) :
    OutMoves m s₀ (execCnp a0 s) := by
  unfold execCnp
  try dsimp only
  repeat' first
    | (with_reducible first | apply OutMoves.next | assumption)
    | exact Sub.of ‹_› rfl | with_reducible apply State.packetIn_moves

theorem State.connLeg_moves (h : Moves m s₀ s) (q : Sub 0xe16001 m := by exact .of ‹_› rfl) :
    Moves m s₀ (State.connLeg s) := by
  unfold State.connLeg
  try dsimp only
  repeat' first
    | with_reducible assumption | exact Sub.of ‹_› rfl | (intro _)
    | (with_reducible first
        | apply Moves.ite | apply Moves.foldl | apply State.count_moves | apply State.modConn_moves
        | apply State.sendAck_moves)

theorem State.rekeyWrite_moves {a0 a1} (h : Moves m s₀ s) (q : Sub 0x212005 m := by exact .of ‹_› rfl) :
    Moves m s₀ (State.rekeyWrite a0 a1 s) := by
  unfold State.rekeyWrite
  try dsimp only
  repeat' first
    | with_reducible assumption | exact Sub.of ‹_› rfl | (intro _)
    | (with_reducible first | apply State.action_moves | apply State.endRun_moves | apply State.rekeyOut_moves)
    | split

theorem execTrRekey_moves {a0 a1} (h : Moves m s₀ s) (q : Sub 0x212005 m := by exact .of ‹_› rfl) :
    OutMoves m s₀ (execTrRekey a0 a1 s) := by
  unfold execTrRekey
  try dsimp only
  repeat' first
    | (with_reducible first | apply OutMoves.next | assumption)
    | exact Sub.of ‹_› rfl | with_reducible apply State.rekeyWrite_moves

theorem execRekeyOverlapEnd_moves {a0} (h : Moves m s₀ s) (q : Sub 0x2000 m := by exact .of ‹_› rfl) :
    OutMoves m s₀ (execRekeyOverlapEnd a0 s) := by
  unfold execRekeyOverlapEnd
  try dsimp only
  repeat' first
    | (with_reducible first | apply OutMoves.next | assumption)
    | exact Sub.of ‹_› rfl | (intro _) | with_reducible apply State.modConn_moves

theorem State.modifyEffect_moves {a0} (h : Moves m s₀ s) (q : Sub 0x20a041 m := by exact .of ‹_› rfl) :
    Moves m s₀ (State.modifyEffect a0 s) := by
  unfold State.modifyEffect
  try dsimp only
  repeat' first
    | with_reducible assumption | exact Sub.of ‹_› rfl | (intro _)
    | (with_reducible first
        | apply Moves.ite | apply Moves.foldl | apply State.finish_moves | apply State.freeOwned_moves
        | apply State.modRoom_moves | apply State.unpinRoom_moves)
    | dsimp only | split

theorem State.closingLeg_moves {a0} (h : Moves m s₀ s) (q : Sub 0x20a041 m := by exact .of ‹_› rfl) :
    Moves m s₀ (State.closingLeg a0 s) := by
  unfold State.closingLeg
  try dsimp only
  repeat' first
    | with_reducible assumption | exact Sub.of ‹_› rfl | (intro _)
    | (with_reducible first
        | apply Moves.ite | apply State.modRoom_moves | apply State.record_moves | apply State.roomClosed_moves
        | apply State.tick_moves)

theorem State.roomsLeg_moves (h : Moves m s₀ s) (q : Sub 0x20a041 m := by exact .of ‹_› rfl) :
    Moves m s₀ (State.roomsLeg s) := by
  unfold State.roomsLeg
  try dsimp only
  repeat' first
    | with_reducible assumption | exact Sub.of ‹_› rfl | (intro _)
    | (with_reducible first | apply Moves.foldl | apply State.closingLeg_moves | apply State.modifyEffect_moves)

end Sys2Proof.Machine
end

