-- ==== Sys2Proof/Laws/MovesShelf.lean ====
section
/-! SUPPORT. What commands, cells, drives, rebuild and the ledger do: each operation moves the state as Moves says. -/

set_option Elab.async false

namespace Sys2Proof.Machine

variable {m : Nat} {s₀ s : State}

/-! ### Machine/Shelf.lean -/

theorem State.descWrite_moves {a0 a1 a2} (h : Moves m s₀ s) (q : Sub 0x4000c0 m := by exact .of ‹_› rfl) :
    Moves m s₀ (State.descWrite a0 a1 a2 s) := by
  unfold State.descWrite
  try dsimp only
  repeat' first
    | with_reducible assumption | exact Sub.of ‹_› rfl
    | (with_reducible first | apply State.issueDrive_moves | apply State.push_moves)

theorem State.descPut_moves {a0 a1} (h : Moves m s₀ s) (q : Sub 0x4008c0 m := by exact .of ‹_› rfl) :
    Moves m s₀ (State.descPut a0 a1 s) := by
  unfold State.descPut
  try dsimp only
  repeat' first
    | with_reducible assumption | exact Sub.of ‹_› rfl | (intro _)
    | (with_reducible first | apply Moves.foldl | apply State.descWrite_moves | apply State.modLg_moves)

theorem State.descStart_moves (h : Moves m s₀ s) (q : Sub 0xc008c2 m := by exact .of ‹_› rfl) :
    Moves m s₀ (State.descStart s) := by
  unfold State.descStart
  try dsimp only
  repeat' first
    | with_reducible assumption | exact Sub.of ‹_› rfl
    | (with_reducible first
        | apply Moves.ite | apply State.descPut_moves | apply State.drawn_moves | apply State.putBlob_moves)

theorem State.descRequest_moves (h : Moves m s₀ s) (q : Sub 0xc008c2 m := by exact .of ‹_› rfl) :
    Moves m s₀ (State.descRequest s) := by
  unfold State.descRequest
  try dsimp only
  repeat' first
    | with_reducible assumption | exact Sub.of ‹_› rfl | (intro _)
    | (with_reducible first | apply State.descStart_moves | apply State.modLg_moves)
    | split

theorem State.descDone_moves {a0} (h : Moves m s₀ s) (q : Sub 0x800 m := by exact .of ‹_› rfl) :
    Moves m s₀ (State.descDone a0 s) := by
  unfold State.descDone
  try dsimp only
  repeat' first
    | with_reducible assumption | exact Sub.of ‹_› rfl | (intro _) | with_reducible apply State.modLg_moves

theorem State.descGone_moves {a0} (h : Moves m s₀ s) (q : Sub 0x800 m := by exact .of ‹_› rfl) :
    Moves m s₀ (State.descGone a0 s) := by
  unfold State.descGone
  try dsimp only
  repeat' first
    | with_reducible assumption | exact Sub.of ‹_› rfl | (intro _) | with_reducible apply State.modLg_moves

theorem State.resNotify_moves {a0 a2} (h : Moves m s₀ s) (q : Sub 0x40 m := by exact .of ‹_› rfl) :
    Moves m s₀ (State.resNotify a0 s a2) := by
  unfold State.resNotify
  try dsimp only
  repeat' first
    | with_reducible assumption | exact Sub.of ‹_› rfl | (intro _)
    | (with_reducible first
        | apply Moves.ite | apply Moves.foldl | apply Moves.foldlSnd | apply Moves.foldlFst
        | apply State.modAssoc_moves | apply State.raiseOn_moves)

theorem State.resAbort_moves {a0 a1} (h : Moves m s₀ s) (q : Sub 0x218ae1 m := by exact .of ‹_› rfl) :
    Moves m s₀ (State.resAbort a0 a1 s).2 := by
  unfold State.resAbort
  try dsimp only
  repeat' first
    | with_reducible assumption | exact Sub.of ‹_› rfl | (intro _)
    | (with_reducible first
        | apply Moves.ite | apply Moves.iteSnd | apply Moves.foldl | apply Moves.foldlSnd | apply Moves.foldlFst
        | apply State.failCmd_moves)

theorem State.resRun_moves {a0} (h : Moves m s₀ s) (q : Sub 0xe18ae3 m := by exact .of ‹_› rfl) :
    Moves m s₀ (State.resRun a0 s) := by
  unfold State.resRun
  try dsimp only
  repeat' first
    | with_reducible assumption | exact Sub.of ‹_› rfl | (intro _)
    | (with_reducible first
        | apply Moves.ite | apply State.descRequest_moves | apply State.finish_moves | apply State.modCe_moves
        | apply State.modCmd_moves | apply State.modNs_moves | apply State.resAbort_moves)
    | split

theorem State.resPump_moves {a0 a1} (h : Moves m s₀ s) (q : Sub 0xe18ae3 m := by exact .of ‹_› rfl) :
    Moves m s₀ (State.resPump a0 a1 s) := by
  induction a1 generalizing s with
  | zero => exact h
  | succ _ ih =>
    unfold State.resPump
    try dsimp only
    repeat' first
      | with_reducible assumption | exact Sub.of ‹_› rfl | (intro _)
      | (with_reducible first | apply Moves.ite | apply State.resRun_moves)
      | split | with_reducible apply ih

theorem State.resServe_moves {a0} (h : Moves m s₀ s) (q : Sub 0xe18ae3 m := by exact .of ‹_› rfl) :
    Moves m s₀ (State.resServe a0 s) := by
  unfold State.resServe
  try dsimp only
  repeat' first | with_reducible assumption | exact Sub.of ‹_› rfl | with_reducible apply State.resPump_moves

theorem State.resCommitted_moves {a0} (h : Moves m s₀ s) (q : Sub 0xe18ae3 m := by exact .of ‹_› rfl) :
    Moves m s₀ (State.resCommitted a0 s) := by
  unfold State.resCommitted
  try dsimp only
  repeat' first
    | with_reducible assumption | exact Sub.of ‹_› rfl | (intro _)
    | (with_reducible first
        | apply Moves.ite | apply Moves.foldl | apply State.finish_moves | apply State.modCe_moves
        | apply State.resNotify_moves | apply State.resServe_moves)

theorem State.resPass_moves (h : Moves m s₀ s) (q : Sub 0xe18ae3 m := by exact .of ‹_› rfl) :
    Moves m s₀ (State.resPass s) := by
  unfold State.resPass
  try dsimp only
  repeat' first
    | with_reducible assumption | exact Sub.of ‹_› rfl | (intro _)
    | (with_reducible first | apply Moves.foldl | apply State.resCommitted_moves)

theorem State.nsChanged_moves {a0} (h : Moves m s₀ s) (q : Sub 0x40 m := by exact .of ‹_› rfl) :
    Moves m s₀ (State.nsChanged a0 s) := by
  unfold State.nsChanged
  try dsimp only
  repeat' first
    | with_reducible assumption | exact Sub.of ‹_› rfl | (intro _)
    | (with_reducible first | apply State.modCe_moves | apply State.raiseAll_moves)

theorem State.nsRecord_moves {a0} (h : Moves m s₀ s) (q : Sub 0x200001 m := by exact .of ‹_› rfl) :
    Moves m s₀ (State.nsRecord a0 s) := by
  unfold State.nsRecord
  try dsimp only
  repeat' first | with_reducible assumption | exact Sub.of ‹_› rfl | with_reducible apply State.record_moves

theorem State.nsCreate_moves {a0 a1} (h : Moves m s₀ s) (q : Sub 0xc108c7 m := by exact .of ‹_› rfl) :
    Moves m s₀ (State.nsCreate a0 a1 s) := by
  unfold State.nsCreate
  try dsimp only
  repeat' first
    | with_reducible assumption | exact Sub.of ‹_› rfl | (intro _)
    | (with_reducible first
        | apply Moves.ite | apply State.action_moves | apply State.descRequest_moves | apply State.drawn_moves
        | apply State.endRun_moves | apply State.fillSlot_moves | apply State.modCe_moves)
    | split

theorem execCeNsCreate_moves {a0 a1} (h : Moves m s₀ s) (q : Sub 0xc108c7 m := by exact .of ‹_› rfl) :
    OutMoves m s₀ (execCeNsCreate a0 a1 s) := by
  unfold execCeNsCreate
  try dsimp only
  repeat' first
    | (with_reducible first | apply OutMoves.next | assumption)
    | exact Sub.of ‹_› rfl | with_reducible apply State.nsCreate_moves

theorem State.nsDeletePass_moves (h : Moves m s₀ s) (q : Sub 0xe128c3 m := by exact .of ‹_› rfl) :
    Moves m s₀ (State.nsDeletePass s) := by
  unfold State.nsDeletePass
  try dsimp only
  repeat' first
    | with_reducible assumption | exact Sub.of ‹_› rfl | (intro _)
    | (with_reducible first
        | apply Moves.ite | apply State.cacheRemove_moves | apply State.descRequest_moves
        | apply State.emptySlot_moves | apply State.modCe_moves | apply State.modCy_moves
        | apply State.nsRecord_moves | apply State.put_moves)
    | split

theorem State.nsDelete_moves {a0 a1} (h : Moves m s₀ s) (q : Sub 0xe128c7 m := by exact .of ‹_› rfl) :
    Moves m s₀ (State.nsDelete a0 a1 s) := by
  unfold State.nsDelete
  try dsimp only
  repeat' first
    | with_reducible assumption | exact Sub.of ‹_› rfl | (intro _)
    | (with_reducible first
        | apply Moves.ite | apply State.action_moves | apply State.endRun_moves | apply State.modCe_moves
        | apply State.modNs_moves | apply State.nsDeletePass_moves)
    | split

theorem execCeNsDelete_moves {a0 a1} (h : Moves m s₀ s) (q : Sub 0xe128c7 m := by exact .of ‹_› rfl) :
    OutMoves m s₀ (execCeNsDelete a0 a1 s) := by
  unfold execCeNsDelete
  try dsimp only
  repeat' first
    | (with_reducible first | apply OutMoves.next | assumption)
    | exact Sub.of ‹_› rfl | with_reducible apply State.nsDelete_moves

theorem State.partyMask_moves {a0 a1 a2} (h : Moves m s₀ s) (q : Sub 0xc008c3 m := by exact .of ‹_› rfl) :
    Moves m s₀ (State.partyMask a0 a1 a2 s) := by
  unfold State.partyMask
  try dsimp only
  repeat' first
    | with_reducible assumption | exact Sub.of ‹_› rfl | (intro _)
    | (with_reducible first
        | apply Moves.ite | apply State.descRequest_moves | apply State.guarded_moves | apply State.nsChanged_moves
        | apply State.put_moves)

theorem execNsPartyMaskWrite_moves {a0 a1 a2} (h : Moves m s₀ s) (q : Sub 0xc008c3 m := by exact .of ‹_› rfl) :
    OutMoves m s₀ (execNsPartyMaskWrite a0 a1 a2 s) := by
  unfold execNsPartyMaskWrite
  try dsimp only
  repeat' first
    | (with_reducible first | apply OutMoves.next | assumption)
    | exact Sub.of ‹_› rfl | with_reducible apply State.partyMask_moves

theorem State.nsCommitted_moves (h : Moves m s₀ s) (q : Sub 0x200045 m := by exact .of ‹_› rfl) :
    Moves m s₀ (State.nsCommitted s) := by
  unfold State.nsCommitted
  try dsimp only
  repeat' first
    | with_reducible assumption | exact Sub.of ‹_› rfl | (intro _)
    | (with_reducible first
        | apply Moves.ite | apply State.endRun_moves | apply State.modCe_moves | apply State.modNs_moves
        | apply State.nsChanged_moves | apply State.nsRecord_moves)
    | split

theorem execDescriptorCommit_moves (h : Moves m s₀ s) (q : Sub 0xe18ae7 m := by exact .of ‹_› rfl) :
    OutMoves m s₀ (execDescriptorCommit s) := by
  unfold execDescriptorCommit
  try dsimp only
  repeat' first
    | (with_reducible first | apply OutMoves.next | assumption)
    | exact Sub.of ‹_› rfl | (intro _)
    | (with_reducible first
        | apply Moves.ite | apply OutMoves.ite | apply State.descStart_moves | apply State.modLg_moves
        | apply State.nsCommitted_moves | apply State.resPass_moves)
    | split

/-! ### Machine/HostIo.lean -/

theorem State.passed_moves {a0} (h : Moves m s₀ s) (q : Sub 0x40 m := by exact .of ‹_› rfl) :
    Moves m s₀ (State.passed a0 s) := by
  unfold State.passed
  try dsimp only
  repeat' first
    | with_reducible assumption | exact Sub.of ‹_› rfl | (intro _) | with_reducible apply State.modCmd_moves

theorem State.readCmd_moves {a0} (h : Moves m s₀ s) (q : Sub 0x21aae1 m := by exact .of ‹_› rfl) :
    Moves m s₀ (State.readCmd a0 s) := by
  unfold State.readCmd
  try dsimp only
  repeat' first
    | with_reducible assumption | exact Sub.of ‹_› rfl | (intro _)
    | (with_reducible first
        | apply Moves.foldl | apply State.admitAll_moves | apply State.enqueue_moves | apply State.finish_moves
        | apply State.modCmd_moves | apply State.passed_moves)
    | dsimp only | split

theorem execReadCmd_moves {a0} (h : Moves m s₀ s) (q : Sub 0x21aae1 m := by exact .of ‹_› rfl) :
    OutMoves m s₀ (execReadCmd a0 s) := by
  unfold execReadCmd
  try dsimp only
  repeat' first
    | (with_reducible first | apply OutMoves.next | assumption)
    | exact Sub.of ‹_› rfl | with_reducible apply State.readCmd_moves | split

theorem State.writeCmd_moves {a0} (h : Moves m s₀ s) (q : Sub 0x71aae1 m := by exact .of ‹_› rfl) :
    Moves m s₀ (State.writeCmd a0 s) := by
  unfold State.writeCmd
  try dsimp only
  repeat' first
    | with_reducible assumption | exact Sub.of ‹_› rfl | (intro _)
    | (with_reducible first
        | apply Moves.ite | apply Moves.foldl | apply State.admitAll_moves | apply State.enqueue_moves
        | apply State.finish_moves | apply State.modCmd_moves | apply State.pump_moves)
    | dsimp only | split

theorem execWriteCmd_moves {a0} (h : Moves m s₀ s) (q : Sub 0x71aae1 m := by exact .of ‹_› rfl) :
    OutMoves m s₀ (execWriteCmd a0 s) := by
  unfold execWriteCmd
  try dsimp only
  repeat' first
    | (with_reducible first | apply OutMoves.next | assumption)
    | exact Sub.of ‹_› rfl | with_reducible apply State.writeCmd_moves | split

theorem execFlushCmd_moves {a0} (h : Moves m s₀ s) (q : Sub 0x40 m := by exact .of ‹_› rfl) :
    OutMoves m s₀ (execFlushCmd a0 s) := by
  unfold execFlushCmd
  try dsimp only
  repeat' first
    | (with_reducible first | apply OutMoves.next | assumption)
    | exact Sub.of ‹_› rfl
    | (with_reducible first
        | apply Moves.ite | apply OutMoves.ite | apply State.finish_moves | apply State.flushPass_moves
        | apply State.passed_moves)
    | split

theorem State.zeroCmd_moves {a0} (h : Moves m s₀ s) (q : Sub 0x718ae1 m := by exact .of ‹_› rfl) :
    Moves m s₀ (State.zeroCmd a0 s) := by
  unfold State.zeroCmd
  try dsimp only
  repeat' first
    | with_reducible assumption | exact Sub.of ‹_› rfl | (intro _)
    | (with_reducible first
        | apply Moves.ite | apply State.finish_moves | apply State.modCmd_moves | apply State.passed_moves
        | apply State.pump_moves)
    | split

theorem execWriteZeroes_moves {a0} (h : Moves m s₀ s) (q : Sub 0x718ae1 m := by exact .of ‹_› rfl) :
    OutMoves m s₀ (execWriteZeroes a0 s) := by
  unfold execWriteZeroes
  try dsimp only
  repeat' first
    | (with_reducible first | apply OutMoves.next | assumption)
    | exact Sub.of ‹_› rfl | with_reducible apply State.zeroCmd_moves | split

theorem execDatasetManagement_moves {a0} (h : Moves m s₀ s) (q : Sub 0x718ae1 m := by exact .of ‹_› rfl) :
    OutMoves m s₀ (execDatasetManagement a0 s) := by
  unfold execDatasetManagement
  try dsimp only
  repeat' first
    | (with_reducible first | apply OutMoves.next | assumption)
    | exact Sub.of ‹_› rfl
    | (with_reducible first
        | apply Moves.ite | apply OutMoves.ite | apply State.finish_moves | apply State.passed_moves
        | apply State.zeroCmd_moves)
    | split

theorem execBlockFix_moves {a0 a1} (h : Moves m s₀ s) (q : Sub 0x71aee1 m := by exact .of ‹_› rfl) :
    OutMoves m s₀ (execBlockFix a0 a1 s) := by
  unfold execBlockFix
  try dsimp only
  repeat' first
    | (with_reducible first | apply OutMoves.next | assumption)
    | exact Sub.of ‹_› rfl
    | (with_reducible first | apply State.fixBlock_moves | apply State.pump_moves)

theorem execReadRoomHoldExpiry_moves {a0} (h : Moves m s₀ s) (q : Sub 0x41 m := by exact .of ‹_› rfl) :
    OutMoves m s₀ (execReadRoomHoldExpiry a0 s) := by
  unfold execReadRoomHoldExpiry
  try dsimp only
  repeat' first
    | (with_reducible first | apply OutMoves.next | assumption)
    | exact Sub.of ‹_› rfl | (intro _)
    | (with_reducible first
        | apply Moves.ite | apply OutMoves.ite | apply State.modCe_moves | apply State.tick_moves
        | apply State.unpin_moves)

theorem State.resCmd_moves {a0 a1} (h : Moves m s₀ s) (q : Sub 0xe18ae3 m := by exact .of ‹_› rfl) :
    Moves m s₀ (State.resCmd a0 a1 s) := by
  unfold State.resCmd
  try dsimp only
  repeat' first
    | with_reducible assumption | exact Sub.of ‹_› rfl
    | (with_reducible first | apply State.finish_moves | apply State.passed_moves | apply State.resServe_moves)
    | split

theorem execReservationRegister_moves {a0} (h : Moves m s₀ s) (q : Sub 0xe18ae3 m := by exact .of ‹_› rfl) :
    OutMoves m s₀ (execReservationRegister a0 s) := by
  unfold execReservationRegister
  try dsimp only
  repeat' first
    | (with_reducible first | apply OutMoves.next | assumption)
    | exact Sub.of ‹_› rfl | with_reducible apply State.resCmd_moves

theorem execReservationAcquire_moves {a0} (h : Moves m s₀ s) (q : Sub 0xe18ae3 m := by exact .of ‹_› rfl) :
    OutMoves m s₀ (execReservationAcquire a0 s) := by
  unfold execReservationAcquire
  try dsimp only
  repeat' first
    | (with_reducible first | apply OutMoves.next | assumption)
    | exact Sub.of ‹_› rfl | with_reducible apply State.resCmd_moves

theorem execReservationRelease_moves {a0} (h : Moves m s₀ s) (q : Sub 0xe18ae3 m := by exact .of ‹_› rfl) :
    OutMoves m s₀ (execReservationRelease a0 s) := by
  unfold execReservationRelease
  try dsimp only
  repeat' first
    | (with_reducible first | apply OutMoves.next | assumption)
    | exact Sub.of ‹_› rfl | with_reducible apply State.resCmd_moves

theorem execReservationReport_moves {a0} (h : Moves m s₀ s) (q : Sub 0xe18ae3 m := by exact .of ‹_› rfl) :
    OutMoves m s₀ (execReservationReport a0 s) := by
  unfold execReservationReport
  try dsimp only
  repeat' first
    | (with_reducible first | apply OutMoves.next | assumption)
    | exact Sub.of ‹_› rfl | with_reducible apply State.resCmd_moves

theorem execRoomOpen_moves {a0} (h : Moves m s₀ s) (q : Sub 0x802040 m := by exact .of ‹_› rfl) :
    OutMoves m s₀ (execRoomOpen a0 s) := by
  unfold execRoomOpen
  try dsimp only
  repeat' first
    | (with_reducible first | apply OutMoves.next | assumption)
    | exact Sub.of ‹_› rfl | (intro _)
    | (with_reducible first
        | apply Moves.ite | apply OutMoves.ite | apply State.drawn_moves | apply State.finish_moves
        | apply State.modCmd_moves | apply State.modTr_moves)
    | split

theorem execRoomModify_moves {a0} (h : Moves m s₀ s) (q : Sub 0x2040 m := by exact .of ‹_› rfl) :
    OutMoves m s₀ (execRoomModify a0 s) := by
  unfold execRoomModify
  try dsimp only
  repeat' first
    | (with_reducible first | apply OutMoves.next | assumption)
    | exact Sub.of ‹_› rfl | (intro _)
    | (with_reducible first
        | apply Moves.ite | apply OutMoves.ite | apply State.finish_moves | apply State.modRoom_moves
        | apply State.passed_moves)
    | split

theorem execRoomClose_moves {a0} (h : Moves m s₀ s) (q : Sub 0x2040 m := by exact .of ‹_› rfl) :
    OutMoves m s₀ (execRoomClose a0 s) := by
  unfold execRoomClose
  try dsimp only
  repeat' first
    | (with_reducible first | apply OutMoves.next | assumption)
    | exact Sub.of ‹_› rfl | (intro _)
    | (with_reducible first
        | apply Moves.ite | apply OutMoves.ite | apply State.finish_moves | apply State.modRoom_moves
        | apply State.passed_moves | apply State.roomClosing_moves)
    | split

theorem execRoomCloseTimeout_moves {a0} (h : Moves m s₀ s) (q : Sub 0x2000 m := by exact .of ‹_› rfl) :
    OutMoves m s₀ (execRoomCloseTimeout a0 s) := by
  unfold execRoomCloseTimeout
  try dsimp only
  repeat' first
    | (with_reducible first | apply OutMoves.next | assumption)
    | exact Sub.of ‹_› rfl | (intro _)
    | (with_reducible first | apply Moves.ite | apply OutMoves.ite | apply State.modRoom_moves)
    | split

theorem State.psAnswer_moves {a0 a1} (h : Moves m s₀ s) (q : Sub 0x44 m := by exact .of ‹_› rfl) :
    Moves m s₀ (State.psAnswer a0 a1 s) := by
  unfold State.psAnswer
  try dsimp only
  repeat' first
    | with_reducible assumption | exact Sub.of ‹_› rfl
    | (with_reducible first | apply Moves.ite | apply State.endRun_moves | apply State.respond_moves)
    | split

theorem State.psRequest_moves {a0 a1} (h : Moves m s₀ s) (q : Sub 0x240045 m := by exact .of ‹_› rfl) :
    Moves m s₀ (State.psRequest a0 a1 s) := by
  unfold State.psRequest
  try dsimp only
  repeat' first
    | with_reducible assumption | exact Sub.of ‹_› rfl | (intro _)
    | (with_reducible first
        | apply Moves.ite | apply State.addCause_moves | apply State.clearCause_moves | apply State.modCe_moves
        | apply State.psAnswer_moves | apply State.setPs_moves)

theorem State.psWrite_moves {a0 a1} (h : Moves m s₀ s) (q : Sub 0x240045 m := by exact .of ‹_› rfl) :
    Moves m s₀ (State.psWrite a0 a1 s) := by
  unfold State.psWrite
  try dsimp only
  repeat' first
    | with_reducible assumption | exact Sub.of ‹_› rfl | (intro _)
    | (with_reducible first
        | apply Moves.ite | apply State.action_moves | apply State.endRun_moves | apply State.psRequest_moves)

theorem execCePowerStateSet_moves {a0 a1} (h : Moves m s₀ s) (q : Sub 0x240045 m := by exact .of ‹_› rfl) :
    OutMoves m s₀ (execCePowerStateSet a0 a1 s) := by
  unfold execCePowerStateSet
  try dsimp only
  repeat' first
    | (with_reducible first | apply OutMoves.next | assumption)
    | exact Sub.of ‹_› rfl | with_reducible apply State.psWrite_moves

theorem execPs2EntryComplete_moves (h : Moves m s₀ s) (q : Sub 0x200045 m := by exact .of ‹_› rfl) :
    OutMoves m s₀ (execPs2EntryComplete s) := by
  unfold execPs2EntryComplete
  try dsimp only
  repeat' first
    | (with_reducible first | apply OutMoves.next | assumption)
    | exact Sub.of ‹_› rfl | (intro _)
    | (with_reducible first
        | apply Moves.ite | apply OutMoves.ite | apply State.modCe_moves | apply State.psAnswer_moves
        | apply State.setPs_moves)
    | split

theorem execPsEntryLimitExpiry_moves (h : Moves m s₀ s) (q : Sub 0x40044 m := by exact .of ‹_› rfl) :
    OutMoves m s₀ (execPsEntryLimitExpiry s) := by
  unfold execPsEntryLimitExpiry
  try dsimp only
  repeat' first
    | (with_reducible first | apply OutMoves.next | assumption)
    | exact Sub.of ‹_› rfl | (intro _)
    | (with_reducible first | apply State.clearCause_moves | apply State.modCe_moves | apply State.psAnswer_moves)
    | split

/-! ### Machine/Admin.lean -/

theorem State.sendIn_moves {a0} (h : Moves m s₀ s) (q : Sub 0xe16041 m := by exact .of ‹_› rfl) :
    Moves m s₀ (State.sendIn a0 s) := by
  unfold State.sendIn
  try dsimp only
  repeat' first
    | with_reducible assumption | exact Sub.of ‹_› rfl | (intro _)
    | (with_reducible first
        | apply Moves.ite | apply State.modConn_moves | apply State.sendAck_moves | apply State.stamped_moves)
    | split

theorem State.keepAlive_moves {a0} (h : Moves m s₀ s) (q : Sub 0x40 m := by exact .of ‹_› rfl) :
    Moves m s₀ (State.keepAlive a0 s) := by
  unfold State.keepAlive
  try dsimp only
  repeat' first
    | with_reducible assumption | exact Sub.of ‹_› rfl | (intro _) | with_reducible apply State.modAssoc_moves

theorem State.adminCmd_moves {a0 a1 a2 a3 a4} (h : Moves m s₀ s) (q : Sub 0xe16041 m := by exact .of ‹_› rfl) (k4 : ∀ x0 u, Moves m s₀ u → Moves m s₀ (a4 x0 u)) :
    Moves m s₀ (State.adminCmd a0 a1 a2 a3 a4 s) := by
  unfold State.adminCmd
  try dsimp only
  repeat' first
    | with_reducible assumption | exact Sub.of ‹_› rfl
    | (with_reducible first
        | apply Moves.ite | apply State.keepAlive_moves | apply State.respond_moves | apply State.sendIn_moves
        | apply State.stamped_moves | apply k4)
    | split

theorem State.connectRefused_moves {a0 a1} (h : Moves m s₀ s) (q : Sub 0x21bae1 m := by exact .of ‹_› rfl) :
    Moves m s₀ (State.connectRefused a0 a1 s) := by
  unfold State.connectRefused
  try dsimp only
  repeat' first
    | with_reducible assumption | exact Sub.of ‹_› rfl
    | (with_reducible first | apply State.endConn_moves | apply State.respond_moves)

theorem State.adminConnect_moves {a0 a1} (h : Moves m s₀ s) (q : Sub 0x21bae1 m := by exact .of ‹_› rfl) :
    Moves m s₀ (State.adminConnect a0 a1 s) := by
  unfold State.adminConnect
  try dsimp only
  repeat' first
    | with_reducible assumption | exact Sub.of ‹_› rfl | (intro _)
    | (with_reducible first
        | apply Moves.ite | apply State.connectRefused_moves | apply State.fillSlot_moves | apply State.modCe_moves
        | apply State.modConn_moves | apply State.modSi_moves | apply State.record_moves
        | apply State.respondWith_moves)
    | split

theorem State.ioConnect_moves {a0 a1} (h : Moves m s₀ s) (q : Sub 0x21bae1 m := by exact .of ‹_› rfl) :
    Moves m s₀ (State.ioConnect a0 a1 s) := by
  unfold State.ioConnect
  try dsimp only
  repeat' first
    | with_reducible assumption | exact Sub.of ‹_› rfl | (intro _)
    | (with_reducible first
        | apply Moves.ite | apply State.connectRefused_moves | apply State.modAssoc_moves
        | apply State.modConn_moves | apply State.respondWith_moves)
    | split

theorem execFabricsConnect_moves {a0} (h : Moves m s₀ s) (q : Sub 0xe1fae1 m := by exact .of ‹_› rfl) :
    OutMoves m s₀ (execFabricsConnect a0 s) := by
  unfold execFabricsConnect
  try dsimp only
  repeat' first
    | (with_reducible first | apply OutMoves.next | assumption)
    | exact Sub.of ‹_› rfl
    | (with_reducible first
        | apply Moves.ite | apply OutMoves.ite | apply State.adminConnect_moves | apply State.ioConnect_moves
        | apply State.sendIn_moves)
    | split

theorem execDisconnect_moves {a0 a1} (h : Moves m s₀ s) (q : Sub 0xe1fae1 m := by exact .of ‹_› rfl) :
    OutMoves m s₀ (execDisconnect a0 a1 s) := by
  unfold execDisconnect
  try dsimp only
  repeat' first
    | (with_reducible first | apply OutMoves.next | assumption)
    | exact Sub.of ‹_› rfl | (intro _)
    | (with_reducible first | apply State.adminCmd_moves | apply State.endAssoc_moves)

theorem execPropertyGet_moves {a0 a1 a2} (h : Moves m s₀ s) (q : Sub 0xe16041 m := by exact .of ‹_› rfl) :
    OutMoves m s₀ (execPropertyGet a0 a1 a2 s) := by
  unfold execPropertyGet
  try dsimp only
  repeat' first
    | (with_reducible first | apply OutMoves.next | assumption)
    | exact Sub.of ‹_› rfl | (intro _)
    | (with_reducible first
        | apply Moves.ite | apply OutMoves.ite | apply State.adminCmd_moves | apply State.respond_moves
        | apply State.respondWith_moves)
    | split

theorem State.shutdownPass_moves (h : Moves m s₀ s) (q : Sub 0x40 m := by exact .of ‹_› rfl) :
    Moves m s₀ (State.shutdownPass s) := by
  unfold State.shutdownPass
  try dsimp only
  repeat' first
    | with_reducible assumption | exact Sub.of ‹_› rfl | (intro _)
    | (with_reducible first | apply Moves.ite | apply State.modCe_moves)

theorem execPropertySet_moves {a0 a1 a2 a3} (h : Moves m s₀ s) (q : Sub 0xe16041 m := by exact .of ‹_› rfl) :
    OutMoves m s₀ (execPropertySet a0 a1 a2 a3 s) := by
  unfold execPropertySet
  try dsimp only
  repeat' first
    | (with_reducible first | apply OutMoves.next | assumption)
    | exact Sub.of ‹_› rfl | (intro _)
    | (with_reducible first
        | apply Moves.ite | apply OutMoves.ite | apply State.adminCmd_moves | apply State.modAssoc_moves
        | apply State.respond_moves | apply State.shutdownPass_moves)

theorem execIdentifyController_moves {a0 a1 a2} (h : Moves m s₀ s) (q : Sub 0xe16041 m := by exact .of ‹_› rfl) :
    OutMoves m s₀ (execIdentifyController a0 a1 a2 s) := by
  unfold execIdentifyController
  try dsimp only
  repeat' first
    | (with_reducible first | apply OutMoves.next | assumption)
    | exact Sub.of ‹_› rfl | (intro _)
    | (with_reducible first
        | apply Moves.ite | apply OutMoves.ite | apply State.adminCmd_moves | apply State.respond_moves
        | apply State.respondWith_moves)

theorem execIdentifyNamespace_moves {a0 a1 a2} (h : Moves m s₀ s) (q : Sub 0xe16041 m := by exact .of ‹_› rfl) :
    OutMoves m s₀ (execIdentifyNamespace a0 a1 a2 s) := by
  unfold execIdentifyNamespace
  try dsimp only
  repeat' first
    | (with_reducible first | apply OutMoves.next | assumption)
    | exact Sub.of ‹_› rfl | (intro _)
    | (with_reducible first
        | apply Moves.ite | apply OutMoves.ite | apply State.adminCmd_moves | apply State.respond_moves
        | apply State.respondWith_moves)

theorem execActiveNamespaceList_moves {a0 a1 a2} (h : Moves m s₀ s) (q : Sub 0xe16041 m := by exact .of ‹_› rfl) :
    OutMoves m s₀ (execActiveNamespaceList a0 a1 a2 s) := by
  unfold execActiveNamespaceList
  try dsimp only
  repeat' first
    | (with_reducible first | apply OutMoves.next | assumption)
    | exact Sub.of ‹_› rfl | (intro _)
    | (with_reducible first
        | apply Moves.ite | apply OutMoves.ite | apply State.adminCmd_moves | apply State.respond_moves
        | apply State.respondWith_moves)

theorem execNamespaceDescriptorList_moves {a0 a1 a2} (h : Moves m s₀ s) (q : Sub 0xe16041 m := by exact .of ‹_› rfl) :
    OutMoves m s₀ (execNamespaceDescriptorList a0 a1 a2 s) := by
  unfold execNamespaceDescriptorList
  try dsimp only
  repeat' first
    | (with_reducible first | apply OutMoves.next | assumption)
    | exact Sub.of ‹_› rfl | (intro _)
    | (with_reducible first
        | apply Moves.ite | apply OutMoves.ite | apply State.adminCmd_moves | apply State.respond_moves
        | apply State.respondWith_moves)

theorem State.logError_moves {a0 a1 a2 a3} (h : Moves m s₀ s) (q : Sub 0x40 m := by exact .of ‹_› rfl) :
    Moves m s₀ (State.logError a0 a1 a2 a3 s) := by
  unfold State.logError
  try dsimp only
  repeat' first
    | with_reducible assumption | exact Sub.of ‹_› rfl | (intro _)
    | (with_reducible first | apply Moves.ite | apply State.modAssoc_moves)

theorem State.pageRead_moves {a0 a1} (h : Moves m s₀ s) (q : Sub 0x40 m := by exact .of ‹_› rfl) :
    Moves m s₀ (State.pageRead a0 a1 s) := by
  unfold State.pageRead
  try dsimp only
  repeat' first
    | with_reducible assumption | exact Sub.of ‹_› rfl | (intro _)
    | (with_reducible first | apply Moves.ite | apply State.aerServe_moves | apply State.modAssoc_moves)

theorem execGetLogPage_moves {a0 a1 a2 a3 a4 a5 a6} (h : Moves m s₀ s) (q : Sub 0xe16041 m := by exact .of ‹_› rfl) :
    OutMoves m s₀ (execGetLogPage a0 a1 a2 a3 a4 a5 a6 s) := by
  unfold execGetLogPage
  try dsimp only
  repeat' first
    | (with_reducible first | apply OutMoves.next | assumption)
    | exact Sub.of ‹_› rfl | (intro _)
    | (with_reducible first
        | apply Moves.ite | apply OutMoves.ite | apply State.adminCmd_moves | apply State.pageRead_moves
        | apply State.respond_moves | apply State.respondWith_moves)
    | split

theorem State.setFeature_moves {a0 a1 a2 a3 a4 a5} (h : Moves m s₀ s) (q : Sub 0x240045 m := by exact .of ‹_› rfl) :
    Moves m s₀ (State.setFeature a0 a1 a2 a3 a4 a5 s) := by
  unfold State.setFeature
  try dsimp only
  repeat' first
    | with_reducible assumption | exact Sub.of ‹_› rfl | (intro _)
    | (with_reducible first
        | apply Moves.ite | apply State.modAssoc_moves | apply State.psRequest_moves | apply State.respond_moves
        | apply State.respondWith_moves)

theorem execSetFeatures_moves {a0 a1 a2 a3 a4 a5} (h : Moves m s₀ s) (q : Sub 0xe56045 m := by exact .of ‹_› rfl) :
    OutMoves m s₀ (execSetFeatures a0 a1 a2 a3 a4 a5 s) := by
  unfold execSetFeatures
  try dsimp only
  repeat' first
    | (with_reducible first | apply OutMoves.next | assumption)
    | exact Sub.of ‹_› rfl | (intro _)
    | (with_reducible first
        | apply Moves.ite | apply OutMoves.ite | apply State.adminCmd_moves | apply State.respond_moves
        | apply State.setFeature_moves)

theorem execGetFeatures_moves {a0 a1 a2 a3 a4} (h : Moves m s₀ s) (q : Sub 0xe16041 m := by exact .of ‹_› rfl) :
    OutMoves m s₀ (execGetFeatures a0 a1 a2 a3 a4 s) := by
  unfold execGetFeatures
  try dsimp only
  repeat' first
    | (with_reducible first | apply OutMoves.next | assumption)
    | exact Sub.of ‹_› rfl | (intro _)
    | (with_reducible first
        | apply Moves.ite | apply OutMoves.ite | apply State.adminCmd_moves | apply State.respond_moves
        | apply State.respondWith_moves)
    | split

theorem State.undoRes_moves {a0} (h : Moves m s₀ s) (q : Sub 0xc008c2 m := by exact .of ‹_› rfl) :
    Moves m s₀ (State.undoRes a0 s) := by
  unfold State.undoRes
  try dsimp only
  repeat' first
    | with_reducible assumption | exact Sub.of ‹_› rfl | (intro _)
    | (with_reducible first | apply State.descRequest_moves | apply State.modCe_moves | apply State.modNs_moves)
    | split

theorem State.abortAt_moves {a0 a1 a2} (h : Moves m s₀ s) (q : Sub 0xe18ae3 m := by exact .of ‹_› rfl) :
    Moves m s₀ (State.abortAt a0 a1 a2 s).2 := by
  unfold State.abortAt
  try dsimp only
  repeat' first
    | with_reducible assumption | exact Sub.of ‹_› rfl | (intro _)
    | (with_reducible first
        | apply Moves.ite | apply Moves.iteSnd | apply State.failCmd_moves | apply State.tick_moves
        | apply State.undoRes_moves)
    | split

theorem execAbortCmd_moves {a0 a1 a2 a3} (h : Moves m s₀ s) (q : Sub 0xf1eae3 m := by exact .of ‹_› rfl) :
    OutMoves m s₀ (execAbortCmd a0 a1 a2 a3 s) := by
  unfold execAbortCmd
  try dsimp only
  repeat' first
    | (with_reducible first | apply OutMoves.next | assumption)
    | exact Sub.of ‹_› rfl | (intro _)
    | (with_reducible first
        | apply Moves.ite | apply OutMoves.ite | apply State.abortAt_moves | apply State.adminCmd_moves
        | apply State.modCe_moves | apply State.pump_moves | apply State.respond_moves
        | apply State.respondWith_moves | apply State.tick_moves)

theorem execKeepAlive_moves {a0 a1} (h : Moves m s₀ s) (q : Sub 0xe16041 m := by exact .of ‹_› rfl) :
    OutMoves m s₀ (execKeepAlive a0 a1 s) := by
  unfold execKeepAlive
  try dsimp only
  repeat' first
    | (with_reducible first | apply OutMoves.next | assumption)
    | exact Sub.of ‹_› rfl | (intro _)
    | (with_reducible first | apply State.adminCmd_moves | apply State.respond_moves)

theorem execKatoExpiry_moves {a0} (h : Moves m s₀ s) (q : Sub 0x21bae1 m := by exact .of ‹_› rfl) :
    OutMoves m s₀ (execKatoExpiry a0 s) := by
  unfold execKatoExpiry
  try dsimp only
  repeat' first
    | (with_reducible first | apply OutMoves.next | assumption)
    | exact Sub.of ‹_› rfl | (intro _)
    | (with_reducible first
        | apply Moves.ite | apply OutMoves.ite | apply State.endAssoc_moves | apply State.record_moves
        | apply State.tick_moves)
    | split

theorem execAsynchronousEventRequest_moves {a0 a1} (h : Moves m s₀ s) (q : Sub 0xe16041 m := by exact .of ‹_› rfl) :
    OutMoves m s₀ (execAsynchronousEventRequest a0 a1 s) := by
  unfold execAsynchronousEventRequest
  try dsimp only
  repeat' first
    | (with_reducible first | apply OutMoves.next | assumption)
    | exact Sub.of ‹_› rfl | (intro _)
    | (with_reducible first
        | apply Moves.ite | apply OutMoves.ite | apply State.adminCmd_moves | apply State.aerServe_moves
        | apply State.modAssoc_moves | apply State.respond_moves)

/-! ### Machine/Cells.lean -/

theorem State.modPull_moves {a0 a1} (h : Moves m s₀ s) (q : Sub 0x40 m := by exact .of ‹_› rfl) :
    Moves m s₀ (State.modPull a0 a1 s) := by
  unfold State.modPull
  try dsimp only
  repeat' first
    | with_reducible assumption | exact Sub.of ‹_› rfl | (intro _) | with_reducible apply State.modCe_moves

theorem State.cellEvent_moves {a0 a1 a2 a3 a4} (h : Moves m s₀ s) (q : Sub 0x200000 m := by exact .of ‹_› rfl) :
    Moves m s₀ (State.cellEvent a0 a1 a2 a3 a4 s) := by
  unfold State.cellEvent
  try dsimp only
  repeat' first | with_reducible assumption | exact Sub.of ‹_› rfl | with_reducible apply State.unitEvent_moves

theorem State.returnBed_moves {a0} (h : Moves m s₀ s) (q : Sub 0x208001 m := by exact .of ‹_› rfl) :
    Moves m s₀ (State.returnBed a0 s) := by
  unfold State.returnBed
  try dsimp only
  repeat' first
    | with_reducible assumption | exact Sub.of ‹_› rfl | with_reducible apply State.freeOwned_moves | split

theorem State.runEmpty_moves {a0 a1} (h : Moves m s₀ s) (q : Sub 0x208001 m := by exact .of ‹_› rfl) :
    Moves m s₀ (State.runEmpty a0 a1 s) := by
  unfold State.runEmpty
  try dsimp only
  repeat' first
    | with_reducible assumption | exact Sub.of ‹_› rfl
    | (with_reducible first | apply State.cellEvent_moves | apply State.returnBed_moves | apply State.tick_moves)

theorem State.cellBad_moves {a0 a1 a2 a3 a4} (h : Moves m s₀ s) (q : Sub 0xa08011 m := by exact .of ‹_› rfl) :
    Moves m s₀ (State.cellBad a0 a1 a2 a3 a4 s) := by
  unfold State.cellBad
  try dsimp only
  repeat' first
    | with_reducible assumption | exact Sub.of ‹_› rfl | (intro _)
    | (with_reducible first
        | apply Moves.ite | apply State.drawn_moves | apply State.modStore_moves | apply State.modTt_moves
        | apply State.record_moves | apply State.runEmpty_moves | apply State.tick_moves)

theorem State.takeDrawn_moves {a0} (h : Moves m s₀ s) (q : Sub 0x8001 m := by exact .of ‹_› rfl) :
    Moves m s₀ (State.takeDrawn a0 s).2 := by
  unfold State.takeDrawn
  try dsimp only
  repeat' first
    | with_reducible assumption | exact Sub.of ‹_› rfl | (intro _)
    | (with_reducible first
        | apply Moves.ite | apply Moves.iteSnd | apply State.drawFailed_moves | apply State.modPo_moves)
    | split

theorem State.dropRoomIn_moves {a0} (h : Moves m s₀ s) (q : Sub 0x404041 m := by exact .of ‹_› rfl) :
    Moves m s₀ (State.dropRoomIn a0 s) := by
  unfold State.dropRoomIn
  try dsimp only
  repeat' first
    | with_reducible assumption | exact Sub.of ‹_› rfl | (intro _)
    | (with_reducible first | apply State.modCe_moves | apply State.releaseFrame_moves | apply State.tick_moves)
    | split

theorem State.cellUsed_moves {a0 a1 a2 a3 a4 a5} (h : Moves m s₀ s) (q : Sub 0xa00041 m := by exact .of ‹_› rfl) :
    Moves m s₀ (State.cellUsed a0 a1 a2 a3 a4 a5 s) := by
  unfold State.cellUsed
  try dsimp only
  repeat' first
    | with_reducible assumption | exact Sub.of ‹_› rfl | (intro _)
    | (with_reducible first
        | apply Moves.ite | apply State.cellEvent_moves | apply State.drawn_moves | apply State.modCe_moves
        | apply State.sampleCell_moves | apply State.tick_moves)

theorem State.fire_moves {opc slot lane word w} (h : Moves m s₀ s) (q : Sub 0xe0c051 m := by exact .of ‹_› rfl)
    (kb : ∀ c u, Moves m s₀ u → Moves m s₀ (w.before c u))
    (kr : ∀ c t b u, Moves m s₀ u → Moves m s₀ (w.run c t b u)) : Moves m s₀ (State.fire opc slot lane word w s) := by
  unfold State.fire
  dsimp only
  refine .ite h ?_
  have k0 := State.takeDrawn_moves (a0 := cellWord (s.cellAt slot lane)) (State.modTt_moves (fun t =>
    { t with slot := slot, fired := (if t.slot = slot then t.fired else []) ++ [lane] }) h)
  refine .ite (State.cellBad_moves k0) (.ite k0 (.ite ?_ ?_))
  · exact State.cellEvent_moves (State.tick_moves (State.returnBed_moves (State.unitEvent_moves (State.unitEvent_moves k0))))
  · have k := kb (cellWord (s.cellAt slot lane)) _ (State.unitEvent_moves (a0 := (cellWord (s.cellAt slot lane)).snk) (a1 := 2) (a2 := 0)
      (a3 := 1) (a4 := (cellWord (s.cellAt slot lane)).berth) (a5 := {}) (a6 := none) (State.unitEvent_moves
        (a0 := (cellWord (s.cellAt slot lane)).src) (a1 := 1) (a2 := 0) (a3 := 1) (a4 := (cellWord (s.cellAt slot lane)).berth)
        (a5 := {}) (a6 := none) k0))
    split
    · exact State.runEmpty_moves k
    · exact .ite (State.runEmpty_moves (State.dropRoomIn_moves k)) (kr _ _ _ _ (State.cellUsed_moves k))

theorem runNetIn_moves {a0 a1 a2} (h : Moves m s₀ s) (q : Sub 0x61e041 m := by exact .of ‹_› rfl) :
    Moves m s₀ (runNetIn a0 a1 a2 s) := by
  unfold runNetIn
  try dsimp only
  repeat' first
    | with_reducible assumption | exact Sub.of ‹_› rfl | (intro _)
    | (with_reducible first
        | apply State.fillBed_moves | apply State.freeOwned_moves | apply State.modBed_moves
        | apply State.placeRoom_moves | apply State.pulledIn_moves | apply State.releaseFrame_moves
        | apply State.returnBed_moves | apply State.waitFilled_moves)
    | split

theorem State.blockSent_moves {a0 a1 a2} (h : Moves m s₀ s) (q : Sub 0x60e041 m := by exact .of ‹_› rfl) :
    Moves m s₀ (State.blockSent a0 a1 a2 s) := by
  unfold State.blockSent
  try dsimp only
  repeat' first
    | with_reducible assumption | exact Sub.of ‹_› rfl | (intro _)
    | (with_reducible first
        | apply State.emit_moves | apply State.freeOwned_moves | apply State.modBlk_moves
        | apply State.pathEnds_moves | apply State.readDone_moves | apply State.sendFrame_moves
        | apply State.txMove_moves)
    | split

theorem State.pullEnds_moves {a0} (h : Moves m s₀ s) (q : Sub 0x2040 m := by exact .of ‹_› rfl) :
    Moves m s₀ (State.pullEnds a0 s) := by
  unfold State.pullEnds
  try dsimp only
  repeat' first
    | with_reducible assumption | exact Sub.of ‹_› rfl | (intro _)
    | (with_reducible first | apply State.modCe_moves | apply State.modConn_moves | apply State.modRoom_moves)

theorem State.pullSent_moves {a0 a1 a2} (h : Moves m s₀ s) (q : Sub 0x60e041 m := by exact .of ‹_› rfl) :
    Moves m s₀ (State.pullSent a0 a1 a2 s) := by
  unfold State.pullSent
  try dsimp only
  repeat' first
    | with_reducible assumption | exact Sub.of ‹_› rfl | (intro _)
    | (with_reducible first
        | apply Moves.ite | apply Moves.foldl | apply State.emit_moves | apply State.freeOwned_moves
        | apply State.modCe_moves | apply State.modPull_moves | apply State.pullEnds_moves
        | apply State.sendFrame_moves | apply State.txMove_moves | apply State.unpin_moves)
    | dsimp only | split

theorem runNetOut_moves {a0 a1 a2 a3} (h : Moves m s₀ s) (q : Sub 0x60e041 m := by exact .of ‹_› rfl) :
    Moves m s₀ (runNetOut a0 a1 a2 a3 s) := by
  unfold runNetOut
  try dsimp only
  repeat' first
    | with_reducible assumption | exact Sub.of ‹_› rfl
    | (with_reducible first | apply State.blockSent_moves | apply State.pullSent_moves | apply State.returnBed_moves)
    | split

theorem State.assignCore_moves {a0 a1} (h : Moves m s₀ s) (q : Sub 0x10000 m := by exact .of ‹_› rfl) :
    Moves m s₀ (State.assignCore a0 a1 s) := by
  unfold State.assignCore
  try dsimp only
  repeat' first
    | with_reducible assumption | exact Sub.of ‹_› rfl | (intro _) | with_reducible apply State.modCy_moves

theorem State.assignCores_moves {a0} (h : Moves m s₀ s) (q : Sub 0x10000 m := by exact .of ‹_› rfl) :
    Moves m s₀ (State.assignCores a0 s) := by
  unfold State.assignCores
  try dsimp only
  repeat' first
    | with_reducible assumption | exact Sub.of ‹_› rfl | (intro _)
    | (with_reducible first | apply Moves.foldl | apply State.assignCore_moves)
    | dsimp only | split

theorem State.lateKeys_moves {a0} (h : Moves m s₀ s) (q : Sub 0x1 m := by exact .of ‹_› rfl) :
    Moves m s₀ (State.lateKeys a0 s) := by
  unfold State.lateKeys
  try dsimp only
  repeat' first
    | with_reducible assumption | exact Sub.of ‹_› rfl
    | (with_reducible first | apply Moves.ite | apply State.tick_moves)
    | split

theorem State.modAccum_moves {a0 a1 a2} (h : Moves m s₀ s) (q : Sub 0x200 m := by exact .of ‹_› rfl) :
    Moves m s₀ (State.modAccum a0 a1 a2 s) := by
  unfold State.modAccum
  try dsimp only
  repeat' first
    | with_reducible assumption | exact Sub.of ‹_› rfl | (intro _) | with_reducible apply State.modPe_moves

theorem State.accumFull_moves {a0 a1} (h : Moves m s₀ s) (q : Sub 0x40 m := by exact .of ‹_› rfl) :
    Moves m s₀ (State.accumFull a0 a1 s) := by
  unfold State.accumFull
  try dsimp only
  repeat' first
    | with_reducible assumption | exact Sub.of ‹_› rfl | (intro _)
    | (with_reducible first | apply Moves.foldl | apply State.pushAt_moves)

theorem State.tapIn_moves {a0 a1 a2 a3 a4} (h : Moves m s₀ s) (q : Sub 0x241 m := by exact .of ‹_› rfl) :
    Moves m s₀ (State.tapIn a0 a1 a2 a3 a4 s) := by
  unfold State.tapIn
  try dsimp only
  repeat' first
    | with_reducible assumption | exact Sub.of ‹_› rfl | (intro _)
    | (with_reducible first
        | apply Moves.ite | apply Moves.foldl | apply State.accumFull_moves | apply State.modAccum_moves
        | apply State.push_moves | apply State.tick_moves)
    | dsimp only | split

theorem State.writePassed_moves {a0 a1 a2 a3 a4} (h : Moves m s₀ s) (q : Sub 0x8241 m := by exact .of ‹_› rfl) :
    Moves m s₀ (State.writePassed a0 a1 a2 a3 a4 s) := by
  unfold State.writePassed
  try dsimp only
  repeat' first
    | with_reducible assumption | exact Sub.of ‹_› rfl | (intro _)
    | (with_reducible first
        | apply Moves.ite | apply State.boundCheck_moves | apply State.modBed_moves | apply State.modBlk_moves
        | apply State.push_moves | apply State.tapIn_moves)
    | split

theorem State.readPassed_moves {a0 a1 a2 a3 a4} (h : Moves m s₀ s) (q : Sub 0x8040 m := by exact .of ‹_› rfl) :
    Moves m s₀ (State.readPassed a0 a1 a2 a3 a4 s) := by
  unfold State.readPassed
  try dsimp only
  repeat' first
    | with_reducible assumption | exact Sub.of ‹_› rfl | (intro _)
    | (with_reducible first
        | apply Moves.ite | apply State.modBed_moves | apply State.modBlk_moves | apply State.push_moves)

theorem State.cipherPass_moves {a0 a1 a2 a3} (h : Moves m s₀ s) (q : Sub 0x71aae1 m := by exact .of ‹_› rfl) :
    Moves m s₀ (State.cipherPass a0 a1 a2 a3 s) := by
  unfold State.cipherPass
  try dsimp only
  repeat' first
    | with_reducible assumption | exact Sub.of ‹_› rfl | (intro _)
    | (with_reducible first
        | apply Moves.ite | apply Moves.foldl | apply State.dropReq_moves | apply State.loadKey_moves
        | apply State.modCy_moves | apply State.poisonBlock_moves | apply State.readPassed_moves
        | apply State.takeSeq_moves | apply State.tick_moves | apply State.writePassed_moves)
    | dsimp only | split

theorem State.dropPullReq_moves {a0 a1} (h : Moves m s₀ s) (q : Sub 0x10000 m := by exact .of ‹_› rfl) :
    Moves m s₀ (State.dropPullReq a0 a1 s) := by
  unfold State.dropPullReq
  try dsimp only
  repeat' first
    | with_reducible assumption | exact Sub.of ‹_› rfl | (intro _) | with_reducible apply State.modCy_moves

theorem State.pullPass_moves {a0 a1 a2} (h : Moves m s₀ s) (q : Sub 0x21a041 m := by exact .of ‹_› rfl) :
    Moves m s₀ (State.pullPass a0 a1 a2 s) := by
  unfold State.pullPass
  try dsimp only
  repeat' first
    | with_reducible assumption | exact Sub.of ‹_› rfl | (intro _)
    | (with_reducible first
        | apply Moves.foldl | apply State.dropPullReq_moves | apply State.loadKey_moves | apply State.modBed_moves
        | apply State.push_moves | apply State.takeSeq_moves | apply State.tick_moves)
    | dsimp only | split

theorem runCipher_moves {a0 a1 a2 a3} (h : Moves m s₀ s) (q : Sub 0x71aae1 m := by exact .of ‹_› rfl) :
    Moves m s₀ (runCipher a0 a1 a2 a3 s) := by
  unfold runCipher
  try dsimp only
  repeat' first
    | with_reducible assumption | exact Sub.of ‹_› rfl
    | (with_reducible first | apply State.cipherPass_moves | apply State.pullPass_moves | apply State.returnBed_moves)
    | split

theorem State.dropRecon_moves {a0 a1} (h : Moves m s₀ s) (q : Sub 0x208241 m := by exact .of ‹_› rfl) :
    Moves m s₀ (State.dropRecon a0 a1 s) := by
  unfold State.dropRecon
  try dsimp only
  repeat' first
    | with_reducible assumption | exact Sub.of ‹_› rfl | (intro _)
    | (with_reducible first | apply Moves.foldl | apply State.dropJob_moves)

theorem State.memberErased_moves {a0 a1 a2} (h : Moves m s₀ s) (q : Sub 0x60aec1 m := by exact .of ‹_› rfl) :
    Moves m s₀ (State.memberErased a0 a1 a2 s) := by
  unfold State.memberErased
  try dsimp only
  repeat' first
    | with_reducible assumption | exact Sub.of ‹_› rfl | (intro _)
    | (with_reducible first
        | apply Moves.ite | apply State.count_moves | apply State.modBlk_moves | apply State.modPe_moves
        | apply State.readDone_moves | apply State.startRecon_moves)
    | split

theorem State.memberIn_moves {a0 a1 a2 a3 a4} (h : Moves m s₀ s) (q : Sub 0x60aec1 m := by exact .of ‹_› rfl) :
    Moves m s₀ (State.memberIn a0 a1 a2 a3 a4 s) := by
  unfold State.memberIn
  try dsimp only
  repeat' first
    | with_reducible assumption | exact Sub.of ‹_› rfl
    | (with_reducible first
        | apply Moves.ite | apply State.blockInBed_moves | apply State.dropRecon_moves | apply State.fillBed_moves
        | apply State.freeOwned_moves | apply State.memberErased_moves | apply State.tick_moves)
    | split

theorem State.fillGone_moves {a0} (h : Moves m s₀ s) (q : Sub 0x40 m := by exact .of ‹_› rfl) :
    Moves m s₀ (State.fillGone a0 s) := by
  unfold State.fillGone
  try dsimp only
  repeat' first
    | with_reducible assumption | exact Sub.of ‹_› rfl | (intro _) | with_reducible apply State.modCe_moves

theorem State.fillIn_moves {a0 a1 a2 a3 a4 a5 a6} (h : Moves m s₀ s) (q : Sub 0x208041 m := by exact .of ‹_› rfl) :
    Moves m s₀ (State.fillIn a0 a1 a2 a3 a4 a5 a6 s) := by
  unfold State.fillIn
  try dsimp only
  repeat' first
    | with_reducible assumption | exact Sub.of ‹_› rfl | (intro _)
    | (with_reducible first
        | apply Moves.ite | apply State.fillBed_moves | apply State.fillGone_moves | apply State.freeOwned_moves
        | apply State.modCe_moves | apply State.push_moves)
    | split

theorem State.rowUnread_moves {a0 a1 a2} (h : Moves m s₀ s) (q : Sub 0x60aec1 m := by exact .of ‹_› rfl) :
    Moves m s₀ (State.rowUnread a0 a1 a2 s) := by
  unfold State.rowUnread
  try dsimp only
  repeat' first
    | with_reducible assumption | exact Sub.of ‹_› rfl
    | (with_reducible first | apply State.readDone_moves | apply State.rowErase_moves)
    | split

theorem State.rowIn_moves {a0 a1 a2 a3 a4} (h : Moves m s₀ s) (q : Sub 0x60aec1 m := by exact .of ‹_› rfl) :
    Moves m s₀ (State.rowIn a0 a1 a2 a3 a4 s) := by
  unfold State.rowIn
  try dsimp only
  repeat' first
    | with_reducible assumption | exact Sub.of ‹_› rfl
    | (with_reducible first
        | apply Moves.ite | apply State.count_moves | apply State.fillBed_moves | apply State.freeOwned_moves
        | apply State.push_moves | apply State.rowUnread_moves | apply State.tick_moves)
    | split

theorem State.descIn_moves {a0 a1 a2} (h : Moves m s₀ s) (q : Sub 0x4008c0 m := by exact .of ‹_› rfl) :
    Moves m s₀ (State.descIn a0 a1 a2 s) := by
  unfold State.descIn
  try dsimp only
  repeat' first
    | with_reducible assumption | exact Sub.of ‹_› rfl | (intro _)
    | (with_reducible first
        | apply Moves.ite | apply State.issueDrive_moves | apply State.modLg_moves | apply State.push_moves)
    | split

theorem runDriveIn_moves {a0 a1 a2} (h : Moves m s₀ s) (q : Sub 0x60aec1 m := by exact .of ‹_› rfl) :
    Moves m s₀ (runDriveIn a0 a1 a2 s) := by
  unfold runDriveIn
  try dsimp only
  repeat' first
    | with_reducible assumption | exact Sub.of ‹_› rfl
    | (with_reducible first
        | apply State.descIn_moves | apply State.fillIn_moves | apply State.memberIn_moves
        | apply State.returnBed_moves | apply State.rowIn_moves)
    | split

theorem State.sectorOut_moves {a0 a1 a2 a3} (h : Moves m s₀ s) (q : Sub 0x6080c1 m := by exact .of ‹_› rfl) :
    Moves m s₀ (State.sectorOut a0 a1 a2 a3 s) := by
  unfold State.sectorOut
  try dsimp only
  repeat' first
    | with_reducible assumption | exact Sub.of ‹_› rfl | (intro _)
    | (with_reducible first
        | apply Moves.ite | apply State.emit_moves | apply State.modDriveCmd_moves | apply State.push_moves
        | apply State.returnBed_moves)
    | split

theorem runDriveOut_moves {a0 a1 a2} (h : Moves m s₀ s) (q : Sub 0x6080c1 m := by exact .of ‹_› rfl) :
    Moves m s₀ (runDriveOut a0 a1 a2 s) := by
  unfold runDriveOut
  try dsimp only
  repeat' first
    | with_reducible assumption | exact Sub.of ‹_› rfl
    | (with_reducible first | apply State.returnBed_moves | apply State.sectorOut_moves)
    | split

theorem State.rowWaits_moves {a0} (h : Moves m s₀ s) (q : Sub 0x201 m := by exact .of ‹_› rfl) :
    Moves m s₀ (State.rowWaits a0 s) := by
  unfold State.rowWaits
  try dsimp only
  repeat' first
    | with_reducible assumption | exact Sub.of ‹_› rfl | (intro _)
    | (with_reducible first | apply Moves.ite | apply Moves.foldl | apply State.modJob_moves | apply State.tick_moves)
    | dsimp only | split

theorem State.parityTaken_moves {a0 a1 a2 a3 a4} (h : Moves m s₀ s) (q : Sub 0x60aec1 m := by exact .of ‹_› rfl) :
    Moves m s₀ (State.parityTaken a0 a1 a2 a3 a4 s) := by
  unfold State.parityTaken
  try dsimp only
  repeat' first
    | with_reducible assumption | exact Sub.of ‹_› rfl
    | (with_reducible first
        | apply State.freeOwned_moves | apply State.modJob_moves | apply State.rowInput_moves
        | apply State.tick_moves)
    | split

theorem State.tapAgain_moves {a0 a1 a2} (h : Moves m s₀ s) (q : Sub 0x241 m := by exact .of ‹_› rfl) :
    Moves m s₀ (State.tapAgain a0 a1 a2 s) := by
  unfold State.tapAgain
  try dsimp only
  repeat' first
    | with_reducible assumption | exact Sub.of ‹_› rfl | (intro _)
    | (with_reducible first
        | apply Moves.ite | apply State.accumFull_moves | apply State.modAccum_moves | apply State.tick_moves)
    | split

theorem runParityIn_moves {a0 a1 a2} (h : Moves m s₀ s) (q : Sub 0x60aec1 m := by exact .of ‹_› rfl) :
    Moves m s₀ (runParityIn a0 a1 a2 s) := by
  unfold runParityIn
  try dsimp only
  repeat' first
    | with_reducible assumption | exact Sub.of ‹_› rfl
    | (with_reducible first
        | apply State.parityTaken_moves | apply State.returnBed_moves | apply State.tapAgain_moves)
    | split

theorem State.settleResults_moves {a0} (h : Moves m s₀ s) (q : Sub 0x6002c1 m := by exact .of ‹_› rfl) :
    Moves m s₀ (State.settleResults a0 s) := by
  unfold State.settleResults
  try dsimp only
  repeat' first
    | with_reducible assumption | exact Sub.of ‹_› rfl | (intro _)
    | (with_reducible first | apply Moves.ite | apply Moves.foldl | apply State.provSettle_moves)
    | dsimp only | split

theorem State.fullOut_moves {a0 a1 a2 a3 a4} (h : Moves m s₀ s) (q : Sub 0x208201 m := by exact .of ‹_› rfl) :
    Moves m s₀ (State.fullOut a0 a1 a2 a3 a4 s) := by
  unfold State.fullOut
  try dsimp only
  repeat' first
    | with_reducible assumption | exact Sub.of ‹_› rfl
    | (with_reducible first
        | apply Moves.ite | apply State.fillBed_moves | apply State.freeOwned_moves | apply State.modAccum_moves)
    | split

theorem State.rowUnit_moves {a0 a1} (h : Moves m s₀ s) (q : Sub 0x240 m := by exact .of ‹_› rfl) :
    Moves m s₀ (State.rowUnit a0 a1 s) := by
  unfold State.rowUnit
  try dsimp only
  repeat' first
    | with_reducible assumption | exact Sub.of ‹_› rfl | (intro _)
    | (with_reducible first | apply Moves.ite | apply State.modCe_moves | apply State.modJob_moves)

theorem runParityOut_moves {a0 a1 a2} (h : Moves m s₀ s) (q : Sub 0x60aec1 m := by exact .of ‹_› rfl) :
    Moves m s₀ (runParityOut a0 a1 a2 s) := by
  unfold runParityOut
  try dsimp only
  repeat' first
    | with_reducible assumption | exact Sub.of ‹_› rfl
    | (with_reducible first
        | apply State.fullOut_moves | apply State.returnBed_moves | apply State.rowResult_moves
        | apply State.rowUnit_moves | apply State.tick_moves)
    | split

theorem State.reconsOn_moves {a0} (h : Moves m s₀ s) (q : Sub 0x208041 m := by exact .of ‹_› rfl) :
    Moves m s₀ (State.reconsOn a0 s) := by
  unfold State.reconsOn
  try dsimp only
  repeat' first
    | with_reducible assumption | exact Sub.of ‹_› rfl | (intro _)
    | (with_reducible first | apply Moves.ite | apply Moves.foldl | apply State.blockInBed_moves)
    | dsimp only | split

theorem State.slabIn_moves {a0 a1 a2 a3} (h : Moves m s₀ s) (q : Sub 0x60aec1 m := by exact .of ‹_› rfl) :
    Moves m s₀ (State.slabIn a0 a1 a2 a3 s) := by
  unfold State.slabIn
  try dsimp only
  repeat' first
    | with_reducible assumption | exact Sub.of ‹_› rfl | (intro _)
    | (with_reducible first
        | apply State.blockInBed_moves | apply State.fillBed_moves | apply State.fixBlock_moves
        | apply State.freeOwned_moves | apply State.modBlk_moves)
    | split

theorem State.cacheIn_moves {a0 a1 a2} (h : Moves m s₀ s) (q : Sub 0x60aec1 m := by exact .of ‹_› rfl) :
    Moves m s₀ (State.cacheIn a0 a1 a2 s) := by
  unfold State.cacheIn
  try dsimp only
  repeat' first
    | with_reducible assumption | exact Sub.of ‹_› rfl | (intro _)
    | (with_reducible first
        | apply State.blockInBed_moves | apply State.fillBed_moves | apply State.fixBlock_moves
        | apply State.freeOwned_moves | apply State.modBlk_moves)
    | split

theorem State.rowCached_moves {a0 a1 a2} (h : Moves m s₀ s) (q : Sub 0x60aec1 m := by exact .of ‹_› rfl) :
    Moves m s₀ (State.rowCached a0 a1 a2 s) := by
  unfold State.rowCached
  try dsimp only
  repeat' first
    | with_reducible assumption | exact Sub.of ‹_› rfl | (intro _)
    | (with_reducible first
        | apply Moves.ite | apply State.askMember_moves | apply State.fillBed_moves | apply State.freeOwned_moves
        | apply State.modBed_moves | apply State.push_moves | apply State.rowUnread_moves)
    | split

theorem State.pullIn_moves {a0 a1 a2} (h : Moves m s₀ s) (q : Sub 0x218041 m := by exact .of ‹_› rfl) :
    Moves m s₀ (State.pullIn a0 a1 a2 s) := by
  unfold State.pullIn
  try dsimp only
  repeat' first
    | with_reducible assumption | exact Sub.of ‹_› rfl | (intro _)
    | (with_reducible first
        | apply Moves.foldl | apply State.fillBed_moves | apply State.freeOwned_moves | apply State.modCy_moves
        | apply State.modPull_moves | apply State.push_moves | apply State.wantKey_moves)
    | dsimp only | split

theorem runCacheRd_moves {a0 a1 a2} (h : Moves m s₀ s) (q : Sub 0x61aec1 m := by exact .of ‹_› rfl) :
    Moves m s₀ (runCacheRd a0 a1 a2 s) := by
  unfold runCacheRd
  try dsimp only
  repeat' first
    | with_reducible assumption | exact Sub.of ‹_› rfl
    | (with_reducible first
        | apply State.cacheIn_moves | apply State.pullIn_moves | apply State.returnBed_moves
        | apply State.rowCached_moves | apply State.slabIn_moves)
    | split

theorem State.slabIn'_moves {a0 a1} (h : Moves m s₀ s) (q : Sub 0x208841 m := by exact .of ‹_› rfl) :
    Moves m s₀ (State.slabIn' a0 a1 s) := by
  unfold State.slabIn'
  try dsimp only
  repeat' first
    | with_reducible assumption | exact Sub.of ‹_› rfl | (intro _)
    | (with_reducible first
        | apply Moves.ite | apply State.boundCheck_moves | apply State.freeOwned_moves | apply State.modBlk_moves
        | apply State.pathEnds_moves | apply State.sealPiece_moves)
    | split

theorem State.fillDone_moves {a0 a1} (h : Moves m s₀ s) (q : Sub 0x208041 m := by exact .of ‹_› rfl) :
    Moves m s₀ (State.fillDone a0 a1 s) := by
  unfold State.fillDone
  try dsimp only
  repeat' first
    | with_reducible assumption | exact Sub.of ‹_› rfl | (intro _)
    | (with_reducible first
        | apply Moves.ite | apply State.fillGone_moves | apply State.freeOwned_moves | apply State.modCe_moves
        | apply State.tick_moves)
    | split

theorem State.pinIn_moves {a0 a1} (h : Moves m s₀ s) (q : Sub 0x60a041 m := by exact .of ‹_› rfl) :
    Moves m s₀ (State.pinIn a0 a1 s) := by
  unfold State.pinIn
  try dsimp only
  repeat' first
    | with_reducible assumption | exact Sub.of ‹_› rfl | (intro _)
    | (with_reducible first
        | apply Moves.ite | apply State.cacheCancelProv_moves | apply State.cacheInsert_moves
        | apply State.cachePromote_moves | apply State.freeOwned_moves | apply State.modBlk_moves
        | apply State.pinBlock_moves | apply State.readDone_moves)
    | split

theorem runCacheWr_moves {a0 a1 a2} (h : Moves m s₀ s) (q : Sub 0x60a841 m := by exact .of ‹_› rfl) :
    Moves m s₀ (runCacheWr a0 a1 a2 s) := by
  unfold runCacheWr
  try dsimp only
  repeat' first
    | with_reducible assumption | exact Sub.of ‹_› rfl
    | (with_reducible first
        | apply State.fillDone_moves | apply State.pinIn_moves | apply State.returnBed_moves
        | apply State.slabIn'_moves)
    | split

theorem runContext_moves {a0 a1 a2} (h : Moves m s₀ s) (q : Sub 0x20a041 m := by exact .of ‹_› rfl) :
    Moves m s₀ (runContext a0 a1 a2 s) := by
  unfold runContext
  try dsimp only
  repeat' first
    | with_reducible assumption | exact Sub.of ‹_› rfl
    | (with_reducible first
        | apply State.fetchMoved_moves | apply State.returnBed_moves | apply State.spillMoved_moves)
    | split

theorem State.endpointArrived_moves {a0 a1 a2 a3} (h : Moves m s₀ s) (q : Sub 0x208041 m := by exact .of ‹_› rfl) :
    Moves m s₀ (State.endpointArrived a0 a1 a2 a3 s) := by
  unfold State.endpointArrived
  try dsimp only
  repeat' first
    | with_reducible assumption | exact Sub.of ‹_› rfl | (intro _)
    | (with_reducible first
        | apply State.fillBed_moves | apply State.freeOwned_moves | apply State.modBlk_moves
        | apply State.push_moves)
    | split

theorem State.endpointSent_moves {a0 a1} (h : Moves m s₀ s) (q : Sub 0x608041 m := by exact .of ‹_› rfl) :
    Moves m s₀ (State.endpointSent a0 a1 s) := by
  unfold State.endpointSent
  try dsimp only
  repeat' first
    | with_reducible assumption | exact Sub.of ‹_› rfl | (intro _)
    | (with_reducible first
        | apply State.emit_moves | apply State.freeOwned_moves | apply State.modBlk_moves
        | apply State.readDone_moves)
    | split

theorem runEndpoint_moves {a0 a1 a2} (h : Moves m s₀ s) (q : Sub 0x608041 m := by exact .of ‹_› rfl) :
    Moves m s₀ (runEndpoint a0 a1 a2 s) := by
  unfold runEndpoint
  try dsimp only
  repeat' first
    | with_reducible assumption | exact Sub.of ‹_› rfl
    | (with_reducible first
        | apply State.endpointArrived_moves | apply State.endpointSent_moves | apply State.returnBed_moves)
    | split

theorem runDump_moves {a0 a1 a2} (h : Moves m s₀ s) (q : Sub 0x208001 m := by exact .of ‹_› rfl) :
    Moves m s₀ (runDump a0 a1 a2 s) := by
  unfold runDump
  try dsimp only
  repeat' first
    | with_reducible assumption | exact Sub.of ‹_› rfl
    | (with_reducible first | apply State.dumpMoved_moves | apply State.returnBed_moves)
    | split

theorem State.pullAsked_moves {a0 a1} (h : Moves m s₀ s) (q : Sub 0xe16041 m := by exact .of ‹_› rfl) :
    Moves m s₀ (State.pullAsked a0 a1 s) := by
  unfold State.pullAsked
  try dsimp only
  repeat' first
    | with_reducible assumption | exact Sub.of ‹_› rfl | (intro _)
    | (with_reducible first
        | apply State.emit_moves | apply State.modBlk_moves | apply State.sendControl_moves
        | apply State.txPacket_moves)
    | split

theorem State.roomAnswered_moves {a0} (h : Moves m s₀ s) (q : Sub 0x41 m := by exact .of ‹_› rfl) :
    Moves m s₀ (State.roomAnswered a0 s) := by
  unfold State.roomAnswered
  try dsimp only
  repeat' first
    | with_reducible assumption | exact Sub.of ‹_› rfl | (intro _)
    | (with_reducible first
        | apply Moves.ite | apply Moves.foldl | apply State.modCe_moves | apply State.tick_moves
        | apply State.unpin_moves)
    | dsimp only | split

theorem State.sendCompletion_moves {a0 a1 a2} (h : Moves m s₀ s) (q : Sub 0xf16001 m := by exact .of ‹_› rfl) :
    Moves m s₀ (State.sendCompletion a0 a1 a2 s) := by
  unfold State.sendCompletion
  try dsimp only
  repeat' first
    | with_reducible assumption | exact Sub.of ‹_› rfl
    | (with_reducible first
        | apply State.emit_moves | apply State.epComplete_moves | apply State.sendControl_moves
        | apply State.txPacket_moves)
    | split

theorem State.afterCompletion_moves (h : Moves m s₀ s) (q : Sub 0xf5aae3 m := by exact .of ‹_› rfl) :
    Moves m s₀ (State.afterCompletion s) := by
  unfold State.afterCompletion
  try dsimp only
  repeat' first
    | with_reducible assumption | exact Sub.of ‹_› rfl
    | (with_reducible first
        | apply State.nsDeletePass_moves | apply State.rangeFree_moves | apply State.resPass_moves
        | apply State.settle_moves | apply State.shutdownPass_moves)

theorem State.responseSent_moves {a0} (h : Moves m s₀ s) (q : Sub 0xf5eae3 m := by exact .of ‹_› rfl) :
    Moves m s₀ (State.responseSent a0 s) := by
  unfold State.responseSent
  try dsimp only
  repeat' first
    | with_reducible assumption | exact Sub.of ‹_› rfl | (intro _)
    | (with_reducible first
        | apply Moves.ite | apply State.afterCompletion_moves | apply State.logError_moves
        | apply State.modCe_moves | apply State.roomAnswered_moves | apply State.sendCompletion_moves)
    | split

theorem State.replySent_moves {a0} (h : Moves m s₀ s) (q : Sub 0xf16041 m := by exact .of ‹_› rfl) :
    Moves m s₀ (State.replySent a0 s) := by
  unfold State.replySent
  try dsimp only
  repeat' first
    | with_reducible assumption | exact Sub.of ‹_› rfl | (intro _)
    | (with_reducible first | apply State.logError_moves | apply State.modCe_moves | apply State.sendCompletion_moves)

theorem runControl_moves {a0 a1 a2} (h : Moves m s₀ s) (q : Sub 0xf5eae3 m := by exact .of ‹_› rfl) :
    Moves m s₀ (runControl a0 a1 a2 s) := by
  unfold runControl
  try dsimp only
  repeat' first
    | with_reducible assumption | exact Sub.of ‹_› rfl
    | (with_reducible first
        | apply State.pullAsked_moves | apply State.replySent_moves | apply State.responseSent_moves
        | apply State.returnBed_moves)
    | split

/-! ### Machine/Drives.lean -/

theorem State.raiseWarnings_moves {b} (h : Moves m s₀ s) (q : Sub 0x40 m := by exact .of ‹_› rfl) : Moves m s₀ (State.raiseWarnings s b) := by
  unfold State.raiseWarnings
  refine Moves.foldl _ h fun u a hu => ?_
  dsimp only
  split
  · exact Moves.foldl _ hu fun v k hv => State.raiseOn_moves hv
  · exact hu

theorem State.modPlace_moves {a0 a1} (h : Moves m s₀ s) (q : Sub 0x100 m := by exact .of ‹_› rfl) : Moves m s₀ (State.modPlace a0 a1 s) :=
  State.modPlaces_moves _ h (by simp [modWing])

theorem State.enterLoss_moves {a0 a1} (h : Moves m s₀ s) (q : Sub 0xe00dc3 m := by exact .of ‹_› rfl) :
    Moves m s₀ (State.enterLoss a0 a1 s) := by
  unfold State.enterLoss
  try dsimp only
  repeat' first
    | with_reducible assumption | exact Sub.of ‹_› rfl | (intro _)
    | (with_reducible first
        | apply Moves.ite | apply State.descRequest_moves | apply State.modPlace_moves | apply State.modRb_moves
        | apply State.record_moves)

theorem State.loseBay_moves {a0 a1} (h : Moves m s₀ s) (q : Sub 0xe00dc3 m := by exact .of ‹_› rfl) :
    Moves m s₀ (State.loseBay a0 a1 s) := by
  unfold State.loseBay
  try dsimp only
  repeat' first
    | with_reducible assumption | exact Sub.of ‹_› rfl | (intro _)
    | (with_reducible first
        | apply Moves.ite | apply State.enterLoss_moves | apply State.modLg_moves | apply State.modPlace_moves
        | apply State.modRb_moves | apply State.record_moves)

theorem State.enterPending_moves {a0} (h : Moves m s₀ s) (q : Sub 0xe00dc3 m := by exact .of ‹_› rfl) :
    Moves m s₀ (State.enterPending a0 s) := by
  unfold State.enterPending
  try dsimp only
  repeat' first
    | with_reducible assumption | exact Sub.of ‹_› rfl | (intro _)
    | (with_reducible first | apply Moves.ite | apply Moves.foldl | apply State.enterLoss_moves)

theorem State.enterReturn_moves {a0 a1} (h : Moves m s₀ s) (q : Sub 0xc00dc2 m := by exact .of ‹_› rfl) :
    Moves m s₀ (State.enterReturn a0 a1 s) := by
  unfold State.enterReturn
  try dsimp only
  repeat' first
    | with_reducible assumption | exact Sub.of ‹_› rfl | (intro _)
    | (with_reducible first
        | apply Moves.ite | apply State.descRequest_moves | apply State.modPlace_moves | apply State.modRb_moves)

theorem execReturnEvent_moves {a0 a1} (h : Moves m s₀ s) (q : Sub 0xc00dc2 m := by exact .of ‹_› rfl) :
    OutMoves m s₀ (execReturnEvent a0 a1 s) := by
  unfold execReturnEvent
  try dsimp only
  repeat' first
    | (with_reducible first | apply OutMoves.next | assumption)
    | exact Sub.of ‹_› rfl | with_reducible apply State.enterReturn_moves

theorem State.memberWritten_moves {a0 a1 a2} (h : Moves m s₀ s) (q : Sub 0x40 m := by exact .of ‹_› rfl) :
    Moves m s₀ (State.memberWritten a0 a1 a2 s) := by
  unfold State.memberWritten
  try dsimp only
  repeat' first
    | with_reducible assumption | exact Sub.of ‹_› rfl | (intro _)
    | (with_reducible first | apply Moves.ite | apply State.modCmd_moves)
    | split

theorem State.stripeShort_moves {a0 a1} (h : Moves m s₀ s) (q : Sub 0x40 m := by exact .of ‹_› rfl) :
    Moves m s₀ (State.stripeShort a0 a1 s) := by
  unfold State.stripeShort
  try dsimp only
  repeat' first
    | with_reducible assumption | exact Sub.of ‹_› rfl | (intro _)
    | (with_reducible first | apply Moves.ite | apply State.modCmd_moves)
    | split

theorem State.rowWritten_moves {a0 a1} (h : Moves m s₀ s) (q : Sub 0x208e41 m := by exact .of ‹_› rfl) :
    Moves m s₀ (State.rowWritten a0 a1 s) := by
  unfold State.rowWritten
  try dsimp only
  repeat' first
    | with_reducible assumption | exact Sub.of ‹_› rfl | (intro _)
    | (with_reducible first | apply State.endJob_moves | apply State.modJob_moves)

theorem State.journalGone_moves {a0 a1 a2} (h : Moves m s₀ s) (q : Sub 0x200801 m := by exact .of ‹_› rfl) :
    Moves m s₀ (State.journalGone a0 a1 a2 s) := by
  unfold State.journalGone
  try dsimp only
  repeat' first
    | with_reducible assumption | exact Sub.of ‹_› rfl | (intro _)
    | (with_reducible first
        | apply Moves.ite | apply State.modLg_moves | apply State.record_moves | apply State.tick_moves)

theorem State.descLost_moves {a0 a1 a2} (h : Moves m s₀ s) (q : Sub 0x800 m := by exact .of ‹_› rfl) :
    Moves m s₀ (State.descLost a0 a1 a2 s) := by
  unfold State.descLost
  try dsimp only
  repeat' first
    | with_reducible assumption | exact Sub.of ‹_› rfl | (intro _) | with_reducible apply State.modLg_moves

theorem State.descArrived_moves {a0 a1 a2 a3 a4} (h : Moves m s₀ s) (q : Sub 0x840 m := by exact .of ‹_› rfl) :
    Moves m s₀ (State.descArrived a0 a1 a2 a3 a4 s) := by
  unfold State.descArrived
  try dsimp only
  repeat' first
    | with_reducible assumption | exact Sub.of ‹_› rfl | (intro _)
    | (with_reducible first | apply State.descLost_moves | apply State.modLg_moves | apply State.push_moves)
    | split

theorem State.driveReset_moves {a0 a1} (h : Moves m s₀ s) (q : Sub 0x60bec1 m := by exact .of ‹_› rfl) :
    Moves m s₀ (State.driveReset a0 a1 s) := by
  unfold State.driveReset
  try dsimp only
  repeat' first
    | with_reducible assumption | exact Sub.of ‹_› rfl | (intro _)
    | (with_reducible first
        | apply Moves.ite | apply State.descLost_moves | apply State.fillGone_moves | apply State.journalGone_moves
        | apply State.memberErased_moves | apply State.memberWritten_moves | apply State.modWingSt_moves
        | apply State.rowUnread_moves | apply State.rowWritten_moves | apply State.stripeShort_moves)
    | split

theorem State.cutBay_moves {a0} (h : Moves m s₀ s) (q : Sub 0x2080d1 m := by exact .of ‹_› rfl) :
    Moves m s₀ (State.cutBay a0 s) := by
  unfold State.cutBay
  try dsimp only
  repeat' first
    | with_reducible assumption | exact Sub.of ‹_› rfl | (intro _)
    | (with_reducible first
        | apply Moves.foldl | apply State.closeUnit_moves | apply State.dropJobs_moves | apply State.freeOwned_moves
        | apply State.modCe_moves | apply State.modDrive_moves | apply State.modDrives_moves)

theorem State.contain_moves {a0 a1} (h : Moves m s₀ s) (q : Sub 0xf1bff3 m := by exact .of ‹_› rfl) :
    Moves m s₀ (State.contain a0 a1 s) := by
  unfold State.contain
  try dsimp only
  repeat' first
    | with_reducible assumption | exact Sub.of ‹_› rfl | (intro _)
    | (with_reducible first
        | apply Moves.ite | apply Moves.foldl | apply State.cutBay_moves | apply State.descGone_moves
        | apply State.driveCounted_moves | apply State.driveReset_moves | apply State.journalGone_moves
        | apply State.loseBay_moves | apply State.raiseWarnings_moves | apply State.record_moves | apply State.returned_moves
        | apply State.settle_moves | apply State.tick_moves)

theorem execBayContain_moves {a0 a1} (h : Moves m s₀ s) (q : Sub 0xf1bff3 m := by exact .of ‹_› rfl) :
    OutMoves m s₀ (execBayContain a0 a1 s) := by
  unfold execBayContain
  try dsimp only
  repeat' first
    | (with_reducible first | apply OutMoves.next | assumption)
    | exact Sub.of ‹_› rfl | with_reducible apply State.contain_moves

theorem execCeBayContain_moves {a0 a1} (h : Moves m s₀ s) (q : Sub 0xf1bff3 m := by exact .of ‹_› rfl) :
    OutMoves m s₀ (execCeBayContain a0 a1 s) := by
  unfold execCeBayContain
  try dsimp only
  repeat' first
    | (with_reducible first | apply OutMoves.next | assumption)
    | exact Sub.of ‹_› rfl | (intro _)
    | (with_reducible first | apply State.contain_moves | apply State.trigger_moves)

theorem State.repeatWrite_moves {a0} (h : Moves m s₀ s) (q : Sub 0x4000c0 m := by exact .of ‹_› rfl) :
    Moves m s₀ (State.repeatWrite a0 s) := by
  unfold State.repeatWrite
  try dsimp only
  repeat' first
    | with_reducible assumption | exact Sub.of ‹_› rfl | (intro _)
    | (with_reducible first | apply Moves.foldl | apply State.issueDrive_moves | apply State.push_moves)
    | dsimp only | split

theorem State.registerKey_moves {a0 a1} (h : Moves m s₀ s) (q : Sub 0x400080 m := by exact .of ‹_› rfl) :
    Moves m s₀ (State.registerKey a0 a1 s) := by
  unfold State.registerKey
  try dsimp only
  repeat' first | with_reducible assumption | exact Sub.of ‹_› rfl | with_reducible apply State.issueDrive_moves

theorem State.acquireKey_moves {a0 a1} (h : Moves m s₀ s) (q : Sub 0x400080 m := by exact .of ‹_› rfl) :
    Moves m s₀ (State.acquireKey a0 a1 s) := by
  unfold State.acquireKey
  try dsimp only
  repeat' first
    | with_reducible assumption | exact Sub.of ‹_› rfl
    | (with_reducible first | apply Moves.ite | apply State.issueDrive_moves)

theorem State.refuseDrive_moves {a0 a1} (h : Moves m s₀ s) (q : Sub 0x200081 m := by exact .of ‹_› rfl) :
    Moves m s₀ (State.refuseDrive a0 a1 s) := by
  unfold State.refuseDrive
  try dsimp only
  repeat' first
    | with_reducible assumption | exact Sub.of ‹_› rfl | (intro _)
    | (with_reducible first | apply State.modDrive_moves | apply State.modDrives_moves | apply State.record_moves)

theorem State.registerDrive_moves {a0} (h : Moves m s₀ s) (q : Sub 0x400080 m := by exact .of ‹_› rfl) :
    Moves m s₀ (State.registerDrive a0 s) := by
  unfold State.registerDrive
  try dsimp only
  repeat' first
    | with_reducible assumption | exact Sub.of ‹_› rfl | (intro _)
    | (with_reducible first
        | apply Moves.ite | apply Moves.foldl | apply State.issueDrive_moves | apply State.registerKey_moves)

theorem State.makeMembers_moves {a0 a1 a2} (h : Moves m s₀ s) (q : Sub 0x400080 m := by exact .of ‹_› rfl) :
    Moves m s₀ (State.makeMembers a0 a1 a2 s) := by
  unfold State.makeMembers
  try dsimp only
  repeat' first
    | with_reducible assumption | exact Sub.of ‹_› rfl | (intro _)
    | (with_reducible first | apply Moves.ite | apply Moves.foldl | apply State.issueDrive_moves)

theorem State.acceptDrive_moves {a0 a1 a2 a3 a4} (h : Moves m s₀ s) (q : Sub 0x600191 m := by exact .of ‹_› rfl) :
    Moves m s₀ (State.acceptDrive a0 a1 a2 a3 a4 s) := by
  unfold State.acceptDrive
  try dsimp only
  repeat' first
    | with_reducible assumption | exact Sub.of ‹_› rfl | (intro _)
    | (with_reducible first
        | apply Moves.ite | apply Moves.foldl | apply State.makeMembers_moves | apply State.modDrive_moves
        | apply State.modDrives_moves | apply State.modPlace_moves | apply State.record_moves
        | apply State.registerDrive_moves | apply State.reopenUnit_moves)

theorem State.examineAccept_moves {a0 a1 a2 a3 a4 a5} (h : Moves m s₀ s) (q : Sub 0x600191 m := by exact .of ‹_› rfl) :
    Moves m s₀ (State.examineAccept a0 a1 a2 a3 a4 a5 s) := by
  unfold State.examineAccept
  try dsimp only
  repeat' first
    | with_reducible assumption | exact Sub.of ‹_› rfl | (intro _)
    | (with_reducible first
        | apply Moves.ite | apply State.acceptDrive_moves | apply State.issueDrive_moves
        | apply State.modDrives_moves)

theorem State.readArrived_moves {a0 a1 a2} (h : Moves m s₀ s) (q : Sub 0x40 m := by exact .of ‹_› rfl) :
    Moves m s₀ (State.readArrived a0 a1 a2 s) := by
  unfold State.readArrived
  try dsimp only
  repeat' first | with_reducible assumption | exact Sub.of ‹_› rfl | with_reducible apply State.push_moves | split

theorem State.driveGood_moves {a0 a1} (h : Moves m s₀ s) (q : Sub 0x609fd1 m := by exact .of ‹_› rfl) :
    Moves m s₀ (State.driveGood a0 a1 s) := by
  unfold State.driveGood
  try dsimp only
  repeat' first
    | with_reducible assumption | exact Sub.of ‹_› rfl | (intro _)
    | (with_reducible first
        | apply Moves.ite | apply State.acceptDrive_moves | apply State.acquireKey_moves
        | apply State.descArrived_moves | apply State.descDone_moves | apply State.memberWritten_moves
        | apply State.modDrive_moves | apply State.modLg_moves | apply State.modWingSt_moves
        | apply State.readArrived_moves | apply State.rowWritten_moves)
    | split

theorem State.driveFailed_moves {a0} (h : Moves m s₀ s) (q : Sub 0xf1bff3 m := by exact .of ‹_› rfl) :
    Moves m s₀ (State.driveFailed a0 s) := by
  unfold State.driveFailed
  try dsimp only
  repeat' first
    | with_reducible assumption | exact Sub.of ‹_› rfl | (intro _)
    | (with_reducible first
        | apply Moves.ite | apply State.contain_moves | apply State.count_moves | apply State.descLost_moves
        | apply State.driveReset_moves | apply State.fillGone_moves | apply State.memberErased_moves
        | apply State.refuseDrive_moves | apply State.repeatWrite_moves | apply State.rowUnread_moves
        | apply State.tick_moves)
    | split

theorem State.driveCompletion_moves {a0 a1 a2 a3 a4} (h : Moves m s₀ s) (q : Sub 0xf1bff3 m := by exact .of ‹_› rfl) :
    Moves m s₀ (State.driveCompletion a0 a1 a2 a3 a4 s) := by
  unfold State.driveCompletion
  try dsimp only
  repeat' first
    | with_reducible assumption | exact Sub.of ‹_› rfl | (intro _)
    | (with_reducible first
        | apply Moves.ite | apply Moves.foldl | apply State.drawn_moves | apply State.driveCounted_moves
        | apply State.driveFailed_moves | apply State.driveGood_moves | apply State.dropDriveCmd_moves
        | apply State.freeOwned_moves | apply State.settle_moves)
    | dsimp only | split

theorem execDriveCompletion_moves {a0 a1 a2 a3 a4} (h : Moves m s₀ s) (q : Sub 0xf1bff3 m := by exact .of ‹_› rfl) :
    OutMoves m s₀ (execDriveCompletion a0 a1 a2 a3 a4 s) := by
  unfold execDriveCompletion
  try dsimp only
  repeat' first
    | (with_reducible first | apply OutMoves.next | assumption)
    | exact Sub.of ‹_› rfl
    | (with_reducible first | apply Moves.ite | apply OutMoves.ite | apply State.driveCompletion_moves)

theorem execReadHedge_moves {a0 a1} (h : Moves m s₀ s) (q : Sub 0x71aee1 m := by exact .of ‹_› rfl) :
    OutMoves m s₀ (execReadHedge a0 a1 s) := by
  unfold execReadHedge
  try dsimp only
  repeat' first
    | (with_reducible first | apply OutMoves.next | assumption)
    | exact Sub.of ‹_› rfl | (intro _)
    | (with_reducible first
        | apply Moves.ite | apply OutMoves.ite | apply State.memberErased_moves | apply State.settle_moves
        | apply State.tick_moves)

theorem State.driveTimeout_moves {a0 a1 a2 a3} (h : Moves m s₀ s) (q : Sub 0x600081 m := by exact .of ‹_› rfl) :
    Moves m s₀ (State.driveTimeout a0 a1 a2 a3 s) := by
  unfold State.driveTimeout
  try dsimp only
  repeat' first
    | with_reducible assumption | exact Sub.of ‹_› rfl | (intro _)
    | (with_reducible first
        | apply Moves.ite | apply State.issueDrive_moves | apply State.modDriveCmd_moves | apply State.record_moves
        | apply State.tick_moves)
    | split

theorem execDriveIoTimeout_moves {a0 a1 a2} (h : Moves m s₀ s) (q : Sub 0x600081 m := by exact .of ‹_› rfl) :
    OutMoves m s₀ (execDriveIoTimeout a0 a1 a2 s) := by
  unfold execDriveIoTimeout
  try dsimp only
  repeat' first
    | (with_reducible first | apply OutMoves.next | assumption)
    | exact Sub.of ‹_› rfl
    | (with_reducible first | apply Moves.ite | apply OutMoves.ite | apply State.driveTimeout_moves)

theorem execDriveAdminTimeout_moves {a0 a1} (h : Moves m s₀ s) (q : Sub 0x600081 m := by exact .of ‹_› rfl) :
    OutMoves m s₀ (execDriveAdminTimeout a0 a1 s) := by
  unfold execDriveAdminTimeout
  try dsimp only
  repeat' first
    | (with_reducible first | apply OutMoves.next | assumption)
    | exact Sub.of ‹_› rfl | with_reducible apply State.driveTimeout_moves

theorem execDriveAbortWaitExpiry_moves {a0 a1 a2} (h : Moves m s₀ s) (q : Sub 0xf1bff3 m := by exact .of ‹_› rfl) :
    OutMoves m s₀ (execDriveAbortWaitExpiry a0 a1 a2 s) := by
  unfold execDriveAbortWaitExpiry
  try dsimp only
  repeat' first
    | (with_reducible first | apply OutMoves.next | assumption)
    | exact Sub.of ‹_› rfl | (intro _)
    | (with_reducible first | apply Moves.ite | apply OutMoves.ite | apply State.contain_moves)

theorem State.examine_moves {a0} (h : Moves m s₀ s) (q : Sub 0x400080 m := by exact .of ‹_› rfl) :
    Moves m s₀ (State.examine a0 s) := by
  unfold State.examine
  try dsimp only
  repeat' first
    | with_reducible assumption | exact Sub.of ‹_› rfl
    | (with_reducible first | apply State.issueDrive_moves | apply State.modDrive_moves)

theorem execDriveExamine_moves {a0} (h : Moves m s₀ s) (q : Sub 0x400080 m := by exact .of ‹_› rfl) :
    OutMoves m s₀ (execDriveExamine a0 s) := by
  unfold execDriveExamine
  try dsimp only
  repeat' first
    | (with_reducible first | apply OutMoves.next | assumption)
    | exact Sub.of ‹_› rfl
    | (with_reducible first | apply Moves.ite | apply OutMoves.ite | apply State.examine_moves)

theorem execCeBayRelease_moves {a0 a1} (h : Moves m s₀ s) (q : Sub 0x400081 m := by exact .of ‹_› rfl) :
    OutMoves m s₀ (execCeBayRelease a0 a1 s) := by
  unfold execCeBayRelease
  try dsimp only
  repeat' first
    | (with_reducible first | apply OutMoves.next | assumption)
    | exact Sub.of ‹_› rfl | (intro _)
    | (with_reducible first
        | apply Moves.ite | apply OutMoves.ite | apply State.examine_moves | apply State.trigger_moves)

theorem execCeBayAccept_moves {a0 a1} (h : Moves m s₀ s) (q : Sub 0x400081 m := by exact .of ‹_› rfl) :
    OutMoves m s₀ (execCeBayAccept a0 a1 s) := by
  unfold execCeBayAccept
  try dsimp only
  repeat' first
    | (with_reducible first | apply OutMoves.next | assumption)
    | exact Sub.of ‹_› rfl | (intro _)
    | (with_reducible first
        | apply Moves.ite | apply OutMoves.ite | apply State.examine_moves | apply State.modDrive_moves
        | apply State.trigger_moves)

theorem execDriveExamineDone_moves {a0 a1 a2 a3 a4 a5 a6} (h : Moves m s₀ s) (q : Sub 0x600191 m := by exact .of ‹_› rfl) :
    OutMoves m s₀ (execDriveExamineDone a0 a1 a2 a3 a4 a5 a6 s) := by
  unfold execDriveExamineDone
  try dsimp only
  repeat' first
    | (with_reducible first | apply OutMoves.next | assumption)
    | exact Sub.of ‹_› rfl | (intro _)
    | (with_reducible first
        | apply Moves.ite | apply OutMoves.ite | apply State.examineAccept_moves | apply State.refuseDrive_moves)
    | split

theorem execDriveExamineTimeout_moves {a0} (h : Moves m s₀ s) (q : Sub 0x200081 m := by exact .of ‹_› rfl) :
    OutMoves m s₀ (execDriveExamineTimeout a0 s) := by
  unfold execDriveExamineTimeout
  try dsimp only
  repeat' first
    | (with_reducible first | apply OutMoves.next | assumption)
    | exact Sub.of ‹_› rfl
    | (with_reducible first | apply Moves.ite | apply OutMoves.ite | apply State.refuseDrive_moves)

/-! ### Machine/Rebuild.lean -/

theorem State.startEvent_moves {a0 a1} (h : Moves m s₀ s) (q : Sub 0x200101 m := by exact .of ‹_› rfl) :
    Moves m s₀ (State.startEvent a0 a1 s) := by
  unfold State.startEvent
  try dsimp only
  repeat' first
    | with_reducible assumption | exact Sub.of ‹_› rfl | (intro _)
    | (with_reducible first
        | apply Moves.ite | apply Moves.foldl | apply Moves.foldlSnd | apply Moves.foldlFst
        | apply State.modPlace_moves | apply State.record_moves)

theorem State.eventDone_moves {a0 a1} (h : Moves m s₀ s) (q : Sub 0xe00dc3 m := by exact .of ‹_› rfl) :
    Moves m s₀ (State.eventDone a0 a1 s) := by
  unfold State.eventDone
  try dsimp only
  repeat' first
    | with_reducible assumption | exact Sub.of ‹_› rfl | (intro _)
    | (with_reducible first
        | apply Moves.ite | apply State.descRequest_moves | apply State.enterPending_moves
        | apply State.modPlace_moves | apply State.modRb_moves | apply State.record_moves)

theorem State.eventsDone_moves {a0} (h : Moves m s₀ s) (q : Sub 0xe00dc3 m := by exact .of ‹_› rfl) :
    Moves m s₀ (State.eventsDone a0 s) := by
  unfold State.eventsDone
  try dsimp only
  repeat' first
    | with_reducible assumption | exact Sub.of ‹_› rfl | (intro _)
    | (with_reducible first | apply Moves.ite | apply Moves.foldl | apply State.eventDone_moves)

theorem State.limitedPump_moves {a0 a1} (h : Moves m s₀ s) (q : Sub 0x60aec1 m := by exact .of ‹_› rfl) :
    Moves m s₀ (State.limitedPump a0 a1 s) := by
  induction a1 generalizing s with
  | zero => exact h
  | succ _ ih =>
    unfold State.limitedPump
    try dsimp only
    repeat' first
      | with_reducible assumption | exact Sub.of ‹_› rfl | (intro _)
      | (with_reducible first
          | apply Moves.ite | apply State.askMember_moves | apply State.modRb_moves | apply State.rowErase_moves)
      | split | with_reducible apply ih

theorem State.limitedPump'_moves (h : Moves m s₀ s) (q : Sub 0x60aec1 m := by exact .of ‹_› rfl) :
    Moves m s₀ (State.limitedPump' s) := by
  unfold State.limitedPump'
  try dsimp only
  repeat' first
    | with_reducible assumption | exact Sub.of ‹_› rfl | (intro _) | with_reducible apply State.limitedPump_moves

theorem State.setCursor_moves {a0 a1} (h : Moves m s₀ s) (q : Sub 0x401 m := by exact .of ‹_› rfl) :
    Moves m s₀ (State.setCursor a0 a1 s) := by
  unfold State.setCursor
  try dsimp only
  repeat' first
    | with_reducible assumption | exact Sub.of ‹_› rfl | (intro _)
    | (with_reducible first | apply Moves.ite | apply State.modRb_moves | apply State.put_moves)

theorem State.saveCursors_moves (h : Moves m s₀ s) (q : Sub 0x1 m := by exact .of ‹_› rfl) :
    Moves m s₀ (State.saveCursors s) := by
  unfold State.saveCursors
  try dsimp only
  repeat' first | with_reducible assumption | exact Sub.of ‹_› rfl | with_reducible apply State.put_moves

theorem State.patrolOver_moves (h : Moves m s₀ s) (q : Sub 0x401 m := by exact .of ‹_› rfl) :
    Moves m s₀ (State.patrolOver s) := by
  unfold State.patrolOver
  try dsimp only
  repeat' first
    | with_reducible assumption | exact Sub.of ‹_› rfl | (intro _)
    | (with_reducible first | apply Moves.ite | apply State.modRb_moves | apply State.setCursor_moves)
    | split

theorem State.patrolStop_moves (h : Moves m s₀ s) (q : Sub 0x208641 m := by exact .of ‹_› rfl) :
    Moves m s₀ (State.patrolStop s) := by
  unfold State.patrolStop
  try dsimp only
  repeat' first
    | with_reducible assumption | exact Sub.of ‹_› rfl | (intro _)
    | (with_reducible first
        | apply Moves.ite | apply Moves.foldl | apply State.dropJob_moves | apply State.modRb_moves
        | apply State.patrolOver_moves)
    | dsimp only | split

theorem State.patrolDiscard_moves {a0 a1 a2} (h : Moves m s₀ s) (q : Sub 0x208641 m := by exact .of ‹_› rfl) :
    Moves m s₀ (State.patrolDiscard a0 a1 a2 s) := by
  unfold State.patrolDiscard
  try dsimp only
  repeat' first
    | with_reducible assumption | exact Sub.of ‹_› rfl | (intro _)
    | (with_reducible first
        | apply Moves.ite | apply Moves.foldl | apply State.dropJob_moves | apply State.modRb_moves
        | apply State.patrolOver_moves | apply State.tick_moves)

theorem State.runAhead_moves (h : Moves m s₀ s) (q : Sub 0x6024c1 m := by exact .of ‹_› rfl) :
    Moves m s₀ (State.runAhead s) := by
  unfold State.runAhead
  try dsimp only
  repeat' first
    | with_reducible assumption | exact Sub.of ‹_› rfl | (intro _)
    | (with_reducible first
        | apply Moves.ite | apply Moves.foldl | apply State.fillBlock_moves | apply State.modRb_moves
        | apply State.tick_moves)
    | dsimp only | split

theorem State.rebuildLeg_moves (h : Moves m s₀ s) (q : Sub 0xe0afc3 m := by exact .of ‹_› rfl) :
    Moves m s₀ (State.rebuildLeg s) := by
  unfold State.rebuildLeg
  try dsimp only
  repeat' first
    | with_reducible assumption | exact Sub.of ‹_› rfl | (intro _)
    | (with_reducible first
        | apply Moves.ite | apply Moves.foldl | apply State.eventsDone_moves | apply State.limitedPump'_moves
        | apply State.modRb_moves | apply State.patrolOver_moves | apply State.patrolStop_moves
        | apply State.record_moves | apply State.runAhead_moves | apply State.startEvent_moves)

theorem State.rebuildStripe_moves (h : Moves m s₀ s) (q : Sub 0x60aec1 m := by exact .of ‹_› rfl) :
    Moves m s₀ (State.rebuildStripe s) := by
  unfold State.rebuildStripe
  try dsimp only
  repeat' first
    | with_reducible assumption | exact Sub.of ‹_› rfl | (intro _)
    | (with_reducible first
        | apply Moves.ite | apply Moves.foldl | apply State.count_moves | apply State.limitedPump'_moves
        | apply State.modRb_moves | apply State.runAhead_moves | apply State.startJob_moves)
    | dsimp only | split

theorem execRebuildStripe_moves (h : Moves m s₀ s) (q : Sub 0x71aee1 m := by exact .of ‹_› rfl) :
    OutMoves m s₀ (execRebuildStripe s) := by
  unfold execRebuildStripe
  try dsimp only
  repeat' first
    | (with_reducible first | apply OutMoves.next | assumption)
    | exact Sub.of ‹_› rfl
    | (with_reducible first | apply State.rebuildStripe_moves | apply State.settle_moves)

theorem State.rebuildDone_moves {a0 a1} (h : Moves m s₀ s) (q : Sub 0xe00dc3 m := by exact .of ‹_› rfl) :
    Moves m s₀ (State.rebuildDone a0 a1 s) := by
  unfold State.rebuildDone
  try dsimp only
  repeat' first
    | with_reducible assumption | exact Sub.of ‹_› rfl | (intro _)
    | (with_reducible first
        | apply Moves.ite | apply State.eventsDone_moves | apply State.makeFinal_moves | apply State.modHold_moves
        | apply State.modPlace_moves | apply State.record_moves)
    | split

theorem execRebuildStripeDone_moves {a0 a1} (h : Moves m s₀ s) (q : Sub 0xf18fe3 m := by exact .of ‹_› rfl) :
    OutMoves m s₀ (execRebuildStripeDone a0 a1 s) := by
  unfold execRebuildStripeDone
  try dsimp only
  repeat' first
    | (with_reducible first | apply OutMoves.next | assumption)
    | exact Sub.of ‹_› rfl
    | (with_reducible first | apply State.rebuildDone_moves | apply State.settle_moves)

theorem execPeRebuildRateWrite_moves {a0 a1} (h : Moves m s₀ s) (q : Sub 0x280001 m := by exact .of ‹_› rfl) :
    OutMoves m s₀ (execPeRebuildRateWrite a0 a1 s) := by
  unfold execPeRebuildRateWrite
  try dsimp only
  repeat' first
    | (with_reducible first | apply OutMoves.next | assumption)
    | exact Sub.of ‹_› rfl | exact Nat.le_max_left _ _
    | exact (List.length_filter_le _ _).trans (Nat.le_max_left _ _) | exact Nat.zero_le _
    | exact (List.length_map _).le.trans (Nat.le_max_left _ _)
    | exact (modFirst_length _ _ _).le.trans (Nat.le_max_left _ _) | (intro _)
    | (with_reducible first | apply State.guarded_moves | apply State.modDict_moves | apply State.record_moves)

theorem State.passEnds_moves {a0} (h : Moves m s₀ s) (q : Sub 0x200401 m := by exact .of ‹_› rfl) :
    Moves m s₀ (State.passEnds a0 s) := by
  unfold State.passEnds
  try dsimp only
  repeat' first
    | with_reducible assumption | exact Sub.of ‹_› rfl | (intro _)
    | (with_reducible first
        | apply State.modRb_moves | apply State.put_moves | apply State.record_moves | apply State.setCursor_moves
        | apply State.tick_moves)

theorem State.patrolStripe_moves {a0} (h : Moves m s₀ s) (q : Sub 0x60aec1 m := by exact .of ‹_› rfl) :
    Moves m s₀ (State.patrolStripe a0 s) := by
  unfold State.patrolStripe
  try dsimp only
  repeat' first
    | with_reducible assumption | exact Sub.of ‹_› rfl | (intro _)
    | (with_reducible first
        | apply Moves.ite | apply Moves.foldl | apply State.limitedPump'_moves | apply State.modRb_moves
        | apply State.passEnds_moves | apply State.patrolOver_moves | apply State.setCursor_moves
        | apply State.startJob_moves | apply State.tick_moves)
    | dsimp only | split

theorem execPatrolStripe_moves {a0} (h : Moves m s₀ s) (q : Sub 0x60aec1 m := by exact .of ‹_› rfl) :
    OutMoves m s₀ (execPatrolStripe a0 s) := by
  unfold execPatrolStripe
  try dsimp only
  repeat' first
    | (with_reducible first | apply OutMoves.next | assumption)
    | exact Sub.of ‹_› rfl
    | (with_reducible first | apply Moves.ite | apply OutMoves.ite | apply State.patrolStripe_moves)

theorem State.patrolRewrite_moves (h : Moves m s₀ s) (q : Sub 0x6024c1 m := by exact .of ‹_› rfl) :
    Moves m s₀ (State.patrolRewrite s) := by
  unfold State.patrolRewrite
  try dsimp only
  repeat' first
    | with_reducible assumption | exact Sub.of ‹_› rfl | (intro _)
    | (with_reducible first
        | apply Moves.ite | apply State.cacheCancelProv_moves | apply State.modRb_moves
        | apply State.patrolOver_moves | apply State.tick_moves | apply State.writeMember_moves)
    | split

theorem execPatrolRewrite_moves (h : Moves m s₀ s) (q : Sub 0x6024c1 m := by exact .of ‹_› rfl) :
    OutMoves m s₀ (execPatrolRewrite s) := by
  unfold execPatrolRewrite
  try dsimp only
  repeat' first
    | (with_reducible first | apply OutMoves.next | assumption)
    | exact Sub.of ‹_› rfl | with_reducible apply State.patrolRewrite_moves

theorem execPePatrolEnableWrite_moves {a0 a1} (h : Moves m s₀ s) (q : Sub 0x208641 m := by exact .of ‹_› rfl) :
    OutMoves m s₀ (execPePatrolEnableWrite a0 a1 s) := by
  unfold execPePatrolEnableWrite
  try dsimp only
  repeat' first
    | (with_reducible first | apply OutMoves.next | assumption)
    | exact Sub.of ‹_› rfl | (intro _)
    | (with_reducible first
        | apply Moves.ite | apply OutMoves.ite | apply State.guarded_moves | apply State.patrolStop_moves
        | apply State.put_moves)

theorem execPePatrolLogClear_moves {a0 a1} (h : Moves m s₀ s) (q : Sub 0x401 m := by exact .of ‹_› rfl) :
    OutMoves m s₀ (execPePatrolLogClear a0 a1 s) := by
  unfold execPePatrolLogClear
  try dsimp only
  repeat' first
    | (with_reducible first | apply OutMoves.next | assumption)
    | exact Sub.of ‹_› rfl | (intro _)
    | (with_reducible first | apply State.modRb_moves | apply State.trigger_moves)

/-! ### Machine/Ledger.lean -/

theorem State.reconWaits_moves {a0 a1} (h : Moves m s₀ s) (q : Sub 0x208241 m := by exact .of ‹_› rfl) :
    Moves m s₀ (State.reconWaits a0 a1 s) := by
  unfold State.reconWaits
  try dsimp only
  repeat' first
    | with_reducible assumption | exact Sub.of ‹_› rfl | (intro _)
    | (with_reducible first | apply Moves.foldl | apply State.dropJob_moves | apply State.modBlk_moves)
    | dsimp only | split

theorem State.startGroup_moves {a0 a1} (h : Moves m s₀ s) (q : Sub 0x60aec1 m := by exact .of ‹_› rfl) :
    Moves m s₀ (State.startGroup a0 a1 s) := by
  unfold State.startGroup
  try dsimp only
  repeat' first
    | with_reducible assumption | exact Sub.of ‹_› rfl | (intro _)
    | (with_reducible first
        | apply Moves.ite | apply Moves.foldl | apply State.modLg_moves | apply State.startJob_moves)

theorem State.applyStart_moves {a0 a1} (h : Moves m s₀ s) (q : Sub 0x60aec1 m := by exact .of ‹_› rfl) :
    Moves m s₀ (State.applyStart a0 a1 s) := by
  unfold State.applyStart
  try dsimp only
  repeat' first
    | with_reducible assumption | exact Sub.of ‹_› rfl | (intro _)
    | (with_reducible first
        | apply Moves.ite | apply State.modLg_moves | apply State.patrolDiscard_moves
        | apply State.reconWaits_moves | apply State.startGroup_moves)
    | split

theorem execApplyStart_moves {a0 a1} (h : Moves m s₀ s) (q : Sub 0x71aee1 m := by exact .of ‹_› rfl) :
    OutMoves m s₀ (execApplyStart a0 a1 s) := by
  unfold execApplyStart
  try dsimp only
  repeat' first
    | (with_reducible first | apply OutMoves.next | assumption)
    | exact Sub.of ‹_› rfl
    | (with_reducible first | apply State.applyStart_moves | apply State.settle_moves)

theorem State.fullStripeIssue_moves {a0 a1} (h : Moves m s₀ s) (q : Sub 0x608ec1 m := by exact .of ‹_› rfl) :
    Moves m s₀ (State.fullStripeIssue a0 a1 s) := by
  unfold State.fullStripeIssue
  try dsimp only
  repeat' first
    | with_reducible assumption | exact Sub.of ‹_› rfl | (intro _)
    | (with_reducible first
        | apply Moves.ite | apply Moves.foldl | apply State.finalRec_moves | apply State.freeOwned_moves
        | apply State.modCmd_moves | apply State.modPe_moves | apply State.patrolDiscard_moves
        | apply State.reconWaits_moves | apply State.writeMember_moves)
    | dsimp only | split

theorem execFullStripeIssue_moves {a0 a1} (h : Moves m s₀ s) (q : Sub 0x718ee1 m := by exact .of ‹_› rfl) :
    OutMoves m s₀ (execFullStripeIssue a0 a1 s) := by
  unfold execFullStripeIssue
  try dsimp only
  repeat' first
    | (with_reducible first | apply OutMoves.next | assumption)
    | exact Sub.of ‹_› rfl
    | (with_reducible first | apply State.fullStripeIssue_moves | apply State.settle_moves)

theorem State.formRecord_moves {a0} (h : Moves m s₀ s) (q : Sub 0x841 m := by exact .of ‹_› rfl) :
    Moves m s₀ (State.formRecord a0 s) := by
  unfold State.formRecord
  try dsimp only
  repeat' first
    | with_reducible assumption | exact Sub.of ‹_› rfl | (intro _)
    | (with_reducible first
        | apply Moves.ite | apply Moves.foldl | apply State.modLg_moves | apply State.pushAt_moves
        | apply State.tick_moves)

theorem State.formItems_moves {a0 a1} (h : Moves m s₀ s) (q : Sub 0x841 m := by exact .of ‹_› rfl) :
    Moves m s₀ (State.formItems a0 a1 s) := by
  unfold State.formItems
  try dsimp only
  repeat' first
    | with_reducible assumption | exact Sub.of ‹_› rfl | (intro _)
    | (with_reducible first | apply Moves.foldl | apply State.formRecord_moves)

theorem State.formLeg_moves {a0} (h : Moves m s₀ s) (q : Sub 0x841 m := by exact .of ‹_› rfl) :
    Moves m s₀ (State.formLeg a0 s) := by
  unfold State.formLeg
  try dsimp only
  repeat' first
    | with_reducible assumption | exact Sub.of ‹_› rfl | (intro _)
    | (with_reducible first | apply Moves.foldl | apply State.formItems_moves | apply State.modLg_moves)

theorem State.journalTidy_moves (h : Moves m s₀ s) (q : Sub 0x800 m := by exact .of ‹_› rfl) :
    Moves m s₀ (State.journalTidy s) := by
  unfold State.journalTidy
  try dsimp only
  repeat' first
    | with_reducible assumption | exact Sub.of ‹_› rfl | (intro _) | with_reducible apply State.modLg_moves

theorem State.putZone_moves {a0} (h : Moves m s₀ s) (q : Sub 0x800 m := by exact .of ‹_› rfl) :
    Moves m s₀ (State.putZone a0 s) := by
  unfold State.putZone
  try dsimp only
  repeat' first
    | with_reducible assumption | exact Sub.of ‹_› rfl | (intro _)
    | (with_reducible first | apply Moves.ite | apply State.modLg_moves)

theorem State.carryForward_moves {a0 a1} (h : Moves m s₀ s) (q : Sub 0x841 m := by exact .of ‹_› rfl) :
    Moves m s₀ (State.carryForward a0 a1 s) := by
  unfold State.carryForward
  try dsimp only
  repeat' first
    | with_reducible assumption | exact Sub.of ‹_› rfl | (intro _)
    | (with_reducible first | apply Moves.ite | apply State.count_moves | apply State.formItems_moves)
    | split

theorem State.dropRecords_moves {a0} (h : Moves m s₀ s) (q : Sub 0x840 m := by exact .of ‹_› rfl) :
    Moves m s₀ (State.dropRecords a0 s) := by
  unfold State.dropRecords
  try dsimp only
  repeat' first
    | with_reducible assumption | exact Sub.of ‹_› rfl | (intro _)
    | (with_reducible first | apply State.dropJobs_moves | apply State.modLg_moves)

theorem State.rehomeOne_moves {a0 a1 a2} (h : Moves m s₀ s) (q : Sub 0x841 m := by exact .of ‹_› rfl) :
    Moves m s₀ (State.rehomeOne a0 a1 a2 s) := by
  unfold State.rehomeOne
  try dsimp only
  repeat' first
    | with_reducible assumption | exact Sub.of ‹_› rfl | (intro _)
    | (with_reducible first | apply Moves.ite | apply State.formItems_moves | apply State.modLg_moves)
    | split

theorem State.rehomeBay_moves {a0 a1} (h : Moves m s₀ s) (q : Sub 0x841 m := by exact .of ‹_› rfl) :
    Moves m s₀ (State.rehomeBay a0 a1 s) := by
  unfold State.rehomeBay
  try dsimp only
  repeat' first
    | with_reducible assumption | exact Sub.of ‹_› rfl | (intro _)
    | (with_reducible first | apply Moves.foldl | apply State.dropRecords_moves | apply State.rehomeOne_moves)

theorem State.rehomeLeg_moves (h : Moves m s₀ s) (q : Sub 0x841 m := by exact .of ‹_› rfl) :
    Moves m s₀ (State.rehomeLeg s) := by
  unfold State.rehomeLeg
  try dsimp only
  repeat' first
    | with_reducible assumption | exact Sub.of ‹_› rfl | (intro _)
    | (with_reducible first | apply Moves.foldl | apply State.modLg_moves | apply State.rehomeBay_moves)

theorem State.rehomeOver_moves (h : Moves m s₀ s) (q : Sub 0x200801 m := by exact .of ‹_› rfl) :
    Moves m s₀ (State.rehomeOver s) := by
  unfold State.rehomeOver
  try dsimp only
  repeat' first
    | with_reducible assumption | exact Sub.of ‹_› rfl | (intro _)
    | (with_reducible first
        | apply Moves.foldl | apply Moves.foldlSnd | apply Moves.foldlFst | apply State.modLg_moves
        | apply State.record_moves)

theorem State.journalLeg_moves (h : Moves m s₀ s) (q : Sub 0x841 m := by exact .of ‹_› rfl) :
    Moves m s₀ (State.journalLeg s) := by
  unfold State.journalLeg
  try dsimp only
  repeat' first
    | with_reducible assumption | exact Sub.of ‹_› rfl | (intro _)
    | (with_reducible first
        | apply Moves.ite | apply Moves.foldl | apply State.carryForward_moves | apply State.formLeg_moves
        | apply State.journalTidy_moves | apply State.rehomeLeg_moves)

theorem State.journalOut_moves {a0 a1 a2} (h : Moves m s₀ s) (q : Sub 0x4008c1 m := by exact .of ‹_› rfl) :
    Moves m s₀ (State.journalOut a0 a1 a2 s) := by
  unfold State.journalOut
  try dsimp only
  repeat' first
    | with_reducible assumption | exact Sub.of ‹_› rfl | (intro _)
    | (with_reducible first
        | apply Moves.ite | apply State.carryForward_moves | apply State.count_moves | apply State.emit_moves
        | apply State.issueDrive_moves | apply State.modDriveCmd_moves | apply State.pushAt_moves
        | apply State.putZone_moves | apply State.tick_moves)
    | split

theorem runJournal_moves {a0 a1 a2} (h : Moves m s₀ s) (q : Sub 0x6088c1 m := by exact .of ‹_› rfl) :
    Moves m s₀ (runJournal a0 a1 a2 s) := by
  unfold runJournal
  try dsimp only
  repeat' first
    | with_reducible assumption | exact Sub.of ‹_› rfl
    | (with_reducible first | apply State.journalOut_moves | apply State.returnBed_moves)
    | split

theorem State.recordHeld_moves {a0 a1} (h : Moves m s₀ s) (q : Sub 0x718ee1 m := by exact .of ‹_› rfl) :
    Moves m s₀ (State.recordHeld a0 a1 s) := by
  unfold State.recordHeld
  try dsimp only
  repeat' first
    | with_reducible assumption | exact Sub.of ‹_› rfl | (intro _)
    | (with_reducible first
        | apply Moves.ite | apply Moves.foldl | apply State.count_moves | apply State.itemsHeld_moves
        | apply State.journalTidy_moves | apply State.modLg_moves | apply State.putZone_moves
        | apply State.rehomeOver_moves | apply State.settle_moves)
    | dsimp only | split

theorem execJournalRecordHeld_moves {a0 a1} (h : Moves m s₀ s) (q : Sub 0x718ee1 m := by exact .of ‹_› rfl) :
    OutMoves m s₀ (execJournalRecordHeld a0 a1 s) := by
  unfold execJournalRecordHeld
  try dsimp only
  repeat' first
    | (with_reducible first | apply OutMoves.next | assumption)
    | exact Sub.of ‹_› rfl | with_reducible apply State.recordHeld_moves

theorem State.ledgerRecompute_moves (h : Moves m s₀ s) (q : Sub 0x200841 m := by exact .of ‹_› rfl) :
    Moves m s₀ (State.ledgerRecompute s) := by
  unfold State.ledgerRecompute
  try dsimp only
  repeat' first
    | with_reducible assumption | exact Sub.of ‹_› rfl | (intro _)
    | (with_reducible first
        | apply Moves.ite | apply State.modLg_moves | apply State.put_moves | apply State.raiseWarnings_moves
        | apply State.record_moves | apply State.tick_moves)

theorem State.ledgerLeg_moves (h : Moves m s₀ s) (q : Sub 0x240841 m := by exact .of ‹_› rfl) :
    Moves m s₀ (State.ledgerLeg s) := by
  unfold State.ledgerLeg
  try dsimp only
  repeat' first
    | with_reducible assumption | exact Sub.of ‹_› rfl | (intro _)
    | (with_reducible first
        | apply Moves.ite | apply State.addCause_moves | apply State.clearCause_moves
        | apply State.ledgerRecompute_moves | apply State.modLg_moves | apply State.record_moves)

theorem execLgLedgerSizeWrite_moves {a0 a1} (h : Moves m s₀ s) (q : Sub 0x801 m := by exact .of ‹_› rfl) :
    OutMoves m s₀ (execLgLedgerSizeWrite a0 a1 s) := by
  unfold execLgLedgerSizeWrite
  try dsimp only
  repeat' first
    | (with_reducible first | apply OutMoves.next | assumption)
    | exact Sub.of ‹_› rfl | (intro _)
    | (with_reducible first | apply State.guarded_moves | apply State.modLg_moves | apply State.put_moves)

theorem execLgFlushProfileWrite_moves {a0 a1} (h : Moves m s₀ s) (q : Sub 0x801 m := by exact .of ‹_› rfl) :
    OutMoves m s₀ (execLgFlushProfileWrite a0 a1 s) := by
  unfold execLgFlushProfileWrite
  try dsimp only
  repeat' first
    | (with_reducible first | apply OutMoves.next | assumption)
    | exact Sub.of ‹_› rfl | (intro _)
    | (with_reducible first
        | apply Moves.ite | apply OutMoves.ite | apply State.guarded_moves | apply State.modLg_moves
        | apply State.put_moves)

theorem execComparatorSuspect_moves {a0} (h : Moves m s₀ s) (q : Sub 0x200801 m := by exact .of ‹_› rfl) :
    OutMoves m s₀ (execComparatorSuspect a0 s) := by
  unfold execComparatorSuspect
  try dsimp only
  repeat' first
    | (with_reducible first | apply OutMoves.next | assumption)
    | exact Sub.of ‹_› rfl | (intro _)
    | (with_reducible first
        | apply Moves.ite | apply OutMoves.ite | apply State.modLg_moves | apply State.record_moves)

theorem State.bitsFromRecords_moves {a0 a1} (h : Moves m s₀ s) (q : Sub 0x100 m := by exact .of ‹_› rfl) :
    Moves m s₀ (State.bitsFromRecords a0 a1 s) := by
  unfold State.bitsFromRecords
  try dsimp only
  repeat' first
    | with_reducible assumption | exact Sub.of ‹_› rfl | (intro _)
    | (with_reducible first | apply Moves.ite | apply Moves.foldl | apply State.modPlace_moves)

theorem State.replayBegin_moves {a0 a1 a2} (h : Moves m s₀ s) (q : Sub 0x200841 m := by exact .of ‹_› rfl) :
    Moves m s₀ (State.replayBegin a0 a1 a2 s) := by
  unfold State.replayBegin
  try dsimp only
  repeat' first
    | with_reducible assumption | exact Sub.of ‹_› rfl | (intro _)
    | (with_reducible first
        | apply Moves.foldl | apply State.finalRec_moves | apply State.loseReported_moves | apply State.modCe_moves
        | apply State.modLg_moves | apply State.put_moves | apply State.record_moves | apply State.tick_moves)

theorem State.replayNext_moves (h : Moves m s₀ s) (q : Sub 0x71aee1 m := by exact .of ‹_› rfl) :
    Moves m s₀ (State.replayNext s) := by
  unfold State.replayNext
  try dsimp only
  repeat' first
    | with_reducible assumption | exact Sub.of ‹_› rfl | (intro _)
    | (with_reducible first
        | apply Moves.ite | apply State.modLg_moves | apply State.settle_moves | apply State.startGroup_moves)
    | split

theorem State.replayEnd_moves {a0} (h : Moves m s₀ s) (q : Sub 0x200901 m := by exact .of ‹_› rfl) :
    Moves m s₀ (State.replayEnd a0 s) := by
  unfold State.replayEnd
  try dsimp only
  repeat' first
    | with_reducible assumption | exact Sub.of ‹_› rfl | (intro _)
    | (with_reducible first
        | apply State.bitsFromRecords_moves | apply State.modLg_moves | apply State.put_moves
        | apply State.record_moves)

theorem State.vaultWrite_moves {a0 a1} (h : Moves m s₀ s) (q : Sub 0x400000 m := by exact .of ‹_› rfl) :
    Moves m s₀ (State.vaultWrite a0 a1 s) := by
  unfold State.vaultWrite
  try dsimp only
  repeat' first | with_reducible assumption | exact Sub.of ‹_› rfl | with_reducible apply State.emit_moves | split

theorem State.vaultOut_moves (h : Moves m s₀ s) (q : Sub 0x400840 m := by exact .of ‹_› rfl) :
    Moves m s₀ (State.vaultOut s) := by
  unfold State.vaultOut
  try dsimp only
  repeat' first
    | with_reducible assumption | exact Sub.of ‹_› rfl | (intro _)
    | (with_reducible first
        | apply Moves.ite | apply State.modLg_moves | apply State.push_moves | apply State.vaultWrite_moves)
    | split

theorem State.consume_moves (h : Moves m s₀ s) (q : Sub 0x40 m := by exact .of ‹_› rfl) :
    Moves m s₀ (State.consume s) := by
  unfold State.consume
  try dsimp only
  repeat' first | with_reducible assumption | exact Sub.of ‹_› rfl | with_reducible apply State.push_moves | split

theorem State.consumedOut_moves (h : Moves m s₀ s) (q : Sub 0x400800 m := by exact .of ‹_› rfl) :
    Moves m s₀ (State.consumedOut s) := by
  unfold State.consumedOut
  try dsimp only
  repeat' first
    | with_reducible assumption | exact Sub.of ‹_› rfl | (intro _)
    | (with_reducible first | apply State.emit_moves | apply State.modLg_moves)
    | split

theorem runVault_moves {a0 a1 a2} (h : Moves m s₀ s) (q : Sub 0x608841 m := by exact .of ‹_› rfl) :
    Moves m s₀ (runVault a0 a1 a2 s) := by
  unfold runVault
  try dsimp only
  repeat' first
    | with_reducible assumption | exact Sub.of ‹_› rfl
    | (with_reducible first
        | apply State.consumedOut_moves | apply State.returnBed_moves | apply State.vaultOut_moves)
    | split

end Sys2Proof.Machine
end

