-- ==== Sys2Proof/Laws/MovesPower.lean ====
section
/-! SUPPORT. What the lantern, resets, power and bring-up do: each operation moves the state as Moves says. -/

set_option Elab.async false

namespace Sys2Proof.Machine

variable {m : Nat} {s₀ s : State}

/-! ### Machine/Field.lean -/

theorem State.fieldGot_moves {a0 a1} (h : Moves m s₀ s) (q : Sub 0x1 m := by exact .of ‹_› rfl) :
    Moves m s₀ (State.fieldGot a0 a1 s) := by
  unfold State.fieldGot
  try dsimp only
  repeat' first
    | with_reducible assumption | exact Sub.of ‹_› rfl
    | (with_reducible first | apply Moves.ite | apply State.count_moves)

theorem State.fieldSend_moves {a0 a1 a2 a3 a4 a5 a6} (h : Moves m s₀ s) (q : Sub 0x404001 m := by exact .of ‹_› rfl) :
    Moves m s₀ (State.fieldSend a0 a1 a2 a3 a4 a5 a6 s) := by
  unfold State.fieldSend
  try dsimp only
  repeat' first
    | with_reducible assumption | exact Sub.of ‹_› rfl | (intro _)
    | (with_reducible first
        | apply Moves.foldl | apply State.count_moves | apply State.emit_moves | apply State.sendEgress_moves)
    | dsimp only | split

theorem State.tagSend_moves {a0 a1 a2 a3 a4 a5 a6} (h : Moves m s₀ s) (q : Sub 0x404001 m := by exact .of ‹_› rfl) :
    Moves m s₀ (State.tagSend a0 a1 a2 a3 a4 a5 a6 s) := by
  unfold State.tagSend
  try dsimp only
  repeat' first | with_reducible assumption | exact Sub.of ‹_› rfl | with_reducible apply State.fieldSend_moves

/-! ### Machine/Lantern.lean -/

theorem State.setMode_moves {a0 a1} (h : Moves m s₀ s) (q : Sub 0x240001 m := by exact .of ‹_› rfl) :
    Moves m s₀ (State.setMode a0 a1 s) := by
  unfold State.setMode
  try dsimp only
  repeat' first
    | with_reducible assumption | exact Sub.of ‹_› rfl | (intro _)
    | (with_reducible first | apply Moves.ite | apply State.modMd_moves | apply State.record_moves)

theorem State.sawClaim_moves {a0 a1} (h : Moves m s₀ s) (q : Sub 0x1000 m := by exact .of ‹_› rfl) :
    Moves m s₀ (State.sawClaim a0 a1 s) := by
  unfold State.sawClaim
  try dsimp only
  repeat' first
    | with_reducible assumption | exact Sub.of ‹_› rfl | (intro _)
    | (with_reducible first | apply Moves.ite | apply State.modWingSt_moves)

theorem State.setAna_moves {a0 a1} (h : Moves m s₀ s) (q : Sub 0x1040 m := by exact .of ‹_› rfl) :
    Moves m s₀ (State.setAna a0 a1 s) := by
  unfold State.setAna
  try dsimp only
  repeat' first
    | with_reducible assumption | exact Sub.of ‹_› rfl | (intro _)
    | (with_reducible first
        | apply Moves.ite | apply State.modSi_moves | apply State.modWingSt_moves | apply State.raiseAll_moves)

theorem State.helloWarden_moves (h : Moves m s₀ s) (q : Sub 0xc05001 m := by exact .of ‹_› rfl) :
    Moves m s₀ (State.helloWarden s) := by
  unfold State.helloWarden
  try dsimp only
  repeat' first
    | with_reducible assumption | exact Sub.of ‹_› rfl | (intro _)
    | (with_reducible first | apply State.drawn_moves | apply State.fieldSend_moves | apply State.modSi_moves)

theorem State.lanternOut_moves {a0 a1} (h : Moves m s₀ s) (q : Sub 0x405001 m := by exact .of ‹_› rfl) :
    Moves m s₀ (State.lanternOut a0 a1 s) := by
  unfold State.lanternOut
  try dsimp only
  repeat' first
    | with_reducible assumption | exact Sub.of ‹_› rfl | (intro _)
    | (with_reducible first | apply Moves.ite | apply State.modSi_moves | apply State.tagSend_moves)

theorem State.sendLantern_moves {a0 a1} (h : Moves m s₀ s) (q : Sub 0xc05001 m := by exact .of ‹_› rfl) :
    Moves m s₀ (State.sendLantern a0 a1 s) := by
  unfold State.sendLantern
  try dsimp only
  repeat' first
    | with_reducible assumption | exact Sub.of ‹_› rfl | (intro _)
    | (with_reducible first
        | apply Moves.ite | apply State.helloWarden_moves | apply State.lanternOut_moves | apply State.modSi_moves)

theorem execChallenge_moves {a0 a1 a2 a3} (h : Moves m s₀ s) (q : Sub 0x405001 m := by exact .of ‹_› rfl) :
    OutMoves m s₀ (execChallenge a0 a1 a2 a3 s) := by
  unfold execChallenge
  try dsimp only
  repeat' first
    | (with_reducible first | apply OutMoves.next | assumption)
    | exact Sub.of ‹_› rfl | (intro _)
    | (with_reducible first
        | apply Moves.ite | apply OutMoves.ite | apply State.fieldGot_moves | apply State.fieldSend_moves
        | apply State.modSi_moves)
    | split

theorem execAuthOk_moves {a0 a1} (h : Moves m s₀ s) (q : Sub 0x405001 m := by exact .of ‹_› rfl) :
    OutMoves m s₀ (execAuthOk a0 a1 s) := by
  unfold execAuthOk
  try dsimp only
  repeat' first
    | (with_reducible first | apply OutMoves.next | assumption)
    | exact Sub.of ‹_› rfl | (intro _)
    | (with_reducible first
        | apply Moves.ite | apply OutMoves.ite | apply Moves.foldl | apply State.fieldGot_moves
        | apply State.lanternOut_moves | apply State.modSi_moves | apply State.tick_moves)

theorem State.wardenDrop_moves {a0 a1} (h : Moves m s₀ s) (q : Sub 0x1 m := by exact .of ‹_› rfl) :
    Moves m s₀ (State.wardenDrop a0 a1 s) := by
  unfold State.wardenDrop
  try dsimp only
  repeat' first
    | with_reducible assumption | exact Sub.of ‹_› rfl
    | (with_reducible first | apply Moves.ite | apply State.tick_moves)

theorem State.wardenHeard_moves {a0 a1 a2} (h : Moves m s₀ s) (q : Sub 0x1000 m := by exact .of ‹_› rfl) :
    Moves m s₀ (State.wardenHeard a0 a1 a2 s) := by
  unfold State.wardenHeard
  try dsimp only
  repeat' first
    | with_reducible assumption | exact Sub.of ‹_› rfl | (intro _)
    | (with_reducible first | apply State.modSi_moves | apply State.modWingSt_moves)

theorem State.askDrive_moves {a0 a1} (h : Moves m s₀ s) (q : Sub 0x400080 m := by exact .of ‹_› rfl) :
    Moves m s₀ (State.askDrive a0 a1 s) := by
  unfold State.askDrive
  try dsimp only
  repeat' first | with_reducible assumption | exact Sub.of ‹_› rfl | with_reducible apply State.issueDrive_moves

theorem State.modTake_moves {a0 a1} (h : Moves m s₀ s) (q : Sub 0x1000 m := by exact .of ‹_› rfl) :
    Moves m s₀ (State.modTake a0 a1 s) := by
  unfold State.modTake
  try dsimp only
  repeat' first
    | with_reducible assumption | exact Sub.of ‹_› rfl | (intro _) | with_reducible apply State.modWingSt_moves

theorem State.judgeDrive_moves {a0 a1 a2} (h : Moves m s₀ s) (q : Sub 0x401080 m := by exact .of ‹_› rfl) :
    Moves m s₀ (State.judgeDrive a0 a1 a2 s) := by
  unfold State.judgeDrive
  try dsimp only
  repeat' first
    | with_reducible assumption | exact Sub.of ‹_› rfl | (intro _)
    | (with_reducible first | apply Moves.ite | apply State.modTake_moves | apply State.registerKey_moves)
    | split

theorem State.dropPreempts_moves {a0} (h : Moves m s₀ s) (q : Sub 0x80 m := by exact .of ‹_› rfl) :
    Moves m s₀ (State.dropPreempts a0 s) := by
  unfold State.dropPreempts
  try dsimp only
  repeat' first
    | with_reducible assumption | exact Sub.of ‹_› rfl | (intro _)
    | (with_reducible first | apply Moves.ite | apply State.modDrives_moves)

theorem State.standClaim_moves {a0} (h : Moves m s₀ s) (q : Sub 0x1011 m := by exact .of ‹_› rfl) :
    Moves m s₀ (State.standClaim a0 s) := by
  unfold State.standClaim
  try dsimp only
  repeat' first
    | with_reducible assumption | exact Sub.of ‹_› rfl | (intro _)
    | (with_reducible first
        | apply Moves.ite | apply State.modTake_moves | apply State.modTt_moves | apply State.modWingSt_moves
        | apply State.tick_moves)
    | split

theorem State.unacquire_moves {a0} (h : Moves m s₀ s) (q : Sub 0x80 m := by exact .of ‹_› rfl) :
    Moves m s₀ (State.unacquire a0 s) := by
  unfold State.unacquire
  try dsimp only
  repeat' first
    | with_reducible assumption | exact Sub.of ‹_› rfl | (intro _)
    | (with_reducible first | apply Moves.foldl | apply State.modDrive_moves)

theorem State.backOff_moves {a0 a1} (h : Moves m s₀ s) (q : Sub 0x6010c1 m := by exact .of ‹_› rfl) :
    Moves m s₀ (State.backOff a0 a1 s) := by
  unfold State.backOff
  try dsimp only
  repeat' first
    | with_reducible assumption | exact Sub.of ‹_› rfl | (intro _)
    | (with_reducible first
        | apply Moves.foldl | apply State.dropPreempts_moves | apply State.modWingSt_moves
        | apply State.record_moves | apply State.registerKey_moves | apply State.setAna_moves
        | apply State.tick_moves | apply State.unacquire_moves)
    | dsimp only | split

theorem State.yieldDue_moves {a0 a1 a2} (h : Moves m s₀ s) (q : Sub 0x1000 m := by exact .of ‹_› rfl) :
    Moves m s₀ (State.yieldDue a0 a1 a2 s) := by
  unfold State.yieldDue
  try dsimp only
  repeat' first
    | with_reducible assumption | exact Sub.of ‹_› rfl | (intro _) | with_reducible apply State.modWingSt_moves

theorem State.defend_moves {a0 a1} (h : Moves m s₀ s) (q : Sub 0x401080 m := by exact .of ‹_› rfl) :
    Moves m s₀ (State.defend a0 a1 s) := by
  unfold State.defend
  try dsimp only
  repeat' first
    | with_reducible assumption | exact Sub.of ‹_› rfl | (intro _)
    | (with_reducible first
        | apply Moves.foldl | apply State.askDrive_moves | apply State.dropPreempts_moves
        | apply State.modWingSt_moves | apply State.sawClaim_moves | apply State.unacquire_moves)

theorem State.challenged_moves {a0 a1} (h : Moves m s₀ s) (q : Sub 0x401080 m := by exact .of ‹_› rfl) :
    Moves m s₀ (State.challenged a0 a1 s) := by
  unfold State.challenged
  try dsimp only
  repeat' first
    | with_reducible assumption | exact Sub.of ‹_› rfl
    | (with_reducible first | apply Moves.ite | apply State.defend_moves | apply State.yieldDue_moves)

theorem State.takeCheck_moves {a0} (h : Moves m s₀ s) (q : Sub 0x6010d1 m := by exact .of ‹_› rfl) :
    Moves m s₀ (State.takeCheck a0 s) := by
  unfold State.takeCheck
  try dsimp only
  repeat' first
    | with_reducible assumption | exact Sub.of ‹_› rfl
    | (with_reducible first
        | apply Moves.ite | apply State.backOff_moves | apply State.challenged_moves | apply State.standClaim_moves)
    | split

theorem State.takeWing_moves {a0 a1 a2 a3} (h : Moves m s₀ s) (q : Sub 0x6010d1 m := by exact .of ‹_› rfl) :
    Moves m s₀ (State.takeWing a0 a1 a2 a3 s) := by
  unfold State.takeWing
  try dsimp only
  repeat' first
    | with_reducible assumption | exact Sub.of ‹_› rfl | (intro _)
    | (with_reducible first
        | apply Moves.ite | apply Moves.foldl | apply State.askDrive_moves | apply State.modWingSt_moves
        | apply State.sawClaim_moves | apply State.setAna_moves | apply State.standClaim_moves
        | apply State.takeCheck_moves | apply State.unacquire_moves)

theorem State.claimReported_moves {a0 a1 a2 a3} (h : Moves m s₀ s) (q : Sub 0x6010d1 m := by exact .of ‹_› rfl) :
    Moves m s₀ (State.claimReported a0 a1 a2 a3 s) := by
  unfold State.claimReported
  try dsimp only
  repeat' first
    | with_reducible assumption | exact Sub.of ‹_› rfl | (intro _)
    | (with_reducible first
        | apply Moves.foldl | apply State.judgeDrive_moves | apply State.modWingSt_moves
        | apply State.sawClaim_moves | apply State.setAna_moves | apply State.takeCheck_moves
        | apply State.takeWing_moves | apply State.unacquire_moves)
    | dsimp only | split

theorem State.takeNow_moves {a0 a1 a2 a3} (h : Moves m s₀ s) (q : Sub 0x6010d1 m := by exact .of ‹_› rfl) :
    Moves m s₀ (State.takeNow a0 a1 a2 a3 s) := by
  unfold State.takeNow
  try dsimp only
  repeat' first
    | with_reducible assumption | exact Sub.of ‹_› rfl
    | (with_reducible first | apply Moves.ite | apply State.claimReported_moves | apply State.takeWing_moves)

theorem State.requestWing_moves {a0 a1} (h : Moves m s₀ s) (q : Sub 0xc05001 m := by exact .of ‹_› rfl) :
    Moves m s₀ (State.requestWing a0 a1 s) := by
  unfold State.requestWing
  try dsimp only
  repeat' first
    | with_reducible assumption | exact Sub.of ‹_› rfl | (intro _)
    | (with_reducible first | apply State.modWingSt_moves | apply State.sendLantern_moves)

theorem State.musterLantern_moves (h : Moves m s₀ s) (q : Sub 0x401080 m := by exact .of ‹_› rfl) :
    Moves m s₀ (State.musterLantern s) := by
  unfold State.musterLantern
  try dsimp only
  repeat' first
    | with_reducible assumption | exact Sub.of ‹_› rfl | (intro _)
    | (with_reducible first | apply Moves.foldl | apply State.askDrive_moves | apply State.modWingSt_moves)

theorem State.standBy_moves {a0} (h : Moves m s₀ s) (q : Sub 0x401080 m := by exact .of ‹_› rfl) :
    Moves m s₀ (State.standBy a0 s) := by
  unfold State.standBy
  try dsimp only
  repeat' first
    | with_reducible assumption | exact Sub.of ‹_› rfl | (intro _)
    | (with_reducible first
        | apply Moves.foldl | apply State.modWingSt_moves | apply State.registerKey_moves
        | apply State.unacquire_moves)

theorem State.musterDecide_moves {a0} (h : Moves m s₀ s) (q : Sub 0xe050d1 m := by exact .of ‹_› rfl) :
    Moves m s₀ (State.musterDecide a0 s) := by
  unfold State.musterDecide
  try dsimp only
  repeat' first
    | with_reducible assumption | exact Sub.of ‹_› rfl | (intro _)
    | (with_reducible first
        | apply Moves.ite | apply State.claimReported_moves | apply State.record_moves
        | apply State.requestWing_moves | apply State.standBy_moves)
    | split

theorem State.driveWonBy_moves {a0 a1 a2 a3 a4} (h : Moves m s₀ s) (q : Sub 0xe050d1 m := by exact .of ‹_› rfl) :
    Moves m s₀ (State.driveWonBy a0 a1 a2 a3 a4 s) := by
  unfold State.driveWonBy
  try dsimp only
  repeat' first
    | with_reducible assumption | exact Sub.of ‹_› rfl | (intro _)
    | (with_reducible first
        | apply Moves.ite | apply Moves.foldl | apply State.dropDriveCmd_moves | apply State.judgeDrive_moves
        | apply State.modDrive_moves | apply State.modTake_moves | apply State.musterDecide_moves
        | apply State.ringNext_moves | apply State.sawClaim_moves | apply State.takeCheck_moves)
    | dsimp only | split

theorem execDriveWon_moves {a0 a1 a2 a3 a4} (h : Moves m s₀ s) (q : Sub 0xe050d1 m := by exact .of ‹_› rfl) :
    OutMoves m s₀ (execDriveWon a0 a1 a2 a3 a4 s) := by
  unfold execDriveWon
  try dsimp only
  repeat' first
    | (with_reducible first | apply OutMoves.next | assumption)
    | exact Sub.of ‹_› rfl | with_reducible apply State.driveWonBy_moves

theorem State.loseUnwon_moves {a0 a1} (h : Moves m s₀ s) (q : Sub 0xe0bfc3 m := by exact .of ‹_› rfl) :
    Moves m s₀ (State.loseUnwon a0 a1 s) := by
  unfold State.loseUnwon
  try dsimp only
  repeat' first
    | with_reducible assumption | exact Sub.of ‹_› rfl | (intro _)
    | (with_reducible first
        | apply Moves.ite | apply Moves.foldl | apply State.driveReset_moves | apply State.dropDriveCmd_moves
        | apply State.freeOwned_moves | apply State.loseBay_moves | apply State.modPlace_moves
        | apply State.modTake_moves | apply State.record_moves)

theorem execPreemptTimeout_moves {a0} (h : Moves m s₀ s) (q : Sub 0xf1bff3 m := by exact .of ‹_› rfl) :
    OutMoves m s₀ (execPreemptTimeout a0 s) := by
  unfold execPreemptTimeout
  try dsimp only
  repeat' first
    | (with_reducible first | apply OutMoves.next | assumption)
    | exact Sub.of ‹_› rfl | (intro _)
    | (with_reducible first
        | apply Moves.ite | apply OutMoves.ite | apply Moves.foldl | apply State.dropPreempts_moves
        | apply State.loseUnwon_moves | apply State.modTake_moves | apply State.record_moves
        | apply State.settle_moves | apply State.takeCheck_moves)
    | dsimp only | split

theorem execQuorumRetry_moves {a0} (h : Moves m s₀ s) (q : Sub 0x6010c1 m := by exact .of ‹_› rfl) :
    OutMoves m s₀ (execQuorumRetry a0 s) := by
  unfold execQuorumRetry
  try dsimp only
  repeat' first
    | (with_reducible first | apply OutMoves.next | assumption)
    | exact Sub.of ‹_› rfl | (intro _)
    | (with_reducible first
        | apply Moves.ite | apply OutMoves.ite | apply Moves.foldl | apply State.askDrive_moves
        | apply State.backOff_moves | apply State.modTake_moves | apply State.modWingSt_moves)
    | dsimp only | split

theorem State.resConflict_moves {a0 a1 a2 a3} (h : Moves m s₀ s) (q : Sub 0xf1bff3 m := by exact .of ‹_› rfl) :
    Moves m s₀ (State.resConflict a0 a1 a2 a3 s) := by
  unfold State.resConflict
  try dsimp only
  repeat' first
    | with_reducible assumption | exact Sub.of ‹_› rfl | (intro _)
    | (with_reducible first
        | apply Moves.ite | apply Moves.foldl | apply State.backOff_moves | apply State.challenged_moves
        | apply State.contain_moves | apply State.driveReset_moves | apply State.dropDriveCmd_moves
        | apply State.freeOwned_moves | apply State.repeatWrite_moves | apply State.sawClaim_moves)
    | dsimp only | split

theorem execReservationConflict_moves {a0 a1 a2 a3} (h : Moves m s₀ s) (q : Sub 0xf1bff3 m := by exact .of ‹_› rfl) :
    OutMoves m s₀ (execReservationConflict a0 a1 a2 a3 s) := by
  unfold execReservationConflict
  try dsimp only
  repeat' first
    | (with_reducible first | apply OutMoves.next | assumption)
    | exact Sub.of ‹_› rfl
    | (with_reducible first | apply State.resConflict_moves | apply State.settle_moves)

theorem State.holderFailed_moves {a0 a1} (h : Moves m s₀ s) (q : Sub 0xe05001 m := by exact .of ‹_› rfl) :
    Moves m s₀ (State.holderFailed a0 a1 s) := by
  unfold State.holderFailed
  try dsimp only
  repeat' first
    | with_reducible assumption | exact Sub.of ‹_› rfl
    | (with_reducible first | apply Moves.ite | apply State.record_moves | apply State.requestWing_moves)

theorem execHolderSilence_moves {a0} (h : Moves m s₀ s) (q : Sub 0xe05001 m := by exact .of ‹_› rfl) :
    OutMoves m s₀ (execHolderSilence a0 s) := by
  unfold execHolderSilence
  try dsimp only
  repeat' first
    | (with_reducible first | apply OutMoves.next | assumption)
    | exact Sub.of ‹_› rfl
    | (with_reducible first | apply Moves.ite | apply OutMoves.ite | apply State.holderFailed_moves)

theorem execWardenRefuse_moves {a0 a1 a2 a3} (h : Moves m s₀ s) (q : Sub 0x601081 m := by exact .of ‹_› rfl) :
    OutMoves m s₀ (execWardenRefuse a0 a1 a2 a3 s) := by
  unfold execWardenRefuse
  try dsimp only
  repeat' first
    | (with_reducible first | apply OutMoves.next | assumption)
    | exact Sub.of ‹_› rfl | (intro _)
    | (with_reducible first
        | apply Moves.ite | apply OutMoves.ite | apply State.fieldGot_moves | apply State.modWingSt_moves
        | apply State.record_moves | apply State.sawClaim_moves | apply State.standBy_moves
        | apply State.wardenDrop_moves | apply State.wardenHeard_moves | apply State.yieldDue_moves)

theorem State.holdoffEnd_moves {a0 a1} (h : Moves m s₀ s) (q : Sub 0x6010d1 m := by exact .of ‹_› rfl) :
    Moves m s₀ (State.holdoffEnd a0 a1 s) := by
  unfold State.holdoffEnd
  try dsimp only
  repeat' first
    | with_reducible assumption | exact Sub.of ‹_› rfl | (intro _)
    | (with_reducible first
        | apply Moves.ite | apply State.modWingSt_moves | apply State.sawClaim_moves | apply State.standBy_moves
        | apply State.takeNow_moves | apply State.yieldDue_moves)

theorem execHoldoffExpiry_moves {a0 a1} (h : Moves m s₀ s) (q : Sub 0x6010d1 m := by exact .of ‹_› rfl) :
    OutMoves m s₀ (execHoldoffExpiry a0 a1 s) := by
  unfold execHoldoffExpiry
  try dsimp only
  repeat' first
    | (with_reducible first | apply OutMoves.next | assumption)
    | exact Sub.of ‹_› rfl
    | (with_reducible first | apply Moves.ite | apply OutMoves.ite | apply State.holdoffEnd_moves)

theorem execWardenTimeout_moves {a0} (h : Moves m s₀ s) (q : Sub 0x6010d1 m := by exact .of ‹_› rfl) :
    OutMoves m s₀ (execWardenTimeout a0 s) := by
  unfold execWardenTimeout
  try dsimp only
  repeat' first
    | (with_reducible first | apply OutMoves.next | assumption)
    | exact Sub.of ‹_› rfl | (intro _)
    | (with_reducible first
        | apply Moves.ite | apply OutMoves.ite | apply State.modSi_moves | apply State.modWingSt_moves
        | apply State.record_moves | apply State.standBy_moves | apply State.takeNow_moves)
    | split

theorem execRenew_moves (h : Moves m s₀ s) (q : Sub 0xc05001 m := by exact .of ‹_› rfl) :
    OutMoves m s₀ (execRenew s) := by
  unfold execRenew
  try dsimp only
  repeat' first
    | (with_reducible first | apply OutMoves.next | assumption)
    | exact Sub.of ‹_› rfl | (intro _)
    | (with_reducible first
        | apply Moves.ite | apply OutMoves.ite | apply Moves.foldl | apply State.helloWarden_moves
        | apply State.sendLantern_moves)

theorem execLanternResend_moves {a0} (h : Moves m s₀ s) (q : Sub 0xc05001 m := by exact .of ‹_› rfl) :
    OutMoves m s₀ (execLanternResend a0 s) := by
  unfold execLanternResend
  try dsimp only
  repeat' first
    | (with_reducible first | apply OutMoves.next | assumption)
    | exact Sub.of ‹_› rfl | (intro _)
    | (with_reducible first
        | apply Moves.ite | apply OutMoves.ite | apply State.modWingSt_moves | apply State.sendLantern_moves)
    | split

theorem State.sisterSend_moves {a0 a1} (h : Moves m s₀ s) (q : Sub 0x400000 m := by exact .of ‹_› rfl) :
    Moves m s₀ (State.sisterSend a0 a1 s) := by
  unfold State.sisterSend
  try dsimp only
  repeat' first
    | with_reducible assumption | exact Sub.of ‹_› rfl
    | (with_reducible first | apply Moves.ite | apply State.emit_moves)

theorem State.askResync_moves (h : Moves m s₀ s) (q : Sub 0x401000 m := by exact .of ‹_› rfl) :
    Moves m s₀ (State.askResync s) := by
  unfold State.askResync
  try dsimp only
  repeat' first
    | with_reducible assumption | exact Sub.of ‹_› rfl | (intro _)
    | (with_reducible first | apply State.modSi_moves | apply State.sisterSend_moves)

theorem State.dropWing_moves {a0} (h : Moves m s₀ s) (q : Sub 0x60aec1 m := by exact .of ‹_› rfl) :
    Moves m s₀ (State.dropWing a0 s) := by
  unfold State.dropWing
  try dsimp only
  repeat' first
    | with_reducible assumption | exact Sub.of ‹_› rfl | (intro _)
    | (with_reducible first
        | apply Moves.ite | apply Moves.foldl | apply State.cacheRemove_moves | apply State.dropJob_moves
        | apply State.dropJobs_moves | apply State.modDrives_moves | apply State.modLg_moves
        | apply State.modRb_moves)

theorem State.yieldLeg_moves {a0} (h : Moves m s₀ s) (q : Sub 0x65bee5 m := by exact .of ‹_› rfl) :
    Moves m s₀ (State.yieldLeg a0 s) := by
  unfold State.yieldLeg
  try dsimp only
  repeat' first
    | with_reducible assumption | exact Sub.of ‹_› rfl | (intro _)
    | (with_reducible first
        | apply Moves.ite | apply Moves.foldl | apply State.askResync_moves | apply State.dropPreempts_moves
        | apply State.dropWing_moves | apply State.endRun_moves | apply State.failCmd_moves
        | apply State.modMd_moves | apply State.modWingSt_moves | apply State.record_moves
        | apply State.registerKey_moves | apply State.setAna_moves | apply State.setMode_moves
        | apply State.unacquire_moves)
    | dsimp only | split

theorem State.zonesFromReads_moves {a0} (h : Moves m s₀ s) (q : Sub 0x800 m := by exact .of ‹_› rfl) :
    Moves m s₀ (State.zonesFromReads a0 s) := by
  unfold State.zonesFromReads
  try dsimp only
  repeat' first
    | with_reducible assumption | exact Sub.of ‹_› rfl | (intro _)
    | (with_reducible first | apply Moves.foldl | apply State.putZone_moves)
    | dsimp only | split

theorem State.readDescs_moves {a0 a1} (h : Moves m s₀ s) (q : Sub 0x400080 m := by exact .of ‹_› rfl) :
    Moves m s₀ (State.readDescs a0 a1 s) := by
  unfold State.readDescs
  try dsimp only
  repeat' first
    | with_reducible assumption | exact Sub.of ‹_› rfl | (intro _)
    | (with_reducible first | apply Moves.foldl | apply State.issueDrive_moves)

theorem State.loadDesc_moves {a0} (h : Moves m s₀ s) (q : Sub 0x612941 m := by exact .of ‹_› rfl) :
    Moves m s₀ (State.loadDesc a0 s) := by
  unfold State.loadDesc
  try dsimp only
  repeat' first
    | with_reducible assumption | exact Sub.of ‹_› rfl | (intro _)
    | (with_reducible first
        | apply Moves.ite | apply Moves.foldl | apply State.cacheRemove_moves | apply State.emptySlot_moves
        | apply State.fillSlot_moves | apply State.modCe_moves | apply State.modLg_moves
        | apply State.modPlace_moves | apply State.put_moves)

theorem State.adoptDesc_moves {a0} (h : Moves m s₀ s) (q : Sub 0x612941 m := by exact .of ‹_› rfl) :
    Moves m s₀ (State.adoptDesc a0 s) := by
  unfold State.adoptDesc
  try dsimp only
  repeat' first
    | with_reducible assumption | exact Sub.of ‹_› rfl | (intro _)
    | (with_reducible first | apply State.loadDesc_moves | apply State.modLg_moves)
    | split

theorem State.readZones_moves {a0} (h : Moves m s₀ s) (q : Sub 0x400080 m := by exact .of ‹_› rfl) :
    Moves m s₀ (State.readZones a0 s) := by
  unfold State.readZones
  try dsimp only
  repeat' first
    | with_reducible assumption | exact Sub.of ‹_› rfl | (intro _)
    | (with_reducible first | apply Moves.foldl | apply State.issueDrive_moves)
    | dsimp only | split

theorem State.enterArisen_moves {a0} (h : Moves m s₀ s) (q : Sub 0xe40dc3 m := by exact .of ‹_› rfl) :
    Moves m s₀ (State.enterArisen a0 s) := by
  unfold State.enterArisen
  try dsimp only
  repeat' first
    | with_reducible assumption | exact Sub.of ‹_› rfl | (intro _)
    | (with_reducible first
        | apply Moves.foldl | apply State.enterPending_moves | apply State.modMd_moves | apply State.modPlace_moves
        | apply State.record_moves)

theorem State.openWing_moves {a0} (h : Moves m s₀ s) (q : Sub 0x201041 m := by exact .of ‹_› rfl) :
    Moves m s₀ (State.openWing a0 s) := by
  unfold State.openWing
  try dsimp only
  repeat' first
    | with_reducible assumption | exact Sub.of ‹_› rfl | (intro _)
    | (with_reducible first
        | apply Moves.ite | apply State.modWingSt_moves | apply State.put_moves | apply State.record_moves
        | apply State.setAna_moves)
    | split

theorem State.cursorBack_moves {a0} (h : Moves m s₀ s) (q : Sub 0x400 m := by exact .of ‹_› rfl) :
    Moves m s₀ (State.cursorBack a0 s) := by
  unfold State.cursorBack
  try dsimp only
  repeat' first
    | with_reducible assumption | exact Sub.of ‹_› rfl | (intro _) | with_reducible apply State.modRb_moves

theorem State.renewTaken_moves {a0} (h : Moves m s₀ s) (q : Sub 0xc05001 m := by exact .of ‹_› rfl) :
    Moves m s₀ (State.renewTaken a0 s) := by
  unfold State.renewTaken
  try dsimp only
  repeat' first
    | with_reducible assumption | exact Sub.of ‹_› rfl | (intro _)
    | (with_reducible first | apply State.modWingSt_moves | apply State.sendLantern_moves)

theorem State.takeLeg_moves {a0} (h : Moves m s₀ s) (q : Sub 0xe57dc3 m := by exact .of ‹_› rfl) :
    Moves m s₀ (State.takeLeg a0 s) := by
  unfold State.takeLeg
  try dsimp only
  repeat' first
    | with_reducible assumption | exact Sub.of ‹_› rfl | (intro _)
    | (with_reducible first
        | apply Moves.ite | apply State.adoptDesc_moves | apply State.cursorBack_moves
        | apply State.enterArisen_moves | apply State.modLg_moves | apply State.modSi_moves
        | apply State.modTake_moves | apply State.modWingSt_moves | apply State.openWing_moves
        | apply State.readDescs_moves | apply State.readZones_moves | apply State.renewTaken_moves
        | apply State.replayBegin_moves | apply State.replayEnd_moves | apply State.zonesFromReads_moves)
    | split

theorem State.serviceLeg_moves (h : Moves m s₀ s) (q : Sub 0x240001 m := by exact .of ‹_› rfl) :
    Moves m s₀ (State.serviceLeg s) := by
  unfold State.serviceLeg
  try dsimp only
  repeat' first
    | with_reducible assumption | exact Sub.of ‹_› rfl | (intro _)
    | (with_reducible first | apply Moves.ite | apply State.modMd_moves | apply State.setMode_moves)

theorem State.retryLeg_moves {a0} (h : Moves m s₀ s) (q : Sub 0x1040 m := by exact .of ‹_› rfl) :
    Moves m s₀ (State.retryLeg a0 s) := by
  unfold State.retryLeg
  try dsimp only
  repeat' first
    | with_reducible assumption | exact Sub.of ‹_› rfl | (intro _)
    | (with_reducible first | apply Moves.ite | apply State.modCe_moves | apply State.modWingSt_moves)

theorem State.lanternLeg_moves (h : Moves m s₀ s) (q : Sub 0xe5ffe7 m := by exact .of ‹_› rfl) :
    Moves m s₀ (State.lanternLeg s) := by
  unfold State.lanternLeg
  try dsimp only
  repeat' first
    | with_reducible assumption | exact Sub.of ‹_› rfl | (intro _)
    | (with_reducible first
        | apply Moves.foldl | apply State.retryLeg_moves | apply State.serviceLeg_moves | apply State.takeLeg_moves
        | apply State.yieldLeg_moves)

/-! ### Machine/Sisters.lean -/

theorem State.makePacket_moves (h : Moves m s₀ s) (q : Sub 0x1840 m := by exact .of ‹_› rfl) :
    Moves m s₀ (State.makePacket s) := by
  unfold State.makePacket
  try dsimp only
  repeat' first
    | with_reducible assumption | exact Sub.of ‹_› rfl | (intro _)
    | (with_reducible first
        | apply Moves.ite | apply Moves.foldl | apply State.modLg_moves | apply State.modSi_moves
        | apply State.push_moves)

theorem State.legFrameOut_moves {a0} (h : Moves m s₀ s) (q : Sub 0x401001 m := by exact .of ‹_› rfl) :
    Moves m s₀ (State.legFrameOut a0 s) := by
  unfold State.legFrameOut
  try dsimp only
  repeat' first
    | with_reducible assumption | exact Sub.of ‹_› rfl | (intro _)
    | (with_reducible first
        | apply Moves.ite | apply State.copiesSent_moves | apply State.emit_moves | apply State.modSi_moves
        | apply State.tick_moves)
    | split

theorem State.snapFrameOut_moves (h : Moves m s₀ s) (q : Sub 0x401000 m := by exact .of ‹_› rfl) :
    Moves m s₀ (State.snapFrameOut s) := by
  unfold State.snapFrameOut
  try dsimp only
  repeat' first
    | with_reducible assumption | exact Sub.of ‹_› rfl | (intro _)
    | (with_reducible first | apply State.emit_moves | apply State.modSi_moves)
    | split

theorem runSisterOut_moves {a0 a1 a2} (h : Moves m s₀ s) (q : Sub 0x609001 m := by exact .of ‹_› rfl) :
    Moves m s₀ (runSisterOut a0 a1 a2 s) := by
  unfold runSisterOut
  try dsimp only
  repeat' first
    | with_reducible assumption | exact Sub.of ‹_› rfl
    | (with_reducible first
        | apply State.legFrameOut_moves | apply State.returnBed_moves | apply State.snapFrameOut_moves)
    | split

theorem State.copyFailed_moves (h : Moves m s₀ s) (q : Sub 0x1801 m := by exact .of ‹_› rfl) :
    Moves m s₀ (State.copyFailed s) := by
  unfold State.copyFailed
  try dsimp only
  repeat' first
    | with_reducible assumption | exact Sub.of ‹_› rfl | (intro _)
    | (with_reducible first
        | apply Moves.ite | apply Moves.foldl | apply State.modLg_moves | apply State.modSi_moves
        | apply State.modWingSt_moves | apply State.tick_moves)

theorem execCopyAckTimeout_moves {a0} (h : Moves m s₀ s) (q : Sub 0x1801 m := by exact .of ‹_› rfl) :
    OutMoves m s₀ (execCopyAckTimeout a0 s) := by
  unfold execCopyAckTimeout
  try dsimp only
  repeat' first
    | (with_reducible first | apply OutMoves.next | assumption)
    | exact Sub.of ‹_› rfl | (intro _)
    | (with_reducible first
        | apply Moves.ite | apply OutMoves.ite | apply State.copyFailed_moves | apply State.modSi_moves)

theorem State.copyRefused_moves {a0 a1} (h : Moves m s₀ s) (q : Sub 0x201801 m := by exact .of ‹_› rfl) :
    Moves m s₀ (State.copyRefused a0 a1 s) := by
  unfold State.copyRefused
  try dsimp only
  repeat' first
    | with_reducible assumption | exact Sub.of ‹_› rfl | (intro _)
    | (with_reducible first | apply State.copyFailed_moves | apply State.modSi_moves | apply State.record_moves)

theorem State.otherClaim_moves {a0 a1} (h : Moves m s₀ s) (q : Sub 0x6010c1 m := by exact .of ‹_› rfl) :
    Moves m s₀ (State.otherClaim a0 a1 s) := by
  unfold State.otherClaim
  try dsimp only
  repeat' first
    | with_reducible assumption | exact Sub.of ‹_› rfl
    | (with_reducible first
        | apply Moves.ite | apply State.backOff_moves | apply State.sawClaim_moves | apply State.yieldDue_moves)

theorem State.frameClaims_moves {a0} (h : Moves m s₀ s) (q : Sub 0x6010c1 m := by exact .of ‹_› rfl) :
    Moves m s₀ (State.frameClaims a0 s) := by
  unfold State.frameClaims
  try dsimp only
  repeat' first | with_reducible assumption | exact Sub.of ‹_› rfl | with_reducible apply State.otherClaim_moves

theorem State.frameIn_moves {a0 a1 a2} (h : Moves m s₀ s) (q : Sub 0x6010c1 m := by exact .of ‹_› rfl) (k2 : ∀ x0 u, Moves m s₀ u → Moves m s₀ (a2 x0 u)) :
    Moves m s₀ (State.frameIn a0 a1 a2 s) := by
  unfold State.frameIn
  try dsimp only
  repeat' first
    | with_reducible assumption | exact Sub.of ‹_› rfl
    | (with_reducible first | apply Moves.ite | apply State.frameClaims_moves | apply State.tick_moves | apply k2)
    | split

theorem State.legAcked_moves {a0 a1} (h : Moves m s₀ s) (q : Sub 0x719ee1 m := by exact .of ‹_› rfl) :
    Moves m s₀ (State.legAcked a0 a1 s) := by
  unfold State.legAcked
  try dsimp only
  repeat' first
    | with_reducible assumption | exact Sub.of ‹_› rfl | (intro _)
    | (with_reducible first
        | apply Moves.ite | apply State.copyRefused_moves | apply State.itemsHeld_moves | apply State.modSi_moves
        | apply State.settle_moves | apply State.tick_moves)
    | split

theorem execLegPacketAck_moves {a0} (h : Moves m s₀ s) (q : Sub 0x719ee1 m := by exact .of ‹_› rfl) :
    OutMoves m s₀ (execLegPacketAck a0 s) := by
  unfold execLegPacketAck
  try dsimp only
  repeat' first
    | (with_reducible first | apply OutMoves.next | assumption)
    | exact Sub.of ‹_› rfl | (intro _)
    | (with_reducible first | apply State.frameIn_moves | apply State.legAcked_moves)

theorem execLegPacketNak_moves {a0} (h : Moves m s₀ s) (q : Sub 0x6018c1 m := by exact .of ‹_› rfl) :
    OutMoves m s₀ (execLegPacketNak a0 s) := by
  unfold execLegPacketNak
  try dsimp only
  repeat' first
    | (with_reducible first | apply OutMoves.next | assumption)
    | exact Sub.of ‹_› rfl | (intro _)
    | (with_reducible first
        | apply Moves.ite | apply OutMoves.ite | apply State.copyRefused_moves | apply State.frameIn_moves
        | apply State.tick_moves)

theorem State.openSisterRoom_moves (h : Moves m s₀ s) (q : Sub 0x802000 m := by exact .of ‹_› rfl) :
    Moves m s₀ (State.openSisterRoom s) := by
  unfold State.openSisterRoom
  try dsimp only
  repeat' first
    | with_reducible assumption | exact Sub.of ‹_› rfl | (intro _)
    | (with_reducible first | apply State.drawn_moves | apply State.modTr_moves)
    | split

theorem State.closeSisterRooms_moves (h : Moves m s₀ s) (q : Sub 0x2040 m := by exact .of ‹_› rfl) :
    Moves m s₀ (State.closeSisterRooms s) := by
  unfold State.closeSisterRooms
  try dsimp only
  repeat' first
    | with_reducible assumption | exact Sub.of ‹_› rfl | (intro _)
    | (with_reducible first | apply Moves.foldl | apply State.roomClosing_moves)

theorem State.sisterMsgs_moves {a0} (h : Moves m s₀ s) (q : Sub 0x2000 m := by exact .of ‹_› rfl) :
    Moves m s₀ (State.sisterMsgs a0 s) := by
  unfold State.sisterMsgs
  try dsimp only
  repeat' first
    | with_reducible assumption | exact Sub.of ‹_› rfl | (intro _)
    | (with_reducible first | apply Moves.ite | apply State.modTr_moves)

theorem State.nakLeg_moves {a0 a1} (h : Moves m s₀ s) (q : Sub 0x400001 m := by exact .of ‹_› rfl) :
    Moves m s₀ (State.nakLeg a0 a1 s) := by
  unfold State.nakLeg
  try dsimp only
  repeat' first
    | with_reducible assumption | exact Sub.of ‹_› rfl
    | (with_reducible first | apply State.sisterSend_moves | apply State.tick_moves)

theorem State.resyncAgain_moves (h : Moves m s₀ s) (q : Sub 0x403040 m := by exact .of ‹_› rfl) :
    Moves m s₀ (State.resyncAgain s) := by
  unfold State.resyncAgain
  try dsimp only
  repeat' first
    | with_reducible assumption | exact Sub.of ‹_› rfl | (intro _)
    | (with_reducible first | apply State.askResync_moves | apply State.dropJobs_moves | apply State.sisterMsgs_moves)

theorem State.refuseLeg_moves {a0 a1} (h : Moves m s₀ s) (q : Sub 0x603041 m := by exact .of ‹_› rfl) :
    Moves m s₀ (State.refuseLeg a0 a1 s) := by
  unfold State.refuseLeg
  try dsimp only
  repeat' first
    | with_reducible assumption | exact Sub.of ‹_› rfl
    | (with_reducible first | apply State.nakLeg_moves | apply State.record_moves | apply State.resyncAgain_moves)

theorem State.holdPacket_moves {a0} (h : Moves m s₀ s) (q : Sub 0x603041 m := by exact .of ‹_› rfl) :
    Moves m s₀ (State.holdPacket a0 s) := by
  unfold State.holdPacket
  try dsimp only
  repeat' first
    | with_reducible assumption | exact Sub.of ‹_› rfl | (intro _)
    | (with_reducible first
        | apply Moves.ite | apply Moves.foldl | apply State.modSi_moves | apply State.refuseLeg_moves
        | apply State.sisterSend_moves)

theorem State.loadSnapshot_moves {a0} (h : Moves m s₀ s) (q : Sub 0x603041 m := by exact .of ‹_› rfl) :
    Moves m s₀ (State.loadSnapshot a0 s) := by
  unfold State.loadSnapshot
  try dsimp only
  repeat' first
    | with_reducible assumption | exact Sub.of ‹_› rfl | (intro _)
    | (with_reducible first
        | apply Moves.ite | apply Moves.foldl | apply State.holdPacket_moves | apply State.modSi_moves
        | apply State.record_moves | apply State.resyncAgain_moves | apply State.sisterSend_moves)

theorem State.packetShadowed_moves {a0} (h : Moves m s₀ s) (q : Sub 0x603041 m := by exact .of ‹_› rfl) :
    Moves m s₀ (State.packetShadowed a0 s) := by
  unfold State.packetShadowed
  try dsimp only
  repeat' first
    | with_reducible assumption | exact Sub.of ‹_› rfl | (intro _)
    | (with_reducible first
        | apply Moves.ite | apply State.holdPacket_moves | apply State.loadSnapshot_moves | apply State.modSi_moves)

theorem State.shadowFrameIn_moves (h : Moves m s₀ s) (q : Sub 0x603041 m := by exact .of ‹_› rfl) :
    Moves m s₀ (State.shadowFrameIn s) := by
  unfold State.shadowFrameIn
  try dsimp only
  repeat' first
    | with_reducible assumption | exact Sub.of ‹_› rfl | (intro _)
    | (with_reducible first
        | apply Moves.ite | apply State.modSi_moves | apply State.packetShadowed_moves
        | apply State.sisterMsgs_moves)
    | split

theorem runSisterIn_moves {a0 a1 a2} (h : Moves m s₀ s) (q : Sub 0x60b041 m := by exact .of ‹_› rfl) :
    Moves m s₀ (runSisterIn a0 a1 a2 s) := by
  unfold runSisterIn
  try dsimp only
  repeat' first
    | with_reducible assumption | exact Sub.of ‹_› rfl
    | (with_reducible first | apply State.returnBed_moves | apply State.shadowFrameIn_moves)
    | split

theorem State.packetWaits_moves {a0} (h : Moves m s₀ s) (q : Sub 0x3041 m := by exact .of ‹_› rfl) :
    Moves m s₀ (State.packetWaits a0 s) := by
  unfold State.packetWaits
  try dsimp only
  repeat' first
    | with_reducible assumption | exact Sub.of ‹_› rfl | (intro _)
    | (with_reducible first
        | apply Moves.ite | apply Moves.foldl | apply State.modSi_moves | apply State.push_moves
        | apply State.sisterMsgs_moves | apply State.tick_moves)
    | dsimp only | split

theorem State.headHeard_moves {a0 a1} (h : Moves m s₀ s) (q : Sub 0x6010c1 m := by exact .of ‹_› rfl) :
    Moves m s₀ (State.headHeard a0 a1 s) := by
  unfold State.headHeard
  try dsimp only
  repeat' first
    | with_reducible assumption | exact Sub.of ‹_› rfl | (intro _)
    | (with_reducible first
        | apply State.frameClaims_moves | apply State.modSi_moves)

theorem State.rxPacket_moves {a0} (h : Moves m s₀ s) (q : Sub 0x6030c1 m := by exact .of ‹_› rfl) :
    Moves m s₀ (State.rxPacket a0 s) := by
  unfold State.rxPacket
  try dsimp only
  repeat' first
    | with_reducible assumption | exact Sub.of ‹_› rfl | (intro _)
    | (with_reducible first
        | apply Moves.ite | apply State.count_moves | apply State.headHeard_moves | apply State.modSi_moves
        | apply State.nakLeg_moves | apply State.packetWaits_moves | apply State.refuseLeg_moves)
    | split

theorem execLegPacketRx_moves {a0} (h : Moves m s₀ s) (q : Sub 0x6030c1 m := by exact .of ‹_› rfl) :
    OutMoves m s₀ (execLegPacketRx a0 s) := by
  unfold execLegPacketRx
  try dsimp only
  repeat' first
    | (with_reducible first | apply OutMoves.next | assumption)
    | exact Sub.of ‹_› rfl
    | (with_reducible first | apply Moves.ite | apply OutMoves.ite | apply State.rxPacket_moves)

theorem execResyncReq_moves {a0} (h : Moves m s₀ s) (q : Sub 0x6010c1 m := by exact .of ‹_› rfl) :
    OutMoves m s₀ (execResyncReq a0 s) := by
  unfold execResyncReq
  try dsimp only
  repeat' first
    | (with_reducible first | apply OutMoves.next | assumption)
    | exact Sub.of ‹_› rfl | (intro _)
    | (with_reducible first
        | apply Moves.ite | apply OutMoves.ite | apply State.frameIn_moves | apply State.modSi_moves)

theorem State.takeSnapshot_moves (h : Moves m s₀ s) (q : Sub 0x1040 m := by exact .of ‹_› rfl) :
    Moves m s₀ (State.takeSnapshot s) := by
  unfold State.takeSnapshot
  try dsimp only
  repeat' first
    | with_reducible assumption | exact Sub.of ‹_› rfl | (intro _)
    | (with_reducible first
        | apply Moves.ite | apply Moves.foldl | apply State.dropJobs_moves | apply State.modSi_moves
        | apply State.push_moves)

theorem State.resynced_moves {a0} (h : Moves m s₀ s) (q : Sub 0x201001 m := by exact .of ‹_› rfl) :
    Moves m s₀ (State.resynced a0 s) := by
  unfold State.resynced
  try dsimp only
  repeat' first
    | with_reducible assumption | exact Sub.of ‹_› rfl | (intro _)
    | (with_reducible first | apply Moves.ite | apply State.modSi_moves | apply State.record_moves)

theorem execResyncDone_moves {a0} (h : Moves m s₀ s) (q : Sub 0x6010c1 m := by exact .of ‹_› rfl) :
    OutMoves m s₀ (execResyncDone a0 s) := by
  unfold execResyncDone
  try dsimp only
  repeat' first
    | (with_reducible first | apply OutMoves.next | assumption)
    | exact Sub.of ‹_› rfl | (intro _)
    | (with_reducible first
        | apply Moves.ite | apply OutMoves.ite | apply State.frameIn_moves | apply State.resynced_moves)

theorem State.linkAgainLeg_moves (h : Moves m s₀ s) (q : Sub 0x201001 m := by exact .of ‹_› rfl) :
    Moves m s₀ (State.linkAgainLeg s) := by
  unfold State.linkAgainLeg
  try dsimp only
  repeat' first
    | with_reducible assumption | exact Sub.of ‹_› rfl | (intro _)
    | (with_reducible first
        | apply Moves.ite | apply Moves.foldl | apply State.modSi_moves | apply State.modWingSt_moves
        | apply State.record_moves)

theorem execSiHandback_moves {a0 a1} (h : Moves m s₀ s) (q : Sub 0x1005 m := by exact .of ‹_› rfl) :
    OutMoves m s₀ (execSiHandback a0 a1 s) := by
  unfold execSiHandback
  try dsimp only
  repeat' first
    | (with_reducible first | apply OutMoves.next | assumption)
    | exact Sub.of ‹_› rfl | (intro _)
    | (with_reducible first
        | apply Moves.ite | apply OutMoves.ite | apply State.action_moves | apply State.endRun_moves
        | apply State.modWingSt_moves)

theorem State.handbackLeg_moves {a0} (h : Moves m s₀ s) (q : Sub 0xc05041 m := by exact .of ‹_› rfl) :
    Moves m s₀ (State.handbackLeg a0 s) := by
  unfold State.handbackLeg
  try dsimp only
  repeat' first
    | with_reducible assumption | exact Sub.of ‹_› rfl | (intro _)
    | (with_reducible first
        | apply Moves.ite | apply State.modWingSt_moves | apply State.sendLantern_moves | apply State.setAna_moves
        | apply State.sisterSend_moves)

theorem State.handedBack_moves {a0 a1 a2} (h : Moves m s₀ s) (q : Sub 0xc05001 m := by exact .of ‹_› rfl) :
    Moves m s₀ (State.handedBack a0 a1 a2 s) := by
  unfold State.handedBack
  try dsimp only
  repeat' first
    | with_reducible assumption | exact Sub.of ‹_› rfl | (intro _)
    | (with_reducible first
        | apply Moves.ite | apply State.modSi_moves | apply State.modWingSt_moves | apply State.requestWing_moves
        | apply State.sawClaim_moves)

theorem execHandback_moves {a0} (h : Moves m s₀ s) (q : Sub 0xe050c1 m := by exact .of ‹_› rfl) :
    OutMoves m s₀ (execHandback a0 s) := by
  unfold execHandback
  try dsimp only
  repeat' first
    | (with_reducible first | apply OutMoves.next | assumption)
    | exact Sub.of ‹_› rfl | (intro _)
    | (with_reducible first | apply State.frameIn_moves | apply State.handedBack_moves)

theorem execHandbackTimeout_moves {a0} (h : Moves m s₀ s) (q : Sub 0x1044 m := by exact .of ‹_› rfl) :
    OutMoves m s₀ (execHandbackTimeout a0 s) := by
  unfold execHandbackTimeout
  try dsimp only
  repeat' first
    | (with_reducible first | apply OutMoves.next | assumption)
    | exact Sub.of ‹_› rfl | (intro _)
    | (with_reducible first
        | apply Moves.ite | apply OutMoves.ite | apply State.endRun_moves | apply State.modWingSt_moves
        | apply State.setAna_moves)

theorem State.sisterLeg_moves (h : Moves m s₀ s) (q : Sub 0xc05841 m := by exact .of ‹_› rfl) :
    Moves m s₀ (State.sisterLeg s) := by
  unfold State.sisterLeg
  try dsimp only
  repeat' first
    | with_reducible assumption | exact Sub.of ‹_› rfl | (intro _)
    | (with_reducible first
        | apply Moves.ite | apply State.handbackLeg_moves | apply State.makePacket_moves | apply State.modSi_moves)

theorem State.sisterLegEnd_moves (h : Moves m s₀ s) (q : Sub 0x201041 m := by exact .of ‹_› rfl) :
    Moves m s₀ (State.sisterLegEnd s) := by
  unfold State.sisterLegEnd
  try dsimp only
  repeat' first
    | with_reducible assumption | exact Sub.of ‹_› rfl
    | (with_reducible first | apply State.linkAgainLeg_moves | apply State.takeSnapshot_moves)

theorem execLinkDown_moves {a0} (h : Moves m s₀ s) (q : Sub 0x71eae1 m := by exact .of ‹_› rfl) :
    OutMoves m s₀ (execLinkDown a0 s) := by
  unfold execLinkDown
  try dsimp only
  repeat' first
    | (with_reducible first | apply OutMoves.next | assumption)
    | exact Sub.of ‹_› rfl
    | (with_reducible first
        | apply Moves.ite | apply OutMoves.ite | apply State.closeSisterRooms_moves | apply State.linkDown_moves)

theorem State.sisterLinkUp_moves (h : Moves m s₀ s) (q : Sub 0xe07041 m := by exact .of ‹_› rfl) :
    Moves m s₀ (State.sisterLinkUp s) := by
  unfold State.sisterLinkUp
  try dsimp only
  repeat' first
    | with_reducible assumption | exact Sub.of ‹_› rfl
    | (with_reducible first
        | apply Moves.ite | apply State.linkUp_moves | apply State.openSisterRoom_moves
        | apply State.resyncAgain_moves)

theorem execLinkUp_moves {a0} (h : Moves m s₀ s) (q : Sub 0xe07041 m := by exact .of ‹_› rfl) :
    OutMoves m s₀ (execLinkUp a0 s) := by
  unfold execLinkUp
  try dsimp only
  repeat' first
    | (with_reducible first | apply OutMoves.next | assumption)
    | exact Sub.of ‹_› rfl
    | (with_reducible first
        | apply Moves.ite | apply OutMoves.ite | apply State.linkUp_moves | apply State.sisterLinkUp_moves)

/-! ### Machine/Resets.lean -/

theorem State.writesInForce_moves (h : Moves m s₀ s) (q : Sub 0x80003 m := by exact .of ‹_› rfl) :
    Moves m s₀ (State.writesInForce s) := by
  unfold State.writesInForce
  try dsimp only
  repeat' first
    | with_reducible assumption | exact Sub.of ‹_› rfl | exact Nat.le_max_left _ _
    | exact (List.length_filter_le _ _).trans (Nat.le_max_left _ _) | exact Nat.zero_le _
    | exact (List.length_map _).le.trans (Nat.le_max_left _ _)
    | exact (modFirst_length _ _ _).le.trans (Nat.le_max_left _ _) | (intro _)
    | (with_reducible first
        | apply State.modObjs_put | apply State.modObjs_filter | apply Moves.foldl | apply State.modBlobs_moves
        | apply State.modDict_moves)

theorem State.clearVolatile_moves {a0} (h : Moves m s₀ s) (q : Sub 0x7 m := by exact .of ‹_› rfl) :
    Moves m s₀ (State.clearVolatile a0 s) := by
  unfold State.clearVolatile
  try dsimp only
  repeat' first
    | with_reducible assumption | exact Sub.of ‹_› rfl | (intro _)
    | (with_reducible first
        | apply State.modObjs_put | apply State.modObjs_filter | apply State.modBlobs_moves
        | apply State.modResults_moves)

theorem State.tallySave_moves (h : Moves m s₀ s) (q : Sub 0x20001 m := by exact .of ‹_› rfl) :
    Moves m s₀ (State.tallySave s) := by
  unfold State.tallySave
  try dsimp only
  repeat' first
    | with_reducible assumption | exact Sub.of ‹_› rfl
    | (with_reducible first
        | exact fun a b => ⟨a, b⟩ | exact fun a _ => absurd a Bool.false_ne_true
        | exact fun _ b => absurd b Bool.false_ne_true)
    | (intro _)
    | (with_reducible first | apply Moves.foldl | apply State.count_moves | apply State.modGh_moves)

theorem State.saveTime_moves (h : Moves m s₀ s) (q : Sub 0x20000 m := by exact .of ‹_› rfl) :
    Moves m s₀ (State.saveTime s) := by
  unfold State.saveTime
  try dsimp only
  repeat' first
    | with_reducible assumption | exact Sub.of ‹_› rfl
    | (with_reducible first
        | exact fun a b => ⟨a, b⟩ | exact fun a _ => absurd a Bool.false_ne_true
        | exact fun _ b => absurd b Bool.false_ne_true)
    | (intro _) | with_reducible apply State.modGh_moves

theorem execTallySave_moves (h : Moves m s₀ s) (q : Sub 0x20001 m := by exact .of ‹_› rfl) :
    OutMoves m s₀ (execTallySave s) := by
  unfold execTallySave
  try dsimp only
  repeat' first
    | (with_reducible first | apply OutMoves.next | assumption)
    | exact Sub.of ‹_› rfl
    | (with_reducible first | apply Moves.ite | apply OutMoves.ite | apply State.tallySave_moves)

theorem execShelfTimeSave_moves (h : Moves m s₀ s) (q : Sub 0x20000 m := by exact .of ‹_› rfl) :
    OutMoves m s₀ (execShelfTimeSave s) := by
  unfold execShelfTimeSave
  try dsimp only
  repeat' first
    | (with_reducible first | apply OutMoves.next | assumption)
    | exact Sub.of ‹_› rfl
    | (with_reducible first | apply Moves.ite | apply OutMoves.ite | apply State.saveTime_moves)

theorem State.assocsEnd_moves (h : Moves m s₀ s) (q : Sub 0x200001 m := by exact .of ‹_› rfl) :
    Moves m s₀ (State.assocsEnd s) := by
  unfold State.assocsEnd
  try dsimp only
  repeat' first
    | with_reducible assumption | exact Sub.of ‹_› rfl | (intro _)
    | (with_reducible first | apply Moves.foldl | apply State.record_moves)

theorem State.mainReset_moves (h : Moves m s₀ s) (q : Sub 0x3dffff m := by exact .of ‹_› rfl) : Moves m s₀ (State.mainReset s) := by
  have k : Moves m s₀ (s.assocsEnd.writesInForce.clearVolatile false) :=
    State.clearVolatile_moves (State.writesInForce_moves (State.assocsEnd_moves h))
  exact { k with
    frame := fun p e => by
      have f := q.out e
      cases p <;> first | exact k.frame _ e | exact absurd f (by decide)
    sessions := (List.length_filter_le _ _).trans k.sessions
    tags := fun _ => TagsOk.nil
    places := fun _ => rfl }

theorem State.railsAgain_moves (h : Moves m s₀ s) (q : Sub 0x20000 m := by exact .of ‹_› rfl) :
    Moves m s₀ (State.railsAgain s) := by
  unfold State.railsAgain
  try dsimp only
  repeat' first
    | with_reducible assumption | exact Sub.of ‹_› rfl
    | (with_reducible first
        | exact fun a b => ⟨a, b⟩ | exact fun a _ => absurd a Bool.false_ne_true
        | exact fun _ b => absurd b Bool.false_ne_true)
    | (intro _)
    | (with_reducible first | apply Moves.ite | apply State.modGh_moves)

theorem State.refclksStart_moves (h : Moves m s₀ s) (q : Sub 0x80 m := by exact .of ‹_› rfl) :
    Moves m s₀ (State.refclksStart s) := by
  unfold State.refclksStart
  try dsimp only
  repeat' first
    | with_reducible assumption | exact Sub.of ‹_› rfl | (intro _) | with_reducible apply State.modDrives_moves

theorem State.warmReset_moves {a0} (h : Moves m s₀ s) (q : Sub 0x3fffff m := by exact .of ‹_› rfl) :
    Moves m s₀ (State.warmReset a0 s) := by
  unfold State.warmReset
  try dsimp only
  repeat' first
    | with_reducible assumption | exact Sub.of ‹_› rfl | (intro _)
    | (with_reducible first
        | apply Moves.ite | apply State.mainReset_moves | apply State.modMd_moves | apply State.railsAgain_moves
        | apply State.record_moves | apply State.refclksStart_moves | apply State.setMode_moves
        | apply State.tick_moves)

theorem State.boardOff_moves (h : Moves m s₀ s) (q : Sub 0x20000 m := by exact .of ‹_› rfl) :
    Moves m s₀ (State.boardOff s) := by
  unfold State.boardOff
  try dsimp only
  repeat' first
    | with_reducible assumption | exact Sub.of ‹_› rfl
    | (with_reducible first
        | exact fun a b => ⟨a, b⟩ | exact fun a _ => absurd a Bool.false_ne_true
        | exact fun _ b => absurd b Bool.false_ne_true)
    | (intro _)
    | (with_reducible first | apply Moves.ite | apply State.modGh_moves)

theorem State.railsDrop_moves (h : Moves m s₀ s) (q : Sub 0x20000 m := by exact .of ‹_› rfl) :
    Moves m s₀ (State.railsDrop s) := by
  unfold State.railsDrop
  try dsimp only
  repeat' first
    | with_reducible assumption | exact Sub.of ‹_› rfl
    | (with_reducible first
        | exact fun a b => ⟨a, b⟩ | exact fun a _ => absurd a Bool.false_ne_true
        | exact fun _ b => absurd b Bool.false_ne_true)
    | (intro _)
    | (with_reducible first | apply Moves.ite | apply State.modGh_moves)

theorem State.baysHeld_moves (h : Moves m s₀ s) (q : Sub 0x20000 m := by exact .of ‹_› rfl) :
    Moves m s₀ (State.baysHeld s) := by
  unfold State.baysHeld
  try dsimp only
  repeat' first
    | with_reducible assumption | exact Sub.of ‹_› rfl
    | (with_reducible first
        | exact fun a b => ⟨a, b⟩ | exact fun a _ => absurd a Bool.false_ne_true
        | exact fun _ b => absurd b Bool.false_ne_true)
    | (intro _)
    | (with_reducible first | apply Moves.ite | apply State.modGh_moves)

theorem State.enterVigil_moves {a0 a1} (h : Moves m s₀ s) (q : Sub 0x3fffff m := by exact .of ‹_› rfl) :
    Moves m s₀ (State.enterVigil a0 a1 s) := by
  unfold State.enterVigil
  try dsimp only
  repeat' first
    | with_reducible assumption | exact Sub.of ‹_› rfl
    | (with_reducible first
        | exact fun a b => ⟨a, b⟩ | exact fun a _ => absurd a Bool.false_ne_true
        | exact fun _ b => absurd b Bool.false_ne_true)
    | exact BookMoves.refl | exact BookMoves.reset | exact .clear .refl | exact .buckets _ .refl | (intro _)
    | (with_reducible first
        | apply Moves.ite | apply State.baysHeld_moves | apply State.boardOff_moves | apply State.mainReset_moves
        | apply State.modBook_moves | apply State.modClk_moves | apply State.modGh_moves | apply State.modMd_moves
        | apply State.modSi_moves | apply State.railsDrop_moves | apply State.reloadStores_moves
        | apply State.saveTime_moves | apply State.setMode_moves | apply State.tallySave_moves)

/-! ### Machine/Holdup.lean -/

theorem State.stageStart_moves (h : Moves m s₀ s) (q : Sub 0x20000 m := by exact .of ‹_› rfl) :
    Moves m s₀ (State.stageStart s) := by
  unfold State.stageStart
  try dsimp only
  repeat' first
    | with_reducible assumption | exact Sub.of ‹_› rfl
    | (with_reducible first
        | exact fun a b => ⟨a, b⟩ | exact fun a _ => absurd a Bool.false_ne_true
        | exact fun _ b => absurd b Bool.false_ne_true)
    | (intro _)
    | (with_reducible first | apply Moves.ite | apply State.modGh_moves)

theorem State.bleedResidue_moves (h : Moves m s₀ s) (q : Sub 0x20000 m := by exact .of ‹_› rfl) :
    Moves m s₀ (State.bleedResidue s) := by
  unfold State.bleedResidue
  try dsimp only
  repeat' first
    | with_reducible assumption | exact Sub.of ‹_› rfl
    | (with_reducible first
        | exact fun a b => ⟨a, b⟩ | exact fun a _ => absurd a Bool.false_ne_true
        | exact fun _ b => absurd b Bool.false_ne_true)
    | (intro _) | with_reducible apply State.modGh_moves

theorem State.vaultWear_moves (h : Moves m s₀ s) (q : Sub 0xa00001 m := by exact .of ‹_› rfl) :
    Moves m s₀ (State.vaultWear s) := by
  unfold State.vaultWear
  try dsimp only
  repeat' first
    | with_reducible assumption | exact Sub.of ‹_› rfl
    | (with_reducible first
        | apply Moves.ite | apply State.drawn_moves | apply State.put_moves | apply State.record_moves)

theorem State.goDark_moves (h : Moves m s₀ s) (q : Sub 0x71eae1 m := by exact .of ‹_› rfl) :
    Moves m s₀ (State.goDark s) := by
  unfold State.goDark
  try dsimp only
  repeat' first
    | with_reducible assumption | exact Sub.of ‹_› rfl | (intro _)
    | (with_reducible first
        | apply Moves.ite | apply Moves.foldl | apply State.linkDown_moves | apply State.modDrives_moves)

theorem State.enterHoldup_moves (h : Moves m s₀ s) (q : Sub 0x77eaf1 m := by exact .of ‹_› rfl) :
    Moves m s₀ (State.enterHoldup s) := by
  unfold State.enterHoldup
  try dsimp only
  repeat' first
    | with_reducible assumption | exact Sub.of ‹_› rfl | exact BookMoves.refl | exact BookMoves.reset
    | exact .clear .refl | exact .buckets _ .refl | (intro _)
    | (with_reducible first
        | apply Moves.ite | apply State.goDark_moves | apply State.modBook_moves | apply State.modLg_moves
        | apply State.modTt_moves | apply State.record_moves | apply State.setMode_moves
        | apply State.stageStart_moves | apply State.tick_moves)

theorem State.flushBegin_moves (h : Moves m s₀ s) (q : Sub 0x860 m := by exact .of ‹_› rfl) :
    Moves m s₀ (State.flushBegin s) := by
  unfold State.flushBegin
  try dsimp only
  repeat' first
    | with_reducible assumption | exact Sub.of ‹_› rfl | (intro _)
    | (with_reducible first
        | apply Moves.ite | apply State.modAdm_moves | apply State.modCe_moves | apply State.modLg_moves
        | apply State.push_moves)
    | split

theorem State.flushWritten_moves {a0} (h : Moves m s₀ s) (q : Sub 0xa00841 m := by exact .of ‹_› rfl) :
    Moves m s₀ (State.flushWritten a0 s) := by
  unfold State.flushWritten
  try dsimp only
  repeat' first
    | with_reducible assumption | exact Sub.of ‹_› rfl | (intro _)
    | (with_reducible first
        | apply Moves.ite | apply State.count_moves | apply State.dropJobs_moves | apply State.modLg_moves
        | apply State.vaultWear_moves)
    | split

theorem State.flushCut_moves (h : Moves m s₀ s) (q : Sub 0xa00841 m := by exact .of ‹_› rfl) :
    Moves m s₀ (State.flushCut s) := by
  unfold State.flushCut
  try dsimp only
  repeat' first
    | with_reducible assumption | exact Sub.of ‹_› rfl
    | (with_reducible first | apply Moves.ite | apply State.flushWritten_moves | apply State.tick_moves)
    | split

theorem State.stageStop_moves (h : Moves m s₀ s) (q : Sub 0x3fffff m := by exact .of ‹_› rfl) :
    Moves m s₀ (State.stageStop s) := by
  unfold State.stageStop
  try dsimp only
  repeat' first
    | with_reducible assumption | exact Sub.of ‹_› rfl
    | (with_reducible first
        | exact fun a b => ⟨a, b⟩ | exact fun a _ => absurd a Bool.false_ne_true
        | exact fun _ b => absurd b Bool.false_ne_true)
    | (intro _)
    | (with_reducible first
        | apply Moves.ite | apply State.bleedResidue_moves | apply State.modGh_moves | apply State.warmReset_moves)

theorem execPfTrip_moves {a0} (h : Moves m s₀ s) (q : Sub 0x7fffff m := by exact .of ‹_› rfl) :
    OutMoves m s₀ (execPfTrip a0 s) := by
  unfold execPfTrip
  try dsimp only
  repeat' first
    | (with_reducible first | apply OutMoves.next | assumption)
    | exact Sub.of ‹_› rfl | (intro _)
    | (with_reducible first
        | apply Moves.ite | apply OutMoves.ite | apply State.bleedResidue_moves | apply State.enterHoldup_moves
        | apply State.enterVigil_moves)
    | split

theorem execFlushEndPage_moves {a0} (h : Moves m s₀ s) (q : Sub 0xffffff m := by exact .of ‹_› rfl) :
    OutMoves m s₀ (execFlushEndPage a0 s) := by
  unfold execFlushEndPage
  try dsimp only
  repeat' first
    | (with_reducible first | apply OutMoves.next | assumption)
    | exact Sub.of ‹_› rfl | (intro _)
    | (with_reducible first
        | apply Moves.ite | apply OutMoves.ite | apply State.flushWritten_moves | apply State.modLg_moves
        | apply State.put_moves | apply State.record_moves | apply State.stageStop_moves
        | apply State.vaultWrite_moves)
    | split

theorem execBankFloorReached_moves (h : Moves m s₀ s) (q : Sub 0xbfffff m := by exact .of ‹_› rfl) :
    OutMoves m s₀ (execBankFloorReached s) := by
  unfold execBankFloorReached
  try dsimp only
  repeat' first
    | (with_reducible first | apply OutMoves.next | assumption)
    | exact Sub.of ‹_› rfl
    | (with_reducible first
        | apply Moves.ite | apply OutMoves.ite | apply State.flushCut_moves | apply State.stageStop_moves)

/-! ### Machine/Gatehouse.lean -/

theorem State.modSwitch_moves {a0 a1} (h : Moves m s₀ s) (q : Sub 0x20000 m := by exact .of ‹_› rfl) : Moves m s₀ (State.modSwitch a0 a1 s) := by
  unfold State.modSwitch
  refine .ite (State.modGh_moves _ h fun a b => ?_) (State.modGh_moves _ h fun a b => ⟨a, b⟩)
  have c : s.gh.huDrv = true := b
  have d : ((a1 s.gh.board).on && !s.gh.huDrv) = true := a
  simp [c] at d

theorem State.perstLow_moves {a0} (h : Moves m s₀ s) (q : Sub 0x80 m := by exact .of ‹_› rfl) :
    Moves m s₀ (State.perstLow a0 s) := by
  unfold State.perstLow
  try dsimp only
  repeat' first
    | with_reducible assumption | exact Sub.of ‹_› rfl | (intro _)
    | (with_reducible first | apply Moves.ite | apply State.modDrive_moves)

theorem State.switchOff_moves {a0} (h : Moves m s₀ s) (q : Sub 0x20080 m := by exact .of ‹_› rfl) :
    Moves m s₀ (State.switchOff a0 s) := by
  unfold State.switchOff
  try dsimp only
  repeat' first
    | with_reducible assumption | exact Sub.of ‹_› rfl
    | (with_reducible first | apply State.modSwitch_moves | apply State.perstLow_moves)

theorem State.switchOn_moves {a0} (h : Moves m s₀ s) (q : Sub 0x20000 m := by exact .of ‹_› rfl) :
    Moves m s₀ (State.switchOn a0 s) := by
  unfold State.switchOn
  try dsimp only
  repeat' first
    | with_reducible assumption | exact Sub.of ‹_› rfl
    | (with_reducible first | apply Moves.ite | apply State.modSwitch_moves)

theorem State.trip_moves {a0 a1} (h : Moves m s₀ s) (q : Sub 0x220081 m := by exact .of ‹_› rfl) :
    Moves m s₀ (State.trip a0 a1 s) := by
  unfold State.trip
  try dsimp only
  repeat' first
    | with_reducible assumption | exact Sub.of ‹_› rfl
    | (with_reducible first
        | apply Moves.ite | apply State.modSwitch_moves | apply State.perstLow_moves | apply State.record_moves
        | apply State.tick_moves)

theorem State.tripSwitch_moves {a0 a1} (h : Moves m s₀ s) (q : Sub 0x3fffff m := by exact .of ‹_› rfl) :
    Moves m s₀ (State.tripSwitch a0 a1 s) := by
  unfold State.tripSwitch
  try dsimp only
  repeat' first
    | with_reducible assumption | exact Sub.of ‹_› rfl
    | (with_reducible first | apply Moves.ite | apply State.enterVigil_moves | apply State.trip_moves)

theorem execFaultTimerExpiry_moves {a0} (h : Moves m s₀ s) (q : Sub 0x3fffff m := by exact .of ‹_› rfl) :
    OutMoves m s₀ (execFaultTimerExpiry a0 s) := by
  unfold execFaultTimerExpiry
  try dsimp only
  repeat' first
    | (with_reducible first | apply OutMoves.next | assumption)
    | exact Sub.of ‹_› rfl
    | (with_reducible first | apply Moves.ite | apply OutMoves.ite | apply State.tripSwitch_moves)

theorem execPgTimeout_moves {a0} (h : Moves m s₀ s) (q : Sub 0x3fffff m := by exact .of ‹_› rfl) :
    OutMoves m s₀ (execPgTimeout a0 s) := by
  unfold execPgTimeout
  try dsimp only
  repeat' first
    | (with_reducible first | apply OutMoves.next | assumption)
    | exact Sub.of ‹_› rfl
    | (with_reducible first | apply Moves.ite | apply OutMoves.ite | apply State.tripSwitch_moves)

theorem execAccumulatorClear_moves {a0} (h : Moves m s₀ s) (q : Sub 0x20000 m := by exact .of ‹_› rfl) :
    OutMoves m s₀ (execAccumulatorClear a0 s) := by
  unfold execAccumulatorClear
  try dsimp only
  repeat' first
    | (with_reducible first | apply OutMoves.next | assumption)
    | exact Sub.of ‹_› rfl
    | (with_reducible first | apply Moves.ite | apply OutMoves.ite | apply State.modSwitch_moves)

theorem State.bayCleared_moves {a0 a1} (h : Moves m s₀ s) (q : Sub 0x200001 m := by exact .of ‹_› rfl) :
    Moves m s₀ (State.bayCleared a0 a1 s) := by
  unfold State.bayCleared
  try dsimp only
  repeat' first
    | with_reducible assumption | exact Sub.of ‹_› rfl
    | (with_reducible first | apply Moves.ite | apply State.record_moves)

theorem execTripCountClear_moves {a0} (h : Moves m s₀ s) (q : Sub 0x220001 m := by exact .of ‹_› rfl) :
    OutMoves m s₀ (execTripCountClear a0 s) := by
  unfold execTripCountClear
  try dsimp only
  repeat' first
    | (with_reducible first | apply OutMoves.next | assumption)
    | exact Sub.of ‹_› rfl
    | (with_reducible first
        | apply Moves.ite | apply OutMoves.ite | apply State.bayCleared_moves | apply State.modSwitch_moves)

theorem State.bayNext_moves (h : Moves m s₀ s) (q : Sub 0x20000 m := by exact .of ‹_› rfl) :
    Moves m s₀ (State.bayNext s) := by
  unfold State.bayNext
  try dsimp only
  repeat' first
    | with_reducible assumption | exact Sub.of ‹_› rfl
    | (with_reducible first
        | exact fun a b => ⟨a, b⟩ | exact fun a _ => absurd a Bool.false_ne_true
        | exact fun _ b => absurd b Bool.false_ne_true)
    | (intro _)
    | (with_reducible first | apply Moves.ite | apply State.modGh_moves | apply State.switchOn_moves)
    | split

theorem execBayStagger_moves (h : Moves m s₀ s) (q : Sub 0x20000 m := by exact .of ‹_› rfl) :
    OutMoves m s₀ (execBayStagger s) := by
  unfold execBayStagger
  try dsimp only
  repeat' first
    | (with_reducible first | apply OutMoves.next | assumption)
    | exact Sub.of ‹_› rfl
    | (with_reducible first | apply Moves.ite | apply OutMoves.ite | apply State.bayNext_moves)

theorem execOffTimeEnd_moves {a0} (h : Moves m s₀ s) (q : Sub 0x20000 m := by exact .of ‹_› rfl) :
    OutMoves m s₀ (execOffTimeEnd a0 s) := by
  unfold execOffTimeEnd
  try dsimp only
  repeat' first
    | (with_reducible first | apply OutMoves.next | assumption)
    | exact Sub.of ‹_› rfl
    | (with_reducible first
        | apply Moves.ite | apply OutMoves.ite | apply State.bayNext_moves | apply State.switchOn_moves)

theorem execPresenceDebounced_moves {a0} (h : Moves m s₀ s) (q : Sub 0x20001 m := by exact .of ‹_› rfl) :
    OutMoves m s₀ (execPresenceDebounced a0 s) := by
  unfold execPresenceDebounced
  try dsimp only
  repeat' first
    | (with_reducible first | apply OutMoves.next | assumption)
    | exact Sub.of ‹_› rfl
    | (with_reducible first
        | exact fun a b => ⟨a, b⟩ | exact fun a _ => absurd a Bool.false_ne_true
        | exact fun _ b => absurd b Bool.false_ne_true)
    | (intro _)
    | (with_reducible first
        | apply Moves.ite | apply OutMoves.ite | apply State.bayNext_moves | apply State.modGh_moves
        | apply State.tick_moves)

theorem execCarrierRemoval_moves {a0} (h : Moves m s₀ s) (q : Sub 0xf3bff3 m := by exact .of ‹_› rfl) :
    OutMoves m s₀ (execCarrierRemoval a0 s) := by
  unfold execCarrierRemoval
  try dsimp only
  repeat' first
    | (with_reducible first | apply OutMoves.next | assumption)
    | exact Sub.of ‹_› rfl
    | (with_reducible first
        | exact fun a b => ⟨a, b⟩ | exact fun a _ => absurd a Bool.false_ne_true
        | exact fun _ b => absurd b Bool.false_ne_true)
    | (intro _)
    | (with_reducible first
        | apply Moves.ite | apply OutMoves.ite | apply State.contain_moves | apply State.modGh_moves
        | apply State.switchOff_moves)

theorem execBayEmptyClear_moves {a0} (h : Moves m s₀ s) (q : Sub 0x220001 m := by exact .of ‹_› rfl) :
    OutMoves m s₀ (execBayEmptyClear a0 s) := by
  unfold execBayEmptyClear
  try dsimp only
  repeat' first
    | (with_reducible first | apply OutMoves.next | assumption)
    | exact Sub.of ‹_› rfl
    | (with_reducible first
        | apply Moves.ite | apply OutMoves.ite | apply State.bayCleared_moves | apply State.modSwitch_moves)

theorem execGhBayEnableWrite_moves {a0 a1 a2} (h : Moves m s₀ s) (q : Sub 0x20081 m := by exact .of ‹_› rfl) :
    OutMoves m s₀ (execGhBayEnableWrite a0 a1 a2 s) := by
  unfold execGhBayEnableWrite
  try dsimp only
  repeat' first
    | (with_reducible first | apply OutMoves.next | assumption)
    | exact Sub.of ‹_› rfl | (intro _)
    | (with_reducible first
        | apply Moves.ite | apply OutMoves.ite | apply State.bayNext_moves | apply State.guarded_moves
        | apply State.put_moves | apply State.switchOff_moves)

theorem execGhBoardUnlatch_moves {a0 a1} (h : Moves m s₀ s) (q : Sub 0x20005 m := by exact .of ‹_› rfl) :
    OutMoves m s₀ (execGhBoardUnlatch a0 a1 s) := by
  unfold execGhBoardUnlatch
  try dsimp only
  repeat' first
    | (with_reducible first | apply OutMoves.next | assumption)
    | exact Sub.of ‹_› rfl
    | (with_reducible first
        | exact fun a b => ⟨a, b⟩ | exact fun a _ => absurd a Bool.false_ne_true
        | exact fun _ b => absurd b Bool.false_ne_true)
    | (intro _)
    | (with_reducible first
        | apply Moves.ite | apply OutMoves.ite | apply State.action_moves | apply State.endRun_moves
        | apply State.modGh_moves | apply State.modSwitch_moves)

theorem execGhBayUnlatch_moves {a0 a1} (h : Moves m s₀ s) (q : Sub 0x220005 m := by exact .of ‹_› rfl) :
    OutMoves m s₀ (execGhBayUnlatch a0 a1 s) := by
  unfold execGhBayUnlatch
  try dsimp only
  repeat' first
    | (with_reducible first | apply OutMoves.next | assumption)
    | exact Sub.of ‹_› rfl | (intro _)
    | (with_reducible first
        | apply Moves.ite | apply OutMoves.ite | apply State.action_moves | apply State.bayCleared_moves
        | apply State.bayNext_moves | apply State.endRun_moves | apply State.modSwitch_moves)

theorem State.modFeed_moves {a0 a1} (h : Moves m s₀ s) (q : Sub 0x20000 m := by exact .of ‹_› rfl) :
    Moves m s₀ (State.modFeed a0 a1 s) := by
  unfold State.modFeed
  try dsimp only
  repeat' first
    | with_reducible assumption | exact Sub.of ‹_› rfl
    | (with_reducible first
        | exact fun a b => ⟨a, b⟩ | exact fun a _ => absurd a Bool.false_ne_true
        | exact fun _ b => absurd b Bool.false_ne_true)
    | (intro _) | with_reducible apply State.modGh_moves

theorem State.feedRecord_moves {a0 a1} (h : Moves m s₀ s) (q : Sub 0x200001 m := by exact .of ‹_› rfl) :
    Moves m s₀ (State.feedRecord a0 a1 s) := by
  unfold State.feedRecord
  try dsimp only
  repeat' first
    | with_reducible assumption | exact Sub.of ‹_› rfl
    | (with_reducible first | apply Moves.ite | apply State.record_moves)

theorem State.changeover_moves {a0 a1} (h : Moves m s₀ s) (q : Sub 0x220001 m := by exact .of ‹_› rfl) :
    Moves m s₀ (State.changeover a0 a1 s) := by
  unfold State.changeover
  try dsimp only
  repeat' first
    | with_reducible assumption | exact Sub.of ‹_› rfl
    | (with_reducible first
        | exact fun a b => ⟨a, b⟩ | exact fun a _ => absurd a Bool.false_ne_true
        | exact fun _ b => absurd b Bool.false_ne_true)
    | (intro _)
    | (with_reducible first
        | apply Moves.ite | apply State.modFeed_moves | apply State.modGh_moves | apply State.record_moves
        | apply State.tick_moves)

theorem State.reselect_moves (h : Moves m s₀ s) (q : Sub 0x220001 m := by exact .of ‹_› rfl) :
    Moves m s₀ (State.reselect s) := by
  unfold State.reselect
  try dsimp only
  repeat' first
    | with_reducible assumption | exact Sub.of ‹_› rfl
    | (with_reducible first
        | exact fun a b => ⟨a, b⟩ | exact fun a _ => absurd a Bool.false_ne_true
        | exact fun _ b => absurd b Bool.false_ne_true)
    | (intro _)
    | (with_reducible first
        | apply Moves.ite | apply State.changeover_moves | apply State.modFeed_moves | apply State.modGh_moves)

theorem execFeedValid_moves {a0} (h : Moves m s₀ s) (q : Sub 0x220001 m := by exact .of ‹_› rfl) :
    OutMoves m s₀ (execFeedValid a0 s) := by
  unfold execFeedValid
  try dsimp only
  repeat' first
    | (with_reducible first | apply OutMoves.next | assumption)
    | exact Sub.of ‹_› rfl
    | (with_reducible first
        | apply Moves.ite | apply OutMoves.ite | apply State.modFeed_moves | apply State.reselect_moves)

theorem execFeedMake_moves (h : Moves m s₀ s) (q : Sub 0x220001 m := by exact .of ‹_› rfl) :
    OutMoves m s₀ (execFeedMake s) := by
  unfold execFeedMake
  try dsimp only
  repeat' first
    | (with_reducible first | apply OutMoves.next | assumption)
    | exact Sub.of ‹_› rfl
    | (with_reducible first
        | exact fun a b => ⟨a, b⟩ | exact fun a _ => absurd a Bool.false_ne_true
        | exact fun _ b => absurd b Bool.false_ne_true)
    | (intro _)
    | (with_reducible first
        | apply Moves.ite | apply OutMoves.ite | apply State.modFeed_moves | apply State.modGh_moves
        | apply State.reselect_moves)
    | split

theorem execFeedReturn_moves {a0} (h : Moves m s₀ s) (q : Sub 0x220001 m := by exact .of ‹_› rfl) :
    OutMoves m s₀ (execFeedReturn a0 s) := by
  unfold execFeedReturn
  try dsimp only
  repeat' first
    | (with_reducible first | apply OutMoves.next | assumption)
    | exact Sub.of ‹_› rfl
    | (with_reducible first | apply Moves.ite | apply OutMoves.ite | apply State.changeover_moves)

theorem State.startCharge_moves (h : Moves m s₀ s) (q : Sub 0x20000 m := by exact .of ‹_› rfl) :
    Moves m s₀ (State.startCharge s) := by
  unfold State.startCharge
  try dsimp only
  repeat' first
    | with_reducible assumption | exact Sub.of ‹_› rfl
    | (with_reducible first
        | exact fun a b => ⟨a, b⟩ | exact fun a _ => absurd a Bool.false_ne_true
        | exact fun _ b => absurd b Bool.false_ne_true)
    | (intro _) | with_reducible apply State.modGh_moves

theorem State.measureStart_moves (h : Moves m s₀ s) (q : Sub 0x20000 m := by exact .of ‹_› rfl) :
    Moves m s₀ (State.measureStart s) := by
  unfold State.measureStart
  try dsimp only
  repeat' first
    | with_reducible assumption | exact Sub.of ‹_› rfl
    | (with_reducible first
        | exact fun a b => ⟨a, b⟩ | exact fun a _ => absurd a Bool.false_ne_true
        | exact fun _ b => absurd b Bool.false_ne_true)
    | (intro _)
    | (with_reducible first | apply Moves.ite | apply State.modGh_moves)

theorem State.bankTick_moves (h : Moves m s₀ s) (q : Sub 0x20000 m := by exact .of ‹_› rfl) :
    Moves m s₀ (State.bankTick s) := by
  unfold State.bankTick
  try dsimp only
  repeat' first
    | with_reducible assumption | exact Sub.of ‹_› rfl
    | (with_reducible first
        | exact fun a b => ⟨a, b⟩ | exact fun a _ => absurd a Bool.false_ne_true
        | exact fun _ b => absurd b Bool.false_ne_true)
    | (intro _)
    | (with_reducible first
        | apply Moves.ite | apply State.measureStart_moves | apply State.modGh_moves
        | apply State.startCharge_moves)

theorem execChargeTargetReached_moves (h : Moves m s₀ s) (q : Sub 0x20000 m := by exact .of ‹_› rfl) :
    OutMoves m s₀ (execChargeTargetReached s) := by
  unfold execChargeTargetReached
  try dsimp only
  repeat' first
    | (with_reducible first | apply OutMoves.next | assumption)
    | exact Sub.of ‹_› rfl
    | (with_reducible first
        | exact fun a b => ⟨a, b⟩ | exact fun a _ => absurd a Bool.false_ne_true
        | exact fun _ b => absurd b Bool.false_ne_true)
    | (intro _)
    | (with_reducible first
        | apply Moves.ite | apply OutMoves.ite | apply State.measureStart_moves | apply State.modGh_moves)

theorem execChargeTimeout_moves (h : Moves m s₀ s) (q : Sub 0x220001 m := by exact .of ‹_› rfl) :
    OutMoves m s₀ (execChargeTimeout s) := by
  unfold execChargeTimeout
  try dsimp only
  repeat' first
    | (with_reducible first | apply OutMoves.next | assumption)
    | exact Sub.of ‹_› rfl
    | (with_reducible first
        | exact fun a b => ⟨a, b⟩ | exact fun a _ => absurd a Bool.false_ne_true
        | exact fun _ b => absurd b Bool.false_ne_true)
    | (intro _)
    | (with_reducible first
        | apply Moves.ite | apply OutMoves.ite | apply State.modGh_moves | apply State.record_moves)

theorem execGhBankEnergyCeilingWrite_moves {a0 a1} (h : Moves m s₀ s) (q : Sub 0x20001 m := by exact .of ‹_› rfl) :
    OutMoves m s₀ (execGhBankEnergyCeilingWrite a0 a1 s) := by
  unfold execGhBankEnergyCeilingWrite
  try dsimp only
  repeat' first
    | (with_reducible first | apply OutMoves.next | assumption)
    | exact Sub.of ‹_› rfl
    | (with_reducible first
        | exact fun a b => ⟨a, b⟩ | exact fun a _ => absurd a Bool.false_ne_true
        | exact fun _ b => absurd b Bool.false_ne_true)
    | (intro _)
    | (with_reducible first
        | apply Moves.ite | apply OutMoves.ite | apply State.guarded_moves | apply State.modGh_moves
        | apply State.put_moves | apply State.startCharge_moves)

theorem execCapacitanceMeasure_moves (h : Moves m s₀ s) (q : Sub 0x20000 m := by exact .of ‹_› rfl) :
    OutMoves m s₀ (execCapacitanceMeasure s) := by
  unfold execCapacitanceMeasure
  try dsimp only
  repeat' first
    | (with_reducible first | apply OutMoves.next | assumption)
    | exact Sub.of ‹_› rfl
    | (with_reducible first
        | exact fun a b => ⟨a, b⟩ | exact fun a _ => absurd a Bool.false_ne_true
        | exact fun _ b => absurd b Bool.false_ne_true)
    | (intro _)
    | (with_reducible first
        | apply Moves.ite | apply OutMoves.ite | apply State.measureStart_moves | apply State.modGh_moves)

theorem execGhBankMeasure_moves {a0 a1} (h : Moves m s₀ s) (q : Sub 0x20005 m := by exact .of ‹_› rfl) :
    OutMoves m s₀ (execGhBankMeasure a0 a1 s) := by
  unfold execGhBankMeasure
  try dsimp only
  repeat' first
    | (with_reducible first | apply OutMoves.next | assumption)
    | exact Sub.of ‹_› rfl
    | (with_reducible first
        | exact fun a b => ⟨a, b⟩ | exact fun a _ => absurd a Bool.false_ne_true
        | exact fun _ b => absurd b Bool.false_ne_true)
    | (intro _)
    | (with_reducible first
        | apply Moves.ite | apply OutMoves.ite | apply State.action_moves | apply State.endRun_moves
        | apply State.measureStart_moves | apply State.modGh_moves)

theorem execBankMeasureDone_moves {a0 a1} (h : Moves m s₀ s) (q : Sub 0x220005 m := by exact .of ‹_› rfl) :
    OutMoves m s₀ (execBankMeasureDone a0 a1 s) := by
  unfold execBankMeasureDone
  try dsimp only
  repeat' first
    | (with_reducible first | apply OutMoves.next | assumption)
    | exact Sub.of ‹_› rfl
    | (with_reducible first
        | exact fun a b => ⟨a, b⟩ | exact fun a _ => absurd a Bool.false_ne_true
        | exact fun _ b => absurd b Bool.false_ne_true)
    | (intro _)
    | (with_reducible first
        | apply Moves.ite | apply OutMoves.ite | apply State.endRun_moves | apply State.modGh_moves
        | apply State.put_moves | apply State.record_moves)
    | split

theorem execBankBleedDone_moves (h : Moves m s₀ s) (q : Sub 0x3fffff m := by exact .of ‹_› rfl) :
    OutMoves m s₀ (execBankBleedDone s) := by
  unfold execBankBleedDone
  try dsimp only
  repeat' first
    | (with_reducible first | apply OutMoves.next | assumption)
    | exact Sub.of ‹_› rfl
    | (with_reducible first
        | exact fun a b => ⟨a, b⟩ | exact fun a _ => absurd a Bool.false_ne_true
        | exact fun _ b => absurd b Bool.false_ne_true)
    | (intro _)
    | (with_reducible first
        | apply Moves.ite | apply OutMoves.ite | apply State.enterVigil_moves | apply State.modGh_moves
        | apply State.record_moves)

theorem execMeasurementSample_moves (h : Moves m s₀ s) (q : Sub 0x20000 m := by exact .of ‹_› rfl) :
    OutMoves m s₀ (execMeasurementSample s) := by
  unfold execMeasurementSample
  try dsimp only
  repeat' first
    | (with_reducible first | apply OutMoves.next | assumption)
    | exact Sub.of ‹_› rfl
    | (with_reducible first
        | exact fun a b => ⟨a, b⟩ | exact fun a _ => absurd a Bool.false_ne_true
        | exact fun _ b => absurd b Bool.false_ne_true)
    | (intro _)
    | (with_reducible first | apply Moves.ite | apply OutMoves.ite | apply State.modGh_moves)

theorem execBankPublish_moves (h : Moves m s₀ s) (q : Sub 0x800 m := by exact .of ‹_› rfl) :
    OutMoves m s₀ (execBankPublish s) := by
  unfold execBankPublish
  try dsimp only
  repeat' first
    | (with_reducible first | apply OutMoves.next | assumption)
    | exact Sub.of ‹_› rfl | (intro _)
    | (with_reducible first | apply Moves.ite | apply OutMoves.ite | apply State.modLg_moves)

theorem State.railsStart_moves (h : Moves m s₀ s) (q : Sub 0x20000 m := by exact .of ‹_› rfl) :
    Moves m s₀ (State.railsStart s) := by
  unfold State.railsStart
  try dsimp only
  repeat' first
    | with_reducible assumption | exact Sub.of ‹_› rfl
    | (with_reducible first
        | exact fun a b => ⟨a, b⟩ | exact fun a _ => absurd a Bool.false_ne_true
        | exact fun _ b => absurd b Bool.false_ne_true)
    | (intro _)
    | (with_reducible first | apply Moves.ite | apply State.modGh_moves)

theorem execRailSequence_moves (h : Moves m s₀ s) (q : Sub 0x20000 m := by exact .of ‹_› rfl) :
    OutMoves m s₀ (execRailSequence s) := by
  unfold execRailSequence
  try dsimp only
  repeat' first
    | (with_reducible first | apply OutMoves.next | assumption)
    | exact Sub.of ‹_› rfl
    | (with_reducible first
        | exact fun a b => ⟨a, b⟩ | exact fun a _ => absurd a Bool.false_ne_true
        | exact fun _ b => absurd b Bool.false_ne_true)
    | (intro _)
    | (with_reducible first | apply Moves.ite | apply OutMoves.ite | apply State.modGh_moves)
    | split

theorem State.railTick_moves (h : Moves m s₀ s) (q : Sub 0x20000 m := by exact .of ‹_› rfl) :
    Moves m s₀ (State.railTick s) := by
  unfold State.railTick
  try dsimp only
  repeat' first
    | with_reducible assumption | exact Sub.of ‹_› rfl
    | (with_reducible first
        | exact fun a b => ⟨a, b⟩ | exact fun a _ => absurd a Bool.false_ne_true
        | exact fun _ b => absurd b Bool.false_ne_true)
    | (intro _)
    | (with_reducible first | apply Moves.ite | apply State.boardOff_moves | apply State.modGh_moves)
    | split

theorem State.railFailed_moves {a0 a1} (h : Moves m s₀ s) (q : Sub 0xbfffff m := by exact .of ‹_› rfl) :
    Moves m s₀ (State.railFailed a0 a1 s) := by
  unfold State.railFailed
  try dsimp only
  repeat' first
    | with_reducible assumption | exact Sub.of ‹_› rfl
    | (with_reducible first
        | exact fun a b => ⟨a, b⟩ | exact fun a _ => absurd a Bool.false_ne_true
        | exact fun _ b => absurd b Bool.false_ne_true)
    | (intro _)
    | (with_reducible first
        | apply Moves.ite | apply State.enterVigil_moves | apply State.flushCut_moves | apply State.modGh_moves
        | apply State.railsDrop_moves | apply State.record_moves | apply State.tick_moves | apply State.trip_moves)

theorem execRailPgTimeout_moves (h : Moves m s₀ s) (q : Sub 0xbfffff m := by exact .of ‹_› rfl) :
    OutMoves m s₀ (execRailPgTimeout s) := by
  unfold execRailPgTimeout
  try dsimp only
  repeat' first
    | (with_reducible first | apply OutMoves.next | assumption)
    | exact Sub.of ‹_› rfl
    | (with_reducible first | apply Moves.ite | apply OutMoves.ite | apply State.railFailed_moves)
    | split

theorem execRailFault_moves {a0} (h : Moves m s₀ s) (q : Sub 0xbfffff m := by exact .of ‹_› rfl) :
    OutMoves m s₀ (execRailFault a0 s) := by
  unfold execRailFault
  try dsimp only
  repeat' first
    | (with_reducible first | apply OutMoves.next | assumption)
    | exact Sub.of ‹_› rfl
    | (with_reducible first | apply Moves.ite | apply OutMoves.ite | apply State.railFailed_moves)

theorem State.timeTick_moves (h : Moves m s₀ s) (q : Sub 0x20000 m := by exact .of ‹_› rfl) :
    Moves m s₀ (State.timeTick s) := by
  unfold State.timeTick
  try dsimp only
  repeat' first
    | with_reducible assumption | exact Sub.of ‹_› rfl
    | (with_reducible first
        | exact fun a b => ⟨a, b⟩ | exact fun a _ => absurd a Bool.false_ne_true
        | exact fun _ b => absurd b Bool.false_ne_true)
    | (intro _)
    | (with_reducible first | apply Moves.ite | apply State.modGh_moves)

theorem State.feedTick_moves {a0} (h : Moves m s₀ s) (q : Sub 0x220001 m := by exact .of ‹_› rfl) :
    Moves m s₀ (State.feedTick a0 s) := by
  unfold State.feedTick
  try dsimp only
  repeat' first
    | with_reducible assumption | exact Sub.of ‹_› rfl | (intro _)
    | (with_reducible first
        | apply Moves.foldl | apply State.feedRecord_moves | apply State.modFeed_moves | apply State.reselect_moves)

theorem State.switchTick_moves {a0} (h : Moves m s₀ s) (q : Sub 0x20000 m := by exact .of ‹_› rfl) :
    Moves m s₀ (State.switchTick a0 s) := by
  unfold State.switchTick
  try dsimp only
  repeat' first
    | with_reducible assumption | exact Sub.of ‹_› rfl
    | (with_reducible first
        | exact fun a b => ⟨a, b⟩ | exact fun a _ => absurd a Bool.false_ne_true
        | exact fun _ b => absurd b Bool.false_ne_true)
    | (intro _)
    | (with_reducible first | apply Moves.ite | apply State.modGh_moves)

theorem State.musterFed_moves (h : Moves m s₀ s) (q : Sub 0x3fffff m := by exact .of ‹_› rfl) :
    Moves m s₀ (State.musterFed s) := by
  unfold State.musterFed
  try dsimp only
  repeat' first
    | with_reducible assumption | exact Sub.of ‹_› rfl
    | (with_reducible first | apply Moves.ite | apply State.bleedResidue_moves | apply State.enterVigil_moves)

theorem execGhTick_moves {a0} (h : Moves m s₀ s) (q : Sub 0x3fffff m := by exact .of ‹_› rfl) :
    OutMoves m s₀ (execGhTick a0 s) := by
  unfold execGhTick
  try dsimp only
  repeat' first
    | (with_reducible first | apply OutMoves.next | assumption)
    | exact Sub.of ‹_› rfl
    | (with_reducible first
        | apply Moves.ite | apply OutMoves.ite | apply State.bankTick_moves | apply State.feedTick_moves
        | apply State.musterFed_moves | apply State.railTick_moves | apply State.switchTick_moves
        | apply State.timeTick_moves)

theorem State.stepTime_moves {a0 a1} (h : Moves m s₀ s) (q : Sub 0x220001 m := by exact .of ‹_› rfl) :
    Moves m s₀ (State.stepTime a0 a1 s) := by
  unfold State.stepTime
  try dsimp only
  repeat' first
    | with_reducible assumption | exact Sub.of ‹_› rfl
    | (with_reducible first
        | exact fun a b => ⟨a, b⟩ | exact fun a _ => absurd a Bool.false_ne_true
        | exact fun _ b => absurd b Bool.false_ne_true)
    | (intro _)
    | (with_reducible first | apply State.modGh_moves | apply State.record_moves)

theorem execPtpCompare_moves (h : Moves m s₀ s) (q : Sub 0xa20001 m := by exact .of ‹_› rfl) :
    OutMoves m s₀ (execPtpCompare s) := by
  unfold execPtpCompare
  try dsimp only
  repeat' first
    | (with_reducible first | apply OutMoves.next | assumption)
    | exact Sub.of ‹_› rfl
    | (with_reducible first
        | exact fun a b => ⟨a, b⟩ | exact fun a _ => absurd a Bool.false_ne_true
        | exact fun _ b => absurd b Bool.false_ne_true)
    | (intro _)
    | (with_reducible first
        | apply Moves.ite | apply OutMoves.ite | apply State.drawn_moves | apply State.modGh_moves
        | apply State.put_moves | apply State.stepTime_moves)

theorem execGhTimeSet_moves {a0 a1} (h : Moves m s₀ s) (q : Sub 0x220005 m := by exact .of ‹_› rfl) :
    OutMoves m s₀ (execGhTimeSet a0 a1 s) := by
  unfold execGhTimeSet
  try dsimp only
  repeat' first
    | (with_reducible first | apply OutMoves.next | assumption)
    | exact Sub.of ‹_› rfl | (intro _)
    | (with_reducible first
        | apply Moves.ite | apply OutMoves.ite | apply State.action_moves | apply State.endRun_moves
        | apply State.stepTime_moves)

theorem State.gateLost_moves (h : Moves m s₀ s) (q : Sub 0x3fffff m := by exact .of ‹_› rfl) : Moves m s₀ (State.gateLost s) := by
  have k : Moves m s₀ (s.mainReset.clearVolatile true) := State.clearVolatile_moves (State.mainReset_moves h)
  exact { k with
    frame := fun p e => by
      have f := q.out e
      cases p <;> first | exact k.frame _ e | exact absurd f (by decide)
    gate := fun a => absurd a Bool.false_ne_true
    main := .reset
    section_ := .reset
    sessions := Nat.zero_le _ }

theorem execGatehousePowerLoss_moves (h : Moves m s₀ s) (q : Sub 0xbfffff m := by exact .of ‹_› rfl) :
    OutMoves m s₀ (execGatehousePowerLoss s) := by
  unfold execGatehousePowerLoss
  try dsimp only
  repeat' first
    | (with_reducible first | apply OutMoves.next | assumption)
    | exact Sub.of ‹_› rfl
    | (with_reducible first
        | apply Moves.ite | apply OutMoves.ite | apply State.flushCut_moves | apply State.gateLost_moves)

theorem execGatehousePowerOnReset_moves {a0} (h : Moves m s₀ s) (q : Sub 0xbfffff m := by exact .of ‹_› rfl) :
    OutMoves m s₀ (execGatehousePowerOnReset a0 s) := by
  unfold execGatehousePowerOnReset
  try dsimp only
  repeat' first
    | (with_reducible first | apply OutMoves.next | assumption)
    | exact Sub.of ‹_› rfl
    | (with_reducible first
        | exact fun a b => ⟨a, b⟩ | exact fun a _ => absurd a Bool.false_ne_true
        | exact fun _ b => absurd b Bool.false_ne_true)
    | (intro _)
    | (with_reducible first
        | apply Moves.ite | apply OutMoves.ite | apply State.flushCut_moves | apply State.gateLost_moves
        | apply State.modGh_moves | apply State.modSi_moves | apply State.tick_moves)

theorem execTemperatureRead_moves {a0} (h : Moves m s₀ s) (q : Sub 0x20041 m := by exact .of ‹_› rfl) :
    OutMoves m s₀ (execTemperatureRead a0 s) := by
  unfold execTemperatureRead
  try dsimp only
  repeat' first
    | (with_reducible first | apply OutMoves.next | assumption)
    | exact Sub.of ‹_› rfl
    | (with_reducible first
        | exact fun a b => ⟨a, b⟩ | exact fun a _ => absurd a Bool.false_ne_true
        | exact fun _ b => absurd b Bool.false_ne_true)
    | (intro _)
    | (with_reducible first
        | apply Moves.ite | apply OutMoves.ite | apply Moves.foldl | apply State.modGh_moves
        | apply State.put_moves | apply State.raiseWarnings_moves)

theorem State.heatTrip_moves {a0} (h : Moves m s₀ s) (q : Sub 0xbfffff m := by exact .of ‹_› rfl) :
    Moves m s₀ (State.heatTrip a0 s) := by
  unfold State.heatTrip
  try dsimp only
  repeat' first
    | (with_reducible assumption)
    | exact Sub.of ‹_› rfl
    | (with_reducible first
        | exact fun a b => ⟨a, b⟩ | exact fun a _ => absurd a Bool.false_ne_true
        | exact fun _ b => absurd b Bool.false_ne_true)
    | (intro _)
    | (with_reducible first
        | apply Moves.ite | apply State.enterVigil_moves | apply State.flushCut_moves
        | apply State.modGh_moves | apply State.modSwitch_moves | apply State.railsDrop_moves
        | apply State.record_moves | apply State.tick_moves)

theorem execThermalTrip_moves {a0} (h : Moves m s₀ s) (q : Sub 0xbfffff m := by exact .of ‹_› rfl) :
    OutMoves m s₀ (execThermalTrip a0 s) := by
  unfold execThermalTrip
  try dsimp only
  repeat' first
    | (with_reducible first | apply OutMoves.next | assumption)
    | (intro _)
    | (with_reducible first | apply Moves.ite | apply OutMoves.ite | apply State.heatTrip_moves)

theorem execDrvPerstRelease_moves {a0} (h : Moves m s₀ s) (q : Sub 0x80 m := by exact .of ‹_› rfl) :
    OutMoves m s₀ (execDrvPerstRelease a0 s) := by
  unfold execDrvPerstRelease
  try dsimp only
  repeat' first
    | (with_reducible first | apply OutMoves.next | assumption)
    | exact Sub.of ‹_› rfl | (intro _)
    | (with_reducible first | apply Moves.ite | apply OutMoves.ite | apply State.modDrive_moves)

/-! ### Machine/Sideband.lean -/

theorem State.followLines_moves {a0} (h : Moves m s₀ s) (q : Sub 0x20080 m := by exact .of ‹_› rfl) :
    Moves m s₀ (State.followLines a0 s) := by
  unfold State.followLines
  try dsimp only
  repeat' first
    | with_reducible assumption | exact Sub.of ‹_› rfl | (intro _)
    | (with_reducible first
        | apply Moves.ite | apply Moves.foldl | apply State.switchOff_moves | apply State.switchOn_moves)

theorem State.retryBay_moves {a0} (h : Moves m s₀ s) (q : Sub 0x220081 m := by exact .of ‹_› rfl) :
    Moves m s₀ (State.retryBay a0 s) := by
  unfold State.retryBay
  try dsimp only
  repeat' first
    | with_reducible assumption | exact Sub.of ‹_› rfl
    | (with_reducible first | apply Moves.ite | apply State.modSwitch_moves | apply State.trip_moves)

theorem State.thawBays_moves (h : Moves m s₀ s) (q : Sub 0x21080 m := by exact .of ‹_› rfl) :
    Moves m s₀ (State.thawBays s) := by
  unfold State.thawBays
  try dsimp only
  repeat' first
    | with_reducible assumption | exact Sub.of ‹_› rfl | (intro _)
    | (with_reducible first
        | apply Moves.foldl | apply State.bayNext_moves | apply State.modSi_moves | apply State.switchOff_moves)

theorem State.becomeOwner_moves {a0} (h : Moves m s₀ s) (q : Sub 0x221081 m := by exact .of ‹_› rfl) :
    Moves m s₀ (State.becomeOwner a0 s) := by
  unfold State.becomeOwner
  try dsimp only
  repeat' first
    | with_reducible assumption | exact Sub.of ‹_› rfl | (intro _)
    | (with_reducible first
        | apply Moves.ite | apply Moves.foldl | apply State.followLines_moves | apply State.modSi_moves
        | apply State.record_moves | apply State.retryBay_moves | apply State.thawBays_moves)

theorem State.ownerCheck_moves {a0} (h : Moves m s₀ s) (q : Sub 0x221081 m := by exact .of ‹_› rfl) :
    Moves m s₀ (State.ownerCheck a0 s) := by
  unfold State.ownerCheck
  try dsimp only
  repeat' first
    | with_reducible assumption | exact Sub.of ‹_› rfl
    | (with_reducible first
        | apply Moves.ite | apply State.becomeOwner_moves | apply State.followLines_moves
        | apply State.thawBays_moves)

theorem execSisterSbTx_moves {a0} (h : Moves m s₀ s) (q : Sub 0x621081 m := by exact .of ‹_› rfl) :
    OutMoves m s₀ (execSisterSbTx a0 s) := by
  unfold execSisterSbTx
  try dsimp only
  repeat' first
    | (with_reducible first | apply OutMoves.next | assumption)
    | exact Sub.of ‹_› rfl | (intro _)
    | (with_reducible first
        | apply Moves.ite | apply OutMoves.ite | apply State.emit_moves | apply State.modSi_moves
        | apply State.ownerCheck_moves)

theorem execSisterSbRx_moves {a0 a1} (h : Moves m s₀ s) (q : Sub 0xe250c1 m := by exact .of ‹_› rfl) :
    OutMoves m s₀ (execSisterSbRx a0 a1 s) := by
  unfold execSisterSbRx
  try dsimp only
  repeat' first
    | (with_reducible first | apply OutMoves.next | assumption)
    | exact Sub.of ‹_› rfl | (intro _)
    | (with_reducible first
        | apply Moves.ite | apply OutMoves.ite | apply State.drawn_moves | apply State.holderFailed_moves
        | apply State.modSi_moves | apply State.otherClaim_moves | apply State.ownerCheck_moves
        | apply State.record_moves)

theorem execSidebandSilent_moves {a0} (h : Moves m s₀ s) (q : Sub 0x221081 m := by exact .of ‹_› rfl) :
    OutMoves m s₀ (execSidebandSilent a0 s) := by
  unfold execSidebandSilent
  try dsimp only
  repeat' first
    | (with_reducible first | apply OutMoves.next | assumption)
    | exact Sub.of ‹_› rfl | (intro _)
    | (with_reducible first
        | apply Moves.ite | apply OutMoves.ite | apply State.modSi_moves | apply State.ownerCheck_moves)

theorem execBayOwnerRelease_moves (h : Moves m s₀ s) (q : Sub 0x1000 m := by exact .of ‹_› rfl) :
    OutMoves m s₀ (execBayOwnerRelease s) := by
  unfold execBayOwnerRelease
  try dsimp only
  repeat' first
    | (with_reducible first | apply OutMoves.next | assumption)
    | exact Sub.of ‹_› rfl | (intro _)
    | (with_reducible first | apply Moves.ite | apply OutMoves.ite | apply State.modSi_moves)

/-! ### Machine/Boot.lean -/

theorem State.packageCheck_moves {a0 a1} (h : Moves m s₀ s) (q : Sub 0x200001 m := by exact .of ‹_› rfl) :
    Moves m s₀ (State.packageCheck a0 a1 s).2 := by
  unfold State.packageCheck
  try dsimp only
  repeat' first
    | with_reducible assumption | exact Sub.of ‹_› rfl
    | (with_reducible first | apply Moves.ite | apply Moves.iteSnd | apply State.put_moves | apply State.record_moves)

theorem State.putSlot_moves {a0 a1} (h : Moves m s₀ s) (q : Sub 0x40000 m := by exact .of ‹_› rfl) :
    Moves m s₀ (State.putSlot a0 a1 s) := by
  unfold State.putSlot
  try dsimp only
  repeat' first
    | with_reducible assumption | exact Sub.of ‹_› rfl | (intro _) | with_reducible apply State.modMd_moves

theorem State.secureBoot_moves (h : Moves m s₀ s) (q : Sub 0x2c0001 m := by exact .of ‹_› rfl) :
    Moves m s₀ (State.secureBoot s) := by
  unfold State.secureBoot
  try dsimp only
  repeat' first
    | with_reducible assumption | exact Sub.of ‹_› rfl | exact Nat.le_max_left _ _
    | exact (List.length_filter_le _ _).trans (Nat.le_max_left _ _) | exact Nat.zero_le _
    | exact (List.length_map _).le.trans (Nat.le_max_left _ _)
    | exact (modFirst_length _ _ _).le.trans (Nat.le_max_left _ _) | (intro _)
    | (with_reducible first
        | apply Moves.ite | apply State.modDict_moves | apply State.modMd_moves | apply State.packageCheck_moves
        | apply State.record_moves)

theorem State.closeFailed_moves {a0} (h : Moves m s₀ s) (q : Sub 0x54010 m := by exact .of ‹_› rfl) :
    Moves m s₀ (State.closeFailed a0 s) := by
  unfold State.closeFailed
  try dsimp only
  repeat' first
    | with_reducible assumption | exact Sub.of ‹_› rfl | (intro _)
    | (with_reducible first
        | apply Moves.ite | apply State.closeUnit_moves | apply State.modCy_moves | apply State.modMd_moves
        | apply State.modPc_moves)

theorem State.selfTest_moves {a0} (h : Moves m s₀ s) (q : Sub 0x254011 m := by exact .of ‹_› rfl) :
    Moves m s₀ (State.selfTest a0 s) := by
  unfold State.selfTest
  try dsimp only
  repeat' first
    | with_reducible assumption | exact Sub.of ‹_› rfl | (intro _)
    | (with_reducible first
        | apply Moves.ite | apply Moves.foldl | apply State.closeFailed_moves | apply State.modMd_moves
        | apply State.record_moves)

theorem State.rewrite_moves (h : Moves m s₀ s) (q : Sub 0x4008c0 m := by exact .of ‹_› rfl) :
    Moves m s₀ (State.rewrite s) := by
  unfold State.rewrite
  try dsimp only
  repeat' first | with_reducible assumption | exact Sub.of ‹_› rfl | with_reducible apply State.descPut_moves

theorem State.devKeyStays_moves {a0} (h : Moves m s₀ s) (q : Sub 0x240001 m := by exact .of ‹_› rfl) :
    Moves m s₀ (State.devKeyStays a0 s) := by
  unfold State.devKeyStays
  try dsimp only
  repeat' first
    | with_reducible assumption | exact Sub.of ‹_› rfl | (intro _)
    | (with_reducible first | apply State.modMd_moves | apply State.put_moves | apply State.record_moves)

theorem State.unwrapDev_moves (h : Moves m s₀ s) (q : Sub 0x6508c1 m := by exact .of ‹_› rfl) :
    Moves m s₀ (State.unwrapDev s) := by
  unfold State.unwrapDev
  try dsimp only
  repeat' first
    | with_reducible assumption | exact Sub.of ‹_› rfl | (intro _)
    | (with_reducible first
        | apply Moves.ite | apply State.devKeyStays_moves | apply State.modCy_moves | apply State.modLg_moves
        | apply State.put_moves | apply State.rewrite_moves)
    | split

theorem State.sizeWings_moves {a0} (h : Moves m s₀ s) (q : Sub 0x1 m := by exact .of ‹_› rfl) :
    Moves m s₀ (State.sizeWings a0 s) := by
  unfold State.sizeWings
  try dsimp only
  repeat' first
    | with_reducible assumption | exact Sub.of ‹_› rfl | (intro _)
    | (with_reducible first | apply Moves.ite | apply Moves.foldl | apply State.put_moves)
    | dsimp only | split

theorem State.firstSizes_moves (h : Moves m s₀ s) (q : Sub 0x1 m := by exact .of ‹_› rfl) :
    Moves m s₀ (State.firstSizes s) := by
  unfold State.firstSizes
  try dsimp only
  repeat' first
    | with_reducible assumption | exact Sub.of ‹_› rfl
    | (with_reducible first | apply Moves.ite | apply State.sizeWings_moves)

theorem State.firstDesc_moves (h : Moves m s₀ s) (q : Sub 0xc108c3 m := by exact .of ‹_› rfl) :
    Moves m s₀ (State.firstDesc s) := by
  unfold State.firstDesc
  try dsimp only
  repeat' first
    | with_reducible assumption | exact Sub.of ‹_› rfl | (intro _)
    | (with_reducible first
        | apply Moves.ite | apply State.descRequest_moves | apply State.drawn_moves | apply State.modCy_moves
        | apply State.modLg_moves | apply State.put_moves | apply State.sizeWings_moves)

theorem State.loadFound_moves {a0} (h : Moves m s₀ s) (q : Sub 0xe12943 m := by exact .of ‹_› rfl) :
    Moves m s₀ (State.loadFound a0 s) := by
  unfold State.loadFound
  try dsimp only
  repeat' first
    | with_reducible assumption | exact Sub.of ‹_› rfl | (intro _)
    | (with_reducible first
        | apply Moves.ite | apply Moves.foldl | apply State.loadDesc_moves | apply State.modLg_moves
        | apply State.put_moves | apply State.putBlob_moves | apply State.drawn_moves)

theorem State.musterGo_moves {a0} (h : Moves m s₀ s) (q : Sub 0x67f8d9 m := by exact .of ‹_› rfl) :
    Moves m s₀ (State.musterGo a0 s) := by
  unfold State.musterGo
  try dsimp only
  repeat' first
    | with_reducible assumption | exact Sub.of ‹_› rfl | exact BookMoves.refl | exact BookMoves.reset
    | exact .clear .refl | exact .buckets _ .refl | (intro _)
    | (with_reducible first
        | apply Moves.ite | apply Moves.foldl | apply State.bayNext_moves | apply State.dividePools_moves
        | apply State.firstSizes_moves | apply State.modBook_moves | apply State.modCe_moves
        | apply State.modClk_moves | apply State.modCy_moves | apply State.modLg_moves | apply State.modMd_moves
        | apply State.modTt_moves | apply State.musterLantern_moves | apply State.push_moves
        | apply State.railsStart_moves | apply State.readDescs_moves | apply State.refclksStart_moves
        | apply State.resyncAgain_moves | apply State.switchOn_moves | apply State.trainPort_moves)

theorem State.musterNext_moves (h : Moves m s₀ s) (q : Sub 0x67f8d9 m := by exact .of ‹_› rfl) :
    Moves m s₀ (State.musterNext s) := by
  unfold State.musterNext
  try dsimp only
  repeat' first
    | with_reducible assumption | exact Sub.of ‹_› rfl
    | (with_reducible first | apply State.musterGo_moves | apply State.put_moves)

theorem State.testComparators_moves {a0} (h : Moves m s₀ s) (q : Sub 0x200801 m := by exact .of ‹_› rfl) :
    Moves m s₀ (State.testComparators a0 s) := by
  unfold State.testComparators
  try dsimp only
  repeat' first
    | with_reducible assumption | exact Sub.of ‹_› rfl | (intro _)
    | (with_reducible first
        | apply Moves.ite | apply Moves.foldl | apply State.modLg_moves | apply State.record_moves)

theorem State.vaultRead_moves {a0} (h : Moves m s₀ s) (q : Sub 0x201801 m := by exact .of ‹_› rfl) :
    Moves m s₀ (State.vaultRead a0 s) := by
  unfold State.vaultRead
  try dsimp only
  repeat' first
    | with_reducible assumption | exact Sub.of ‹_› rfl | (intro _)
    | (with_reducible first
        | apply Moves.ite | apply Moves.foldl | apply Moves.foldlSnd | apply Moves.foldlFst
        | apply State.modLg_moves | apply State.record_moves | apply State.sawClaim_moves)

theorem State.checkStores_moves (h : Moves m s₀ s) (q : Sub 0x67f8d9 m := by exact .of ‹_› rfl) :
    Moves m s₀ (State.checkStores s) := by
  unfold State.checkStores
  try dsimp only
  repeat' first
    | with_reducible assumption | exact Sub.of ‹_› rfl | (intro _)
    | (with_reducible first
        | apply Moves.ite | apply Moves.foldl | apply State.checkStore_moves | apply State.learnConfig_moves
        | apply State.modMd_moves | apply State.modTt_moves | apply State.musterNext_moves)

theorem State.discardVault_moves (h : Moves m s₀ s) (q : Sub 0x200001 m := by exact .of ‹_› rfl) :
    Moves m s₀ (State.discardVault s) := by
  unfold State.discardVault
  try dsimp only
  repeat' first
    | with_reducible assumption | exact Sub.of ‹_› rfl | (intro _)
    | (with_reducible first | apply Moves.foldl | apply State.record_moves)
    | dsimp only | split

theorem State.musterOver_moves (h : Moves m s₀ s) (q : Sub 0x241801 m := by exact .of ‹_› rfl) :
    Moves m s₀ (State.musterOver s) := by
  unfold State.musterOver
  try dsimp only
  repeat' first
    | with_reducible assumption | exact Sub.of ‹_› rfl | (intro _)
    | (with_reducible first
        | apply Moves.ite | apply State.modLg_moves | apply State.modMd_moves | apply State.modSi_moves
        | apply State.put_moves | apply State.setMode_moves)

theorem State.epLinkUp_moves {a0} (h : Moves m s₀ s) (q : Sub 0x300001 m := by exact .of ‹_› rfl) :
    Moves m s₀ (State.epLinkUp a0 s) := by
  unfold State.epLinkUp
  try dsimp only
  repeat' first
    | with_reducible assumption | exact Sub.of ‹_› rfl | with_reducible exact id | exact TagsOk.filter _
    | with_reducible exact fun _ => TagsOk.nil | refine TagsOk.map _ ?_ | (intro _)
    | (with_reducible first | apply State.modEp_moves | apply State.record_moves)
    | split

theorem State.musterEnd_moves {a0} (h : Moves m s₀ s) (q : Sub 0xfff9db m := by exact .of ‹_› rfl) :
    Moves m s₀ (State.musterEnd a0 s) := by
  unfold State.musterEnd
  try dsimp only
  repeat' first
    | with_reducible assumption | exact Sub.of ‹_› rfl | exact BookMoves.refl | exact BookMoves.reset
    | exact .clear .refl | exact .buckets _ .refl | with_reducible exact id | exact TagsOk.filter _
    | with_reducible exact fun _ => TagsOk.nil | refine TagsOk.map _ ?_ | (intro _)
    | (with_reducible first
        | apply Moves.ite | apply Moves.foldl | apply State.checkStores_moves | apply State.consume_moves
        | apply State.copySection_moves | apply State.discardVault_moves | apply State.epLinkUp_moves
        | apply State.firstDesc_moves | apply State.loadFound_moves | apply State.modBook_moves
        | apply State.modClk_moves | apply State.modEp_moves | apply State.modLg_moves | apply State.modMd_moves
        | apply State.musterNext_moves | apply State.musterOver_moves | apply State.secureBoot_moves
        | apply State.selfTest_moves | apply State.testComparators_moves | apply State.unwrapDev_moves
        | apply State.vaultRead_moves)
    | dsimp only | split

theorem execMusterStepEnd_moves {a0 a1} (h : Moves m s₀ s) (q : Sub 0xfff9db m := by exact .of ‹_› rfl) :
    OutMoves m s₀ (execMusterStepEnd a0 a1 s) := by
  unfold execMusterStepEnd
  try dsimp only
  repeat' first
    | (with_reducible first | apply OutMoves.next | assumption)
    | exact Sub.of ‹_› rfl
    | (with_reducible first | apply Moves.ite | apply OutMoves.ite | apply State.musterEnd_moves)

theorem execVigilExit_moves (h : Moves m s₀ s) (q : Sub 0x67f8d9 m := by exact .of ‹_› rfl) :
    OutMoves m s₀ (execVigilExit s) := by
  unfold execVigilExit
  try dsimp only
  repeat' first
    | (with_reducible first | apply OutMoves.next | assumption)
    | exact Sub.of ‹_› rfl | (intro _)
    | (with_reducible first
        | apply Moves.ite | apply OutMoves.ite | apply State.modLg_moves | apply State.modMd_moves
        | apply State.musterGo_moves | apply State.setMode_moves | apply State.tick_moves)

theorem State.letGo_moves (h : Moves m s₀ s) (q : Sub 0x67f8d9 m := by exact .of ‹_› rfl) :
    Moves m s₀ (State.letGo s) := by
  unfold State.letGo
  try dsimp only
  repeat' first
    | with_reducible assumption | exact Sub.of ‹_› rfl | (intro _)
    | (with_reducible first | apply Moves.ite | apply State.modMd_moves | apply State.musterNext_moves)

theorem execFwStart_moves {a0 a1} (h : Moves m s₀ s) (q : Sub 0x67f8d9 m := by exact .of ‹_› rfl) :
    OutMoves m s₀ (execFwStart a0 a1 s) := by
  unfold execFwStart
  try dsimp only
  repeat' first
    | (with_reducible first | apply OutMoves.next | assumption)
    | exact Sub.of ‹_› rfl | (intro _)
    | (with_reducible first | apply State.letGo_moves | apply State.trigger_moves)

theorem State.promote_moves {a0} (h : Moves m s₀ s) (q : Sub 0x67f8d9 m := by exact .of ‹_› rfl) :
    Moves m s₀ (State.promote a0 s) := by
  unfold State.promote
  try dsimp only
  repeat' first
    | with_reducible assumption | exact Sub.of ‹_› rfl | (intro _)
    | (with_reducible first | apply State.letGo_moves | apply State.modSi_moves)

theorem execSiPromote_moves {a0 a1} (h : Moves m s₀ s) (q : Sub 0x67f8dd m := by exact .of ‹_› rfl) :
    OutMoves m s₀ (execSiPromote a0 a1 s) := by
  unfold execSiPromote
  try dsimp only
  repeat' first
    | (with_reducible first | apply OutMoves.next | assumption)
    | exact Sub.of ‹_› rfl | (intro _)
    | (with_reducible first
        | apply Moves.ite | apply OutMoves.ite | apply State.action_moves | apply State.endRun_moves
        | apply State.promote_moves)

theorem execWardenGrant_moves {a0 a1 a2 a3} (h : Moves m s₀ s) (q : Sub 0x67f8d9 m := by exact .of ‹_› rfl) :
    OutMoves m s₀ (execWardenGrant a0 a1 a2 a3 s) := by
  unfold execWardenGrant
  try dsimp only
  repeat' first
    | (with_reducible first | apply OutMoves.next | assumption)
    | exact Sub.of ‹_› rfl | (intro _)
    | (with_reducible first
        | apply Moves.ite | apply OutMoves.ite | apply State.fieldGot_moves | apply State.modWingSt_moves
        | apply State.promote_moves | apply State.sawClaim_moves | apply State.takeNow_moves
        | apply State.wardenDrop_moves | apply State.wardenHeard_moves)
    | split

theorem execFwRecoveryImage_moves {a0 a1} (h : Moves m s₀ s) (q : Sub 0x3fffff m := by exact .of ‹_› rfl) :
    OutMoves m s₀ (execFwRecoveryImage a0 a1 s) := by
  unfold execFwRecoveryImage
  try dsimp only
  repeat' first
    | (with_reducible first | apply OutMoves.next | assumption)
    | exact Sub.of ‹_› rfl | (intro _)
    | (with_reducible first
        | apply Moves.ite | apply OutMoves.ite | apply State.guarded_moves | apply State.packageCheck_moves
        | apply State.putSlot_moves | apply State.warmReset_moves)

theorem execFwOwnerKeyWrite_moves {a0 a1} (h : Moves m s₀ s) (q : Sub 0x240005 m := by exact .of ‹_› rfl) :
    OutMoves m s₀ (execFwOwnerKeyWrite a0 a1 s) := by
  unfold execFwOwnerKeyWrite
  try dsimp only
  repeat' first
    | (with_reducible first | apply OutMoves.next | assumption)
    | exact Sub.of ‹_› rfl | (intro _)
    | (with_reducible first
        | apply Moves.ite | apply OutMoves.ite | apply State.action_moves | apply State.endRun_moves
        | apply State.modMd_moves | apply State.record_moves)

theorem execFwConfirmExpiry_moves (h : Moves m s₀ s) (q : Sub 0x200001 m := by exact .of ‹_› rfl) :
    OutMoves m s₀ (execFwConfirmExpiry s) := by
  unfold execFwConfirmExpiry
  try dsimp only
  repeat' first
    | (with_reducible first | apply OutMoves.next | assumption)
    | exact Sub.of ‹_› rfl
    | (with_reducible first | apply Moves.ite | apply OutMoves.ite | apply State.put_moves | apply State.record_moves)

/-! ### Machine/Modes.lean -/

theorem execRefclkLoss_moves (h : Moves m s₀ s) (q : Sub 0x40008 m := by exact .of ‹_› rfl) :
    OutMoves m s₀ (execRefclkLoss s) := by
  unfold execRefclkLoss
  try dsimp only
  repeat' first
    | (with_reducible first | apply OutMoves.next | assumption)
    | exact Sub.of ‹_› rfl | (intro _)
    | (with_reducible first
        | apply Moves.ite | apply OutMoves.ite | apply State.addCause_moves | apply State.modClk_moves)

theorem execRefclkRelock_moves (h : Moves m s₀ s) (q : Sub 0x40008 m := by exact .of ‹_› rfl) :
    OutMoves m s₀ (execRefclkRelock s) := by
  unfold execRefclkRelock
  try dsimp only
  repeat' first
    | (with_reducible first | apply OutMoves.next | assumption)
    | exact Sub.of ‹_› rfl | (intro _)
    | (with_reducible first
        | apply Moves.ite | apply OutMoves.ite | apply State.clearCause_moves | apply State.modClk_moves)

theorem execHoldoverEnd_moves (h : Moves m s₀ s) (q : Sub 0xbfffff m := by exact .of ‹_› rfl) :
    OutMoves m s₀ (execHoldoverEnd s) := by
  unfold execHoldoverEnd
  try dsimp only
  repeat' first
    | (with_reducible first | apply OutMoves.next | assumption)
    | exact Sub.of ‹_› rfl | (intro _)
    | (with_reducible first
        | apply Moves.ite | apply OutMoves.ite | apply State.drawn_moves | apply State.modClk_moves
        | apply State.record_moves | apply State.warmReset_moves)

theorem execWarmReset_moves {a0} (h : Moves m s₀ s) (q : Sub 0x3fffff m := by exact .of ‹_› rfl) :
    OutMoves m s₀ (execWarmReset a0 s) := by
  unfold execWarmReset
  try dsimp only
  repeat' first
    | (with_reducible first | apply OutMoves.next | assumption)
    | exact Sub.of ‹_› rfl
    | (with_reducible first
        | apply Moves.ite | apply OutMoves.ite | apply State.record_moves | apply State.warmReset_moves)

theorem execFwWarmReset_moves {a0 a1} (h : Moves m s₀ s) (q : Sub 0x3fffff m := by exact .of ‹_› rfl) :
    OutMoves m s₀ (execFwWarmReset a0 a1 s) := by
  unfold execFwWarmReset
  try dsimp only
  repeat' first
    | (with_reducible first | apply OutMoves.next | assumption)
    | exact Sub.of ‹_› rfl | (intro _)
    | (with_reducible first | apply State.trigger_moves | apply State.warmReset_moves)

theorem State.shutdownAsk_moves {a0} (h : Moves m s₀ s) (q : Sub 0x3fffff m := by exact .of ‹_› rfl) :
    Moves m s₀ (State.shutdownAsk a0 s) := by
  unfold State.shutdownAsk
  try dsimp only
  repeat' first
    | with_reducible assumption | exact Sub.of ‹_› rfl | (intro _)
    | (with_reducible first
        | apply Moves.ite | apply State.addCause_moves | apply State.endRun_moves | apply State.enterVigil_moves
        | apply State.modMd_moves)

theorem execFwShutdown_moves {a0 a1} (h : Moves m s₀ s) (q : Sub 0x3fffff m := by exact .of ‹_› rfl) :
    OutMoves m s₀ (execFwShutdown a0 a1 s) := by
  unfold execFwShutdown
  try dsimp only
  repeat' first
    | (with_reducible first | apply OutMoves.next | assumption)
    | exact Sub.of ‹_› rfl | (intro _)
    | (with_reducible first | apply State.action_moves | apply State.shutdownAsk_moves)

theorem execShutdownTimeout_moves (h : Moves m s₀ s) (q : Sub 0x40004 m := by exact .of ‹_› rfl) :
    OutMoves m s₀ (execShutdownTimeout s) := by
  unfold execShutdownTimeout
  try dsimp only
  repeat' first
    | (with_reducible first | apply OutMoves.next | assumption)
    | exact Sub.of ‹_› rfl | (intro _)
    | (with_reducible first
        | apply Moves.ite | apply OutMoves.ite | apply State.clearCause_moves | apply State.endRun_moves
        | apply State.modMd_moves)

theorem State.shutdownLeg_moves (h : Moves m s₀ s) (q : Sub 0xffffff m := by exact .of ‹_› rfl) :
    Moves m s₀ (State.shutdownLeg s) := by
  unfold State.shutdownLeg
  try dsimp only
  repeat' first
    | with_reducible assumption | exact Sub.of ‹_› rfl | (intro _)
    | (with_reducible first
        | apply Moves.ite | apply Moves.foldl | apply State.endRun_moves | apply State.enterVigil_moves
        | apply State.sendLantern_moves)

theorem execFirmwareImageDownload_moves {a0 a1 a2 a3} (h : Moves m s₀ s) (q : Sub 0xe16041 m := by exact .of ‹_› rfl) :
    OutMoves m s₀ (execFirmwareImageDownload a0 a1 a2 a3 s) := by
  unfold execFirmwareImageDownload
  try dsimp only
  repeat' first
    | (with_reducible first | apply OutMoves.next | assumption)
    | exact Sub.of ‹_› rfl | (intro _)
    | (with_reducible first
        | apply Moves.ite | apply OutMoves.ite | apply State.adminCmd_moves | apply State.modCe_moves
        | apply State.respond_moves)

theorem State.activateFirmware_moves {a0 a1 a2} (h : Moves m s₀ s) (q : Sub 0x40040 m := by exact .of ‹_› rfl) :
    Moves m s₀ (State.activateFirmware a0 a1 a2 s) := by
  unfold State.activateFirmware
  try dsimp only
  repeat' first
    | with_reducible assumption | exact Sub.of ‹_› rfl | (intro _)
    | (with_reducible first | apply State.addCause_moves | apply State.modMd_moves | apply State.raiseAll_moves)

theorem State.commitAction_moves {a0 a1 a2 a3 a4} (h : Moves m s₀ s) (q : Sub 0x40040 m := by exact .of ‹_› rfl) :
    Moves m s₀ (State.commitAction a0 a1 a2 a3 a4 s) := by
  unfold State.commitAction
  try dsimp only
  repeat' first
    | with_reducible assumption | exact Sub.of ‹_› rfl | (intro _)
    | (with_reducible first
        | apply Moves.ite | apply State.activateFirmware_moves | apply State.modMd_moves
        | apply State.putSlot_moves | apply State.respond_moves)
    | split

theorem execFirmwareCommit_moves {a0 a1 a2 a3} (h : Moves m s₀ s) (q : Sub 0xe56041 m := by exact .of ‹_› rfl) :
    OutMoves m s₀ (execFirmwareCommit a0 a1 a2 a3 s) := by
  unfold execFirmwareCommit
  try dsimp only
  repeat' first
    | (with_reducible first | apply OutMoves.next | assumption)
    | exact Sub.of ‹_› rfl | (intro _)
    | (with_reducible first
        | apply Moves.ite | apply OutMoves.ite | apply State.adminCmd_moves | apply State.commitAction_moves
        | apply State.modCe_moves | apply State.packageCheck_moves | apply State.respond_moves)

theorem State.restartStewards_moves (h : Moves m s₀ s) (q : Sub 0x40010 m := by exact .of ‹_› rfl) :
    Moves m s₀ (State.restartStewards s) := by
  unfold State.restartStewards
  try dsimp only
  repeat' first
    | with_reducible assumption | exact Sub.of ‹_› rfl | (intro _)
    | (with_reducible first
        | apply Moves.ite | apply Moves.foldl | apply State.closeUnit_moves | apply State.modMd_moves)

theorem execFirmwareActivationReady_moves (h : Moves m s₀ s) (q : Sub 0x40010 m := by exact .of ‹_› rfl) :
    OutMoves m s₀ (execFirmwareActivationReady s) := by
  unfold execFirmwareActivationReady
  try dsimp only
  repeat' first
    | (with_reducible first | apply OutMoves.next | assumption)
    | exact Sub.of ‹_› rfl | (intro _)
    | (with_reducible first
        | apply Moves.ite | apply OutMoves.ite | apply Moves.foldl | apply State.clearCause_moves
        | apply State.modMd_moves | apply State.reopenUnit_moves)
    | dsimp only | split

theorem State.activationOver_moves (h : Moves m s₀ s) (q : Sub 0x40040 m := by exact .of ‹_› rfl) :
    Moves m s₀ (State.activationOver s) := by
  unfold State.activationOver
  try dsimp only
  repeat' first
    | with_reducible assumption | exact Sub.of ‹_› rfl | (intro _)
    | (with_reducible first | apply Moves.ite | apply State.modMd_moves | apply State.respond_moves)
    | split

theorem execMtfaTimeout_moves (h : Moves m s₀ s) (q : Sub 0x3fffff m := by exact .of ‹_› rfl) :
    OutMoves m s₀ (execMtfaTimeout s) := by
  unfold execMtfaTimeout
  try dsimp only
  repeat' first
    | (with_reducible first | apply OutMoves.next | assumption)
    | exact Sub.of ‹_› rfl | (intro _)
    | (with_reducible first
        | apply Moves.ite | apply OutMoves.ite | apply State.modMd_moves | apply State.warmReset_moves)
    | split

end Sys2Proof.Machine
end

