-- ==== Sys2Proof/Laws/MovesService.lean ====
section
/-! SUPPORT. What the endpoint, partial resets, the leg and the object dictionary do: each operation moves the state as Moves says. -/

set_option Elab.async false

namespace Sys2Proof.Machine

variable {m : Nat} {s₀ s : State}

/-! ### Machine/Endpoint.lean -/

theorem State.epServe_moves {n} (h : Moves m s₀ s) (q : Sub 0x500000 m := by exact .of ‹_› rfl) : Moves m s₀ (State.epServe n s) := by
  induction n generalizing s with
  | zero => exact h
  | succ _ ih =>
    unfold State.epServe
    split
    · exact h
    · refine .ite ?_ h
      split
      · next e => exact ih (State.emit_moves _ (State.modEp_moves _ h fun k => TagsOk.snoc _ k e))
      · exact h

theorem State.epReads_moves (h : Moves m s₀ s) (q : Sub 0x500000 m := by exact .of ‹_› rfl) :
    Moves m s₀ (State.epReads s) := by
  unfold State.epReads
  try dsimp only
  repeat' first | with_reducible assumption | exact Sub.of ‹_› rfl | with_reducible apply State.epServe_moves

theorem State.epRetire_moves {a0} (h : Moves m s₀ s) (q : Sub 0x100000 m := by exact .of ‹_› rfl) :
    Moves m s₀ (State.epRetire a0 s) := by
  unfold State.epRetire
  try dsimp only
  repeat' first
    | with_reducible assumption | exact Sub.of ‹_› rfl | with_reducible exact id | exact TagsOk.filter _
    | with_reducible exact fun _ => TagsOk.nil | refine TagsOk.map _ ?_ | (intro _)
    | with_reducible apply State.modEp_moves

theorem State.epDrop_moves {a0} (h : Moves m s₀ s) (q : Sub 0x100000 m := by exact .of ‹_› rfl) :
    Moves m s₀ (State.epDrop a0 s) := by
  unfold State.epDrop
  try dsimp only
  repeat' first
    | with_reducible assumption | exact Sub.of ‹_› rfl | with_reducible exact id | exact TagsOk.filter _
    | with_reducible exact fun _ => TagsOk.nil | refine TagsOk.map _ ?_ | (intro _)
    | (with_reducible first | apply Moves.ite | apply State.modEp_moves)
    | rfl | split

theorem State.epFail_moves {a0} (h : Moves m s₀ s) (q : Sub 0x718ae1 m := by exact .of ‹_› rfl) :
    Moves m s₀ (State.epFail a0 s) := by
  unfold State.epFail
  try dsimp only
  repeat' first
    | with_reducible assumption | exact Sub.of ‹_› rfl | (intro _)
    | (with_reducible first | apply State.epDrop_moves | apply State.failCmd_moves | apply State.settle_moves)

theorem State.epTake_moves {a0} (h : Moves m s₀ s) (q : Sub 0x100000 m := by exact .of ‹_› rfl) :
    Moves m s₀ (State.epTake a0 s) := by
  unfold State.epTake
  try dsimp only
  repeat' first
    | with_reducible assumption | exact Sub.of ‹_› rfl | with_reducible exact id | exact TagsOk.filter _
    | with_reducible exact fun _ => TagsOk.nil | refine TagsOk.map _ ?_ | (intro _)
    | with_reducible apply State.modEp_moves

theorem State.epHeld_moves {l} (h : Moves m s₀ s) (q : Sub 0x500000 m := by exact .of ‹_› rfl) : Moves m s₀ (State.epHeld l s) := by
  induction l generalizing s with
  | nil => exact h
  | cons p l ih =>
    unfold State.epHeld
    exact .ite (ih (State.cqWrite_moves h)) (ih (State.modEp_moves _ h id))

theorem State.epRelease_moves (h : Moves m s₀ s) (q : Sub 0x500000 m := by exact .of ‹_› rfl) :
    Moves m s₀ (State.epRelease s) := by
  unfold State.epRelease
  try dsimp only
  repeat' first
    | with_reducible assumption | exact Sub.of ‹_› rfl | with_reducible exact id | exact TagsOk.filter _
    | with_reducible exact fun _ => TagsOk.nil | refine TagsOk.map _ ?_ | (intro _)
    | (with_reducible first | apply State.epHeld_moves | apply State.modEp_moves)

theorem State.epFetch_moves {a0 a1 a2} (h : Moves m s₀ s) (q : Sub 0x500001 m := by exact .of ‹_› rfl) :
    Moves m s₀ (State.epFetch a0 a1 a2 s) := by
  induction a1 generalizing s a0 a2 with
  | zero => exact h
  | succ _ ih =>
    unfold State.epFetch
    try dsimp only
    repeat' first
      | with_reducible assumption | exact Sub.of ‹_› rfl
      | (with_reducible first | apply State.epAsk_moves | apply ih)

theorem execEpDoorbell_moves {a0 a1 a2} (h : Moves m s₀ s) (q : Sub 0x500001 m := by exact .of ‹_› rfl) :
    OutMoves m s₀ (execEpDoorbell a0 a1 a2 s) := by
  unfold execEpDoorbell
  try dsimp only
  repeat' first
    | (with_reducible first | apply OutMoves.next | assumption)
    | exact Sub.of ‹_› rfl | with_reducible exact id | exact TagsOk.filter _
    | with_reducible exact fun _ => TagsOk.nil | refine TagsOk.map _ ?_ | (intro _)
    | (with_reducible first
        | apply Moves.ite | apply OutMoves.ite | apply State.epFetch_moves | apply State.epRelease_moves
        | apply State.intaUpdate_moves | apply State.modEp_moves)
    | split

theorem State.epEntry_moves {a0 a1} (h : Moves m s₀ s) (q : Sub 0x7420c1 m := by exact .of ‹_› rfl) :
    Moves m s₀ (State.epEntry a0 a1 s) := by
  unfold State.epEntry
  try dsimp only
  repeat' first
    | with_reducible assumption | exact Sub.of ‹_› rfl
    | (with_reducible first | apply State.epTake_moves | apply State.takeCap_moves)
    | split

theorem State.epData_moves {a0 a1} (h : Moves m s₀ s) (q : Sub 0x40 m := by exact .of ‹_› rfl) :
    Moves m s₀ (State.epData a0 a1 s) := by
  unfold State.epData
  try dsimp only
  repeat' first
    | with_reducible assumption | exact Sub.of ‹_› rfl | (intro _)
    | (with_reducible first | apply Moves.ite | apply State.modBlk_moves | apply State.push_moves)
    | split

theorem State.epListIn_moves {a0} (h : Moves m s₀ s) (q : Sub 0x718ae1 m := by exact .of ‹_› rfl) :
    Moves m s₀ (State.epListIn a0 s) := by
  unfold State.epListIn
  try dsimp only
  repeat' first
    | with_reducible assumption | exact Sub.of ‹_› rfl
    | (with_reducible first | apply Moves.ite | apply State.pump_moves)

theorem execEpReadCompletion_moves {a0 a1 a2 a3} (h : Moves m s₀ s) (q : Sub 0x75aae1 m := by exact .of ‹_› rfl) :
    OutMoves m s₀ (execEpReadCompletion a0 a1 a2 a3 s) := by
  unfold execEpReadCompletion
  try dsimp only
  repeat' first
    | (with_reducible first | apply OutMoves.next | assumption)
    | exact Sub.of ‹_› rfl | (intro _)
    | (with_reducible first
        | apply Moves.ite | apply OutMoves.ite | apply State.epData_moves | apply State.epEntry_moves
        | apply State.epFail_moves | apply State.epListIn_moves | apply State.epReads_moves
        | apply State.epRetire_moves | apply State.tick_moves)
    | split

theorem EndpointSt.logErr_tags (u : Bool) (b header : Nat) (e : EndpointSt) : (EndpointSt.logErr u b header e).tags = e.tags := by
  unfold EndpointSt.logErr
  split <;> rfl

theorem State.epError_moves {a b c} (h : Moves m s₀ s) (q : Sub 0x500001 m := by exact .of ‹_› rfl) : Moves m s₀ (State.epError a b c s) := by
  unfold State.epError
  dsimp only
  refine .ite (State.tick_moves h) (.ite (State.modEp_moves _ (State.tick_moves h) id) (.ite (State.emit_moves _ ?_) ?_)) <;>
    exact State.modEp_moves _ (State.modEp_moves _ (State.tick_moves h) id)
      fun k => (EndpointSt.logErr_tags a b c _).symm ▸ k

theorem State.epSecond_moves (h : Moves m s₀ s) (q : Sub 0x300001 m := by exact .of ‹_› rfl) :
    Moves m s₀ (State.epSecond s) := by
  unfold State.epSecond
  try dsimp only
  repeat' first
    | with_reducible assumption | exact Sub.of ‹_› rfl | with_reducible exact id | exact TagsOk.filter _
    | with_reducible exact fun _ => TagsOk.nil | refine TagsOk.map _ ?_ | (intro _)
    | (with_reducible first
        | apply Moves.ite | apply Moves.foldl | apply State.modEp_moves | apply State.record_moves)

theorem execEpCompletionTimeout_moves {a0} (h : Moves m s₀ s) (q : Sub 0x718ae1 m := by exact .of ‹_› rfl) :
    OutMoves m s₀ (execEpCompletionTimeout a0 s) := by
  unfold execEpCompletionTimeout
  try dsimp only
  repeat' first
    | (with_reducible first | apply OutMoves.next | assumption)
    | exact Sub.of ‹_› rfl | with_reducible exact id | exact TagsOk.filter _
    | with_reducible exact fun _ => TagsOk.nil | refine TagsOk.map _ ?_ | (intro _)
    | (with_reducible first
        | apply Moves.ite | apply OutMoves.ite | apply State.epError_moves | apply State.epFail_moves
        | apply State.epReads_moves | apply State.epRetire_moves | apply State.epTake_moves
        | apply State.modEp_moves | apply State.tick_moves)
    | split

theorem State.epForget_moves (h : Moves m s₀ s) (q : Sub 0x40 m := by exact .of ‹_› rfl) :
    Moves m s₀ (State.epForget s) := by
  unfold State.epForget
  try dsimp only
  repeat' first
    | with_reducible assumption | exact Sub.of ‹_› rfl | (intro _)
    | (with_reducible first | apply Moves.ite | apply State.dropJobs_moves | apply State.modCe_moves)

theorem State.epDropCmds_moves (h : Moves m s₀ s) (q : Sub 0x718ae1 m := by exact .of ‹_› rfl) :
    Moves m s₀ (State.epDropCmds s).1 := by
  unfold State.epDropCmds
  try dsimp only
  repeat' first
    | with_reducible assumption | exact Sub.of ‹_› rfl | (intro _)
    | (with_reducible first
        | apply Moves.foldl | apply Moves.foldlSnd | apply Moves.foldlFst | apply State.dropCmd_moves
        | apply State.epForget_moves | apply State.settle_moves)

theorem State.epReset_moves {a0} (h : Moves m s₀ s) (q : Sub 0x7d8af1 m := by exact .of ‹_› rfl) :
    Moves m s₀ (State.epReset a0 s) := by
  unfold State.epReset
  try dsimp only
  repeat' first
    | with_reducible assumption | exact Sub.of ‹_› rfl | with_reducible exact id | exact TagsOk.filter _
    | with_reducible exact fun _ => TagsOk.nil | refine TagsOk.map _ ?_ | exact Nat.le_max_left _ _
    | exact (List.length_filter_le _ _).trans (Nat.le_max_left _ _) | exact Nat.zero_le _
    | exact (List.length_map _).le.trans (Nat.le_max_left _ _)
    | exact (modFirst_length _ _ _).le.trans (Nat.le_max_left _ _) | (intro _)
    | (with_reducible first
        | apply Moves.ite | apply State.closeUnit_moves | apply State.count_moves | apply State.epDrop_moves
        | apply State.epDropCmds_moves | apply State.modDict_moves | apply State.modEp_moves
        | apply State.modMd_moves | apply State.record_moves | apply State.tick_moves)

theorem execFunctionLevelReset_moves {a0} (h : Moves m s₀ s) (q : Sub 0x7d8af1 m := by exact .of ‹_› rfl) :
    OutMoves m s₀ (execFunctionLevelReset a0 s) := by
  unfold execFunctionLevelReset
  try dsimp only
  repeat' first
    | (with_reducible first | apply OutMoves.next | assumption)
    | exact Sub.of ‹_› rfl
    | (with_reducible first | apply Moves.ite | apply OutMoves.ite | apply State.epReset_moves)

theorem execEpError_moves {a0 a1 a2 a3} (h : Moves m s₀ s) (q : Sub 0x7d8af1 m := by exact .of ‹_› rfl) :
    OutMoves m s₀ (execEpError a0 a1 a2 a3 s) := by
  unfold execEpError
  try dsimp only
  repeat' first
    | (with_reducible first | apply OutMoves.next | assumption)
    | exact Sub.of ‹_› rfl | with_reducible exact id | exact TagsOk.filter _
    | with_reducible exact fun _ => TagsOk.nil | refine TagsOk.map _ ?_ | (intro _)
    | (with_reducible first
        | apply Moves.ite | apply OutMoves.ite | apply State.epError_moves | apply State.epReset_moves
        | apply State.modEp_moves)

theorem execEpResetDone_moves {a0} (h : Moves m s₀ s) (q : Sub 0x340011 m := by exact .of ‹_› rfl) :
    OutMoves m s₀ (execEpResetDone a0 s) := by
  unfold execEpResetDone
  try dsimp only
  repeat' first
    | (with_reducible first | apply OutMoves.next | assumption)
    | exact Sub.of ‹_› rfl | with_reducible exact id | exact TagsOk.filter _
    | with_reducible exact fun _ => TagsOk.nil | refine TagsOk.map _ ?_ | (intro _)
    | (with_reducible first
        | apply Moves.ite | apply OutMoves.ite | apply State.epLinkUp_moves | apply State.modEp_moves
        | apply State.modMd_moves | apply State.record_moves | apply State.reopenUnit_moves)

theorem State.msixPending_moves (h : Moves m s₀ s) (q : Sub 0x500000 m := by exact .of ‹_› rfl) :
    Moves m s₀ (State.msixPending s) := by
  unfold State.msixPending
  try dsimp only
  repeat' first
    | with_reducible assumption | exact Sub.of ‹_› rfl | with_reducible exact id | exact TagsOk.filter _
    | with_reducible exact fun _ => TagsOk.nil | refine TagsOk.map _ ?_ | (intro _)
    | (with_reducible first | apply Moves.ite | apply Moves.foldl | apply State.emit_moves | apply State.modEp_moves)

theorem State.msixAgain_moves (h : Moves m s₀ s) (q : Sub 0x500000 m := by exact .of ‹_› rfl) :
    Moves m s₀ (State.msixAgain s) := by
  unfold State.msixAgain
  try dsimp only
  repeat' first
    | with_reducible assumption | exact Sub.of ‹_› rfl | with_reducible exact id | exact TagsOk.filter _
    | with_reducible exact fun _ => TagsOk.nil | refine TagsOk.map _ ?_ | (intro _)
    | (with_reducible first
        | apply Moves.ite | apply Moves.foldl | apply State.modEp_moves | apply State.msixRaise_moves)

theorem execInterruptModeChange_moves {a0 a1 a2 a3} (h : Moves m s₀ s) (q : Sub 0x500000 m := by exact .of ‹_› rfl) :
    OutMoves m s₀ (execInterruptModeChange a0 a1 a2 a3 s) := by
  unfold execInterruptModeChange
  try dsimp only
  repeat' first
    | (with_reducible first | apply OutMoves.next | assumption)
    | exact Sub.of ‹_› rfl | with_reducible exact id | exact TagsOk.filter _
    | with_reducible exact fun _ => TagsOk.nil | refine TagsOk.map _ ?_ | (intro _)
    | (with_reducible first
        | apply Moves.ite | apply OutMoves.ite | apply State.intaUpdate_moves | apply State.modEp_moves
        | apply State.msixAgain_moves | apply State.msixPending_moves)

theorem execInterruptUnmask_moves {a0} (h : Moves m s₀ s) (q : Sub 0x500000 m := by exact .of ‹_› rfl) :
    OutMoves m s₀ (execInterruptUnmask a0 s) := by
  unfold execInterruptUnmask
  try dsimp only
  repeat' first
    | (with_reducible first | apply OutMoves.next | assumption)
    | exact Sub.of ‹_› rfl | with_reducible exact id | exact TagsOk.filter _
    | with_reducible exact fun _ => TagsOk.nil | refine TagsOk.map _ ?_ | (intro _)
    | (with_reducible first
        | apply Moves.ite | apply OutMoves.ite | apply State.modEp_moves | apply State.msixPending_moves)
    | split

theorem execBusMasterClear_moves {a0} (h : Moves m s₀ s) (q : Sub 0x718ae1 m := by exact .of ‹_› rfl) :
    OutMoves m s₀ (execBusMasterClear a0 s) := by
  unfold execBusMasterClear
  try dsimp only
  repeat' first
    | (with_reducible first | apply OutMoves.next | assumption)
    | exact Sub.of ‹_› rfl | with_reducible exact id | exact TagsOk.filter _
    | with_reducible exact fun _ => TagsOk.nil | refine TagsOk.map _ ?_ | (intro _)
    | (with_reducible first
        | apply Moves.ite | apply OutMoves.ite | apply Moves.foldl | apply State.epFail_moves
        | apply State.modEp_moves | apply State.record_moves)
    | rfl

theorem execBusMasterSet_moves {a0 a1} (h : Moves m s₀ s) (q : Sub 0x500000 m := by exact .of ‹_› rfl) :
    OutMoves m s₀ (execBusMasterSet a0 a1 s) := by
  unfold execBusMasterSet
  try dsimp only
  repeat' first
    | (with_reducible first | apply OutMoves.next | assumption)
    | exact Sub.of ‹_› rfl | with_reducible exact id | exact TagsOk.filter _
    | with_reducible exact fun _ => TagsOk.nil | refine TagsOk.map _ ?_ | (intro _)
    | (with_reducible first
        | apply Moves.ite | apply OutMoves.ite | apply State.epReads_moves | apply State.epRelease_moves
        | apply State.modEp_moves | apply State.msixPending_moves)

theorem execD3hotEntry_moves (h : Moves m s₀ s) (q : Sub 0x500000 m := by exact .of ‹_› rfl) :
    OutMoves m s₀ (execD3hotEntry s) := by
  unfold execD3hotEntry
  try dsimp only
  repeat' first
    | (with_reducible first | apply OutMoves.next | assumption)
    | exact Sub.of ‹_› rfl | with_reducible exact id | exact TagsOk.filter _
    | with_reducible exact fun _ => TagsOk.nil | refine TagsOk.map _ ?_ | (intro _)
    | (with_reducible first
        | apply Moves.ite | apply OutMoves.ite | apply State.intaUpdate_moves | apply State.modEp_moves)

theorem execD0Entry_moves (h : Moves m s₀ s) (q : Sub 0x500000 m := by exact .of ‹_› rfl) :
    OutMoves m s₀ (execD0Entry s) := by
  unfold execD0Entry
  try dsimp only
  repeat' first
    | (with_reducible first | apply OutMoves.next | assumption)
    | exact Sub.of ‹_› rfl | with_reducible exact id | exact TagsOk.filter _
    | with_reducible exact fun _ => TagsOk.nil | refine TagsOk.map _ ?_ | (intro _)
    | (with_reducible first
        | apply Moves.ite | apply OutMoves.ite | apply Moves.foldl | apply State.epComplete_moves
        | apply State.epReads_moves | apply State.epRelease_moves | apply State.intaUpdate_moves
        | apply State.modEp_moves | apply State.msixPending_moves | apply State.msixRaise_moves)

theorem State.epDisable_moves (h : Moves m s₀ s) (q : Sub 0x718ae1 m := by exact .of ‹_› rfl) :
    Moves m s₀ (State.epDisable s) := by
  unfold State.epDisable
  try dsimp only
  repeat' first
    | with_reducible assumption | exact Sub.of ‹_› rfl | with_reducible exact id | exact TagsOk.filter _
    | with_reducible exact fun _ => TagsOk.nil | refine TagsOk.map _ ?_ | (intro _)
    | (with_reducible first
        | apply State.epDrop_moves | apply State.epDropCmds_moves | apply State.intaUpdate_moves
        | apply State.modEp_moves)

theorem State.epShutdown_moves (h : Moves m s₀ s) (q : Sub 0x100000 m := by exact .of ‹_› rfl) :
    Moves m s₀ (State.epShutdown s) := by
  unfold State.epShutdown
  try dsimp only
  repeat' first
    | with_reducible assumption | exact Sub.of ‹_› rfl | with_reducible exact id | exact TagsOk.filter _
    | with_reducible exact fun _ => TagsOk.nil | refine TagsOk.map _ ?_ | (intro _)
    | (with_reducible first | apply Moves.ite | apply State.modEp_moves)

theorem execEpCcWrite_moves {a0 a1 a2 a3 a4} (h : Moves m s₀ s) (q : Sub 0x718ae1 m := by exact .of ‹_› rfl) :
    OutMoves m s₀ (execEpCcWrite a0 a1 a2 a3 a4 s) := by
  unfold execEpCcWrite
  try dsimp only
  repeat' first
    | (with_reducible first | apply OutMoves.next | assumption)
    | exact Sub.of ‹_› rfl | with_reducible exact id | exact TagsOk.filter _
    | with_reducible exact fun _ => TagsOk.nil | refine TagsOk.map _ ?_ | (intro _)
    | (with_reducible first
        | apply Moves.ite | apply OutMoves.ite | apply State.epDisable_moves | apply State.epShutdown_moves
        | apply State.modEp_moves)

theorem State.epAdmin_moves {a0 a1 a2} (h : Moves m s₀ s) (q : Sub 0xe16041 m := by exact .of ‹_› rfl) (k2 : ∀  u, Moves m s₀ u → Moves m s₀ (a2 u).2) :
    Moves m s₀ (State.epAdmin a0 a1 a2 s) := by
  unfold State.epAdmin
  try dsimp only
  repeat' first
    | with_reducible assumption | exact Sub.of ‹_› rfl | (intro _)
    | (with_reducible first | apply Moves.ite | apply State.adminCmd_moves | apply State.respond_moves | apply k2)

theorem execCreateIoCompletionQueue_moves {a0 a1 a2 a3 a4 a5 a6 a7} (h : Moves m s₀ s) (q : Sub 0xf16041 m := by exact .of ‹_› rfl) :
    OutMoves m s₀ (execCreateIoCompletionQueue a0 a1 a2 a3 a4 a5 a6 a7 s) := by
  unfold execCreateIoCompletionQueue
  try dsimp only
  repeat' first
    | (with_reducible first | apply OutMoves.next | assumption)
    | exact Sub.of ‹_› rfl | with_reducible exact id | exact TagsOk.filter _
    | with_reducible exact fun _ => TagsOk.nil | refine TagsOk.map _ ?_ | (intro _)
    | (with_reducible first
        | apply Moves.ite | apply OutMoves.ite | apply State.epAdmin_moves | apply State.modEp_moves)
    | split

theorem execCreateIoSubmissionQueue_moves {a0 a1 a2 a3 a4 a5 a6} (h : Moves m s₀ s) (q : Sub 0xf16041 m := by exact .of ‹_› rfl) :
    OutMoves m s₀ (execCreateIoSubmissionQueue a0 a1 a2 a3 a4 a5 a6 s) := by
  unfold execCreateIoSubmissionQueue
  try dsimp only
  repeat' first
    | (with_reducible first | apply OutMoves.next | assumption)
    | exact Sub.of ‹_› rfl | with_reducible exact id | exact TagsOk.filter _
    | with_reducible exact fun _ => TagsOk.nil | refine TagsOk.map _ ?_ | (intro _)
    | (with_reducible first
        | apply Moves.ite | apply OutMoves.ite | apply State.epAdmin_moves | apply State.modEp_moves)
    | split

theorem execDeleteIoSubmissionQueue_moves {a0 a1 a2} (h : Moves m s₀ s) (q : Sub 0xf1eae1 m := by exact .of ‹_› rfl) :
    OutMoves m s₀ (execDeleteIoSubmissionQueue a0 a1 a2 s) := by
  unfold execDeleteIoSubmissionQueue
  try dsimp only
  repeat' first
    | (with_reducible first | apply OutMoves.next | assumption)
    | exact Sub.of ‹_› rfl | with_reducible exact id | exact TagsOk.filter _
    | with_reducible exact fun _ => TagsOk.nil | refine TagsOk.map _ ?_ | (intro _)
    | (with_reducible first
        | apply Moves.ite | apply OutMoves.ite | apply Moves.foldl | apply State.dropCmd_moves
        | apply State.epAdmin_moves | apply State.epDrop_moves | apply State.modEp_moves | apply State.settle_moves)
    | dsimp only | split

theorem execDeleteIoCompletionQueue_moves {a0 a1 a2} (h : Moves m s₀ s) (q : Sub 0xf16041 m := by exact .of ‹_› rfl) :
    OutMoves m s₀ (execDeleteIoCompletionQueue a0 a1 a2 s) := by
  unfold execDeleteIoCompletionQueue
  try dsimp only
  repeat' first
    | (with_reducible first | apply OutMoves.next | assumption)
    | exact Sub.of ‹_› rfl | with_reducible exact id | exact TagsOk.filter _
    | with_reducible exact fun _ => TagsOk.nil | refine TagsOk.map _ ?_ | (intro _)
    | (with_reducible first
        | apply Moves.ite | apply OutMoves.ite | apply State.epAdmin_moves | apply State.modEp_moves)
    | split

/-! ### Machine/Partial.lean -/

theorem State.resetPull_moves {a0 a1 a2 a3} (h : Moves m s₀ s) (q : Sub 0x21a041 m := by exact .of ‹_› rfl) :
    Moves m s₀ (State.resetPull a0 a1 a2 a3 s) := by
  unfold State.resetPull
  try dsimp only
  repeat' first
    | with_reducible assumption | exact Sub.of ‹_› rfl | (intro _)
    | (with_reducible first
        | apply Moves.ite | apply Moves.foldl | apply State.dropJobs_moves | apply State.dropPullReq_moves
        | apply State.freeOwned_moves | apply State.modCy_moves | apply State.modPull_moves
        | apply State.pullEnds_moves | apply State.push_moves | apply State.record_moves
        | apply State.returned_moves | apply State.tick_moves)
    | dsimp only | split

theorem State.coreStop_moves {a0} (h : Moves m s₀ s) (q : Sub 0x71aee1 m := by exact .of ‹_› rfl) :
    Moves m s₀ (State.coreStop a0 s).1 := by
  unfold State.coreStop
  try dsimp only
  repeat' first
    | with_reducible assumption | exact Sub.of ‹_› rfl | (intro _)
    | (with_reducible first
        | apply Moves.ite | apply Moves.iteFst | apply Moves.foldl | apply Moves.foldlSnd | apply Moves.foldlFst
        | apply State.discardAccum_moves | apply State.modCy_moves | apply State.resetBlock_moves
        | apply State.resetPull_moves | apply State.unassign_moves)
    | dsimp only | split

theorem State.portStop_moves {a0} (h : Moves m s₀ s) (q : Sub 0x71eae1 m := by exact .of ‹_› rfl) :
    Moves m s₀ (State.portStop a0 s).1 := by
  unfold State.portStop
  try dsimp only
  repeat' first
    | with_reducible assumption | exact Sub.of ‹_› rfl | (intro _)
    | (with_reducible first
        | apply Moves.ite | apply Moves.iteFst | apply Moves.foldl | apply Moves.foldlSnd | apply Moves.foldlFst
        | apply State.dropJobs_moves | apply State.dropRoomIn_moves | apply State.linkDown_moves
        | apply State.modPc_moves | apply State.pullAgain_moves | apply State.tick_moves
        | apply State.trainPort_moves)

theorem State.portReads_moves {a0} (h : Moves m s₀ s) (q : Sub 0x60bec1 m := by exact .of ‹_› rfl) :
    Moves m s₀ (State.portReads a0 s) := by
  unfold State.portReads
  try dsimp only
  repeat' first
    | with_reducible assumption | exact Sub.of ‹_› rfl | (intro _)
    | (with_reducible first | apply Moves.foldl | apply State.driveReset_moves | apply State.modDrives_moves)

theorem State.rootStop_moves {a0} (h : Moves m s₀ s) (q : Sub 0x60bec1 m := by exact .of ‹_› rfl) :
    Moves m s₀ (State.rootStop a0 s).1 := by
  unfold State.rootStop
  try dsimp only
  repeat' first
    | with_reducible assumption | exact Sub.of ‹_› rfl | (intro _)
    | (with_reducible first
        | apply Moves.ite | apply Moves.iteFst | apply Moves.foldl | apply Moves.foldlSnd | apply Moves.foldlFst
        | apply State.driveCounted_moves | apply State.dropJobs_moves | apply State.freeOwned_moves
        | apply State.journalGone_moves | apply State.modDrives_moves | apply State.portReads_moves
        | apply State.returned_moves)

theorem State.stewardRuns_moves {a0} (h : Moves m s₀ s) (q : Sub 0x800004 m := by exact .of ‹_› rfl) :
    Moves m s₀ (State.stewardRuns a0 s) := by
  unfold State.stewardRuns
  try dsimp only
  repeat' first
    | with_reducible assumption | exact Sub.of ‹_› rfl | (intro _)
    | (with_reducible first
        | apply Moves.ite | apply Moves.foldl | apply State.drawn_moves | apply State.endRun_moves)

theorem State.stewardStop_moves {a0} (h : Moves m s₀ s) (q : Sub 0xe02005 m := by exact .of ‹_› rfl) :
    Moves m s₀ (State.stewardStop a0 s).1 := by
  unfold State.stewardStop
  try dsimp only
  repeat' first
    | with_reducible assumption | exact Sub.of ‹_› rfl | (intro _)
    | (with_reducible first
        | apply Moves.foldl | apply Moves.foldlSnd | apply Moves.foldlFst | apply State.stewardRuns_moves
        | apply State.waitEnds_moves)

theorem State.joinReset_moves {a0 a1 a2} (h : Moves m s₀ s) (q : Sub 0x40000 m := by exact .of ‹_› rfl) :
    Moves m s₀ (State.joinReset a0 a1 a2 s) := by
  unfold State.joinReset
  try dsimp only
  repeat' first
    | with_reducible assumption | exact Sub.of ‹_› rfl | (intro _) | with_reducible apply State.modMd_moves

theorem State.startReset_moves {a0 a1 a2 a3} (h : Moves m s₀ s) (q : Sub 0xfdfef5 m := by exact .of ‹_› rfl) :
    Moves m s₀ (State.startReset a0 a1 a2 a3 s) := by
  unfold State.startReset
  try dsimp only
  repeat' first
    | with_reducible assumption | exact Sub.of ‹_› rfl | (intro _)
    | (with_reducible first
        | apply Moves.ite | apply State.closeUnit_moves | apply State.coreStop_moves | apply State.epReset_moves
        | apply State.joinReset_moves | apply State.modMd_moves | apply State.portStop_moves
        | apply State.record_moves | apply State.rootStop_moves | apply State.settle_moves
        | apply State.stewardStop_moves | apply State.tick_moves)
    | split

theorem execFwUnitReset_moves {a0 a1} (h : Moves m s₀ s) (q : Sub 0xfdfef5 m := by exact .of ‹_› rfl) :
    OutMoves m s₀ (execFwUnitReset a0 a1 s) := by
  unfold execFwUnitReset
  try dsimp only
  repeat' first
    | (with_reducible first | apply OutMoves.next | assumption)
    | exact Sub.of ‹_› rfl | (intro _)
    | (with_reducible first
        | apply Moves.ite | apply OutMoves.ite | apply State.action_moves | apply State.endRun_moves
        | apply State.startReset_moves)

theorem execCyCoreReset_moves {a0 a1} (h : Moves m s₀ s) (q : Sub 0xfdfef5 m := by exact .of ‹_› rfl) :
    OutMoves m s₀ (execCyCoreReset a0 a1 s) := by
  unfold execCyCoreReset
  try dsimp only
  repeat' first
    | (with_reducible first | apply OutMoves.next | assumption)
    | exact Sub.of ‹_› rfl | (intro _)
    | (with_reducible first
        | apply Moves.ite | apply OutMoves.ite | apply State.action_moves | apply State.endRun_moves
        | apply State.startReset_moves)

theorem execCoreFault_moves {a0 a1 a2} (h : Moves m s₀ s) (q : Sub 0xfdfef5 m := by exact .of ‹_› rfl) :
    OutMoves m s₀ (execCoreFault a0 a1 a2 s) := by
  unfold execCoreFault
  try dsimp only
  repeat' first
    | (with_reducible first | apply OutMoves.next | assumption)
    | exact Sub.of ‹_› rfl | (intro _)
    | (with_reducible first
        | apply Moves.ite | apply OutMoves.ite | apply Moves.foldl | apply Moves.foldlSnd | apply Moves.foldlFst
        | apply State.resetBlock_moves | apply State.resetPull_moves | apply State.startReset_moves)

theorem execStewardWatchdog_moves {a0} (h : Moves m s₀ s) (q : Sub 0xfdfef5 m := by exact .of ‹_› rfl) :
    OutMoves m s₀ (execStewardWatchdog a0 s) := by
  unfold execStewardWatchdog
  try dsimp only
  repeat' first
    | (with_reducible first | apply OutMoves.next | assumption)
    | exact Sub.of ‹_› rfl
    | (with_reducible first | apply Moves.ite | apply OutMoves.ite | apply State.startReset_moves)

theorem State.rootReady_moves {a0} (h : Moves m s₀ s) (q : Sub 0x4000c0 m := by exact .of ‹_› rfl) :
    Moves m s₀ (State.rootReady a0 s) := by
  unfold State.rootReady
  try dsimp only
  repeat' first
    | with_reducible assumption | exact Sub.of ‹_› rfl | (intro _)
    | (with_reducible first
        | apply Moves.ite | apply Moves.foldl | apply State.issueDrive_moves | apply State.modDriveCmd_moves
        | apply State.modDrives_moves | apply State.repeatWrite_moves | apply State.ringNext_moves)

theorem execUnitReady_moves {a0} (h : Moves m s₀ s) (q : Sub 0x6580d1 m := by exact .of ‹_› rfl) :
    OutMoves m s₀ (execUnitReady a0 s) := by
  unfold execUnitReady
  try dsimp only
  repeat' first
    | (with_reducible first | apply OutMoves.next | assumption)
    | exact Sub.of ‹_› rfl | (intro _)
    | (with_reducible first
        | apply Moves.ite | apply OutMoves.ite | apply State.freeOfUnit_moves | apply State.modCy_moves
        | apply State.modMd_moves | apply State.reopenUnit_moves | apply State.rootReady_moves)
    | split

theorem State.resetEnds_moves {a0 a1} (h : Moves m s₀ s) (q : Sub 0x4 m := by exact .of ‹_› rfl) :
    Moves m s₀ (State.resetEnds a0 a1 s) := by
  unfold State.resetEnds
  try dsimp only
  repeat' first
    | with_reducible assumption | exact Sub.of ‹_› rfl
    | (with_reducible first | apply Moves.ite | apply State.endRun_moves)

theorem execUnitReadyLimit_moves {a0} (h : Moves m s₀ s) (q : Sub 0xffffff m := by exact .of ‹_› rfl) :
    OutMoves m s₀ (execUnitReadyLimit a0 s) := by
  unfold execUnitReadyLimit
  try dsimp only
  repeat' first
    | (with_reducible first | apply OutMoves.next | assumption)
    | exact Sub.of ‹_› rfl | with_reducible exact id | exact TagsOk.filter _
    | with_reducible exact fun _ => TagsOk.nil | refine TagsOk.map _ ?_ | (intro _)
    | (with_reducible first
        | apply Moves.ite | apply OutMoves.ite | apply State.contain_moves | apply State.freeOfUnit_moves
        | apply State.modCy_moves | apply State.modEp_moves | apply State.modMd_moves | apply State.modPc_moves
        | apply State.record_moves | apply State.resetEnds_moves | apply State.warmReset_moves)
    | split

theorem State.portLeft_moves {a0} (h : Moves m s₀ s) (q : Sub 0x60bec1 m := by exact .of ‹_› rfl) :
    Moves m s₀ (State.portLeft a0 s) := by
  unfold State.portLeft
  try dsimp only
  repeat' first
    | with_reducible assumption | exact Sub.of ‹_› rfl | (intro _)
    | (with_reducible first
        | apply Moves.ite | apply Moves.foldl | apply State.driveReset_moves | apply State.modCe_moves)

theorem State.resetsLeg_moves (h : Moves m s₀ s) (q : Sub 0x64bec5 m := by exact .of ‹_› rfl) :
    Moves m s₀ (State.resetsLeg s) := by
  unfold State.resetsLeg
  try dsimp only
  repeat' first
    | with_reducible assumption | exact Sub.of ‹_› rfl | (intro _)
    | (with_reducible first
        | apply Moves.ite | apply Moves.foldl | apply State.freeOfUnit_moves | apply State.modMd_moves
        | apply State.portLeft_moves | apply State.portReads_moves | apply State.resetEnds_moves)
    | dsimp only | split

/-! ### Machine/Sequencer.lean -/

theorem cellWork_before {opc bytes good} (c : CellWord) (u : State) (h : Moves m s₀ u) (q : Sub 0xf5fee3 m := by exact .of ‹_› rfl) :
    Moves m s₀ ((cellWork opc bytes good).before c u) := by
  unfold cellWork
  split <;> dsimp only <;> first | exact h | exact State.lateKeys_moves (State.assignCores_moves h) | exact State.rowWaits_moves h | exact State.settleResults_moves h

theorem cellWork_run {opc bytes good} (c : CellWord) (t : Transfer) (b : Option Nat) (u : State) (h : Moves m s₀ u)
    (q : Sub 0xf5fee3 m := by exact .of ‹_› rfl) : Moves m s₀ ((cellWork opc bytes good).run c t b u) := by
  unfold cellWork
  split <;> dsimp only <;> first
    | exact runNetIn_moves h | exact runNetOut_moves h | exact runCipher_moves h | exact runDriveIn_moves h | exact runDriveOut_moves h
    | exact runParityIn_moves h | exact State.reconsOn_moves (runParityOut_moves h) | exact runSisterOut_moves h
    | exact runSisterIn_moves h | exact runCacheRd_moves h | exact runCacheWr_moves h | exact runContext_moves h
    | exact runJournal_moves h | exact runEndpoint_moves h | exact runVault_moves h | exact runControl_moves h | exact runDump_moves h
    | exact State.returnBed_moves h

theorem State.cellRest_moves {a0 a1} (h : Moves m s₀ s) (q : Sub 0xf5fef3 m := by exact .of ‹_› rfl) : Moves m s₀ (State.cellRest a0 a1 s) := by
  unfold State.cellRest
  exact State.fire_moves (.ite (State.drawn_moves h) h) (kb := fun c u k => cellWork_before c u k) (kr := fun c t b u k => cellWork_run c t b u k)

theorem State.slotRest_moves {a0} (h : Moves m s₀ s) (q : Sub 0xf5fef3 m := by exact .of ‹_› rfl) :
    Moves m s₀ (State.slotRest a0 s) := by
  unfold State.slotRest
  try dsimp only
  repeat' first
    | with_reducible assumption | exact Sub.of ‹_› rfl | (intro _)
    | (with_reducible first
        | apply Moves.ite | apply Moves.foldl | apply State.cellRest_moves | apply State.settle_moves)

theorem State.toSlot_moves {a0} (h : Moves m s₀ s) (q : Sub 0xf5fef3 m := by exact .of ‹_› rfl) :
    Moves m s₀ (State.toSlot a0 s) := by
  unfold State.toSlot
  try dsimp only
  repeat' first
    | with_reducible assumption | exact Sub.of ‹_› rfl | (intro _)
    | (with_reducible first | apply Moves.ite | apply Moves.foldl | apply State.slotRest_moves)

theorem State.cellCommand_moves {a0 a1 a2 a3 a4 a5} (h : Moves m s₀ s) (q : Sub 0xf5fef3 m := by exact .of ‹_› rfl) : Moves m s₀ (State.cellCommand a0 a1 a2 a3 a4 a5 s) := by
  unfold State.cellCommand
  exact .ite (State.settle_moves (State.fire_moves (State.toSlot_moves h) (kb := fun c u k => cellWork_before c u k)
    (kr := fun c t b u k => cellWork_run c t b u k))) h

theorem execNoneCmd_moves {a0 a1 a2} (h : Moves m s₀ s) (q : Sub 0xf5fef3 m := by exact .of ‹_› rfl) :
    OutMoves m s₀ (execNoneCmd a0 a1 a2 s) := by
  unfold execNoneCmd
  try dsimp only
  repeat' first
    | (with_reducible first | apply OutMoves.next | assumption)
    | exact Sub.of ‹_› rfl | with_reducible apply State.cellCommand_moves

theorem execNetOut_moves {a0 a1 a2 a3} (h : Moves m s₀ s) (q : Sub 0xf5fef3 m := by exact .of ‹_› rfl) :
    OutMoves m s₀ (execNetOut a0 a1 a2 a3 s) := by
  unfold execNetOut
  try dsimp only
  repeat' first
    | (with_reducible first | apply OutMoves.next | assumption)
    | exact Sub.of ‹_› rfl | with_reducible apply State.cellCommand_moves

theorem execCipher_moves {a0 a1 a2 a3} (h : Moves m s₀ s) (q : Sub 0xf5fef3 m := by exact .of ‹_› rfl) :
    OutMoves m s₀ (execCipher a0 a1 a2 a3 s) := by
  unfold execCipher
  try dsimp only
  repeat' first
    | (with_reducible first | apply OutMoves.next | assumption)
    | exact Sub.of ‹_› rfl | with_reducible apply State.cellCommand_moves

theorem execNetIn_moves {a0 a1 a2} (h : Moves m s₀ s) (q : Sub 0xf5fef3 m := by exact .of ‹_› rfl) :
    OutMoves m s₀ (execNetIn a0 a1 a2 s) := by
  unfold execNetIn
  try dsimp only
  repeat' first
    | (with_reducible first | apply OutMoves.next | assumption)
    | exact Sub.of ‹_› rfl | with_reducible apply State.cellCommand_moves

theorem execDriveIn_moves {a0 a1 a2} (h : Moves m s₀ s) (q : Sub 0xf5fef3 m := by exact .of ‹_› rfl) :
    OutMoves m s₀ (execDriveIn a0 a1 a2 s) := by
  unfold execDriveIn
  try dsimp only
  repeat' first
    | (with_reducible first | apply OutMoves.next | assumption)
    | exact Sub.of ‹_› rfl | with_reducible apply State.cellCommand_moves

theorem execDriveOut_moves {a0 a1 a2} (h : Moves m s₀ s) (q : Sub 0xf5fef3 m := by exact .of ‹_› rfl) :
    OutMoves m s₀ (execDriveOut a0 a1 a2 s) := by
  unfold execDriveOut
  try dsimp only
  repeat' first
    | (with_reducible first | apply OutMoves.next | assumption)
    | exact Sub.of ‹_› rfl | with_reducible apply State.cellCommand_moves

theorem execParityIn_moves {a0 a1 a2} (h : Moves m s₀ s) (q : Sub 0xf5fef3 m := by exact .of ‹_› rfl) :
    OutMoves m s₀ (execParityIn a0 a1 a2 s) := by
  unfold execParityIn
  try dsimp only
  repeat' first
    | (with_reducible first | apply OutMoves.next | assumption)
    | exact Sub.of ‹_› rfl | with_reducible apply State.cellCommand_moves

theorem execParityOut_moves {a0 a1 a2} (h : Moves m s₀ s) (q : Sub 0xf5fef3 m := by exact .of ‹_› rfl) :
    OutMoves m s₀ (execParityOut a0 a1 a2 s) := by
  unfold execParityOut
  try dsimp only
  repeat' first
    | (with_reducible first | apply OutMoves.next | assumption)
    | exact Sub.of ‹_› rfl | with_reducible apply State.cellCommand_moves

theorem execSisterOut_moves {a0 a1 a2} (h : Moves m s₀ s) (q : Sub 0xf5fef3 m := by exact .of ‹_› rfl) :
    OutMoves m s₀ (execSisterOut a0 a1 a2 s) := by
  unfold execSisterOut
  try dsimp only
  repeat' first
    | (with_reducible first | apply OutMoves.next | assumption)
    | exact Sub.of ‹_› rfl | with_reducible apply State.cellCommand_moves

theorem execSisterIn_moves {a0 a1 a2} (h : Moves m s₀ s) (q : Sub 0xf5fef3 m := by exact .of ‹_› rfl) :
    OutMoves m s₀ (execSisterIn a0 a1 a2 s) := by
  unfold execSisterIn
  try dsimp only
  repeat' first
    | (with_reducible first | apply OutMoves.next | assumption)
    | exact Sub.of ‹_› rfl | with_reducible apply State.cellCommand_moves

theorem execCacheRd_moves {a0 a1 a2} (h : Moves m s₀ s) (q : Sub 0xf5fef3 m := by exact .of ‹_› rfl) :
    OutMoves m s₀ (execCacheRd a0 a1 a2 s) := by
  unfold execCacheRd
  try dsimp only
  repeat' first
    | (with_reducible first | apply OutMoves.next | assumption)
    | exact Sub.of ‹_› rfl | with_reducible apply State.cellCommand_moves

theorem execCacheWr_moves {a0 a1 a2} (h : Moves m s₀ s) (q : Sub 0xf5fef3 m := by exact .of ‹_› rfl) :
    OutMoves m s₀ (execCacheWr a0 a1 a2 s) := by
  unfold execCacheWr
  try dsimp only
  repeat' first
    | (with_reducible first | apply OutMoves.next | assumption)
    | exact Sub.of ‹_› rfl | with_reducible apply State.cellCommand_moves

theorem execContext_moves {a0 a1 a2} (h : Moves m s₀ s) (q : Sub 0xf5fef3 m := by exact .of ‹_› rfl) :
    OutMoves m s₀ (execContext a0 a1 a2 s) := by
  unfold execContext
  try dsimp only
  repeat' first
    | (with_reducible first | apply OutMoves.next | assumption)
    | exact Sub.of ‹_› rfl | with_reducible apply State.cellCommand_moves

theorem execJournal_moves {a0 a1 a2} (h : Moves m s₀ s) (q : Sub 0xf5fef3 m := by exact .of ‹_› rfl) :
    OutMoves m s₀ (execJournal a0 a1 a2 s) := by
  unfold execJournal
  try dsimp only
  repeat' first
    | (with_reducible first | apply OutMoves.next | assumption)
    | exact Sub.of ‹_› rfl | with_reducible apply State.cellCommand_moves

theorem execEndpoint_moves {a0 a1 a2} (h : Moves m s₀ s) (q : Sub 0xf5fef3 m := by exact .of ‹_› rfl) :
    OutMoves m s₀ (execEndpoint a0 a1 a2 s) := by
  unfold execEndpoint
  try dsimp only
  repeat' first
    | (with_reducible first | apply OutMoves.next | assumption)
    | exact Sub.of ‹_› rfl | with_reducible apply State.cellCommand_moves

theorem execVault_moves {a0 a1 a2} (h : Moves m s₀ s) (q : Sub 0xf5fef3 m := by exact .of ‹_› rfl) :
    OutMoves m s₀ (execVault a0 a1 a2 s) := by
  unfold execVault
  try dsimp only
  repeat' first
    | (with_reducible first | apply OutMoves.next | assumption)
    | exact Sub.of ‹_› rfl | with_reducible apply State.cellCommand_moves

theorem execControl_moves {a0 a1 a2} (h : Moves m s₀ s) (q : Sub 0xf5fef3 m := by exact .of ‹_› rfl) :
    OutMoves m s₀ (execControl a0 a1 a2 s) := by
  unfold execControl
  try dsimp only
  repeat' first
    | (with_reducible first | apply OutMoves.next | assumption)
    | exact Sub.of ‹_› rfl | with_reducible apply State.cellCommand_moves

theorem execDump_moves {a0 a1 a2} (h : Moves m s₀ s) (q : Sub 0xf5fef3 m := by exact .of ‹_› rfl) :
    OutMoves m s₀ (execDump a0 a1 a2 s) := by
  unfold execDump
  try dsimp only
  repeat' first
    | (with_reducible first | apply OutMoves.next | assumption)
    | exact Sub.of ‹_› rfl | with_reducible apply State.cellCommand_moves

/-! ### Machine/Leg.lean -/

theorem State.clockBoundary_moves (h : Moves m s₀ s) (q : Sub 0x8 m := by exact .of ‹_› rfl) :
    Moves m s₀ (State.clockBoundary s) := by
  unfold State.clockBoundary
  try dsimp only
  repeat' first
    | with_reducible assumption | exact Sub.of ‹_› rfl | (intro _)
    | (with_reducible first | apply Moves.ite | apply State.modClk_moves)

theorem State.roundBoundary_moves (h : Moves m s₀ s) (q : Sub 0x10 m := by exact .of ‹_› rfl) :
    Moves m s₀ (State.roundBoundary s) := by
  unfold State.roundBoundary
  try dsimp only
  repeat' first
    | with_reducible assumption | exact Sub.of ‹_› rfl | (intro _)
    | (with_reducible first | apply Moves.ite | apply State.modTt_moves)

theorem State.pendingImage_moves (h : Moves m s₀ s) (q : Sub 0x10011 m := by exact .of ‹_› rfl) :
    Moves m s₀ (State.pendingImage s) := by
  unfold State.pendingImage
  try dsimp only
  repeat' first
    | with_reducible assumption | exact Sub.of ‹_› rfl | (intro _)
    | (with_reducible first | apply Moves.ite | apply State.activate_moves | apply State.modTt_moves)
    | split

theorem State.eligibleLeg_moves (h : Moves m s₀ s) (q : Sub 0x800 m := by exact .of ‹_› rfl) :
    Moves m s₀ (State.eligibleLeg s) := by
  unfold State.eligibleLeg
  try dsimp only
  repeat' first
    | with_reducible assumption | exact Sub.of ‹_› rfl | (intro _)
    | (with_reducible first | apply Moves.ite | apply State.modLg_moves)

theorem State.drainLeg_moves (h : Moves m s₀ s) (q : Sub 0x248651 m := by exact .of ‹_› rfl) :
    Moves m s₀ (State.drainLeg s) := by
  unfold State.drainLeg
  try dsimp only
  repeat' first
    | with_reducible assumption | exact Sub.of ‹_› rfl | (intro _)
    | (with_reducible first
        | apply Moves.ite | apply State.activationOver_moves | apply State.modMd_moves
        | apply State.patrolStop_moves | apply State.restartStewards_moves | apply State.saveCursors_moves
        | apply State.setMode_moves | apply State.setPs_moves)

theorem State.ledgerWork_moves (h : Moves m s₀ s) (q : Sub 0xe5fff7 m := by exact .of ‹_› rfl) :
    Moves m s₀ (State.ledgerWork s) := by
  unfold State.ledgerWork
  try dsimp only
  repeat' first
    | with_reducible assumption | exact Sub.of ‹_› rfl
    | (with_reducible first
        | apply Moves.ite | apply State.journalLeg_moves | apply State.lanternLeg_moves
        | apply State.ledgerLeg_moves | apply State.musterDecide_moves | apply State.sisterLeg_moves
        | apply State.sisterLegEnd_moves)

theorem State.secondLeg_moves (h : Moves m s₀ s) (q : Sub 0x31c401 m := by exact .of ‹_› rfl) :
    Moves m s₀ (State.secondLeg s) := by
  unfold State.secondLeg
  try dsimp only
  repeat' first
    | with_reducible assumption | exact Sub.of ‹_› rfl | (intro _)
    | (with_reducible first
        | apply Moves.ite | apply State.cipherSecond_moves | apply State.drawRecords_moves
        | apply State.epSecond_moves | apply State.modRb_moves | apply State.portSecond_moves
        | apply State.record_moves)

theorem State.boundaryBasics_moves (h : Moves m s₀ s) (q : Sub 0x6dbeff m := by exact .of ‹_› rfl) :
    Moves m s₀ (State.boundaryBasics s) := by
  unfold State.boundaryBasics
  try dsimp only
  repeat' first
    | with_reducible assumption | exact Sub.of ‹_› rfl | exact BookMoves.refl | exact BookMoves.reset
    | exact .clear .refl | exact .buckets _ .refl | (intro _)
    | (with_reducible first
        | apply Moves.ite | apply State.clockBoundary_moves | apply State.closuresAtBoundary_moves
        | apply State.countersAtBoundary_moves | apply State.flushBegin_moves | apply State.modBook_moves
        | apply State.modTt_moves | apply State.pendingImage_moves | apply State.reloadCells_moves
        | apply State.resetsLeg_moves | apply State.roundBoundary_moves | apply State.switchAtBoundary_moves
        | apply State.switchReportDue_moves | apply State.writesInForce_moves)

theorem State.boundaryFlow_moves (h : Moves m s₀ s) (q : Sub 0xe1e041 m := by exact .of ‹_› rfl) :
    Moves m s₀ (State.boundaryFlow s) := by
  unfold State.boundaryFlow
  try dsimp only
  repeat' first
    | with_reducible assumption | exact Sub.of ‹_› rfl
    | (with_reducible first
        | apply State.clockLeg_moves | apply State.connLeg_moves | apply State.evictKeys_moves
        | apply State.ptpLeg_moves | apply State.requestsLeg_moves | apply State.roomsLeg_moves
        | apply State.sampleVoqs_moves | apply State.watermarks_moves)

theorem State.boundaryWork_moves (h : Moves m s₀ s) (q : Sub 0xf5afe3 m := by exact .of ‹_› rfl) :
    Moves m s₀ (State.boundaryWork s) := by
  unfold State.boundaryWork
  try dsimp only
  repeat' first
    | with_reducible assumption | exact Sub.of ‹_› rfl
    | (with_reducible first
        | apply State.admitAll_moves | apply State.eligibleLeg_moves | apply State.epShutdown_moves
        | apply State.newBerths_moves | apply State.nsDeletePass_moves | apply State.rangeFree_moves
        | apply State.rebuildLeg_moves | apply State.replayNext_moves | apply State.resPass_moves
        | apply State.settle_moves)

theorem execLegBoundary_moves (h : Moves m s₀ s) (q : Sub 0xffffff m := by exact .of ‹_› rfl) :
    OutMoves m s₀ (execLegBoundary s) := by
  unfold execLegBoundary
  try dsimp only
  repeat' first
    | (with_reducible first | apply OutMoves.next | assumption)
    | exact Sub.of ‹_› rfl
    | (with_reducible first
        | apply Moves.ite | apply OutMoves.ite | apply State.boundaryBasics_moves | apply State.boundaryFlow_moves
        | apply State.boundaryWork_moves | apply State.drainLeg_moves | apply State.ledgerWork_moves
        | apply State.secondLeg_moves | apply State.shutdownLeg_moves | apply State.toSlot_moves)

/-! ### Machine/Guestbook.lean -/

theorem State.gbClear_moves {a0 a1} (h : Moves m s₀ s) (q : Sub 0x200005 m := by exact .of ‹_› rfl) :
    Moves m s₀ (State.gbClear a0 a1 s) := by
  unfold State.gbClear
  try dsimp only
  repeat' first
    | with_reducible assumption | exact Sub.of ‹_› rfl | exact BookMoves.refl | exact BookMoves.reset
    | exact .clear .refl | exact .buckets _ .refl | (intro _)
    | (with_reducible first
        | apply Moves.ite | apply State.action_moves | apply State.endRun_moves | apply State.modBook_moves
        | apply State.record_moves)

theorem execGbClear_moves {a0 a1} (h : Moves m s₀ s) (q : Sub 0x200005 m := by exact .of ‹_› rfl) :
    OutMoves m s₀ (execGbClear a0 a1 s) := by
  unfold execGbClear
  try dsimp only
  repeat' first
    | (with_reducible first | apply OutMoves.next | assumption)
    | exact Sub.of ‹_› rfl | with_reducible apply State.gbClear_moves

theorem execGateCopy_moves (h : Moves m s₀ s) (q : Sub 0x200001 m := by exact .of ‹_› rfl) :
    OutMoves m s₀ (execGateCopy s) := by
  unfold execGateCopy
  try dsimp only
  repeat' first
    | (with_reducible first | apply OutMoves.next | assumption)
    | exact Sub.of ‹_› rfl
    | (with_reducible first | apply Moves.ite | apply OutMoves.ite | apply State.copySection_moves)

/-! ### Machine/Views.lean -/

theorem State.clearStat_moves {a0 a1} (h : Moves m s₀ s) (q : Sub 0x8001 m := by exact .of ‹_› rfl) :
    Moves m s₀ (State.clearStat a0 a1 s) := by
  unfold State.clearStat
  try dsimp only
  repeat' first
    | with_reducible assumption | exact Sub.of ‹_› rfl | (intro _)
    | (with_reducible first | apply Moves.ite | apply State.modPo_moves | apply State.put_moves)

theorem State.clearEntries_moves {a0 a1 a2} (h : Moves m s₀ s) (q : Sub 0x204000 m := by exact .of ‹_› rfl) :
    Moves m s₀ (State.clearEntries a0 a1 a2 s) := by
  unfold State.clearEntries
  try dsimp only
  repeat' first
    | with_reducible assumption | exact Sub.of ‹_› rfl | exact BookMoves.refl | exact BookMoves.reset
    | exact .clear .refl | exact .buckets _ .refl | (intro _)
    | (with_reducible first | apply Moves.ite | apply State.modBook_moves | apply State.modPc_moves)

/-! ### Machine/Dictionary.lean -/

theorem State.after_moves {o} (h : OutMoves m s₀ o) (k : Moves m s₀ s) : Moves m s₀ (State.after s o) := by
  unfold State.after
  split
  · exact h _ rfl
  · exact k

theorem State.refill_moves {a0 a1 a2} (h : Moves m s₀ s) (q : Sub 0x200000 m := by exact .of ‹_› rfl) :
    Moves m s₀ (State.refill a0 a1 a2 s) := by
  unfold State.refill
  try dsimp only
  repeat' first
    | with_reducible assumption | exact Sub.of ‹_› rfl | exact BookMoves.refl | exact BookMoves.reset
    | exact .clear .refl | exact .buckets _ .refl | (intro _)
    | (with_reducible first | apply Moves.ite | apply State.modBook_moves)

theorem State.keepNum_moves {a0 a1 a2} (h : Moves m s₀ s) (q : Sub 0x280001 m := by exact .of ‹_› rfl) :
    Moves m s₀ (State.keepNum a0 a1 a2 s) := by
  unfold State.keepNum
  try dsimp only
  repeat' first
    | with_reducible assumption | exact Sub.of ‹_› rfl | exact Nat.le_max_left _ _
    | exact (List.length_filter_le _ _).trans (Nat.le_max_left _ _) | exact Nat.zero_le _
    | exact (List.length_map _).le.trans (Nat.le_max_left _ _)
    | exact (modFirst_length _ _ _).le.trans (Nat.le_max_left _ _) | (intro _)
    | (with_reducible first
        | apply Moves.ite | apply State.modDict_moves | apply State.put_moves | apply State.refill_moves)

theorem State.keepBlob_moves {a0 a1 a2} (h : Moves m s₀ s) (q : Sub 0x80002 m := by exact .of ‹_› rfl) :
    Moves m s₀ (State.keepBlob a0 a1 a2 s) := by
  unfold State.keepBlob
  try dsimp only
  repeat' first
    | with_reducible assumption | exact Sub.of ‹_› rfl | exact Nat.le_max_left _ _
    | exact (List.length_filter_le _ _).trans (Nat.le_max_left _ _) | exact Nat.zero_le _
    | exact (List.length_map _).le.trans (Nat.le_max_left _ _)
    | exact (modFirst_length _ _ _).le.trans (Nat.le_max_left _ _) | (intro _)
    | (with_reducible first | apply Moves.ite | apply State.modDict_moves | apply State.putBlob_moves)

theorem State.storeObject_moves {a0 a1 a2 a3} (h : Moves m s₀ s) (q : Sub 0x280003 m := by exact .of ‹_› rfl) :
    Moves m s₀ (State.storeObject a0 a1 a2 a3 s) := by
  unfold State.storeObject
  try dsimp only
  repeat' first
    | with_reducible assumption | exact Sub.of ‹_› rfl | (intro _)
    | (with_reducible first
        | apply State.guarded_moves | apply State.keepBlob_moves | apply State.keepNum_moves
        | apply State.violation_moves)
    | split

theorem State.endSession_moves {a0 a1} (h : Moves m s₀ s) (q : Sub 0x484001 m := by exact .of ‹_› rfl) :
    Moves m s₀ (State.endSession a0 a1 s) := by
  unfold State.endSession
  try dsimp only
  repeat' first
    | with_reducible assumption | exact Sub.of ‹_› rfl | exact Nat.le_max_left _ _
    | exact (List.length_filter_le _ _).trans (Nat.le_max_left _ _) | exact Nat.zero_le _
    | exact (List.length_map _).le.trans (Nat.le_max_left _ _)
    | exact (modFirst_length _ _ _).le.trans (Nat.le_max_left _ _) | (intro _)
    | (with_reducible first | apply Moves.ite | apply State.modDict_moves | apply State.tagSend_moves)
    | split

theorem State.endUnder_moves {a0 a1} (h : Moves m s₀ s) (q : Sub 0x485001 m := by exact .of ‹_› rfl) :
    Moves m s₀ (State.endUnder a0 a1 s) := by
  unfold State.endUnder
  try dsimp only
  repeat' first
    | with_reducible assumption | exact Sub.of ‹_› rfl | (intro _)
    | (with_reducible first
        | apply Moves.ite | apply Moves.foldl | apply State.endSession_moves | apply State.modSi_moves
        | apply State.tagSend_moves)

theorem State.writeCredential_moves {a0 a1 a2 a3} (h : Moves m s₀ s) (q : Sub 0x685003 m := by exact .of ‹_› rfl) :
    Moves m s₀ (State.writeCredential a0 a1 a2 a3 s) := by
  unfold State.writeCredential
  try dsimp only
  repeat' first
    | with_reducible assumption | exact Sub.of ‹_› rfl
    | (with_reducible first | apply Moves.ite | apply State.endUnder_moves | apply State.storeObject_moves)

theorem State.bar2ClassWrite_moves {a0 a1 a2} (h : Moves m s₀ s) (q : Sub 0x1 m := by exact .of ‹_› rfl) :
    Moves m s₀ (State.bar2ClassWrite a0 a1 a2 s) := by
  unfold State.bar2ClassWrite
  try dsimp only
  repeat' first
    | with_reducible assumption | exact Sub.of ‹_› rfl
    | (with_reducible first | apply Moves.ite | apply State.put_moves | apply State.violation_moves)

theorem State.writeAction_moves {a0 a1 a2} (h : Moves m s₀ s) (q : Sub 0xffffff m := by exact .of ‹_› rfl) :
    Moves m s₀ (State.writeAction a0 a1 a2 s) := by
  unfold State.writeAction
  try dsimp only
  repeat' first
    | with_reducible assumption | exact Sub.of ‹_› rfl
    | (with_reducible first
        | apply Moves.ite | apply State.after_moves | apply State.gbClear_moves | apply State.hostKeyDerive_moves
        | apply State.nsCreate_moves | apply State.nsDelete_moves | apply State.psWrite_moves
        | apply State.rekeyWrite_moves | apply State.shadowToF1_moves | apply State.ttCheck_moves
        | apply State.ttSwitch_moves | apply State.violation_moves | apply execCeBayAccept_moves
        | apply execCeBayContain_moves | apply execCeBayRelease_moves | apply execCyCoreReset_moves
        | apply execFwShutdown_moves | apply execFwStart_moves | apply execFwUnitReset_moves
        | apply execFwWarmReset_moves | apply execGhBankMeasure_moves | apply execGhBayUnlatch_moves
        | apply execGhBoardUnlatch_moves | apply execGhTimeSet_moves | apply execPePatrolLogClear_moves
        | apply execSiHandback_moves | apply execSiPromote_moves)

theorem State.writeObject_moves {a0 a1 a2 a3 a4} (h : Moves m s₀ s) (q : Sub 0xffffff m := by exact .of ‹_› rfl) :
    Moves m s₀ (State.writeObject a0 a1 a2 a3 a4 s) := by
  unfold State.writeObject
  try dsimp only
  repeat' first
    | with_reducible assumption | exact Sub.of ‹_› rfl
    | (with_reducible first
        | apply Moves.ite | apply State.after_moves | apply State.bar2ClassWrite_moves
        | apply State.counterConfig_moves | apply State.partyMask_moves | apply State.storeObject_moves
        | apply State.violation_moves | apply State.writeAction_moves | apply State.writeCredential_moves
        | apply execGhBankEnergyCeilingWrite_moves | apply execGhBayEnableWrite_moves
        | apply execLgFlushProfileWrite_moves | apply execLgLedgerSizeWrite_moves
        | apply execPePatrolEnableWrite_moves | apply execPeRebuildRateWrite_moves)
    | split

theorem State.writeDomain_moves {a0 a1 a2 a3} (h : Moves m s₀ s) (q : Sub 0x7fffff m := by exact .of ‹_› rfl) :
    Moves m s₀ (State.writeDomain a0 a1 a2 a3 s) := by
  unfold State.writeDomain
  try dsimp only
  repeat' first
    | with_reducible assumption | exact Sub.of ‹_› rfl
    | (with_reducible first
        | apply Moves.ite | apply State.after_moves | apply State.filterWrite_moves
        | apply State.ownerRootWrite_moves | apply State.shadowEnd_moves | apply State.storeObject_moves
        | apply State.writeCredential_moves | apply execFwOwnerKeyWrite_moves | apply execFwRecoveryImage_moves)

theorem State.readItem_moves {a0 a1 a2} (h : Moves m s₀ s) (q : Sub 0x8001 m := by exact .of ‹_› rfl) :
    Moves m s₀ (State.readItem a0 a1 a2 s).2 := by
  unfold State.readItem
  try dsimp only
  repeat' first
    | with_reducible assumption | exact Sub.of ‹_› rfl | (intro _)
    | (with_reducible first
        | apply Moves.ite | apply Moves.iteSnd | apply Moves.elim | apply State.clearStat_moves
        | apply State.violation_moves)

theorem State.modSession_moves {a0 a1} (h : Moves m s₀ s) (q : Sub 0x80000 m := by exact .of ‹_› rfl) :
    Moves m s₀ (State.modSession a0 a1 s) := by
  unfold State.modSession
  try dsimp only
  repeat' first
    | with_reducible assumption | exact Sub.of ‹_› rfl | exact Nat.le_max_left _ _
    | exact (List.length_filter_le _ _).trans (Nat.le_max_left _ _) | exact Nat.zero_le _
    | exact (List.length_map _).le.trans (Nat.le_max_left _ _)
    | exact (modFirst_length _ _ _).le.trans (Nat.le_max_left _ _) | (intro _)
    | with_reducible apply State.modDict_moves

theorem State.setReadCursor_moves {a0 a1 a2} (h : Moves m s₀ s) (q : Sub 0x80000 m := by exact .of ‹_› rfl) :
    Moves m s₀ (State.setReadCursor a0 a1 a2 s) := by
  unfold State.setReadCursor
  try dsimp only
  repeat' first
    | with_reducible assumption | exact Sub.of ‹_› rfl | exact Nat.le_max_left _ _
    | exact (List.length_filter_le _ _).trans (Nat.le_max_left _ _) | exact Nat.zero_le _
    | exact (List.length_map _).le.trans (Nat.le_max_left _ _)
    | exact (modFirst_length _ _ _).le.trans (Nat.le_max_left _ _) | (intro _)
    | (with_reducible first | apply State.modDict_moves | apply State.modSession_moves)
    | split

theorem State.setStaged_moves {a0 a1} (h : Moves m s₀ s) (q : Sub 0x80000 m := by exact .of ‹_› rfl) :
    Moves m s₀ (State.setStaged a0 a1 s) := by
  unfold State.setStaged
  try dsimp only
  repeat' first
    | with_reducible assumption | exact Sub.of ‹_› rfl | exact Nat.le_max_left _ _
    | exact (List.length_filter_le _ _).trans (Nat.le_max_left _ _) | exact Nat.zero_le _
    | exact (List.length_map _).le.trans (Nat.le_max_left _ _)
    | exact (modFirst_length _ _ _).le.trans (Nat.le_max_left _ _) | (intro _)
    | (with_reducible first | apply State.modDict_moves | apply State.modSession_moves)
    | split

theorem State.readDomain_moves {a0 a1 a2 a3 a4 a5 a6} (h : Moves m s₀ s) (q : Sub 0x284001 m := by exact .of ‹_› rfl) :
    Moves m s₀ (State.readDomain a0 a1 a2 a3 a4 a5 a6 s).2 := by
  unfold State.readDomain
  try dsimp only
  repeat' first
    | with_reducible assumption | exact Sub.of ‹_› rfl
    | (with_reducible first
        | apply Moves.ite | apply Moves.iteSnd | apply State.clearEntries_moves | apply State.setReadCursor_moves
        | apply State.violation_moves)

theorem State.stageDomain_moves {a0 a1 a2 a3 a4 a5 a6 a7} (h : Moves m s₀ s) (q : Sub 0x7fffff m := by exact .of ‹_› rfl) :
    Moves m s₀ (State.stageDomain a0 a1 a2 a3 a4 a5 a6 a7 s).2 := by
  unfold State.stageDomain
  try dsimp only
  repeat' first
    | with_reducible assumption | exact Sub.of ‹_› rfl
    | (with_reducible first
        | apply Moves.ite | apply Moves.iteSnd | apply State.setStaged_moves | apply State.violation_moves
        | apply State.writeDomain_moves)
    | split

theorem State.serveRead_moves {a0 a1} (h : Moves m s₀ s) (q : Sub 0x8001 m := by exact .of ‹_› rfl) :
    Moves m s₀ (State.serveRead a0 a1 s).2 := by
  unfold State.serveRead
  try dsimp only
  repeat' first
    | with_reducible assumption | exact Sub.of ‹_› rfl | (intro _)
    | (with_reducible first
        | apply Moves.foldl | apply Moves.foldlSnd | apply Moves.foldlFst | apply State.readItem_moves)

theorem State.writeItem_moves {a0 a1 a2 a3 a4} (h : Moves m s₀ s) (q : Sub 0xffffff m := by exact .of ‹_› rfl) :
    Moves m s₀ (State.writeItem a0 a1 a2 a3 a4 s).2 := by
  unfold State.writeItem
  try dsimp only
  repeat' first
    | with_reducible assumption | exact Sub.of ‹_› rfl
    | (with_reducible first | apply Moves.ite | apply Moves.iteSnd | apply State.writeObject_moves)

theorem State.serveWrite_moves {a0 a1 a2} (h : Moves m s₀ s) (q : Sub 0xffffff m := by exact .of ‹_› rfl) :
    Moves m s₀ (State.serveWrite a0 a1 a2 s).2 := by
  unfold State.serveWrite
  try dsimp only
  repeat' first
    | with_reducible assumption | exact Sub.of ‹_› rfl | (intro _)
    | (with_reducible first
        | apply Moves.foldl | apply Moves.foldlSnd | apply Moves.foldlFst | apply State.writeItem_moves)

theorem State.serveDomainRead_moves {a0 a1 a2} (h : Moves m s₀ s) (q : Sub 0x284001 m := by exact .of ‹_› rfl) :
    Moves m s₀ (State.serveDomainRead a0 a1 a2 s).2 := by
  unfold State.serveDomainRead
  try dsimp only
  repeat' first | with_reducible assumption | exact Sub.of ‹_› rfl | with_reducible apply State.readDomain_moves

theorem State.serveDomainWrite_moves {a0 a1 a2} (h : Moves m s₀ s) (q : Sub 0x7fffff m := by exact .of ‹_› rfl) :
    Moves m s₀ (State.serveDomainWrite a0 a1 a2 s).2 := by
  unfold State.serveDomainWrite
  try dsimp only
  repeat' first | with_reducible assumption | exact Sub.of ‹_› rfl | with_reducible apply State.stageDomain_moves

theorem State.request_moves {a0 a1 a2 a3 a4 a5} (h : Moves m s₀ s) (q : Sub 0x484001 m := by exact .of ‹_› rfl) (k5 : ∀ x0 u, Moves m s₀ u → Moves m s₀ (a5 x0 u).2) :
    Moves m s₀ (State.request a0 a1 a2 a3 a4 a5 s) := by
  unfold State.request
  try dsimp only
  repeat' first
    | with_reducible assumption | exact Sub.of ‹_› rfl | (intro _)
    | (with_reducible first
        | apply Moves.ite | apply State.fieldGot_moves | apply State.modSession_moves | apply State.tagSend_moves
        | apply State.tick_moves | apply k5)
    | split

theorem execFieldRead_moves {a0 a1} (h : Moves m s₀ s) (q : Sub 0x48c001 m := by exact .of ‹_› rfl) :
    OutMoves m s₀ (execFieldRead a0 a1 s) := by
  unfold execFieldRead
  try dsimp only
  repeat' first
    | (with_reducible first | apply OutMoves.next | assumption)
    | exact Sub.of ‹_› rfl | (intro _)
    | (with_reducible first | apply State.request_moves | apply State.serveRead_moves)

theorem execFieldWrite_moves {a0 a1} (h : Moves m s₀ s) (q : Sub 0xffffff m := by exact .of ‹_› rfl) :
    OutMoves m s₀ (execFieldWrite a0 a1 s) := by
  unfold execFieldWrite
  try dsimp only
  repeat' first
    | (with_reducible first | apply OutMoves.next | assumption)
    | exact Sub.of ‹_› rfl | (intro _)
    | (with_reducible first | apply State.request_moves | apply State.serveWrite_moves)

theorem execDomainRead_moves {a0 a1} (h : Moves m s₀ s) (q : Sub 0x684001 m := by exact .of ‹_› rfl) :
    OutMoves m s₀ (execDomainRead a0 a1 s) := by
  unfold execDomainRead
  try dsimp only
  repeat' first
    | (with_reducible first | apply OutMoves.next | assumption)
    | exact Sub.of ‹_› rfl | (intro _)
    | (with_reducible first | apply State.request_moves | apply State.serveDomainRead_moves)

theorem execDomainWrite_moves {a0 a1} (h : Moves m s₀ s) (q : Sub 0x7fffff m := by exact .of ‹_› rfl) :
    OutMoves m s₀ (execDomainWrite a0 a1 s) := by
  unfold execDomainWrite
  try dsimp only
  repeat' first
    | (with_reducible first | apply OutMoves.next | assumption)
    | exact Sub.of ‹_› rfl | (intro _)
    | (with_reducible first | apply State.request_moves | apply State.serveDomainWrite_moves)

theorem execGbWindowRead_moves {a0 a1} (h : Moves m s₀ s) (q : Sub 0x684001 m := by exact .of ‹_› rfl) :
    OutMoves m s₀ (execGbWindowRead a0 a1 s) := by
  unfold execGbWindowRead
  try dsimp only
  repeat' first
    | (with_reducible first | apply OutMoves.next | assumption)
    | exact Sub.of ‹_› rfl | (intro _)
    | (with_reducible first
        | apply Moves.ite | apply OutMoves.ite | apply State.request_moves | apply State.serveDomainRead_moves)

theorem execHello_moves {vlan nonce cls key} (h : Moves m s₀ s) (q : Sub 0xc84001 m := by exact .of ‹_› rfl) : OutMoves m s₀ (execHello vlan nonce cls key s) := by
  unfold execHello
  refine .next (.ite h ?_)
  extract_lets hello s1
  have k : Moves m s₀ s1 := State.fieldGot_moves h
  split
  · exact State.tick_moves k
  · split
    · exact State.tick_moves k
    · next c =>
      refine State.fieldSend_moves (State.modDict_moves _ (State.drawn_moves (State.drawn_moves k)) ?_)
      rw [List.length_append]
      exact (Nat.succ_le_of_lt (Nat.lt_of_not_le c)).trans (le_max_right _ _)

theorem execAuth_moves {a0 a1} (h : Moves m s₀ s) (q : Sub 0x484001 m := by exact .of ‹_› rfl) :
    OutMoves m s₀ (execAuth a0 a1 s) := by
  unfold execAuth
  try dsimp only
  repeat' first
    | (with_reducible first | apply OutMoves.next | assumption)
    | exact Sub.of ‹_› rfl | (intro _)
    | (with_reducible first
        | apply Moves.ite | apply OutMoves.ite | apply Moves.elim | apply State.endSession_moves
        | apply State.fieldGot_moves | apply State.modSession_moves | apply State.tagSend_moves
        | apply State.tick_moves)
    | split

theorem execAuthTimeout_moves {a0} (h : Moves m s₀ s) (q : Sub 0x484001 m := by exact .of ‹_› rfl) :
    OutMoves m s₀ (execAuthTimeout a0 s) := by
  unfold execAuthTimeout
  try dsimp only
  repeat' first
    | (with_reducible first | apply OutMoves.next | assumption)
    | exact Sub.of ‹_› rfl
    | (with_reducible first
        | apply Moves.ite | apply OutMoves.ite | apply State.endSession_moves | apply State.tick_moves)
    | split

theorem execClose_moves {a0 a1} (h : Moves m s₀ s) (q : Sub 0x485001 m := by exact .of ‹_› rfl) :
    OutMoves m s₀ (execClose a0 a1 s) := by
  unfold execClose
  try dsimp only
  repeat' first
    | (with_reducible first | apply OutMoves.next | assumption)
    | exact Sub.of ‹_› rfl | (intro _)
    | (with_reducible first
        | apply Moves.ite | apply OutMoves.ite | apply State.endSession_moves | apply State.fieldGot_moves
        | apply State.modSi_moves | apply State.tick_moves)
    | split

theorem execSessionIdle_moves {a0} (h : Moves m s₀ s) (q : Sub 0x484001 m := by exact .of ‹_› rfl) :
    OutMoves m s₀ (execSessionIdle a0 s) := by
  unfold execSessionIdle
  try dsimp only
  repeat' first
    | (with_reducible first | apply OutMoves.next | assumption)
    | exact Sub.of ‹_› rfl
    | (with_reducible first | apply Moves.ite | apply OutMoves.ite | apply State.endSession_moves)
    | split

theorem execStagingTimeout_moves {a0} (h : Moves m s₀ s) (q : Sub 0x80000 m := by exact .of ‹_› rfl) :
    OutMoves m s₀ (execStagingTimeout a0 s) := by
  unfold execStagingTimeout
  try dsimp only
  repeat' first
    | (with_reducible first | apply OutMoves.next | assumption)
    | exact Sub.of ‹_› rfl
    | (with_reducible first | apply Moves.ite | apply OutMoves.ite | apply State.setStaged_moves)
    | split

theorem execReassemblyTimeout_moves {a0} (h : Moves m s₀ s) (q : Sub 0x80001 m := by exact .of ‹_› rfl) :
    OutMoves m s₀ (execReassemblyTimeout a0 s) := by
  unfold execReassemblyTimeout
  try dsimp only
  repeat' first
    | (with_reducible first | apply OutMoves.next | assumption)
    | exact Sub.of ‹_› rfl | exact Nat.le_max_left _ _
    | exact (List.length_filter_le _ _).trans (Nat.le_max_left _ _) | exact Nat.zero_le _
    | exact (List.length_map _).le.trans (Nat.le_max_left _ _)
    | exact (modFirst_length _ _ _).le.trans (Nat.le_max_left _ _) | (intro _)
    | (with_reducible first
        | apply Moves.ite | apply OutMoves.ite | apply State.modDict_moves | apply State.tick_moves)

theorem execNeighbourDiscovery_moves {a0} (h : Moves m s₀ s) (q : Sub 0x400001 m := by exact .of ‹_› rfl) :
    OutMoves m s₀ (execNeighbourDiscovery a0 s) := by
  unfold execNeighbourDiscovery
  try dsimp only
  repeat' first
    | (with_reducible first | apply OutMoves.next | assumption)
    | exact Sub.of ‹_› rfl
    | (with_reducible first
        | apply Moves.ite | apply OutMoves.ite | apply State.count_moves | apply State.emit_moves
        | apply State.fieldGot_moves)

theorem execObjectWrite_moves {a0 a1 a2 a3} (h : Moves m s₀ s) (q : Sub 0xffffff m := by exact .of ‹_› rfl) :
    OutMoves m s₀ (execObjectWrite a0 a1 a2 a3 s) := by
  unfold execObjectWrite
  try dsimp only
  repeat' first
    | (with_reducible first | apply OutMoves.next | assumption)
    | exact Sub.of ‹_› rfl
    | (with_reducible first
        | apply Moves.ite | apply OutMoves.ite | apply State.writeDomain_moves | apply State.writeObject_moves)

theorem execCredentialWrite_moves {a0 a1 a2 a3} (h : Moves m s₀ s) (q : Sub 0x685003 m := by exact .of ‹_› rfl) :
    OutMoves m s₀ (execCredentialWrite a0 a1 a2 a3 s) := by
  unfold execCredentialWrite
  try dsimp only
  repeat' first
    | (with_reducible first | apply OutMoves.next | assumption)
    | exact Sub.of ‹_› rfl
    | (with_reducible first | apply Moves.ite | apply OutMoves.ite | apply State.writeCredential_moves)

theorem execStatisticsRead_moves {a0 a1 a2} (h : Moves m s₀ s) (q : Sub 0x408001 m := by exact .of ‹_› rfl) :
    OutMoves m s₀ (execStatisticsRead a0 a1 a2 s) := by
  unfold execStatisticsRead
  try dsimp only
  repeat' first
    | (with_reducible first | apply OutMoves.next | assumption)
    | exact Sub.of ‹_› rfl
    | (with_reducible first | apply State.emit_moves | apply State.readItem_moves)

theorem execEpBar2ClassWrite_moves {a0 a1 a2} (h : Moves m s₀ s) (q : Sub 0x1 m := by exact .of ‹_› rfl) :
    OutMoves m s₀ (execEpBar2ClassWrite a0 a1 a2 s) := by
  unfold execEpBar2ClassWrite
  try dsimp only
  repeat' first
    | (with_reducible first | apply OutMoves.next | assumption)
    | exact Sub.of ‹_› rfl | with_reducible apply State.bar2ClassWrite_moves

theorem State.serveBar2_moves {a0 a1} (h : Moves m s₀ s) (q : Sub 0xffffff m := by exact .of ‹_› rfl) :
    Moves m s₀ (State.serveBar2 a0 a1 s).2 := by
  unfold State.serveBar2
  try dsimp only
  repeat' first
    | with_reducible assumption | exact Sub.of ‹_› rfl
    | (with_reducible first
        | apply Moves.ite | apply Moves.iteSnd | apply State.serveDomainRead_moves
        | apply State.serveDomainWrite_moves | apply State.serveRead_moves | apply State.serveWrite_moves)

theorem execBar2Doorbell_moves {a0 a1} (h : Moves m s₀ s) (q : Sub 0xffffff m := by exact .of ‹_› rfl) :
    OutMoves m s₀ (execBar2Doorbell a0 a1 s) := by
  unfold execBar2Doorbell
  try dsimp only
  repeat' first
    | (with_reducible first | apply OutMoves.next | assumption)
    | exact Sub.of ‹_› rfl | exact Nat.le_max_left _ _
    | exact (List.length_filter_le _ _).trans (Nat.le_max_left _ _) | exact Nat.zero_le _
    | exact (List.length_map _).le.trans (Nat.le_max_left _ _)
    | exact (modFirst_length _ _ _).le.trans (Nat.le_max_left _ _) | (intro _)
    | (with_reducible first
        | apply Moves.ite | apply OutMoves.ite | apply State.modDict_moves | apply State.msixRaise_moves
        | apply State.serveBar2_moves)

end Sys2Proof.Machine
end

