-- ==== Sys2Proof/Laws/Ops.lean ====
section
/-! SUPPORT. What the shared operations of writes, runs and lists do, said once. -/

set_option Elab.async false

namespace Sys2Proof.Machine

section
variable {α β : Type} [BEq α] [LawfulBEq α]

theorem lookup_assign_self (l : List (α × β)) (k : α) (v d : β) : lookup (assign l k v) k d = v := by
  induction l with
  | nil => simp [assign, lookup]
  | cons p r ih =>
    unfold assign
    split
    · simp [lookup]
    · rename_i h
      unfold lookup at ih ⊢
      rw [List.find?_cons]
      simpa [h] using ih

theorem lookup_assign_ne (l : List (α × β)) {k j : α} (v d : β) (n : j ≠ k) : lookup (assign l k v) j d = lookup l j d := by
  induction l with
  | nil => simp [assign, lookup, Ne.symm n]
  | cons p r ih =>
    unfold assign
    split
    · rename_i h
      simp only [beq_iff_eq] at h
      have e : (p.1 == j) = false := by simp [h, Ne.symm n]
      simp [lookup, Ne.symm n, e]
    · unfold lookup at ih ⊢
      cases e : p.1 == j <;> simp only [List.find?_cons, e]
      exact ih
end

@[simp] theorem State.result_putResult (s : State) (r : Nat) (x : Rslt) : (s.putResult r x).result r = x :=
  lookup_assign_self ..

theorem State.result_putResult_ne (s : State) {r o : Nat} (x : Rslt) (n : o ≠ r) :
    (s.putResult r x).result o = s.result o :=
  lookup_assign_ne _ _ _ (by unfold objKey; omega)

@[simp] theorem State.result_startRun (s : State) (r : Nat) :
    (s.startRun r).result r = { s.result r with ready := false } := State.result_putResult ..

theorem State.result_startRun_ne (s : State) {r o : Nat} (n : o ≠ r) : (s.startRun r).result o = s.result o :=
  State.result_putResult_ne s _ n

theorem State.result_endRun (s : State) (r : Nat) (v : List Byte) (h : (s.result r).ready = false) :
    (s.endRun r v).result r = (s.result r).ended v := by
  simp [State.endRun, h, Rslt.ended]

theorem State.result_endRun_ne (s : State) {r o : Nat} (v : List Byte) (n : o ≠ r) :
    (s.endRun r v).result o = s.result o := by
  simp only [State.endRun]; split
  · rfl
  · exact State.result_putResult_ne s _ n

/-- A RESULT is read from `results` alone. -/
theorem State.result_congr {s t : State} (r : Nat) (h : t.results = s.results) : t.result r = s.result r := by
  simp [State.result, h]

/-! ### Taken writes -/

theorem State.action_taken {s : State} {cls ix res : Nat} {run : State → State}
    (h : s.mayWrite cls ix 0 = true ∧ (s.result res).ready = true) : s.action cls ix res run = run (s.startRun res) := by
  simp [State.action, h.1, h.2]

theorem State.guarded_taken {s : State} {cls ix sub : Nat} {ok : Bool} {act : State → State}
    (h : s.mayWrite cls ix sub = true ∧ ok = true) : s.guarded cls ix sub ok act = act s := by
  simp [State.guarded, h.1, h.2]

theorem State.trigger_taken {s : State} {cls ix : Nat} {ok : Bool} {act : State → State}
    (h : s.mayWrite cls ix 0 = true ∧ ok = true) : s.trigger cls ix ok act = act s := by
  simp [State.trigger, h.1, h.2]

/-! ### The porter -/

theorem PorterSt.word_handle (p : PorterSt) (h : Nat) : (p.word h).handle = hBed h := by
  unfold PorterSt.word
  split
  · rename_i w e
    simpa using List.find?_some e
  · rfl

theorem PorterSt.word_setWord (p : PorterSt) (w : BedWord) (h : Nat) (e : w.handle = hBed h) : (p.setWord w).word h = w := by
  simp [PorterSt.word, PorterSt.setWord, e]

/-! ### A state by its areas -/

/-- What a command leaves, field by field: the areas of the mask after, every other area before. -/
theorem Moves.whole {m : Nat} {s t : State} (h : Moves m s t) : t =
    { objs := cond (m.testBit 0) t.objs s.objs, blobs := cond (m.testBit 1) t.blobs s.blobs
      results := cond (m.testBit 2) t.results s.results, clk := cond (m.testBit 3) t.clk s.clk
      tt := cond (m.testBit 4) t.tt s.tt, adm := cond (m.testBit 5) t.adm s.adm, ce := cond (m.testBit 6) t.ce s.ce
      drives := cond (m.testBit 7) t.drives s.drives, places := cond (m.testBit 8) t.places s.places
      pe := cond (m.testBit 9) t.pe s.pe, rb := cond (m.testBit 10) t.rb s.rb, lg := cond (m.testBit 11) t.lg s.lg
      si := cond (m.testBit 12) t.si s.si, tr := cond (m.testBit 13) t.tr s.tr, pc := cond (m.testBit 14) t.pc s.pc
      po := cond (m.testBit 15) t.po s.po, cy := cond (m.testBit 16) t.cy s.cy, gh := cond (m.testBit 17) t.gh s.gh
      md := cond (m.testBit 18) t.md s.md, dict := cond (m.testBit 19) t.dict s.dict, ep := cond (m.testBit 20) t.ep s.ep
      book := cond (m.testBit 21) t.book s.book, out := cond (m.testBit 22) t.out s.out
      fresh := cond (m.testBit 23) t.fresh s.fresh, pending := s.pending } := by
  have f (p : Area) : m.testBit p.bit = true ∨ p.same s t := by
    cases e : m.testBit p.bit with
    | true => exact .inl rfl
    | false => exact .inr (h.frame p e)
  have g {α : Type} {b : Bool} {x y : α} (k : b = true ∨ x = y) : x = cond b x y := by
    cases b with
    | true => rfl
    | false => exact k.resolve_left Bool.false_ne_true
  obtain ⟨⟩ := t
  congr 1
  · exact g (f .objs)
  · exact g (f .blobs)
  · exact g (f .results)
  · exact g (f .clk)
  · exact g (f .tt)
  · exact g (f .adm)
  · exact g (f .ce)
  · exact g (f .drives)
  · exact g (f .places)
  · exact g (f .pe)
  · exact g (f .rb)
  · exact g (f .lg)
  · exact g (f .si)
  · exact g (f .tr)
  · exact g (f .pc)
  · exact g (f .po)
  · exact g (f .cy)
  · exact g (f .gh)
  · exact g (f .md)
  · exact g (f .dict)
  · exact g (f .ep)
  · exact g (f .book)
  · exact g (f .out)
  · exact g (f .fresh)
  · exact h.queue

/-! ### Objects -/

theorem objGet_objPut_ne {j k : Nat} (v : Nat) (n : j ≠ k) (l : List (Nat × Nat)) : objGet j (objPut k v l) = objGet j l := by
  induction l with
  | nil => unfold objPut; split <;> simp [objGet, Ne.symm n]
  | cons p r ih =>
    unfold objPut
    by_cases e : p.1 = k
    · have : p.1 ≠ j := fun h => n (h ▸ e)
      have : k ≠ j := Ne.symm n
      subst e
      split
      · omega
      · by_cases g : v = objDefault p.1 <;> simp_all [objGet]
    · by_cases f : p.1 = j <;> split <;> (try split) <;> simp_all [objGet, Ne.symm n]

theorem State.get_put_ne (s : State) {ix sub jx jsub : Nat} (v : Nat) (n : objKey jx jsub ≠ objKey ix sub) :
    (s.put ix sub v).get jx jsub = s.get jx jsub := objGet_objPut_ne v n _

theorem State.get_count_ne (s : State) {ix sub jx jsub : Nat} (c : Nat) (n : objKey jx jsub ≠ objKey ix sub) :
    (s.count ix sub c).get jx jsub = s.get jx jsub := by
  unfold State.count
  split
  · rfl
  · exact s.get_put_ne _ n

/-- A record leaves every object below the guestbook's own as it is. -/
theorem State.get_record (s : State) (sev code : Nat) (p : List (Nat × Nat)) {ix sub : Nat} (h : objKey ix sub < 0xC000 * 256) :
    (s.record sev code p).get ix sub = s.get ix sub := by
  have f (k j : Nat) (t : State) (hk : 0xC000 ≤ k) : (t.tick k j).get ix sub = t.get ix sub :=
    t.get_count_ne 1 (by unfold objKey at *; omega)
  have g (k : Nat) (hk : 0xC000 ≤ k) (l : List Nat) (t : State) : (l.foldl (fun t v => t.tick k (v + 1)) t).get ix sub =
      t.get ix sub := by
    induction l generalizing t with
    | nil => rfl
    | cons v r ih => exact (ih _).trans (f k _ t hk)
  have c (d o sv : Nat) (hd : 0xC000 ≤ d) (ho : 0xC000 ≤ o) (b : Bool) (l : List Nat) (t : State) :
      (t.gbCounts d o sv b l).get ix sub = t.get ix sub := by
    refine (g o ho l _).trans ?_
    split
    · exact f d _ t hd
    · rfl
  unfold State.record State.recordGate State.recordMain
  dsimp only
  repeat' split
  · exact f _ _ _ (by decide)
  · exact c _ _ _ (by decide) (by decide) _ _ _
  · exact f _ _ _ (by decide)
  · exact c _ _ _ (by decide) (by decide) _ _ _

/-! ### First entries of a list -/

theorem find_modFirst {α : Type} {p : α → Bool} {g : α → α} (k : ∀ u, p (g u) = p u) (l : List α) :
    (modFirst p g l).find? p = (l.find? p).map g := by
  induction l with
  | nil => rfl
  | cons x r ih =>
    unfold modFirst
    by_cases e : p x = true
    · simp [e, k]
    · simp [e, ih]

/-! ### Admin commands -/

/-- An admin command with a sender is run for it. -/
theorem State.adminCmd_from {s u : State} {src : CmdSrc} {ep disc : Bool} {a : Assoc} (cid : Nat) (run : Assoc → State → State)
    (h : s.adminFrom src ep disc = some (a, u)) : s.adminCmd src cid ep disc run = run a u := by
  cases src with
  | assoc i =>
    simp only [State.adminFrom, State.adminCmd] at h ⊢
    generalize (if s.transportOn = true then s.assoc? i else none) = x at h ⊢
    generalize s.adminConn i = y at h ⊢
    cases x <;> cases y <;> simp only [reduceCtorEq] at h
    rename_i a' c
    by_cases k : 2048 ≤ i
    · simp [k] at h
    · by_cases j : (a'.discovery && !disc) = true
      · simp only [Bool.and_eq_true, Bool.not_eq_true'] at j
        simp [j.1, j.2] at h
      · rw [if_neg (by rintro (z | z) <;> contradiction), Option.some.injEq, Prod.mk.injEq] at h
        simp only [if_neg k, if_neg j]
        rw [h.1, h.2]
  | conn _ => simp [State.adminFrom] at h
  | endpoint =>
    simp only [State.adminFrom, State.adminCmd] at h ⊢
    cases e : s.ep.ready <;> cases ep <;> simp [e] at h ⊢
    rw [h.1, h.2]

end Sys2Proof.Machine
end

