-- ==== Sys2Proof/Laws/PerInstr.lean ====
section
/-! SUPPORT. What holds of every command as syntax, one lemma per constructor: a well-formed cell command names a slot-cell of
the leg and a 64-bit word (R12, R35). -/

set_option Elab.async false

namespace Sys2Proof.Laws.WellFormed

open Sys2Proof.Machine

/-- A well-formed command that is a slot-cell lies in the leg. -/
def Statement (i : Instr) : Prop :=
  i.wf = true → match cellNamed i with
    | some (slot, lane, word) => slot < 64 ∧ lane < 64 ∧ word < 2 ^ 64
    | none => True

theorem legBoundary : Statement .legBoundary := fun _ => trivial

theorem refclkLoss : Statement .refclkLoss := fun _ => trivial

theorem refclkRelock : Statement .refclkRelock := fun _ => trivial

theorem holdoverEnd : Statement .holdoverEnd := fun _ => trivial

theorem noneCmd slot lane word : Statement (.noneCmd slot lane word) := by
  intro h; simp only [Instr.wf, Bool.and_eq_true, decide_eq_true_eq] at h; exact ⟨by omega, by omega, by omega⟩

theorem netIn slot lane word : Statement (.netIn slot lane word) := by
  intro h; simp only [Instr.wf, Bool.and_eq_true, decide_eq_true_eq] at h; exact ⟨by omega, by omega, by omega⟩

theorem netOut slot lane word bytes : Statement (.netOut slot lane word bytes) := by
  intro h; simp only [Instr.wf, Bool.and_eq_true, decide_eq_true_eq] at h; exact ⟨by omega, by omega, by omega⟩

theorem cipher slot lane word good : Statement (.cipher slot lane word good) := by
  intro h; simp only [Instr.wf, Bool.and_eq_true, decide_eq_true_eq] at h; exact ⟨by omega, by omega, by omega⟩

theorem driveIn slot lane word : Statement (.driveIn slot lane word) := by
  intro h; simp only [Instr.wf, Bool.and_eq_true, decide_eq_true_eq] at h; exact ⟨by omega, by omega, by omega⟩

theorem driveOut slot lane word : Statement (.driveOut slot lane word) := by
  intro h; simp only [Instr.wf, Bool.and_eq_true, decide_eq_true_eq] at h; exact ⟨by omega, by omega, by omega⟩

theorem parityIn slot lane word : Statement (.parityIn slot lane word) := by
  intro h; simp only [Instr.wf, Bool.and_eq_true, decide_eq_true_eq] at h; exact ⟨by omega, by omega, by omega⟩

theorem parityOut slot lane word : Statement (.parityOut slot lane word) := by
  intro h; simp only [Instr.wf, Bool.and_eq_true, decide_eq_true_eq] at h; exact ⟨by omega, by omega, by omega⟩

theorem sisterOut slot lane word : Statement (.sisterOut slot lane word) := by
  intro h; simp only [Instr.wf, Bool.and_eq_true, decide_eq_true_eq] at h; exact ⟨by omega, by omega, by omega⟩

theorem sisterIn slot lane word : Statement (.sisterIn slot lane word) := by
  intro h; simp only [Instr.wf, Bool.and_eq_true, decide_eq_true_eq] at h; exact ⟨by omega, by omega, by omega⟩

theorem cacheRd slot lane word : Statement (.cacheRd slot lane word) := by
  intro h; simp only [Instr.wf, Bool.and_eq_true, decide_eq_true_eq] at h; exact ⟨by omega, by omega, by omega⟩

theorem cacheWr slot lane word : Statement (.cacheWr slot lane word) := by
  intro h; simp only [Instr.wf, Bool.and_eq_true, decide_eq_true_eq] at h; exact ⟨by omega, by omega, by omega⟩

theorem context slot lane word : Statement (.context slot lane word) := by
  intro h; simp only [Instr.wf, Bool.and_eq_true, decide_eq_true_eq] at h; exact ⟨by omega, by omega, by omega⟩

theorem journal slot lane word : Statement (.journal slot lane word) := by
  intro h; simp only [Instr.wf, Bool.and_eq_true, decide_eq_true_eq] at h; exact ⟨by omega, by omega, by omega⟩

theorem endpoint slot lane word : Statement (.endpoint slot lane word) := by
  intro h; simp only [Instr.wf, Bool.and_eq_true, decide_eq_true_eq] at h; exact ⟨by omega, by omega, by omega⟩

theorem vault slot lane word : Statement (.vault slot lane word) := by
  intro h; simp only [Instr.wf, Bool.and_eq_true, decide_eq_true_eq] at h; exact ⟨by omega, by omega, by omega⟩

theorem control slot lane word : Statement (.control slot lane word) := by
  intro h; simp only [Instr.wf, Bool.and_eq_true, decide_eq_true_eq] at h; exact ⟨by omega, by omega, by omega⟩

theorem dump slot lane word : Statement (.dump slot lane word) := by
  intro h; simp only [Instr.wf, Bool.and_eq_true, decide_eq_true_eq] at h; exact ⟨by omega, by omega, by omega⟩

theorem shadowImageEnd cls image : Statement (.shadowImageEnd cls image) := fun _ => trivial

theorem ttCheck cls value : Statement (.ttCheck cls value) := fun _ => trivial

theorem ttCheckDone : Statement .ttCheckDone := fun _ => trivial

theorem ttSwitch cls value : Statement (.ttSwitch cls value) := fun _ => trivial

theorem ttSwitchDigestDone : Statement .ttSwitchDigestDone := fun _ => trivial

theorem ttSwitchClassEmpty : Statement .ttSwitchClassEmpty := fun _ => trivial

theorem ttSwitchClassTimeout : Statement .ttSwitchClassTimeout := fun _ => trivial

theorem ttShadowToF1 cls value : Statement (.ttShadowToF1 cls value) := fun _ => trivial

theorem capsuleAccept p : Statement (.capsuleAccept p) := fun _ => trivial

theorem fullStripeIssue arrival stripe : Statement (.fullStripeIssue arrival stripe) := fun _ => trivial

theorem copyAckTimeout leg : Statement (.copyAckTimeout leg) := fun _ => trivial

theorem applyStart nsid stripe : Statement (.applyStart nsid stripe) := fun _ => trivial

theorem driveCompletion bay queue cid good d : Statement (.driveCompletion bay queue cid good d) := fun _ => trivial

theorem blockFix arrival lba : Statement (.blockFix arrival lba) := fun _ => trivial

theorem readHedge arrival lba : Statement (.readHedge arrival lba) := fun _ => trivial

theorem readRoomHoldExpiry arrival : Statement (.readRoomHoldExpiry arrival) := fun _ => trivial

theorem roomRdmaRead p : Statement (.roomRdmaRead p) := fun _ => trivial

theorem bayContain bay cause : Statement (.bayContain bay cause) := fun _ => trivial

theorem returnEvent wing bay : Statement (.returnEvent wing bay) := fun _ => trivial

theorem rebuildStripe : Statement .rebuildStripe := fun _ => trivial

theorem rebuildStripeDone nsid stripe : Statement (.rebuildStripeDone nsid stripe) := fun _ => trivial

theorem patrolStripe wing : Statement (.patrolStripe wing) := fun _ => trivial

theorem patrolRewrite : Statement .patrolRewrite := fun _ => trivial

theorem peRebuildRateWrite cls value : Statement (.peRebuildRateWrite cls value) := fun _ => trivial

theorem pePatrolEnableWrite cls value : Statement (.pePatrolEnableWrite cls value) := fun _ => trivial

theorem pePatrolLogClear cls value : Statement (.pePatrolLogClear cls value) := fun _ => trivial

theorem pfTrip seen : Statement (.pfTrip seen) := fun _ => trivial

theorem flushEndPage mw : Statement (.flushEndPage mw) := fun _ => trivial

theorem bankFloorReached : Statement .bankFloorReached := fun _ => trivial

theorem comparatorSuspect comparator : Statement (.comparatorSuspect comparator) := fun _ => trivial

theorem journalRecordHeld wing jseq : Statement (.journalRecordHeld wing jseq) := fun _ => trivial

theorem descriptorCommit : Statement .descriptorCommit := fun _ => trivial

theorem lgLedgerSizeWrite cls value : Statement (.lgLedgerSizeWrite cls value) := fun _ => trivial

theorem lgFlushProfileWrite cls value : Statement (.lgFlushProfileWrite cls value) := fun _ => trivial

theorem sisterSbTx lines : Statement (.sisterSbTx lines) := fun _ => trivial

theorem sisterSbRx frame lines : Statement (.sisterSbRx frame lines) := fun _ => trivial

theorem sidebandSilent lines : Statement (.sidebandSilent lines) := fun _ => trivial

theorem bayOwnerRelease : Statement .bayOwnerRelease := fun _ => trivial

theorem legPacketRx frames : Statement (.legPacketRx frames) := fun _ => trivial

theorem legPacketAck frame : Statement (.legPacketAck frame) := fun _ => trivial

theorem legPacketNak frame : Statement (.legPacketNak frame) := fun _ => trivial

theorem holderSilence wing : Statement (.holderSilence wing) := fun _ => trivial

theorem wardenGrant m wing claim lease : Statement (.wardenGrant m wing claim lease) := fun _ => trivial

theorem wardenRefuse m wing claim lease : Statement (.wardenRefuse m wing claim lease) := fun _ => trivial

theorem wardenTimeout wing : Statement (.wardenTimeout wing) := fun _ => trivial

theorem holdoffExpiry wing key : Statement (.holdoffExpiry wing key) := fun _ => trivial

theorem renew : Statement .renew := fun _ => trivial

theorem reservationConflict bay queue cid key : Statement (.reservationConflict bay queue cid key) := fun _ => trivial

theorem driveWon wing bay holder keys good : Statement (.driveWon wing bay holder keys good) := fun _ => trivial

theorem preemptTimeout wing : Statement (.preemptTimeout wing) := fun _ => trivial

theorem quorumRetry wing : Statement (.quorumRetry wing) := fun _ => trivial

theorem resyncReq frame : Statement (.resyncReq frame) := fun _ => trivial

theorem resyncDone frame : Statement (.resyncDone frame) := fun _ => trivial

theorem siHandback cls value : Statement (.siHandback cls value) := fun _ => trivial

theorem handback frame : Statement (.handback frame) := fun _ => trivial

theorem handbackTimeout wing : Statement (.handbackTimeout wing) := fun _ => trivial

theorem siPromote cls value : Statement (.siPromote cls value) := fun _ => trivial

theorem cmReq priv hostQpn link resources depth mtu : Statement (.cmReq priv hostQpn link resources depth mtu) := fun _ => trivial

theorem rdmaReadResponse p : Statement (.rdmaReadResponse p) := fun _ => trivial

theorem rdmaWritePush p : Statement (.rdmaWritePush p) := fun _ => trivial

theorem acknowledge p : Statement (.acknowledge p) := fun _ => trivial

theorem cnp p : Statement (.cnp p) := fun _ => trivial

theorem sack p : Statement (.sack p) := fun _ => trivial

theorem sackInterval qpn : Statement (.sackInterval qpn) := fun _ => trivial

theorem spreadTimeout qpn msg : Statement (.spreadTimeout qpn msg) := fun _ => trivial

theorem ackTimeout qpn : Statement (.ackTimeout qpn) := fun _ => trivial

theorem trRekey cls qpn : Statement (.trRekey cls qpn) := fun _ => trivial

theorem rekeyOverlapEnd qpn : Statement (.rekeyOverlapEnd qpn) := fun _ => trivial

theorem contextFetchDone qpn : Statement (.contextFetchDone qpn) := fun _ => trivial

theorem waitEntryTimeout queue : Statement (.waitEntryTimeout queue) := fun _ => trivial

theorem fabricsConnect c : Statement (.fabricsConnect c) := fun _ => trivial

theorem propertyGet src cid offset : Statement (.propertyGet src cid offset) := fun _ => trivial

theorem propertySet src cid offset value : Statement (.propertySet src cid offset value) := fun _ => trivial

theorem disconnect src cid : Statement (.disconnect src cid) := fun _ => trivial

theorem identifyController src cid cns : Statement (.identifyController src cid cns) := fun _ => trivial

theorem identifyNamespace src cid nsid : Statement (.identifyNamespace src cid nsid) := fun _ => trivial

theorem activeNamespaceList src cid nsid : Statement (.activeNamespaceList src cid nsid) := fun _ => trivial

theorem namespaceDescriptorList src cid nsid : Statement (.namespaceDescriptorList src cid nsid) := fun _ => trivial

theorem getLogPage src cid lid nsid offset length rae : Statement (.getLogPage src cid lid nsid offset length rae) := fun _ => trivial

theorem setFeatures src cid fid nsid value save : Statement (.setFeatures src cid fid nsid value save) := fun _ => trivial

theorem getFeatures src cid fid nsid sel : Statement (.getFeatures src cid fid nsid sel) := fun _ => trivial

theorem firmwareImageDownload src cid offset data : Statement (.firmwareImageDownload src cid offset data) := fun _ => trivial

theorem firmwareCommit src cid action slot : Statement (.firmwareCommit src cid action slot) := fun _ => trivial

theorem firmwareActivationReady : Statement .firmwareActivationReady := fun _ => trivial

theorem mtfaTimeout : Statement .mtfaTimeout := fun _ => trivial

theorem abortCmd src cid sqid target : Statement (.abortCmd src cid sqid target) := fun _ => trivial

theorem keepAlive src cid : Statement (.keepAlive src cid) := fun _ => trivial

theorem katoExpiry assoc : Statement (.katoExpiry assoc) := fun _ => trivial

theorem asynchronousEventRequest src cid : Statement (.asynchronousEventRequest src cid) := fun _ => trivial

theorem readCmd arrival : Statement (.readCmd arrival) := fun _ => trivial

theorem writeCmd arrival : Statement (.writeCmd arrival) := fun _ => trivial

theorem flushCmd arrival : Statement (.flushCmd arrival) := fun _ => trivial

theorem writeZeroes arrival : Statement (.writeZeroes arrival) := fun _ => trivial

theorem datasetManagement arrival : Statement (.datasetManagement arrival) := fun _ => trivial

theorem reservationRegister arrival : Statement (.reservationRegister arrival) := fun _ => trivial

theorem reservationAcquire arrival : Statement (.reservationAcquire arrival) := fun _ => trivial

theorem reservationRelease arrival : Statement (.reservationRelease arrival) := fun _ => trivial

theorem reservationReport arrival : Statement (.reservationReport arrival) := fun _ => trivial

theorem roomOpen arrival : Statement (.roomOpen arrival) := fun _ => trivial

theorem roomModify arrival : Statement (.roomModify arrival) := fun _ => trivial

theorem roomClose arrival : Statement (.roomClose arrival) := fun _ => trivial

theorem roomCloseTimeout room : Statement (.roomCloseTimeout room) := fun _ => trivial

theorem cePowerStateSet cls value : Statement (.cePowerStateSet cls value) := fun _ => trivial

theorem ps2EntryComplete : Statement .ps2EntryComplete := fun _ => trivial

theorem psEntryLimitExpiry : Statement .psEntryLimitExpiry := fun _ => trivial

theorem ceNsCreate cls value : Statement (.ceNsCreate cls value) := fun _ => trivial

theorem ceNsDelete cls value : Statement (.ceNsDelete cls value) := fun _ => trivial

theorem nsPartyMaskWrite cls nsid value : Statement (.nsPartyMaskWrite cls nsid value) := fun _ => trivial

theorem driveIoTimeout bay queue cid : Statement (.driveIoTimeout bay queue cid) := fun _ => trivial

theorem driveAdminTimeout bay cid : Statement (.driveAdminTimeout bay cid) := fun _ => trivial

theorem driveAbortWaitExpiry bay queue cid : Statement (.driveAbortWaitExpiry bay queue cid) := fun _ => trivial

theorem ceBayContain cls value : Statement (.ceBayContain cls value) := fun _ => trivial

theorem driveExamine bay : Statement (.driveExamine bay) := fun _ => trivial

theorem driveExamineDone bay size link fit queues cache content : Statement (.driveExamineDone bay size link fit queues cache content) := fun _ => trivial

theorem driveExamineTimeout bay : Statement (.driveExamineTimeout bay) := fun _ => trivial

theorem ceBayRelease cls value : Statement (.ceBayRelease cls value) := fun _ => trivial

theorem ceBayAccept cls value : Statement (.ceBayAccept cls value) := fun _ => trivial

theorem rxFrameHead link head : Statement (.rxFrameHead link head) := fun _ => trivial

theorem rxFrameEnd frame len fcs corrected uncorrected : Statement (.rxFrameEnd frame len fcs corrected uncorrected) := fun _ => trivial

theorem pauseFrame link quanta : Statement (.pauseFrame link quanta) := fun _ => trivial

theorem pfcFrame link mask quanta : Statement (.pfcFrame link mask quanta) := fun _ => trivial

theorem pauseExpiry link tc : Statement (.pauseExpiry link tc) := fun _ => trivial

theorem pauseStorm link tc : Statement (.pauseStorm link tc) := fun _ => trivial

theorem pfcRefresh link : Statement (.pfcRefresh link) := fun _ => trivial

theorem txFrameBoundary link stomp : Statement (.txFrameBoundary link stomp) := fun _ => trivial

theorem linkDown link : Statement (.linkDown link) := fun _ => trivial

theorem linkUp link : Statement (.linkUp link) := fun _ => trivial

theorem ptpSync link offset : Statement (.ptpSync link offset) := fun _ => trivial

theorem ptpLoss : Statement .ptpLoss := fun _ => trivial

theorem statisticsRead cls ix sub : Statement (.statisticsRead cls ix sub) := fun _ => trivial

theorem draw port pool half owner : Statement (.draw port pool half owner) := fun _ => trivial

theorem drawBySize size half unit : Statement (.drawBySize size half unit) := fun _ => trivial

theorem shareCmd handle unit : Statement (.shareCmd handle unit) := fun _ => trivial

theorem releaseCmd handle unit : Statement (.releaseCmd handle unit) := fun _ => trivial

theorem freeCmd handle unit : Statement (.freeCmd handle unit) := fun _ => trivial

theorem handover handle unit dest : Statement (.handover handle unit dest) := fun _ => trivial

theorem cyOwnerRootWrite cls value : Statement (.cyOwnerRootWrite cls value) := fun _ => trivial

theorem cyHostKeyDerive cls value : Statement (.cyHostKeyDerive cls value) := fun _ => trivial

theorem keyDerivationDone : Statement .keyDerivationDone := fun _ => trivial

theorem cyCoreReset cls value : Statement (.cyCoreReset cls value) := fun _ => trivial

theorem coreFault core passes pulls : Statement (.coreFault core passes pulls) := fun _ => trivial

theorem ghTick t : Statement (.ghTick t) := fun _ => trivial

theorem feedValid feed : Statement (.feedValid feed) := fun _ => trivial

theorem feedMake : Statement .feedMake := fun _ => trivial

theorem feedReturn feed : Statement (.feedReturn feed) := fun _ => trivial

theorem faultTimerExpiry switch : Statement (.faultTimerExpiry switch) := fun _ => trivial

theorem pgTimeout switch : Statement (.pgTimeout switch) := fun _ => trivial

theorem offTimeEnd switch : Statement (.offTimeEnd switch) := fun _ => trivial

theorem accumulatorClear switch : Statement (.accumulatorClear switch) := fun _ => trivial

theorem tripCountClear switch : Statement (.tripCountClear switch) := fun _ => trivial

theorem ghBoardUnlatch cls value : Statement (.ghBoardUnlatch cls value) := fun _ => trivial

theorem ghBayUnlatch cls bay : Statement (.ghBayUnlatch cls bay) := fun _ => trivial

theorem presenceDebounced bay : Statement (.presenceDebounced bay) := fun _ => trivial

theorem bayStagger : Statement .bayStagger := fun _ => trivial

theorem carrierRemoval bay : Statement (.carrierRemoval bay) := fun _ => trivial

theorem bayEmptyClear bay : Statement (.bayEmptyClear bay) := fun _ => trivial

theorem ghBayEnableWrite cls bay value : Statement (.ghBayEnableWrite cls bay value) := fun _ => trivial

theorem measurementSample : Statement .measurementSample := fun _ => trivial

theorem bankPublish : Statement .bankPublish := fun _ => trivial

theorem chargeTargetReached : Statement .chargeTargetReached := fun _ => trivial

theorem chargeTimeout : Statement .chargeTimeout := fun _ => trivial

theorem ghBankEnergyCeilingWrite cls value : Statement (.ghBankEnergyCeilingWrite cls value) := fun _ => trivial

theorem bankBleedDone : Statement .bankBleedDone := fun _ => trivial

theorem capacitanceMeasure : Statement .capacitanceMeasure := fun _ => trivial

theorem ghBankMeasure cls value : Statement (.ghBankMeasure cls value) := fun _ => trivial

theorem bankMeasureDone c esr : Statement (.bankMeasureDone c esr) := fun _ => trivial

theorem railSequence : Statement .railSequence := fun _ => trivial

theorem railPgTimeout : Statement .railPgTimeout := fun _ => trivial

theorem railFault rail : Statement (.railFault rail) := fun _ => trivial

theorem shelfTimeSave : Statement .shelfTimeSave := fun _ => trivial

theorem ptpCompare : Statement .ptpCompare := fun _ => trivial

theorem ghTimeSet cls value : Statement (.ghTimeSet cls value) := fun _ => trivial

theorem gatehousePowerOnReset pin : Statement (.gatehousePowerOnReset pin) := fun _ => trivial

theorem vigilExit : Statement .vigilExit := fun _ => trivial

theorem fwStart cls value : Statement (.fwStart cls value) := fun _ => trivial

theorem musterStepEnd step r : Statement (.musterStepEnd step r) := fun _ => trivial

theorem warmReset roots : Statement (.warmReset roots) := fun _ => trivial

theorem fwWarmReset cls value : Statement (.fwWarmReset cls value) := fun _ => trivial

theorem fwShutdown cls value : Statement (.fwShutdown cls value) := fun _ => trivial

theorem shutdownTimeout : Statement .shutdownTimeout := fun _ => trivial

theorem fwRecoveryImage cls data : Statement (.fwRecoveryImage cls data) := fun _ => trivial

theorem fwOwnerKeyWrite cls value : Statement (.fwOwnerKeyWrite cls value) := fun _ => trivial

theorem fwConfirmExpiry : Statement .fwConfirmExpiry := fun _ => trivial

theorem fwUnitReset cls value : Statement (.fwUnitReset cls value) := fun _ => trivial

theorem unitReady unit : Statement (.unitReady unit) := fun _ => trivial

theorem unitReadyLimit unit : Statement (.unitReadyLimit unit) := fun _ => trivial

theorem stewardWatchdog steward : Statement (.stewardWatchdog steward) := fun _ => trivial

theorem thermalTrip die : Statement (.thermalTrip die) := fun _ => trivial

theorem drvPerstRelease bay : Statement (.drvPerstRelease bay) := fun _ => trivial

theorem hello vlan nonce cls key : Statement (.hello vlan nonce cls key) := fun _ => trivial

theorem auth session signature : Statement (.auth session signature) := fun _ => trivial

theorem authTimeout session : Statement (.authTimeout session) := fun _ => trivial

theorem close m body : Statement (.close m body) := fun _ => trivial

theorem sessionIdle session : Statement (.sessionIdle session) := fun _ => trivial

theorem fieldRead m body : Statement (.fieldRead m body) := fun _ => trivial

theorem fieldWrite m body : Statement (.fieldWrite m body) := fun _ => trivial

theorem objectWrite cls ix sub value : Statement (.objectWrite cls ix sub value) := fun _ => trivial

theorem domainRead m body : Statement (.domainRead m body) := fun _ => trivial

theorem domainWrite m body : Statement (.domainWrite m body) := fun _ => trivial

theorem stagingTimeout session : Statement (.stagingTimeout session) := fun _ => trivial

theorem reassemblyTimeout source : Statement (.reassemblyTimeout source) := fun _ => trivial

theorem credentialWrite cls ix sub value : Statement (.credentialWrite cls ix sub value) := fun _ => trivial

theorem bar2Doorbell type body : Statement (.bar2Doorbell type body) := fun _ => trivial

theorem epBar2ClassWrite bar2 cls value : Statement (.epBar2ClassWrite bar2 cls value) := fun _ => trivial

theorem epDoorbell qid cq value : Statement (.epDoorbell qid cq value) := fun _ => trivial

theorem createIoSubmissionQueue src cid qid size cqid pc base : Statement (.createIoSubmissionQueue src cid qid size cqid pc base) := fun _ => trivial

theorem createIoCompletionQueue src cid qid size vector pc ien base : Statement (.createIoCompletionQueue src cid qid size vector pc ien base) := fun _ => trivial

theorem deleteIoSubmissionQueue src cid qid : Statement (.deleteIoSubmissionQueue src cid qid) := fun _ => trivial

theorem deleteIoCompletionQueue src cid qid : Statement (.deleteIoCompletionQueue src cid qid) := fun _ => trivial

theorem epReadCompletion tag good data cap : Statement (.epReadCompletion tag good data cap) := fun _ => trivial

theorem epCompletionTimeout tag : Statement (.epCompletionTimeout tag) := fun _ => trivial

theorem epError uncorrectable errBit header regs : Statement (.epError uncorrectable errBit header regs) := fun _ => trivial

theorem busMasterClear mem : Statement (.busMasterClear mem) := fun _ => trivial

theorem busMasterSet mem mrrs : Statement (.busMasterSet mem mrrs) := fun _ => trivial

theorem functionLevelReset cause : Statement (.functionLevelReset cause) := fun _ => trivial

theorem epResetDone link : Statement (.epResetDone link) := fun _ => trivial

theorem d3hotEntry : Statement .d3hotEntry := fun _ => trivial

theorem interruptModeChange msix fnMask intxDisable intms : Statement (.interruptModeChange msix fnMask intxDisable intms) := fun _ => trivial

theorem gbClear cls value : Statement (.gbClear cls value) := fun _ => trivial

theorem gateCopy : Statement .gateCopy := fun _ => trivial

theorem gbWindowRead m body : Statement (.gbWindowRead m body) := fun _ => trivial

theorem clusterDump : Statement .clusterDump := fun _ => trivial

theorem counterConfigWrite cls block entry value : Statement (.counterConfigWrite cls block entry value) := fun _ => trivial

theorem filterWrite cls slot value : Statement (.filterWrite cls slot value) := fun _ => trivial

theorem tallySave : Statement .tallySave := fun _ => trivial

theorem gatehousePowerLoss : Statement .gatehousePowerLoss := fun _ => trivial

theorem challenge session nonce key signature : Statement (.challenge session nonce key signature) := fun _ => trivial

theorem authOk m body : Statement (.authOk m body) := fun _ => trivial

theorem lanternResend wing : Statement (.lanternResend wing) := fun _ => trivial

theorem d0Entry : Statement .d0Entry := fun _ => trivial

theorem temperatureRead temps : Statement (.temperatureRead temps) := fun _ => trivial

theorem interruptUnmask vector : Statement (.interruptUnmask vector) := fun _ => trivial

theorem epCcWrite value sqDepth cqDepth sqBase cqBase : Statement (.epCcWrite value sqDepth cqDepth sqBase cqBase) := fun _ => trivial

theorem neighbourDiscovery address : Statement (.neighbourDiscovery address) := fun _ => trivial

end Sys2Proof.Laws.WellFormed
end

