-- ==== Sys2Proof/Tests/Slice0.lean ====
section
/-! SUPPORT. Small tests of one step each, a term that each check of well-formedness refuses, and for every statement with
hypotheses a state that meets them. -/

set_option Elab.async false

namespace Sys2Proof.Tests

open Sys2Proof.Machine

/-! ### States -/

/-- The gatehouse is powered and the main dies serve the dictionary. -/
def on : State := { dict := { scope := true } }

/-- In Service. -/
def svc : State :=
  { md := { mode := .service }, dict := { scope := true }, clk := { pll := .locked, refclk := true }, tt := { legStarted := true } }

theorem takes_iff (s : State) (c : Instr) : s.takes c ↔ (writeOf s c).all s.takesWrite = true := by
  unfold State.takes
  cases writeOf s c <;> simp

/-- In a mode. -/
def inMode (m : Mode) : State := { on with md := { mode := m } }

/-! ### Witnesses: queue, writes, timetable -/

theorem wit_StepRunsTheFrontCommand :
    ({ on with pending := [.ghTick {}] } : State).pending = .ghTick {} :: [] ∧ on.pending = [] := by decide +kernel

theorem wit_FrameOfEveryCommand : exec .holdoverEnd on = .next on ∧ Area.tt ∉ touches .refclkLoss := ⟨rfl, by decide +kernel⟩

theorem wit_StepKeepsInterlock : on.interlocked ∧ step on = .next on := ⟨by simp [State.interlocked, on], rfl⟩

theorem wit_StepKeepsBounds : step on = .next on ∧ on.booksFit ∧ on.sessionsFit ∧ on.tagsFit := by
  refine ⟨rfl, ?_⟩
  unfold State.booksFit State.sessionsFit State.tagsFit
  decide +kernel

theorem wit_StepKeepsObjectsCanonical : on.objsCanonical ∧ step on = .next on := ⟨by unfold State.objsCanonical; decide +kernel, rfl⟩

theorem wit_ObjectsReadBack : (on.put Obj.pe_rebuild_rate 0 7).objsCanonical ∧ 255 < 256 ∧
    (Obj.pe_rebuild_rate, 1) ≠ (Obj.pe_rebuild_rate, 0) := by
  unfold State.objsCanonical
  decide +kernel

theorem wit_WritesAreRefusedOrRun :
    writeOf on (.fwWarmReset 0 1) = some { cls := 0, ix := Obj.fw_warm_reset, ok := true } ∧
    on.takesWrite { cls := 0, ix := Obj.fw_warm_reset, ok := true } = false ∧
    ((on.startRun Obj.gb_clear_result).result Obj.gb_clear_result).ready = false ∧ Obj.tt_check_result ≠ Obj.gb_clear_result := by
  decide +kernel

theorem wit_RunningActionsIgnoreWrites :
    writeOf on (.gbClear 2 1) = some { cls := 2, ix := Obj.gb_clear, res := some Obj.gb_clear_result } ∧
    ((on.startRun Obj.gb_clear_result).result Obj.gb_clear_result).ready = false ∧
    (objRow Obj.gb_clear 0).any (fun r => r.ty == .action) = true ∧ resultOf Obj.gb_clear = some Obj.gb_clear_result := by
  decide +kernel

theorem wit_ResultsReadWithoutEffect : (objRow Obj.gb_clear_result 0).any (fun r => r.ty == .result) = true ∧
    on.mayRead 2 Obj.gb_clear_result 0 = true := by decide +kernel

theorem wit_CheckerJudgesStoreTwo :
    on.takes (.shadowImageEnd 2 []) ∧ on.tt.stores.length = 4 ∧ on.takes (.ttCheck 2 1) ∧
    (({ on with results := (on.startRun Obj.tt_check_result).results, tt := { checkBusy := true } } : State).result
      Obj.tt_check_result).ready = false := by
  simp only [takes_iff]
  decide +kernel

/-- Store 2 in a state, and a switch to it. -/
def stored (st : StoreState) (q : Option SwitchReq) : State :=
  { on with tt := { stores := [{}, { state := st }, {}, {}], switch := q, closedClasses := [0x11] }
            results := (on.startRun Obj.tt_switch_result).results }

/-- A piece waits in class 0x11. -/
def queued : AdmSt := { queue := [{ cls := 0x11, blocks := 1 }] }

theorem wit_SwitchRunsItsPhases :
    (({ stored .accepted none with results := [] } : State).store 2).state = .accepted ∧
    ({ stored .accepted none with results := [] } : State).takes (.ttSwitch 2 2) ∧
    (stored .accepted (some { target := 2, phase := .classWait 64 })).tt.switch = some { target := 2, phase := .classWait 64 } ∧
    (∀ c ∈ (stored .accepted none).tt.closedClasses, (stored .accepted none).classBusy c = false) ∧
    (∃ c ∈ (stored .accepted none).tt.closedClasses, ({ stored .accepted none with adm := queued } : State).classBusy c = true) ∧
    ((stored .accepted none).result Obj.tt_switch_result).ready = false ∧
    ({ stored .accepted none with results := [] } : State).takes (.ttShadowToF1 2 1) := by
  simp only [takes_iff]
  decide +kernel

/-- The digest of an image is opaque: wherever it matches the one the image carries, the state meets the hypotheses. -/
theorem wit_SwitchDigest (h : imgDigest (stored .accepted none).tt.stores[1].image = imgSha []) :
    let s := stored .accepted (some { target := 2 })
    s.tt.switch = some { target := 2 } ∧ imgDigest (s.store 2).image = imgSha (s.store 2).image := ⟨rfl, h⟩

/-! ### Witnesses: porter, guestbook, counters, cipher -/

/-- A porter whose pool 1 has a bed held by unit 0x11 once. -/
def held1 (state count : Nat) : PorterSt := { words := [{ handle := 0x1000000 * 0 + 5, state := state, owner := 0x11, count := count }] }

theorem wit_BedsAreDrawn :
    (on.po.pick (1 * 2 + 1 % 2)).isSome = true ∧ (({ counts := [] } : PorterSt).pick (1 * 2 + 1 % 2)) = none ∧
    262144 < 262145 ∧ (on.po.pick (4 * 2 + 0 % 2)).isSome = true ∧ (on.po.pick (0 * 2 + 0 % 2)).isSome = true ∧
    (({ counts := [] } : PorterSt).pick (0 * 2 + 0 % 2)) = none := by decide +kernel

theorem wit_BedReferencesCount :
    ((held1 1 1).word 5).gen = hGen 5 ∧ ((held1 1 1022).word 5).state ≠ 0 ∧ ((held1 1 1022).word 5).count < 1023 ∧
    2 ≤ ((held1 1 2).word 5).count ∧ ((held1 2 1).word 5).state = 2 ∧ ((held1 2 1).word 5).count ≤ 1 ∧
    ((held1 1 1).word 5).state = 1 ∧ ((held1 1 1).word 5).owner = 0x11 ∧
    ((held1 1 1).word (5 + 2 ^ 24)).gen ≠ hGen (5 + 2 ^ 24) := by decide +kernel

/-- A record of the gatehouse section. -/
def rec1 : GbRecord := { gate := true, severity := 3, code := 0x2103, seq := 1 }

theorem wit_GuestbookClearsAndCopies :
    svc.takes (.gbClear 2 1) ∧ svc.toSection 0xC002 = false ∧
    (let b : BookSt := { copying := true, gate := { records := [rec1] } }
     (b.gate.records.filter fun x => decide (b.merged < x.seq)) = [rec1] ∧ b.main.used + rec1.length ≤ gbMainCap) := by
  simp only [takes_iff]
  decide +kernel

theorem wit_CountersAreConfiguredAndDumped :
    on.takes (.counterConfigWrite 2 0x11 0 0) ∧ on.takes (.filterWrite 2 0 (List.replicate 48 0)) ∧
    (let s : State := { on.put Obj.gb_dump_interval 0 5 with book := { dumpLegs := 5 } }
     s.get Obj.gb_dump_interval ≠ 0 ∧ s.get Obj.gb_dump_interval ≤ s.book.dumpLegs ∧ s.book.dumping = 0) ∧
    ({ dumping := 1 } : BookSt).dumping ≠ 0 := by
  simp only [takes_iff]
  decide +kernel

theorem wit_KeysAreDerivedAndReplaced :
    ({ derivs := [{}] } : CipherSt).derivs = {} :: [] ∧ ({ derivs := [{}] } : CipherSt).store.length < 8192 ∧
    on.takes (.cyOwnerRootWrite 2 (List.replicate 32 1)) ∧ on.get Obj.cy_owner_root_state ≠ 1 ∧
    (List.replicate 32 (1 : Byte)).length = 32 ∧ on.md.mode ≠ .service ∧ on.ce.namespaces = [] ∧
    (inMode .service).takes (.cyOwnerRootWrite 2 (List.replicate 32 1)) ∧ ({ namespaces := [{}] } : CeSt).namespaces ≠ [] ∧
    on.takes (.cyHostKeyDerive 2 1) := by
  simp only [takes_iff]
  decide +kernel

/-! ### Witnesses: modes, resets, Holdup, firmware, Muster -/

theorem wit_ReferenceClockDrains :
    svc.clk.refclk = true ∧ svc.clk.pll = .locked ∧ svc.md.mode = .service ∧
    (let s : State := { svc with clk := { pll := .holdover } }; s.clk.pll = .holdover ∧ s.md.mode ≠ .vigil ∧ s.md.mode ≠ .holdup) ∧
    svc.clk.pll ≠ .holdover := by decide +kernel

theorem wit_ResetsAndVigilEntry :
    svc.md.mode ≠ .vigil ∧ keyCleared false (objKey Obj.tt_check_result 0) = true ∧ svc.md.mode ≠ .holdup ∧
    svc.takes (.fwWarmReset 2 1) ∧
    (let m : ModeSt := { mode := .drain, activation := some (2, .endpoint, 1) }
     m.mode ≠ .vigil ∧ m.activation = some (2, .endpoint, 1) ∧ m.activationReady = false ∧ m.mode = .drain) := by
  simp only [takes_iff]
  decide +kernel

theorem wit_ShutdownPassesThroughDrain :
    svc.takes (.fwShutdown 2 1) ∧ svc.md.mode = .service ∧ (inMode .muster).takes (.fwShutdown 2 1) ∧
    (inMode .holdup).takes (.fwShutdown 2 1) ∧ ({ shutdown := true } : ModeSt).shutdown = true := by
  simp only [takes_iff]
  decide +kernel

/-- In Holdup, the flush at its end page and the stage on. -/
def flushing : State :=
  { inMode .holdup with lg := { flush := some { boundary := true, pages := 3, total := 4 } }, gh := { huDrv := true } }

theorem wit_HoldupFlushesAndEnds :
    svc.gh.powered = true ∧ svc.pfVote ≠ 0 ∧
    svc.pfVote ≤ ((List.range 3).filter fun i => [true, true, false].getD i false && svc.lg.comparators.getD i 1 != 1).length ∧
    (inMode .muster).pfVote ≠ 0 ∧
    flushing.lg.flush = some { boundary := true, pages := 3, total := 4 } ∧ flushing.md.mode = .holdup ∧ flushing.gh.huDrv = true ∧
    flushing.feedValid = false ∧ ({ flushing with gh := { feeds := [{ valid := true }, {}], selected := 1 } } : State).feedValid = true := by
  decide +kernel

/-- A reset of a unit is under way. -/
def resetting (u : Nat) : State := { svc with md := { svc.md with resets := [{ unit := u }] } }

theorem wit_PartialResetsCloseAndEnd :
    svc.mayReset 0x20 = true ∧ svc.takes (.fwUnitReset 2 0x20) ∧ svc.takes (.cyCoreReset 2 15) ∧ svc.mayReset 0x2F = true ∧
    svc.cy.coreState.getD 0 2 = 0 ∧ svc.mayReset 0x58 = true ∧ 0x58 ∉ svc.md.closedStewards ∧ (∀ r ∈ svc.md.resets, r.unit ≠ 0x58) ∧
    (∀ u ∈ [0x20, 0x2F, 1, 4, 6, 8, 0x1F, 0x58, 0x5F], ((resetting u).md.resets.find? fun x => x.unit == u && x.phase != .ready) = some { unit := u }) := by
  simp only [takes_iff]
  decide +kernel

/-- The endpoint's controller is enabled. -/
def epOn : State := { svc with ep := { ready := true, link := 1 } }

theorem wit_FirmwareIsDownloadedAndCommitted :
    (epOn.adminFrom .endpoint true false).isSome = true ∧ epOn.firmwareFrom epOn.ce.endpointAssoc = true ∧ epOn.ce.download = none ∧
    (∀ f ∈ epOn.ce.fragments, 0 + 4 ≤ f.1 ∨ f.1 + f.2.length ≤ 0) ∧
    (let m : ModeSt := { mode := .drain, activation := some (2, .endpoint, 1), restarting := true }
     m.activation = some (2, .endpoint, 1) ∧ m.activationReady = false ∧ m.mode = .drain ∧ m.restarting = true) := by decide +kernel

/-- Digests and signatures are opaque: wherever a package passes its check, a slot that holds it meets the hypotheses of Commit. -/
theorem wit_FirmwareIsDownloadedAndCommitted_commit (p : List Byte) (h : checkPackage 0 [] p = 0) :
    let s : State := { epOn with md := { epOn.md with slots := [{ package := p }, {}] } }
    s.ce.download = none ∧ checkPackage (s.get Obj.gh_tally_rollback_fw) s.md.ownerKey (s.slot 1).package = 0 := ⟨rfl, h⟩

theorem wit_PackagesAndKeysAreJudged :
    ({ on with md := { boot := 3 } } : State).takes (.fwRecoveryImage 2 []) ∧
    checkPackage (on.get Obj.gh_tally_rollback_fw) on.md.ownerKey [] ≠ 0 ∧
    on.takes (.fwOwnerKeyWrite 2 (List.replicate 2592 1)) ∧ on.md.ownerKey = [] ∧ on.takes (.fwOwnerKeyWrite 2 []) ∧
    (let s : State := { svc with md := { svc.md with slots := [{ security := 1 }, {}], ranFrom := some 0 }, gh := { now := 10 ^ 18 } }
     s.md.mode = .service ∧ s.confirmed = true ∧ s.get Obj.gh_tally_rollback_fw < (s.slot s.md.active).security) := by
  simp only [takes_iff]
  decide +kernel

/-- Vigil with feed A selected. -/
def fed : State := { on with gh := { feeds := [{ valid := true }, {}], selected := 1 } }

theorem wit_VigilIsLeftUnderThePolicy :
    fed.md.mode = .vigil ∧ fed.gh.powered = true ∧ fed.gh.selected ≠ 0 ∧ fed.gh.board.offTicks = 0 ∧ fed.gh.board.latched = false ∧
    fed.gh.railsOff = none ∧ fed.gh.bleedGoal ≠ 1 ∧ fed.get Obj.fw_start_policy ≠ 1 ∧
    (let s := fed.put Obj.fw_start_policy 0 1
     s.takes (.fwStart 2 1) ∧ s.md.mode ≠ .muster ∧ s.heldForPromotion = true ∧ s.takes (.siPromote 2 1) ∧
     ({ s with md := { held := true, mode := .muster, hold := .policy } } : State).takes (.fwStart 2 1)) ∧
    ({ fed with results := [] } : State).takes (.siPromote 2 1) ∧ fed.heldForPromotion = false ∧ fed.clk.pll ≠ .holdover ∧ fed.clk.musterHalted = false ∧
    (let s : State := { fed with md := { shelfConfig := 1, held := true }, lg := { descBlank := true } }
     s.takes (.siPromote 2 1) ∧ s.singleShelf = true ∧ s.heldForPromotion = true) := by
  simp only [takes_iff]
  decide +kernel

/-- A step of Muster. -/
def step_ (n : Nat) : State := { on with md := { mode := .muster, step := n }, clk := { pll := .locked }, tt := { pattern := .image } }

theorem wit_MusterStepsEnd :
    (∀ n ∈ [3, 5, 12, 13], (step_ n).md.mode = .muster ∧ (step_ n).md.hold ≠ .selfTest ∧ (step_ n).md.hold ≠ .recovery ∧
      (step_ n).md.step = n ∧ (step_ n).clk.pll ≠ .holdover ∧ (step_ n).clk.musterHalted = false ∧ (step_ n).clk.refclk = false ∧
      ((step_ n).paired = false ∨ (step_ n).fallbackReady = true) ∧ (step_ n).paired = false ∧ (step_ n).tt.pattern = .image ∧
      (step_ n).si.idConflict = false) ∧ 4 ≠ (step_ 3).md.step := by decide +kernel

/-! ### Witnesses: the gatehouse -/

/-- In Service, with a switch of bay 3 and the board switch in a state. -/
def switched (x : Switch) : State := { svc with gh := { bays := (List.replicate 24 {}).set 3 x, board := x } }

/-- A bay pin of bay 3. -/
def pinned (x : BayPin) : State := { svc with gh := { pins := (List.replicate 24 {}).set 3 x } }

theorem wit_SwitchesTripAndTurnOn :
    (let s := switched { on := true, acc := 5000000, letThrough := 5, onTicks := 100, pgTimeout := 100000, trips := 6 }
     s.gh.powered = true ∧ s.controls 24 = true ∧ (s.switch 24).on = true ∧ s.gh.bays.length = 24 ∧ (s.switch 3).on = true ∧
     (s.switch 24).letThrough * 1000000 ≤ (s.switch 24).acc ∧ (s.switch 24).good = false ∧
     (s.switch 24).pgTimeout ≤ (s.switch 24).onTicks * 1000 ∧
     ({ s with si := { bayOwner := true, bayDriving := true } } : State).controls 3 = true) ∧
    (let s := switched { below := 100000, goodTicks := 60000000, trips := 1 }
     100000 ≤ (s.switch 24).below ∧ 60000000 ≤ (s.switch 3).goodTicks ∧ (s.switch 3).trips ≠ 0 ∧ (s.switch 24).trips ≠ 0 ∧
     (s.switch 24).on = false ∧ (s.switch 24).latched = false ∧ (s.switch 24).offTicks = 0 ∧ s.md.mode ≠ .vigil ∧
     s.md.mode ≠ .holdup ∧ s.takes (.ghBoardUnlatch 2 1) ∧ s.takes (.ghBayUnlatch 2 3)) ∧
    (let s := pinned { empty := 5, needEmpty := 5 }
     (s.gh.pins.getD 3 {}).present = false ∧ (s.gh.pins.getD 3 {}).low = false ∧ (s.gh.pins.getD 3 {}).needEmpty ≠ 0 ∧
     (s.gh.pins.getD 3 {}).needEmpty ≤ (s.gh.pins.getD 3 {}).empty ∧ (s.switch 3).trips = 0 ∧ (s.switch 3).latched = false) ∧
    (let s : State := { pinned { low := true, present := true } with si := { bayOwner := true, bayDriving := true } }
     s.bayMay 3 = true ∧ (∀ j, j < 3 → s.bayMay j = false) ∧ s.staggered = true) := by
  simp only [takes_iff]
  decide +kernel

theorem wit_CarriersComeAndGo :
    (let s := pinned { low := true, lowTicks := 250000 }
     s.gh.powered = true ∧ (s.gh.pins.getD 3 {}).low = true ∧ (s.gh.pins.getD 3 {}).present = false ∧
     250000 ≤ (s.gh.pins.getD 3 {}).lowTicks) ∧
    (let s := pinned { present := true }; (s.gh.pins.getD 3 {}).present = true ∧ (s.gh.pins.getD 3 {}).low = false) ∧
    svc.takes (.ghBayEnableWrite 2 23 0) ∧ svc.takes (.ghBayEnableWrite 2 0 1) ∧
    ({ svc with si := { bayOwner := true, bayDriving := true } } : State).drivesBays = true ∧
    (let s : State := { switched { on := true, good := true } with drives := { bays := List.replicate 24 { refclk := true } } }
     (s.switch 3).on = true ∧ (s.switch 3).good = true ∧ (s.drive 3).refclk = true ∧ s.heldForPromotion = false ∧ s.md.mode ≠ .vigil ∧ s.md.mode ≠ .muster) := by
  simp only [takes_iff]
  decide +kernel

/-- Feeds, the one selected, a changeover. -/
def feeds (a b : Feed) (sel : Nat) (c : Option (Nat × Nat)) : State :=
  { svc with gh := { feeds := [a, b], selected := sel, changeover := c } }

theorem wit_FeedsChangeOver :
    (let s := feeds { inRange := 10000 } {} 0 none; (s.feed 0).valid = false ∧ 10000 ≤ (s.feed 0).inRange) ∧
    (feeds {} {} 2 (some (1 + 1, 20))).gh.changeover = some (1 + 1, 20) ∧
    (let s := feeds { valid := true, mv := 48000, validTicks := 100000000 } { valid := true } 2 none
     s.gh.changeover = none ∧ s.gh.selected ≠ 0 ∧ s.gh.selected ≠ 0 + 1 ∧ s.bestFeed = 0 + 1 ∧
     s.get Obj.gh_feed_return_delay ≤ (s.feed 0).validTicks * 1000 ∧ s.gh.changed = false) ∧
    (let s := feeds { valid := true } {} 0 none; s.gh.changeover = none ∧ s.gh.selected = 0 ∧ s.bestFeed = 0 + 1) := by
  decide +kernel

/-- PTP in a state, its clock at a time. -/
def ptp (st ns : Nat) : State := { svc with pc := { ptpState := st, clockNs := ns } }

theorem wit_GatehouseTicksPublishesAndKeepsTime :
    on.gh.powered = true ∧ ({ powered := false } : GateSt).powered = false ∧ (ptp 2 1000000).pc.ptpState = 2 ∧
    1000000 ≤ (((ptp 2 1000000).pc.clockNs : Int) - ((ptp 2 1000000).gh.now : Int)).natAbs ∧
    (((ptp 2 999999).pc.clockNs : Int) - ((ptp 2 999999).gh.now : Int)).natAbs < 1000000 ∧
    (ptp 2 0).takes (.ghTimeSet 2 7) ∧ (ptp 0 0).takes (.ghTimeSet 2 7) ∧ (ptp 0 0).pc.ptpState ≠ 2 := by
  simp only [takes_iff]
  decide +kernel

/-- A gatehouse in Service. -/
def gate (g : GateSt) : State := { svc with gh := g }

theorem wit_TheBankChargesAndMeasures :
    (let s := gate { charging := true, bankMv := (gate {}).bankTarget, ticks := 60000000 }
     s.gh.charging = true ∧ s.gh.floatBand = false ∧ s.gh.measuring = none ∧ s.bankTarget * 998 ≤ s.gh.bankMv * 1000 ∧
     s.gh.bankMv * 1000 ≤ s.bankTarget * 1002 ∧ 0 < s.gh.bankMv ∧
     s.gh.chargeLogged = false ∧ 60000000 ≤ s.gh.ticks - s.gh.chargeAt) ∧
    (let s := gate { feeds := [{ valid := true }, {}], selected := 1, board := { on := true, good := true }, igate := true }
     s.takes (.ghBankEnergyCeilingWrite 2 24000000) ∧ s.gh.measuring = none ∧ s.gh.bleedGoal ≠ 1 ∧ s.md.mode ≠ .holdup ∧
     s.get Obj.gh_bank_energy_ceiling ≤ 24000000 ∧ s.mayCharge = true ∧
     (s.put Obj.gh_bank_energy_ceiling 0 1000000).get Obj.gh_bank_energy_ceiling < 24000000) ∧
    (let s : State := { gate { bankMv := 60000 } with objs := (on.put Obj.gh_bank_capacitance 0 10000000).objs }
     s.takes (.ghBankEnergyCeilingWrite 2 1000000) ∧ 1000000 ≤ s.get Obj.gh_bank_energy_ceiling ∧
     1000000 < s.bankEnergy s.gh.bankMv ∧ objsWf s.objs = true) ∧
    (let s := gate { floatBand := true }
     s.gh.powered = true ∧ s.gh.measuring = none ∧ s.gh.floatBand = true ∧ s.gh.changeover = none ∧ s.gh.sequencing = none ∧
     s.takes (.ghBankMeasure 2 1)) ∧
    (let s : State := { on with gh := { measuring := some true }, results := (on.startRun Obj.gh_bank_measure_result).results }
     s.gh.measuring = some true ∧ (s.result Obj.gh_bank_measure_result).ready = false) ∧
    (let s := gate { bleed := true, bleedGoal := 1 }
     s.gh.bleed = true ∧ s.gh.bleedGoal = 1 ∧ s.bankEnergy s.gh.bankMv ≤ s.get Obj.gh_bank_residue) := by
  simp only [takes_iff]
  decide +kernel

theorem wit_RailsAndHeatStopTheDies :
    (let s := gate { sequencing := some [(0, 1000, 5000)] }
     s.gh.sequencing = some ((0, 1000, 5000) :: []) ∧ s.gh.rails.getD 0 0 = 0 ∧ (∀ x ∈ s.gh.rails, x ≠ 2)) ∧
    (let s := gate { sequencing := some [(11, 1000, 5000)], rails := (List.replicate 12 2).set 11 1, railWait := 5 }
     s.gh.rails.getD 11 0 = 1 ∧ s.gh.railGood.getD 11 false = false ∧ 5000 ≤ s.gh.railWait * 1000 ∧ s.md.mode ≠ .vigil) ∧
    (let s := gate { rails := List.replicate 12 2, railLow := List.replicate 12 100000 }
     s.gh.railsOff = none ∧ s.gh.rails.getD 11 0 = 2 ∧ s.get Obj.gh_rail_pg_deglitch < s.gh.railLow.getD 11 0 * 1000) ∧
    (let s := gate { hotMs := [0, 0, 0, 10] }
     s.gh.powered = true ∧ 10 ≤ s.gh.hotMs.getD 3 0 ∧ s.gh.thermTrip = false ∧ s.md.mode ≠ .vigil) := by decide +kernel

/-! ### Witnesses: slot-cells -/

/-- The word of a cell of class 0 of an operation class, between two units, of a pool, for porter port 0. -/
def word (opc src snk pool : Nat) : Nat :=
  let w := src * 2 ^ 56 + snk * 2 ^ 48 + opc * 2 ^ 42 + 2 ^ 34 + pool * 2 ^ 25
  w + crc8 ((beBytes 8 w).take 7)

/-- An image whose first cell is the word is in force; the bed drawn for port 0 is bed 5; one transfer is ready. -/
def cells (w : Nat) (j : Job) : State :=
  { svc with tt := { pattern := .image, legStarted := true, stores := [{ image := leBytes 8 w, state := .active }, {}, {}, {}] }
             po := { drawn := [(0, 5)] }, ce := { ready := [{ cls := 0, opc := (cellWord w).opc, job := j }] } }

/-- Its first cell, named by the command, carries the job, with or without a bed, and leaves a state for which the test holds. -/
def moves (i : Nat → Nat → Nat → Instr) (w : Nat) (j : Job) (bed : Bool) (g : State → State := id)
    (f : State → Bool := fun _ => true) : Bool :=
  match (g (cells w j)).carried (i 0 0 w) with
  | some (t, b, u) => t.job == j && b.isSome == bed && f u
  | none => false

theorem wit_CellsThatCarryNothing :
    let w := word Opc.netIn 1 0x10 1
    let s := cells w (.waitIn 0)
    cellNamed (.netIn 0 0 w) = some (0, 0, w) ∧ s.unfired 0 0 = true ∧ on.unfired 0 64 = false ∧
    (s.toSlot 0).firesCell Opc.netIn 0 0 = true ∧ (s.toSlot 0).firesCell Opc.cipher 0 0 = false ∧
    cellChkGood w = true ∧ cellChkGood (w + 1) = false ∧ w = (s.toSlot 0).cellRead 0 0 ∧
    cellChkGood (word Opc.netIn 1 0x11 1) = true ∧ word Opc.netIn 1 0x11 1 ≠ (s.toSlot 0).cellRead 0 0 ∧
    (s.wordAt 0 0).opc ≠ Opc.none ∧ s.cellClosed (s.wordAt 0 0) = false ∧
    ({ s with tt := { s.tt with closedUnits := [1] } } : State).cellClosed (s.wordAt 0 0) = true ∧
    (let y := (s.cellPlaced 0 0).2.cellCounted (s.wordAt 0 0)
     (y.choose (s.wordAt 0 0) (okNetIn (s.wordAt 0 0) y)).isSome = true) ∧
    (let t : State := { s with po := { missed := [0] } }
     (t.cellPlaced 0 0).1 = none ∧ (t.wordAt 0 0).pool ≤ 4) ∧
    (let t : State := { s with ce := {} }
     let y := (t.cellPlaced 0 0).2.cellCounted (t.wordAt 0 0)
     y.choose (t.wordAt 0 0) (okNetIn (t.wordAt 0 0) y) = none) ∧
    (let n := cells noneCode (.waitIn 0)
     n.unfired 0 0 = true ∧ (n.toSlot 0).firesCell Opc.none 0 0 = true ∧ cellChkGood noneCode = true ∧
     noneCode = (n.toSlot 0).cellRead 0 0 ∧ 4 < ((n.toSlot 0).wordAt 0 0).pool ∧ (n.wordAt 0 0).opc = Opc.none) := by
  decide +kernel

theorem wit_CellsRunTheEarliestTransfer :
    moves .netIn (word Opc.netIn 1 0x10 1) (.waitIn 0) true = true ∧
    (let s := cells (word Opc.netIn 1 0x10 1) (.waitIn 0)
     (s.choose (s.wordAt 0 0) fun _ => true).isSome = true ∧ (s.choose (s.wordAt 0 0) fun _ => false) = none) := by decide +kernel

/-- A command with one block, of connection 0x800. -/
def cmd1 : Cmd := { arrival := 9, cap := { op := .read, qpn := 0x800, nlb := 1 }, blocks := [{ lba := 0, bed := some 5 }] }

/-- With the command, its connection on a link that is up, and the bus master enabled. -/
def withCmd (s : State) : State :=
  { s with ce := { s.ce with cmds := [cmd1] }, tr := { conns := [{ qpn := 0x800 }] }
           pc := { links := [{ up := true, rate := 100000 }] }, ep := { busMaster := true } }

/-- Command 9 and its block are there. -/
def has1 (u : State) : Bool := u.cmd? 9 == some cmd1 && (cmd1.blk? 0).isSome && (u.conn? 0x800).isSome

theorem wit_HostCellsMoveTheirTransfer :
    (∀ j ∈ [Job.payloadIn 9 0 1 false 2 (0, 0), .roomIn 3 0 1 false 2 (0, 0)],
      moves .netIn (word Opc.netIn 1 0x10 1) j true = true) ∧
    moves .netIn (word Opc.netIn 1 0x10 1) (.waitIn 4) true (fun s => { s with tr := { waiting := [{ tag := 4 }] } })
      (fun u => (u.tr.waiting.find? fun w => w.tag == 4).isSome) = true ∧
    moves .netIn (word Opc.netIn 1 0x10 7) (.frameIn 4) false = true ∧
    moves (fun a b c => .netOut a b c 4096) (word Opc.netOut 0x20 1 7) (.blockOut 9 0) false withCmd has1 = true ∧
    moves .control (word Opc.control 0x50 1 7) (.pullRequest 9 0) false withCmd has1 = true ∧
    moves .control (word Opc.control 0x50 1 7) (.response 9) false = true ∧
    moves .control (word Opc.control 0x50 1 7) (.reply {}) false = true ∧
    moves .context (word Opc.context 0x54 0x52 7) (.contextFetch 4) false = true ∧
    moves .context (word Opc.context 0x52 0x54 7) (.contextSpill 4) false = true ∧
    moves .endpoint (word Opc.endpoint 6 0x20 1) (.endpointIn 9 0 1) true = true ∧
    moves .endpoint (word Opc.endpoint 0x20 6 7) (.endpointOut 9 0) false withCmd has1 = true ∧
    moves .dump (word Opc.dump 0x58 0x54 7) (.dump 9) false = true := by decide +kernel

/-- A pull of a read room on its way out. -/
theorem wit_HostCellsMoveTheirTransfer_pull :
    moves (fun a b c => .netOut a b c 4096) (word Opc.netOut 0x20 1 7) (.pullOut 4 0) false (fun s =>
      let t := withCmd s
      { t with ce := { t.ce with pulls := [{ id := 4, qpn := 0x800, blocks := [{}] }] } }) = true := by decide +kernel

/-- A request of a pass in core 0, whose keys are there. -/
def request (q : CipherReq) (s : State) : State :=
  { s with cy := { reqs := [{ q with core := some 0 }] }
           ce := { s.ce with cmds := [{ cmd1 with blocks := [{ lba := 0, bed := some 5, stage := .inBed }] }]
                             pulls := [{ id := 4, blocks := [{ zero := true }] }] } }

theorem wit_MediaCellsMoveTheirTransfer :
    moves (fun a b c => .cipher a b c true) (word Opc.cipher 0x20 0x20 7) (.cipherBlock 9 0) false (request { arrival := 9 }) = true ∧
    moves (fun a b c => .cipher a b c true) (word Opc.cipher 0x20 0x20 7) (.pullCipher 4 0) false (request { pull := some (4, 0) })
      = true ∧
    (∀ u ∈ [DriveUse.blockRead 9 0, .fill 1 0 0x20 3, .row 2 3],
      moves .driveIn (word Opc.driveIn 8 0x20 1) (.driveIn u 1 0) true = true) ∧
    moves .driveIn (word Opc.driveIn 8 0x20 1) (.driveIn (.descRead 1 0 2) 1 0) true = true ∧
    moves .driveOut (word Opc.driveOut 0x20 8 7) (.driveOut 3 1 7) false = true ∧
    moves .parityIn (word Opc.parityIn 0x20 0x30 7) (.parityIn 4 1 5 0) false = true ∧
    moves .parityIn (word Opc.parityIn 0x20 0x30 7) (.parityTapIn 9 0) false = true ∧
    (∀ j ∈ [Job.parityOut 4 1, .parityFull 9 0 0 true],
      moves .parityOut (word Opc.parityOut 0x30 0x20 1) j true = true) ∧
    (∀ j ∈ [Job.slabRead 9 0 1, .cacheRead 9 0, .rowCache 4 1, .pullRead 4 0],
      moves .cacheRd (word Opc.cacheRd 0x40 0x20 1) j true = true) ∧
    (∀ j ∈ [Job.slabWrite 9 0, .cacheFill 1 0 5 3, .roomPin 9 0],
      moves .cacheWr (word Opc.cacheWr 0x20 0x40 7) j false = true) := by decide +kernel

theorem wit_CopyCellsMoveTheirTransfer :
    moves .journal (word Opc.journal 0x40 8 7) (.journal 0 1 7) false = true ∧
    moves .vault (word Opc.vault 0x40 0x50 7) .vaultConsumed false = true ∧
    moves .vault (word Opc.vault 0x40 0x50 7) (.vaultPage 2) false (fun s => { s with lg := { flush := some { pages := 3, total := 5 } } })
      (fun u => u.lg.flush == some { pages := 3, total := 5 }) = true ∧
    moves .vault (word Opc.vault 0x40 0x50 7) (.vaultPage 2) false (fun s => { s with lg := { flush := some { pages := 3, total := 6 } } })
      (fun u => u.lg.flush == some { pages := 3, total := 6 }) = true ∧
    moves .vault (word Opc.vault 0x40 0x50 7) (.vaultPage 2) false (fun s => { s with lg := { vaultRead := some (0, 1) } })
      (fun u => u.lg.flush == none && u.lg.vaultRead == some (0, 1)) = true ∧
    moves .sisterOut (word Opc.sisterOut 0x40 5 7) (.legFrame 4 0) false
      (fun s => { s with si := { packets := [{ leg := 4, frames := [[1]] }] } })
      (fun u => (u.si.packets.find? fun p => p.leg == 4 && !p.frames.isEmpty).isSome) = true ∧
    moves .sisterOut (word Opc.sisterOut 0x40 5 7) (.snapshotFrame 0) false (fun s => { s with si := { snapshot := [[1], [2]] } })
      (fun u => u.si.snapshot == [[1], [2]]) = true ∧
    (∀ n ∈ [1, 2], moves .sisterIn (word Opc.sisterIn 5 0x40 7) (.shadowFrame 0) false
      (fun s => { s with si := { incoming := [{ framesLeft := n }] } })
      (fun u => u.si.incoming == [{ framesLeft := n }]) = true) := by
  decide +kernel

/-! ### Witnesses: maintenance, rebuild, drives -/

/-- A namespace of one row, 4+2 members, in wing 1. -/
def ns1 : Namespace := { nsid := 1, layout := 8192#16, rows := 1 }

/-- Wing 1 is held and open, namespace 1 exists, the image fires. -/
def held : State :=
  { svc with ce := { namespaces := [ns1] }, si := { wings := [{ state := .holder, claim := 1, ana := .optimized, open_ := true }, {}] }
             tt := { pattern := .image, legStarted := true } }

/-- An eligible waybill of stripe 0. -/
def wb : Rec := { sealNo := 1, nsid := 1, blocks := [0], eligible := true, copyHeld := true }

/-- A full-stripe part whose blocks are ready: its command, its intent, its accumulator. -/
def full : State :=
  { held with
    ce := { namespaces := [ns1], cmds := [{ arrival := 9, cap := { op := .write, nsid := 1 }
                                            parts := [{ stripe := 0, first := 0, blocks := 1, full := true, intent := some 3 }]
                                            blocks := [{ lba := 0, stage := .ciphered, bed := some 5 }] }] }
    lg := { recs := [{ kind := 2, sealNo := 3, copyHeld := true }] }
    pe := { accums := [{ arrival := 9, stripe := 0, freed := true }] } }

theorem wit_MaintenanceAppliesAndCommits :
    svc.takes (.peRebuildRateWrite 2 180000) ∧ svc.takes (.pePatrolEnableWrite 2 0) ∧ svc.takes (.pePatrolLogClear 2 1) ∧
    svc.takes (.lgLedgerSizeWrite 2 2147483648) ∧ svc.takes (.lgFlushProfileWrite 2 1) ∧ svc.takes (.nsPartyMaskWrite 2 1024 65535) ∧
    (let s : State := { held with lg := { recs := [wb] } }
     (s.eligibleRecs 1 0).getLast? = some wb ∧ s.stripeOpen 1 0 = true ∧ s.correcting 1 0 = false ∧ s.holdsWing wb.wing = true ∧ s.firing = true ∧
       s.lg.replayWing ≠ some wb.wing ∧
       ({ s with drives := { cmds := [{ use := .patrolRewrite 1 0 0 0 }] } } : State).correcting 1 0 = true) ∧
    (let s : State := { held with lg := { recs := [wb], replayWing := some 1 } }
     (s.eligibleRecs 1 0).getLast? = some wb ∧ s.lg.replayWing = some wb.wing) ∧
    held.eligibleRecs 1 0 = [] ∧
    (full.cmd? 9).any (fun c => (c.parts.find? fun p => p.full && p.stripe == 0).any (fun p => p.issued == false && p.fault == false &&
      (p.intent.any fun q => full.lg.recs.any fun r => r.kind == 2 && r.wing == (full.ns c.cap.nsid).wing && r.sealNo == q && r.copyHeld) &&
      (c.blocks.filter fun b => inSpan b.lba (p.first, p.blocks)).length == p.blocks) && full.stripeOpen c.cap.nsid 0 && !full.correcting c.cap.nsid 0 &&
      c.blocks.all fun b => b.stage == .ciphered && b.bed.isSome && !full.frameOpen b.frame) = true ∧ full.md.mode ≠ .holdup ∧
    (full.accum? 9 0).any (·.freed) = true ∧
    (let s : State := { svc with lg := { jrecs := [{ jseq := 4, bays := [1, 2] }] } }
     s.jrec? 1 4 = some { jseq := 4, bays := [1, 2] }) ∧
    (∀ b : Bool, let r : JRec := { jseq := 4, bays := [1], carry := b, origins := [3] }
     let s : State := { svc with lg := { jrecs := [r] } }
     s.jrec? 1 4 = some r ∧ r.held = false ∧ r.pending = [] ∧ r.bays ≠ [] ∧ r.carry = b ∧ r.origins ≠ []) ∧
    (svc.jrec? 1 4).all (fun r => r.held || !r.pending.isEmpty || r.bays.isEmpty) = true ∧
    svc.lg.comparators.getD 2 1 = 0 ∧ svc.lg.comparators.getD 3 1 ≠ 0 ∧
    ({ descWriting := some (7, []) } : LedgerSt).descWriting = some (7, []) := by
  simp only [takes_iff]
  decide +kernel

/-- A stripe is next in the order of the rebuild, for a running loss of the bay its first member lies on. -/
def rebuilding (tier : Nat) : State :=
  { held with rb := { order := [(tier, 1, 1, 0)] }
              places := [{ log := [{ gen := 2, bay := homeBay 8192#16 0 0, started := true }] }, {}] }

theorem wit_RebuildAndNightWatchProceed :
    held.rb.order = [] ∧ (rebuilding 0).rb.order = (0, 1, 1, 0) :: [] ∧ (rebuilding 0).rebuilds 1 = true ∧
    ({ rebuilding 0 with si := {} } : State).rebuilds 1 = false ∧
    ({ rebuilding 1 with tt := {} } : State).imageFires = false ∧
    (((rebuilding 1).put Obj.pe_rebuild_rate 0 0).get Obj.pe_rebuild_rate = 0) ∧
    (rebuilding 0).imageFires = true ∧ (rebuilding 0).holdsWing 1 = true ∧ (rebuilding 0).get Obj.pe_rebuild_rate ≠ 0 ∧
    ({ rebuilding 0 with ce := {} } : State).ns? 1 = none ∧ (rebuilding 0).ns? 1 = some ns1 ∧
    (rebuilding 0).rebuildHolds 1 0 = false ∧ runningFor ns1 0 ((rebuilding 0).place 1).effLog ≠ [] ∧
    (rebuilding 0).applying 1 0 = false ∧ (rebuilding 0).fullWriting 1 0 = false ∧
    (({ held with rb := { held := [{ nsid := 1, stripe := 0 }] } } : State).hold? 1 0).any
      (fun h => h.rowsLeft == 0 && !h.recorded && h.lostRows == 0) = true ∧
    held.hold? 1 0 = none ∧ held.patrolOver.holdsWing 2 = false ∧ held.patrolOver.rb.requests = [] ∧
    (let s : State := { held with rb := { passStart := [(1, 0)] } }
     s.patrolOver.holdsWing 1 = true ∧ s.patrolOver.patrolRuns = true ∧ s.patrolOver.rb.patrolHeld = none ∧
     s.patrolOver.rb.requests = [] ∧ (s.patrolOver.rb.passStart.any fun p => p.1 == 1) = true ∧
     s.patrolOver.patrolCursor 1 < sumN ((s.patrolOver.wingNs 1).map nsStripes) ∧
     stripeAt (s.patrolOver.wingNs 1) (s.patrolOver.patrolCursor 1) = some (ns1, 0)) ∧
    ({ held with rb := { patrolHeld := some (1, 1, 0) } } : State).patrolOver.rb.patrolHeld.isSome = true ∧
    (let s : State := { held with rb := { requests := [{ nsid := 1 }] }
                                  drives := { bays := List.replicate 24 { state := .inUse } } }
     s.patrolOver.rb.patrolHeld = none ∧ s.patrolOver.imageFires = true ∧
     s.patrolOver.rb.requests.find? (fun q => s.patrolOver.holdsWing (s.patrolOver.ns q.nsid).wing &&
       !s.patrolOver.applying q.nsid q.stripe && !s.patrolOver.fullWriting q.nsid q.stripe &&
       !s.patrolOver.rebuildHolds q.nsid q.stripe) = some { nsid := 1 } ∧
     s.patrolOver.ns? 1 ≠ none ∧ (s.patrolOver.memberAt ns1 0 0).isSome = true) ∧
    held.memberAt ns1 0 0 = none ∧
    (let s : State := { held with places := [{ waitingReturn := [23] }, {}]
                                  drives := { bays := (List.replicate 24 {}).set 23 { state := .inUse } } }
     s.holdsWing 1 = true ∧ (s.place 1).waitingReturn.contains 23 = true ∧ s.bayInUse 23 = true ∧
     (s.place 1).log.length + 25 ≤ 64 ∧ (s.place 1).pendingLoss.contains 23 = false) := by decide +kernel

/-- Bay 23 in a state, a drive in it. -/
def bay (st : BayState) : State :=
  { svc with drives := { bays := (List.replicate 24 {}).set 23 { state := st } }
             gh := { pins := (List.replicate 24 {}).set 23 { low := true, present := true } } }

/-- A command to a drive. -/
def driven (d : DriveCmd) (more : List DriveCmd) : State := { svc with drives := { cmds := d :: more } }

theorem wit_BaysAreExaminedAndContained :
    (bay .empty).bayPin 23 = true ∧ (bay .empty).md.mode ≠ .vigil ∧ ((bay .empty).drive 23).state = .empty ∧
    (bay .contained).takes (.ceBayRelease 2 23) ∧ ((bay .contained).drive 23).state ≠ .inUse ∧
    ((bay .contained).drive 23).state ≠ .examining ∧ (bay .refused).takes (.ceBayAccept 2 23) ∧
    ((bay .refused).drive 23).state = .refused ∧ (bay .refused).drives.bays.length = 24 ∧
    ((bay .examining).drive 23).state = .examining ∧
    (∃ c ∈ ({ bay .examining with drives := { cmds := [{ bay := 23, use := .examine 1 }] } } : State).drives.cmds,
      c.bay = 23 ∧ c.use = .examine 1) ∧ (bay .empty).bayPin 23 = true ∧ ({ bay .refused with gh := {} } : State).bayPin 23 = false ∧ (bay .inUse).takes (.ceBayContain 2 23) ∧
    ((bay .inUse).drive 23).state = .inUse ∧
    (let s := driven { bay := 3, queue := 1, cid := 7, aborting := true } [{ bay := 3, op := .abort, use := .driveAbort 7, cid := 8 }]
     (s.driveCmd? 3 1 7).any (·.aborting) = true ∧ (∃ x ∈ s.drives.cmds, x.bay = 3 ∧ x.use = .driveAbort 7)) := by
  simp only [takes_iff]
  decide +kernel

theorem wit_DriveCommandsEnd :
    (let s := driven { bay := 3, queue := 1, cid := 7 } []
     s.driveCmd? 3 1 7 = some { bay := 3, queue := 1, cid := 7 }) ∧
    (driven { bay := 3, cid := 7 } []).driveCmd? 3 0 7 = some { bay := 3, cid := 7 } ∧
    (let s : State := { driven { use := .blockRead 9 0 } [] with
       ce := { cmds := [{ arrival := 9, blocks := [{ lba := 0, stage := .sourcing }] }] } }
     (∃ x ∈ s.drives.cmds, x.use = .blockRead 9 0 ∧ x.outstanding = true ∧ x.discard = false) ∧
     (((s.cmd? 9).bind (·.blk? 0)).any fun b => b.stage == .sourcing && !b.hedged) = true ∧ s.get Obj.ce_read_hedge ≠ 0) ∧
    ((driven { bay := 3, queue := 1, cid := 7, toMove := 1 } []).driveCmd? 3 1 7).any (fun d => decide (0 < d.toMove)) = true ∧
    ((driven { bay := 3, queue := 1, cid := 7, use := .journal 1 4 } []).driveCmd? 3 1 7).any
      (fun d => d.outstanding && !d.held && d.toMove == 0 && !d.discard && d.use == .journal 1 4) = true ∧
    svc.dark = false ∧ ({ svc.put Obj.lg_flush_profile 0 1 with md := { mode := .holdup } } : State).dark = true ∧
    (let c : Cmd := { arrival := 9, cap := { op := .read, nsid := 1 }, blocks := [{ lba := 0, stage := .sourcing }] }
     let s : State := { held with ce := { namespaces := [ns1], cmds := [c] } }
     s.cmd? 9 = some c ∧ (c.blk? 0).any (fun b => b.stage == .blocked) = false ∧
     (s.pe.jobs.any fun j => j.use == .recon 9 0) = false ∧
     s.rowApplying 1 (stripeOf (s.ns 1).layout 0) (stripBlock (s.ns 1).layout 0) = false) := by decide +kernel

/-! ### Witnesses: commands of the host, transport -/

/-- A command of association 1, not yet checked. -/
def asked (op : CmdOp) (nlb : Nat) : Cmd :=
  { arrival := 9, assoc := 1, cap := { src := .assoc 1, qpn := 0x800, op := op, nsid := 1, nlb := nlb, address := 4096 } }

/-- A command of the endpoint, not yet checked: no berths are asked of it. -/
def direct (op : CmdOp) (nlb : Nat) : Cmd :=
  { arrival := 9, cap := { src := .endpoint, op := op, nsid := 1, nlb := nlb, address := 4096 } }

/-- A state in which the command is the one that has arrived. -/
def host (c : Cmd) : State :=
  { held with ce := { namespaces := [ns1], cmds := [c], assocs := [{ index := 1, ready := true, granted := true }] }
              tr := { conns := [{ qpn := 0x800, assoc := some 1, qid := 1 }] } }

theorem wit_HostCommandsPassTheirChecks :
    ({ refused := true } : Capsule).refused = true ∧ ({ active := false } : Cmd).active = false ∧
    (host (asked .read 1)).checkNs (asked .read 1) = none ∧
    (∃ x ∈ (asked .read 385).ranges, nsCapacity ((host (asked .read 385)).ns 1) < x.1 + x.2) ∧
    (∀ op ∈ [CmdOp.read, .write, .writeZeroes],
      ((host (direct op 385)).fresh? 9 op).any (fun c => (host (direct op 385)).checkCmd c == some .lbaOutOfRange) = true ∧
      ((host (direct op 384)).fresh? 9 op).any (fun c => (host (direct op 384)).checkCmd c == none) = true) ∧
    ((host (asked .flush 1)).fresh? 9 .flush).any (fun c => (host (asked .flush 1)).checkNs c == none) = true ∧
    (host (asked .writeZeroes 384)).zeroParts (asked .writeZeroes 384) ≠ [] ∧
    ((host (asked .dsm 0)).fresh? 9 .dsm).any (fun c => (host (asked .dsm 0)).checkCmd c == none && !c.cap.ad) = true ∧
    (let c : Cmd := { asked .dsm 0 with cap := { (asked .dsm 0).cap with ad := true, ranges := [(0, 16)] } }
     ((host c).fresh? 9 .dsm).any (fun c => (host c).checkCmd c == none && c.cap.ad && !((host c).zeroParts c).isEmpty) = true) ∧
    (let c : Cmd := { asked .read 1 with checked := true, blocks := [{ lba := 0, stage := .blocked }] }
     let s := host c
     s.cmd? 9 = some c ∧ c.blk? 0 = some { lba := 0, stage := .blocked } ∧ c.status = none ∧ s.clear c 0 = true ∧
     s.usableRec 1 9 0 = none ∧ s.isLost 1 0 = false ∧
     (({ s with lg := { recs := [wb] } } : State).usableRec 1 9 0).isSome = true ∧
     ({ s with ce := { s.ce with lostPages := [{ nsid := 1, entries := [{ first := 0, blocks := 1 }] }] } } : State).isLost 1 0 = true ∧
     (({ s with ce := { s.ce with cache := [{ nsid := 1, lba := 0, confirmed := true }] } } : State).cacheAt 1 0).isSome = true ∧
     ({ s with ce := { s.ce with cmds := [{ (asked .write 1) with arrival := 4, checked := true, blocks := [{ lba := 0 }] }, c] } } :
       State).clear c 0 = false) ∧
    (∃ x ∈ [({ arrival := 9, answered := true } : RoomRead)], x.arrival = 9 ∧ x.answered = true) := by decide +kernel

/-! ### Witnesses: reservations, rooms, admin commands -/

/-- A namespace can be created: a run of R335 with its objects set. -/
def creating : State :=
  { held with ce := { namespaces := [] }
              objs := ((((held.put Obj.ce_ns_new_layout_id 0 8192).put Obj.ce_ns_new_wing 0 1).put Obj.ce_ns_new_blocks 0 384).put
                Obj.pe_member_size 1 (2 ^ 30)).objs }

/-- A Flush of the admin queue's host waits for power state 2. -/
def entering : State :=
  { svc with md := { mode := .drain, causes := [0] }, ce := { psEntry := some (7, none) } }

theorem wit_ReservationsNamespacesAndPowerStates :
    (∀ op ∈ [CmdOp.resRegister, .resAcquire, .resRelease, .resReport],
      ((host (direct op 0)).fresh? 9 op).isSome = true ∧ (host (direct op 0)).checkNs (direct op 0) = none) ∧
    (let c : Cmd := { direct .resReport 0 with active := false }
     ((host c).fresh? 9 .resReport).isSome = true ∧ (host c).checkNs c ≠ none) ∧
    (∃ x ∈ [({ nsid := 1 } : ResCmd)], x.nsid = 1) ∧
    (let c : Cmd := { direct .resReport 0 with checked := true }
     (host c).ce.resCmds = [] ∧
     ((host c).ce.cmds.find? fun d => d.cap.nsid == 1 && isRes d.cap.op && d.status.isNone).any (fun d => d.checked) = true) ∧
    creating.takes (.ceNsCreate 2 1) ∧
    (let t := creating.startRun Obj.ce_ns_create_result
     t.get Obj.ce_ns_new_nsid = 0 ∧ t.freeNsid = 1 ∧ t.ns? 1 = none ∧ t.get Obj.ce_ns_new_wing = 1 ∧
     layValid (BitVec.ofNat 16 (t.get Obj.ce_ns_new_layout_id)) = true ∧ (t.place 1).openLoss = false ∧ t.holdsWing 1 = true ∧
     t.ce.namespaces.length < 1024 ∧
     (fitExtent (extentBlocks 8192#16 (ceilDiv (t.get Obj.ce_ns_new_blocks) (Nat.max 1 (24 * layBlocks 8192#16))))
       (t.get Obj.pe_member_size 1) (t.extents 1)).isSome = true) ∧
    held.takes (.ceNsDelete 2 1) ∧ held.ns? 1 = some ns1 ∧ ns1.creating = false ∧ ns1.deleting = false ∧
    held.holdsWing ns1.wing = true ∧
    svc.takes (.cePowerStateSet 2 2) ∧ svc.ce.psEntry = none ∧ 2 ≠ svc.ce.ps ∧ 4 ∉ svc.md.causes ∧
    svc.takes (.cePowerStateSet 2 1) ∧ 1 ≠ svc.ce.ps ∧
    (let s : State := { svc with ce := { ps := 2 } }
     s.takes (.cePowerStateSet 2 1) ∧ s.ce.psEntry = none ∧ s.ce.ps = 2) ∧
    entering.ce.psEntry = some (7, none) ∧ entering.psDone = true ∧
    ({ entering with md := { mode := .service } } : State).psDone = false := by
  simp only [takes_iff]
  decide +kernel

/-- A room command of association 1 with its dwords. -/
def roomCmd (op : CmdOp) (dw : List Nat) : State := host { asked op 0 with cap := { (asked op 0).cap with cdw := dw } }

/-- The same with room 3, tag 5, a push room of 4,096 bytes in a state. -/
def roomed (op : CmdOp) (dw : List Nat) (st : Nat) : State :=
  { roomCmd op dw with tr := { (roomCmd op dw).tr with rooms := [{ index := 3, tag := 5, owner := 0x800, kind := 1, wr := true
                                                                   state := st, length := 4096 }] } }

theorem wit_RoomsOpenAndClose :
    (let s := roomCmd .roomOpen [5, 4096]
     (s.fresh? 9 .roomOpen).any (fun c => c.cap.src != .endpoint && !c.cap.refused &&
       roomShape (c.cap.cdw.getD 0 0 % 4) (c.cap.cdw.getD 1 0) (bit (c.cap.cdw.getD 0 0) 2) (bit (c.cap.cdw.getD 0 0) 3) &&
       decide (s.roomsHeld (some c.assoc) < s.get Obj.tr_rooms_per_assoc) && c.cap.cdw.getD 0 0 % 4 == 1) = true ∧
     s.pushRoomFits 4096 = true) ∧
    (let s := roomed .roomModify [3 * 2 ^ 14 + 5, 4096, 1] 1
     (s.fresh? 9 .roomModify).any (fun c => c.cap.src != .endpoint && !c.cap.refused && (s.ownRoom c).any fun r =>
       r.state == 1 && roomShape r.kind (c.cap.cdw.getD 1 0) (bit (c.cap.cdw.getD 2 0) 0) (bit (c.cap.cdw.getD 2 0) 1)) = true) ∧
    (let s := roomed .roomModify [3 * 2 ^ 14 + 4, 4096, 1] 1
     (s.fresh? 9 .roomModify).any (fun c => c.cap.src != .endpoint && (s.ownRoom c).isNone) = true) ∧
    (let s := roomed .roomClose [3 * 2 ^ 14 + 5] 1
     (s.fresh? 9 .roomClose).any (fun c => c.cap.src != .endpoint && !c.cap.refused && (s.ownRoom c).any fun r => r.state == 1)
       = true) ∧
    (let s := roomed .roomClose [3 * 2 ^ 14 + 6] 1
     (s.fresh? 9 .roomClose).any (fun c => c.cap.src != .endpoint && (s.ownRoom c).isNone) = true) ∧
    (let s : State := { roomed .roomClose [] 2 with tt := { legCount := 2 ^ 31 } }
     (s.tr.rooms.find? fun x => x.index == 3).any (fun r => r.state == 2 &&
       decide (s.get Obj.tr_room_close_timeout ≤ (s.tt.legCount + 2 ^ 32 - r.openLegs) % 2 ^ 32 * 5120)) = true) := by
  decide +kernel

/-- A free room index is found where no room is open. -/
theorem wit_RoomsOpenAndClose_index : ∃ ix, (roomCmd .roomOpen [5, 4096]).freeRoom = some ix := ⟨_, rfl⟩

/-- Association 1 with its admin connection; namespace 1 is seen by its party. -/
def admin : State :=
  { held with
    ce := { namespaces := [ns1], assocs := [{ index := 1, kato := 1000, ready := true }] }
    tr := { conns := [{ qpn := 0x800000, assoc := some 1 }] }
    objs := (held.put Obj.ce_ns_party_mask 1 1).objs }

theorem wit_AdminCommandsAreAnswered :
    (∀ ep disc, (admin.adminFrom (.assoc 1) ep disc).any (fun x => x.2.nsActive (x.2.partyOf x.1.index) 1 &&
      !x.2.nsActive (x.2.partyOf x.1.index) 2 && decide (x.1.aers.length < 8) &&
      decide (((x.2.tick Obj.ce_aborts).ce.aborts.filter fun y => y.1 == x.1.index).length < 4) &&
      (x.2.feature x.1 4 0).isSome && (x.2.feature x.1 9 0).isNone &&
      (x.2.logPage x.1 1 0).toOption.isSome && (x.2.logPage x.1 9 0).toOption.isNone) = true) ∧
    (({ admin with ce := { admin.ce with assocs := [{ index := 1, aers := List.range 8 }] } } : State).adminFrom (.assoc 1) true
      false).any (fun x => decide (8 ≤ x.1.aers.length)) = true ∧
    (({ admin with ce := { admin.ce with aborts := List.replicate 4 (1, 0) } } : State).adminFrom (.assoc 1) true false).any
      (fun x => decide (4 ≤ ((x.2.tick Obj.ce_aborts).ce.aborts.filter fun y => y.1 == x.1.index).length)) = true ∧
    (({ svc with ep := { ready := true } } : State).adminFrom .endpoint true false).isSome = true ∧
    (({ admin with ce := { admin.ce with assocs := [{ index := 1, ready := true, discovery := true }] } } : State).adminFrom (.assoc 1)
      true true).any (fun x => x.1.discovery) = true ∧
    bits 0x00FF 19 16 = 0 ∧ bits 0x00FF 21 20 = 0 ∧ katoOk 1000 = true ∧ katoOk 3600000 = true ∧
    (let s : State := { admin with gh := { ticks := 1000000 } }
     (s.ce.assocs.find? fun x => x.index == 1).any (fun a => decide (a.kato * 1000 ≤ s.gh.ticks - a.alive)) = true) ∧
    (∀ q ∈ [0, 1], let s : State := { svc with tr := { conns := [{ qpn := 5, qid := q }] } }
      s.transportOn = true ∧ s.conn? 5 = some { qpn := 5, qid := q }) := by decide +kernel

/-! ### Witnesses: transport -/

/-- Connection 0x800 of association 1. -/
def linked (k : Conn) : State :=
  { held with ce := { namespaces := [ns1], assocs := [{ index := 1, ready := true }] }, tr := { conns := [k] } }

/-- A connection of association 1. -/
def conn1 : Conn := { qpn := 0x800, assoc := some 1, qid := 1 }

/-- A packet to it, under the security association of its connection. -/
def pk (op : Nat) : Packet := { qpn := 0x800, spi := some (2 ^ 30 + 0x800), seq := 1, opcode := op, bytes := 64, arrival := 9 }

/-- The waypoint header of a packet: flags, message, offset, total bytes. -/
def waypoint (flags msg off size : Nat) : List Byte := leBytes 4 flags ++ beBytes 4 msg ++ beBytes 4 off ++ beBytes 4 size

/-- What the packet's arrival answers, judged. -/
def arrives (s : State) (p : Packet) (f : Conn → State → Bool) : Bool :=
  match s.arrive p with
  | (.accepted c, t) => f c t
  | _ => false

/-- Accepted, not waiting; the test is of the connection and of the state in which it is the latest used. -/
def runs (s : State) (p : Packet) (f : Conn → State → Bool) : Bool :=
  arrives s p fun c t => !t.mustWait c && (t.conn? p.qpn).any fun k => f k (t.useCtx k.qpn)

/-- The connection with a room open. -/
def withRoom (kind : Nat) (reads : List RoomRead) (cache : List CacheEntry) : State :=
  { linked conn1 with
    tr := { conns := [conn1], rooms := [{ index := 3, tag := 5, owner := 0x800, kind := kind, rd := true, wr := true
                                          state := 1, length := 8192 }] }
    ce := { (linked conn1).ce with roomReads := reads, cache := cache } }

/-- A packet that writes a page into room 3. -/
def push (op : Nat) : Packet := { pk op with bytes := 4096, dmaLength := 4096, key := 3 * 2 ^ 14 + 5 }

/-- The second page of message 1, which writes 8,192 bytes into room 3 in spread mode. -/
def pushed (flags : Nat) : Packet :=
  { pk 0x0A with bytes := 4096, key := 3 * 2 ^ 14 + 5, waypoint := waypoint flags 1 4096 8192 }

theorem wit_PacketsRunTheirCourse :
    (∀ o ∈ [0x04, 0x0D, 0x10, 0x06, 0x07, 0x08, 0x0A, 0x0C, 0x11, 0x81],
      arrives (linked conn1) (pk o) (fun c t => !t.mustWait c) = true ∧
      (let k := { conn1 with cached := false }
       arrives (linked k) (pk o) (fun c t => t.mustWait c) = true)) ∧
    ({ pk 0x11 with waypoint := waypoint 4 1 0 0 } : Packet).isSack = true ∧ (pk 0x11).isSack = false ∧
    on.transportOn = false ∧ svc.transportOn = true ∧ svc.conn? 0x800 = none ∧
    (match (linked conn1).arrive { pk 4 with spi := none } with | (.dropped, _) => true | _ => false) = true ∧
    (match (linked conn1).arrive { pk 4 with icv := false } with | (.badIcv _, _) => true | _ => false) = true ∧
    runs (linked conn1) (pk 4) (fun k u => u.orderOf k (pk 4) == .next && k.assoc == some 1 && !qpAdmin k.qpn) = true ∧
    runs (linked conn1) { pk 4 with psn := 1 } (fun k u => u.orderOf k { pk 4 with psn := 1 } == .gap) = true ∧
    runs (linked conn1) { pk 4 with psn := 2 ^ 24 - 1 } (fun k u => u.orderOf k { pk 4 with psn := 2 ^ 24 - 1 } == .dup) = true ∧
    (let k := { conn1 with spread := true }
     runs (linked k) (pk 6) (fun k u => k.spread && u.orderOf k (pk 6) == .bad) = true ∧
     (let p := { pk 6 with bytes := 4096, waypoint := waypoint 0 65 0 4096 }
      runs (linked k) p (fun k u => k.spread && u.orderOf k p == .over) = true)) ∧
    runs (linked conn1) { pk 4 with bytes := 65 } (fun _ _ => true) = true ∧
    (let c : Cmd := { asked .write 1 with checked := true, blocks := [{ lba := 0, stage := .pulling }] }
     runs { linked conn1 with ce := { (linked conn1).ce with cmds := [c] } } (pk 0x10) (fun k u => !k.spread && u.pullOpen k (pk 0x10))
       = true) ∧
    runs (linked conn1) (pk 0x10) (fun k u => !k.spread && !u.pullOpen k (pk 0x10)) = true := by decide +kernel

theorem wit_PacketsRunTheirCourse_rooms :
    (∀ o ∈ [0x06, 0x0A],
      runs (withRoom 1 [] []) (push o) (fun k u => !k.spread && u.orderOf k (push o) == .next && !u.pushFull &&
        (u.mayStart k (push o) 1).isSome) = true ∧
      runs (linked conn1) (push o) (fun k u => !k.spread && u.orderOf k (push o) == .next && (u.mayStart k (push o) 1).isNone) = true) ∧
    (∀ o ∈ [0x07, 0x08], let k := { conn1 with roomMsg := some (3, 0, 4096) }
      let s := { withRoom 1 [] [] with tr := { (withRoom 1 [] []).tr with conns := [k] } }
      runs s (push o) (fun k u => !k.spread && u.orderOf k (push o) == .next && k.roomMsg == some (3, 0, 4096) &&
        (u.tr.rooms.find? fun r => r.index == 3).any fun r => r.state == 1 && (r.genOf 0).any fun g => decide (4096 + 4096 ≤ g.1) && g.2.1)
        = true) ∧
    (let k := { conn1 with spread := true, msgs := [{ number := 1, length := 8192, bits := [0], room := 3 * 2 ^ 14 + 5 }] }
     let s := { withRoom 1 [] [] with tr := { (withRoom 1 [] []).tr with conns := [k] } }
     runs s (pushed 0) (fun k u => k.spread && u.orderOf k (pushed 0) == .next && (k.msgs.find? fun m => m.number == (pushed 0).msg).any
       fun m => (u.tr.rooms.find? fun r => r.index == m.room / 2 ^ 14).any fun r => r.state == 1 && (r.genOf m.gen).isSome) = true) ∧
    (let k := { conn1 with spread := true }
     let s := { withRoom 1 [] [] with
       objs := [(objKey Obj.tr_spread_msgs_max 0, 64)], tr := { (withRoom 1 [] []).tr with conns := [k] } }
     runs s (pushed 0) (fun k u => k.spread && u.orderOf k (pushed 0) == .next &&
       (k.msgs.find? fun m => m.number == (pushed 0).msg).isNone && (u.mayStart k (pushed 0) 1).isSome) = true) ∧
    (let p := { pk 0x0C with dmaLength := 4096, key := 3 * 2 ^ 14 + 5 }
     runs (withRoom 2 [{ arrival := 9, room := 3, blocks := 1, nsid := 1 }] [{ nsid := 1, lba := 0, pins := [9] }]) p (fun k u =>
       u.orderOf k p == .next && k.reads == 0 && (u.mayStart k p 2).any fun r => (u.pinned r.index 0).isSome) = true ∧
     runs (linked conn1) p (fun k u => u.orderOf k p == .next && (u.mayStart k p 2).isNone) = true) ∧
    (let y : SentMsg := { number := 1, bytes := 8192 }
     let k := { conn1 with spread := true, txMsgs := [y] }
     let p := { pk 0x11 with waypoint := waypoint 4 1 0 0, got := [0] }
     runs (linked k) p (fun k _ => p.isSack && k.txMsgs.find? (fun z => z.number == p.msg) == some y) = true ∧
     ((List.range (ceilDiv y.bytes 4096)).filter fun j => !p.got.contains j) = [1]) ∧
    (let k := { conn1 with fetching := true }
     (linked k).conn? 0x800 = some k ∧ (linked k).tr.fetches.contains 0x800 = false) := by decide +kernel

theorem wit_ConnectionsLiveAndEnd :
    on.transportOn = false ∧ svc.transportOn = true ∧ field (leBytes 32 0) 0 2 = 0 ∧
    (∀ b, (svc.tr.conns.filter fun x => qpAdmin x.qpn == b).length < 2048) ∧ svc.conn? 0x800 = none ∧
    (linked conn1).conn? 0x800 = some conn1 ∧ conn1.spread = false ∧ conn1.tries < (linked conn1).get Obj.tr_retry_count ∧
    (let k := { conn1 with txPsn := 3, txOldest := 1, tries := 7 }
     k.txOldest ≠ k.txPsn ∧ (linked k).get Obj.tr_retry_count ≤ (if 1 = k.txOldest then k.tries else 0)) ∧
    (let k := { conn1 with spread := true, txMsgs := [{ number := 4, bytes := 8192 }], msgs := [{ number := 2, length := 8192 }] }
     let s : State := { linked k with gh := { now := 10 ^ 12 } }
     s.conn? 0x800 = some k ∧ (∃ z ∈ k.txMsgs, z.number = 4 ∧ z.limit ≤ s.gh.now - z.start) ∧
     k.oldest = some { number := 2, length := 8192 } ∧
     k.msgs.find? (fun z => z.number == 2 && !z.complete && decide (z.limit ≤ s.gh.now - z.time)) =
       some { number := 2, length := 8192 } ∧
     k.msgs.find? (fun z => z.number == 4 && !z.complete && decide (z.limit ≤ s.gh.now - z.time)) = none) ∧
    conn1.oldest = none ∧ (linked conn1).takes (.trRekey 2 0x800) ∧ svc.takes (.trRekey 2 0x800) ∧
    (∀ e ∈ [WorkEntry.waitQueue 1 2, .waitDrive 3 1 2], let s : State := { svc with tr := { queues := [{ id := 6, entries := [e] }] } }
      s.tr.queues.find? (fun z => z.id == 6 && !z.stopped) = some { id := 6, entries := [e] }) := by
  simp only [takes_iff]
  decide +kernel

/-- A free context index is found where no connection is. -/
theorem wit_ConnectionsLiveAndEnd_index : ∃ ix, svc.freeIndex false = some ix := ⟨_, rfl⟩

/-! ### Witnesses: the object protocol, ports -/

/-- A state with a session. -/
def talking (x : Session) : State := { svc with dict := { scope := true, sessions := [x] }, gh := { now := 10 ^ 15 } }

/-- An open session of class 2. -/
def sess : Session := { id := 4, cls := 2, opened := true, rx := 6, tx := 6 }

/-- A message on it whose tag is that of its type and body. -/
def msg (type : Nat) (body : List Byte) : FieldMsg :=
  { session := 4, counter := 7, request := 1, tag := msgTag 0 type 4 7 1 body }

/-- A credential table whose first entry holds a key's digest. -/
def knows (key : List Byte) : State := { on with blobs := [(objKey Obj.fw_cred_digest 1, sha3Bytes key)] }

/-- A key's digest is opaque: wherever it is not all zero, the entry that holds it is found. -/
theorem wit_SessionsOpenAndClose_credential (key : List Byte) (h : (sha3Bytes key).any (· != 0#8) = true) :
    (knows key).credential 0 key = some 0 := by
  have hb : (knows key).blob Obj.fw_cred_digest 1 = sha3Bytes key := by
    simp [knows, State.blob, lookup]
  have hr : (knows key).get Obj.fw_cred_role 1 = 0 := by
    show on.get Obj.fw_cred_role 1 = 0
    decide +kernel
  unfold State.credential
  rw [show List.range 16 = 0 :: (List.range 15).map (· + 1) from by decide +kernel]
  exact List.find?_cons_of_pos (by simp only [Nat.zero_add, hr, hb, h]; simp)

theorem wit_SessionsOpenAndClose :
    on.pathUp none = true ∧ (List.replicate 2592 (0 : Byte)).length = 2592 ∧ on.dict.sessions.length < 8 ∧
    8 ≤ ({ on with dict := { sessions := List.replicate 8 sess } } : State).dict.sessions.length ∧
    (∀ o, let s := talking { sess with opened := o }
      s.session? 4 = some { sess with opened := o } ∧ s.pathUp none = true) ∧
    sess.last + (talking sess).get Obj.fw_session_idle * 1000000 ≤ (talking sess).gh.now ∧
    (let s := talking { sess with last := 10 ^ 15 }
     s.gh.now < 10 ^ 15 + s.get Obj.fw_session_idle * 1000000 ∧ s.gh.now < 10 ^ 15 + 2000000000) ∧
    sess.last + 2000000000 ≤ (talking sess).gh.now := by decide +kernel

/-- No entry holds the digest of a key while every digest is all zero. -/
theorem wit_SessionsOpenAndClose_unknown (key : List Byte) : on.credential 0 key = none := by
  unfold State.credential
  have h : ∀ e, e < 16 → (on.blob Obj.fw_cred_digest (e + 1)).any (· != 0#8) = false := by decide +kernel
  rw [List.find?_eq_none]
  intro e he
  simp [h e (List.mem_range.mp he)]

theorem wit_SessionsOpenAndClose_close : (talking sess).passes (msg 5 [0]) 5 [0] sess ∧ [(0 : Byte)] ≠ [] ∧
    (talking sess).si.wardenSession ≠ 3 := by
  refine ⟨⟨by decide +kernel, by decide +kernel, rfl, rfl, rfl, by decide +kernel⟩, by decide, by decide +kernel⟩

/-- Any message type and body passes in the session with its tag. -/
theorem wit_MessagesAreServed (type : Nat) (b : List Byte) : (talking sess).passes (msg type b) type b sess := by
  refine ⟨?_, ?_, rfl, rfl, rfl, by show 6 < 7; decide⟩
  · show (talking sess).pathUp none = true
    decide +kernel
  · show (talking sess).session? 4 = some sess
    decide +kernel

theorem wit_MessagesAreServed_bodies :
    (∀ f ∈ [Instr.fieldRead, .fieldWrite, .domainRead, .domainWrite], (servedAs (f {} [])).isSome = true) ∧
    (∀ o ∈ [Obj.gb_window, Obj.gb_gate_window], (servedAs (.gbWindowRead {} (beBytes 2 o))).isSome = true) ∧
    itemsWhole 4 [1, 0, 0, 0, 0, 0, 0, 0] = true ∧ itemsWhole 4 [1, 0, 0, 0, 0, 0, 0] = false ∧
    itemsWhole 68 (1 :: List.replicate 71 0) = true ∧ domainReadWhole (List.replicate 13 0 ++ [1, 0, 0]) = true ∧
    domainWriteWhole (List.replicate 16 0) = true ∧ domainWriteWhole (List.replicate 15 0) = false ∧
    (talking sess).pathUp none = true ∧ svc.session? 4 = none ∧ (talking sess).session? 4 = some sess ∧ 6 ≤ sess.rx ∧
    svc.pathUp none = true ∧ ({ svc with gh := { powered := false } } : State).pathUp none = false ∧
    (((talking sess).serveRead 2 [1, 0, 0, 0, 0, 0, 0, 0]).2.session? 4).isSome = true ∧
    (((talking sess).serveWrite false 2 ([1, 0, 0, 0] ++ beBytes 2 Obj.fw_cred_class ++ [1, 0, 1] ++ List.replicate 63 0)).2.session? 4)
      = none := by decide +kernel

/-- A tag that is not the right one. -/
theorem wit_MessagesAreServed_tag (type : Nat) (b : List Byte) :
    msgTag 0 type 4 7 1 b + 1 ≠ msgTag sess.ks type 4 7 1 b := by
  show msgTag 0 type 4 7 1 b + 1 ≠ msgTag 0 type 4 7 1 b
  generalize msgTag 0 type 4 7 1 b = x
  intro h
  have := congrArg (· - x) h
  simp at this

/-- An object with a number of some width. -/
def numeric (ix sub : Nat) (f : ObjRow → Bool) : Bool :=
  (objRow ix sub).any fun r => (match r.ty with | .u _ => true | _ => false) && f r

theorem wit_ObjectsAreWrittenAndRead :
    objRow 0xFFFF 0 = none ∧
    (numeric Obj.pc_pfc_xon 0 fun r => isCredential Obj.pc_pfc_xon == false && svc.mayWrite 2 Obj.pc_pfc_xon 0 &&
      r.inRange 1024 && svc.keepsOrder Obj.pc_pfc_xon 0 1024 && atBoundary Obj.pc_pfc_xon) = true ∧
    (numeric Obj.tr_spread_rto 0 fun r => isCredential Obj.tr_spread_rto == false && svc.mayWrite 2 Obj.tr_spread_rto 0 &&
      !svc.mayWrite 0 Obj.tr_spread_rto 0 && r.inRange (svc.get Obj.tr_spread_rto) &&
      svc.keepsOrder Obj.tr_spread_rto 0 (svc.get Obj.tr_spread_rto) && !atBoundary Obj.tr_spread_rto && !isRate Obj.tr_spread_rto &&
      !r.inRange 0) = true ∧
    isCredential Obj.fw_cred_class = true ∧ svc.dict.scope = true ∧
    (numeric Obj.ce_overlap_waits 0 fun r => r.stats && svc.mayRead 0 Obj.ce_overlap_waits 0) = true ∧
    svc.mayRead 0 0xFFFF 0 = false ∧ svc.gh.powered = true ∧
    (let s := talking { sess with staging := some {} }
     (s.stagedBy (.session 4)).any (fun z => decide (z.last + 10000000000 ≤ s.gh.now)) = true) ∧
    (let s : State := { svc with dict := { bar2Staging := some {} }, gh := { now := 10 ^ 15 } }
     s.dict.bar2Staging.any (fun z => decide (z.last + 10000000000 ≤ s.gh.now)) = true) ∧
    (let s : State := { svc with ep := { memSpace := true, link := 2 } }
     s.epOpen = true ∧ s.dict.scope = true) := by decide +kernel

/-- A link that is up in a flow mode, a frame to send. -/
def link1 (mode : Nat) : State :=
  { svc with pc := { links := [{ up := true, rate := 100000, frames := [{ tc := 3, bytes := 64, finish := 5 }] }] }
             objs := (svc.put Obj.pc_flow_mode 1 mode).objs }

/-- A broadcast frame of a type. -/
def bcast (tags vid : Nat) : FrameHead := { dst := 0xFFFFFFFFFFFF, etype := 0x0800, proto := 50, tags := tags, vid := vid }

theorem wit_LinksCarryAndPauseFrames :
    ((link1 0).link 0).up = true ∧ (link1 0).stagedPort 0 + 9216 ≤ (link1 0).get Obj.pc_staging_bytes ∧
    (bcast 0 0).etype ≠ 0x8808 ∧
    (link1 0).vidOf 0 (bcast 0 0) = some 1 ∧ (link1 0).vidOf 0 (bcast 2 0) = none ∧
    (link1 1).get Obj.pc_flow_mode 1 = 1 ∧ (link1 2).get Obj.pc_flow_mode 1 = 2 ∧
    ((link1 0).link 0).sending = none ∧ ((link1 0).link 0).pauses = [] ∧
    ((link1 0).link 0).choose ((link1 0).get Obj.sw_strict_tc7 == 1) = some { tc := 3, bytes := 64, finish := 5 } ∧
    (let s : State := { svc with pc := { links := [{ up := true, sending := some { tc := 3 } }] } }
     (s.link 0).sending = some { tc := 3 }) ∧
    ({ svc with pc := { links := List.replicate 32 {} ++ [{ up := true }] } } : State).link 32 = { up := true } ∧
    (svc.link 0).up = false ∧
    (let s : State := { svc with pc := { staged := [{ id := 8 }] } }
     s.frame? 8 = some { id := 8 }) ∧
    (let s : State := { svc with pc := { links := [{ pauses := [{ tc := 2 }] }] }, gh := { now := 10 ^ 12 } }
     (s.link 0).pauses.find? (fun x => x.tc == 2) = some { tc := 2 } ∧ s.get Obj.pc_pause_storm_limit ≤ s.gh.now - 0) ∧
    (link1 0).get Obj.pc_staging_bytes < ({ link1 0 with pc := { staged := [{ bytes := 2 ^ 40 }] } } : State).stagedPort 0 + 9216 ∧
    ({ etype := 0x8808, macOp := 2 } : FrameHead).macOp ≠ 0x0101 ∧
    ({ svc with md := { mode := .service, shelfConfig := 2 }, lg := { descBlank := true } } : State).linkReady 32 = true ∧
    (let g : EgressFrame := { tc := 3, bytes := 64, finish := 5, ptp := some 9 }
     (({ link1 0 with pc := { links := [{ up := true, frames := [g] }] } } : State).link 0).choose false = some g) ∧
    (({} : Link).choose false) = none ∧
    (let s : State := { svc with pc := { portState := [1, 0, 0, 0] } }
     s.linkReady 0 = true ∧ (s.link 0).up = false ∧ s.pc.links.length = 33) ∧
    (let s : State := { link1 0 with objs := (svc.put Obj.pc_ptp_enable 0 1).objs }
     s.get Obj.pc_ptp_enable = 1 ∧ 0 = s.get Obj.pc_ptp_link ∧ (s.link 0).up = true) ∧
    (let s : State := { svc with pc := { ptpState := 2 }, gh := { now := 10 ^ 12 } }
     s.pc.ptpState = 2 ∧ s.get Obj.pc_ptp_loss ≤ s.gh.now - s.pc.ptpLast) := by
  decide +kernel

/-- A broadcast frame passes a link; one to another station does not. -/
theorem wit_LinksCarryAndPauseFrames_address (h : (link1 0).linkMac 0 ≠ 5) :
    (link1 0).addressOk 0 (bcast 0 0) = true ∧ (link1 0).addressOk 0 { dst := 5 } = false := by
  refine ⟨by simp [State.addressOk, bcast], ?_⟩
  have hb : ((5 : Nat) == (link1 0).linkMac 0) = false := by simpa using fun e => h e.symm
  simp [State.addressOk, hb, bit]

/-! ### Witnesses: the endpoint -/

/-- The endpoint's link is up, its memory space enabled, its controller ready with an admin pair and I/O queue pair 1. -/
def pcie : EndpointSt :=
  { link := 2, memSpace := true, ready := true, cc := 1, sqs := [{ id := 0, depth := 32 }, { id := 1, depth := 8, cq := 1 }]
    cqs := [{ id := 0, depth := 32 }, { id := 1, depth := 8 }] }

/-- Service with an endpoint. -/
def hosted (e : EndpointSt) : State := { svc with ep := e }

theorem wit_EndpointServesItsQueues :
    (hosted pcie).epOpen = true ∧ (hosted pcie).ep.ready = true ∧
    epQueue? (hosted pcie).ep.sqs 1 = some { id := 1, depth := 8, cq := 1 } ∧ 7 < 8 ∧
    epQueue? (hosted pcie).ep.cqs 1 = some { id := 1, depth := 8 } ∧ (∀ b : Bool, epQueue? (if b then pcie.cqs else pcie.sqs) 9 = none) ∧
    (hosted { pcie with cc := 0 }).epOpen = true ∧ bit 0 0 = false ∧ bit 1 0 = true ∧ bits 1 15 14 = 0 ∧ bit 0x4001 0 = true ∧ bits 0x4001 15 14 ≠ 0 ∧ bit pcie.cc 0 = true ∧
    ((hosted pcie).adminFrom .endpoint true false).any (fun x => (epQueue? x.2.ep.cqs 2).isNone && (epQueue? x.2.ep.cqs 1).isSome &&
      (epQueue? x.2.ep.sqs 2).isNone && (epQueue? x.2.ep.sqs 1).isSome && (x.2.ep.sqs.all fun q => q.cq != 2) &&
      x.2.ce.cmds.isEmpty) = true ∧
    ((hosted { pcie with cqs := pcie.cqs ++ [{ id := 2, depth := 8 }] }).adminFrom .endpoint true false).any (fun x =>
      (epQueue? x.2.ep.cqs 2).isSome && x.2.ep.sqs.all fun q => q.cq != 2) = true ∧
    (∀ u ∈ [0, 1, 2, 3], (hosted { pcie with tags := [{ tag := 127, use := u }] }).ep.tags.find? (fun x => x.tag == 127) =
      some { tag := 127, use := u }) ∧
    (hosted pcie).ep.tags.find? (fun x => x.tag == 127) = none := by decide +kernel

theorem wit_EndpointSignalsAndResets :
    (hosted pcie).ep.resetting = false ∧ (hosted pcie).ep.link = 2 ∧ (hosted pcie).ep.msix = false ∧
    (hosted { pcie with msix := true }).ep.msix = true ∧ (hosted pcie).ep.busMaster = false ∧
    (let e := { pcie with busMaster := true, tags := [{ tag := 1, use := 1 }, { tag := 2, use := 3 }] }
     e.busMaster = true ∧ (∃ t ∈ e.tags, t.use ≠ 3)) ∧
    (let e := { pcie with d3 := true }
     e.d3 = true ∧ e.d3Cq = [] ∧ e.d3Int = []) ∧
    pcie.d3 = false ∧ (hosted pcie).md.mode ≠ .vigil ∧ pcie.link ≠ 0 ∧
    (∀ e ∈ epUncorrectable, e < 32) ∧ 5 ∈ epUncorrectable ∧ 22 ∈ epUncorrectable ∧ 0 ∈ epCorrectable ∧
    (∀ b : Bool, let e := { pcie with resetting := true, linkLost := b, link := 3 }
      (hosted e).ep.resetting = true ∧ (hosted e).ep.tags = [] ∧ (hosted e).ep.linkLost = b) ∧
    (hosted { pcie with resetting := true, tags := [{}] }).ep.tags ≠ [] := by decide +kernel

/-! ### Witnesses: the lantern, the sisters -/

/-- A state with a wing 1. -/
def winged (w : Wing) : State := { svc with si := { wings := [w, {}] }, gh := { now := 10 ^ 15 } }

/-- A takeover of wing 1 that asked bay 23. -/
def taking (t : Takeover) (uses : List DriveUse) : State :=
  { winged { state := .taking, takeover := some t } with drives := { cmds := uses.map fun u => { bay := 23, cid := 7, use := u } } }

/-- A state in which the warden's session is open. -/
def wardened (w : Wing) : State := { svc with si := { wings := [w, {}], wardenSession := 3, wardenId := 4, wardenRx := 6 } }

/-- A LANTERN message of the warden whose tag is that of its body. -/
def warden (body : List Byte) : FieldMsg := { session := 4, counter := 7, request := 1, tag := msgTag 0 0x20 4 7 1 body }

theorem count_si (ix sub n : Nat) (s : State) : (s.count ix sub n).si = s.si := by
  unfold State.count
  split <;> rfl

theorem wit_TheLanternMoves_warden (body : List Byte) (w : Wing) :
    ((wardened w).fieldGot none 80).fromWarden (warden body) body = true ∧
    ((wardened w).fieldGot none 80).fromWarden { warden body with session := 5 } body = false := by
  refine ⟨?_, ?_⟩ <;> simp [State.fromWarden, State.wardenTag, State.fieldGot, count_si, wardened, warden]

/-- The warden's AUTH_OK in the session it challenged. -/
theorem wit_TheLanternMoves_authOk (body : List Byte) :
    let s : State := { svc with si := { wardenSession := 2, wardenId := 4 } }
    let m : FieldMsg := { session := 4, counter := 1, tag := msgTag 0 4 4 1 0 body }
    s.si.wardenSession = 2 ∧ m.session = s.si.wardenId ∧ m.counter ≠ 0 ∧
    m.tag = msgTag s.si.wardenKs 4 m.session m.counter m.request body := ⟨rfl, rfl, Nat.one_ne_zero, rfl⟩

theorem wit_TheLanternMoves :
    (let s : State := { svc with si := { silence := 100000 } }
     s.get Obj.si_silence_legs ≤ s.si.silence) ∧
    svc.si.silence < svc.get Obj.si_silence_legs ∧
    ({ wardenSession := 1 } : SisterSt).wardenSession = 1 ∧ (winged {}).si.wardenSession ≠ 1 ∧
    ((winged { request := some (1, 0) }).wing 1).request = some (1, 0) ∧ ((winged {}).wing 1).request = none ∧
    (winged { state := .holder }).holdsWing 1 = true ∧ (winged {}).holdsWing 1 = false ∧
    ({ winged {} with md := { shelfConfig := 1, held := true } } : State).heldForPromotion = true ∧
    ({ winged {} with md := { shelfConfig := 1, held := true }, lg := { descBlank := true } } : State).singleShelf = true ∧
    ((winged { renewFirst := true }).wing 1).renewFirst = true ∧ ((winged {}).wing 1).takeover = none ∧
    (let s : State := { winged { request := some (1, 3) } with objs := (svc.put Obj.si_fallback_enable 0 0).objs }
     (s.wing 1).request = some (1, 3) ∧ s.get Obj.si_fallback_enable = 0) ∧
    (let s : State := { winged { request := some (1, 3) } with
       objs := (svc.put Obj.si_fallback_enable 0 1).objs, si := { wings := [{ request := some (1, 3) }, {}], silent := true } }
     (s.wing 1).request = some (1, 3) ∧ s.get Obj.si_fallback_enable ≠ 0 ∧ s.si.silent = true ∧ s.si.sbSilentAt + 5000000 ≤ s.gh.now) ∧
    (winged {}).renews = true ∧
    (let s : State := { on with md := { shelfConfig := 1, held := true }, si := { wings := [{}, {}] }
                                objs := (on.put Obj.si_warden_address 0 7).objs }
     s.renews = false ∧ s.heldForPromotion = true ∧ s.si.wardenSession = 0) ∧
    (let s : State := { winged { state := .holder, claim := 5, leaseEnd := 10 ^ 16 } with objs := (svc.put Obj.si_fallback_enable 0 1).objs }
     s.holdsWing 1 = true ∧ (s.wing 1).claim < 6) ∧
    ((winged { holdoff := true }).wing 1).holdoff = true ∧ svc.md.mode = .service ∧
    (∀ n ∈ [1, 2], ((taking { claim := 5 } [.preempt 1 n]).drives.cmds.find? fun x =>
      x.bay == 23 && (x.use == .preempt 1 1 || x.use == .preempt 1 2)).isSome = true) ∧
    ((taking { claim := 5 } []).wing 1).takeover = some { claim := 5 } ∧
    ((taking { claim := 5 } []).wing 1).preemptStart + (taking { claim := 5 } []).get Obj.si_preempt_timeout ≤
      (taking { claim := 5 } []).gh.now ∧
    ((taking { claim := 5, quorum := true } []).wing 1).takeover = some { claim := 5, quorum := true } ∧
    (let s : State := winged { takeover := some { claim := 5, stopped := true }, seen := 6 }
     (s.wing 1).takeover = some { claim := 5, stopped := true } ∧ 5 < (s.wing 1).seen) ∧
    (let s : State := winged { takeover := some { claim := 5, stopped := true }, seen := 5 }
     (s.wing 1).seen ≤ 5) ∧
    (let d : DriveCmd := { bay := 23, queue := 1, cid := 7, op := .write, nsid := 1 }
     let s (c : Nat) : State := { winged { state := .holder, claim := c } with drives := { cmds := [d] } }
     (s 5).driveCmd? 23 1 7 = some d ∧ d.outstanding = true ∧ d.toMove = 0 ∧ (s 5).holdsWing d.nsid = true ∧
     ((s 5).wing d.nsid).claim < 6 ∧ 6 ≤ ((s 6).wing d.nsid).claim ∧
     ((let e := { d with repeated := true }
       ({ s 6 with drives := { cmds := [e] } } : State).driveCmd? 23 1 7 = some e) : Prop)) := by decide +kernel

/-- A paired shelf whose two wings are held and open, its sister link up. -/
def pair (mode : Mode) (si : SisterSt) : State :=
  { held with md := { mode := mode, shelfConfig := 2 }, lg := { descBlank := true }, si := si
              pc := { links := List.replicate 32 {} ++ [{ up := true }] } }

/-- Both wings are held, their copies go by the sister link. -/
def both : SisterSt := { sbMode := 2, wings := List.replicate 2 { state := .holder, open_ := true, copyPath := .sisterLink } }

/-- Sister 0 in Vigil on a paired shelf. -/
def lone : State := { on with md := { shelfConfig := 2 }, lg := { descBlank := true } }

/-- A frame header of a type for leg 5. -/
def fh (type flags claim : Nat) : SisterHead :=
  { type := type, sender := 1, index := 0, flags := flags, leg := 5, claim1 := claim, claim2 := 0 }

/-- A single frame is heard, and carries its type and its payload. -/
def hears (s : State) (type : Nat) (pay : List Byte) : Bool :=
  s.linkHears && frameOf (sisterFrame (fh type 0 0) pay) == some (fh type 0 0, pay) && !s.lowClaim (fh type 0 0)

/-- Bytes 0 to 63 of the head of a leg packet that holds nothing, in a number of frames (R238). -/
def emptyHead (frames : Nat) : List Byte :=
  beBytes 2 0 ++ beBytes 2 0 ++ beBytes 2 0 ++ beBytes 2 frames ++ List.replicate 56 0

/-- The frame of such a head. -/
def headFrame (frames flags : Nat) : List Byte := sisterFrame (fh 1 flags 0) (emptyHead frames)

/-- What the paired shelf keeps of frames. -/
def kept (l : List (List Byte)) : List (SisterHead × List Byte) :=
  (l.filterMap frameOf).filter fun x => !(pair .service both).lowClaim x.1

/-- The header of the first HEAD among them. -/
def headOf (l : List (List Byte)) : Option SisterHead :=
  ((kept l).find? fun x => x.1.type == 1 && x.1.index == 0).map (·.1)

theorem wit_TheSistersCopyAndHandBack_frames :
    (let p : LegPacket := { leg := 5, digest := 3, age := 8 }
     let s := pair .service { both with packets := [p] }
     hears s 5 (beBytes 8 5 ++ List.replicate 64 0) = true ∧
     s.si.packets.find? (fun q => q.leg == beField (beBytes 8 5) 0 8 && q.frames.isEmpty) = some p ∧
     hears s 6 (beBytes 8 5 ++ [1]) = true ∧ (∃ q ∈ s.si.packets, q.leg = beField (beBytes 8 5 ++ [1]) 0 8) ∧
     (∀ q ∈ s.si.packets, q.leg ≠ beField (beBytes 8 6 ++ [1]) 0 8) ∧
     (∃ q ∈ s.si.packets, q.leg = 5 ∧ q.frames = [] ∧ 8 ≤ q.age)) ∧
    hears (pair .service both) 7 [] = true ∧ (pair .service both).sendsPackets = true ∧
    hears (pair .service both) 8 (List.replicate 64 0) = true ∧ (pair .service both).si.snapshot = [] ∧
    frameOf [] = none := by decide +kernel

theorem wit_TheSistersCopyAndHandBack_heads :
    (let s := pair .service { both with wings := [{ seen := 9 }, {}] }
     frameOf (sisterFrame (fh 5 0 8) []) = some (fh 5 0 8, []) ∧ s.linkHears = true ∧ s.lowClaim (fh 5 0 8) = true) ∧
    (let pay := beBytes 1 1 ++ beBytes 8 4 ++ beBytes 8 7
     let s := pair .service { wings := [{}, {}] }
     hears s 9 pay = true ∧ beField pay 0 1 = 1 ∧ (s.wing 1).state = .standby ∧ (s.wing 1).takeover = none) := by decide +kernel

theorem wit_TheSistersCopyAndHandBack_packets :
    headOf [] = none ∧ headOf [headFrame 1 0] = some (fh 1 0 0) ∧ headOf [headFrame 1 1] = some (fh 1 1 0) ∧
    (wholePacket (emptyHead 1) (kept [headFrame 1 0])).any (fun x => x.1.isEmpty) = true ∧
    (wholePacket (emptyHead 1) (kept [headFrame 1 1])).any (fun x => x.1.isEmpty) = true ∧
    (wholePacket (emptyHead 2) (kept [headFrame 2 0])).isNone = true ∧ both.resync = 0 := by decide +kernel

theorem wit_TheSistersCopyAndHandBack :
    (pair .service both).takes (.siHandback 2 2) ∧
    (let u := (pair .service both).startRun Obj.si_handback_result
     u.paired = true ∧ u.holdsWing 1 = true ∧ u.holdsWing 2 = true ∧ u.si.sbMode = 2 ∧ u.si.silent = false ∧
     (u.wing 1).copyPath = .sisterLink ∧ (u.wing 2).copyPath = .sisterLink ∧ 2 = 2 - u.si.id) ∧
    (let s : State := winged { state := .holder, handback := 2, claim := 1 }
     (s.wing 1).handback = 2 ∧ s.holdsWing 1 = true ∧ (s.wing 1).seen ≤ (s.wing 1).claim) ∧
    lone.gh.powered = true ∧ lone.singleShelf = false ∧ lone.si.idConflict = false ∧ lone.linkHears = false ∧
    (∀ id ∈ [0, 1], let f := sidebandFrame id 2 0 0 0 0
      sidebandGood f = true ∧ beField f 0 1 = id ∧ beField f 1 1 = 2) ∧ lone.si.id = 0 ∧ sidebandGood [] = false ∧
    (let s : State := { lone with si := { sbSince := 5 } }
     s.si.silent = false ∧ 5 ≤ s.si.sbSince) ∧
    ({ silent := true } : SisterSt).silent = true ∧
    (let s : State := { lone with si := { bayOwner := true, ownerMs := 2 } }
     s.si.bayOwner = true ∧ 2 ≤ s.si.ownerMs ∧ s.singleShelf = false) ∧ lone.si.bayOwner = false := by
  simp only [takes_iff]
  decide +kernel

theorem wit_TheLegBoundaryBrings :
    on.md.mode = .vigil ∧ svc.md.mode ≠ .vigil ∧ svc.clk.pll ≠ .off ∧ svc.tt.legStarted = true ∧
    svc.boundaryBasics.md.mode ≠ .holdup ∧ svc.boundaryBasics.clk.musterHalted = false ∧
    ({ svc with md := { mode := .holdup } } : State).boundaryBasics.md.mode = .holdup ∧
    (let s : State := { svc with md := { mode := .service, causes := [0] } }
     s.md.causes ≠ []) ∧
    (let s : State := { svc with md := { mode := .drain, before := .service } }
     s.md.mode = .drain ∧ s.md.causes = [] ∧ s.md.before ≠ .drain) := by decide +kernel

/-! ### Witnesses: layouts -/

theorem wit_InvalidLayoutsAreRefused :
    layValid 8192#16 = true ∧ (let s : State := { svc with objs := (svc.put Obj.ce_ns_new_layout_id 0 0).objs }
      s.takes (.ceNsCreate 2 1) ∧ layValid (BitVec.ofNat 16 (s.get Obj.ce_ns_new_layout_id)) = false) := by
  simp only [takes_iff]
  decide +kernel

theorem wit_PlacesAreDistinct : layValid ns1.layout = true ∧ 0 < layW ns1.layout ∧ 0 < layS ns1.layout := by decide +kernel

theorem wit_RowsAreReconstructed : 4 ≤ 4 ∧ 4 ≤ 22 ∧ [1, 5].Nodup ∧ (∀ m ∈ [1, 5], m < 4 + 2) ∧ [1, 5].length ≤ 2 := by decide

/-! ### Well-formedness -/

/-- A packet, a capsule, a frame head, a Connect, a message, what a drive gives, or error registers with a field too large are refused. -/
theorem test_wf_structures :
    (∀ p ∈ ([{ spi := some (2 ^ 32) }, { seq := 2 ^ 32 }, { opcode := 256 }, { psn := 2 ^ 24 }, { key := 2 ^ 32 }, { address := 2 ^ 64 },
      { bytes := 4097 }, { waypoint := [0] }, { nak := some 256 }, { cap := { nlb := 65537 } }] : List Packet), p.wf = false) ∧
    (∀ c ∈ ([{ src := .conn (2 ^ 24) }, { qpn := 2 ^ 24 }, { sqid := 2 ^ 16 }, { nsid := 2 ^ 32 }, { slba := 2 ^ 64 },
      { nlb := 65537 }, { address := 2 ^ 64 }, { key := 2 ^ 32 }, { ranges := List.replicate 257 (0, 0) }] : List Capsule),
      c.wf = false) ∧
    (∀ h ∈ ([{ etype := 2 ^ 16 }, { vid := 4096 }, { pcp := 8 }, { proto := 256 }, { udp := 2 ^ 16 }, { dscp := some 64 },
      { first := List.replicate 129 0 }] : List FrameHead), h.wf = false) ∧
    (∀ c ∈ ([{ cid := 2 ^ 16 }, { qid := 2 ^ 16 }, { sqsize := 2 ^ 16 }, { kato := 2 ^ 32 }, { cntlid := 2 ^ 16 },
      { hostid := 2 ^ 128 }] : List ConnectData), c.wf = false) ∧
    (∀ m ∈ ([{ counter := 2 ^ 64 }, { request := 2 ^ 32 }] : List FieldMsg), m.wf = false) ∧
    (∀ d ∈ ([{ desc := some { bay := 24 } }, { desc := some { magic := 2 ^ 32 } }] : List DriveData), d.wf = false) ∧
    (∀ r ∈ ([{ mask := 2 ^ 32 }, { severity := 2 ^ 32 }, { corMask := 2 ^ 32 }] : List EpErrRegs), r.wf = false) := by
  decide +kernel

/-- Each check of a command refuses an operand just outside it. -/
theorem test_wf_refuses_0 : ∀ i ∈ ([
    .noneCmd 64 0 0, .noneCmd 0 64 0, .noneCmd 0 0 (2 ^ 64), .netIn 64 0 0, .netIn 0 64 0, .netIn 0 0 (2 ^ 64),
    .netOut 64 0 0 0, .netOut 0 64 0 0, .netOut 0 0 (2 ^ 64) 0, .netOut 0 0 0 (2 ^ 13), .cipher 64 0 0 false,
    .cipher 0 64 0 false, .cipher 0 0 (2 ^ 64) false, .driveIn 64 0 0, .driveIn 0 64 0, .driveIn 0 0 (2 ^ 64),
    .driveOut 64 0 0, .driveOut 0 64 0, .driveOut 0 0 (2 ^ 64), .parityIn 64 0 0, .parityIn 0 64 0, .parityIn 0 0 (2 ^ 64),
    .parityOut 64 0 0, .parityOut 0 64 0, .parityOut 0 0 (2 ^ 64), .sisterOut 64 0 0, .sisterOut 0 64 0,
    .sisterOut 0 0 (2 ^ 64), .sisterIn 64 0 0, .sisterIn 0 64 0, .sisterIn 0 0 (2 ^ 64), .cacheRd 64 0 0, .cacheRd 0 64 0,
    .cacheRd 0 0 (2 ^ 64), .cacheWr 64 0 0, .cacheWr 0 64 0, .cacheWr 0 0 (2 ^ 64), .context 64 0 0, .context 0 64 0,
    .context 0 0 (2 ^ 64)] : List Instr), i.wf = false := by decide +kernel

/-- Each check of a command refuses an operand just outside it. -/
theorem test_wf_refuses_1 : ∀ i ∈ ([
    .journal 64 0 0, .journal 0 64 0, .journal 0 0 (2 ^ 64), .endpoint 64 0 0, .endpoint 0 64 0, .endpoint 0 0 (2 ^ 64),
    .vault 64 0 0, .vault 0 64 0, .vault 0 0 (2 ^ 64), .control 64 0 0, .control 0 64 0, .control 0 0 (2 ^ 64), .dump 64 0 0,
    .dump 0 64 0, .dump 0 0 (2 ^ 64), .shadowImageEnd 4 [], .ttCheck 4 0, .ttCheck 0 (2 ^ 64), .ttSwitch 4 0,
    .ttSwitch 0 (2 ^ 64), .ttShadowToF1 4 0, .ttShadowToF1 0 (2 ^ 64), .capsuleAccept { qpn := 2 ^ 24 },
    .fullStripeIssue (2 ^ 64) 0, .fullStripeIssue 0 (2 ^ 32), .copyAckTimeout (2 ^ 64), .applyStart (2 ^ 32) 0,
    .applyStart 0 (2 ^ 32), .driveCompletion 24 0 0 false {}, .driveCompletion 0 (2 ^ 16) 0 false {},
    .driveCompletion 0 0 (2 ^ 16) false {}, .driveCompletion 0 0 0 false { sectors := [{ lba := 2 ^ 64 }] },
    .blockFix (2 ^ 64) 0, .blockFix 0 (2 ^ 64), .readHedge (2 ^ 64) 0, .readHedge 0 (2 ^ 64), .readRoomHoldExpiry (2 ^ 64),
    .roomRdmaRead { qpn := 2 ^ 24 }, .bayContain 24 0, .bayContain 0 (2 ^ 8)] : List Instr), i.wf = false := by decide +kernel

/-- Each check of a command refuses an operand just outside it. -/
theorem test_wf_refuses_2 : ∀ i ∈ ([
    .returnEvent 0 0, .returnEvent 3 0, .returnEvent 1 24, .rebuildStripeDone (2 ^ 32) 0, .rebuildStripeDone 0 (2 ^ 32),
    .patrolStripe 0, .patrolStripe 3, .peRebuildRateWrite 4 0, .peRebuildRateWrite 0 (2 ^ 64), .pePatrolEnableWrite 4 0,
    .pePatrolEnableWrite 0 (2 ^ 64), .pePatrolLogClear 4 0, .pePatrolLogClear 0 (2 ^ 64), .pfTrip [], .flushEndPage (2 ^ 32),
    .comparatorSuspect 3, .journalRecordHeld 0 0, .journalRecordHeld 3 0, .journalRecordHeld 1 (2 ^ 64),
    .lgLedgerSizeWrite 4 0, .lgLedgerSizeWrite 0 (2 ^ 64), .lgFlushProfileWrite 4 0, .lgFlushProfileWrite 0 (2 ^ 64),
    .sisterSbTx (2 ^ 24), .sisterSbRx [] (2 ^ 24), .sidebandSilent (2 ^ 24), .legPacketRx [List.replicate 4137 0],
    .holderSilence 0, .holderSilence 3, .wardenGrant { session := 2 ^ 32 } 1 0 0, .wardenGrant {} 0 0 0,
    .wardenGrant {} 3 0 0, .wardenGrant {} 1 (2 ^ 64) 0, .wardenGrant {} 1 0 (2 ^ 32),
    .wardenRefuse { session := 2 ^ 32 } 1 0 0, .wardenRefuse {} 0 0 0, .wardenRefuse {} 3 0 0, .wardenRefuse {} 1 (2 ^ 64) 0,
    .wardenRefuse {} 1 0 (2 ^ 32), .wardenTimeout 0] : List Instr), i.wf = false := by decide +kernel

/-- Each check of a command refuses an operand just outside it. -/
theorem test_wf_refuses_3 : ∀ i ∈ ([
    .wardenTimeout 3, .holdoffExpiry 0 0, .holdoffExpiry 3 0, .holdoffExpiry 1 (2 ^ 64), .reservationConflict 24 0 0 0,
    .reservationConflict 0 (2 ^ 16) 0 0, .reservationConflict 0 0 (2 ^ 16) 0, .reservationConflict 0 0 0 (2 ^ 64),
    .driveWon 0 0 0 [] false, .driveWon 3 0 0 [] false, .driveWon 1 24 0 [] false, .driveWon 1 0 (2 ^ 64) [] false,
    .driveWon 1 0 0 [2 ^ 64] false, .preemptTimeout 0, .preemptTimeout 3, .quorumRetry 0, .quorumRetry 3, .siHandback 4 0,
    .siHandback 0 (2 ^ 64), .handbackTimeout 0, .handbackTimeout 3, .siPromote 4 0, .siPromote 0 (2 ^ 64),
    .cmReq [] 0 0 0 0 0, .cmReq (List.replicate 32 0) (2 ^ 24) 0 0 0 0, .cmReq (List.replicate 32 0) 0 33 0 0 0,
    .cmReq (List.replicate 32 0) 0 0 (2 ^ 8) 0 0, .cmReq (List.replicate 32 0) 0 0 0 (2 ^ 16) 0,
    .cmReq (List.replicate 32 0) 0 0 0 0 (2 ^ 16), .rdmaReadResponse { qpn := 2 ^ 24 }, .rdmaWritePush { qpn := 2 ^ 24 },
    .acknowledge { qpn := 2 ^ 24 }, .cnp { qpn := 2 ^ 24 }, .sack { qpn := 2 ^ 24 }, .sackInterval (2 ^ 24),
    .spreadTimeout (2 ^ 24) 0, .spreadTimeout 0 (2 ^ 32), .ackTimeout (2 ^ 24), .trRekey 4 0, .trRekey 0 (2 ^ 24)] : List Instr), i.wf = false := by decide +kernel

/-- Each check of a command refuses an operand just outside it. -/
theorem test_wf_refuses_4 : ∀ i ∈ ([
    .rekeyOverlapEnd (2 ^ 24), .contextFetchDone (2 ^ 24), .waitEntryTimeout (2 ^ 16), .fabricsConnect { qpn := 2 ^ 24 },
    .propertyGet (.assoc (2 ^ 16)) 0 0, .propertyGet .endpoint (2 ^ 16) 0, .propertyGet .endpoint 0 (2 ^ 64),
    .propertySet (.assoc (2 ^ 16)) 0 0 0, .propertySet .endpoint (2 ^ 16) 0 0, .propertySet .endpoint 0 (2 ^ 64) 0,
    .propertySet .endpoint 0 0 (2 ^ 64), .disconnect (.assoc (2 ^ 16)) 0, .disconnect .endpoint (2 ^ 16),
    .identifyController (.assoc (2 ^ 16)) 0 0, .identifyController .endpoint (2 ^ 16) 0,
    .identifyController .endpoint 0 (2 ^ 8), .identifyNamespace (.assoc (2 ^ 16)) 0 0,
    .identifyNamespace .endpoint (2 ^ 16) 0, .identifyNamespace .endpoint 0 (2 ^ 32),
    .activeNamespaceList (.assoc (2 ^ 16)) 0 0, .activeNamespaceList .endpoint (2 ^ 16) 0,
    .activeNamespaceList .endpoint 0 (2 ^ 32), .namespaceDescriptorList (.assoc (2 ^ 16)) 0 0,
    .namespaceDescriptorList .endpoint (2 ^ 16) 0, .namespaceDescriptorList .endpoint 0 (2 ^ 32),
    .getLogPage (.assoc (2 ^ 16)) 0 0 0 0 0 false, .getLogPage .endpoint (2 ^ 16) 0 0 0 0 false,
    .getLogPage .endpoint 0 (2 ^ 8) 0 0 0 false, .getLogPage .endpoint 0 0 (2 ^ 32) 0 0 false,
    .getLogPage .endpoint 0 0 0 (2 ^ 64) 0 false, .getLogPage .endpoint 0 0 0 0 (2 ^ 34) false,
    .setFeatures (.assoc (2 ^ 16)) 0 0 0 0 false, .setFeatures .endpoint (2 ^ 16) 0 0 0 false,
    .setFeatures .endpoint 0 (2 ^ 8) 0 0 false, .setFeatures .endpoint 0 0 (2 ^ 32) 0 false,
    .setFeatures .endpoint 0 0 0 (2 ^ 64) false, .getFeatures (.assoc (2 ^ 16)) 0 0 0 0,
    .getFeatures .endpoint (2 ^ 16) 0 0 0, .getFeatures .endpoint 0 (2 ^ 8) 0 0, .getFeatures .endpoint 0 0 (2 ^ 32) 0] : List Instr), i.wf = false := by decide +kernel

/-- Each check of a command refuses an operand just outside it. -/
theorem test_wf_refuses_5 : ∀ i ∈ ([
    .getFeatures .endpoint 0 0 0 8, .firmwareImageDownload (.assoc (2 ^ 16)) 0 0 [],
    .firmwareImageDownload .endpoint (2 ^ 16) 0 [], .firmwareImageDownload .endpoint 0 (2 ^ 64) [],
    .firmwareCommit (.assoc (2 ^ 16)) 0 0 0, .firmwareCommit .endpoint (2 ^ 16) 0 0, .firmwareCommit .endpoint 0 8 0,
    .firmwareCommit .endpoint 0 0 8, .abortCmd (.assoc (2 ^ 16)) 0 0 0, .abortCmd .endpoint (2 ^ 16) 0 0,
    .abortCmd .endpoint 0 (2 ^ 16) 0, .abortCmd .endpoint 0 0 (2 ^ 16), .keepAlive (.assoc (2 ^ 16)) 0,
    .keepAlive .endpoint (2 ^ 16), .katoExpiry (2 ^ 16), .asynchronousEventRequest (.assoc (2 ^ 16)) 0,
    .asynchronousEventRequest .endpoint (2 ^ 16), .readCmd (2 ^ 64), .writeCmd (2 ^ 64), .flushCmd (2 ^ 64),
    .writeZeroes (2 ^ 64), .datasetManagement (2 ^ 64), .reservationRegister (2 ^ 64), .reservationAcquire (2 ^ 64),
    .reservationRelease (2 ^ 64), .reservationReport (2 ^ 64), .roomOpen (2 ^ 64), .roomModify (2 ^ 64), .roomClose (2 ^ 64),
    .roomCloseTimeout (2 ^ 18), .cePowerStateSet 4 0, .cePowerStateSet 0 (2 ^ 64), .ceNsCreate 4 0, .ceNsCreate 0 (2 ^ 64),
    .ceNsDelete 4 0, .ceNsDelete 0 (2 ^ 64), .nsPartyMaskWrite 4 0 0, .nsPartyMaskWrite 0 (2 ^ 32) 0,
    .nsPartyMaskWrite 0 0 (2 ^ 64), .driveIoTimeout 24 0 0] : List Instr), i.wf = false := by decide +kernel

/-- Each check of a command refuses an operand just outside it. -/
theorem test_wf_refuses_6 : ∀ i ∈ ([
    .driveIoTimeout 0 (2 ^ 16) 0, .driveIoTimeout 0 0 (2 ^ 16), .driveAdminTimeout 24 0, .driveAdminTimeout 0 (2 ^ 16),
    .driveAbortWaitExpiry 24 0 0, .driveAbortWaitExpiry 0 (2 ^ 16) 0, .driveAbortWaitExpiry 0 0 (2 ^ 16), .ceBayContain 4 0,
    .ceBayContain 0 (2 ^ 64), .driveExamine 24, .driveExamineDone 24 0 0 false false false .blank,
    .driveExamineDone 0 (2 ^ 64) 0 false false false .blank, .driveExamineDone 0 0 (2 ^ 8) false false false .blank,
    .driveExamineTimeout 24, .ceBayRelease 4 0, .ceBayRelease 0 (2 ^ 64), .ceBayAccept 4 0, .ceBayAccept 0 (2 ^ 64),
    .rxFrameHead 33 {}, .rxFrameHead 0 { dst := 2 ^ 48 }, .rxFrameEnd (2 ^ 64) 0 false 0 0, .rxFrameEnd 0 (2 ^ 16) false 0 0,
    .rxFrameEnd 0 0 false (2 ^ 32) 0, .rxFrameEnd 0 0 false 0 (2 ^ 32), .pauseFrame 33 0, .pauseFrame 0 (2 ^ 16),
    .pfcFrame 33 0 (List.replicate 8 0), .pfcFrame 0 (2 ^ 8) (List.replicate 8 0), .pfcFrame 0 0 (List.replicate 7 0),
    .pfcFrame 0 0 (List.replicate 8 (2 ^ 16)), .pauseExpiry 33 0, .pauseExpiry 0 8, .pauseStorm 33 0, .pauseStorm 0 8,
    .pfcRefresh 33, .txFrameBoundary 33 false, .linkDown 33, .linkUp 33, .ptpSync 33 0, .ptpSync 0 (2 ^ 63)] : List Instr), i.wf = false := by decide +kernel

/-- Each check of a command refuses an operand just outside it. -/
theorem test_wf_refuses_7 : ∀ i ∈ ([
    .ptpSync 0 (-2 ^ 63 - 1), .statisticsRead 4 0 0, .statisticsRead 0 (2 ^ 16) 0, .statisticsRead 0 0 256, .draw 256 0 0 0,
    .draw 0 8 0 0, .draw 0 0 2 0, .draw 0 0 0 256, .drawBySize (2 ^ 32) 0 0, .drawBySize 0 2 0, .drawBySize 0 0 256,
    .shareCmd (2 ^ 32) 0, .shareCmd 0 256, .releaseCmd (2 ^ 32) 0, .releaseCmd 0 256, .freeCmd (2 ^ 32) 0, .freeCmd 0 256,
    .handover (2 ^ 32) 0 0, .handover 0 256 0, .handover 0 0 256, .cyOwnerRootWrite 4 [], .cyHostKeyDerive 4 0,
    .cyHostKeyDerive 0 (2 ^ 64), .cyCoreReset 4 0, .cyCoreReset 0 (2 ^ 64), .coreFault 16 [] [],
    .coreFault 0 [(2 ^ 64, 0)] [], .coreFault 0 [(0, 2 ^ 64)] [], .coreFault 0 [] [(2 ^ 64, 0)],
    .coreFault 0 [] [(0, 2 ^ 20)], .ghTick { feeds := [] }, .ghTick { bays := List.replicate 25 (0, 0) },
    .ghTick { low := List.replicate 25 false }, .ghTick { good := List.replicate 13 false }, .feedValid 2, .feedReturn 2,
    .faultTimerExpiry 25, .pgTimeout 25, .offTimeEnd 25, .accumulatorClear 25] : List Instr), i.wf = false := by decide +kernel

/-- Each check of a command refuses an operand just outside it. -/
theorem test_wf_refuses_8 : ∀ i ∈ ([
    .tripCountClear 25, .ghBoardUnlatch 4 0, .ghBoardUnlatch 0 (2 ^ 64), .ghBayUnlatch 4 0, .ghBayUnlatch 0 24,
    .presenceDebounced 24, .carrierRemoval 24, .bayEmptyClear 24, .ghBayEnableWrite 4 0 0, .ghBayEnableWrite 0 24 0,
    .ghBayEnableWrite 0 0 (2 ^ 64), .ghBankEnergyCeilingWrite 4 0, .ghBankEnergyCeilingWrite 0 (2 ^ 64), .ghBankMeasure 4 0,
    .ghBankMeasure 0 (2 ^ 64), .bankMeasureDone (2 ^ 64) 0, .bankMeasureDone 0 (2 ^ 64), .railFault 12, .ghTimeSet 4 0,
    .ghTimeSet 0 (2 ^ 64), .fwStart 4 0, .fwStart 0 (2 ^ 64), .musterStepEnd 16 {}, .musterStepEnd 0 { comparators := [] },
    .musterStepEnd 0 { failed := [256] }, .fwWarmReset 4 0, .fwWarmReset 0 (2 ^ 64), .fwShutdown 4 0, .fwShutdown 0 (2 ^ 64),
    .fwRecoveryImage 4 [], .fwOwnerKeyWrite 4 [], .fwUnitReset 4 0, .fwUnitReset 0 (2 ^ 64), .unitReady 256,
    .unitReadyLimit 256, .stewardWatchdog 8, .thermalTrip 4, .drvPerstRelease 24, .hello (some (32)) 0 0 [],
    .hello none (2 ^ 256) 0 []] : List Instr), i.wf = false := by decide +kernel

/-- Each check of a command refuses an operand just outside it. -/
theorem test_wf_refuses_9 : ∀ i ∈ ([
    .hello none 0 4 [], .auth (2 ^ 32) [], .authTimeout (2 ^ 32), .close { session := 2 ^ 32 } [], .sessionIdle (2 ^ 32),
    .fieldRead { session := 2 ^ 32 } [], .fieldWrite { session := 2 ^ 32 } [], .objectWrite 4 0 0 [],
    .objectWrite 0 (2 ^ 16) 0 [], .objectWrite 0 0 256 [], .domainRead { session := 2 ^ 32 } [],
    .domainWrite { session := 2 ^ 32 } [], .stagingTimeout (some (2 ^ 32)), .reassemblyTimeout (2 ^ 128),
    .credentialWrite 4 0 0 [], .credentialWrite 0 (2 ^ 16) 0 [], .credentialWrite 0 0 256 [], .bar2Doorbell (2 ^ 16) [],
    .epBar2ClassWrite false 4 0, .epBar2ClassWrite false 0 (2 ^ 64), .epDoorbell (2 ^ 16) false 0,
    .epDoorbell 0 false (2 ^ 64), .createIoSubmissionQueue (.assoc (2 ^ 16)) 0 0 0 0 false 0,
    .createIoSubmissionQueue .endpoint (2 ^ 16) 0 0 0 false 0, .createIoSubmissionQueue .endpoint 0 (2 ^ 16) 0 0 false 0,
    .createIoSubmissionQueue .endpoint 0 0 (2 ^ 16) 0 false 0, .createIoSubmissionQueue .endpoint 0 0 0 (2 ^ 16) false 0,
    .createIoSubmissionQueue .endpoint 0 0 0 0 false (2 ^ 64),
    .createIoCompletionQueue (.assoc (2 ^ 16)) 0 0 0 0 false false 0,
    .createIoCompletionQueue .endpoint (2 ^ 16) 0 0 0 false false 0,
    .createIoCompletionQueue .endpoint 0 (2 ^ 16) 0 0 false false 0,
    .createIoCompletionQueue .endpoint 0 0 (2 ^ 16) 0 false false 0,
    .createIoCompletionQueue .endpoint 0 0 0 (2 ^ 16) false false 0,
    .createIoCompletionQueue .endpoint 0 0 0 0 false false (2 ^ 64), .deleteIoSubmissionQueue (.assoc (2 ^ 16)) 0 0,
    .deleteIoSubmissionQueue .endpoint (2 ^ 16) 0, .deleteIoSubmissionQueue .endpoint 0 (2 ^ 16),
    .deleteIoCompletionQueue (.assoc (2 ^ 16)) 0 0, .deleteIoCompletionQueue .endpoint (2 ^ 16) 0,
    .deleteIoCompletionQueue .endpoint 0 (2 ^ 16)] : List Instr), i.wf = false := by decide +kernel

/-- Each check of a command refuses an operand just outside it. -/
theorem test_wf_refuses_10 : ∀ i ∈ ([
    .epReadCompletion 128 false 0 none, .epReadCompletion 0 false 0 (some { cid := 2 ^ 16 }), .epCompletionTimeout 128,
    .epError false 32 0 {}, .epError false 0 (2 ^ 128) {}, .epError false 0 0 { enables := 16 },
    .busMasterSet false (2 ^ 13), .functionLevelReset (2 ^ 8), .epResetDone (some (256, 0)), .epResetDone (some (0, 256)),
    .interruptModeChange false false false (2 ^ 32), .gbClear 4 0, .gbClear 0 (2 ^ 64),
    .gbWindowRead { session := 2 ^ 32 } [], .counterConfigWrite 4 0 0 0, .counterConfigWrite 0 (2 ^ 16) 0 0,
    .counterConfigWrite 0 0 8 0, .counterConfigWrite 0 0 0 (2 ^ 64), .filterWrite 4 0 (List.replicate 48 0),
    .filterWrite 0 16 (List.replicate 48 0), .filterWrite 0 0 [], .challenge (2 ^ 32) [] [] [],
    .authOk { session := 2 ^ 32 } [], .lanternResend 0, .lanternResend 3, .temperatureRead [], .interruptUnmask (some (64)),
    .epCcWrite (2 ^ 64) 0 0 0 0, .epCcWrite 0 (2 ^ 12) 0 0 0, .epCcWrite 0 0 (2 ^ 12) 0 0, .epCcWrite 0 0 0 (2 ^ 64) 0,
    .epCcWrite 0 0 0 0 (2 ^ 64), .neighbourDiscovery (2 ^ 128)] : List Instr), i.wf = false := by decide +kernel

/-- Operands inside the bounds are well formed. -/
theorem test_wf_accepts_0 : ∀ i ∈ ([
    .legBoundary, .refclkLoss, .refclkRelock, .holdoverEnd, .noneCmd 0 0 0, .netIn 0 0 0, .netOut 0 0 0 0,
    .cipher 0 0 0 false, .driveIn 0 0 0, .driveOut 0 0 0, .parityIn 0 0 0, .parityOut 0 0 0, .sisterOut 0 0 0,
    .sisterIn 0 0 0, .cacheRd 0 0 0, .cacheWr 0 0 0, .context 0 0 0, .journal 0 0 0, .endpoint 0 0 0, .vault 0 0 0,
    .control 0 0 0, .dump 0 0 0, .shadowImageEnd 0 [], .ttCheck 0 0, .ttCheckDone, .ttSwitch 0 0, .ttSwitchDigestDone,
    .ttSwitchClassEmpty, .ttSwitchClassTimeout, .ttShadowToF1 0 0, .capsuleAccept {}, .fullStripeIssue 0 0,
    .copyAckTimeout 0, .applyStart 0 0, .driveCompletion 0 0 0 false {}, .blockFix 0 0, .readHedge 0 0,
    .readRoomHoldExpiry 0, .roomRdmaRead {}, .bayContain 0 0] : List Instr), i.wf = true := by decide +kernel

/-- Operands inside the bounds are well formed. -/
theorem test_wf_accepts_1 : ∀ i ∈ ([
    .returnEvent 1 0, .rebuildStripe, .rebuildStripeDone 0 0, .patrolStripe 1, .patrolRewrite, .peRebuildRateWrite 0 0,
    .pePatrolEnableWrite 0 0, .pePatrolLogClear 0 0, .pfTrip [false, false, false], .flushEndPage 0, .bankFloorReached,
    .comparatorSuspect 0, .journalRecordHeld 1 0, .descriptorCommit, .lgLedgerSizeWrite 0 0, .lgFlushProfileWrite 0 0,
    .sisterSbTx 0, .sisterSbRx [] 0, .sidebandSilent 0, .bayOwnerRelease, .legPacketRx [], .legPacketAck [],
    .legPacketNak [], .holderSilence 1, .wardenGrant {} 1 0 0, .wardenRefuse {} 1 0 0, .wardenTimeout 1, .holdoffExpiry 1 0,
    .renew, .reservationConflict 0 0 0 0, .driveWon 1 0 0 [] false, .preemptTimeout 1, .quorumRetry 1, .resyncReq [],
    .resyncDone [], .siHandback 0 0, .handback [], .handbackTimeout 1, .siPromote 0 0,
    .cmReq (List.replicate 32 0) 0 0 0 0 0] : List Instr), i.wf = true := by decide +kernel

/-- Operands inside the bounds are well formed. -/
theorem test_wf_accepts_2 : ∀ i ∈ ([
    .rdmaReadResponse {}, .rdmaWritePush {}, .acknowledge {}, .cnp {}, .sack {}, .sackInterval 0, .spreadTimeout 0 0,
    .ackTimeout 0, .trRekey 0 0, .rekeyOverlapEnd 0, .contextFetchDone 0, .waitEntryTimeout 0, .fabricsConnect {},
    .propertyGet .endpoint 0 0, .propertySet .endpoint 0 0 0, .disconnect .endpoint 0, .identifyController .endpoint 0 0,
    .identifyNamespace .endpoint 0 0, .activeNamespaceList .endpoint 0 0, .namespaceDescriptorList .endpoint 0 0,
    .getLogPage .endpoint 0 0 0 0 0 false, .setFeatures .endpoint 0 0 0 0 false, .getFeatures .endpoint 0 0 0 0,
    .firmwareImageDownload .endpoint 0 0 [], .firmwareCommit .endpoint 0 0 0, .firmwareActivationReady, .mtfaTimeout,
    .abortCmd .endpoint 0 0 0, .keepAlive .endpoint 0, .katoExpiry 0, .asynchronousEventRequest .endpoint 0, .readCmd 0,
    .writeCmd 0, .flushCmd 0, .writeZeroes 0, .datasetManagement 0, .reservationRegister 0, .reservationAcquire 0,
    .reservationRelease 0, .reservationReport 0] : List Instr), i.wf = true := by decide +kernel

/-- Operands inside the bounds are well formed. -/
theorem test_wf_accepts_3 : ∀ i ∈ ([
    .roomOpen 0, .roomModify 0, .roomClose 0, .roomCloseTimeout 0, .cePowerStateSet 0 0, .ps2EntryComplete,
    .psEntryLimitExpiry, .ceNsCreate 0 0, .ceNsDelete 0 0, .nsPartyMaskWrite 0 0 0, .driveIoTimeout 0 0 0,
    .driveAdminTimeout 0 0, .driveAbortWaitExpiry 0 0 0, .ceBayContain 0 0, .driveExamine 0,
    .driveExamineDone 0 0 0 false false false .blank, .driveExamineTimeout 0, .ceBayRelease 0 0, .ceBayAccept 0 0,
    .rxFrameHead 0 {}, .rxFrameEnd 0 0 false 0 0, .pauseFrame 0 0, .pfcFrame 0 0 (List.replicate 8 0), .pauseExpiry 0 0,
    .pauseStorm 0 0, .pfcRefresh 0, .txFrameBoundary 0 false, .linkDown 0, .linkUp 0, .ptpSync 0 0, .ptpLoss,
    .statisticsRead 0 0 0, .draw 0 0 0 0, .drawBySize 0 0 0, .shareCmd 0 0, .releaseCmd 0 0, .freeCmd 0 0, .handover 0 0 0,
    .cyOwnerRootWrite 0 [], .cyHostKeyDerive 0 0] : List Instr), i.wf = true := by decide +kernel

/-- Operands inside the bounds are well formed. -/
theorem test_wf_accepts_4 : ∀ i ∈ ([
    .keyDerivationDone, .cyCoreReset 0 0, .coreFault 0 [] [], .ghTick {}, .feedValid 0, .feedMake, .feedReturn 0,
    .faultTimerExpiry 0, .pgTimeout 0, .offTimeEnd 0, .accumulatorClear 0, .tripCountClear 0, .ghBoardUnlatch 0 0,
    .ghBayUnlatch 0 0, .presenceDebounced 0, .bayStagger, .carrierRemoval 0, .bayEmptyClear 0, .ghBayEnableWrite 0 0 0,
    .measurementSample, .bankPublish, .chargeTargetReached, .chargeTimeout, .ghBankEnergyCeilingWrite 0 0, .bankBleedDone,
    .capacitanceMeasure, .ghBankMeasure 0 0, .bankMeasureDone 0 0, .railSequence, .railPgTimeout, .railFault 0,
    .shelfTimeSave, .ptpCompare, .ghTimeSet 0 0, .gatehousePowerOnReset false, .vigilExit, .fwStart 0 0, .musterStepEnd 0 {},
    .warmReset false, .fwWarmReset 0 0] : List Instr), i.wf = true := by decide +kernel

/-- Operands inside the bounds are well formed. -/
theorem test_wf_accepts_5 : ∀ i ∈ ([
    .fwShutdown 0 0, .shutdownTimeout, .fwRecoveryImage 0 [], .fwOwnerKeyWrite 0 [], .fwConfirmExpiry, .fwUnitReset 0 0,
    .unitReady 0, .unitReadyLimit 0, .stewardWatchdog 0, .thermalTrip 0, .drvPerstRelease 0, .hello none 0 0 [], .auth 0 [],
    .authTimeout 0, .close {} [], .sessionIdle 0, .fieldRead {} [], .fieldWrite {} [], .objectWrite 0 0 0 [],
    .domainRead {} [], .domainWrite {} [], .stagingTimeout none, .reassemblyTimeout 0, .credentialWrite 0 0 0 [],
    .bar2Doorbell 0 [], .epBar2ClassWrite false 0 0, .epDoorbell 0 false 0,
    .createIoSubmissionQueue .endpoint 0 0 0 0 false 0, .createIoCompletionQueue .endpoint 0 0 0 0 false false 0,
    .deleteIoSubmissionQueue .endpoint 0 0, .deleteIoCompletionQueue .endpoint 0 0, .epReadCompletion 0 false 0 none,
    .epCompletionTimeout 0, .epError false 0 0 {}, .busMasterClear false, .busMasterSet false 0, .functionLevelReset 0,
    .epResetDone none, .d3hotEntry, .interruptModeChange false false false 0] : List Instr), i.wf = true := by decide +kernel

/-- Operands inside the bounds are well formed. -/
theorem test_wf_accepts_6 : ∀ i ∈ ([
    .gbClear 0 0, .gateCopy, .gbWindowRead {} [], .clusterDump, .counterConfigWrite 0 0 0 0,
    .filterWrite 0 0 (List.replicate 48 0), .tallySave, .gatehousePowerLoss, .challenge 0 [] [] [], .authOk {} [],
    .lanternResend 1, .d0Entry, .temperatureRead [0, 0, 0, 0], .interruptUnmask none, .epCcWrite 0 0 0 0 0,
    .neighbourDiscovery 0] : List Instr), i.wf = true := by decide +kernel

/-! ### The manual's worked examples and small steps -/

/-- No row of the table gives bits: no word spells a command, and placing one changes nothing. -/
theorem test_no_word_spells_a_command : decodeTableWord 64 0x38200C041E0000E3 = none ∧ decodeTableWord 0 0 = none := ⟨rfl, rfl⟩

/-- After reset the package is in Vigil with no command waiting, and idles (R18, R454). -/
theorem test_reset_is_vigil : State.reset.md.mode = .vigil ∧ State.reset.pending = [] ∧ State.reset.lg.recs = [] :=
  ⟨rfl, rfl, rfl⟩

theorem test_idle : step State.reset = .next State.reset := rfl

/-- The cell word of the R35 example passes its check; a bit flipped, it does not. -/
theorem test_cell_word : cellChkGood 0x38200C041E0000E3 = true ∧ cellChkGood 0x38200C041E0000E2 = false ∧
    (cellWord 0x38200C041E0000E3).src = 0x38 ∧ (cellWord 0x38200C041E0000E3).snk = 0x20 ∧
    (cellWord 0x38200C041E0000E3).opc = Opc.cipher ∧ (cellWord 0x38200C041E0000E3).pool = 7 := by decide +kernel

/-- The row of the 4+2 example of R135: its data, and what it gives back with members 1 and 3 lost. -/
def row42 : List (Nat × Block) := [(0, 0x5A), (1, 0x3C), (2, 0xC3), (3, 0x96)]

theorem test_row_parity : parityP row42 = 0x33 ∧ parityQ row42 = 0xCD := by decide +kernel

theorem test_row_case_7 : rowCase 4 [1, 3] = some 7 ∧
    (let got := [(0, 0x5A), (2, 0xC3), (4, 0x33), (5, 0xCD)]
     memberOf (rowData 4 [1, 3] got) 1 = 0x3C ∧ memberOf (rowData 4 [1, 3] got) 3 = 0x96) := by decide +kernel

/-- The namespace of the layout example: 10+2, a 64 KiB strip, one spare, variant 5, LBA 1,234,567 (R137, R144 to R147). -/
theorem test_layout_example :
    (let l : BitVec 16 := 0x5285
     let n : Namespace := { nsid := 1, layout := l, base := 0, rows := 1000 }
     layK l = 10 ∧ layS l = 16 ∧ laySpare l = 1 ∧ stripeOf l 1234567 = 7716 ∧ memberIx l 1234567 = 0 ∧ stripBlock l 1234567 = 7 ∧
     (List.range 12).map (homeBay l 7716) = [10, 4, 21, 15, 9, 3, 20, 14, 8, 2, 19, 23] ∧
     homeLba n 7716 0 + 7 = 66775 ∧ homeLba n 7716 10 + 7 = 66935 ∧ homeLba n 7716 11 + 7 = 66951 ∧
     spareLba n 7716 0 + 7 = 66967) := by decide +kernel

/-- The congestion example of R303: a cut to 87,500, one to 54,133, and a recovery step to 62,474 MB/s. -/
theorem test_congestion :
    (({ cnp := true } : Conn).congest 100000 4 16 100 100).1.rate = 87500 ∧
    (({ cnp := true, rate := 87500, goal := 100000, estimate := 700, gap := 4 } : Conn).congest 100000 4 16 100 100).1.rate = 54133 ∧
    (({ rate := 54133, goal := 87500, gap := 16 } : Conn).congest 100000 4 16 100 100).1.rate = 62474 := by decide +kernel

/-- The ledger sizes of the examples of R227: 12 mF at 18 J allow 1,424 MiB, 8 mF at 56 V 992 MiB. -/
theorem test_ledger_size :
    ({ on with lg := { bankPub := [54770, 12000, 18000000, 2] } } : State).sizeAllowed = 1424 * 1048576 ∧
    ({ on with lg := { bankPub := [56000, 8000, 18000000, 2] } } : State).sizeAllowed = 992 * 1048576 := by decide +kernel

/-- A room's key is its index and its tag (R279). -/
theorem test_room_key : ({ index := 11, tag := 5 } : Room).key = 0x0002C005 := by decide

/-- A PFC frame pauses class 3 for 1,000 quanta on a link under priority flow control (R363). -/
theorem test_pfc_pauses_class_3 :
    (match exec (.pfcFrame 0 8 [0, 0, 0, 1000, 0, 0, 0, 0]) (link1 2) with
     | .next t => (t.link 0).pauses.map (fun p => (p.tc, p.quanta)) == [(3, 1000)]
     | _ => false) = true := by decide +kernel

/-- When REFCLK stops the root PLL holds over (R30). -/
theorem test_refclk_loss_holds_over :
    (match exec .refclkLoss svc with
     | .next t => t.clk.refclk == false && t.clk.pll == .holdover
     | _ => false) = true := by decide +kernel

end Sys2Proof.Tests
end

section
/-! The leg boundary (R13, R29, R30, R64): when it brings nothing, its basics alone or everything, what it does to the clocks and
to the round, and how Drain is entered and left. -/

namespace Sys2Proof.Machine

section
variable {s : State}

/-! ### The three courses of LEG_BOUNDARY -/

/-- The timetable does not run: Vigil, the root PLL off, or Muster has not started it yet (R13, R30). -/
def State.timetableStopped (s : State) : Prop :=
  s.md.mode = .vigil ∨ s.clk.pll = .off ∨ (s.clk.stampArmed = false ∧ s.tt.legStarted = false)

/-- A leg boundary brings its basics alone: Holdup, or Muster on a held frequency (R30, R64). -/
def State.basicsAlone (s : State) : Prop := s.md.mode = .holdup ∨ s.clk.musterHalted = true

theorem State.not_timetableStopped_iff : ¬ s.timetableStopped ↔
    s.md.mode ≠ .vigil ∧ s.clk.pll ≠ .off ∧ (s.clk.stampArmed = true ∨ s.tt.legStarted = true) := by
  simp only [State.timetableStopped, not_or, not_and_or, Bool.not_eq_false]

theorem State.not_basicsAlone_iff : ¬ s.basicsAlone ↔ s.md.mode ≠ .holdup ∧ s.clk.musterHalted = false := by
  simp only [State.basicsAlone, not_or, Bool.not_eq_true]

theorem exec_legBoundary : exec .legBoundary s = execLegBoundary s := rfl

theorem exec_legBoundary_of_stopped (stopped : s.timetableStopped) : exec .legBoundary s = .next s := by
  rw [exec_legBoundary, execLegBoundary, if_pos (by simpa [State.timetableStopped] using stopped)]

theorem exec_legBoundary_of_running (running : ¬ s.timetableStopped) :
    ((s.toSlot 64).boundaryBasics.basicsAlone → exec .legBoundary s = .next (s.toSlot 64).boundaryBasics) ∧
    (¬ (s.toSlot 64).boundaryBasics.basicsAlone → exec .legBoundary s =
      .next ((s.toSlot 64).boundaryBasics.boundaryFlow.drainLeg.ledgerWork.boundaryWork).secondLeg.shutdownLeg) := by
  rw [exec_legBoundary, execLegBoundary, if_neg (by simpa [State.timetableStopped] using running)]
  exact ⟨fun alone => congrArg _ (if_pos alone), fun full => congrArg _ (if_neg full)⟩

/-! ### The clocks and the round -/

theorem State.clockBoundary_stamp :
    s.clockBoundary.clk.stamp = if s.clk.stampArmed then 0 else s.clk.stamp + 512 := rfl

@[simp] theorem State.clockBoundary_stampArmed : s.clockBoundary.clk.stampArmed = false := rfl

theorem State.clockBoundary_musterHalted_iff :
    s.clockBoundary.clk.musterHalted = true ↔ s.md.mode = .muster ∧ s.clk.pll = .holdover := by
  change (s.md.mode == .muster && s.clk.pll == .holdover) = true ↔ _
  rw [Bool.and_eq_true, beq_iff_eq, beq_iff_eq]

@[simp] theorem State.roundBoundary_slot : s.roundBoundary.tt.slot = 0 := rfl

@[simp] theorem State.roundBoundary_fired : s.roundBoundary.tt.fired = [] := rfl

@[simp] theorem State.roundBoundary_legStarted : s.roundBoundary.tt.legStarted = true := rfl

theorem State.roundBoundary_legCount (started : s.tt.legStarted = true) :
    s.roundBoundary.tt.legCount = s.tt.legCount + 1 := if_pos started

/-! ### Drain (R454, R465) -/

theorem State.drainLeg_enters (serving : s.md.mode = .service ∨ s.md.mode = .standby) (cause : s.md.causes ≠ []) :
    s.drainLeg = ((s.modMd fun m => { m with before := m.mode }).setMode .drain 2).saveCursors.patrolStop :=
  if_pos ⟨serving, by simpa using cause⟩

theorem State.drainLeg_leaves (drain : s.md.mode = .drain) (clear : s.md.causes = []) :
    s.drainLeg = State.activationOver
      (if (s.setMode s.md.before 3).ce.ps = 2 then (s.setMode s.md.before 3).setPs (s.setMode s.md.before 3).ce.psBefore 2
       else s.setMode s.md.before 3) := by
  unfold State.drainLeg
  rw [if_neg (by simp [drain]), if_pos ⟨drain, by simp [clear]⟩]

end

/-- Settles O55: the three courses of the boundary, then its clocks, its round and its Drain, each by its own lemma. -/
theorem theLegBoundaryBrings : Obligations.TheLegBoundaryBrings := by
  unfold Obligations.TheLegBoundaryBrings
  intro s
  refine ⟨exec_legBoundary_of_stopped, fun mode pll start => ?running,
    ⟨State.clockBoundary_stamp, State.clockBoundary_stampArmed, State.clockBoundary_musterHalted_iff⟩,
    ⟨State.roundBoundary_slot, State.roundBoundary_fired, State.roundBoundary_legStarted, State.roundBoundary_legCount⟩,
    State.drainLeg_enters, State.drainLeg_leaves⟩
  case running =>
    obtain ⟨alone, full⟩ := exec_legBoundary_of_running (State.not_timetableStopped_iff.mpr ⟨mode, pll, start⟩)
    exact ⟨alone, fun holdup halted => full (State.not_basicsAlone_iff.mpr ⟨holdup, halted⟩)⟩

end Sys2Proof.Machine
end

section
/-! The state after reset (R18, R454); the ways out of Vigil (R250, R258, R454, R455); the gatehouse's tick, shelf time and its own
supply (R18, R423, R449 to R451). -/

namespace Sys2Proof.Machine

section
variable {s : State}

/-! ### Writes that are taken -/

theorem State.takesWrite_action {cls ix res : Nat} (taken : s.takesWrite { cls := cls, ix := ix, res := some res } = true) :
    s.mayWrite cls ix 0 = true ∧ (s.result res).ready = true := by
  simpa [State.takesWrite] using taken

theorem State.takesWrite_trigger {cls ix : Nat} {ok : Bool} (taken : s.takesWrite { cls := cls, ix := ix, ok := ok } = true) :
    s.mayWrite cls ix 0 = true ∧ ok = true := by
  simpa [State.takesWrite] using taken

/-- A RESULT after a run that other work came between: whatever kept the RESULTs in between, the run ends as R478 says. -/
theorem State.result_endRun_of_startRun {t : State} {res : Nat} (value : List Byte) (kept : t.results = (s.startRun res).results) :
    (t.endRun res value).result res = (s.result res).ended value := by
  have running : t.result res = { s.result res with ready := false } :=
    (State.result_congr res kept).trans (State.result_startRun s res)
  rw [State.result_endRun _ _ _ (by rw [running]), running]
  rfl

theorem State.endRun_eq_results (res : Nat) (value : List Byte) :
    s.endRun res value = { s with results := (s.endRun res value).results } := by
  unfold State.endRun
  dsimp only
  split <;> rfl

/-! ### What counts and records leave -/

@[simp] theorem State.count_gh (ix sub n : Nat) : (s.count ix sub n).gh = s.gh :=
  (State.count_moves (.refl 0x1 s) (.refl _)).frame .gh rfl

@[simp] theorem State.tick_gh (ix sub : Nat) : (s.tick ix sub).gh = s.gh := State.count_gh ix sub 1

@[simp] theorem State.record_gh (sev code : Nat) (p : List (Nat × Nat)) : (s.record sev code p).gh = s.gh :=
  (State.record_moves (.refl 0x200001 s) (.refl _)).frame .gh rfl

@[simp] theorem State.record_md (sev code : Nat) (p : List (Nat × Nat)) : (s.record sev code p).md = s.md :=
  (State.record_moves (.refl 0x200001 s) (.refl _)).frame .md rfl

@[simp] theorem State.record_results (sev code : Nat) (p : List (Nat × Nat)) : (s.record sev code p).results = s.results :=
  (State.record_moves (.refl 0x200001 s) (.refl _)).frame .results rfl

@[simp] theorem State.flushCut_gh : s.flushCut.gh = s.gh :=
  (State.flushCut_moves (.refl 0xa00841 s) (.refl _)).frame .gh rfl

end

/-! ### Reset (R18, R454) -/

theorem State.reset_interlocked : State.reset.interlocked := fun both => Bool.false_ne_true both.1

theorem State.reset_booksFit : State.reset.booksFit := ⟨Nat.zero_le _, Nat.zero_le _⟩

theorem State.reset_sessionsFit : State.reset.sessionsFit := Nat.zero_le _

theorem State.reset_tagsFit : State.reset.tagsFit := TagsOk.nil

theorem State.reset_objsCanonical : State.reset.objsCanonical := rfl

/-! ### Leaving Vigil (R454, R455) -/

section
variable {s : State}

theorem State.setMode_md (m : Mode) (cause : Nat) : (s.setMode m cause).md = { s.md with mode := m } := by
  unfold State.setMode
  split
  case isTrue already => rw [← already]
  case isFalse => simp

theorem State.setMode_gh (m : Mode) (cause : Nat) : (s.setMode m cause).gh = s.gh := by
  unfold State.setMode
  split
  case isTrue => rfl
  case isFalse => simp

theorem State.musterGo_one_md : (s.musterGo 1).md = { s.md with step := 1, stepStart := s.gh.now, hold := .none } := rfl

/-- The start policy lets a controller go out of Vigil (R455): it is no policy 1, or the controller is released or promoted. -/
def State.startPermitted (s : State) : Prop :=
  s.get Obj.fw_start_policy ≠ 1 ∨ s.md.released = true ∨ s.si.promoted = true

/-- The state in which Vigil is left: the comparators are to be tested again, policy 2 holds the controller, and the power cycle is
counted (R206, R455, R531). -/
def State.vigilLeft (s : State) : State :=
  State.tick Obj.gh_tally_power_cycles 0 { s with
    lg := { s.lg with comparators := [0, 0, 0] }
    md := { s.md with held := s.get Obj.fw_start_policy == 2 && !(s.md.released || s.si.promoted) } }

theorem exec_vigilExit_of_startPermitted (mode : s.md.mode = .vigil) (powered : s.gh.powered = true) (fed : s.gh.selected ≠ 0)
    (offTime : s.gh.board.offTicks = 0) (latch : s.gh.board.latched = false) (rails : s.gh.railsOff = none)
    (bleed : s.gh.bleedGoal ≠ 1) (start : s.startPermitted) :
    exec .vigilExit s = .next ((s.vigilLeft.setMode .muster 7).musterGo 1) := by
  have policyOpen : ¬ (s.get Obj.fw_start_policy = 1 ∧ (!(s.md.released || s.si.promoted)) = true) := by
    rintro ⟨policy, held⟩
    simp only [Bool.not_eq_true', Bool.or_eq_false_iff] at held
    simp [State.startPermitted, policy, held.1, held.2] at start
  change execVigilExit s = _
  simp only [execVigilExit]
  rw [if_neg (by simpa [mode, powered, fed, offTime, latch, rails, bleed] using policyOpen)]
  rfl

theorem State.vigilLeft_gh : s.vigilLeft.gh = s.gh := State.tick_gh ..

/-- The controller waits at step 6 for its release, and Muster does not stand still (R30, R455). -/
def State.waitsForStart (s : State) : Prop :=
  s.md.mode = .muster ∧ s.md.hold = .policy ∧ s.clk.pll ≠ .holdover ∧ s.clk.musterHalted = false

theorem State.letGo_of_not_waiting (waits : ¬ s.waitsForStart) :
    s.letGo = { s with md := { s.md with released := true, held := false } } := by
  unfold State.letGo
  exact if_neg (by simpa [State.waitsForStart] using waits)

theorem State.letGo_of_waiting (waits : s.waitsForStart) :
    s.letGo = State.musterNext { s with md := { s.md with released := true, held := false } } := by
  unfold State.letGo
  exact if_pos (by simpa [State.waitsForStart] using waits)

theorem exec_fwStart_taken {cls : Nat} (taken : s.takes (.fwStart cls 1)) : exec (.fwStart cls 1) s = .next s.letGo :=
  congrArg _ (State.trigger_taken (State.takesWrite_trigger (taken _ rfl)))

/-- Promotion is for a cold spare of the single configuration (R258); the run of its RESULT has started by then. -/
theorem exec_siPromote_taken {cls : Nat} (taken : s.takes (.siPromote cls 1)) :
    exec (.siPromote cls 1) s = .next (
      if s.singleShelf = true ∧ s.heldForPromotion = true then
        ((s.startRun Obj.si_promote_result).promote none).endRun Obj.si_promote_result (outcomeVal Oc.ok)
      else (s.startRun Obj.si_promote_result).endRun Obj.si_promote_result (outcomeVal Oc.denied)) := by
  refine congrArg _ ((State.action_taken (State.takesWrite_action (taken _ rfl))).trans ?_)
  change (if 1 = 1 ∧ s.singleShelf = true ∧ s.heldForPromotion = true then _ else _) = _
  simp only [true_and]

end

/-! ### The gatehouse's tick (R423, R449, R450) -/

/-- The ticks counted, shelf time, and the shelf time saved. -/
def GateSt.timekeeping (g : GateSt) : Nat × Nat × Nat := (g.ticks, g.now, g.saved)

/-- What a pending slew adds to the nanoseconds of the n-th tick: one in ten ticks, 100 ppm (R450). -/
def slewStep (n : Nat) (slew : Int) : Int :=
  if n % 10 = 0 then (if 0 < slew then 1 else if slew < 0 then -1 else 0) else 0

theorem neg_one_le_slewStep (n : Nat) (slew : Int) : -1 ≤ slewStep n slew := by
  unfold slewStep
  split_ifs <;> decide

section
variable {s : State}

theorem State.timeTick_ticks : s.timeTick.gh.ticks = s.gh.ticks + 1 := rfl

theorem State.timeTick_saved : s.timeTick.gh.saved = s.gh.saved := rfl

theorem State.timeTick_now :
    (s.timeTick.gh.now : Int) = s.gh.now + 1000 + slewStep (s.gh.ticks + 1) s.gh.slew := by
  have moved : s.timeTick.gh.now = ((s.gh.now : Int) + 1000 + slewStep (s.gh.ticks + 1) s.gh.slew).toNat := by
    simp only [State.timeTick, State.modGh_gh, slewStep]
  have := neg_one_le_slewStep (s.gh.ticks + 1) s.gh.slew
  omega

theorem State.timekeeping_ite {c : Prop} [Decidable c] {t u : State} {k : Nat × Nat × Nat} (yes : t.gh.timekeeping = k)
    (no : u.gh.timekeeping = k) : (if c then t else u).gh.timekeeping = k := by
  split
  · exact yes
  · exact no

theorem State.modFeed_timekeeping (i : Nat) (f : Feed → Feed) : (s.modFeed i f).gh.timekeeping = s.gh.timekeeping := rfl

theorem State.feedRecord_timekeeping (i : Nat) (before : Feed) :
    (s.feedRecord i before).gh.timekeeping = s.gh.timekeeping := by
  unfold State.feedRecord
  dsimp only
  split
  · rw [State.record_gh]
  · rfl

theorem State.changeover_timekeeping (new cause : Nat) : (s.changeover new cause).gh.timekeeping = s.gh.timekeeping := by
  simp only [State.changeover, State.record_gh, State.tick_gh, State.modGh_gh]
  split <;> rfl

theorem State.reselect_timekeeping : s.reselect.gh.timekeeping = s.gh.timekeeping := by
  refine State.timekeeping_ite rfl (State.timekeeping_ite ?unselected (State.timekeeping_ite rfl ?lost))
  case unselected => exact State.timekeeping_ite rfl rfl
  case lost => exact State.timekeeping_ite (State.changeover_timekeeping ..) (State.timekeeping_ite rfl rfl)

theorem State.feedTick_timekeeping (i : TickIn) : (s.feedTick i).gh.timekeeping = s.gh.timekeeping := by
  unfold State.feedTick
  dsimp only [List.foldl]
  rw [State.reselect_timekeeping, State.feedRecord_timekeeping, State.modFeed_timekeeping, State.feedRecord_timekeeping,
    State.modFeed_timekeeping]

theorem State.switchTick_timekeeping (i : TickIn) : (s.switchTick i).gh.timekeeping = s.gh.timekeeping := rfl

theorem State.measureStart_timekeeping : s.measureStart.gh.timekeeping = s.gh.timekeeping := State.timekeeping_ite rfl rfl

theorem State.bankTick_timekeeping : s.bankTick.gh.timekeeping = s.gh.timekeeping := by
  refine State.timekeeping_ite ?stopped (State.timekeeping_ite rfl (State.timekeeping_ite ?bleeding ?charging))
  case stopped => exact State.timekeeping_ite rfl rfl
  case bleeding => exact State.timekeeping_ite rfl rfl
  case charging => exact State.timekeeping_ite rfl (State.timekeeping_ite rfl State.measureStart_timekeeping)

theorem State.railTick_timekeeping : s.railTick.gh.timekeeping = s.gh.timekeeping := by
  unfold State.railTick
  extract_lets g low s1 s2
  have enabled : s2.gh.timekeeping = s.gh.timekeeping := by
    dsimp only [s2]
    split
    · exact State.timekeeping_ite rfl rfl
    · rfl
    · rfl
  clear_value s2
  split
  · refine State.timekeeping_ite enabled ?_
    split
    · exact enabled
    · exact enabled
  · exact enabled

/-- What one tick of a powered gatehouse does in order: time, feeds, switches, rails, bank (R423). -/
def State.ticked (i : TickIn) (s : State) : State :=
  State.bankTick (State.railTick (State.switchTick i (State.feedTick i s.timeTick)))

theorem State.ticked_timekeeping (i : TickIn) : (s.ticked i).gh.timekeeping = s.timeTick.gh.timekeeping :=
  calc (s.ticked i).gh.timekeeping
    _ = ((s.timeTick.feedTick i).switchTick i).railTick.gh.timekeeping := State.bankTick_timekeeping
    _ = ((s.timeTick.feedTick i).switchTick i).gh.timekeeping := State.railTick_timekeeping
    _ = (s.timeTick.feedTick i).gh.timekeeping := State.switchTick_timekeeping i
    _ = s.timeTick.gh.timekeeping := State.feedTick_timekeeping i

theorem State.ticked_moves (i : TickIn) : Moves 0x220001 s (s.ticked i) :=
  have all := Sub.refl 0x220001
  have gate : Sub 0x20000 0x220001 := .of all rfl
  State.bankTick_moves (State.railTick_moves (State.switchTick_moves (State.feedTick_moves
    (State.timeTick_moves (.refl _ s) gate) all) gate) gate) gate

theorem State.ticked_md (i : TickIn) : (s.ticked i).md = s.md := (State.ticked_moves i).frame .md rfl

theorem State.ticked_drives (i : TickIn) : (s.ticked i).drives = s.drives := (State.ticked_moves i).frame .drives rfl

theorem State.ticked_ticks (i : TickIn) : (s.ticked i).gh.ticks = s.gh.ticks + 1 :=
  congrArg Prod.fst (State.ticked_timekeeping i)

theorem State.ticked_now (i : TickIn) :
    ((s.ticked i).gh.now : Int) = s.gh.now + 1000 + slewStep (s.gh.ticks + 1) s.gh.slew := by
  have now : (s.ticked i).gh.now = s.timeTick.gh.now := congrArg (·.2.1) (State.ticked_timekeeping i)
  rw [now, State.timeTick_now]

theorem State.ticked_saved (i : TickIn) : (s.ticked i).gh.saved = s.gh.saved :=
  congrArg (·.2.2) (State.ticked_timekeeping i)

theorem exec_ghTick_unpowered (i : TickIn) (off : s.gh.powered = false) : exec (.ghTick i) s = .next s :=
  congrArg _ (if_neg (by simp [off]))

theorem exec_ghTick_powered (i : TickIn) (on : s.gh.powered = true) :
    exec (.ghTick i) s = .next (if s.md.mode = .muster ∧ (s.ticked i).feedValid = false then
      (s.ticked i).bleedResidue.enterVigil true 4 else s.ticked i) := by
  have fed : (s.ticked i).musterFed = if s.md.mode = .muster ∧ (s.ticked i).feedValid = false then
      (s.ticked i).bleedResidue.enterVigil true 4 else s.ticked i := by
    simp only [State.musterFed, State.ticked_md]
  exact congrArg _ ((if_pos on).trans fed)

/-! ### What the gatehouse keeps for others (R224, R438, R449, R531) -/

theorem exec_measurementSample_powered (on : s.gh.powered = true) :
    exec .measurementSample s = .next { s with gh := { s.gh with
      samples := (s.gh.sampleNow :: s.gh.samples).take 100
      energy := s.gh.energy.zipWith (· + ·)
        ((s.gh.feeds.map fun f => f.mv * f.ma.toNat) ++ s.gh.bays.map fun b => b.vout * b.ma)
      feedUnsaved := s.gh.feedUnsaved.zipWith (· + ·) (s.gh.feeds.map fun f => f.mv * f.ma.toNat) } } :=
  congrArg _ (if_pos on)

theorem exec_bankPublish_powered (on : s.gh.powered = true) :
    exec .bankPublish s = .next { s with lg := { s.lg with
      bankPub := [s.gh.meanN 7, s.get Obj.gh_bank_capacitance, s.get Obj.gh_bank_energy_ceiling, s.gh.bankState]
      recompute := true } } :=
  congrArg _ (if_pos on)

theorem exec_shelfTimeSave_powered (on : s.gh.powered = true) :
    exec .shelfTimeSave s = .next { s with gh := { s.gh with saved := s.gh.now } } :=
  congrArg _ (if_pos on)

theorem State.tallySave_eq :
    s.tallySave = {
      ([0, 1].foldl (fun t i => t.count Obj.gh_tally_feed_energy (i + 1) (s.gh.feedUnsaved.getD i 0 / 10000))
        ((s.count Obj.gh_tally_gatehouse_seconds 0 s.gh.seconds).count Obj.gh_tally_rail_seconds 0 s.gh.railSeconds)) with
      gh := { s.gh with seconds := 0, railSeconds := 0, feedUnsaved := s.gh.feedUnsaved.map (· % 10000) } } := by
  simp only [State.tallySave, State.modGh, List.foldl, State.count_gh]

theorem exec_tallySave_powered (on : s.gh.powered = true) : exec .tallySave s = .next s.tallySave := congrArg _ (if_pos on)

/-! ### Shelf time (R449 to R451) -/

/-- PTP's clock before shelf time, ns (R450). -/
def State.ptpOffset (s : State) : Int := (s.pc.clockNs : Int) - (s.gh.now : Int)

/-- The state with the offset that a comparison with PTP has found (R450). -/
def State.offsetFound (s : State) : State := s.put Obj.gh_time_offset 0 (encInt 64 s.ptpOffset)

/-- The state in which shelf time slews toward PTP's clock (R450). -/
def State.slewing (s : State) : State :=
  { s.offsetFound with gh := { s.gh with slew := s.ptpOffset, timeSource := 2 } }

/-- The trim a slew teaches: a free value within the object's range (log entry 45). -/
def State.trimLearned (s : State) : Int := (s.freeVal 32 % 400001 : Nat) - 200000

theorem State.trimLearned_range : -200000 ≤ s.trimLearned ∧ s.trimLearned ≤ 200000 := by
  have below : s.freeVal 32 % 400001 < 400001 := Nat.mod_lt _ (by decide)
  unfold State.trimLearned
  omega

theorem exec_ptpCompare_locked (locked : s.pc.ptpState = 2) (on : s.gh.powered = true) :
    exec .ptpCompare s = .next (
      if 1000000 ≤ s.ptpOffset.natAbs then s.offsetFound.stepTime s.pc.clockNs 2
      else if s.ptpOffset = 0 then s.slewing
      else (s.slewing.put Obj.gh_calendar_trim 0 (encInt 32 s.trimLearned)).drawn) :=
  congrArg _ (if_neg (by simp [locked, on]))

theorem State.ptpOffset_eq_zero_iff : s.ptpOffset = 0 ↔ s.pc.clockNs = s.gh.now := by
  unfold State.ptpOffset
  omega

theorem exec_ptpCompare_far (locked : s.pc.ptpState = 2) (on : s.gh.powered = true) (far : 1000000 ≤ s.ptpOffset.natAbs) :
    exec .ptpCompare s = .next (s.offsetFound.stepTime s.pc.clockNs 2) := by
  rw [exec_ptpCompare_locked locked on, if_pos far]

theorem exec_ptpCompare_near (locked : s.pc.ptpState = 2) (on : s.gh.powered = true) (near : s.ptpOffset.natAbs < 1000000) :
    exec .ptpCompare s = .next (if s.ptpOffset = 0 then s.slewing
      else (s.slewing.put Obj.gh_calendar_trim 0 (encInt 32 s.trimLearned)).drawn) := by
  rw [exec_ptpCompare_locked locked on, if_neg (Nat.not_le.mpr near)]

theorem exec_ghTimeSet_taken {cls v : Nat} (taken : s.takes (.ghTimeSet cls v)) :
    exec (.ghTimeSet cls v) s = .next (
      if s.pc.ptpState = 2 then (s.startRun Obj.gh_time_set_result).endRun Obj.gh_time_set_result (outcomeVal Oc.denied)
      else ((s.startRun Obj.gh_time_set_result).stepTime v 1).endRun Obj.gh_time_set_result (outcomeVal Oc.ok)) :=
  congrArg _ (State.action_taken (State.takesWrite_action (taken _ rfl)))

theorem State.stepTime_results (new source : Nat) : (s.stepTime new source).results = s.results := State.record_results ..

/-! ### The gatehouse's own supply (R18, R434, R449) -/

/-- What the gatehouse still has when its supply is lost: the shelf time it saved and the history of the bank. -/
def GateSt.stored (g : GateSt) : GateSt :=
  { now := g.saved, saved := g.saved, capHistory := g.capHistory, capAt := g.capAt, powered := false }

theorem exec_gatehousePowerLoss_powered (on : s.gh.powered = true) :
    exec .gatehousePowerLoss s = .next s.flushCut.gateLost := congrArg _ (if_pos on)

theorem State.flushCut_gateLost_gh : s.flushCut.gateLost.gh = s.gh.stored := by
  change s.flushCut.gh.stored = _
  rw [State.flushCut_gh]

theorem exec_gatehousePowerOnReset_unpowered (pin : Bool) (off : s.gh.powered = false) :
    exec (.gatehousePowerOnReset pin) s = .next (State.tick Obj.gh_tally_gatehouse_resets 0
      { s with gh := { s.gh with powered := true }, si := { s.si with id := b2n pin } }) := by
  have kept : (if s.gh.powered then s.flushCut.gateLost else s) = s := if_neg (by simp [off])
  change execGatehousePowerOnReset pin s = _
  simp only [execGatehousePowerOnReset, kept]
  rfl

theorem exec_gatehousePowerOnReset_powered (pin : Bool) (on : s.gh.powered = true) :
    exec (.gatehousePowerOnReset pin) s = .next (State.tick Obj.gh_tally_gatehouse_resets 0
      { s.flushCut.gateLost with gh := { s.gh.stored with powered := true }, si := { id := b2n pin } }) := by
  have lost : (if s.gh.powered then s.flushCut.gateLost else s) = s.flushCut.gateLost := if_pos on
  change execGatehousePowerOnReset pin s = _
  simp only [execGatehousePowerOnReset, lost, ← State.flushCut_gateLost_gh]
  rfl

end

/-- Settles O7: each invariant at reset by its own lemma; the queue, the mode and the drives are reset's own fields. -/
theorem resetMeetsInvariants : Obligations.ResetMeetsInvariants := by
  unfold Obligations.ResetMeetsInvariants
  exact ⟨State.reset_interlocked, State.reset_booksFit, State.reset_sessionsFit, State.reset_tagsFit,
    State.reset_objsCanonical, rfl, rfl, rfl, rfl, rfl⟩

/-- Settles O24: Vigil's exit under the policy, then the release and the promotion of a controller that waits, or does not. -/
theorem vigilIsLeftUnderThePolicy : Obligations.VigilIsLeftUnderThePolicy := by
  unfold Obligations.VigilIsLeftUnderThePolicy
  intro s cls
  refine ⟨?exit, fun taken free => ?released, fun taken muster policy pll halted => ?goesOn,
    fun taken single held => ?promoted, fun taken other => ?denied⟩
  case exit =>
    intro mode powered fed offTime latch rails bleed start
    refine ⟨exec_vigilExit_of_startPermitted mode powered fed offTime latch rails bleed start, ?_⟩
    change ((s.vigilLeft.setMode .muster 7).musterGo 1).md = _
    rw [State.musterGo_one_md, State.setMode_md, State.setMode_gh, State.vigilLeft_gh]
    rfl
  case released =>
    have waits : ¬ s.waitsForStart := by
      rintro ⟨muster, policy, pll, halted⟩
      simp [muster, policy, pll, halted] at free
    rw [exec_fwStart_taken taken, State.letGo_of_not_waiting waits]
  case goesOn => rw [exec_fwStart_taken taken, State.letGo_of_waiting ⟨muster, policy, pll, halted⟩]
  case promoted => rw [exec_siPromote_taken taken, if_pos ⟨single, held⟩]
  case denied =>
    rw [exec_siPromote_taken taken, if_neg]
    rintro ⟨single, held⟩
    simp [single, held] at other

/-- The tick of a gatehouse without its supply, and of one with it (R423, R450, R454). -/
theorem ghTick_keepsTime (s : State) (i : TickIn) :
    (s.gh.powered = false → exec (.ghTick i) s = .next s) ∧
    (s.gh.powered = true →
      exec (.ghTick i) s = .next (if s.md.mode = .muster ∧ (s.ticked i).feedValid = false then
        (s.ticked i).bleedResidue.enterVigil true 4 else s.ticked i) ∧
      (s.ticked i).gh.ticks = s.gh.ticks + 1 ∧
      ((s.ticked i).gh.now : Int) = s.gh.now + 1000 + slewStep (s.gh.ticks + 1) s.gh.slew ∧
      (s.ticked i).gh.saved = s.gh.saved ∧ (s.ticked i).md = s.md ∧ (s.ticked i).drives = s.drives) :=
  ⟨exec_ghTick_unpowered i, fun on => ⟨exec_ghTick_powered i on, State.ticked_ticks i, State.ticked_now i, State.ticked_saved i,
    State.ticked_md i, State.ticked_drives i⟩⟩

/-- Settles O29: the tick, what is kept for others, PTP and gh_time_set, the loss and the return of the supply, each by its
lemma. -/
theorem gatehouseTicksPublishesAndKeepsTime : Obligations.GatehouseTicksPublishesAndKeepsTime := by
  unfold Obligations.GatehouseTicksPublishesAndKeepsTime
  refine ⟨ghTick_keepsTime, fun s on => ⟨exec_measurementSample_powered on, exec_bankPublish_powered on,
    exec_shelfTimeSave_powered on, ?tally⟩, fun s cls v pin => ⟨exec_ptpCompare_far,
    fun locked on near => ⟨fun same => ?agrees,
      fun differ => ⟨s.trimLearned, State.trimLearned_range.1, State.trimLearned_range.2, ?slews⟩⟩,
    fun taken free => ?set, fun taken locked => ?denied, fun on => ?lost, exec_gatehousePowerOnReset_unpowered pin,
    exec_gatehousePowerOnReset_powered pin⟩⟩
  case tally => rw [exec_tallySave_powered on, State.tallySave_eq]
  case agrees => exact (exec_ptpCompare_near locked on near).trans (congrArg _ (if_pos (State.ptpOffset_eq_zero_iff.mpr same)))
  case slews => exact (exec_ptpCompare_near locked on near).trans (congrArg _ (if_neg (State.ptpOffset_eq_zero_iff.not.mpr differ)))
  case set =>
    refine ⟨_, (exec_ghTimeSet_taken taken).trans (congrArg _ (if_neg free)), State.endRun_eq_results .., ?_⟩
    exact State.result_endRun_of_startRun _ (State.stepTime_results ..)
  case denied =>
    refine ⟨_, (exec_ghTimeSet_taken taken).trans (congrArg _ (if_pos locked)), State.endRun_eq_results .., ?_⟩
    exact State.result_endRun_of_startRun _ rfl
  case lost =>
    exact ⟨exec_gatehousePowerLoss_powered on, State.flushCut_gateLost_gh, rfl, rfl, rfl, rfl, rfl, rfl, rfl, rfl, rfl, rfl, rfl,
      rfl⟩

end Sys2Proof.Machine
end

section
/-! The timetable's stores, the checker's runs and a switch of images (R57, R59, R60, R565, R566). -/

namespace Sys2Proof.Machine

section
variable {s : State}

/-! ### One store of the four -/

theorem State.store_congr {t : State} (n : Nat) (kept : t.tt.stores = s.tt.stores) : t.store n = s.store n := by
  unfold State.store
  rw [kept]

theorem State.store_modStore_same {n : Nat} (f : Store → Store) (there : n - 1 < s.tt.stores.length) :
    (s.modStore n f).store n = f (s.store n) := by
  simp [State.store, State.modStore, there]

theorem State.store_modStore_ne {n k : Nat} (f : Store → Store) (other : n - 1 ≠ k - 1) :
    (s.modStore n f).store k = s.store k := by
  simp [State.store, State.modStore, other]

/-- What changes one store changes nothing else of the timetable. -/
theorem State.modStore_tt (n : Nat) (f : Store → Store) :
    (s.modStore n f).tt = { s.tt with stores := (s.modStore n f).tt.stores } := rfl

theorem State.modStore_id (n : Nat) : s.modStore n id = s := by
  simp [State.modStore, State.modTt]

/-- The end of a run changes the RESULTs alone. -/
@[simp] theorem State.endRun_tt (res : Nat) (value : List Byte) : (s.endRun res value).tt = s.tt := by
  rw [State.endRun_eq_results]

theorem State.modTt_endRun (res : Nat) (value : List Byte) (f : TtSt → TtSt) :
    (s.endRun res value).modTt f = (s.modTt f).endRun res value := by
  simp only [State.endRun, State.result_congr (t := s.modTt f) (s := s) res rfl]
  split <;> rfl

@[simp] theorem State.endRun_store (res : Nat) (value : List Byte) (n : Nat) : (s.endRun res value).store n = s.store n :=
  State.store_congr n (congrArg TtSt.stores (State.endRun_tt res value))

/-! ### The shadow image and the checker (R57, R565, R566) -/

theorem exec_shadowImageEnd_taken {cls : Nat} {image : List Byte} (taken : s.takes (.shadowImageEnd cls image)) :
    exec (.shadowImageEnd cls image) s = .next (s.modStore 2 fun _ => { image := image, state := .loaded, cause := 0 }) := by
  obtain ⟨may, free⟩ := State.takesWrite_trigger (taken _ rfl)
  refine congrArg _ (State.guarded_taken ⟨may, ?_⟩)
  rw [← free]
  cases s.tt.switch <;> simp [Bool.not_or]

theorem exec_ttCheck_taken {cls : Nat} (taken : s.takes (.ttCheck cls 1)) :
    exec (.ttCheck cls 1) s = .next { s.startRun Obj.tt_check_result with tt := { s.tt with checkBusy := true } } :=
  congrArg _ (State.action_taken (State.takesWrite_action (taken _ rfl)))

/-- A store as the checker leaves it with a cause: under cause 0x14, no image, it stays as it was (R57). -/
def Store.judged (cause : Nat) (x : Store) : Store :=
  if cause = 0x14 then x else { x with state := if cause = 0 then .accepted else .rejected, cause := cause }

theorem Store.judged_image (cause : Nat) (x : Store) : (x.judged cause).image = x.image := by
  unfold Store.judged
  split <;> rfl

theorem Store.judged_of_ne {cause : Nat} (x : Store) (shown : cause ≠ 0x14) :
    x.judged cause = { x with state := if cause = 0 then .accepted else .rejected, cause := cause } := if_neg shown

theorem State.checkStore_eq (n : Nat) : s.checkStore n =
    (checkImage s.checkEnv Config.vendorKey (s.store n).image,
      s.modStore n (Store.judged (checkImage s.checkEnv Config.vendorKey (s.store n).image))) := by
  unfold State.checkStore
  generalize checkImage s.checkEnv Config.vendorKey (s.store n).image = cause
  refine congrArg (Prod.mk cause) ?_
  split
  case isTrue kept =>
    have same : Store.judged cause = id := funext fun x => if_pos kept
    rw [same, State.modStore_id]
  case isFalse shown => exact congrArg (s.modStore n ·) (funext fun x => (Store.judged_of_ne x shown).symm)

/-- The state in which the checker has finished with a cause, the RESULT still to come. -/
def State.checked (s : State) (cause : Nat) : State :=
  (s.modStore 2 (Store.judged cause)).modTt fun t => { t with checkBusy := false }

theorem State.checked_store_two (cause : Nat) (four : s.tt.stores.length = 4) :
    (s.checked cause).store 2 = (s.store 2).judged cause := State.store_modStore_same _ (by omega)

theorem State.checked_store_ne {cause k : Nat} (other : 1 ≠ k - 1) : (s.checked cause).store k = s.store k :=
  State.store_modStore_ne _ other

theorem exec_ttCheckDone_busy (busy : s.tt.checkBusy = true) :
    exec .ttCheckDone s = .next ((s.checked (checkImage s.checkEnv Config.vendorKey (s.store 2).image)).endRun
      Obj.tt_check_result (causeVal (checkImage s.checkEnv Config.vendorKey (s.store 2).image))) := by
  refine congrArg _ ((if_pos busy).trans ?_)
  rw [State.checkStore_eq]
  rfl

/-! ### A switch (R59, R60, R565) -/

theorem exec_ttSwitch_taken {cls n : Nat} (low : 2 ≤ n) (high : n ≤ 4) (accepted : (s.store n).state = .accepted)
    (taken : s.takes (.ttSwitch cls n)) :
    exec (.ttSwitch cls n) s = .next { s.startRun Obj.tt_switch_result with
      tt := { s.tt with switch := some { target := n, phase := .digest, report := true } } } := by
  refine congrArg _ ((State.action_taken (State.takesWrite_action (taken _ rfl))).trans ?_)
  have same : (s.startRun Obj.tt_switch_result).store n = s.store n := State.store_congr n rfl
  simp only [low, high, and_self, if_true, same, accepted]
  rfl

theorem State.digestGood_eq (q : SwitchReq) :
    s.digestGood q = if s.blockedClasses (s.store q.target).image = [] then
        { s with tt := { s.tt with switch := some { q with phase := .scheduled } } }
      else { s with tt := { s.tt with switch := some { q with phase := .classWait 0 }
                                      closedClasses := s.blockedClasses (s.store q.target).image } } := by
  simp only [State.digestGood, List.isEmpty_iff]
  rfl

theorem exec_ttSwitchDigestDone_good {q : SwitchReq} (run : s.tt.switch = some q) (phase : q.phase = .digest)
    (good : imgDigest (s.store q.target).image = imgSha (s.store q.target).image) :
    exec .ttSwitchDigestDone s = .next (s.digestGood q) := by
  change execTtSwitchDigestDone s = _
  simp only [execTtSwitchDigestDone, run]
  rw [if_pos phase, if_pos good]

theorem exec_ttSwitchClassEmpty_emptied {q : SwitchReq} {k : Nat} (run : s.tt.switch = some q) (phase : q.phase = .classWait k)
    (empty : ∀ c ∈ s.tt.closedClasses, s.classBusy c = false) :
    exec .ttSwitchClassEmpty s = .next { s with tt := { s.tt with switch := some { q with phase := .scheduled } } } := by
  change execTtSwitchClassEmpty s = _
  simp only [execTtSwitchClassEmpty, run, phase]
  rw [if_neg (by simpa using empty)]
  rfl

theorem causeVal_timeout : causeVal 0x15 = outcomeWith Oc.timeout [0x15#8] := rfl

theorem exec_ttSwitchClassTimeout_late {q : SwitchReq} {k : Nat} (run : s.tt.switch = some q) (phase : q.phase = .classWait k)
    (late : 64 ≤ k) (busy : ∃ c ∈ s.tt.closedClasses, s.classBusy c = true) :
    exec .ttSwitchClassTimeout s = .next ((s.modTt fun t => { t with switch := none, reopenClasses := true }).endRun
      Obj.tt_switch_result (outcomeWith Oc.timeout [0x15#8])) := by
  change execTtSwitchClassTimeout s = _
  simp only [execTtSwitchClassTimeout, run, phase]
  rw [if_pos ⟨late, List.any_eq_true.mpr busy⟩, State.endSwitch, causeVal_timeout, State.modTt_endRun]
  rfl

theorem exec_ttShadowToF1_taken {cls : Nat} (taken : s.takes (.ttShadowToF1 cls 1)) :
    exec (.ttShadowToF1 cls 1) s = .next (s.modStore 3 fun _ => s.store 2) :=
  congrArg _ (State.trigger_taken (State.takesWrite_trigger (taken _ rfl)))

end

/-- Settles O10: the image written, the checker started, and its end, each by its lemma. -/
theorem checkerJudgesStoreTwo : Obligations.CheckerJudgesStoreTwo := by
  unfold Obligations.CheckerJudgesStoreTwo
  intro s cls image
  refine ⟨fun taken four => ?loaded, exec_ttCheck_taken, fun busy running four => ?done⟩
  case loaded =>
    exact ⟨_, exec_shadowImageEnd_taken taken, rfl, State.modStore_tt .., State.store_modStore_same _ (by omega),
      State.store_modStore_ne _ (by decide), State.store_modStore_ne _ (by decide), State.store_modStore_ne _ (by decide)⟩
  case done =>
    refine ⟨_, exec_ttCheckDone_busy busy, ?_⟩
    dsimp only
    generalize checkImage s.checkEnv Config.vendorKey (s.store 2).image = cause
    simp only [State.endRun_tt, State.endRun_store, State.checked_store_two cause four, Store.judged_image]
    exact ⟨State.endRun_eq_results .., rfl, State.checked_store_ne (by decide), State.checked_store_ne (by decide),
      State.checked_store_ne (by decide), trivial,
      fun shown => by simp only [Store.judged_of_ne _ shown, and_self], State.result_endRun (s.checked cause) _ _ running⟩

/-- Settles O11: the start of a switch, its digest, its classes' emptying, their timeout, and the copy to store 3. -/
theorem switchRunsItsPhases : Obligations.SwitchRunsItsPhases := by
  unfold Obligations.SwitchRunsItsPhases
  intro s cls n q
  refine ⟨exec_ttSwitch_taken, fun run phase good => ?digest, fun k => exec_ttSwitchClassEmpty_emptied,
    fun k run phase late busy running => ?timeout, fun taken four => ?copied⟩
  case digest => rw [exec_ttSwitchDigestDone_good run phase good, State.digestGood_eq]
  case timeout =>
    refine ⟨_, exec_ttSwitchClassTimeout_late run phase late busy, ?_⟩
    rw [State.endRun_tt]
    exact ⟨State.endRun_eq_results .., rfl, State.result_endRun _ _ _ running⟩
  case copied =>
    exact ⟨_, exec_ttShadowToF1_taken taken, rfl, State.modStore_tt .., State.store_modStore_same _ (by omega),
      State.store_modStore_ne _ (by decide), State.store_modStore_ne _ (by decide), State.store_modStore_ne _ (by decide)⟩

end Sys2Proof.Machine
end

section
/-! Firmware through the command engine: download, Commit and the activation's end (R65, R320 to R323, R465, R467). -/

namespace Sys2Proof.Machine

section
variable {s u : State} {src : CmdSrc} {cid : Nat} {a : Assoc}

/-- No kept fragment overlaps the new one (R321). -/
theorem fragments_any_overlap_eq_false {offset n : Nat} {l : List (Nat × List Byte)}
    (apart : ∀ f ∈ l, offset + n ≤ f.1 ∨ f.1 + f.2.length ≤ offset) :
    (l.any fun f => decide (offset < f.1 + f.2.length) && decide (f.1 < offset + n)) = false := by
  simp only [List.any_eq_false, Bool.and_eq_true, decide_eq_true_eq]
  intro f kept
  have := apart f kept
  omega

theorem exec_firmwareImageDownload_kept {offset : Nat} {data : List Byte} (sender : s.adminFrom src true false = some (a, u))
    (may : u.firmwareFrom a = true) (mine : u.ce.download = none ∨ u.ce.download = some a.index) (nonempty : data ≠ [])
    (atWord : offset % 4 = 0) (words : data.length % 4 = 0) (short : data.length ≤ 2097152)
    (inside : offset + data.length ≤ 16777216)
    (apart : ∀ f ∈ u.ce.fragments, offset + data.length ≤ f.1 ∨ f.1 + f.2.length ≤ offset) :
    exec (.firmwareImageDownload src cid offset data) s = .next ({ u with ce := { u.ce with
      download := some a.index, fragments := insertBy (·.1) (offset, data) u.ce.fragments } }.respond src 0 cid .success) := by
  refine congrArg _ ((State.adminCmd_from cid _ sender).trans ?_)
  have whole : ¬(data.isEmpty = true ∨ offset % 4 ≠ 0 ∨ data.length % 4 ≠ 0 ∨ 2097152 < data.length ∨
      16777216 < offset + data.length) := by
    simp only [List.isEmpty_iff, nonempty, false_or]
    omega
  dsimp only
  rw [if_neg, if_neg whole, fragments_any_overlap_eq_false apart]
  · rfl
  · rcases mine with idle | own
    · simp [may, idle]
    · simp [may, own]

/-- A package that passes its check leaves cause 0 in fw_package_cause and no record (R460). -/
theorem State.packageCheck_of_good {p : List Byte} (source : Nat)
    (good : checkPackage (s.get Obj.gh_tally_rollback_fw) s.md.ownerKey p = 0) :
    s.packageCheck p source = (0, s.put Obj.fw_package_cause 0 0) := by
  simp only [State.packageCheck, good, if_true]

theorem exec_firmwareCommit_next {slot : Nat} (sender : s.adminFrom src true false = some (a, u)) (may : u.firmwareFrom a = true)
    (idle : u.ce.download = none) (numbered : slot = 1 ∨ slot = 2)
    (good : checkPackage (u.get Obj.gh_tally_rollback_fw) u.md.ownerKey (u.slot slot).package = 0) :
    exec (.firmwareCommit src cid 2 slot) s = .next
      ({ u.put Obj.fw_package_cause 0 0 with md := { u.md with next := slot } }.respond src 0 cid .success) := by
  refine congrArg _ ((State.adminCmd_from cid _ sender).trans ?_)
  have named : slot ≠ 0 := by omega
  have known : ¬(3 < 2 ∨ 2 < slot) := by omega
  have kept : (decide (2 < 2) || 2 == 3 && false) = false := rfl
  simp only [may, idle, reduceCtorEq, decide_false, if_neg named, if_neg known, Bool.not_true, Bool.false_eq_true, if_false,
    Nat.reduceEqDiff, false_and, kept, State.packageCheck_of_good 1 good]
  rfl

/-- Reopening cells leaves everything but the timetable, so it does not matter when the modes change. -/
theorem State.foldl_reopenUnit_modMd (f : ModeSt → ModeSt) (units : List Nat) (s : State) :
    units.foldl (fun t u => t.reopenUnit u) (s.modMd f) = (units.foldl (fun t u => t.reopenUnit u) s).modMd f := by
  induction units generalizing s with
  | nil => rfl
  | cons unit rest ih => exact ih (s.reopenUnit unit)

theorem State.foldl_reopenUnit_md (units : List Nat) (s : State) : (units.foldl (fun t u => t.reopenUnit u) s).md = s.md := by
  induction units generalizing s with
  | nil => rfl
  | cons unit rest ih => exact ih (s.reopenUnit unit)

theorem exec_firmwareActivationReady_restarted {slot : Nat} (activation : s.md.activation = some (slot, src, cid))
    (pending : s.md.activationReady = false) (drain : s.md.mode = .drain) (restarting : s.md.restarting = true) :
    exec .firmwareActivationReady s = .next { s.liveStewards.foldl (fun t u => t.reopenUnit u) s with md := { s.md with
      active := slot, next := (if s.md.next = slot then 0 else s.md.next), failedBoots := 0, activationReady := true
      ranFrom := some s.gh.now, restarting := false, causes := s.md.causes.filter (· != 1) } } := by
  change execFirmwareActivationReady s = _
  simp only [execFirmwareActivationReady, activation]
  rw [if_neg (by simp [pending, drain, restarting]), State.foldl_reopenUnit_modMd]
  simp only [State.clearCause, State.modMd, State.foldl_reopenUnit_md, activation]

end

/-- Settles O22: the fragment, the Commit and the activation, each by its lemma. -/
theorem firmwareIsDownloadedAndCommitted : Obligations.FirmwareIsDownloadedAndCommitted := by
  unfold Obligations.FirmwareIsDownloadedAndCommitted
  intro s u src src' cid cid' offset slot data a
  exact ⟨exec_firmwareImageDownload_kept, exec_firmwareCommit_next, exec_firmwareActivationReady_restarted⟩

end Sys2Proof.Machine
end

section
/-! A fired slot-cell: which transfer it takes, what its command does with it, and the effects of the cells of the network, the
host interface, the contexts, the endpoint and the dump (R32, R35, R39, R109, R125, R506). -/

namespace Sys2Proof.Machine

/-! ### The earliest of the ready transfers (R39, R125) -/

theorem Transfer.before_iff (x y : Transfer) :
    x.before y = true ↔ x.notBefore < y.notBefore ∨ (x.notBefore = y.notBefore ∧ x.seq < y.seq) := by
  simp [Transfer.before]

theorem Transfer.not_before_self (x : Transfer) : x.before x = false := by
  simp [Transfer.before]

/-- What is not before a transfer that is not before a third is not before the third: readiness and arrival sequence order the
transfers without a gap. -/
theorem Transfer.not_before_trans {x y z : Transfer} (xy : x.before y = false) (yz : y.before z = false) : x.before z = false := by
  simp only [← Bool.not_eq_true, Transfer.before_iff] at *
  omega

theorem Transfer.not_before_of_before {x y : Transfer} (yx : y.before x = true) : x.before y = false := by
  rw [← Bool.not_eq_true]
  rw [Transfer.before_iff] at *
  omega

/-- The earlier of two transfers, the first where they tie. -/
def Transfer.earlier (x y : Transfer) : Transfer := if y.before x then y else x

theorem Transfer.earlier_mem (x y : Transfer) : x.earlier y = x ∨ x.earlier y = y := by
  unfold Transfer.earlier
  split
  · exact .inr rfl
  · exact .inl rfl

theorem Transfer.not_before_earlier (x y : Transfer) : x.before (x.earlier y) = false ∧ y.before (x.earlier y) = false := by
  unfold Transfer.earlier
  split
  case isTrue yx => exact ⟨Transfer.not_before_of_before yx, y.not_before_self⟩
  case isFalse yx => exact ⟨x.not_before_self, Bool.eq_false_of_not_eq_true yx⟩

theorem earliest_cons_cons (x y : Transfer) (l : List Transfer) : earliest (x :: y :: l) = earliest (x.earlier y :: l) := by
  simp only [earliest, List.foldl_cons, Transfer.earlier]
  split <;> rfl

/-- A list with a transfer has an earliest one: one of its own that no other comes before. -/
theorem earliest_cons (x : Transfer) (l : List Transfer) :
    ∃ t, earliest (x :: l) = some t ∧ t ∈ x :: l ∧ ∀ y ∈ x :: l, y.before t = false := by
  induction l generalizing x with
  | nil => exact ⟨x, rfl, List.mem_singleton_self x, fun y here => by rw [List.mem_singleton.mp here, x.not_before_self]⟩
  | cons y rest ih =>
    obtain ⟨t, found, here, first⟩ := ih (x.earlier y)
    obtain ⟨notX, notY⟩ := x.not_before_earlier y
    have head := first _ List.mem_cons_self
    refine ⟨t, (earliest_cons_cons x y rest).trans found, ?_, ?_⟩
    · rcases List.mem_cons.mp here with same | later
      · rcases x.earlier_mem y with old | new
        · simp [same, old]
        · simp [same, new]
      · simp [later]
    · intro z among
      rcases List.mem_cons.mp among with rfl | among
      · exact Transfer.not_before_trans notX head
      rcases List.mem_cons.mp among with rfl | among
      · exact Transfer.not_before_trans notY head
      exact first z (List.mem_cons_of_mem _ among)

theorem earliest_eq_some {l : List Transfer} {t : Transfer} (found : earliest l = some t) :
    t ∈ l ∧ ∀ x ∈ l, x.before t = false := by
  cases l with
  | nil => cases found
  | cons x rest =>
    obtain ⟨t', found', spec⟩ := earliest_cons x rest
    obtain rfl : t' = t := Option.some.inj (found'.symm.trans found)
    exact spec

theorem earliest_eq_none {l : List Transfer} (empty : earliest l = none) : l = [] := by
  cases l with
  | nil => rfl
  | cons x rest =>
    obtain ⟨t, found, -⟩ := earliest_cons x rest
    rw [found] at empty
    cases empty

section
variable {s u : State} {t : Transfer} {bed : Option Nat}

/-- A ready transfer may go in a cell now: it fits, the cell's pool suits it, and the unit takes it (R35, R39). -/
def State.mayGo (s : State) (c : CellWord) (ok : Transfer → Bool) (x : Transfer) : Bool :=
  x.fits c s.slotNow && x.job.poolOk c.pool && ok x

/-- A cell's choice may go, is the earliest of its kind, and is a fill only where nothing else may go (R39, R125). -/
theorem State.choose_eq_some {c : CellWord} {ok : Transfer → Bool} (chosen : s.choose c ok = some t) :
    t ∈ s.ce.ready ∧ s.mayGo c ok t = true ∧
    (∀ x ∈ s.ce.ready, s.mayGo c ok x = true → x.job.isFill = t.job.isFill → x.before t = false) ∧
    (t.job.isFill = true → ∀ x ∈ s.ce.ready, s.mayGo c ok x = true → x.job.isFill = true) := by
  simp only [State.choose] at chosen
  split at chosen
  case h_1 demand found =>
    cases chosen
    obtain ⟨here, first⟩ := earliest_eq_some found
    obtain ⟨going, demand⟩ := List.mem_filter.mp here
    obtain ⟨ready, may⟩ := List.mem_filter.mp going
    rw [Bool.not_eq_true'] at demand
    refine ⟨ready, may, fun x there mayX kind => first x ?_, fun fill => by simp [demand] at fill⟩
    exact List.mem_filter.mpr ⟨List.mem_filter.mpr ⟨there, mayX⟩, by simp [kind, demand]⟩
  case h_2 noDemand =>
    obtain ⟨going, first⟩ := earliest_eq_some chosen
    obtain ⟨ready, may⟩ := List.mem_filter.mp going
    refine ⟨ready, may, fun x there mayX _ => first x (List.mem_filter.mpr ⟨there, mayX⟩), fun _ x there mayX => ?_⟩
    simpa using List.filter_eq_nil_iff.mp (earliest_eq_none noDemand) x (List.mem_filter.mpr ⟨there, mayX⟩)

theorem State.choose_eq_none {c : CellWord} {ok : Transfer → Bool} (nothing : s.choose c ok = none) :
    ∀ x ∈ s.ce.ready, s.mayGo c ok x = false := by
  simp only [State.choose] at nothing
  split at nothing
  case h_1 => cases nothing
  case h_2 =>
    intro x ready
    rw [← Bool.not_eq_true]
    exact List.filter_eq_nil_iff.mp (earliest_eq_none nothing) x ready

/-! ### What a cell command does with the transfer it carries (R32, R39) -/

theorem exec_of_cellNamed {c : Instr} {slot lane word : Nat} (named : cellNamed c = some (slot, lane, word)) :
    exec c s = .next (s.cellCommand (cellKind c).1 slot lane word (cellKind c).2.1 (cellKind c).2.2) := by
  unfold cellNamed at named
  split at named <;> cases named <;> rfl

/-- A cell that fires and carries a transfer has its family's effect on it. -/
theorem State.fire_of_carries {w : CellWork} {opc slot lane word : Nat} (fires : s.firesCell opc slot lane = true)
    (carries : s.carries w slot lane word = some (t, bed, u)) :
    s.fire opc slot lane word w = w.run (s.wordAt slot lane) t bed u := by
  simp only [State.firesCell, Bool.and_eq_true, beq_iff_eq] at fires
  obtain ⟨⟨firing, unfired⟩, ofClass⟩ := fires
  simp only [State.carries] at carries
  split at carries
  case isFalse => cases carries
  case isTrue passes =>
  simp only [Bool.and_eq_true, beq_iff_eq, bne_iff_ne, ne_eq, Bool.not_eq_true'] at passes
  obtain ⟨⟨⟨good, read⟩, real⟩, isOpen⟩ := passes
  split at carries
  case h_2 => cases carries
  case h_1 chosen =>
  split at carries
  case isTrue => cases carries
  case isFalse drawn =>
  cases carries
  subst ofClass
  unfold State.fire
  change (if _ then _ else _) = _
  rw [if_neg (by simp [firing, unfired, read, State.wordAt])]
  dsimp only
  rw [if_neg (by simp [good]), if_neg real, if_neg (by simpa [State.cellClosed, State.wordAt] using isOpen)]
  split
  case h_1 nothing => exact absurd (nothing.symm.trans chosen) (Option.some_ne_none _).symm
  case h_2 found =>
  cases Option.some.inj (found.symm.trans chosen)
  exact if_neg drawn

theorem exec_of_carried {c : Instr} (carried : s.carried c = some (t, bed, u)) :
    exec c s = .next ((cellWork (cellKind c).1 (cellKind c).2.1 (cellKind c).2.2).run (s.firedWord c) t bed u).settle := by
  unfold State.carried at carried
  split at carried
  case h_1 => cases carried
  case h_2 slot lane word named =>
    dsimp only at carried
    split at carried
    case isFalse => cases carried
    case isTrue fires =>
      obtain ⟨unfired, fires⟩ := Bool.and_eq_true _ _ ▸ fires
      rw [exec_of_cellNamed named, State.cellCommand, if_pos unfired, State.fire_of_carries fires carried]
      simp only [State.firedWord, named]

end

/-- Settles O33: the course of a cell command that carries a transfer, and the cell's choice. -/
theorem cellsRunTheEarliestTransfer : Obligations.CellsRunTheEarliestTransfer := by
  unfold Obligations.CellsRunTheEarliestTransfer
  exact ⟨fun s u c t bed => exec_of_carried, fun s c ok => ⟨fun t => State.choose_eq_some, State.choose_eq_none⟩⟩

end Sys2Proof.Machine
end

section
/-! What the cells of the network, the host interface, the contexts, the endpoint and the dump do with their transfers (R35, R72,
R109, R117, R275, R276, R281, R377, R506, R538). -/

namespace Sys2Proof.Machine

section
variable {s u : State} {bytes : Nat} {t : Transfer} {bed : Option Nat}

/-! ### What has left the package stays among the outputs -/

theorem Moves.mem_out {m : Nat} {o : Out} (moved : Moves m (s.emit o) u) : o ∈ u.out :=
  moved.out.subset List.mem_cons_self

theorem State.mem_out_blockSent {a lba : Nat} {x : Cmd} {b : BlockSt} {n : Conn} (cmd : s.cmd? a = some x)
    (block : x.blk? lba = some b) (conn : s.conn? x.cap.qpn = some n) :
    .rdmaWrite x.cap.qpn (x.cap.address + 4096 * (lba - x.cap.slba)) x.cap.key (s.waypointFor x.cap.qpn 4096)
      (s.bed (b.bed.getD 0)).esp (s.bed (b.bed.getD 0)).data ∈ (s.blockSent a lba bytes).settle.out := by
  have whole := Sub.refl 0xffffff
  simp only [State.blockSent, cmd, block, conn]
  exact (State.settle_moves (State.readDone_moves (State.pathEnds_moves (State.modBlk_moves (State.freeOwned_moves
    (State.txMove_moves (State.sendFrame_moves (.refl 0xffffff _)))))))).mem_out

theorem State.mem_out_pullAsked {a lba : Nat} {x : Cmd} (cmd : s.cmd? a = some x) :
    .rdmaRead x.cap.qpn (x.cap.address + 4096 * (lba - x.cap.slba)) x.cap.key 4096 (s.waypointFor x.cap.qpn 4096) ∈
      (s.pullAsked a lba).settle.out := by
  have whole := Sub.refl 0xffffff
  simp only [State.pullAsked, cmd]
  have asked {f : BlockSt → BlockSt} {o : Out} :
      Moves 0xffffff (s.emit o) (((s.emit o).modBlk a lba f).txPacket x.cap.qpn 4096) :=
    State.txPacket_moves (State.modBlk_moves (.refl _ _))
  refine Moves.mem_out (s := s) (m := 0xffffff) (State.settle_moves ?_)
  split
  · exact State.sendControl_moves asked
  · exact asked

theorem State.mem_out_endpointSent {a lba : Nat} {x : Cmd} {b : BlockSt} (cmd : s.cmd? a = some x) (block : x.blk? lba = some b) :
    .epWrite (x.cap.spans lba) (s.bed (b.bed.getD 0)).data ∈ (s.endpointSent a lba).settle.out := by
  have whole := Sub.refl 0xffffff
  simp only [State.endpointSent, cmd, block]
  exact (State.settle_moves (State.readDone_moves (State.modBlk_moves (State.freeOwned_moves (.refl 0xffffff _))))).mem_out

/-! ### The families' effects -/

/-- The course of a cell whose family looks at no field of the cell. -/
theorem exec_of_effect {c : Instr} {v : State} (carried : s.carried c = some (t, bed, u))
    (effect : ∀ cell, (cellWork (cellKind c).1 (cellKind c).2.1 (cellKind c).2.2).run cell t bed u = v) :
    exec c s = .next v.settle := effect (s.firedWord c) ▸ exec_of_carried carried

section
variable (cell : CellWord)

theorem runNetIn_payloadIn {a lba h f : Nat} {d : Block} {bad : Bool} {e : Nat × Nat} (job : t.job = .payloadIn a lba d bad f e) :
    runNetIn cell t (some h) u = u.pulledIn a lba h f t.notBefore d bad e := by
  simp only [runNetIn, job]

theorem runNetIn_roomIn {ix i h f : Nat} {d : Block} {bad : Bool} {e : Nat × Nat} (job : t.job = .roomIn ix i d bad f e) :
    runNetIn cell t (some h) u =
      (((u.fillBed h d bad true).modBed h fun b => { b with frame := f, esp := e }).placeRoom ix i h).releaseFrame f := by
  simp only [runNetIn, job]

theorem runNetIn_waitIn {q h : Nat} {k : Waiting} (job : t.job = .waitIn q)
    (waits : u.tr.waiting.find? (fun w => w.tag == q) = some k) :
    runNetIn cell t (some h) u = (u.waitFilled q h).releaseFrame k.packet.frame := by
  simp only [runNetIn, job, waits]

theorem runNetIn_frameIn {f : Nat} (job : t.job = .frameIn f) : runNetIn cell t bed u = (u.returnBed bed).releaseFrame f := by
  simp only [runNetIn, job]

theorem runNetOut_blockOut {a lba : Nat} (job : t.job = .blockOut a lba) :
    runNetOut bytes cell t bed u = (u.returnBed bed).blockSent a lba bytes := by
  simp only [runNetOut, job]

theorem runNetOut_pullOut {p i : Nat} (job : t.job = .pullOut p i) :
    runNetOut bytes cell t bed u = (u.returnBed bed).pullSent p i bytes := by
  simp only [runNetOut, job]

theorem runControl_pullRequest {a lba : Nat} (job : t.job = .pullRequest a lba) :
    runControl cell t bed u = (u.returnBed bed).pullAsked a lba := by
  simp only [runControl, job]

theorem runControl_response {a : Nat} (job : t.job = .response a) :
    runControl cell t bed u = (u.returnBed bed).responseSent a := by
  simp only [runControl, job]

theorem runControl_reply {r : Reply} (job : t.job = .reply r) : runControl cell t bed u = (u.returnBed bed).replySent r := by
  simp only [runControl, job]

theorem runContext_contextFetch {q : Nat} (job : t.job = .contextFetch q) :
    runContext cell t bed u = (u.returnBed bed).fetchMoved q := by
  simp only [runContext, job]

theorem runContext_contextSpill {q : Nat} (job : t.job = .contextSpill q) :
    runContext cell t bed u = (u.returnBed bed).spillMoved q := by
  simp only [runContext, job]

theorem runEndpoint_endpointIn {a lba h : Nat} {d : Block} (job : t.job = .endpointIn a lba d) :
    runEndpoint cell t (some h) u = u.endpointArrived a lba h d := by
  simp only [runEndpoint, job]

theorem runEndpoint_endpointOut {a lba : Nat} (job : t.job = .endpointOut a lba) :
    runEndpoint cell t bed u = (u.returnBed bed).endpointSent a lba := by
  simp only [runEndpoint, job]

theorem runDump_dump {i : Nat} (job : t.job = .dump i) : runDump cell t bed u = (u.returnBed bed).dumpMoved := by
  simp only [runDump, job]

end

end

/-- Settles O34: each family's effect by the course of a cell that carries a transfer, and what left by the outputs that only
grow. -/
theorem hostCellsMoveTheirTransfer : Obligations.HostCellsMoveTheirTransfer := by
  unfold Obligations.HostCellsMoveTheirTransfer
  intro s u slot lane word bytes a lba f h q i ix p t bed d bad e r x b n k
  refine ⟨?netIn, ?frameIn, ?netOut, ?control, ?context, ?endpointIn, ?endpointOut, ?dump⟩
  case netIn =>
    exact fun carried => ⟨fun job => exec_of_effect carried fun cell => runNetIn_payloadIn cell job,
      fun job => exec_of_effect carried fun cell => runNetIn_roomIn cell job,
      fun job waits => exec_of_effect carried fun cell => runNetIn_waitIn cell job waits⟩
  case frameIn => exact fun carried job => exec_of_effect carried fun cell => runNetIn_frameIn cell job
  case netOut =>
    exact fun carried =>
      ⟨fun job => ⟨exec_of_effect carried fun cell => runNetOut_blockOut cell job, State.mem_out_blockSent⟩,
        fun job => exec_of_effect carried fun cell => runNetOut_pullOut cell job⟩
  case control =>
    exact fun carried =>
      ⟨fun job => ⟨exec_of_effect carried fun cell => runControl_pullRequest cell job, State.mem_out_pullAsked⟩,
        fun job => exec_of_effect carried fun cell => runControl_response cell job,
        fun job => exec_of_effect carried fun cell => runControl_reply cell job⟩
  case context =>
    exact fun carried => ⟨fun job => exec_of_effect carried fun cell => runContext_contextFetch cell job,
      fun job => exec_of_effect carried fun cell => runContext_contextSpill cell job⟩
  case endpointIn => exact fun carried job => exec_of_effect carried fun cell => runEndpoint_endpointIn cell job
  case endpointOut =>
    exact fun carried job =>
      ⟨exec_of_effect carried fun cell => runEndpoint_endpointOut cell job, State.mem_out_endpointSent⟩
  case dump => exact fun carried job => exec_of_effect carried fun cell => runDump_dump cell job

end Sys2Proof.Machine
end

section
/-! What the cells of the cipher, the drives, the parity units and the HBM do with their transfers (R76, R81, R85, R106 to R109,
R116, R125, R157, R158). -/

namespace Sys2Proof.Machine

section
variable {s u : State} {t : Transfer} {bed : Option Nat}

/-- The course of a cell whose family looks at the fields of the cell that fires. -/
theorem exec_of_effectFired {c : Instr} {v : State} (carried : s.carried c = some (t, bed, u))
    (effect : (cellWork (cellKind c).1 (cellKind c).2.1 (cellKind c).2.2).run (s.firedWord c) t bed u = v) :
    exec c s = .next v.settle := effect ▸ exec_of_carried carried

/-! ### Families that look at the units of their cell -/

section
variable {cell : CellWord}

theorem runCipher_cipherBlock {a lba : Nat} {good : Bool} (job : t.job = .cipherBlock a lba) :
    runCipher good cell t bed u = (u.returnBed bed).cipherPass a lba (cell.snk - 0x20) good := by
  simp only [runCipher, job]
  rfl

theorem runCipher_pullCipher {p i : Nat} {good : Bool} (job : t.job = .pullCipher p i) :
    runCipher good cell t bed u = (u.returnBed bed).pullPass p i (cell.snk - 0x20) := by
  simp only [runCipher, job]
  rfl

theorem runDriveOut_driveOut {bay queue cid : Nat} (job : t.job = .driveOut bay queue cid) :
    runDriveOut cell t bed u = (u.returnBed bed).sectorOut bay queue cid cell := by
  simp only [runDriveOut, job]

theorem runParityIn_parityIn {id m h : Nat} {trl : BitVec 128} (job : t.job = .parityIn id m h trl) :
    runParityIn cell t bed u = (u.returnBed bed).parityTaken id m h cell.snk trl := by
  simp only [runParityIn, job]

theorem runParityIn_parityTapIn {a lba : Nat} (job : t.job = .parityTapIn a lba) :
    runParityIn cell t bed u = (u.returnBed bed).tapAgain a lba cell.snk := by
  simp only [runParityIn, job]

theorem runParityOut_parityOut {id m h : Nat} (job : t.job = .parityOut id m) :
    runParityOut cell t (some h) u =
      ((u.rowUnit id cell.src).tick Obj.pe_unit_out_blocks (cell.src - 0x30 + 1)).rowResult id m h := by
  simp only [runParityOut, job]

theorem runParityOut_parityFull {a st row h : Nat} {isQ : Bool} (job : t.job = .parityFull a st row isQ) :
    runParityOut cell t (some h) u = (u.tick Obj.pe_unit_out_blocks (cell.src - 0x30 + 1)).fullOut a st row isQ h := by
  simp only [runParityOut, job]

/-- Only the result of a row job can let reconstructions go on (R111). -/
theorem State.reconsOn_parityFull {a st row : Nat} {isQ : Bool} (job : t.job = .parityFull a st row isQ) :
    u.reconsOn t = u := by
  simp only [State.reconsOn, job]

end

/-! ### Families that look at no field of the cell -/

section
variable (cell : CellWord)

theorem runDriveIn_blockRead {a lba h : Nat} {d : Block} {trl : BitVec 128} (job : t.job = .driveIn (.blockRead a lba) d trl) :
    runDriveIn cell t (some h) u = u.memberIn a lba h d trl := by
  simp only [runDriveIn, job]

theorem runDriveIn_fill {ns lba cls no h : Nat} {d : Block} {trl : BitVec 128}
    (job : t.job = .driveIn (.fill ns lba cls no) d trl) :
    runDriveIn cell t (some h) u = u.fillIn ns lba cls no h d trl := by
  simp only [runDriveIn, job]

theorem runDriveIn_row {id m h : Nat} {d : Block} {trl : BitVec 128} (job : t.job = .driveIn (.row id m) d trl) :
    runDriveIn cell t (some h) u = u.rowIn id m h d trl := by
  simp only [runDriveIn, job]

theorem runDriveIn_descRead {w p g : Nat} {d : Block} {trl : BitVec 128} (job : t.job = .driveIn (.descRead w p g) d trl) :
    runDriveIn cell t bed u = (u.returnBed bed).descIn (t.src.getD 8 - 8) w p := by
  simp only [runDriveIn, job]

theorem runCacheRd_slabRead {a lba n h : Nat} (job : t.job = .slabRead a lba n) :
    runCacheRd cell t (some h) u = u.slabIn a lba n h := by
  simp only [runCacheRd, job]

theorem runCacheRd_cacheRead {a lba h : Nat} (job : t.job = .cacheRead a lba) :
    runCacheRd cell t (some h) u = u.cacheIn a lba h := by
  simp only [runCacheRd, job]

theorem runCacheRd_rowCache {id m h : Nat} (job : t.job = .rowCache id m) :
    runCacheRd cell t (some h) u = u.rowCached id m h := by
  simp only [runCacheRd, job]

theorem runCacheRd_pullRead {p i h : Nat} (job : t.job = .pullRead p i) :
    runCacheRd cell t (some h) u = u.pullIn p i h := by
  simp only [runCacheRd, job]

theorem runCacheWr_slabWrite {a lba : Nat} (job : t.job = .slabWrite a lba) :
    runCacheWr cell t bed u = (u.returnBed bed).slabIn' a lba := by
  simp only [runCacheWr, job]

theorem runCacheWr_cacheFill {ns lba h no : Nat} (job : t.job = .cacheFill ns lba h no) :
    runCacheWr cell t bed u = (u.returnBed bed).fillDone no h := by
  simp only [runCacheWr, job]

theorem runCacheWr_roomPin {a lba : Nat} (job : t.job = .roomPin a lba) :
    runCacheWr cell t bed u = (u.returnBed bed).pinIn a lba := by
  simp only [runCacheWr, job]

end

end

/-- Settles O35: each family's effect by the course of a cell that carries a transfer. -/
theorem mediaCellsMoveTheirTransfer : Obligations.MediaCellsMoveTheirTransfer := by
  unfold Obligations.MediaCellsMoveTheirTransfer
  intro s u slot lane word a lba h id m p i ns cls no row st bay qu cid k w t bed d trl good isQ g
  refine ⟨?cipher, ?driveIn, ?descRead, ?driveOut, ?parityIn, ?parityOut, ?cacheRd, ?cacheWr⟩
  case cipher =>
    exact fun carried => ⟨fun job => exec_of_effectFired carried (runCipher_cipherBlock job),
      fun job => exec_of_effectFired carried (runCipher_pullCipher job)⟩
  case driveIn =>
    exact fun carried => ⟨fun job => exec_of_effect carried fun cell => runDriveIn_blockRead cell job,
      fun job => exec_of_effect carried fun cell => runDriveIn_fill cell job,
      fun job => exec_of_effect carried fun cell => runDriveIn_row cell job⟩
  case descRead => exact fun carried job => exec_of_effect carried fun cell => runDriveIn_descRead cell job
  case driveOut => exact fun carried job => exec_of_effectFired carried (runDriveOut_driveOut job)
  case parityIn =>
    exact fun carried => ⟨fun job => exec_of_effectFired carried (runParityIn_parityIn job),
      fun job => exec_of_effectFired carried (runParityIn_parityTapIn job)⟩
  case parityOut =>
    exact fun carried =>
      ⟨fun job => exec_of_effectFired carried (congrArg (State.reconsOn t) (runParityOut_parityOut job)),
        fun job => exec_of_effectFired carried ((State.reconsOn_parityFull job).trans (runParityOut_parityFull job))⟩
  case cacheRd =>
    exact fun carried => ⟨fun job => exec_of_effect carried fun cell => runCacheRd_slabRead cell job,
      fun job => exec_of_effect carried fun cell => runCacheRd_cacheRead cell job,
      fun job => exec_of_effect carried fun cell => runCacheRd_rowCache cell job,
      fun job => exec_of_effect carried fun cell => runCacheRd_pullRead cell job⟩
  case cacheWr =>
    exact fun carried => ⟨fun job => exec_of_effect carried fun cell => runCacheWr_slabWrite cell job,
      fun job => exec_of_effect carried fun cell => runCacheWr_cacheFill cell job,
      fun job => exec_of_effect carried fun cell => runCacheWr_roomPin cell job⟩

end Sys2Proof.Machine
end

section
/-! Maintenance: writes to its objects, applies of the slab, full-stripe issue, journal records, comparators and the shelf
descriptor's commit (R81, R84, R112, R173, R185, R188, R192, R197, R202 to R206, R215, R222, R224, R331, R337, R478). -/

namespace Sys2Proof.Machine

section
variable {s : State}

/-! ### Objects of maintenance (R173, R188, R222, R224, R337) -/

theorem State.takesWrite_guarded {cls ix sub : Nat} {ok : Bool}
    (taken : s.takesWrite { cls := cls, ix := ix, sub := sub, ok := ok } = true) : s.mayWrite cls ix sub = true ∧ ok = true := by
  simpa [State.takesWrite] using taken

theorem exec_peRebuildRateWrite_taken {cls v : Nat} (taken : s.takes (.peRebuildRateWrite cls v)) :
    exec (.peRebuildRateWrite cls v) s = .next
      ((s.modDict fun d => { d with objNext := assign d.objNext (objKey Obj.pe_rebuild_rate 0) v }).record 2 0x7105
        [(4, lookup s.dict.objNext (objKey Obj.pe_rebuild_rate 0) (s.get Obj.pe_rebuild_rate)), (4, v)]) :=
  congrArg _ (State.guarded_taken (State.takesWrite_guarded (taken _ rfl)))

theorem exec_pePatrolEnableWrite_taken {cls v : Nat} (taken : s.takes (.pePatrolEnableWrite cls v)) :
    exec (.pePatrolEnableWrite cls v) s = .next
      (if v = 0 then (s.put Obj.pe_patrol_enable 0 0).patrolStop else s.put Obj.pe_patrol_enable 0 1) := by
  obtain ⟨may, small⟩ := State.takesWrite_guarded (taken _ rfl)
  refine congrArg _ ((State.guarded_taken ⟨may, small⟩).trans ?_)
  obtain rfl | rfl : v = 0 ∨ v = 1 := by have := of_decide_eq_true small; omega
  · rfl
  · rfl

theorem exec_pePatrolLogClear_taken {cls : Nat} (taken : s.takes (.pePatrolLogClear cls 1)) :
    exec (.pePatrolLogClear cls 1) s = .next { s with rb := { s.rb with log := [] } } :=
  congrArg _ (State.trigger_taken (State.takesWrite_trigger (taken _ rfl)))

theorem exec_lgLedgerSizeWrite_taken {cls v : Nat} (taken : s.takes (.lgLedgerSizeWrite cls v)) :
    exec (.lgLedgerSizeWrite cls v) s = .next
      { s.put Obj.lg_ledger_size 0 v with lg := { s.lg with recompute := true } } :=
  congrArg _ (State.guarded_taken (State.takesWrite_guarded (taken _ rfl)))

theorem exec_lgFlushProfileWrite_taken {cls v : Nat} (taken : s.takes (.lgFlushProfileWrite cls v)) :
    exec (.lgFlushProfileWrite cls v) s = .next
      (if s.get Obj.lg_flush_profile = v then s
       else { (s.put Obj.lg_flush_profile 0 v).put Obj.lg_flush_power_measured 0 0 with
         lg := { s.lg with recompute := true } }) :=
  congrArg _ (State.guarded_taken (State.takesWrite_guarded (taken _ rfl)))

theorem exec_nsPartyMaskWrite_taken {cls nsid v : Nat} (taken : s.takes (.nsPartyMaskWrite cls nsid v)) :
    exec (.nsPartyMaskWrite cls nsid v) s = .next
      (if s.get (Obj.ce_ns_party_mask + (nsid - 1)) 1 = v ∨ s.ns? nsid = none then
         s.put (Obj.ce_ns_party_mask + (nsid - 1)) 1 v
       else if s.holdsWing (s.ns nsid).wing = true then
         ((s.put (Obj.ce_ns_party_mask + (nsid - 1)) 1 v).nsChanged nsid).descRequest
       else (s.put (Obj.ce_ns_party_mask + (nsid - 1)) 1 v).nsChanged nsid) := by
  refine congrArg _ ((State.guarded_taken (State.takesWrite_guarded (taken _ rfl))).trans ?_)
  simp only [Option.isNone_iff_eq_none]

/-! ### Applies (R87, R94, R112, R185, R192, R215) -/

section
variable {ns st : Nat} {r : Rec}

/-- The course of an apply by what stands in its way: the stripe, its wing, the sequencer or a replay; a correction that is out
(R94, R185, R215). -/
theorem exec_applyStart_of_last (last : (s.eligibleRecs ns st).getLast? = some r) :
    exec (.applyStart ns st) s = .next (State.settle (
      if s.stripeOpen ns st = false ∨ s.holdsWing r.wing = false ∨ s.firing = false ∨ s.lg.replayWing = some r.wing then s
      else if s.correcting ns st = true then s.patrolDiscard ns st (s.applyHits ns st)
      else State.startGroup
        { wing := r.wing, nsid := ns, stripe := st, sealNo := r.sealNo, seals := (s.eligibleRecs ns st).map (·.sealNo) }
        ((s.eligibleRecs ns st).map (·.toLedgerRec))
        (((s.patrolDiscard ns st (s.applyHits ns st)).reconWaits ns st).modLg fun l => { l with
          recs := l.recs.map fun x => x.begins r.wing ((s.eligibleRecs ns st).map (·.sealNo)) }))) := by
  change Host.Outcome.next (s.applyStart ns st).settle = _
  simp only [State.applyStart, last, Bool.or_eq_true, Bool.not_eq_true', beq_iff_eq, or_assoc]

theorem exec_applyStart_empty (empty : s.eligibleRecs ns st = []) : exec (.applyStart ns st) s = .next s.settle := by
  change Host.Outcome.next (s.applyStart ns st).settle = _
  simp only [State.applyStart, empty, List.getLast?_nil]

end

/-! ### Full-stripe issue (R81, R84) -/

section
variable {t : State} {a st : Nat}

theorem State.accum?_congr (kept : t.pe = s.pe) : t.accum? a st = s.accum? a st := by
  unfold State.accum?
  rw [kept]

theorem State.accum?_filtered : (s.modPe fun q => { q with
    accums := q.accums.filter fun y => !(y.arrival == a && y.stripe == st) }).accum? a st = none := by
  simp only [State.accum?, State.modPe, List.find?_eq_none, List.mem_filter, Bool.not_eq_true', Bool.not_eq_true]
  exact fun y kept => kept.2

@[simp] theorem State.finalRec_pe (r : Rec) : (s.finalRec r).pe = s.pe :=
  (State.finalRec_moves (.refl 0x800 s) (.refl _)).frame .pe rfl

@[simp] theorem State.modCmd_pe (f : Cmd → Cmd) : (s.modCmd a f).pe = s.pe := rfl

theorem State.finalRecs_pe (l : List Rec) : (l.foldl (fun u r => u.finalRec r) s).pe = s.pe :=
  (Moves.foldl (m := 0x800) l (.refl _ s) fun _ _ moved => State.finalRec_moves moved (.refl _)).frame .pe rfl

/-- A full-stripe part whose data, P, Q and intent copy are there leaves its accumulator, whether its members are written or it
fails for want of them (R81, R84). -/
theorem State.fullStripeIssue_accum? {c : Cmd} {p : Part} {m : Accum} (cmd : s.cmd? a = some c)
    (part : c.parts.find? (fun p => p.full && p.stripe == st) = some p) (accum : s.accum? a st = some m)
    (unissued : p.issued = false) (sound : p.fault = false) (freed : m.freed = true) (isOpen : s.stripeOpen c.cap.nsid st = true)
    (free : s.correcting c.cap.nsid st = false) (mode : s.md.mode ≠ .holdup)
    (copied : (p.intent.any fun q => s.lg.recs.any fun r =>
      r.kind == 2 && r.wing == (s.ns c.cap.nsid).wing && r.sealNo == q && r.copyHeld) = true)
    (whole : (c.blocks.filter fun b => inSpan b.lba (p.first, p.blocks)).length = p.blocks)
    (ciphered : ∀ b ∈ c.blocks, inSpan b.lba (p.first, p.blocks) = true →
      b.stage = .ciphered ∧ b.bed.isSome = true ∧ s.frameOpen b.frame = false) :
    (s.fullStripeIssue a st).accum? a st = none := by
  have there : ((c.blocks.filter fun b => inSpan b.lba (p.first, p.blocks)).all fun b =>
      b.stage == .ciphered && b.bed.isSome && !s.frameOpen b.frame) = true := by
    simp only [List.all_eq_true, List.mem_filter]
    rintro b ⟨here, inPart⟩
    obtain ⟨stage, bed, shut⟩ := ciphered b here inPart
    simp [stage, bed, shut]
  simp only [State.fullStripeIssue, cmd, part, accum]
  rw [if_neg (by simp [unissued, sound, copied, whole, there, freed, isOpen, mode]), if_neg (by simp [free])]
  split
  case isTrue => exact (State.accum?_congr (State.finalRecs_pe _)).trans State.accum?_filtered
  case isFalse => exact State.accum?_filtered

end

/-! ### Journal records (R202 to R204) -/

section
variable {w j : Nat} {r : JRec}

theorem exec_journalRecordHeld (found : s.jrec? w j = some r) (new : r.held = false) (written : r.pending = [])
    (placed : r.bays ≠ []) :
    exec (.journalRecordHeld w j) s = .next (
      let u := s.modLg fun l => { l with jrecs := l.jrecs.map (r.holds w j) }
      let v := if r.carry then r.bays.foldl (fun t b => t.putZone { t.zone w b with
          records := (t.zone w b).records.filter fun x => !r.origins.contains x.1 }) u
        else u.count Obj.lg_rehome_items 0 (if r.forBay.isSome then r.items.length else 0)
      (if r.origins.isEmpty then v.itemsHeld r.items else v).rehomeOver.journalTidy.settle) := by
  change Host.Outcome.next (s.recordHeld w j) = _
  simp only [State.recordHeld, found]
  rw [if_neg (by simp [new, written, placed])]

theorem exec_journalRecordHeld_kept
    (kept : (s.jrec? w j).all (fun r => r.held || !r.pending.isEmpty || r.bays.isEmpty) = true) :
    exec (.journalRecordHeld w j) s = .next s := by
  refine congrArg Host.Outcome.next ?_
  unfold State.recordHeld
  split
  case h_1 => rfl
  case h_2 r found => exact if_pos (by simpa only [found, Option.all_some] using kept)

end

/-! ### Comparators and the shelf descriptor (R197, R206, R331) -/

theorem exec_comparatorSuspect_disagrees {i : Nat} (good : s.lg.comparators.getD i 1 = 0) :
    exec (.comparatorSuspect i) s = .next (({ s with lg := { s.lg with
      comparators := s.lg.comparators.set i 2 } } : State).record 6 0x8023 [(1, i), (1, s.pfVote)]) :=
  congrArg _ (if_pos good)

theorem exec_comparatorSuspect_kept {i : Nat} (bad : s.lg.comparators.getD i 1 ≠ 0) :
    exec (.comparatorSuspect i) s = .next s := congrArg _ (if_neg bad)

/-- The state in which a generation is committed, the next one still to start. -/
def State.descCommitted (s : State) (g : Nat) : State :=
  State.resPass (State.nsCommitted { s with lg := { s.lg with descGen := g, descWriting := none, descBlank := false } })

theorem exec_descriptorCommit_written {g : Nat} (written : s.lg.descWriting = some (g, [])) :
    exec .descriptorCommit s = .next (if (s.descCommitted g).lg.descAgain = true ∧ (s.descCommitted g).lg.descWriting = none then
      (s.descCommitted g).descStart else s.descCommitted g) := by
  change execDescriptorCommit s = _
  simp only [execDescriptorCommit, written, Option.isNone_iff_eq_none]
  rfl

end

/-- Settles O37: the writes by their objects, the apply and the full-stripe part by their courses, the journal record by what it
carries and copies, the comparator and the descriptor by their own lemmas. -/
theorem maintenanceAppliesAndCommits : Obligations.MaintenanceAppliesAndCommits := by
  unfold Obligations.MaintenanceAppliesAndCommits
  refine ⟨fun s cls v nsid => ⟨exec_peRebuildRateWrite_taken, exec_pePatrolEnableWrite_taken, exec_pePatrolLogClear_taken,
      exec_lgLedgerSizeWrite_taken, exec_lgFlushProfileWrite_taken, exec_nsPartyMaskWrite_taken⟩,
    fun s ns st a r c p m => ⟨fun last => ⟨fun isOpen holds firing live => ?free, fun kept => ?kept⟩,
      exec_applyStart_empty, rfl, State.fullStripeIssue_accum?⟩,
    fun s w j i g r => ⟨fun found new written placed => ?held, exec_journalRecordHeld_kept, exec_comparatorSuspect_disagrees,
      exec_comparatorSuspect_kept, exec_descriptorCommit_written⟩⟩
  case free =>
    have nothing : ¬ (s.stripeOpen ns st = false ∨ s.holdsWing r.wing = false ∨ s.firing = false ∨
        s.lg.replayWing = some r.wing) := by simp [isOpen, holds, firing, live]
    rw [exec_applyStart_of_last last, if_neg nothing]
    exact ⟨fun free => by simp only [free, Bool.false_eq_true, if_false], fun out => by rw [if_pos out]⟩
  case kept => rw [exec_applyStart_of_last last, if_pos kept]
  case held =>
    rw [exec_journalRecordHeld found new written placed]
    refine ⟨fun stays alone => ?_, fun stays copies => ?_, fun carries copies => ?_⟩
    · simp [stays, alone]
    · simp [stays, copies]
    · simp [carries, copies]

end Sys2Proof.Machine
end

section
/-! The course of a packet: its arrival, the wait for its context, its order, and what each kind does once it runs (R68, R72, R117,
R264, R268, R271, R275 to R277, R281, R284, R289, R295 to R302, R573). -/

namespace Sys2Proof.Machine

section
variable {s t u : State} {p : Packet} {c k : Conn} {r : Room}

/-! ### Commands of arriving packets -/

/-- The commands a packet arrives by, with the opcodes each takes (R263, R264). -/
def packetCommands (p : Packet) : List (Instr × List Nat) :=
  [(.capsuleAccept p, [0x04]), (.rdmaReadResponse p, [0x0D, 0x0E, 0x0F, 0x10]), (.rdmaWritePush p, [0x06, 0x07, 0x08, 0x0A]),
    (.roomRdmaRead p, [0x0C]), (.acknowledge p, [0x11]), (.sack p, [0x11]), (.cnp p, [0x81])]

theorem exec_acknowledge (plain : p.isSack = false) : exec (.acknowledge p) s = .next (s.packetIn p [0x11]) := by
  change Host.Outcome.next (if p.isSack then _ else _) = _
  simp only [plain, Bool.false_eq_true, if_false]

theorem exec_sack (bitmap : p.isSack = true) : exec (.sack p) s = .next (s.packetIn p [0x11]) :=
  congrArg Host.Outcome.next (if_pos bitmap)

theorem exec_packetCommand {i : Instr} {ops : List Nat} (named : (i, ops) ∈ packetCommands p)
    (plain : i = .acknowledge p → p.isSack = false) (bitmap : i = .sack p → p.isSack = true) :
    exec i s = .next (s.packetIn p ops) := by
  simp only [packetCommands, List.mem_cons, List.not_mem_nil, Prod.mk.injEq, or_false] at named
  obtain ⟨rfl, rfl⟩ | ⟨rfl, rfl⟩ | ⟨rfl, rfl⟩ | ⟨rfl, rfl⟩ | ⟨rfl, rfl⟩ | ⟨rfl, rfl⟩ | ⟨rfl, rfl⟩ := named
  · rfl
  · rfl
  · rfl
  · rfl
  · exact exec_acknowledge (plain rfl)
  · exact exec_sack (bitmap rfl)
  · rfl

/-! ### Arrival (R264, R268, R271, R276, R573) -/

theorem State.arrive_transportOff (off : s.transportOn = false) : s.arrive p = (.dropped, s.packetGone p) := by
  simp only [State.arrive, off, Bool.not_false, if_true]

theorem State.arrive_unknown (on : s.transportOn = true) (unknown : s.conn? p.qpn = none) :
    s.arrive p = (.dropped, (s.tick Obj.tr_stale_qpn).packetGone p) := by
  simp only [State.arrive, on, unknown, Bool.not_true, Bool.false_eq_true, if_false]

section
variable {ops : List Nat} (known : p.opcode ∈ ops)
include known

theorem State.packetIn_dropped (arrives : s.arrive p = (.dropped, t)) : s.packetIn p ops = t := by
  simp [State.packetIn, known, arrives]

theorem State.packetIn_badIcv (arrives : s.arrive p = (.badIcv c, t)) : s.packetIn p ops =
    if 0x0D ≤ p.opcode ∧ p.opcode ≤ 0x10 ∧ t.pullOpen c p = true then t.poisonBlock p.arrival p.lba else t := by
  simp [State.packetIn, known, arrives]

theorem State.packetIn_waits (arrives : s.arrive p = (.accepted c, t)) (waits : t.mustWait c = true) :
    s.packetIn p ops = t.waitPacket c p := by
  simp [State.packetIn, known, arrives, waits]

theorem State.packetIn_runs (arrives : s.arrive p = (.accepted c, t)) (runs : t.mustWait c = false) :
    s.packetIn p ops = t.runPacket p := by
  simp [State.packetIn, known, arrives, runs]

theorem exec_of_runs {i : Instr} {v : State} (command : exec i s = .next (s.packetIn p ops))
    (arrives : s.arrive p = (.accepted c, t)) (runs : t.mustWait c = false) (course : t.runPacket p = v) : exec i s = .next v := by
  rw [command, State.packetIn_runs known arrives runs, course]

end

/-! ### What a packet runs, by its opcode -/

section
variable (conn : t.conn? p.qpn = some k)
include conn

theorem State.runPacket_capsule (op : p.opcode = 0x04) : t.runPacket p = (t.useCtx k.qpn).runCapsule k p := by
  simp [State.runPacket, conn, op]

theorem State.runPacket_ack (op : p.opcode = 0x11) (plain : p.isSack = false) :
    t.runPacket p = (t.useCtx k.qpn).runAck k p := by
  simp [State.runPacket, conn, op, plain]

theorem State.runPacket_sack (op : p.opcode = 0x11) (bitmap : p.isSack = true) :
    t.runPacket p = (t.useCtx k.qpn).runSack k p := by
  simp [State.runPacket, conn, op, bitmap]

theorem State.runPacket_cnp (op : p.opcode = 0x81) :
    t.runPacket p = (t.useCtx k.qpn).modConn k.qpn fun x => { x with cnp := true } := by
  simp [State.runPacket, conn, op]

theorem State.runPacket_roomRead (op : p.opcode = 0x0C) : t.runPacket p = (t.useCtx k.qpn).runRoomRead k p := by
  simp [State.runPacket, conn, op]

theorem State.runPacket_pulled (low : 0x0D ≤ p.opcode) (high : p.opcode ≤ 0x10) :
    t.runPacket p = (t.useCtx k.qpn).runPulled k p := by
  have kind : p.opcode ≠ 0x04 ∧ p.opcode ≠ 0x11 ∧ p.opcode ≠ 0x81 ∧ p.opcode ≠ 0x0C := by omega
  simp [State.runPacket, conn, kind, low, high]

theorem State.runPacket_push (low : 0x06 ≤ p.opcode) (high : p.opcode < 0x0C) :
    t.runPacket p = (t.useCtx k.qpn).runPush k p := by
  have kind : p.opcode ≠ 0x04 ∧ p.opcode ≠ 0x11 ∧ p.opcode ≠ 0x81 ∧ p.opcode ≠ 0x0C ∧ ¬ 0x0D ≤ p.opcode := by omega
  simp [State.runPacket, conn, kind]

end

theorem State.runCapsule_long (long : 64 < p.bytes) : u.runCapsule k p = (u.packetGone p).nakEnd k 1 := if_pos long

theorem State.runCapsule_fits (fits : p.bytes ≤ 64) : u.runCapsule k p = u.inOrder k p fun t =>
    (t.packetGone p).noteTaken k p 0 0 (some { p.cap with
      qpn := k.qpn, src := match k.assoc with | some i => .assoc i | none => p.cap.src }) :=
  if_neg (Nat.not_lt.mpr fits)

/-- Capsules that fit, WRITEs and READ requests run in their order (R294, R295, R299). -/
theorem State.runPacket_ordered (conn : t.conn? p.qpn = some k)
    (ordered : p.opcode = 0x04 ∧ p.bytes ≤ 64 ∨ 0x06 ≤ p.opcode ∧ p.opcode ≤ 0x0C) :
    ∃ take, t.runPacket p = (t.useCtx k.qpn).inOrder k p take := by
  rcases ordered with ⟨op, fits⟩ | ⟨low, high⟩
  · exact ⟨_, (State.runPacket_capsule conn op).trans (State.runCapsule_fits fits)⟩
  · obtain below | op := Nat.lt_or_eq_of_le high
    · exact ⟨_, State.runPacket_push conn low below⟩
    · exact ⟨_, State.runPacket_roomRead conn op⟩

/-! ### Order (R295, R297, R299) -/

section
variable {take : State → State}

theorem State.inOrder_next (order : u.orderOf k p = .next) : u.inOrder k p take = take u := by
  simp only [State.inOrder, order]

theorem State.inOrder_dup (order : u.orderOf k p = .dup) : u.inOrder k p take = u.noteDup k p := by
  simp only [State.inOrder, order]

theorem State.inOrder_gap (order : u.orderOf k p = .gap) : u.inOrder k p take = u.noteGap k p := by
  simp only [State.inOrder, order]

theorem State.inOrder_bad (order : u.orderOf k p = .bad) : u.inOrder k p take = (u.packetGone p).nakEnd k 1 := by
  simp only [State.inOrder, order]

theorem State.inOrder_over (order : u.orderOf k p = .over) : u.inOrder k p take = u.noteOver p := by
  simp only [State.inOrder, order]

end

/-! ### READ responses (R72, R271, R326) -/

/-- A READ response that runs: in spread mode it is noted first. -/
theorem State.runPulled_next (order : k.spread = true → u.orderOf k p = .next) : u.runPulled k p = u.takePulled k p := by
  unfold State.runPulled
  split
  case isTrue spread => exact State.inOrder_next (order spread)
  case isFalse => rfl

theorem State.takePulled_open {b : BlockSt}
    (block : ((if k.spread then u.noteTaken k p 0 0 none else u).cmd? p.arrival).bind (·.blk? p.lba) = some b)
    (out : (if k.spread then u.noteTaken k p 0 0 none else u).pullOpen k p = true) :
    u.takePulled k p = ((((if k.spread then u.noteTaken k p 0 0 none else u).pullAnswered k b.psn).modBlk p.arrival p.lba
      fun b => { b with stage := .staged }).push (u.connWrite k) Opc.netIn (some (1 + k.port)) none p.arrival
        (.payloadIn p.arrival p.lba p.data false p.frame (k.espOf p))) := by
  simp only [State.takePulled, block, out, if_true]

theorem State.takePulled_shut (shut : (if k.spread then u.noteTaken k p 0 0 none else u).pullOpen k p = false) :
    u.takePulled k p = (if k.spread then u.noteTaken k p 0 0 none else u).packetGone p := by
  simp only [State.takePulled, shut, Bool.false_eq_true, if_false]
  split <;> rfl

/-! ### WRITEs into push rooms (R281, R284) -/

section
variable (order : u.orderOf k p = .next) (address : p.address % 4096 = 0) (size : p.size % 4096 = 0) (bytes : p.bytes % 4096 = 0)
include order address size bytes

theorem State.runPush_full (full : u.pushFull = true) : u.runPush k p = u.noteOver p := by
  rw [State.runPush, State.inOrder_next order]
  simp [address, size, bytes, full]

theorem State.runPush_first (fits : u.pushFull = false)
    (first : if k.spread then k.msgs.find? (fun m => m.number == p.msg) = none else p.opcode = 0x06 ∨ p.opcode = 0x0A) :
    u.runPush k p = (u.mayStart k p 1).elim (u.refuseMsg k p) fun r =>
      u.pushTaken k p r (p.address + (if k.spread then p.msgOffset else 0)) r.gen true
        (if k.spread then decide (p.size ≤ 4096) else p.opcode == 0x0A) := by
  have starts : (if k.spread then ((if k.spread then k.msgs.find? fun m => m.number == p.msg else none : Option Msg)).isNone
      else firstOp p.opcode) = true := by
    cases spread : k.spread with
    | true => simpa [spread] using first
    | false =>
      obtain op | op : p.opcode = 0x06 ∨ p.opcode = 0x0A := by simpa [spread] using first
      · simp [firstOp, op]
      · simp [firstOp, op]
  rw [State.runPush, State.inOrder_next order]
  simp only [address, size, bytes, ne_eq, not_true_eq_false, or_self, if_false, fits, Bool.false_eq_true]
  rw [if_pos starts]
  cases u.mayStart k p 1 <;> rfl

theorem State.runPush_next_standard {ix gen off : Nat} {g : Nat × Bool × Bool} (fits : u.pushFull = false)
    (standard : k.spread = false) (op : p.opcode = 0x07 ∨ p.opcode = 0x08) (place : k.roomMsg = some (ix, gen, off))
    (room : u.tr.rooms.find? (fun r => r.index == ix) = some r) (live : r.state = 1 ∨ r.state = 2) (right : r.genOf gen = some g) :
    u.runPush k p = if off + p.bytes ≤ g.1 ∧ g.2.1 = true then u.pushTaken k p r off gen false (p.opcode == 0x08)
      else u.refuseMsg k p := by
  have goesOn : firstOp p.opcode = false := by rcases op with op | op <;> simp [firstOp, op]
  rw [State.runPush, State.inOrder_next order]
  simp [address, size, bytes, fits, standard, goesOn, place, room, live, right]

theorem State.runPush_next_spread {m : Msg} {g : Nat × Bool × Bool} (fits : u.pushFull = false)
    (spread : k.spread = true) (begun : k.msgs.find? (fun m => m.number == p.msg) = some m)
    (room : u.tr.rooms.find? (fun r => r.index == m.room / 2 ^ 14) = some r) (live : r.state = 1 ∨ r.state = 2)
    (right : r.genOf m.gen = some g) :
    u.runPush k p = if p.address + p.msgOffset + p.bytes ≤ g.1 ∧ g.2.1 = true then
      u.pushTaken k p r (p.address + p.msgOffset) m.gen false (decide (ceilDiv p.size 4096 ≤ m.bits.length + 1))
      else u.refuseMsg k p := by
  rw [State.runPush, State.inOrder_next order]
  simp only [address, size, bytes, ne_eq, not_true_eq_false, or_self, if_false, fits, Bool.false_eq_true, spread, if_true, begun,
    Option.isNone_some, Option.map_some, room, live, right]

end

/-! ### READs of read rooms (R117, R283, R284) -/

theorem State.runRoomRead_refused (order : u.orderOf k p = .next) (refused : u.mayStart k p 2 = none) :
    u.runRoomRead k p = u.refuseMsg k p := by
  rw [State.runRoomRead, State.inOrder_next order]
  simp only [refused]

/-- The pinned entries of the blocks a READ of a read room asks for (R117). -/
def State.readBlocks (s : State) (p : Packet) (r : Room) : List (Option PullBlock) :=
  (List.range ((p.address + p.size - 1) / 4096 + 1 - p.address / 4096)).map fun j =>
    s.pinned r.index (4096 * (p.address / 4096 + j))

theorem State.runRoomRead_starts (order : u.orderOf k p = .next) (starts : u.mayStart k p 2 = some r) (asks : p.size ≠ 0)
    (few : k.reads < 16) (pinned : (u.readBlocks p r).any (·.isNone) = false) :
    u.runRoomRead k p = (List.range (u.readBlocks p r).length).foldl
      (fun w j => w.push (u.connRead k) Opc.cacheRd none none 0 (.pullRead u.ce.pullNext j))
      (((((u.noteTaken k p p.key r.gen none).modConn k.qpn fun x => { x with reads := x.reads + 1 }).modCe fun e => { e with
        pulls := e.pulls ++ [{ id := u.ce.pullNext, qpn := k.qpn, room := r.index, cls := u.connRead k
                               blocks := (u.readBlocks p r).filterMap id }]
        pullNext := u.ce.pullNext + 1 }).modRoom r.index fun x => { x with
          openMsgs := x.openMsgs + 1, quiet := false }).packetGone p) := by
  rw [State.runRoomRead, State.inOrder_next order]
  simp only [starts]
  change (if p.size = 0 ∨ (u.readBlocks p r).any (·.isNone) = true then _ else _) = _
  rw [if_neg (by simp only [asks, pinned, Bool.false_eq_true, or_self, not_false_eq_true]), if_neg (Nat.not_le.mpr few)]
  rfl

/-! ### Acknowledgements and SACKs (R289, R296, R299, R300) -/

theorem State.runAck_plain (plain : p.nak = none) : u.runAck k p =
    let v := u.modConn k.qpn fun x =>
      if x.spread then { x with txMsgs := x.txMsgs.filter fun m => m.number != p.number } else Conn.ackedTo p.number x
    match p.work with | some q => v.workAcked q | none => v := by
  cases work : p.work <;> simp only [State.runAck, plain, work]

theorem State.runAck_sequence (sequence : p.nak = some 0) : u.runAck k p = u.retry k p.number := by
  simp only [State.runAck, sequence]

theorem State.runAck_other {x : Nat} (other : x ≠ 0) (nak : p.nak = some x) :
    u.runAck k p = u.endConn k.qpn (if x = 1 then 1 else 2) := by
  obtain ⟨n, rfl⟩ := Nat.exists_eq_succ_of_ne_zero other
  simp only [State.runAck, nak]

section
variable {y : SentMsg} (sent : k.txMsgs.find? (fun z => z.number == p.msg) = some y)
include sent

theorem State.runSack_resends (miss : ((List.range (ceilDiv y.bytes 4096)).filter fun j => !p.got.contains j) ≠ [])
    (late : u.get Obj.tr_spread_rto ≤ u.gh.now - y.last) :
    u.runSack k p = (u.emit (.resend k.qpn p.msg (((List.range (ceilDiv y.bytes 4096)).filter fun j =>
        !p.got.contains j).map (· * 4096)))).modConn k.qpn fun x =>
      { x with txMsgs := modFirst (fun z => z.number == p.msg) (fun z => { z with last := u.gh.now }) x.txMsgs } := by
  simp only [State.runSack, sent]
  exact if_neg (by rw [List.isEmpty_iff]; exact not_or.mpr ⟨miss, Nat.not_lt.mpr late⟩)

theorem State.runSack_kept (kept : ((List.range (ceilDiv y.bytes 4096)).filter fun j => !p.got.contains j) = [] ∨
    u.gh.now - y.last < u.get Obj.tr_spread_rto) : u.runSack k p = u := by
  simp only [State.runSack, sent]
  exact if_pos (by rwa [List.isEmpty_iff])

end

/-! ### A context that is fetched (R275, R276, R573) -/

theorem exec_contextFetchDone {n : Nat} (conn : s.conn? n = some k) (fetching : k.fetching = true)
    (moved : s.tr.fetches.contains n = false) :
    let v := (s.modConn n fun x => { x with fetching := false, cached := true }).tick Obj.tr_context_fetches
    let w := if 1500 < (s.slotNow - k.fetchAt) * 80 then v.tick Obj.tr_fetch_bound_excess else v
    let x := w.modTr fun x => { x with waiting := x.waiting.filter fun z => z.qpn != n }
    exec (.contextFetchDone n) s = .next (if s.transportOn then
        (w.tr.waiting.filter fun z => z.qpn == n).foldl (fun a z => a.runWaiting z) x
      else (w.tr.waiting.filter fun z => z.qpn == n).foldl
        (fun a z => (z.bed.elim a fun h => a.freeOwned h).packetGone z.packet) x) := by
  change execContextFetchDone n s = _
  simp only [execContextFetchDone, conn, fetching, moved, Bool.not_false, Bool.and_self, if_true]

end

/-- Settles O45: the command by its packet's arrival, then a packet that runs by its opcode, its order and what its kind asks. -/
theorem packetsRunTheirCourse : Obligations.PacketsRunTheirCourse := by
  unfold Obligations.PacketsRunTheirCourse
  intro s t u p i ops c k n r m y
  refine ⟨fun named known plain bitmap => ?arrives, fun arrives runs conn used => ?runs, fun conn fetching moved => ?fetched⟩
  case arrives =>
    have command := exec_packetCommand (s := s) named plain bitmap
    refine ⟨fun off => ?off, fun on unknown => ?unknown, fun arrives => ?dropped, fun arrives => ?badIcv,
      fun arrives waits => ?waits, fun arrives runs conn used => ⟨fun op long => ?long, fun ordered => ?ordered⟩⟩
    case off => rw [command, State.packetIn_dropped known (State.arrive_transportOff off)]
    case unknown => rw [command, State.packetIn_dropped known (State.arrive_unknown on unknown)]
    case dropped => rw [command, State.packetIn_dropped known arrives]
    case badIcv => rw [command, State.packetIn_badIcv known arrives]
    case waits => rw [command, State.packetIn_waits known arrives waits]
    case long =>
      subst used
      exact exec_of_runs known command arrives runs ((State.runPacket_capsule conn op).trans (State.runCapsule_long long))
    case ordered =>
      subst used
      obtain ⟨take, course⟩ := State.runPacket_ordered conn ordered
      have ordered {v : State} (place : (t.useCtx k.qpn).inOrder k p take = v) : exec i s = .next v :=
        exec_of_runs known command arrives runs (course.trans place)
      exact ⟨fun order => ordered (State.inOrder_dup order), fun order => ordered (State.inOrder_gap order),
        fun order => ordered (State.inOrder_bad order), fun order => ordered (State.inOrder_over order)⟩
  case runs =>
    subst used
    refine ⟨fun op fits order => ?capsule, fun low high order => ?pulled, fun op order address size bytes => ?push,
      fun op order starts asks few pinned => ?read, fun op order refused => ?readRefused, fun op plain => ?ack,
      fun op bitmap sent => ?sack, fun op => ?cnp⟩
    case capsule =>
      exact exec_of_runs (by simp [op]) rfl arrives runs
        ((State.runPacket_capsule conn op).trans ((State.runCapsule_fits fits).trans (State.inOrder_next order)))
    case pulled =>
      have known : p.opcode ∈ [0x0D, 0x0E, 0x0F, 0x10] := by simp only [List.mem_cons, List.not_mem_nil, or_false]; omega
      have course {v : State} (taken : (t.useCtx k.qpn).takePulled k p = v) : exec (.rdmaReadResponse p) s = .next v :=
        exec_of_runs known rfl arrives runs
          ((State.runPacket_pulled conn low high).trans ((State.runPulled_next order).trans taken))
      exact ⟨fun b block out => course (State.takePulled_open block out), fun shut => course (State.takePulled_shut shut)⟩
    case push =>
      have range : 0x06 ≤ p.opcode ∧ p.opcode < 0x0C := by
        simp only [List.mem_cons, List.not_mem_nil, or_false] at op
        omega
      have course {v : State} (run : (t.useCtx k.qpn).runPush k p = v) : exec (.rdmaWritePush p) s = .next v :=
        exec_of_runs op rfl arrives runs ((State.runPacket_push conn range.1 range.2).trans run)
      refine ⟨fun full => course (State.runPush_full order address size bytes full),
        fun fits => ⟨fun first => ⟨fun starts => course ?first, fun refused => course ?refused⟩,
          fun ix gen off g standard op place room live right =>
            course (State.runPush_next_standard order address size bytes fits standard op place room live right),
          fun g spread begun room live right =>
            course (State.runPush_next_spread order address size bytes fits spread begun room live right)⟩⟩
      case first => simp only [State.runPush_first order address size bytes fits first, starts, Option.elim_some]
      case refused => simp only [State.runPush_first order address size bytes fits first, refused, Option.elim_none]
    case read =>
      exact exec_of_runs (by simp [op]) rfl arrives runs
        ((State.runPacket_roomRead conn op).trans (State.runRoomRead_starts order starts asks few pinned))
    case readRefused =>
      exact exec_of_runs (by simp [op]) rfl arrives runs
        ((State.runPacket_roomRead conn op).trans (State.runRoomRead_refused order refused))
    case ack =>
      have course {v : State} (run : (t.useCtx k.qpn).runAck k p = v) : exec (.acknowledge p) s = .next v :=
        exec_of_runs (by simp [op]) (exec_acknowledge plain) arrives runs ((State.runPacket_ack conn op plain).trans run)
      exact ⟨fun positive => course (State.runAck_plain positive), fun sequence => course (State.runAck_sequence sequence),
        fun x other nak => course (State.runAck_other other nak)⟩
    case sack =>
      have course {v : State} (run : (t.useCtx k.qpn).runSack k p = v) : exec (.sack p) s = .next v :=
        exec_of_runs (by simp [op]) (exec_sack bitmap) arrives runs ((State.runPacket_sack conn op bitmap).trans run)
      exact ⟨fun miss late => course (State.runSack_resends sent miss late), fun kept => course (State.runSack_kept sent kept)⟩
    case cnp => exact exec_of_runs (by simp [op]) rfl arrives runs (State.runPacket_cnp conn op)
  case fetched =>
    exact ⟨fun on => (exec_contextFetchDone conn fetching moved).trans (congrArg _ (if_pos on)),
      fun off => (exec_contextFetchDone conn fetching moved).trans (congrArg _ (if_neg (by simp [off])))⟩

end Sys2Proof.Machine
end

section
/-! Connections: their requests, what a packet taken in order draws, timeouts, bitmaps, rekeying, and chained waits (R68, R263, R265 to
R267, R270, R273, R289, R290, R292, R295, R296, R298, R299). -/

namespace Sys2Proof.Machine

section
variable {s : State}

/-! ### Requests (R263, R265 to R267, R270, R292) -/

section
variable {priv : List Byte} {hostQpn link k depth mtu : Nat}

theorem exec_cmReq_transportOff (off : s.transportOn = false) : exec (.cmReq priv hostQpn link k depth mtu) s = .next s :=
  congrArg Host.Outcome.next (if_pos (by simp [off]))

theorem exec_cmReq_rejected (on : s.transportOn = true) (bad : mtu < 4096 ∨ field priv 0 2 ≠ 0) :
    exec (.cmReq priv hostQpn link k depth mtu) s =
      .next ((s.tick Obj.tr_connect_rejects).emit (.cmReply false 0 0 0 [])) := by
  have refused : mtu < 4096 ∨ field priv 0 2 ≠ 0 ∨ decide ((if field priv 2 2 == 0 then 2048 else 65536) ≤
      (s.tr.conns.filter fun c => qpAdmin c.qpn == (field priv 2 2 == 0)).length) = true := bad.elim .inl fun x => .inr (.inl x)
  change execCmReq priv hostQpn link k depth mtu s = _
  simp only [execCmReq, on, Bool.not_true, Bool.false_eq_true, if_false]
  rw [if_pos refused]

/-- A request on a connection that is large enough, of format 0 and with a free context index: that index (R263, R265). -/
theorem State.cmIndex_free {admin : Bool} {ix : Nat} (large : 4096 ≤ mtu) (format : field priv 0 2 = 0)
    (few : (s.tr.conns.filter fun c => qpAdmin c.qpn == admin).length < 2048) (free : s.freeIndex admin = some ix) :
    (if mtu < 4096 ∨ field priv 0 2 ≠ 0 ∨ decide ((if admin then 2048 else 65536) ≤
      (s.tr.conns.filter fun c => qpAdmin c.qpn == admin).length) = true then none else s.freeIndex admin) = some ix := by
  rw [if_neg, free]
  have bound : 2048 ≤ (if admin then 2048 else 65536) := by cases admin <;> decide
  simp only [decide_eq_true_eq]
  omega

end

/-! ### Messages, acknowledgements and timeouts (R68, R295, R296, R298, R299) -/

section
variable {c : Conn} {p : Packet} {cap : Capsule} {qpn n : Nat} {y : Msg}

/-- In standard mode a packet taken in order is acknowledged at its message's end, and with the sixteenth that waits for it; the
capsule it carries is accepted (R68, R299). -/
theorem State.noteTaken_standard {room gen : Nat} (standard : c.spread = false) : s.noteTaken c p room gen (some cap) =
    (let v := s.modConn c.qpn fun x => { x with psn := (x.psn + 1) % 2 ^ 24, nakSent := false, unacked := x.unacked + 1 }
     State.capsuleIn c cap (if lastOp p.opcode ∨ 16 ≤ c.unacked + 1 then v.sendAck c p.psn else v)) := by
  simp only [State.noteTaken, standard, Bool.not_false, if_true, Option.elim_some]

theorem exec_ackTimeout (conn : s.conn? qpn = some c) (on : s.transportOn = true) (standard : c.spread = false)
    (unacked : c.txOldest ≠ c.txPsn) : exec (.ackTimeout qpn) s = .next (s.retry c c.txOldest) := by
  change execAckTimeout qpn s = _
  simp only [execAckTimeout, conn]
  exact congrArg _ (if_pos ⟨on, standard, unacked⟩)

theorem State.retry_exhausted (spent : s.get Obj.tr_retry_count ≤ (if n = c.txOldest then c.tries else 0)) :
    s.retry c n = s.endConn c.qpn 3 := if_pos spent

theorem State.retry_again (left : (if n = c.txOldest then c.tries else 0) < s.get Obj.tr_retry_count) :
    s.retry c n = (s.emit (.resend c.qpn n [])).modConn c.qpn fun x =>
      { x with tries := (if n = c.txOldest then c.tries else 0) + 1, txOldest := n } := if_neg (Nat.not_le.mpr left)

theorem exec_sackInterval_sent (conn : s.conn? qpn = some c) (oldest : c.oldest = some y) (spread : c.spread = true)
    (on : s.transportOn = true) :
    exec (.sackInterval qpn) s = .next ((s.emit (.sack qpn y.number y.bits)).sendControl c) := by
  change execSackInterval qpn s = _
  simp only [execSackInterval, conn, oldest, spread, on, Bool.and_self, if_true]

theorem exec_sackInterval_whole (conn : s.conn? qpn = some c) (whole : c.oldest = none) :
    exec (.sackInterval qpn) s = .next s := by
  change execSackInterval qpn s = _
  simp only [execSackInterval, conn, whole]

theorem exec_spreadTimeout_received (conn : s.conn? qpn = some c) (on : s.transportOn = true)
    (late : c.msgs.find? (fun z => z.number == n && !z.complete && decide (z.limit ≤ s.gh.now - z.time)) = some y) :
    exec (.spreadTimeout qpn n) s = .next (State.endConn qpn 4 ((s.tick Obj.tr_spread_timeouts).record 4 0x4005
      [(4, qpn), (4, n), (4, y.bits.length)])) := by
  change execSpreadTimeout qpn n s = _
  simp only [execSpreadTimeout, conn, late, on, Option.isSome_some, Bool.true_or, Bool.and_self, if_true]

theorem exec_spreadTimeout_sent (conn : s.conn? qpn = some c) (on : s.transportOn = true)
    (whole : c.msgs.find? (fun z => z.number == n && !z.complete && decide (z.limit ≤ s.gh.now - z.time)) = none)
    (late : ∃ z ∈ c.txMsgs, z.number = n ∧ z.limit ≤ s.gh.now - z.start) :
    exec (.spreadTimeout qpn n) s = .next (State.endConn qpn 4 ((s.tick Obj.tr_spread_timeouts).record 4 0x4005
      [(4, qpn), (4, n), (4, 0)])) := by
  have out : (c.txMsgs.any fun m => m.number == n && decide (m.limit ≤ s.gh.now - m.start)) = true := by
    simpa [List.any_eq_true] using late
  change execSpreadTimeout qpn n s = _
  simp only [execSpreadTimeout, conn, whole, on, out, Bool.or_true, Bool.and_self, if_true]

/-! ### Rekeying (R273) -/

theorem exec_trRekey_known {cls : Nat} (conn : s.conn? qpn = some c) (taken : s.takes (.trRekey cls qpn)) :
    exec (.trRekey cls qpn) s = .next
      (((s.startRun Obj.tr_rekey_result).rekeyOut qpn).endRun Obj.tr_rekey_result (outcomeVal Oc.ok)) := by
  have there : (s.startRun Obj.tr_rekey_result).conn? qpn = some c := conn
  refine congrArg _ ((State.action_taken (State.takesWrite_action (taken _ rfl))).trans ?_)
  simp only [there]

theorem exec_trRekey_unknown {cls : Nat} (unknown : s.conn? qpn = none) (taken : s.takes (.trRekey cls qpn)) :
    exec (.trRekey cls qpn) s = .next
      ((s.startRun Obj.tr_rekey_result).endRun Obj.tr_rekey_result (outcomeVal Oc.denied)) := by
  have gone : (s.startRun Obj.tr_rekey_result).conn? qpn = none := unknown
  refine congrArg _ ((State.action_taken (State.takesWrite_action (taken _ rfl))).trans ?_)
  simp only [gone]

end

/-! ### Chained waits (R290) -/

section
variable {n : Nat} {q : WorkQueue} {rest : List WorkEntry} (runs : s.tr.queues.find? (fun z => z.id == n && !z.stopped) = some q)
include runs

theorem exec_waitEntryTimeout_queue {a b : Nat} (head : q.entries = .waitQueue a b :: rest) :
    exec (.waitEntryTimeout n) s = .next (s.waitEnds n Oc.timeout) := by
  change execWaitEntryTimeout n s = _
  simp only [execWaitEntryTimeout, runs, head]

theorem exec_waitEntryTimeout_drive {a b d : Nat} (head : q.entries = .waitDrive a b d :: rest) :
    exec (.waitEntryTimeout n) s = .next (s.waitEnds n Oc.timeout) := by
  change execWaitEntryTimeout n s = _
  simp only [execWaitEntryTimeout, runs, head]

end

end

/-- Settles O46: a request by its checks and its free index, the rest of a connection's life by what it waits for. -/
theorem connectionsLiveAndEnd : Obligations.ConnectionsLiveAndEnd := by
  unfold Obligations.ConnectionsLiveAndEnd
  intro s priv hostQpn link depth mtu qpn n ix k cls c p cap q rest y
  refine ⟨exec_cmReq_transportOff, exec_cmReq_rejected, fun on large format few free => ?accepted, State.noteTaken_standard,
    fun conn => ⟨rfl, exec_ackTimeout conn, State.retry_exhausted, State.retry_again, exec_sackInterval_sent conn,
      exec_sackInterval_whole conn, exec_spreadTimeout_received conn, exec_spreadTimeout_sent conn, exec_trRekey_known conn⟩,
    exec_trRekey_unknown, fun runs => ⟨fun a b => exec_waitEntryTimeout_queue runs, fun a b d => exec_waitEntryTimeout_drive runs⟩⟩
  case accepted =>
    have index := State.cmIndex_free large format few free
    change execCmReq priv hostQpn link k depth mtu s = _
    simp only [execCmReq, on, Bool.not_true, Bool.false_eq_true, if_false]
    rw [index]

end Sys2Proof.Machine
end

section
/-! The sisters: frames of the link, leg packets and their answers, resynchronisation, hand-back, the sideband and the ownership of
the bays (R89, R90, R237 to R246, R260, R261). -/

namespace Sys2Proof.Machine

section
variable {s : State}

/-! ### A single frame (R237, R238) -/

section
variable {type : Nat} {frame pay : List Byte} {f : List Byte → State → State} {h : SisterHead}

theorem State.frameIn_deaf (deaf : s.linkHears = false) : s.frameIn type frame f = s := if_pos (by simp [deaf])

section
variable (hears : s.linkHears = true)
include hears

theorem State.frameIn_broken (broken : frameOf frame = none) : s.frameIn type frame f = s.tick Obj.si_frames_discarded := by
  simp only [State.frameIn, hears, Bool.not_true, Bool.false_eq_true, if_false, broken]

theorem State.frameIn_low (good : frameOf frame = some (h, pay)) (low : s.lowClaim h = true) :
    s.frameIn type frame f = s.tick Obj.si_frames_discarded := by
  simp only [State.frameIn, hears, Bool.not_true, Bool.false_eq_true, if_false, good, low, if_true]

theorem State.frameIn_taken (good : frameOf frame = some (h, pay)) (stands : s.lowClaim h = false) (ofType : h.type = type) :
    s.frameIn type frame f = f pay (s.frameClaims h) := by
  simp only [State.frameIn, hears, Bool.not_true, Bool.false_eq_true, if_false, good, stands, ofType, if_true]

end

end

/-! ### Answers to a leg packet (R89, R90, R240) -/

section
variable {leg digest : Nat} {p : LegPacket}

theorem State.legAcked_same (sent : s.si.packets.find? (fun q => q.leg == leg && q.frames.isEmpty) = some p)
    (same : p.digest = digest) :
    s.legAcked leg digest = State.settle (State.itemsHeld (p.recs.filter fun r => p.governs.contains r.wing)
      (State.tick Obj.si_packets_acked 0 (s.modSi fun i => { i with
        packets := i.packets.filter fun q => q.leg != leg, snapDigest := digest, answered := true }))) := by
  simp only [State.legAcked, sent, same, if_true]

theorem State.legAcked_other (sent : s.si.packets.find? (fun q => q.leg == leg && q.frames.isEmpty) = some p)
    (other : p.digest ≠ digest) : s.legAcked leg digest = s.copyRefused leg 2 := by
  simp only [State.legAcked, sent, other, if_false]

/-- A packet of the leg is still unanswered. -/
theorem packets_any_leg {l : List LegPacket} : (l.any fun q => q.leg == leg) = true ↔ ∃ q ∈ l, q.leg = leg := by
  simp only [List.any_eq_true, beq_iff_eq]

theorem exec_copyAckTimeout_late (late : ∃ q ∈ s.si.packets, q.leg = leg ∧ q.frames = [] ∧ 8 ≤ q.age) :
    exec (.copyAckTimeout leg) s = .next (s.modSi fun i => { i with answered := true }).copyFailed :=
  congrArg _ (if_pos (by simpa [List.any_eq_true, and_assoc] using late))

theorem exec_copyAckTimeout_unknown (unknown : ∀ q ∈ s.si.packets, q.leg ≠ leg) :
    exec (.copyAckTimeout leg) s = .next s := by
  refine congrArg _ (if_neg fun late => ?_)
  obtain ⟨q, here, same⟩ := List.any_eq_true.mp late
  simp only [Bool.and_eq_true, beq_iff_eq] at same
  exact unknown q here same.1.1

end

/-! ### Resynchronisation and hand-back (R260, R261) -/

theorem State.resynced_same {digest : Nat} (sent : s.si.snapshot = []) (same : digest = s.si.digestTx ∨ digest = s.si.snapDigest) :
    s.resynced digest = s.modSi fun i => { i with linkAgain := true } := by
  have known : (digest == s.si.digestTx || digest == s.si.snapDigest || s.si.packets.any fun p => p.digest == digest) = true := by
    simp only [Bool.or_eq_true, beq_iff_eq]
    exact .inl same
  simp only [State.resynced, sent, List.isEmpty_nil, Bool.not_true, Bool.false_eq_true, if_false]
  exact if_pos known

theorem State.handedBack_taken {w claim sealHi : Nat} (standby : (s.wing w).state = .standby) (free : (s.wing w).takeover = none)
    (sends : s.sendsPackets = true) (wing : w = 1 ∨ w = 2) :
    s.handedBack w claim sealHi = State.requestWing w 3 (State.modSi (fun i => { i with
      shadowSeals := i.shadowSeals.set (w - 1) (Nat.max (i.shadowSeals.getD (w - 1) 0) sealHi) })
      (State.modWingSt w (fun x => { x with handback := 3 }) (s.sawClaim w claim))) :=
  if_pos ⟨standby, by rw [free]; rfl, sends, wing⟩

/-- What a hand-back of a wing asks of its holder (R261). -/
def State.mayHandBack (s : State) (w : Nat) : Prop :=
  s.paired = true ∧ s.holdsWing 1 = true ∧ s.holdsWing 2 = true ∧ s.si.sbMode = 2 ∧ s.si.silent = false ∧
  (s.wing 1).copyPath = .sisterLink ∧ (s.wing 2).copyPath = .sisterLink ∧ w = 2 - s.si.id

section
variable {cls w : Nat} (taken : s.takes (.siHandback cls w))
include taken

theorem exec_siHandback_begins (may : (s.startRun Obj.si_handback_result).mayHandBack w) :
    exec (.siHandback cls w) s = .next ((s.startRun Obj.si_handback_result).modWingSt w fun y => { y with handback := 1 }) := by
  refine congrArg _ ((State.action_taken (State.takesWrite_action (taken _ rfl))).trans ?_)
  exact if_pos (by rw [Bool.not_eq_true']; exact may)

theorem exec_siHandback_denied (may : ¬ (s.startRun Obj.si_handback_result).mayHandBack w) :
    exec (.siHandback cls w) s =
      .next ((s.startRun Obj.si_handback_result).endRun Obj.si_handback_result (outcomeVal Oc.denied)) := by
  refine congrArg _ ((State.action_taken (State.takesWrite_action (taken _ rfl))).trans ?_)
  exact if_neg (by rw [Bool.not_eq_true']; exact may)

end

theorem exec_handbackTimeout {w : Nat} (sent : (s.wing w).handback = 2) (holds : s.holdsWing w = true)
    (stands : (s.wing w).seen ≤ (s.wing w).claim) :
    exec (.handbackTimeout w) s = .next (((s.modWingSt w fun y => { y with handback := 0 }).setAna w .optimized).endRun
      Obj.si_handback_result (outcomeVal Oc.timeout)) := congrArg _ (if_pos ⟨sent, holds, stands⟩)

/-! ### Leg packets received (R237, R238, R240, R260) -/

section
variable {frames : List (List Byte)} {h : SisterHead} {hp : List Byte}

/-- The frames that arrived whole and under claims that stand. -/
def State.keptFrames (s : State) (frames : List (List Byte)) : List (SisterHead × List Byte) :=
  (frames.filterMap frameOf).filter fun x => !s.lowClaim x.1

/-- The HEAD among the frames kept. -/
def State.headFrame (s : State) (frames : List (List Byte)) : Option (SisterHead × List Byte) :=
  (s.keptFrames frames).find? fun x => x.1.type == 1 && x.1.index == 0

/-- The frames of the HEAD's own packet. -/
def State.framesOf (s : State) (frames : List (List Byte)) (h : SisterHead) : List (SisterHead × List Byte) :=
  (s.keptFrames frames).filter fun x => x.1.leg == h.leg && x.1.flags == h.flags

/-- The state once the HEAD is read and the frames left out are counted. -/
def State.headTaken (s : State) (frames : List (List Byte)) (h : SisterHead) (hp : List Byte) : State :=
  State.headHeard h hp (s.count Obj.si_frames_discarded 0 (frames.length - (s.keptFrames frames).length))

theorem exec_legPacketRx_of_linkHears (hears : s.linkHears = true) :
    exec (.legPacketRx frames) s = .next (s.rxPacket frames) := congrArg _ (if_pos hears)

theorem State.rxPacket_headless (headless : s.headFrame frames = none) :
    s.rxPacket frames = s.count Obj.si_frames_discarded 0 frames.length := by
  unfold State.headFrame State.keptFrames at headless
  simp only [State.rxPacket, headless]

section
variable (head : s.headFrame frames = some (h, hp))
include head

/-- A leg packet with frames missing (R240). -/
theorem State.rxPacket_missing (packet : bit h.flags 0 = false) (missing : wholePacket hp (s.framesOf frames h) = none) :
    s.rxPacket frames = if (s.headTaken frames h hp).si.resync = 1 ∨ (s.headTaken frames h hp).si.resync = 2 then
      (s.headTaken frames h hp).nakLeg h.leg 1 else (s.headTaken frames h hp).refuseLeg h.leg 1 := by
  unfold State.headFrame State.keptFrames at head
  unfold State.framesOf State.keptFrames at missing
  simp only [State.rxPacket, head, missing, packet, Bool.false_eq_true, if_false]
  rfl

/-- A whole packet, or a whole snapshot: only one that was asked for is taken (R240, R260). -/
theorem State.rxPacket_whole {recs : List LedgerRec} {assoc : List (Nat × Bool × Nat)}
    (whole : wholePacket hp (s.framesOf frames h) = some (recs, assoc)) :
    let u := s.headTaken frames h hp
    let q : LegPacket := { leg := h.leg, recs := recs, digest := field hp 64 64, framesLeft := (s.framesOf frames h).length
                           assoc := assoc, snapshot := bit h.flags 0, head := hp.take 64 }
    s.rxPacket frames = if bit h.flags 0 = true then
        if u.si.resync = 1 ∨ u.si.resync = 2 then (u.modSi fun i => { i with resync := 2 }).packetWaits q else u
      else if u.si.resync = 1 then (u.nakLeg h.leg 3).packetWaits q
      else u.packetWaits q := by
  unfold State.headFrame State.keptFrames at head
  unfold State.framesOf State.keptFrames at whole
  simp only [State.rxPacket, head, whole]
  rfl

end

end

/-! ### The sideband and the owner of the bays (R242 to R246) -/

section
variable {frame : List Byte} {lines : Nat}

theorem exec_sisterSbRx_broken (broken : sidebandGood frame = false) : exec (.sisterSbRx frame lines) s = .next s :=
  congrArg _ (if_pos (.inr (.inr broken)))

section
variable (powered : s.gh.powered = true)
include powered

theorem exec_sisterSbTx :
    exec (.sisterSbTx lines) s = .next (
      let u := (s.modSi fun x => { x with sbSince := x.sbSince + 1 }).ownerCheck lines
      let shown (v : Nat) : Nat := if u.holdsWing v = true then (u.wing v).claim else 0
      u.emit (.sideband (sidebandFrame u.si.id (modeNo u.md.mode)
        (b2n u.si.bayOwner + 2 * b2n (u.holdsWing 1) + 4 * b2n (u.holdsWing 2)) (shown 1) (shown 2)
        (if u.si.bayDriving ∨ u.singleShelf then u.baysOn else lines)))) := congrArg _ (if_pos powered)

theorem exec_sidebandSilent_late (heard : s.si.silent = false) (late : 5 ≤ s.si.sbSince) :
    exec (.sidebandSilent lines) s = .next (State.ownerCheck lines (s.modSi fun x =>
      { x with silent := true, sbOther := [0, 0], sbOwner := false, sbSilentAt := s.gh.now, ownerMs := 0 })) := by
  refine congrArg _ (if_neg ?_)
  rw [powered, heard]
  simpa using late

section
variable (double : s.singleShelf = false) (good : sidebandGood frame = true)
include double good

theorem exec_sisterSbRx_conflict (same : beField frame 0 1 = s.si.id) (new : s.si.idConflict = false) :
    exec (.sisterSbRx frame lines) s = .next (State.record 6 (0xB000 + s.freeVal 12) [(1, s.si.id)]
      (s.modSi fun x => { x with idConflict := true }).drawn) := by
  change execSisterSbRx frame lines s = _
  simp only [execSisterSbRx, powered, double, good, same, new, Bool.true_eq_false, Bool.false_eq_true, or_self, if_false, if_true]

/-- A frame of the other sister in Standby, Service or Drain: its claims count, and no failure of a holder (R242, R249). -/
theorem exec_sisterSbRx_other (other : beField frame 0 1 ≠ s.si.id)
    (alive : beField frame 1 1 = 2 ∨ beField frame 1 1 = 3 ∨ beField frame 1 1 = 4) :
    let u := State.otherClaim 2 (beField frame 12 8) (State.otherClaim 1 (beField frame 4 8) (s.modSi fun x => { x with
      idConflict := false, silent := false, sbSince := 0, sbOther := [beField frame 4 8, beField frame 12 8]
      sbMode := beField frame 1 1, sbOwner := bit (beField frame 2 1) 0
      ownerMs := if bit (beField frame 2 1) 0 && decide (s.bayClaim < Nat.max (beField frame 4 8) (beField frame 12 8)) then
        x.ownerMs + 1 else 0 }))
    exec (.sisterSbRx frame lines) s = .next (u.ownerCheck (if u.si.bayDriving then u.baysOn else lines)) := by
  have up : (beField frame 1 1 == 0 || beField frame 1 1 == 1 || beField frame 1 1 == 5) = false := by
    rcases alive with mode | mode | mode <;> rw [mode] <;> rfl
  change execSisterSbRx frame lines s = _
  simp only [execSisterSbRx, powered, double, good, other, up, Bool.true_eq_false, Bool.false_eq_true, or_self, if_false,
    Bool.false_and]

end

end

theorem exec_sidebandSilent_kept (kept : s.si.silent = true ∨ s.si.sbSince < 5) : exec (.sidebandSilent lines) s = .next s :=
  congrArg _ (if_pos (.inr kept))

theorem exec_bayOwnerRelease_released (owner : s.si.bayOwner = true) (shown : 2 ≤ s.si.ownerMs) (double : s.singleShelf = false) :
    exec .bayOwnerRelease s = .next (s.modSi fun x => { x with
      bayOwner := false, bayDriving := false, bayFrozen := false, ownerMs := 0 }) :=
  congrArg _ (if_pos ⟨owner, shown, double⟩)

theorem exec_bayOwnerRelease_kept (kept : s.si.bayOwner = false ∨ s.si.ownerMs < 2 ∨ s.singleShelf = true) :
    exec .bayOwnerRelease s = .next s := by
  refine congrArg _ (if_neg ?_)
  rintro ⟨owner, shown, double⟩
  rw [owner, double] at kept
  simp only [Bool.true_eq_false, Bool.false_eq_true, or_false, false_or] at kept
  omega

end

end

/-- Settles O54: single frames by what judges them and by their type, leg packets by their HEAD, hand-back by its conditions, the
sideband by what a frame shows. -/
theorem theSistersCopyAndHandBack : Obligations.TheSistersCopyAndHandBack := by
  unfold Obligations.TheSistersCopyAndHandBack
  intro s leg w cls lines frame pay hp frames h p recs assoc
  refine ⟨fun hears broken => ?broken, fun hears good low => ?low, fun hears good stands => ?taken, fun hears => ?packet,
    exec_copyAckTimeout_late, exec_copyAckTimeout_unknown, fun deaf => ?deaf, fun taken => ?handback, exec_handbackTimeout,
    fun powered => ?sideband, exec_bayOwnerRelease_released, exec_bayOwnerRelease_kept⟩
  case broken =>
    exact ⟨congrArg _ (State.frameIn_broken hears broken), congrArg _ (State.frameIn_broken hears broken)⟩
  case low => exact ⟨congrArg _ (State.frameIn_low hears good low), congrArg _ (State.frameIn_low hears good low)⟩
  case taken =>
    have course {type : Nat} {f : List Byte → State → State} {v : State} (ofType : h.type = type)
        (effect : f pay (s.frameClaims h) = v) :
        (.next (s.frameIn type frame f) : Host.Outcome State Fault Refusal) = .next v :=
      congrArg _ ((State.frameIn_taken hears good stands ofType).trans effect)
    refine ⟨fun ack sent => ⟨fun same => course ack (State.legAcked_same sent same),
        fun other => course ack (State.legAcked_other sent other)⟩,
      fun nak sent => course nak (if_pos (packets_any_leg.mpr sent)),
      fun nak unknown => course nak (if_neg fun sent => ?_), fun req sends => course req (if_pos sends),
      fun done sends sent same => course done ((if_pos sends).trans (State.resynced_same sent same)),
      fun handback named standby free sends wing => course handback ?_⟩
    · obtain ⟨q, here, same⟩ := packets_any_leg.mp sent
      exact unknown q here same
    · subst named
      exact State.handedBack_taken standby free sends wing
  case packet =>
    have course {v : State} (run : s.rxPacket frames = v) : exec (.legPacketRx frames) s = .next v :=
      (exec_legPacketRx_of_linkHears hears).trans (congrArg _ run)
    refine ⟨fun headless => course (State.rxPacket_headless headless), fun head =>
      ⟨fun packet missing => ⟨fun behind => course ?_, fun first second => course ?_⟩,
        fun whole => ⟨fun packet insync => course ?_, fun packet behind => course ?_, fun snapshot asked => course ?_⟩⟩⟩
    · exact (State.rxPacket_missing head packet missing).trans (if_pos behind)
    · exact (State.rxPacket_missing head packet missing).trans (if_neg (not_or.mpr ⟨first, second⟩))
    · exact (State.rxPacket_whole head whole).trans ((if_neg (by simp [packet])).trans (if_neg insync))
    · exact (State.rxPacket_whole head whole).trans ((if_neg (by simp [packet])).trans (if_pos behind))
    · exact (State.rxPacket_whole head whole).trans ((if_pos snapshot).trans (if_pos asked))
  case deaf =>
    have course {type : Nat} {f : List Byte → State → State} :
        (.next (s.frameIn type frame f) : Host.Outcome State Fault Refusal) = .next s := congrArg _ (State.frameIn_deaf deaf)
    exact ⟨congrArg _ (if_neg (by simp [deaf])), course, course, course, course, course⟩
  case handback =>
    refine ⟨fun paired one two mode heard path1 path2 other =>
      exec_siHandback_begins taken ⟨paired, one, two, mode, heard, path1, path2, other⟩,
      fun lacks => exec_siHandback_denied taken ?_⟩
    rintro ⟨paired, one, two, mode, heard, path1, path2, other⟩
    simp [paired, one, two, mode, heard, path1, path2, ← other] at lacks
  case sideband =>
    exact ⟨exec_sisterSbTx powered, fun _ broken => exec_sisterSbRx_broken broken, exec_sisterSbRx_conflict powered,
      exec_sisterSbRx_other powered, exec_sidebandSilent_late powered, exec_sidebandSilent_kept⟩

end Sys2Proof.Machine
end

section
/-! The field GF(2^8) on bytes and on blocks: doubling is linear and acts on each byte alone, g generates the field, and its powers
can be divided by (R133). -/

namespace Sys2Proof.Machine

/-! ### The masks of gfDouble -/

/-- A number whose `n` bytes are all `c`. -/
def bytesAll (c : Nat) : Nat → Nat
  | 0 => 0
  | n + 1 => 2 ^ 8 * bytesAll c n + c

theorem bytesAll_eq (c n : Nat) : bytesAll c n = (2 ^ (8 * n) - 1) / 255 * c := by
  have scaled : bytesAll c n * 255 = (2 ^ (8 * n) - 1) * c := by
    induction n with
    | zero => simp [bytesAll]
    | succ n ih =>
      obtain ⟨z, power⟩ : ∃ z, 2 ^ (8 * n) = z + 1 := Nat.exists_eq_succ_of_ne_zero (Nat.two_pow_pos _).ne'
      have next : 2 ^ (8 * (n + 1)) - 1 = 256 * z + 255 := by rw [Nat.mul_succ, Nat.pow_add, power]; omega
      rw [power, Nat.add_sub_cancel] at ih
      rw [next, bytesAll, Nat.add_mul, Nat.mul_assoc, ih]
      ring
  have whole : 255 ∣ 2 ^ (8 * n) - 1 := by
    rw [pow_mul]
    exact Nat.sub_one_dvd_pow_sub_one 256 n
  rw [Nat.div_mul_right_comm whole, ← scaled, Nat.mul_div_cancel _ (by decide)]

theorem testBit_bytesAll {c : Nat} (byte : c < 2 ^ 8) (n i : Nat) :
    (bytesAll c n).testBit i = (decide (i < 8 * n) && c.testBit (i % 8)) := by
  induction n generalizing i with
  | zero => simp [bytesAll]
  | succ n ih =>
    rw [bytesAll, Nat.testBit_two_pow_mul_add _ byte]
    by_cases low : i < 8
    · rw [if_pos low, Nat.mod_eq_of_lt low, decide_eq_true (by omega), Bool.true_and]
    · rw [if_neg low, ih, ← Nat.mod_eq_sub_mod (by omega)]
      exact congrArg (· && _) (decide_eq_decide.mpr (by omega))

theorem getLsbD_ones01 (i : Nat) : ones01.getLsbD i = (decide (i < 32768) && decide (i % 8 = 0)) := by
  have mask : ones01 = BitVec.ofNat 32768 (bytesAll 1 4096) := by
    simp only [ones01, bytesAll_eq, Nat.reduceMul, Nat.mul_one]
  have one (m : Nat) : Nat.testBit 1 m = decide (m = 0) :=
    Bool.eq_iff_iff.mpr (Nat.testBit_one_eq_true_iff_self_eq_zero.trans decide_eq_true_iff.symm)
  rw [mask, BitVec.getLsbD_ofNat, testBit_bytesAll (by decide), one]
  simp

theorem getLsbD_ones7F (i : Nat) : ones7F.getLsbD i = (decide (i < 32768) && decide (i % 8 < 7)) := by
  have mask : ones7F = BitVec.ofNat 32768 (bytesAll 127 4096) := by
    simp only [ones7F, bytesAll_eq, Nat.reduceMul]
  rw [mask, BitVec.getLsbD_ofNat, testBit_bytesAll (by decide), show (127 : Nat) = 2 ^ 7 - 1 from rfl,
    Nat.testBit_two_pow_sub_one]
  simp

/-! ### Bytes of a block -/

/-- Byte `j` of a block (R33). -/
def byteAt (b : Block) (j : Nat) : Byte := b.extractLsb' (8 * j) 8

/-- A byte multiplied by g in the field (R133). -/
def gfTwice (c : Byte) : Byte := (c <<< 1) ^^^ if c.getLsbD 7 then 0x1D#8 else 0#8

theorem byteAt_xor (a b : Block) (j : Nat) : byteAt (a ^^^ b) j = byteAt a j ^^^ byteAt b j :=
  BitVec.extractLsb'_xor

theorem block_eq_of_bytes {a b : Block} (same : ∀ j < 4096, byteAt a j = byteAt b j) : a = b := by
  refine BitVec.eq_of_getLsbD_eq fun i inside => ?_
  have bit := congrArg (fun c : Byte => c.getLsbD (i % 8)) (same (i / 8) (by omega))
  simpa only [byteAt, BitVec.getLsbD_extractLsb', Nat.mod_lt i (by decide : 0 < 8), decide_true, Bool.true_and,
    Nat.div_add_mod] using bit

section
variable (b : Block) {j i : Nat} (inside : j < 4096) (bit : i < 8)
include inside bit

/-- The low seven bits of a byte move up within it. -/
theorem getLsbD_lowBits : ((b &&& ones7F) <<< 1).getLsbD (8 * j + i) = (decide (0 < i) && b.getLsbD (8 * j + (i - 1))) := by
  rw [BitVec.getLsbD_shiftLeft, BitVec.getLsbD_and, getLsbD_ones7F]
  cases i with
  | zero =>
    have edge : j = 0 ∨ ¬ (8 * j - 1) % 8 < 7 := by omega
    rcases edge with rfl | high
    · simp
    · simp [high]
  | succ i => simp [(by omega : 8 * j + (i + 1) < 32768), (by omega : 8 * j + i < 32768), (by omega : i % 8 < 7)]

/-- The bit that leaves a byte, moved up by `k` bits within it. -/
theorem getLsbD_topBits {k : Nat} (shift : k < 8) :
    (((b >>> 7) &&& ones01) <<< k).getLsbD (8 * j + i) = (decide (i = k) && b.getLsbD (8 * j + 7)) := by
  rw [BitVec.getLsbD_shiftLeft, BitVec.getLsbD_and, getLsbD_ones01, BitVec.getLsbD_ushiftRight]
  by_cases same : i = k
  · subst same
    simp [(by omega : 8 * j + i < 32768), (by omega : 8 * j < 32768), Nat.add_comm 7]
  · have other : 8 * j + i < k ∨ ¬ (8 * j + i - k) % 8 = 0 := by omega
    rcases other with low | off
    · simp [same, low]
    · simp [same, off]

theorem getLsbD_gfDouble : (gfDouble b).getLsbD (8 * j + i) =
    ((decide (0 < i) && b.getLsbD (8 * j + (i - 1))) ^^ ((0x1D#8).getLsbD i && b.getLsbD (8 * j + 7))) := by
  have unmoved := getLsbD_topBits b inside bit (k := 0) (by decide)
  rw [BitVec.shiftLeft_zero] at unmoved
  simp only [gfDouble, BitVec.getLsbD_xor, getLsbD_lowBits b inside bit, unmoved,
    getLsbD_topBits b inside bit (k := 2) (by decide), getLsbD_topBits b inside bit (k := 3) (by decide),
    getLsbD_topBits b inside bit (k := 4) (by decide)]
  interval_cases i <;> simp

end

theorem getLsbD_gfTwice (c : Byte) {i : Nat} (bit : i < 8) : (gfTwice c).getLsbD i =
    ((decide (0 < i) && c.getLsbD (i - 1)) ^^ ((0x1D#8).getLsbD i && c.getLsbD 7)) := by
  rw [gfTwice, BitVec.getLsbD_xor, BitVec.getLsbD_shiftLeft, apply_ite (BitVec.getLsbD · i)]
  cases c.getLsbD 7 <;> simp [bit, Nat.pos_iff_ne_zero]

theorem byteAt_gfDouble (b : Block) {j : Nat} (inside : j < 4096) : byteAt (gfDouble b) j = gfTwice (byteAt b j) := by
  refine BitVec.eq_of_getLsbD_eq fun i bit => ?_
  rw [getLsbD_gfTwice _ bit, byteAt, byteAt, BitVec.getLsbD_extractLsb', getLsbD_gfDouble b inside bit]
  simp [(by omega : i - 1 < 8), bit]

theorem gfTwice_xor (a b : Byte) : gfTwice (a ^^^ b) = gfTwice a ^^^ gfTwice b := by
  have carry (p q : Bool) : (if (p ^^ q) = true then 0x1D#8 else 0#8) =
      (if p = true then 0x1D#8 else 0#8) ^^^ if q = true then 0x1D#8 else 0#8 := by revert p q; decide
  simp only [gfTwice, BitVec.shiftLeft_xor_distrib, BitVec.getLsbD_xor, carry]
  ac_rfl

theorem toNat_gfTwice : ∀ c : Byte, (gfTwice c).toNat = gfByte2 c.toNat := by decide

theorem byteAt_gfPow (n : Nat) (b : Block) {j : Nat} (inside : j < 4096) :
    byteAt (gfPow n b) j = gfTwice^[n] (byteAt b j) := by
  induction n with
  | zero => rfl
  | succ n ih => rw [gfPow, byteAt_gfDouble _ inside, ih, Function.iterate_succ_apply']

/-! ### Powers of g -/

theorem gfTwice_iterate_xor (n : Nat) (a b : Byte) : gfTwice^[n] (a ^^^ b) = gfTwice^[n] a ^^^ gfTwice^[n] b :=
  (Function.Semiconj₂.iterate (op := (· ^^^ ·)) gfTwice_xor n).eq a b

theorem gfExp_eq_toNat (n : Nat) : gfExp n = (gfTwice^[n] 1#8).toNat := by
  induction n with
  | zero => rfl
  | succ n ih => rw [gfExp, ih, Function.iterate_succ_apply', toNat_gfTwice]

theorem gfExp_lt (n : Nat) : gfExp n < 256 := gfExp_eq_toNat n ▸ (gfTwice^[n] 1#8).isLt

theorem gfExp_ne_zero (n : Nat) : gfExp n ≠ 0 := by
  have nonzero : ∀ c : Byte, c ≠ 0#8 → gfTwice c ≠ 0#8 := by decide
  have power : gfTwice^[n] 1#8 ≠ 0#8 := Function.Iterate.rec (· ≠ 0#8) (by decide : 1#8 ≠ 0#8) nonzero n
  rw [gfExp_eq_toNat]
  exact fun zero => power (BitVec.eq_of_toNat_eq zero)

theorem gfExp_eq_one_iff {n : Nat} : gfExp n = 1 ↔ gfTwice^[n] 1#8 = 1#8 := by
  rw [gfExp_eq_toNat, ← BitVec.toNat_inj]; rfl

/-- g generates the field: its powers come back to 1 after 255 and not before (R133). -/
theorem minimalPeriod_gfTwice : Function.minimalPeriod gfTwice 1#8 = 255 := by
  have period : Function.minimalPeriod gfTwice 1#8 ∣ 255 :=
    Function.IsPeriodicPt.minimalPeriod_dvd (gfExp_eq_one_iff.mp (by decide +kernel))
  have back : gfExp (Function.minimalPeriod gfTwice 1#8) = 1 := gfExp_eq_one_iff.mpr Function.iterate_minimalPeriod
  have proper : ∀ m ∈ Nat.divisors 255, gfExp m = 1 → m = 255 := by decide +kernel
  exact proper _ (Nat.mem_divisors.mpr ⟨period, by decide⟩) back

theorem gfExp_injOn : Set.InjOn gfExp (Set.Iio 255) := by
  intro i small i' small' same
  rw [gfExp_eq_toNat, gfExp_eq_toNat, BitVec.toNat_inj] at same
  rw [← minimalPeriod_gfTwice] at small small'
  exact Function.iterate_injOn_Iio_minimalPeriod small small' same

/-- Every byte but 0 is a power of g: the 255 powers are all different. -/
theorem exists_gfExp {c : Nat} (nonzero : c ≠ 0) (byte : c < 256) : ∃ n < 255, gfExp n = c := by
  have inField : Set.MapsTo gfExp (Finset.range 255) (Finset.Icc 1 255) := fun n _ =>
    Finset.mem_coe.mpr (Finset.mem_Icc.mpr ⟨Nat.pos_of_ne_zero (gfExp_ne_zero n), Nat.le_of_lt_succ (gfExp_lt n)⟩)
  obtain ⟨n, small, power⟩ := Finset.surjOn_of_injOn_of_card_le gfExp inField
    (gfExp_injOn.mono fun n small => Finset.mem_range.mp small) (by simp)
    (Finset.mem_coe.mpr (Finset.mem_Icc.mpr ⟨Nat.pos_of_ne_zero nonzero, Nat.le_of_lt_succ byte⟩))
  exact ⟨n, Finset.mem_range.mp small, power⟩

theorem gfExp_gfLog {c : Nat} (nonzero : c ≠ 0) (byte : c < 256) : gfExp (gfLog c) = c := by
  obtain ⟨n, small, power⟩ := exists_gfExp nonzero byte
  have found : ((List.range 255).find? fun n => gfExp n == c).isSome :=
    List.find?_isSome.mpr ⟨n, List.mem_range.mpr small, beq_iff_eq.mpr power⟩
  obtain ⟨m, log⟩ := Option.isSome_iff_exists.mp found
  have hit := List.find?_some log
  rw [gfLog, log, Option.getD_some]
  exact beq_iff_eq.mp hit

theorem gfTwice_iterate_zero (n : Nat) : gfTwice^[n] 0#8 = 0#8 := Function.iterate_fixed (by decide) n

theorem gfLog_lt (c : Nat) : gfLog c < 255 := by
  unfold gfLog
  cases log : (List.range 255).find? fun n => gfExp n == c with
  | none => decide
  | some n => exact List.mem_range.mp (List.mem_of_find?_eq_some log)

theorem exists_gfTwice_iterate {c : Byte} (nonzero : c ≠ 0#8) : ∃ n, gfTwice^[n] 1#8 = c := by
  obtain ⟨n, -, power⟩ := exists_gfExp (fun zero => nonzero (BitVec.eq_of_toNat_eq zero)) c.isLt
  exact ⟨n, BitVec.eq_of_toNat_eq ((gfExp_eq_toNat n).symm.trans power)⟩

theorem gfTwice_iterate_255 (c : Byte) : gfTwice^[255] c = c := by
  by_cases zero : c = 0#8
  · rw [zero, gfTwice_iterate_zero]
  · obtain ⟨n, rfl⟩ := exists_gfTwice_iterate zero
    have one : gfTwice^[255] 1#8 = 1#8 := minimalPeriod_gfTwice ▸ Function.iterate_minimalPeriod
    rw [(Function.Commute.iterate_iterate_self gfTwice 255 n).eq, one]

/-- Where g^l is 1 ⊕ g^n, multiplying a byte by g^l is multiplying it by g^n and adding it. -/
theorem gfTwice_iterate_of_gfExp {l n : Nat} (sum : gfExp l = 1 ^^^ gfExp n) (c : Byte) :
    gfTwice^[l] c = c ^^^ gfTwice^[n] c := by
  have one : gfTwice^[l] 1#8 = 1#8 ^^^ gfTwice^[n] 1#8 := by
    rw [gfExp_eq_toNat, gfExp_eq_toNat] at sum
    exact BitVec.eq_of_toNat_eq sum
  by_cases zero : c = 0#8
  · simp only [zero, gfTwice_iterate_zero, BitVec.xor_zero]
  · obtain ⟨m, rfl⟩ := exists_gfTwice_iterate zero
    rw [(Function.Commute.iterate_iterate_self gfTwice l m).eq, one, gfTwice_iterate_xor,
      (Function.Commute.iterate_iterate_self gfTwice n m).eq]

/-! ### Powers of g on blocks -/

theorem gfPow_add (m n : Nat) (b : Block) : gfPow (m + n) b = gfPow m (gfPow n b) := by
  induction m with
  | zero => rw [Nat.zero_add, gfPow]
  | succ m ih => rw [Nat.succ_add, gfPow, gfPow, ih]

theorem gfPow_xor (n : Nat) (a b : Block) : gfPow n (a ^^^ b) = gfPow n a ^^^ gfPow n b :=
  block_eq_of_bytes fun j inside => by
    simp only [byteAt_gfPow, byteAt_xor, gfTwice_iterate_xor, inside]

theorem gfPow_255 (b : Block) : gfPow 255 b = b :=
  block_eq_of_bytes fun j inside => by rw [byteAt_gfPow _ _ inside, gfTwice_iterate_255]

/-- Multiplying by g^(−x) takes the power g^x away (R135). -/
theorem gfPow_neg_cancel {x : Nat} (small : x < 255) (b : Block) : gfPow ((255 - x) % 255) (gfPow x b) = b := by
  cases x with
  | zero => rfl
  | succ x => rw [Nat.mod_eq_of_lt (by omega), ← gfPow_add, Nat.sub_add_cancel (by omega), gfPow_255]

theorem gfPow_of_gfExp {l n : Nat} (sum : gfExp l = 1 ^^^ gfExp n) (b : Block) : gfPow l b = b ^^^ gfPow n b :=
  block_eq_of_bytes fun j inside => by
    simp only [byteAt_xor, byteAt_gfPow, gfTwice_iterate_of_gfExp sum, inside]

/-- Division by 1 ⊕ g^n undoes the multiplication by it (case 7 of R135). -/
theorem gfDivBlock_one_xor {n : Nat} (pos : 0 < n) (small : n < 255) (b : Block) :
    gfDivBlock (b ^^^ gfPow n b) (1 ^^^ gfExp n) = b := by
  have nonzero : 1 ^^^ gfExp n ≠ 0 := fun zero =>
    pos.ne (gfExp_injOn (by decide : 0 < 255) small (Nat.xor_eq_zero_iff.mp zero))
  have sum : gfExp (gfLog (1 ^^^ gfExp n)) = 1 ^^^ gfExp n :=
    gfExp_gfLog nonzero (Nat.xor_lt_two_pow (n := 8) (by decide) (gfExp_lt n))
  rw [gfDivBlock, ← gfPow_of_gfExp sum, gfPow_neg_cancel (gfLog_lt _)]

end Sys2Proof.Machine
end

section
/-! Double parity: the partial syndromes, the three equations of reconstruction, and the row that they give back (R111, R133 to
R136). -/

namespace Sys2Proof.Machine

/-! ### Sums of blocks -/

section
variable (f : Nat × Block → Block)

theorem foldl_xor_start (l : List (Nat × Block)) (z : Block) :
    l.foldl (fun a x => a ^^^ f x) z = z ^^^ l.foldl (fun a x => a ^^^ f x) 0 := by
  induction l generalizing z with
  | nil => exact BitVec.xor_zero.symm
  | cons x l ih =>
    rw [List.foldl_cons, List.foldl_cons, ih, ih (0 ^^^ f x), show 0 ^^^ f x = f x from BitVec.zero_xor, BitVec.xor_assoc]

/-- A sum over all members, less the sum over those present, is the sum over the erased (R135). -/
theorem foldl_xor_partial {data erased present : List (Nat × Block)} (perm : data.Perm (erased ++ present)) :
    data.foldl (fun a x => a ^^^ f x) 0 ^^^ present.foldl (fun a x => a ^^^ f x) 0 =
      erased.foldl (fun a x => a ^^^ f x) 0 := by
  have commutes (a : Block) (x y : Nat × Block) : a ^^^ f x ^^^ f y = a ^^^ f y ^^^ f x := by
    rw [BitVec.xor_assoc, BitVec.xor_assoc, BitVec.xor_comm (f x)]
  rw [perm.foldl_eq' (fun x _ y _ a => commutes a x y), List.foldl_append, foldl_xor_start, BitVec.xor_assoc,
    BitVec.xor_self]
  exact BitVec.xor_zero

end

/-! ### The equations of reconstruction (R135) -/

section
variable {data present : List (Nat × Block)} {x y : Nat} {u v : Block}

/-- P' is the sum of the erased blocks. -/
theorem parityP_partial {erased : List (Nat × Block)} (perm : data.Perm (erased ++ present)) :
    parityP data ^^^ parityP present = parityP erased := foldl_xor_partial _ perm

/-- Q' is the weighted sum of the erased blocks. -/
theorem parityQ_partial {erased : List (Nat × Block)} (perm : data.Perm (erased ++ present)) :
    parityQ data ^^^ parityQ present = parityQ erased := foldl_xor_partial _ perm

theorem solveP_eq (perm : data.Perm ((x, u) :: present)) : solveP present (parityP data) = u :=
  (parityP_partial (erased := [(x, u)]) perm).trans BitVec.zero_xor

theorem solveQ_eq (small : x < 255) (perm : data.Perm ((x, u) :: present)) : solveQ x present (parityQ data) = u := by
  have weighted : parityQ data ^^^ parityQ present = gfPow x u :=
    (parityQ_partial (erased := [(x, u)]) perm).trans BitVec.zero_xor
  rw [solveQ, weighted, gfPow_neg_cancel small]

theorem solvePQ_eq (order : x < y) (small : y < 255) (perm : data.Perm ((x, u) :: (y, v) :: present)) :
    solvePQ x y present (parityP data) (parityQ data) = (u, v) := by
  have sum : parityP data ^^^ parityP present = u ^^^ v :=
    (parityP_partial (erased := [(x, u), (y, v)]) perm).trans (congrArg (· ^^^ v) BitVec.zero_xor)
  have weighted : parityQ data ^^^ parityQ present = gfPow x u ^^^ gfPow y v :=
    (parityQ_partial (erased := [(x, u), (y, v)]) perm).trans (congrArg (· ^^^ gfPow y v) BitVec.zero_xor)
  have numerator : gfPow ((255 - x) % 255) (gfPow x u ^^^ gfPow y v) ^^^ gfPow (y - x) (u ^^^ v) = u ^^^ gfPow (y - x) u := by
    have apart : gfPow y v = gfPow x (gfPow (y - x) v) := by rw [← gfPow_add, Nat.add_sub_cancel' order.le]
    rw [apart, ← gfPow_xor, gfPow_neg_cancel (by omega), gfPow_xor, BitVec.xor_comm (gfPow (y - x) u), BitVec.xor_assoc,
      ← BitVec.xor_assoc (gfPow (y - x) v), BitVec.xor_self, BitVec.zero_xor]
  have rest : u ^^^ v ^^^ u = v := by rw [BitVec.xor_comm u, BitVec.xor_assoc, BitVec.xor_self, BitVec.xor_zero]
  simp only [solvePQ, sum, weighted, numerator, gfDivBlock_one_xor (by omega : 0 < y - x) (by omega), rest]

end

/-! ### Members of a row -/

section
variable {d : Nat → Block} {l l' : List (Nat × Block)} {m : Nat}

/-- A member's value where every block listed is its member's and the member is listed. -/
theorem memberOf_eq (named : ∀ p ∈ l, p.2 = d p.1) (listed : ∃ p ∈ l, p.1 = m) : memberOf l m = d m := by
  unfold memberOf lookup
  cases found : l.find? fun p => p.1 == m with
  | none =>
    obtain ⟨p, here, same⟩ := listed
    exact absurd (beq_iff_eq.mpr same) (List.find?_eq_none.mp found p here)
  | some p =>
    have same := List.find?_some found
    exact (named p (List.mem_of_find?_eq_some found)).trans (congrArg d (beq_iff_eq.mp same))

theorem memberOf_map {ms : List Nat} (listed : m ∈ ms) : memberOf (ms.map fun i => (i, d i)) m = d m :=
  memberOf_eq (fun p here => by obtain ⟨i, -, rfl⟩ := List.mem_map.mp here; rfl)
    ⟨(m, d m), List.mem_map.mpr ⟨m, listed, rfl⟩, rfl⟩

theorem memberOf_append (unlisted : ∀ p ∈ l, p.1 ≠ m) : memberOf (l ++ l') m = memberOf l' m := by
  have none : (l.find? fun p => p.1 == m) = none := List.find?_eq_none.mpr (by simpa using unlisted)
  simp only [memberOf, lookup, List.find?_append, none, Option.none_or]

end

/-! ### The erased and the present members -/

/-- The erased data members of a row. -/
def dataErased (k : Nat) (erased : List Nat) : List Nat := erased.filter fun m => decide (m < k)

/-- The data members of a row that are present. -/
def dataPresent (k : Nat) (erased : List Nat) : List Nat := (List.range k).filter fun m => !erased.contains m

/-- The syndromes a reconstruction of the row reads: as many as there are erased data members (R111). -/
def syndromesRead (k : Nat) (erased : List Nat) : List Nat :=
  match dataErased k erased with
  | [] => []
  | [_] => [if erased.contains k then k + 1 else k]
  | _ => [k, k + 1]

section
variable {k : Nat} {erased : List Nat}

theorem mem_dataErased {m : Nat} : m ∈ dataErased k erased ↔ m ∈ erased ∧ m < k := by simp [dataErased]

theorem mem_dataPresent {m : Nat} : m ∈ dataPresent k erased ↔ m < k ∧ m ∉ erased := by simp [dataPresent]

theorem range_perm (nodup : erased.Nodup) : (List.range k).Perm (dataErased k erased ++ dataPresent k erased) := by
  have listed : ((List.range k).filter fun m => erased.contains m).Perm (dataErased k erased) :=
    (List.perm_ext_iff_of_nodup (List.nodup_range.filter _) (nodup.filter _)).mpr fun m => by simp [and_comm]
  exact (List.filter_append_perm _ _).symm.trans (listed.append_right _)

theorem length_dataErased_add {others : List Nat} (nodup : erased.Nodup) (different : others.Nodup)
    (listed : ∀ m ∈ others, m ∈ erased ∧ k ≤ m) : (dataErased k erased).length + others.length ≤ erased.length := by
  rw [← List.length_append]
  refine (List.subperm_of_subset (List.Nodup.append (nodup.filter _) different fun m data other => ?_) ?_).length_le
  · exact absurd (mem_dataErased.mp data).2 (by have := (listed m other).2; omega)
  · exact List.append_subset.mpr ⟨List.filter_subset_self _, fun m other => (listed m other).1⟩

theorem length_dataErased_le : (dataErased k erased).length ≤ erased.length := List.length_filter_le _ _

theorem length_syndromesRead (few : erased.length ≤ 2) : (syndromesRead k erased).length = (dataErased k erased).length := by
  have bound := (length_dataErased_le (k := k)).trans few
  unfold syndromesRead
  match data : dataErased k erased with
  | [] => rfl
  | [_] => rfl
  | [_, _] => rfl
  | _ :: _ :: _ :: _ => rw [data] at bound; simp at bound

theorem le_of_mem_syndromesRead {m : Nat} (read : m ∈ syndromesRead k erased) : k ≤ m := by
  unfold syndromesRead at read
  split at read
  · cases read
  · split at read <;> simp at read <;> omega
  · simp at read; omega

theorem not_mem_of_mem_syndromesRead (nodup : erased.Nodup) (few : erased.length ≤ 2) {m : Nat}
    (read : m ∈ syndromesRead k erased) : m ∉ erased := by
  intro lost
  have one := length_dataErased_add (k := k) nodup (List.nodup_singleton m)
    (by simpa using ⟨lost, le_of_mem_syndromesRead read⟩)
  unfold syndromesRead at read
  split at read
  case h_1 => cases read
  case h_2 x data =>
    by_cases p : erased.contains k
    · rw [if_pos p, List.mem_singleton] at read
      subst read
      have both := length_dataErased_add (k := k) (others := [k, k + 1]) nodup (by simp) (by simpa [lost] using p)
      rw [data] at both
      simp at both
      omega
    · rw [if_neg p, List.mem_singleton] at read
      subst read
      exact p (List.contains_iff_mem.mpr lost)
  case h_3 none single =>
    match data : dataErased k erased with
    | [] => exact none data
    | [x] => exact single x data
    | _ :: _ :: _ => rw [data] at one; simp at one; omega

theorem rowCase_of_few (any : erased ≠ []) (few : erased.length ≤ 2) : rowCase k erased =
    if (dataErased k erased).length = 0 then
      (if erased.contains k && erased.contains (k + 1) then some 4 else if erased.contains k then some 1 else some 2)
    else if (dataErased k erased).length = 1 then
      (if erased.contains k then some 6 else if erased.contains (k + 1) then some 5 else some 3)
    else some 7 :=
  if_neg (by rw [List.length_eq_zero_iff, not_or]; exact ⟨any, by omega⟩)

theorem rowReads_eq (few : erased.length ≤ 2) : rowReads k erased = dataPresent k erased ++ syndromesRead k erased := by
  have bound := (length_dataErased_le (k := k)).trans few
  by_cases any : erased = []
  · subst any
    exact (List.append_nil _).symm
  · rw [rowReads, rowCase_of_few any few, syndromesRead, ← dataPresent]
    match data : dataErased k erased with
    | [] =>
      rw [if_pos List.length_nil]
      split_ifs <;> exact (List.append_nil _).symm
    | [_] =>
      rw [if_neg (by simp), if_pos List.length_singleton]
      split_ifs <;> rfl
    | [_, _] => rfl
    | _ :: _ :: _ :: _ => rw [data] at bound; simp at bound

theorem rowCase_eq_none (many : 3 ≤ erased.length) : rowCase k erased = none := if_pos (.inr many)

theorem length_rowReads (nodup : erased.Nodup) (few : erased.length ≤ 2) : (rowReads k erased).length = k := by
  rw [rowReads_eq few, List.length_append, length_syndromesRead few, Nat.add_comm, ← List.length_append,
    ← (range_perm nodup).length_eq, List.length_range]

theorem not_mem_of_mem_rowReads (nodup : erased.Nodup) (few : erased.length ≤ 2) {m : Nat} (read : m ∈ rowReads k erased) :
    m ∉ erased := by
  rw [rowReads_eq few, List.mem_append] at read
  rcases read with data | syndrome
  · exact (mem_dataPresent.mp data).2
  · exact not_mem_of_mem_syndromesRead nodup few syndrome

end

/-! ### A row and what is read of it -/

section
variable (k : Nat) (d : Nat → Block)

/-- The data of a row, each block named by its member. -/
def dataBlocks : List (Nat × Block) := (List.range k).map fun i => (i, d i)

/-- A row with its syndromes (R134). -/
def rowBlocks : List (Nat × Block) :=
  dataBlocks k d ++ [(k, parityP (dataBlocks k d)), (k + 1, parityQ (dataBlocks k d))]

/-- The blocks of a row that its reconstruction reads. -/
def readBlocks (erased : List Nat) : List (Nat × Block) :=
  (rowReads k erased).map fun m => (m, memberOf (rowBlocks k d) m)

end

section
variable {k : Nat} {d : Nat → Block} {erased : List Nat}

theorem memberOf_rowBlocks_data {m : Nat} (data : m < k) : memberOf (rowBlocks k d) m = d m := by
  have here : ((List.range k).map fun i => (i, d i)).find? (fun p => p.1 == m) ≠ none := fun none =>
    List.find?_eq_none.mp none (m, d m) (List.mem_map.mpr ⟨m, List.mem_range.mpr data, rfl⟩) (beq_self_eq_true m)
  obtain ⟨p, found⟩ := Option.ne_none_iff_exists'.mp here
  have value : memberOf (dataBlocks k d) m = d m := memberOf_map (List.mem_range.mpr data)
  simpa only [rowBlocks, dataBlocks, memberOf, lookup, List.find?_append, found, Option.some_or] using value

theorem dataBlocks_unlisted {m : Nat} (beyond : k ≤ m) : ∀ p ∈ dataBlocks k d, p.1 ≠ m := by
  intro p here
  obtain ⟨i, data, rfl⟩ := List.mem_map.mp here
  exact ((List.mem_range.mp data).trans_le beyond).ne

theorem memberOf_rowBlocks_p : memberOf (rowBlocks k d) k = parityP (dataBlocks k d) := by
  rw [rowBlocks, memberOf_append (dataBlocks_unlisted le_rfl)]
  simp [memberOf, lookup]

theorem memberOf_rowBlocks_q : memberOf (rowBlocks k d) (k + 1) = parityQ (dataBlocks k d) := by
  rw [rowBlocks, memberOf_append (dataBlocks_unlisted k.le_succ)]
  simp [memberOf, lookup]

theorem memberOf_readBlocks {m : Nat} (read : m ∈ syndromesRead k erased) (few : erased.length ≤ 2) :
    memberOf (readBlocks k d erased) m = memberOf (rowBlocks k d) m :=
  memberOf_map (by rw [rowReads_eq few]; exact List.mem_append_right _ read)

/-- The data members read, by what they hold. -/
theorem readBlocks_present (few : erased.length ≤ 2) :
    ((readBlocks k d erased).filter fun x => decide (x.1 < k) && !erased.contains x.1) =
      (dataPresent k erased).map fun i => (i, d i) := by
  have kept : (dataPresent k erased).filter (fun m => decide (m < k) && !erased.contains m) = dataPresent k erased :=
    List.filter_eq_self.mpr fun m data => by simpa using mem_dataPresent.mp data
  have gone : (syndromesRead k erased).filter (fun m => decide (m < k) && !erased.contains m) = [] :=
    List.filter_eq_nil_iff.mpr fun m read => by simp [(le_of_mem_syndromesRead read).not_gt]
  rw [readBlocks, List.filter_map, rowReads_eq few]
  simp only [Function.comp_def, List.filter_append, kept, gone, List.append_nil]
  exact List.map_congr_left fun m data => by rw [memberOf_rowBlocks_data (mem_dataPresent.mp data).1]

/-- The data blocks of a row that were erased and those that were not. -/
theorem dataBlocks_perm (nodup : erased.Nodup) : (dataBlocks k d).Perm
    ((dataErased k erased).map (fun i => (i, d i)) ++ (dataPresent k erased).map fun i => (i, d i)) :=
  List.map_append ▸ (range_perm nodup).map _

/-- What a reconstruction gives back is the data of the row. -/
theorem rowData_perm (nodup : erased.Nodup) (few : erased.length ≤ 2) (width : k ≤ 22) :
    (rowData k erased (readBlocks k d erased)).Perm (dataBlocks k d) := by
  have bound := (length_dataErased_le (k := k)).trans few
  have small {m : Nat} (lost : m ∈ dataErased k erased) : m < 255 := by
    have := (mem_dataErased.mp lost).2
    omega
  have whole := dataBlocks_perm (k := k) (d := d) nodup
  have read {m : Nat} (syndrome : m ∈ syndromesRead k erased) := memberOf_readBlocks (d := d) syndrome few
  rw [rowData, readBlocks_present few, ← dataErased]
  unfold syndromesRead at read
  match data : dataErased k erased with
  | [] =>
    rw [data] at whole
    exact whole.symm
  | [x] =>
    simp only [data, List.map_cons, List.map_nil, List.singleton_append, List.mem_singleton] at whole read
    have solved : (if erased.contains k then
        solveQ x ((dataPresent k erased).map fun i => (i, d i)) (memberOf (readBlocks k d erased) (k + 1))
        else solveP ((dataPresent k erased).map fun i => (i, d i)) (memberOf (readBlocks k d erased) k)) = d x := by
      by_cases p : erased.contains k
      · rw [if_pos p, read (if_pos p).symm, memberOf_rowBlocks_q, solveQ_eq (small (by rw [data]; exact .head _)) whole]
      · rw [if_neg p, read (if_neg p).symm, memberOf_rowBlocks_p, solveP_eq whole]
    simp only [solved]
    exact whole.symm
  | [x, y] =>
    simp only [data, List.map_cons, List.map_nil, List.cons_append, List.nil_append] at whole read
    have different : x ≠ y := by
      have := nodup.filter fun m => decide (m < k)
      rw [← dataErased, data] at this
      simpa using this
    have lost : x < 255 ∧ y < 255 := ⟨small (by simp [data]), small (by simp [data])⟩
    rw [read (by simp), read (by simp), memberOf_rowBlocks_p, memberOf_rowBlocks_q]
    rcases different.lt_or_gt with order | order
    · simp only [Nat.min_eq_left order.le, Nat.max_eq_right order.le, solvePQ_eq order lost.2 whole]
      exact whole.symm
    · have swapped := whole.trans (.swap _ _ _)
      simp only [Nat.min_eq_right order.le, Nat.max_eq_left order.le, solvePQ_eq order lost.1 swapped]
      exact swapped.symm
  | _ :: _ :: _ :: _ => rw [data] at bound; simp at bound

theorem memberOf_rowData (nodup : erased.Nodup) (few : erased.length ≤ 2) (width : k ≤ 22) {i : Nat} (data : i < k) :
    memberOf (rowData k erased (readBlocks k d erased)) i = d i := by
  have perm := rowData_perm (d := d) nodup few width
  refine memberOf_eq (fun p here => ?_) ⟨(i, d i), perm.mem_iff.mpr (List.mem_map.mpr ⟨i, List.mem_range.mpr data, rfl⟩), rfl⟩
  obtain ⟨j, -, rfl⟩ := List.mem_map.mp (perm.mem_iff.mp here)
  rfl

end

/-- Settles O60: the members read by their number and their erasure, the data by what the reconstruction gives back as a whole. -/
theorem rowsAreReconstructed : Obligations.RowsAreReconstructed := by
  unfold Obligations.RowsAreReconstructed
  intro k d erased _ width nodup _
  exact ⟨fun few => ⟨length_rowReads nodup few, fun m => not_mem_of_mem_rowReads nodup few,
    fun i => memberOf_rowData nodup few width⟩, rowCase_eq_none⟩

end Sys2Proof.Machine
end

section
/-! Commands to the drives: their timeouts, the hedge of a late member read, and what their completions do (R111, R227, R340 to R342,
R469). -/

namespace Sys2Proof.Machine

section
variable {s : State} {bay q cid a lba : Nat} {good : Bool} {r : DriveData} {d : DriveCmd}

/-! ### Timeouts (R342) -/

section
variable (here : s.driveCmd? bay q cid = some d) (live : d.aborting = false) (other : ∀ x, d.use ≠ .driveAbort x)
  (out : d.outstanding = true) (free : d.held = false)
include here live other out free

/-- A command that outlives its timeout is aborted, counted and recorded. -/
theorem State.driveTimeout_aborts (limit : Nat) : s.driveTimeout bay q cid limit =
    State.record 4 0x6101 [(1, bay), (1, q), (1, d.opcode), (4, limit / 1000000)]
      (State.tick Obj.ce_drive_timeouts 0 ((s.modDriveCmd bay q cid fun x => { x with aborting := true }).issueDrive
        { bay := bay, queue := 0, op := .abort, use := .driveAbort cid })) := by
  simp only [State.driveTimeout, here]
  exact if_neg (by simp [live, out, free])

theorem exec_driveIoTimeout_aborts (io : q ≠ 0) : exec (.driveIoTimeout bay q cid) s = .next
    (State.record 4 0x6101 [(1, bay), (1, q), (1, d.opcode), (4, s.get Obj.ce_drive_io_timeout / 1000000)]
      (State.tick Obj.ce_drive_timeouts 0 ((s.modDriveCmd bay q cid fun x => { x with aborting := true }).issueDrive
        { bay := bay, queue := 0, op := .abort, use := .driveAbort cid }))) :=
  congrArg _ ((if_neg io).trans (State.driveTimeout_aborts here live other out free _))

end

/-! ### Hedges and erasures (R108, R111, R341) -/

theorem exec_readHedge_late (out : ∃ x ∈ s.drives.cmds, x.use = .blockRead a lba ∧ x.outstanding = true ∧ x.discard = false)
    (sourcing : (((s.cmd? a).bind (·.blk? lba)).any fun b => b.stage == .sourcing && !b.hedged) = true)
    (hedges : s.get Obj.ce_read_hedge ≠ 0) :
    exec (.readHedge a lba) s = .next ((s.tick Obj.ce_hedged_reads).memberErased a lba false).settle := by
  have late : (s.drives.cmds.any fun d => d.use == .blockRead a lba && d.outstanding && !d.discard) = true := by
    simpa [List.any_eq_true, and_assoc] using out
  exact congrArg _ (if_pos (by simp only [late, sourcing, Bool.true_and, bne_iff_ne, ne_eq, hedges, not_false_eq_true]))

theorem State.memberErased_reconstructs {c : Cmd} {bad : Bool} (here : s.cmd? a = some c)
    (fixed : (c.blk? lba).any (fun b => b.stage == .blocked) = false)
    (idle : (s.pe.jobs.any fun j => j.use == .recon a lba) = false)
    (still : s.rowApplying c.cap.nsid (stripeOf (s.ns c.cap.nsid).layout lba) (stripBlock (s.ns c.cap.nsid).layout lba) = false) :
    s.memberErased a lba bad = (((s.modBlk a lba fun b => { b with unread := b.unread || bad }).modBlk a lba fun b =>
      { b with hedged := true }).startRecon a lba (bad || (c.blk? lba).any (·.unread))).readDone a := by
  simp only [State.memberErased, here, fixed, idle, still, Bool.false_eq_true, if_false]

/-! ### Completions (R340, R342, R469) -/

theorem exec_driveCompletion_of_dark (dark : s.dark = true) : exec (.driveCompletion bay q cid good r) s = .next s :=
  congrArg _ (if_pos dark)

theorem exec_driveCompletion_of_lit (lit : s.dark = false) :
    exec (.driveCompletion bay q cid good r) s = .next (s.driveCompletion bay q cid good r) :=
  congrArg _ (if_neg (by simp only [lit, Bool.false_eq_true, not_false_eq_true]))

theorem State.driveCompletion_waits (here : s.driveCmd? bay q cid = some d)
    (waits : d.outstanding = false ∨ d.held = true ∨ 0 < d.toMove) : s.driveCompletion bay q cid good r = s := by
  simp only [State.driveCompletion, here]
  exact if_pos (by rcases waits with idle | held | moving <;> simp [*])

theorem exec_driveCompletion_waits (here : s.driveCmd? bay q cid = some d)
    (waits : d.outstanding = false ∨ d.held = true ∨ 0 < d.toMove) : exec (.driveCompletion bay q cid good r) s = .next s := by
  cases dark : s.dark with
  | true => exact exec_driveCompletion_of_dark dark
  | false => exact (exec_driveCompletion_of_lit dark).trans (congrArg _ (State.driveCompletion_waits here waits))

/-- The state in which a command has left its queue, its beds are free and its outcome is counted. -/
def State.driveEnded (s : State) (bay q cid : Nat) (good : Bool) (d : DriveCmd) : State :=
  (d.beds.foldl (fun t h => t.freeOwned h) (s.drawn.dropDriveCmd bay q cid)).driveCounted bay q
    (if good then Oc.ok else if d.aborting then Oc.timeout else 1 + s.freeVal 3 % 7)

/-- The end of a command whose completion is no command of its own. -/
theorem State.driveCompletion_ends (here : s.driveCmd? bay q cid = some d) (out : d.outstanding = true) (free : d.held = false)
    (moved : d.toMove = 0) (noAcquire : ∀ w k, d.use ≠ .preempt w k) (noReport : ∀ w, d.use ≠ .reservationReport w)
    (noExamine : ∀ k, d.use ≠ .examine k) : s.driveCompletion bay q cid good r =
      if d.discard then (s.driveEnded bay q cid good d).settle
      else if good then ((s.driveEnded bay q cid good d).driveGood d r).settle
      else ((s.driveEnded bay q cid good d).driveFailed d).settle := by
  simp only [State.driveCompletion, here]
  exact if_neg (by simp [out, free, moved])

end

/-! ### What a completion carries on -/

section
variable {s : State} {d : DriveCmd} {r : DriveData}

theorem State.driveGood_blockRead {a lba : Nat} (use : d.use = .blockRead a lba) :
    s.driveGood d r = s.readArrived d r.data r.trl := by rw [State.driveGood, use]

theorem State.driveFailed_blockRead {a lba : Nat} (use : d.use = .blockRead a lba) :
    s.driveFailed d = (s.tick Obj.ce_read_unreadable).memberErased a lba true := by rw [State.driveFailed, use]

theorem State.driveGood_rowWrite {id m : Nat} (use : d.use = .rowWrite id m) : s.driveGood d r = s.rowWritten id m := by
  rw [State.driveGood, use]

theorem State.driveGood_fullStripe {a st m : Nat} (use : d.use = .fullStripe a st m) :
    s.driveGood d r = s.memberWritten a st m := by rw [State.driveGood, use]

/-- A member write that failed is repeated once; the second time its bay is contained. -/
theorem State.driveFailed_fullStripe {a st m : Nat} (use : d.use = .fullStripe a st m) :
    s.driveFailed d = if d.repeated then (s.driveReset d.bay d.use).contain d.bay 8 else s.repeatWrite d := by
  rw [State.driveFailed, use]

theorem State.driveGood_descriptor {g : Nat} (use : d.use = .descriptor g) : s.driveGood d r = s.descDone d.bay := by
  rw [State.driveGood, use]

end

/-- Settles O40: timeouts, hedges and erasures by their conditions, a completion by what keeps it back or by its end, and what it
carries on by the use of its command. -/
theorem driveCommandsEnd : Obligations.DriveCommandsEnd := by
  unfold Obligations.DriveCommandsEnd
  intro s bay q cid a lba good r d c
  refine ⟨fun here live other out free => ⟨exec_driveIoTimeout_aborts here live other out free, ?admin⟩, exec_readHedge_late,
    State.memberErased_reconstructs, exec_driveCompletion_of_dark, exec_driveCompletion_waits, ?ends, fun u => ⟨fun x y use =>
      ⟨State.driveGood_blockRead use, State.driveFailed_blockRead use⟩, fun id m => State.driveGood_rowWrite,
      fun x st m use => ⟨State.driveGood_fullStripe use, State.driveFailed_fullStripe use⟩, fun g => State.driveGood_descriptor⟩⟩
  case admin =>
    rintro rfl
    exact congrArg _ (State.driveTimeout_aborts here live other out free _)
  case ends =>
    intro here out free moved lit noAcquire noReport noExamine
    have course := (exec_driveCompletion_of_lit lit).trans
      (congrArg _ (State.driveCompletion_ends (good := good) (r := r) here out free moved noAcquire noReport noExamine))
    exact ⟨fun given => course.trans (congrArg _ (if_pos given)),
      fun wanted success => course.trans (congrArg _ ((if_neg (by simp [wanted])).trans (if_pos success))),
      fun wanted failure => course.trans (congrArg _ ((if_neg (by simp [wanted])).trans (if_neg (by simp [failure]))))⟩

end Sys2Proof.Machine
end

section
/-! Where the blocks of a namespace lie: the slots of a member row, the bays of a row's ring, and the parts of a host LBA (R138, R144
to R147). -/

namespace Sys2Proof.Machine

/-! ### Layout ids (R138) -/

section
variable {l : BitVec 16}

theorem layValid_iff : layValid l = true ↔
    4 ≤ layK l ∧ layK l ≤ 22 ∧ layStrip l ≤ 2 ∧ laySpare l ≤ 2 ∧ (layK l = 22 → laySpare l = 0) := by
  simp only [layValid, Bool.and_eq_true, Bool.or_eq_true, decide_eq_true_eq, bne_iff_ne, beq_iff_eq, imp_iff_not_or,
    and_assoc, ne_eq]

theorem layK_pos (valid : layValid l = true) : 0 < layK l := by
  have := (layValid_iff.mp valid).1
  omega

theorem layW_le (valid : layValid l = true) : layW l ≤ 24 := by
  obtain ⟨-, wide, -⟩ := layValid_iff.mp valid
  exact Nat.add_le_add_right wide 2

theorem layS_pos (valid : layValid l = true) : 0 < layS l := by
  obtain ⟨-, -, strip, -⟩ := layValid_iff.mp valid
  unfold layS
  interval_cases layStrip l <;> decide

end

/-! ### The slots of a member row (R147) -/

/-- Member LBA of a block in a slot of a row: the home strips come first, the spare slots after them. -/
def slotLba (n : Namespace) (row slot u : Nat) : Nat :=
  n.base + (row * (layW n.layout + laySpare n.layout) + slot) * layS n.layout + u

theorem homeLba_add (n : Namespace) (stripe m u : Nat) : homeLba n stripe m + u = slotLba n (stripe / 24) m u := rfl

theorem spareLba_add (n : Namespace) (stripe j u : Nat) :
    spareLba n stripe j + u = slotLba n (stripe / 24) (layW n.layout + j) u := by
  rw [spareLba, slotLba, Nat.add_assoc (_ * _)]

theorem digits_unique {b q q' r r' : Nat} (low : r < b) (low' : r' < b) (same : q * b + r = q' * b + r') : q = q' ∧ r = r' := by
  have pos : 0 < b := Nat.zero_lt_of_lt low
  have quotient := congrArg (· / b) same
  have rest := congrArg (· % b) same
  simp only [Nat.mul_comm _ b, Nat.mul_add_div pos, Nat.div_eq_of_lt low, Nat.div_eq_of_lt low', Nat.add_zero] at quotient
  simp only [Nat.mul_comm _ b, Nat.mul_add_mod, Nat.mod_eq_of_lt low, Nat.mod_eq_of_lt low'] at rest
  exact ⟨quotient, rest⟩

theorem slotLba_inj {n : Namespace} {row slot u row' slot' u' : Nat} (inRow : slot < layW n.layout + laySpare n.layout)
    (inRow' : slot' < layW n.layout + laySpare n.layout) (inStrip : u < layS n.layout) (inStrip' : u' < layS n.layout)
    (same : slotLba n row slot u = slotLba n row' slot' u') : row = row' ∧ slot = slot' ∧ u = u' := by
  unfold slotLba at same
  rw [Nat.add_assoc, Nat.add_assoc] at same
  obtain ⟨strip, block⟩ := digits_unique inStrip inStrip' (Nat.add_left_cancel same)
  obtain ⟨sameRow, sameSlot⟩ := digits_unique inRow inRow' strip
  exact ⟨sameRow, sameSlot, block⟩

/-! ### The ring of a row (R145, R146) -/

theorem inv23_mul_modEq : ∀ a < 23, 0 < a → inv23 a * a ≡ 1 [MOD 23] := by decide

theorem inv23_coprime {a : Nat} (small : a < 23) (pos : 0 < a) : Nat.Coprime 23 (inv23 a) :=
  (Nat.coprime_of_mul_modEq_one a (inv23_mul_modEq a small pos)).symm

section
variable (l : BitVec 16) (stripe : Nat)

theorem ringBay_last : ringBay l stripe 23 = 23 := rfl

theorem ringBay_of_ne {x : Nat} (notLast : x ≠ 23) : ringBay l stripe x =
    inv23 (rotA l (rotEntry stripe)) * ((x + 23 - rotB l (rotEntry stripe)) % 23) % 23 := if_neg notLast

theorem ringBay_lt_23_iff {x : Nat} : ringBay l stripe x < 23 ↔ x ≠ 23 := by
  constructor
  · rintro low rfl
    exact absurd (ringBay_last l stripe ▸ low) (by decide)
  · intro notLast
    rw [ringBay_of_ne l stripe notLast]
    exact Nat.mod_lt _ (by decide)

theorem ringBay_lt (x : Nat) : ringBay l stripe x < 24 := by
  by_cases last : x = 23
  · rw [last, ringBay_last]; decide
  · exact Nat.lt_succ_of_lt ((ringBay_lt_23_iff l stripe).mpr last)

/-- The positions other than the last go through multiplication by a unit modulo 23 after a turn, so no two share a bay. -/
theorem ringBay_injOn : Set.InjOn (ringBay l stripe) (Set.Iio 24) := by
  intro x hx y hy same
  have lasts : x = 23 ↔ y = 23 := by
    rw [← not_iff_not, ← ne_eq, ← ne_eq, ← ringBay_lt_23_iff l stripe, ← ringBay_lt_23_iff l stripe, same]
  by_cases last : x = 23
  · exact last.trans (lasts.mp last).symm
  · rw [ringBay_of_ne l stripe last, ringBay_of_ne l stripe (mt lasts.mpr last)] at same
    have unit : Nat.Coprime 23 (inv23 (rotA l (rotEntry stripe))) :=
      inv23_coprime (by unfold rotA; omega) (by unfold rotA; omega)
    have turned : (x + 23 - rotB l (rotEntry stripe)) % 23 = (y + 23 - rotB l (rotEntry stripe)) % 23 := by
      simpa [Nat.ModEq] using Nat.ModEq.cancel_left_of_coprime unit same
    have turn : rotB l (rotEntry stripe) < 23 := Nat.mod_lt _ (by decide)
    simp only [Set.mem_Iio] at hx hy
    omega

theorem homeBay_inj {stripe' m m' : Nat} (row : stripe / 24 = stripe' / 24)
    (same : homeBay l stripe m = homeBay l stripe' m') : (stripe % 24 + m) % 24 = (stripe' % 24 + m') % 24 := by
  have ring : ∀ x, ringBay l stripe' x = ringBay l stripe x := fun x => by simp only [ringBay, rotEntry, row]
  exact ringBay_injOn l stripe (Nat.mod_lt _ (by decide)) (Nat.mod_lt _ (by decide)) (same.trans (ring _))

end

/-! ### The parts of a host LBA (R144) -/

section
variable {l : BitVec 16} (lba : Nat)

theorem hostLba_parts : hostLba l (stripeOf l lba) (memberIx l lba) (stripBlock l lba) = lba := by
  rw [hostLba, stripeOf, memberIx, stripBlock, Nat.add_assoc, Nat.div_add_mod', Nat.div_add_mod']

theorem memberIx_lt (valid : layValid l = true) : memberIx l lba < layK l :=
  Nat.div_lt_of_lt_mul (Nat.mul_comm .. ▸ Nat.mod_lt _ (Nat.mul_pos (layK_pos valid) (layS_pos valid)))

theorem stripBlock_lt (valid : layValid l = true) : stripBlock l lba < layS l := Nat.mod_lt _ (layS_pos valid)

end

/-- Settles O59: an address gives back its row, slot and block; within a row the ring gives back the stripe or the member. -/
theorem placesAreDistinct : Obligations.PlacesAreDistinct := by
  unfold Obligations.PlacesAreDistinct
  intro n valid
  refine ⟨fun stripe m stripe' m' u u' hm hm' hu hu' bay lba => ?home, fun stripe m m' hm hm' bay => ?members,
    fun stripe m => ringBay_lt .., fun stripe m stripe' j u u' hm hj hu hu' lba => ?spare,
    fun lba => ⟨hostLba_parts lba, memberIx_lt lba valid, stripBlock_lt lba valid⟩⟩
  case home =>
    obtain ⟨row, rfl, rfl⟩ := slotLba_inj (Nat.lt_add_right _ hm) (Nat.lt_add_right _ hm') hu hu' lba
    have ring := homeBay_inj n.layout stripe row bay
    exact ⟨by omega, rfl, rfl⟩
  case members =>
    have ring := homeBay_inj n.layout stripe rfl bay
    have wide := layW_le valid
    omega
  case spare =>
    rw [homeLba_add, spareLba_add] at lba
    obtain ⟨-, slot, -⟩ := slotLba_inj (Nat.lt_add_right _ hm) (Nat.add_lt_add_left hj _) hu hu' lba
    omega

end Sys2Proof.Machine
end

section
/-! Reservation commands, the creation and the deletion of a namespace, and power states (R138, R142, R327 to R331, R335, R336). -/

namespace Sys2Proof.Machine

/-! ### Reservation commands take their turn (R331) -/

section
variable {s : State}

theorem exec_of_reservation {a : Nat} {i : Instr} {op : CmdOp}
    (named : (i, op) ∈ [(Instr.reservationRegister a, CmdOp.resRegister), (.reservationAcquire a, .resAcquire),
      (.reservationRelease a, .resRelease), (.reservationReport a, .resReport)]) : exec i s = .next (s.resCmd a op) := by
  simp only [List.mem_cons, Prod.mk.injEq, List.not_mem_nil, or_false] at named
  obtain ⟨rfl, rfl⟩ | ⟨rfl, rfl⟩ | ⟨rfl, rfl⟩ | ⟨rfl, rfl⟩ := named <;> rfl

theorem State.resCmd_passed {a : Nat} {op : CmdOp} {c : Cmd} (new : s.fresh? a op = some c) (good : s.checkNs c = none) :
    s.resCmd a op = (s.passed a).resServe c.cap.nsid := by
  simp only [State.resCmd, new, good]

theorem State.resCmd_refused {a : Nat} {op : CmdOp} {c : Cmd} {st : Status} (new : s.fresh? a op = some c)
    (bad : s.checkNs c = some st) : s.resCmd a op = (s.finish a st).resServe c.cap.nsid := by
  simp only [State.resCmd, new, bad]

theorem State.resServe_waits {nsid : Nat} (waiting : ∃ x ∈ s.ce.resCmds, x.nsid = nsid) : s.resServe nsid = s :=
  if_pos (by simpa using waiting)

theorem State.resServe_runs {nsid : Nat} {c : Cmd} (idle : s.ce.resCmds = [])
    (first : s.ce.cmds.find? (fun d => d.cap.nsid == nsid && isRes d.cap.op && d.status.isNone) = some c)
    (checked : c.checked = true) : s.resServe nsid = State.resPump nsid s.ce.cmds.length (s.resRun c) := by
  simp [State.resServe, State.resPump, idle, first, checked]

end

/-! ### A namespace is created (R138, R142, R335) -/

/-- The NSID asked for, the lowest free one where none is. -/
def State.newNsid (s : State) : Nat := if s.get Obj.ce_ns_new_nsid = 0 then s.freeNsid else s.get Obj.ce_ns_new_nsid

/-- The layout id asked for. -/
def State.newLayout (s : State) : BitVec 16 := BitVec.ofNat 16 (s.get Obj.ce_ns_new_layout_id)

/-- The rows that hold the blocks asked for. -/
def State.newRows (s : State) : Nat := ceilDiv (s.get Obj.ce_ns_new_blocks) (Nat.max 1 (24 * layBlocks s.newLayout))

/-- The namespace that a creation begins at a base. -/
def State.newNamespace (s : State) (base : Nat) : Namespace :=
  { nsid := s.newNsid, layout := s.newLayout, wing := s.get Obj.ce_ns_new_wing
    creationGen := (s.place (s.get Obj.ce_ns_new_wing)).gen, base := base, rows := s.newRows, nguid := s.freeVal 128
    created := s.gh.now, creating := true }

/-- A creation that waits for the descriptor's next generation. -/
def State.nsBegun (base : Nat) (s : State) : State :=
  State.descRequest ((s.drawn.modCe fun c => { c with
    namespaces := sortBy (fun y : Namespace => y.nsid) (c.namespaces ++ [s.newNamespace base])
    createRun := some (s.newNsid, s.descAwait) }).fillSlot (s.newNsid - 1) 1 (s.newNsid - 1) 1 (s.newNamespace base).nguid)

/-- What R335 asks of a creation, its extent left out. -/
structure State.NsWanted (s : State) : Prop where
  layout : layValid s.newLayout = true
  nsid : s.newNsid ≤ 1024
  unused : s.ns? s.newNsid = none
  wing : s.get Obj.ce_ns_new_wing = 1 ∨ s.get Obj.ce_ns_new_wing = 2
  noLoss : (s.place (s.get Obj.ce_ns_new_wing)).openLoss = false
  held : s.holdsWing (s.get Obj.ce_ns_new_wing) = true
  room : s.ce.namespaces.length < 1024

section
variable {s : State} {cls v : Nat}

theorem exec_ceNsCreate_badLayout (taken : s.takes (.ceNsCreate cls v)) (bad : layValid s.newLayout = false) :
    exec (.ceNsCreate cls v) s =
      .next ((s.startRun Obj.ce_ns_create_result).endRun Obj.ce_ns_create_result (outcomeVal Oc.denied)) := by
  refine congrArg _ ((State.action_taken (State.takesWrite_action (taken _ rfl))).trans ?_)
  exact if_pos (.inr (.inl (congrArg Bool.not bad)))

theorem exec_ceNsCreate_wanted {t : State} {base : Nat} (taken : s.takes (.ceNsCreate cls 1))
    (run : s.startRun Obj.ce_ns_create_result = t) (wanted : t.NsWanted)
    (fits : fitExtent (extentBlocks t.newLayout t.newRows) (t.get Obj.pe_member_size (t.get Obj.ce_ns_new_wing))
      (t.extents (t.get Obj.ce_ns_new_wing)) = some base) :
    exec (.ceNsCreate cls 1) s = .next (t.nsBegun base) := by
  refine congrArg _ ((State.action_taken (State.takesWrite_action (taken _ rfl))).trans ?_)
  rw [run]
  obtain ⟨layout, nsid, unused, wing, noLoss, held, room⟩ := wanted
  have accepted : ¬ (1 ≠ 1 ∨ (!layValid t.newLayout) = true ∨
      (t.newNsid = 1025 ∧ decide (1024 ≤ t.ce.namespaces.length) = false) ∨ 1025 < t.newNsid ∨ (t.ns? t.newNsid).isSome = true ∨
      t.get Obj.ce_ns_new_wing = 0 ∨ 2 < t.get Obj.ce_ns_new_wing ∨ (t.place (t.get Obj.ce_ns_new_wing)).openLoss = true ∨
      (!t.holdsWing (t.get Obj.ce_ns_new_wing)) = true) := by
    simp only [layout, unused, noLoss, held, Option.isSome_none, Bool.not_true, Bool.false_eq_true, false_or, or_false]
    omega
  refine (if_neg accepted).trans ((if_neg (by simpa using room)).trans ?_)
  unfold State.newRows State.newLayout at fits
  simp only [fits]
  rfl

end

/-- Settles O58: the ranges of R138, and the refusal of a creation outside them. -/
theorem invalidLayoutsAreRefused : Obligations.InvalidLayoutsAreRefused := by
  unfold Obligations.InvalidLayoutsAreRefused
  exact ⟨fun l => layValid_iff, fun s cls value => exec_ceNsCreate_badLayout⟩

/-! ### A namespace is deleted (R336) -/

section
variable {s : State}

theorem exec_ceNsDelete_held {cls v : Nat} {n : Namespace} (taken : s.takes (.ceNsDelete cls v)) (here : s.ns? v = some n)
    (created : n.creating = false) (kept : n.deleting = false) (held : s.holdsWing n.wing = true) :
    exec (.ceNsDelete cls v) s = .next (State.nsDeletePass (((s.startRun Obj.ce_ns_delete_result).modNs v fun x =>
      { x with deleting := true }).modCe fun y => { y with deleteRun := some (v, 0) })) := by
  have here' : (s.startRun Obj.ce_ns_delete_result).ns? v = some n := here
  have held' : (s.startRun Obj.ce_ns_delete_result).holdsWing n.wing = true := held
  refine congrArg _ ((State.action_taken (State.takesWrite_action (taken _ rfl))).trans ?_)
  simp only [here', created, kept, held', Bool.not_true, Bool.or_self, Bool.false_eq_true, if_false]

/-! ### Power states (R327 to R329, R465) -/

theorem exec_cePowerStateSet_taken {cls v : Nat} (taken : s.takes (.cePowerStateSet cls v)) (state : v ≤ 2) :
    exec (.cePowerStateSet cls v) s = .next ((s.startRun Obj.ce_power_state_result).psRequest v none) := by
  refine congrArg _ ((State.action_taken (State.takesWrite_action (taken _ rfl))).trans ?_)
  exact if_pos state

/-- Power state 2 is entered by way of Drain, of cause 0. -/
theorem State.psRequest_drains {who : Option (CmdSrc × Nat)} (idle : s.ce.psEntry = none) (new : 2 ≠ s.ce.ps)
    (noStop : 4 ∉ s.md.causes) : s.psRequest 2 who =
      (s.modCe fun c => { c with psEntry := some (c.arrivalNext, who), psBefore := c.ps }).addCause 0 := by
  simp [State.psRequest, idle, new, noStop]

/-- Out of power state 2, the state that Drain gives way to is named. -/
theorem State.psRequest_wakes {v : Nat} {who : Option (CmdSrc × Nat)} (idle : s.ce.psEntry = none) (low : v ≤ 1)
    (asleep : s.ce.ps = 2) : s.psRequest v who =
      ((s.modCe fun c => { c with psBefore := v }).clearCause 0).psAnswer who true := by
  have other : v ≠ 2 := by omega
  simp [State.psRequest, idle, asleep, other]

theorem State.psRequest_enters {v : Nat} {who : Option (CmdSrc × Nat)} (idle : s.ce.psEntry = none) (new : v ≠ s.ce.ps)
    (low : v ≤ 1) (awake : s.ce.ps ≠ 2) : s.psRequest v who =
      (s.setPs v (if who.isSome then 0 else 1)).psAnswer who true := by
  have other : v ≠ 2 := by omega
  simp [State.psRequest, idle, new, awake, other]

variable {k : Nat} {who : Option (CmdSrc × Nat)}

theorem exec_ps2EntryComplete_done (entry : s.ce.psEntry = some (k, who)) (ended : s.psDone = true) :
    exec .ps2EntryComplete s = .next (State.psAnswer who true
      ((s.modCe fun c => { c with psEntry := none }).setPs 2 (if who.isSome then 0 else 1))) := by
  change execPs2EntryComplete s = _
  simp only [execPs2EntryComplete, entry, ended, if_true]

theorem exec_ps2EntryComplete_waits (entry : s.ce.psEntry = some (k, who)) (goesOn : s.psDone = false) :
    exec .ps2EntryComplete s = .next s := by
  change execPs2EntryComplete s = _
  simp only [execPs2EntryComplete, entry, goesOn, Bool.false_eq_true, if_false]

theorem exec_psEntryLimitExpiry_entry (entry : s.ce.psEntry = some (k, who)) : exec .psEntryLimitExpiry s =
    .next (State.psAnswer who false ((s.modCe fun c => { c with psEntry := none }).clearCause 0)) := by
  change execPsEntryLimitExpiry s = _
  simp only [execPsEntryLimitExpiry, entry]

end

/-- Settles O42: reservation commands by their course, a creation and a deletion, and the requests and ends of power states. -/
theorem reservationsNamespacesAndPowerStates : Obligations.ReservationsNamespacesAndPowerStates := by
  unfold Obligations.ReservationsNamespacesAndPowerStates
  intro s cls a v e c i op n who k
  refine ⟨fun named new => ⟨fun good => ?passed, fun st bad => ?refused⟩, State.resServe_waits, State.resServe_runs,
    fun taken => ?create, exec_ceNsDelete_held, fun taken idle new => ⟨?drains, fun low awake => ?enters, fun low asleep => ?wakes⟩,
    fun entry => ⟨exec_ps2EntryComplete_done entry, exec_ps2EntryComplete_waits entry, exec_psEntryLimitExpiry_entry entry⟩⟩
  case passed => rw [exec_of_reservation named, State.resCmd_passed new good]
  case refused => rw [exec_of_reservation named, State.resCmd_refused new bad]
  case create =>
    intro t id w l rows layout nsid unused wing noLoss held room fits
    exact exec_ceNsCreate_wanted taken rfl ⟨layout, nsid, unused, wing, noLoss, held, room⟩ fits
  case drains =>
    rintro rfl noStop
    exact (exec_cePowerStateSet_taken taken le_rfl).trans (congrArg _ (State.psRequest_drains idle new noStop))
  case enters =>
    exact (exec_cePowerStateSet_taken taken (by omega)).trans (congrArg _ (State.psRequest_enters idle new low awake))
  case wakes =>
    exact (exec_cePowerStateSet_taken taken (by omega)).trans (congrArg _ (State.psRequest_wakes idle low asleep))

end Sys2Proof.Machine
end

section
/-! The course of the rebuild, of the night watch and of a bay's return (R143, R166 to R169, R173, R176, R180, R184, R186, R569). -/

namespace Sys2Proof.Machine

/-! ### REBUILD_STRIPE (R164, R166, R173) -/

section
variable {s : State} {tier w ns st : Nat} {rest : List (Nat × Nat × Nat × Nat)} {n : Namespace}

/-- The rebuild may take a stripe of a tier: the image fires, and at rate 0 only the first tier's (R166, R173). -/
def State.rebuildFires (s : State) (tier : Nat) : Prop :=
  s.imageFires = true ∧ (s.get Obj.pe_rebuild_rate ≠ 0 ∨ tier = 0)

theorem State.not_rebuildFires_iff :
    ¬ s.rebuildFires tier ↔ s.imageFires = false ∨ (s.get Obj.pe_rebuild_rate = 0 ∧ tier ≠ 0) := by
  rw [State.rebuildFires, not_and_or, not_or, not_not, Bool.not_eq_true]

theorem State.rebuildFires_iff : s.rebuildFires tier ↔
    ¬ (!s.imageFires || (s.get Obj.pe_rebuild_rate == 0 && tier != 0)) = true := by
  rw [← not_iff_not, State.not_rebuildFires_iff, not_not]
  simp

/-- The first stripe of the order leaves it. -/
def State.orderRest (rest : List (Nat × Nat × Nat × Nat)) (s : State) : State := s.modRb fun r => { r with order := rest }

/-- A stripe is held by the running events, and its rows are started: as many as a strip has, none where nothing has a destination,
copied where every destination can be (R164, R166, R167). -/
def State.stripeTaken (w ns st : Nat) (n : Namespace) (rest : List (Nat × Nat × Nat × Nat)) (s : State) : State :=
  let run := runningFor n st (s.place w).effLog
  let dests := s.destsOf n st run
  let copy := s.copies n st run dests
  let rows := if dests.isEmpty then 0 else layS n.layout
  State.runAhead (State.limitedPump' ((List.range rows).foldl
    (fun t x => t.startJob { use := .rebuild, nsid := ns, stripe := st, row := x, cls := Bc.rebuild, copy := copy
                             issue := if copy then dests.map (·.1) else [] })
    (((s.orderRest rest).modRb fun r => { r with
      held := r.held ++ [{ wing := w, nsid := ns, stripe := st, events := run.map (·.2.gen), dests := dests, rowsLeft := rows }]
      cut := r.cut.filter fun x => x != (ns, st) }).count Obj.pe_rebuild_repeats 0 (if s.rb.cut.contains (ns, st) then 1 else 0))))

theorem exec_rebuildStripe {t : State} (course : s.rebuildStripe = t) : exec .rebuildStripe s = .next t.settle :=
  congrArg (fun u : State => Host.Outcome.next u.settle) course

theorem State.rebuildStripe_empty (empty : s.rb.order = []) : s.rebuildStripe = s := by
  simp only [State.rebuildStripe, empty]

section
variable (first : s.rb.order = (tier, w, ns, st) :: rest)
include first

theorem State.rebuildStripe_foreign (foreign : s.rebuilds w = false) : s.rebuildStripe = s.orderRest rest := by
  simp only [State.rebuildStripe, first, foreign]
  rfl

variable (own : s.rebuilds w = true)
include own

theorem State.rebuildStripe_rests (rests : ¬ s.rebuildFires tier) : s.rebuildStripe = s := by
  rw [State.rebuildFires_iff, not_not] at rests
  simp only [State.rebuildStripe, first, own, rests]
  rfl

variable (fires : s.rebuildFires tier)
include fires

theorem State.rebuildStripe_unknown (unknown : s.ns? ns = none) : s.rebuildStripe = s.orderRest rest := by
  rw [State.rebuildFires_iff] at fires
  simp only [State.rebuildStripe, first, own, fires, unknown]
  rfl

variable (here : s.ns? ns = some n)
include here

theorem State.rebuildStripe_notDue (notDue : s.rebuildHolds ns st = true ∨ runningFor n st (s.place w).effLog = []) :
    s.rebuildStripe = s.orderRest rest := by
  rw [State.rebuildFires_iff] at fires
  have skipped : ((runningFor n st (s.place w).effLog).isEmpty || s.rebuildHolds ns st) = true := by
    simpa [or_comm] using notDue
  simp only [State.rebuildStripe, first, own, fires, here, skipped]
  rfl

variable (unheld : s.rebuildHolds ns st = false) (due : runningFor n st (s.place w).effLog ≠ [])
include unheld due

theorem State.rebuildStripe_busy (busy : s.applying ns st = true ∨ s.fullWriting ns st = true) : s.rebuildStripe = s := by
  rw [State.rebuildFires_iff] at fires
  have working : (s.applying ns st || s.fullWriting ns st) = true := by simpa using busy
  simp only [State.rebuildStripe, first, own, fires, here, unheld, List.isEmpty_eq_false_iff.mpr due, working]
  rfl

theorem State.rebuildStripe_takes (applied : s.applying ns st = false) (written : s.fullWriting ns st = false) :
    s.rebuildStripe = s.stripeTaken w ns st n rest := by
  rw [State.rebuildFires_iff] at fires
  simp only [State.rebuildStripe, first, own, fires, here, unheld, List.isEmpty_eq_false_iff.mpr due, applied, written]
  rfl

end
end

/-! ### REBUILD_STRIPE_DONE (R167, R176) -/

section
variable {s : State} {ns st : Nat} {h : Hold}

/-- An event has the bit of a stripe held under it. -/
def LogEntry.stripeDone (h : Hold) (ns st : Nat) (e : LogEntry) : LogEntry :=
  if h.events.contains e.gen && !e.done then { e with bits := addNew e.bits (ns, st) } else e

/-- A stripe whose rows are written is recorded: its bit in each event, its completion record, and its hold. -/
def State.holdRecorded (h : Hold) (ns st : Nat) (s : State) : State :=
  ((s.modPlace h.wing fun p => { p with log := p.log.map (LogEntry.stripeDone h ns st) }).makeFinal 5 h.wing ns st
    (h.events.getLastD 0) (s.ns ns).layout).modHold ns st fun x => { x with recorded := true }

/-- Lost rows of a stripe make one record (R176). -/
def State.lossRecorded (h : Hold) (ns st : Nat) (s : State) : State :=
  if h.lostRows = 0 then s
  else s.record 6 0x7103 [(1, h.wing), (2, ns), (8, st), (4, h.lostRows), (4, h.lostBlocks)]

theorem exec_rebuildStripeDone_written (held : s.hold? ns st = some h) (written : h.rowsLeft = 0) (new : h.recorded = false) :
    exec (.rebuildStripeDone ns st) s =
      .next (State.settle (((s.holdRecorded h ns st).lossRecorded h ns st).eventsDone h.wing)) := by
  change execRebuildStripeDone ns st s = _
  simp only [execRebuildStripeDone, State.rebuildDone, held, written, new]
  rfl

theorem exec_rebuildStripeDone_unheld (unheld : s.hold? ns st = none) :
    exec (.rebuildStripeDone ns st) s = .next s.settle := by
  change execRebuildStripeDone ns st s = _
  simp only [execRebuildStripeDone, State.rebuildDone, unheld]

end

/-! ### PATROL_STRIPE (R180, R181) -/

section
variable {s t : State} {w st : Nat} {n : Namespace}

/-- The stripe at a wing's cursor, once the pass has begun: skipped, or a row job started for each of its rows. -/
def State.patrolTakes (w : Nat) (n : Namespace) (st : Nat) (s : State) : State :=
  if s.patrolSkips n st = true then (s.tick Obj.pe_patrol_skipped).setCursor w (s.patrolCursor w + 1)
  else State.limitedPump' ((List.range (layS n.layout)).foldl
    (fun t row => t.startJob { use := .patrol, nsid := n.nsid, stripe := st, row := row, cls := Bc.patrol })
    (s.modRb fun r => { r with patrolHeld := some (w, n.nsid, st), patrolDone := false, patrolOn := true }))

theorem exec_patrolStripe_noWing (noWing : ¬ (w = 1 ∨ w = 2)) : exec (.patrolStripe w) s = .next s := congrArg _ (if_neg noWing)

theorem exec_patrolStripe_wing (wing : w = 1 ∨ w = 2) : exec (.patrolStripe w) s = .next (s.patrolStripe w) :=
  congrArg _ (if_pos wing)

theorem State.patrolStripe_rests (freed : s.patrolOver = t)
    (rests : t.holdsWing w = false ∨ t.patrolRuns = false ∨ t.rb.patrolHeld.isSome = true ∨ t.rb.requests ≠ []) :
    s.patrolStripe w = t := by
  simp only [State.patrolStripe, freed]
  refine if_pos ?_
  simp only [Bool.or_eq_true, Bool.not_eq_true', List.isEmpty_eq_false_iff]
  tauto

theorem State.patrolStripe_takes (freed : s.patrolOver = t) (held : t.holdsWing w = true) (runs : t.patrolRuns = true)
    (free : t.rb.patrolHeld = none) (served : t.rb.requests = []) (begun : (t.rb.passStart.any fun p => p.1 == w) = true)
    (inside : t.patrolCursor w < sumN ((t.wingNs w).map nsStripes))
    (found : stripeAt (t.wingNs w) (t.patrolCursor w) = some (n, st)) :
    s.patrolStripe w = if sumN ((t.wingNs w).map nsStripes) ≤ (t.patrolTakes w n st).patrolCursor w
      then (t.patrolTakes w n st).passEnds w else t.patrolTakes w n st := by
  have any : sumN ((t.wingNs w).map nsStripes) ≠ 0 := by omega
  have noEnd : ¬ sumN ((t.wingNs w).map nsStripes) ≤ t.patrolCursor w := by omega
  simp only [State.patrolStripe, freed, held, runs, free, served, any, begun, noEnd, found, Bool.not_true, Option.isSome_none,
    List.isEmpty_nil, decide_false, Bool.or_self, Bool.false_eq_true, if_true, if_false]
  rfl

end

/-! ### PATROL_REWRITE (R184, R186) -/

section
variable {s t : State} {q : PatrolReq} {p : Nat × Nat}

/-- The stripe of a rewrite request is at rest, in a wing held. -/
def State.requestRests (s : State) (q : PatrolReq) : Bool :=
  s.holdsWing (s.ns q.nsid).wing && !s.applying q.nsid q.stripe && !s.fullWriting q.nsid q.stripe &&
    !s.rebuildHolds q.nsid q.stripe

/-- A rewrite request leaves the queue. -/
def State.requestTaken (q : PatrolReq) (s : State) : State :=
  s.modRb fun r => { r with requests := dropFirst (· == q) r.requests }

/-- The sector that a request rewrites, with its trailer. -/
def State.rewriteSector (s : State) (q : PatrolReq) (p : Nat × Nat) : Sector :=
  { lba := p.2 + q.row, data := q.data
    trl := mkTrailer q.sealNo (s.stripeGen (s.ns q.nsid) q.stripe q.member) (s.ns q.nsid).layout.toNat q.member
      { zero := q.data == 0 } q.data }

/-- The sector goes to its member's place. -/
def State.rewriteIssued (q : PatrolReq) (p : Nat × Nat) (s : State) : State :=
  (s.requestTaken q).writeMember p.1 (s.ns q.nsid).wing 12 Bc.patrol 0 (.patrolRewrite q.nsid q.stripe q.row q.member)
    [s.rewriteSector q p] []

theorem exec_patrolRewrite {u : State} (course : s.patrolRewrite = u) : exec .patrolRewrite s = .next u := congrArg _ course

section
variable (freed : s.patrolOver = t)
include freed

theorem State.patrolRewrite_closed (closed : t.rb.patrolHeld.isSome = true ∨ t.imageFires = false) : s.patrolRewrite = t := by
  simp only [State.patrolRewrite, freed]
  exact if_pos (by simpa using closed)

theorem State.patrolRewrite_empty (empty : t.rb.requests = []) : s.patrolRewrite = t := by
  simp only [State.patrolRewrite, freed, empty, List.find?_nil, ite_self]

variable (free : t.rb.patrolHeld = none) (fires : t.imageFires = true) (next : t.rb.requests.find? t.requestRests = some q)
include free fires next

theorem State.patrolRewrite_drops (gone : t.ns? q.nsid = none ∨ t.memberAt (t.ns q.nsid) q.stripe q.member = none) :
    s.patrolRewrite = t.requestTaken q := by
  unfold State.requestRests at next
  simp only [State.patrolRewrite, freed, free, fires, next]
  obtain unknown | nowhere := gone
  · simp [unknown, State.requestTaken]
  · simp [nowhere, State.requestTaken]

theorem State.patrolRewrite_writes (here : t.ns? q.nsid ≠ none) (lies : t.memberAt (t.ns q.nsid) q.stripe q.member = some p) :
    s.patrolRewrite = State.tick Obj.pe_patrol_rewrites 0
      (if q.member < layK (t.ns q.nsid).layout then (t.rewriteIssued q p).cacheCancelProv q.nsid
        (hostLba (t.ns q.nsid).layout q.stripe q.member q.row) else t.rewriteIssued q p) := by
  unfold State.requestRests at next
  have known : (t.ns? q.nsid).isNone = false := by simpa [Option.isSome_iff_ne_none] using here
  simp only [State.patrolRewrite, freed, free, fires, next, known, lies]
  rfl

end
end

/-! ### RETURN_EVENT (R143, R569) -/

section
variable {s : State} {w bay : Nat}

/-- A RETURN of a bay may enter a wing's log: the wing is held, the accepted drive waits for it, and 25 entries are free. -/
def State.mayReturn (s : State) (w bay : Nat) : Prop :=
  s.holdsWing w = true ∧ (s.place w).waitingReturn.contains bay = true ∧ s.bayInUse bay = true ∧
    (s.place w).log.length + 25 ≤ 64 ∧ (s.place w).pendingLoss.contains bay = false

theorem State.not_mayReturn_iff : ¬ s.mayReturn w bay ↔ s.holdsWing w = false ∨
    (s.place w).waitingReturn.contains bay = false ∨ s.bayInUse bay = false ∨ 64 < (s.place w).log.length + 25 ∨
    (s.place w).pendingLoss.contains bay = true := by
  simp only [State.mayReturn, not_and_or, Bool.not_eq_true, Bool.not_eq_false, Nat.not_le]

theorem exec_returnEvent_enters (may : s.mayReturn w bay) : exec (.returnEvent w bay) s =
    .next (State.descRequest ((s.modPlace w fun q => { q with
      gen := genNext (s.place w).gen
      log := q.log ++ [{ gen := genNext (s.place w).gen, loss := false, bay := bay, start := s.gh.now }]
      waitingReturn := q.waitingReturn.filter (· != bay) }).modRb fun r => { r with reorder := true })) := by
  obtain ⟨held, waiting, inUse, room, noLoss⟩ := may
  exact congrArg _ (if_pos (by simp only [held, waiting, inUse, room, noLoss, decide_true, Bool.not_false, Bool.and_self]))

theorem exec_returnEvent_kept (may : ¬ s.mayReturn w bay) : exec (.returnEvent w bay) s = .next s := by
  refine congrArg _ (if_neg fun granted => may ?_)
  simpa only [State.mayReturn, Bool.and_eq_true, decide_eq_true_eq, Bool.not_eq_true', and_assoc] using granted

end

/-- Settles O38: the course of the first stripe of the order and of a stripe written, of the stripe at the patrol's cursor, of a
rewrite request, and of a RETURN. -/
theorem rebuildAndNightWatchProceed : Obligations.RebuildAndNightWatchProceed := by
  unfold Obligations.RebuildAndNightWatchProceed
  refine ⟨fun s tier w ns st rest h n => ⟨fun empty => exec_rebuildStripe (State.rebuildStripe_empty empty), fun first => ?order,
    exec_rebuildStripeDone_written, exec_rebuildStripeDone_unheld⟩, fun s w bay q n st p => ⟨?noWing, exec_patrolStripe_wing,
    State.patrolStripe_rests rfl, State.patrolStripe_takes rfl, fun empty => exec_patrolRewrite (State.patrolRewrite_empty rfl empty),
    fun closed => exec_patrolRewrite (State.patrolRewrite_closed rfl closed), fun free fires next => ?request,
    fun held waiting inUse room noLoss => exec_returnEvent_enters ⟨held, waiting, inUse, room, noLoss⟩,
    fun may => exec_returnEvent_kept (State.not_mayReturn_iff.mpr may)⟩⟩
  case order =>
    refine ⟨fun foreign => exec_rebuildStripe (State.rebuildStripe_foreign first foreign),
      fun own rests => exec_rebuildStripe (State.rebuildStripe_rests first own (State.not_rebuildFires_iff.mpr rests)),
      fun own image rate => ?fires⟩
    have fires : s.rebuildFires tier := ⟨image, rate⟩
    exact ⟨fun unknown => exec_rebuildStripe (State.rebuildStripe_unknown first own fires unknown),
      fun here notDue => exec_rebuildStripe (State.rebuildStripe_notDue first own fires here notDue), fun here unheld due =>
      ⟨fun busy => exec_rebuildStripe (State.rebuildStripe_busy first own fires here unheld due busy), fun applied written =>
        exec_rebuildStripe (State.rebuildStripe_takes first own fires here unheld due applied written)⟩⟩
  case noWing =>
    rintro ⟨one, two⟩
    exact exec_patrolStripe_noWing (not_or.mpr ⟨one, two⟩)
  case request =>
    exact ⟨fun gone => exec_patrolRewrite (State.patrolRewrite_drops rfl free fires next gone),
      fun here lies => exec_patrolRewrite (State.patrolRewrite_writes rfl free fires next here lies)⟩

end Sys2Proof.Machine
end

section
/-! The power-fail trip, the entry to Holdup, and how the flush and the hold-up stage end (R206 to R211, R227, R441). -/

namespace Sys2Proof.Machine

section
variable {s : State}

/-! ### What records leave -/

theorem State.record_tt (sev code : Nat) (p : List (Nat × Nat)) : (s.record sev code p).tt = s.tt :=
  (State.record_moves (.refl 0x200001 s) (.refl _)).frame .tt rfl

theorem State.record_lg (sev code : Nat) (p : List (Nat × Nat)) : (s.record sev code p).lg = s.lg :=
  (State.record_moves (.refl 0x200001 s) (.refl _)).frame .lg rfl

/-! ### The hold-up stage starts (R207, R441) -/

theorem State.stageStart_gh_stage : s.stageStart.gh.charging = false ∧ s.stageStart.gh.igate = false ∧
    s.stageStart.gh.huDrv = true ∧ s.stageStart.gh.bankState = 4 := ⟨rfl, rfl, rfl, rfl⟩

/-- The state once the Holdup is counted, the mode has changed and the stage has started: the links and clocks that the light
profile then takes down are still up (R207, R227). -/
def State.holdupStaged (s : State) : State := ((s.tick Obj.gh_tally_holdups).setMode .holdup 4).stageStart

theorem State.holdupStaged_moves {m : Nat} {s₀ : State} (h : Moves m s₀ s) (all : Sub 0x260001 m) :
    Moves m s₀ s.holdupStaged :=
  State.stageStart_moves (State.setMode_moves (State.tick_moves h (.of all rfl)) (.of all rfl)) (.of all rfl)

theorem State.holdupStaged_md : s.holdupStaged.md = { s.md with mode := .holdup } := by
  change ((s.tick Obj.gh_tally_holdups).setMode .holdup 4).md = _
  rw [State.setMode_md]
  exact congrArg (fun m : ModeSt => { m with mode := .holdup }) ((State.tick_moves (.refl 1 s) (.refl _)).frame .md rfl)

/-- The flush that a trip makes due (R207, R209). -/
def State.flushDue (s : State) : FlushSt := { image := s.lg.nextImage, total := 0, start := s.gh.now }

/-- The state in which Holdup is entered, but for its record: the pattern and the flush are due (R207, R208). -/
def State.holdupDue (s : State) : State :=
  ((s.holdupStaged.goDark.modTt fun t => { t with holdupPend := true, activatePend := none }).modBook fun b =>
    { b with copying := false }).modLg fun l => { l with
      flushSeq := if s.wingBits = 0 then l.flushSeq else l.flushSeq + 1, flush := some s.flushDue }

theorem State.enterHoldup_eq : s.enterHoldup = s.holdupDue.record 6 0x8020
    [(8, s.slabUsed), (1, s.lg.nextImage), (8, s.holdupDue.lg.flushSeq)] := rfl

/-! What the light profile takes down leaves mode, gatehouse and timetable as they are (R227). -/

theorem State.goDark_md : s.goDark.md = s.md := (State.goDark_moves (.refl 0x71eae1 s) (.refl _)).frame .md rfl

theorem State.goDark_gh : s.goDark.gh = s.gh := (State.goDark_moves (.refl 0x71eae1 s) (.refl _)).frame .gh rfl

theorem State.goDark_tt : s.goDark.tt = s.tt := (State.goDark_moves (.refl 0x71eae1 s) (.refl _)).frame .tt rfl

theorem State.enterHoldup_md : s.enterHoldup.md = { s.md with mode := .holdup } := by
  rw [State.enterHoldup_eq, State.record_md, State.holdupDue, State.modLg_md, State.modBook_md, State.modTt_md,
    State.goDark_md, State.holdupStaged_md]

theorem State.enterHoldup_gh : s.enterHoldup.gh = s.holdupStaged.gh := by
  rw [State.enterHoldup_eq, State.record_gh, State.holdupDue, State.modLg_gh, State.modBook_gh, State.modTt_gh,
    State.goDark_gh]

theorem State.enterHoldup_tt : s.enterHoldup.tt = { s.tt with holdupPend := true, activatePend := none } := by
  have due : s.holdupDue.tt = { s.holdupStaged.goDark.tt with holdupPend := true, activatePend := none } := rfl
  have staged : s.holdupStaged.tt = s.tt := (State.holdupStaged_moves (.refl 0x260001 s) (.refl _)).frame .tt rfl
  rw [State.enterHoldup_eq, State.record_tt, due, State.goDark_tt, staged]

theorem State.enterHoldup_flush : s.enterHoldup.lg.flush = some s.flushDue := by
  rw [State.enterHoldup_eq, State.record_lg]
  rfl

/-! ### A trip under the full profile takes nothing down (R207, R227) -/

theorem State.get_setMode (m : Mode) (cause : Nat) {ix sub : Nat} (below : objKey ix sub < 0xC000 * 256) :
    (s.setMode m cause).get ix sub = s.get ix sub := by
  unfold State.setMode
  split
  · rfl
  · exact State.get_record _ _ _ _ below

theorem State.get_flushProfile_holdupStaged : s.holdupStaged.get Obj.lg_flush_profile = s.get Obj.lg_flush_profile :=
  calc s.holdupStaged.get Obj.lg_flush_profile
    _ = ((s.tick Obj.gh_tally_holdups).setMode .holdup 4).get Obj.lg_flush_profile := rfl
    _ = (s.tick Obj.gh_tally_holdups).get Obj.lg_flush_profile := State.get_setMode _ _ (by decide)
    _ = s.get Obj.lg_flush_profile := s.get_count_ne 1 (by decide)

theorem State.goDark_holdupStaged (bright : s.get Obj.lg_flush_profile ≠ 1) : s.holdupStaged.goDark = s.holdupStaged := by
  refine if_neg fun dark => bright ?_
  rw [State.dark, Bool.and_eq_true, beq_iff_eq, beq_iff_eq] at dark
  exact State.get_flushProfile_holdupStaged.symm.trans dark.2

theorem State.holdupDue_moves_of_bright (bright : s.get Obj.lg_flush_profile ≠ 1) : Moves 0x260811 s s.holdupDue := by
  have all := Sub.refl 0x260811
  unfold State.holdupDue
  rw [State.goDark_holdupStaged bright]
  exact State.modLg_moves _ (State.modBook_moves _ (State.modTt_moves _
    (State.holdupStaged_moves (.refl _ s) (.of all rfl)) (.of all rfl)) .refl .refl (.of all rfl)) (.of all rfl)

theorem State.enterHoldup_of_bright (bright : s.get Obj.lg_flush_profile ≠ 1) :
    s.enterHoldup = { s with
      objs := s.enterHoldup.objs, md := { s.md with mode := .holdup }, gh := s.enterHoldup.gh, tt := s.enterHoldup.tt
      book := s.enterHoldup.book, lg := s.enterHoldup.lg } := by
  have moved : Moves 0x260811 s s.enterHoldup :=
    State.record_moves (State.holdupDue_moves_of_bright bright) (.of (.refl _) rfl)
  rw [← State.enterHoldup_md]
  exact moved.whole

theorem State.enterHoldup_lg_of_bright (bright : s.get Obj.lg_flush_profile ≠ 1) :
    s.enterHoldup.lg = { s.lg with
      flush := some s.flushDue
      flushSeq := s.lg.flushSeq + (if s.wingBits = 0 then 0 else 1) } := by
  have due : s.holdupDue.lg = { s.holdupStaged.goDark.lg with
      flushSeq := if s.wingBits = 0 then s.holdupStaged.goDark.lg.flushSeq else s.holdupStaged.goDark.lg.flushSeq + 1
      flush := some s.flushDue } := rfl
  have staged : s.holdupStaged.lg = s.lg := (State.holdupStaged_moves (.refl 0x260001 s) (.refl _)).frame .lg rfl
  rw [State.enterHoldup_eq, State.record_lg, due, State.goDark_holdupStaged bright, staged, add_ite]
  rfl

/-! ### The trip (R206, R207, R441) -/

/-- Enough comparators saw the node below its threshold: the vote of R206. -/
def State.tripVoted (s : State) (seen : List Bool) : Prop :=
  s.gh.powered = true ∧ s.pfVote ≠ 0 ∧
    s.pfVote ≤ ((List.range 3).filter fun i => seen.getD i false && s.lg.comparators.getD i 1 != 1).length

variable {seen : List Bool}

theorem State.tripVoted.not_refused (voted : s.tripVoted seen) : ¬ ((!s.gh.powered) = true ∨ s.pfVote = 0 ∨
    ((List.range 3).filter fun i => seen.getD i false && s.lg.comparators.getD i 1 != 1).length < s.pfVote) := by
  obtain ⟨powered, vote, votes⟩ := voted
  simp only [powered, vote, Nat.not_lt.mpr votes, Bool.not_true, Bool.false_eq_true, or_self, not_false_eq_true]

theorem exec_pfTrip_enterHoldup (voted : s.tripVoted seen)
    (mode : s.md.mode = .service ∨ s.md.mode = .standby ∨ s.md.mode = .drain) :
    exec (.pfTrip seen) s = .next s.enterHoldup := by
  change execPfTrip seen s = _
  simp only [execPfTrip]
  rw [if_neg voted.not_refused]
  rcases mode with service | standby | drain
  · rw [service]
  · rw [standby]
  · rw [drain]

theorem exec_pfTrip_muster (voted : s.tripVoted seen) (mode : s.md.mode = .muster) :
    exec (.pfTrip seen) s = .next ((if s.feedValid then s else s.bleedResidue).enterVigil true 4) := by
  change execPfTrip seen s = _
  simp only [execPfTrip]
  rw [if_neg voted.not_refused, mode]

/-! ### The flush ends (R208, R211) -/

theorem exec_flushEndPage_ends {f : FlushSt} (mw : Nat) (flush : s.lg.flush = some f) (mode : s.md.mode = .holdup)
    (begun : f.boundary = true) (last : f.total ≤ f.pages + 1) (pages : f.total ≠ 0) :
    exec (.flushEndPage mw) s = .next (
      let u := ((s.vaultWrite f.image (f.total - 1)).flushWritten true).record 4 0x8021
        [(8, f.total * 4096), (8, s.gh.now - f.start), (4, mw)]
      let v := (u.put Obj.lg_last_flush_bytes 0 (f.total * 4096)).put Obj.lg_last_flush_time 0 (s.gh.now - f.start)
      if v.get Obj.lg_flush_power_measured = mw then v.stageStop
      else ((v.put Obj.lg_flush_power_measured 0 mw).modLg fun l => { l with recompute := true }).stageStop) := by
  have ends : ¬ (s.md.mode ≠ .holdup ∨ f.boundary = false ∨ f.pages + 1 < f.total) := by
    simp only [mode, begun, Nat.not_lt.mpr last, ne_eq, not_true_eq_false, Bool.true_eq_false, or_self, not_false_eq_true]
  change execFlushEndPage mw s = _
  simp only [execFlushEndPage, flush]
  rw [if_neg ends, if_neg pages]
  exact congrArg _ (apply_ite State.stageStop ..)

theorem exec_bankFloorReached_cuts {f : FlushSt} (flush : s.lg.flush = some f) (mode : s.md.mode = .holdup)
    (stage : s.gh.huDrv = true) (short : f.total ≠ 0 ∨ f.boundary = false) :
    exec .bankFloorReached s = .next ((s.flushWritten false).tick Obj.gh_tally_partial_flushes).stageStop := by
  have cut : s.flushCut = (s.flushWritten false).tick Obj.gh_tally_partial_flushes := by
    simp only [State.flushCut, flush]
    exact if_neg fun empty => short.elim (· empty.1) fun waiting => Bool.false_ne_true (waiting.symm.trans empty.2)
  rw [← cut]
  exact congrArg _ (if_pos ⟨mode, by rw [flush]; rfl, stage⟩)

/-! ### The stage stops (R210, R441) -/

theorem State.stageStop_of_fed (fed : s.feedValid = true) :
    s.stageStop = ({ s with gh := { s.gh with
      huDrv := false, igate := true, bankState := 1, charging := true, chargeAt := s.gh.ticks, chargeLogged := false
      board := { s.gh.board with on := true, onTicks := 0, goodTicks := 0 } } } : State).warmReset 3 := if_pos fed

theorem State.stageStop_of_unfed (unfed : s.feedValid = false) : s.stageStop = s.bleedResidue :=
  if_neg (by simp [unfed])

end

/-- A voted trip out of Service, Standby or Drain: the entry to Holdup, whole but for what the light profile takes down (R207). -/
theorem pfTrip_entersHoldup {s : State} {seen : List Bool} (voted : s.tripVoted seen)
    (mode : s.md.mode = .service ∨ s.md.mode = .standby ∨ s.md.mode = .drain) :
    ∃ t, exec (.pfTrip seen) s = .next t ∧ t.md.mode = .holdup ∧ t.gh.charging = false ∧ t.gh.igate = false ∧
      t.gh.huDrv = true ∧ t.gh.bankState = 4 ∧ t.tt = { s.tt with holdupPend := true, activatePend := none } ∧
      t.lg.flush = some s.flushDue ∧
      (s.get Obj.lg_flush_profile ≠ 1 →
        t.lg = { s.lg with flush := some s.flushDue, flushSeq := s.lg.flushSeq + (if s.wingBits = 0 then 0 else 1) } ∧
        t = { s with
          objs := t.objs, md := { s.md with mode := .holdup }, gh := t.gh, tt := t.tt, book := t.book, lg := t.lg }) := by
  obtain ⟨charging, igate, huDrv, bank⟩ := State.stageStart_gh_stage (s := (s.tick Obj.gh_tally_holdups).setMode .holdup 4)
  have staged : s.enterHoldup.gh = ((s.tick Obj.gh_tally_holdups).setMode .holdup 4).stageStart.gh := State.enterHoldup_gh
  refine ⟨s.enterHoldup, exec_pfTrip_enterHoldup voted mode, ?_, ?_, ?_, ?_, ?_, State.enterHoldup_tt, State.enterHoldup_flush,
    fun bright => ⟨State.enterHoldup_lg_of_bright bright, State.enterHoldup_of_bright bright⟩⟩
  · rw [State.enterHoldup_md]
  · rw [staged, charging]
  · rw [staged, igate]
  · rw [staged, huDrv]
  · rw [staged, bank]

/-- Settles O20: a trip by its mode, the end page and the bank's floor by the flush they find, the stage's end by the feeds. -/
theorem holdupFlushesAndEnds : Obligations.HoldupFlushesAndEnds := by
  unfold Obligations.HoldupFlushesAndEnds
  refine ⟨fun s seen powered vote votes => ?trip, fun s mw f flush mode => ⟨exec_flushEndPage_ends mw flush mode,
    exec_bankFloorReached_cuts flush mode, State.stageStop_of_fed, fun unfed => ?bleeds⟩⟩
  case trip =>
    have voted : s.tripVoted seen := ⟨powered, vote, votes⟩
    exact ⟨pfTrip_entersHoldup voted, exec_pfTrip_muster voted⟩
  case bleeds =>
    rw [State.stageStop_of_unfed unfed]
    exact ⟨rfl, rfl, rfl, rfl⟩

end Sys2Proof.Machine
end

section
/-! What the cells of the journal, the vault and the sister link do with their transfers (R201, R208, R209, R236, R240, R260). -/

namespace Sys2Proof.Machine

section
variable {s u : State} {t : Transfer} {bed : Option Nat}

/-! ### The vault (R208, R209) -/

theorem State.vaultOut_flush_last {f : FlushSt} (flush : s.lg.flush = some f) (last : f.total ≤ f.pages + 2) :
    s.vaultOut =
      (s.vaultWrite f.image f.pages).modLg fun l => { l with flush := some { f with pages := f.pages + 1 } } := by
  simp only [State.vaultOut, flush]
  exact if_neg (by omega)

theorem State.vaultOut_flush_more {f : FlushSt} (flush : s.lg.flush = some f) (more : f.pages + 2 < f.total) :
    s.vaultOut = ((s.vaultWrite f.image f.pages).modLg fun l => { l with flush := some { f with pages := f.pages + 1 } }).push
      Bc.vault Opc.vault none (some 0x50) 0 (.vaultPage (f.pages + 1)) := by
  simp only [State.vaultOut, flush]
  exact if_pos more

theorem State.vaultOut_reading_last {i : Nat} (flush : s.lg.flush = none) (reading : s.lg.vaultRead = some (i, 1)) :
    s.vaultOut = s.modLg fun l => { l with vaultRead := some (i, 0) } := by
  simp only [State.vaultOut, flush, reading]
  rfl

/-! ### The sister link (R236, R240, R260) -/

/-- The earliest frame due of the leg's packet is among the outputs (R236). -/
theorem State.mem_out_legFrameOut {leg : Nat} {p : LegPacket}
    (due : s.si.packets.find? (fun p => p.leg == leg && !p.frames.isEmpty) = some p) :
    .sisterFrame (p.frames.headD []) ∈ (s.legFrameOut leg).settle.out := by
  have whole := Sub.refl 0xffffff
  simp only [State.legFrameOut, due]
  refine Moves.mem_out (m := 0xffffff) (State.settle_moves (.ite ?lastFrame (.refl _ _)))
  exact State.tick_moves (State.copiesSent_moves (.refl _ _))

theorem State.snapFrameOut_cons {x : List Byte} {more : List (List Byte)} (frames : s.si.snapshot = x :: more) :
    s.snapFrameOut = (s.modSi fun i => { i with snapshot := more }).emit (.sisterFrame x) := by
  simp only [State.snapFrameOut, frames]

theorem State.shadowFrameIn_more {p : LegPacket} {rest : List LegPacket} (first : s.si.incoming = p :: rest)
    (more : 2 ≤ p.framesLeft) :
    s.shadowFrameIn = s.modSi fun i => { i with incoming := { p with framesLeft := p.framesLeft - 1 } :: rest } := by
  simp only [State.shadowFrameIn, first]
  exact if_neg (by omega)

theorem State.shadowFrameIn_last {p : LegPacket} {rest : List LegPacket} (first : s.si.incoming = p :: rest)
    (last : p.framesLeft ≤ 1) :
    s.shadowFrameIn = ((s.modSi fun i => { i with incoming := rest }).sisterMsgs fun n => n - 1).packetShadowed
      { p with framesLeft := 0 } := by
  simp only [State.shadowFrameIn, first]
  exact if_pos last

/-! ### The families' effects -/

section
variable (cell : CellWord)

theorem runJournal_journal {bay w j : Nat} (job : t.job = .journal bay w j) :
    runJournal cell t bed u = (u.returnBed bed).journalOut bay w j := by
  simp only [runJournal, job]

theorem runVault_vaultPage {k : Nat} (job : t.job = .vaultPage k) : runVault cell t bed u = (u.returnBed bed).vaultOut := by
  simp only [runVault, job]

theorem runVault_vaultConsumed (job : t.job = .vaultConsumed) : runVault cell t bed u = (u.returnBed bed).consumedOut := by
  simp only [runVault, job]

theorem runSisterOut_legFrame {leg k : Nat} (job : t.job = .legFrame leg k) :
    runSisterOut cell t bed u = (u.returnBed bed).legFrameOut leg := by
  simp only [runSisterOut, job]

theorem runSisterOut_snapshotFrame {k : Nat} (job : t.job = .snapshotFrame k) :
    runSisterOut cell t bed u = (u.returnBed bed).snapFrameOut := by
  simp only [runSisterOut, job]

theorem runSisterIn_shadowFrame {k : Nat} (job : t.job = .shadowFrame k) :
    runSisterIn cell t bed u = (u.returnBed bed).shadowFrameIn := by
  simp only [runSisterIn, job]

end

end

/-- Settles O36: each family's effect by the course of a cell that carries a transfer, then by what its vault, snapshot or shadow
still holds. -/
theorem copyCellsMoveTheirTransfer : Obligations.CopyCellsMoveTheirTransfer := by
  unfold Obligations.CopyCellsMoveTheirTransfer
  intro s u slot lane word bay w j leg k i t bed f p y rest x more
  refine ⟨?journal, fun carried => ⟨?consumed, fun job => ?page⟩, fun carried => ⟨fun job => ?legFrame,
    fun job frames => ?snapshot⟩, fun carried job first => ?shadow⟩
  case journal => exact fun carried job => exec_of_effect carried fun cell => runJournal_journal cell job
  case consumed => exact fun job => exec_of_effect carried fun cell => runVault_vaultConsumed cell job
  case page =>
    have moves {v : State} (out : u.vaultOut = v) : exec (.vault slot lane word) s = .next v.settle :=
      exec_of_effect carried fun cell => (runVault_vaultPage cell job).trans out
    exact ⟨fun flush last => moves (State.vaultOut_flush_last flush last),
      fun flush more => moves (State.vaultOut_flush_more flush more),
      fun flush reading => moves (State.vaultOut_reading_last flush reading)⟩
  case legFrame => exact ⟨exec_of_effect carried fun cell => runSisterOut_legFrame cell job, State.mem_out_legFrameOut⟩
  case snapshot =>
    exact exec_of_effect carried fun cell => (runSisterOut_snapshotFrame cell job).trans (State.snapFrameOut_cons frames)
  case shadow =>
    have moves {v : State} (shadowed : u.shadowFrameIn = v) : exec (.sisterIn slot lane word) s = .next v.settle :=
      exec_of_effect carried fun cell => (runSisterIn_shadowFrame cell job).trans shadowed
    exact ⟨fun later => moves (State.shadowFrameIn_more first later), fun last => moves (State.shadowFrameIn_last first last)⟩

end Sys2Proof.Machine
end

section
/-! The lantern: the holder's silence, the warden's session and its answers, the fallback, drives asked, won and lost, and conflicts
on a write (R233 to R235, R247 to R255, R490, R495). -/

namespace Sys2Proof.Machine

section
variable {s u : State} {w claim lease key reason n : Nat} {m : FieldMsg}

/-! ### Silence of the holder (R249) -/

theorem exec_holderSilence_late (late : s.get Obj.si_silence_legs ≤ s.si.silence) :
    exec (.holderSilence w) s = .next (s.holderFailed w 1) := congrArg _ (if_pos late)

theorem exec_holderSilence_early (early : s.si.silence < s.get Obj.si_silence_legs) : exec (.holderSilence w) s = .next s :=
  congrArg _ (if_neg (by omega))

/-! ### The session to the warden (R490, R493, R495) -/

section
variable {session : Nat} {nonce dk sig body : List Byte}

section
variable (arrived : s.fieldGot none (msgBytes (nonce ++ dk ++ sig) false) = u)
include arrived

theorem exec_challenge_unasked (unasked : u.si.wardenSession ≠ 1) : exec (.challenge session nonce dk sig) s = .next u := by
  subst arrived
  exact congrArg _ (if_neg unasked)

section
variable (asked : u.si.wardenSession = 1)
include asked

theorem exec_challenge_stranger (stranger : u.credential 1 dk = none) :
    exec (.challenge session nonce dk sig) s = .next (u.modSi fun i => { i with wardenSession := 0 }) := by
  subst arrived
  refine congrArg _ ((if_pos asked).trans ?_)
  rw [stranger]

/-- A credential matches: the signature decides (R493). -/
theorem exec_challenge_known {e : Nat} (known : u.credential 1 dk = some e) :
    exec (.challenge session nonce dk sig) s = .next (
      if Config.mldsaVerify dk "KA2460 FIELD D" (sha3Bytes (u.helloBody ++ nonce ++ dk)) sig then
        State.fieldSend none session 3 0 0
          (Config.mldsaSign "KA2460 FIELD C" (sha3Bytes (u.helloBody ++ nonce ++ dk ++ sig))) none
          (u.modSi fun i => { i with
            wardenSession := 2, wardenId := session
            wardenKs := sessionKey (u.credSecret e) (leBytes 32 u.si.wardenNonce ++ nonce) session })
      else u.modSi fun i => { i with wardenSession := 0 }) := by
  subst arrived
  refine congrArg _ ((if_pos asked).trans ?_)
  rw [known]

end

end

theorem exec_authOk_opens (arrived : s.fieldGot none (msgBytes body true) = u) (challenged : u.si.wardenSession = 2)
    (named : m.session = u.si.wardenId) (counted : m.counter ≠ 0)
    (tagged : m.tag = msgTag u.si.wardenKs 4 m.session m.counter m.request body) :
    exec (.authOk m body) s = .next (u.si.wardenOut.foldl (fun v x => v.lanternOut x.1 x.2) (u.modSi fun i => { i with
      wardenSession := 3, wardenRx := m.counter, wardenOut := [] })) := by
  subst arrived
  exact congrArg _ ((if_pos ⟨challenged, named, tagged⟩).trans (if_neg counted))

end

/-! ### The warden's answers (R248, R250, R253, R258) -/

section
variable (arrived : s.fieldGot none 80 = u)
include arrived

theorem exec_wardenRefuse_dropped (dropped : u.fromWarden m (lanternBody 4 w 0 claim 0 lease) = false) :
    exec (.wardenRefuse m w claim lease) s = .next (u.wardenDrop m (lanternBody 4 w 0 claim 0 lease)) := by
  subst arrived
  exact congrArg _ (if_pos (by rw [dropped]; rfl))

theorem exec_wardenGrant_dropped (dropped : u.fromWarden m (lanternBody 3 w 0 claim 0 lease) = false) :
    exec (.wardenGrant m w claim lease) s = .next (u.wardenDrop m (lanternBody 3 w 0 claim 0 lease)) := by
  subst arrived
  exact congrArg _ (if_pos (by rw [dropped]; rfl))

/-- A REFUSE answers a REQUEST of a wing, or a RENEW of a wing held. -/
theorem exec_wardenRefuse_accepted (accepted : u.fromWarden m (lanternBody 4 w 0 claim 0 lease) = true) :
    exec (.wardenRefuse m w claim lease) s = .next (
      let v := ((u.wardenHeard w m.counter (u.wing w).lease).sawClaim w claim).record 4 0xB005 [(1, w), (8, claim), (4, lease)]
      if (u.wing w).request.isSome then
        if (u.wing w).takeover.isSome then v.standBy w else v.modWingSt w fun y => { y with handback := 0 }
      else if u.holdsWing w then v.yieldDue w claim 3 else v) := by
  subst arrived
  exact congrArg _ (if_neg (by simp [accepted]))

/-- The state in which a GRANT has been heard and its lease runs. -/
def State.grantHeard (w counter lease : Nat) (s : State) : State :=
  (s.wardenHeard w counter lease).modWingSt w fun y => { y with leaseEnd := s.gh.now + lease * 1000 }

section
variable (accepted : u.fromWarden m (lanternBody 3 w 0 claim 0 lease) = true)
include accepted

theorem exec_wardenGrant_requested (requested : (u.wing w).request = some (reason, n)) :
    exec (.wardenGrant m w claim lease) s = .next
      (((u.grantHeard w m.counter lease).sawClaim w claim).takeNow w (if reason = 3 then 3 else 1) claim false) := by
  subst arrived
  change execWardenGrant m w claim lease s = _
  simp only [execWardenGrant, accepted, requested, Bool.not_true, Bool.false_eq_true, if_false]
  rfl

/-- No REQUEST waits: the lease of a wing held goes on, or a cold spare is promoted for wing 1. -/
theorem exec_wardenGrant_unrequested (unrequested : (u.wing w).request = none) :
    exec (.wardenGrant m w claim lease) s = .next (
      let v := u.grantHeard w m.counter lease
      if u.holdsWing w then v
      else if w = 1 ∧ u.heldForPromotion ∧ u.singleShelf then (v.sawClaim 1 claim).promote (some claim)
      else v) := by
  subst arrived
  change execWardenGrant m w claim lease s = _
  simp only [execWardenGrant, accepted, unrequested, Bool.not_true, Bool.false_eq_true, if_false]
  rfl

end

end

/-! ### The warden's silence (R248, R250, R261) -/

theorem exec_lanternResend_request (requested : (s.wing w).request = some (reason, n)) :
    exec (.lanternResend w) s =
      .next ((s.modWingSt w fun y => { y with request := some (reason, n + 1) }).sendLantern 2 w) := by
  change execLanternResend w s = _
  simp only [execLanternResend, requested]

section
variable (unrequested : (s.wing w).request = none) (first : (s.wing w).renewFirst = true)
include unrequested first

theorem exec_lanternResend_renew (renews : s.renews = true) : exec (.lanternResend w) s = .next (s.sendLantern 1 w) := by
  change execLanternResend w s = _
  simp only [execLanternResend, unrequested, first, renews, and_self, if_true]

theorem exec_wardenTimeout_renew :
    exec (.wardenTimeout w) s = .next (State.modWingSt w (fun y => { y with renewFirst := false })
      (s.modSi fun i => { i with wardenState := if s.hasWarden then 2 else 0 })) := by
  change execWardenTimeout w s = _
  simp only [execWardenTimeout, unrequested, first, if_true]

end

/-- The state in which a wing's REQUEST is given up after `n` messages (R250). -/
def State.requestLapsed (w n : Nat) (s : State) : State :=
  ((s.modSi fun i => { i with wardenState := if s.hasWarden then 2 else 0 }).modWingSt w fun y =>
    { y with request := none }).record 5 0xB006 [(1, w), (4, n)]

/-- A REQUEST without a reply: a hand-back goes on, the fallback needs the other sister to be silent for 5 ms (R250, R261). -/
theorem exec_wardenTimeout_request (requested : (s.wing w).request = some (reason, n)) :
    exec (.wardenTimeout w) s = .next (
      let u := s.requestLapsed w n
      let stay := if (s.wing w).takeover.isSome then u.standBy w else u
      if reason = 3 then u.takeNow w 3 (u.nextClaim w) false
      else if s.get Obj.si_fallback_enable = 0 then stay
      else if s.si.silent = false ∨ s.gh.now < s.si.sbSilentAt + 5000000 then stay
      else u.modWingSt w fun y => { y with holdoff := true }) := by
  change execWardenTimeout w s = _
  simp only [execWardenTimeout, requested, Bool.not_eq_true']
  rfl

theorem exec_holdoffExpiry_due (due : (s.wing w).holdoff = true) :
    exec (.holdoffExpiry w key) s = .next (s.holdoffEnd w key) := congrArg _ (if_pos due)

theorem exec_holdoffExpiry_idle (idle : (s.wing w).holdoff = false) : exec (.holdoffExpiry w key) s = .next s :=
  congrArg _ (if_neg (by simp [idle]))

/-! ### RENEW (R248, R258) -/

theorem exec_renew_renews (renews : s.renews = true) :
    exec .renew s = .next (s.heldWings.foldl (fun u x => u.sendLantern 1 x) s) := congrArg _ (if_pos renews)

theorem exec_renew_hello (silent : s.renews = false) (held : s.heldForPromotion = true) (warden : s.hasWarden = true)
    (closed : s.si.wardenSession = 0) : exec .renew s = .next s.helloWarden :=
  congrArg _ ((if_neg (by simp [silent])).trans (if_pos ⟨held, warden, closed⟩))

/-! ### Drives asked and won (R233) -/

section
variable {bay holder : Nat} {keys : List Nat} {good : Bool} {d : DriveCmd}

/-- The command of a takeover of a wing that a bay is working on. -/
def State.preemptCmd? (s : State) (w bay : Nat) : Option DriveCmd :=
  s.drives.cmds.find? fun x => x.bay == bay && (x.use == .preempt w 1 || x.use == .preempt w 2)

theorem exec_driveWon_unasked (unasked : s.preemptCmd? w bay = none) :
    exec (.driveWon w bay holder keys good) s = .next s := by
  unfold State.preemptCmd? at unasked
  change execDriveWon w bay holder keys good s = _
  simp only [execDriveWon, State.driveWonBy, unasked]

section
variable (asked : s.preemptCmd? w bay = some d)
include asked

/-- The report of the reservation: at Muster it may decide the wing, in a takeover the drive is judged. -/
theorem exec_driveWon_report (report : d.use = .preempt w 1) :
    exec (.driveWon w bay holder keys good) s = .next (
      let v := State.modTake w (fun x => { x with reports := assign x.reports bay holder })
        ((holder :: keys).foldl (fun u k => u.sawClaim w k) (s.dropDriveCmd bay 0 d.cid))
      if ((v.wing w).takeover.map (·.claim)).getD 0 = 0 then (v.musterDecide w).takeCheck w
      else (v.judgeDrive w bay holder).takeCheck w) := by
  unfold State.preemptCmd? at asked
  change execDriveWon w bay holder keys good s = _
  simp only [execDriveWon, State.driveWonBy, asked, report, if_true]

/-- The Acquire: a drive that gives the reservation is won and goes on with the commands of its queues. -/
theorem exec_driveWon_acquire (acquire : d.use = .preempt w 2) :
    exec (.driveWon w bay holder keys good) s = .next (
      if good then [1, 2, 3, 4, 5, 6, 7, 8, 9, 10, 11, 12].foldl (fun u q => u.ringNext bay q)
        (State.takeCheck w (State.modDrive bay (fun x => { x with acquired := addNew x.acquired w })
          (State.modTake w (fun x => { x with won := addNew x.won bay }) (s.dropDriveCmd bay 0 d.cid))))
      else s.dropDriveCmd bay 0 d.cid) := by
  have noReport : d.use ≠ .preempt w 1 := by simp [acquire]
  unfold State.preemptCmd? at asked
  change execDriveWon w bay holder keys good s = _
  simp only [execDriveWon, State.driveWonBy, asked, noReport, if_false]

end

end

/-! ### A takeover without an end (R235, R251) -/

section
variable {t : Takeover} (taking : (s.wing w).takeover = some t)
include taking

/-- Too few drives won in time stop a taker that needs a quorum; else the drives not won are lost. -/
theorem exec_preemptTimeout_late (claimed : t.claim ≠ 0) (runs : t.stopped = false)
    (late : (s.wing w).preemptStart + s.get Obj.si_preempt_timeout ≤ s.gh.now) :
    exec (.preemptTimeout w) s = .next (
      if t.quorum && !t.stands then State.record 7 0xB004 [(1, w), (1, t.won.length), (1, 24 - (s.presentBays w).length)]
        ((s.dropPreempts w).modTake w fun x => { x with stopped := true })
      else State.settle (State.takeCheck w
        ((t.asked.filter fun b => !t.won.contains b).foldl (fun u b => u.loseUnwon w b) (s.dropPreempts w)))) := by
  change execPreemptTimeout w s = _
  simp only [execPreemptTimeout, taking]
  exact congrArg _ (if_neg (by simp [claimed, runs, late]))

theorem exec_quorumRetry_running (runs : t.stopped = false) : exec (.quorumRetry w) s = .next s := by
  change execQuorumRetry w s = _
  simp only [execQuorumRetry, taking, runs, Bool.not_false, if_true]

theorem exec_quorumRetry_stopped (stopped : t.stopped = true) :
    exec (.quorumRetry w) s = .next (
      let todo := (s.presentBays w).filter fun b => !t.won.contains b
      if t.claim < (s.wing w).seen then s.backOff w (s.wing w).seen
      else todo.foldl (fun v b => v.askDrive w b) (State.modWingSt w (fun x => { x with preemptStart := 0 })
        (s.modTake w fun x => { x with stopped := false, asked := t.won ++ todo, reports := [], refused := [] }))) := by
  change execQuorumRetry w s = _
  simp only [execQuorumRetry, taking, stopped, Bool.not_true, Bool.false_eq_true, if_false]

end

/-! ### A conflict on a write (R234, R252, R255) -/

section
variable {bay queue cid : Nat} {d : DriveCmd}

/-- The state in which a write that met a conflict has left its queue, its beds are free and the holder's key is seen. -/
def State.conflictSeen (s : State) (bay queue cid key : Nat) (d : DriveCmd) : State :=
  (d.beds.foldl (fun u h => u.freeOwned h) (s.dropDriveCmd bay queue cid)).sawClaim d.nsid key

section
variable (here : s.driveCmd? bay queue cid = some d) (io : queue ≠ 0) (write : d.op = .write) (out : d.outstanding = true)
  (moved : d.toMove = 0)
include here io write out moved

theorem State.resConflict_of_holds (holds : s.holdsWing d.nsid = true) :
    s.resConflict bay queue cid key =
      let v := s.conflictSeen bay queue cid key d
      if (s.wing d.nsid).claim < key then (if s.defends d.nsid then v.repeatWrite d else v).challenged d.nsid key
      else if d.repeated then (v.driveReset bay d.use).contain bay 6
      else v.repeatWrite d := by
  simp only [State.resConflict, here]
  exact (if_neg (by simp [io, write, out, moved])).trans (if_pos holds)

theorem State.resConflict_taking (other : s.holdsWing d.nsid = false) (taking : (s.wing d.nsid).state = .taking)
    (higher : (s.wing d.nsid).claim < key) :
    s.resConflict bay queue cid key = (s.conflictSeen bay queue cid key d).backOff d.nsid key := by
  simp only [State.resConflict, here]
  exact (if_neg (by simp [io, write, out, moved])).trans ((if_neg (by simp [other])).trans (if_pos ⟨taking, higher⟩))

end

theorem exec_reservationConflict {v : State} (course : s.resConflict bay queue cid key = v) :
    exec (.reservationConflict bay queue cid key) s = .next v.settle := by
  subst course
  rfl

end

end

/-- Settles O53: the warden's session and its answers by what accepts a message, its silence by the REQUEST that waits, a drive's
answer by the command it answers, a takeover's end and a conflict by the claims seen. -/
theorem theLanternMoves : Obligations.TheLanternMoves := by
  unfold Obligations.TheLanternMoves
  intro s w bay holder key claim lease session reason n queue cid keys nonce dk sig body m t d good
  refine ⟨exec_holderSilence_late, exec_holderSilence_early, ?challenge, exec_authOk_opens rfl, ?refuse,
    exec_wardenRefuse_dropped rfl, ?grant, exec_wardenGrant_dropped rfl, exec_lanternResend_request,
    fun unrequested first => ⟨exec_lanternResend_renew unrequested first, exec_wardenTimeout_renew unrequested first⟩,
    fun requested => ?unanswered, fun due => ?holdoff, exec_holdoffExpiry_idle, exec_renew_renews, exec_renew_hello,
    fun asked => ?won, exec_driveWon_unasked, fun taking claimed runs late => ?late, fun taking stopped => ?retry,
    exec_quorumRetry_running, fun here io write out moved => ?conflict⟩
  case challenge =>
    refine ⟨exec_challenge_stranger rfl, fun e asked known bad => ?_, fun e asked known verified => ?_,
      exec_challenge_unasked rfl⟩
    · exact (exec_challenge_known rfl asked known).trans (congrArg _ (if_neg (Bool.eq_false_iff.mp bad)))
    · exact (exec_challenge_known rfl asked known).trans (congrArg _ (if_pos verified))
  case refuse =>
    intro u accepted
    have course := exec_wardenRefuse_accepted (u := u) rfl accepted
    refine ⟨fun unrequested holds => ?_, fun unrequested other => ?_, fun requested muster => ?_, fun requested handback => ?_⟩
    · exact course.trans (congrArg _ ((if_neg (by simp [unrequested])).trans (if_pos holds)))
    · exact course.trans (congrArg _ ((if_neg (by simp [unrequested])).trans (if_neg (by simp [other]))))
    · exact course.trans (congrArg _ ((if_pos requested).trans (if_pos muster)))
    · exact course.trans (congrArg _ ((if_pos requested).trans (if_neg (by simp [handback]))))
  case grant =>
    intro u accepted
    have course := exec_wardenGrant_unrequested (u := u) rfl accepted
    refine ⟨exec_wardenGrant_requested rfl accepted, fun unrequested holds => ?_, fun unrequested other first held single => ?_⟩
    · exact (course unrequested).trans (congrArg _ (if_pos holds))
    · subst first
      exact (course unrequested).trans (congrArg _ ((if_neg (Bool.eq_false_iff.mp other)).trans (if_pos ⟨rfl, held, single⟩)))
  case unanswered =>
    have course := exec_wardenTimeout_request requested
    refine ⟨fun handback => ?_, fun failed barred => ?_, fun failed enabled silent late => ?_⟩
    · exact course.trans (congrArg _ (if_pos handback))
    · refine course.trans (congrArg _ ((if_neg failed).trans ?_))
      by_cases off : s.get Obj.si_fallback_enable = 0
      · exact if_pos off
      · exact (if_neg off).trans (if_pos (barred.resolve_left off))
    · have clear : ¬ (s.si.silent = false ∨ s.gh.now < s.si.sbSilentAt + 5000000) := by simp [silent, late]
      exact course.trans (congrArg _ ((if_neg failed).trans ((if_neg enabled).trans (if_neg clear))))
  case holdoff =>
    have course := exec_holdoffExpiry_due (key := key) due
    refine ⟨fun holds higher => ?_, fun free => ?_⟩
    · exact course.trans (congrArg _ (if_pos ⟨holds, higher⟩))
    · refine course.trans (congrArg _ (if_neg ?_))
      rintro ⟨holds, higher⟩
      exact free.elim (fun other => absurd holds (by simp [other])) (Nat.not_le.mpr higher)
  case won =>
    refine ⟨fun acquire => ⟨?_, ?_⟩, exec_driveWon_report asked⟩
    · exact (exec_driveWon_acquire asked acquire).trans (congrArg _ (if_neg Bool.false_ne_true))
    · exact (exec_driveWon_acquire asked acquire).trans (congrArg _ (if_pos rfl))
  case late =>
    have course := exec_preemptTimeout_late taking claimed runs late
    refine ⟨fun quorum stands => ?_, fun free => ?_⟩
    · exact course.trans (congrArg _ (if_pos (by simp [quorum, stands])))
    · exact course.trans (congrArg _ (if_neg (by rcases free with quorum | stands <;> simp [*])))
  case retry =>
    have course := exec_quorumRetry_stopped taking stopped
    exact ⟨fun higher => course.trans (congrArg _ (if_pos higher)),
      fun highest => course.trans (congrArg _ (if_neg (Nat.not_lt.mpr highest)))⟩
  case conflict =>
    have course (holds : s.holdsWing d.nsid = true) := State.resConflict_of_holds (key := key) here io write out moved holds
    refine ⟨fun holds higher defends => ?_, fun holds higher yields => ?_, fun holds own again => ?_, fun holds own once => ?_,
      fun other taking higher => exec_reservationConflict (State.resConflict_taking here io write out moved other taking higher)⟩
    · refine exec_reservationConflict ((course holds).trans ((if_pos higher).trans ?_))
      rw [if_pos defends]
      rfl
    · refine exec_reservationConflict ((course holds).trans ((if_pos higher).trans ?_))
      rw [if_neg (by simp [yields])]
      rfl
    · exact exec_reservationConflict ((course holds).trans ((if_neg (Nat.not_lt.mpr own)).trans (if_pos again)))
    · exact exec_reservationConflict ((course holds).trans ((if_neg (Nat.not_lt.mpr own)).trans (if_neg (by simp [once]))))

end Sys2Proof.Machine
end

section
/-! Rooms: the commands that open, modify and close one, and the closing timeout (R279, R280, R285, R286). -/

namespace Sys2Proof.Machine

/-! ### A room is opened (R279, R280) -/

/-- The descriptor of a room index, never opened where none is kept. -/
def State.roomAt (s : State) (ix : Nat) : Room := (s.tr.rooms.find? fun r => r.index == ix).getD { index := ix }

/-- The room a Room Open asks for at an index. -/
def State.roomAsked (s : State) (c : Cmd) (ix : Nat) : Room :=
  openRoom (s.roomAt ix) c.cap.qpn (c.cap.cdw.getD 0 0 % 4) (c.cap.cdw.getD 1 0) (s.get Obj.tr_room_close_timeout)
    (bit (c.cap.cdw.getD 0 0) 2) (bit (c.cap.cdw.getD 0 0) 3)

/-- A room takes its index, and its Room Open completes with the key. -/
def State.roomOpened (a ix : Nat) (x : Room) (s : State) : State :=
  State.finish a .success (State.modCmd a (fun q => { q with checked := true, dw0 := x.key })
    (s.drawn.modTr fun t => { t with rooms := x :: t.rooms.filter fun y => y.index != ix }))

/-- A Room Open of a host with its fields in range (R280). -/
structure State.OpensRoom (s : State) (a : Nat) (c : Cmd) : Prop where
  fresh : s.fresh? a .roomOpen = some c
  host : c.cap.src ≠ .endpoint
  whole : c.cap.refused = false
  shape : roomShape (c.cap.cdw.getD 0 0 % 4) (c.cap.cdw.getD 1 0) (bit (c.cap.cdw.getD 0 0) 2) (bit (c.cap.cdw.getD 0 0) 3) = true

/-- The limits of R280 that a Room Open may cross: the association's rooms, and the beds of a push room. -/
def State.roomLimitMet (s : State) (c : Cmd) : Prop :=
  s.get Obj.tr_rooms_per_assoc ≤ s.roomsHeld (some c.assoc) ∨
    (c.cap.cdw.getD 0 0 % 4 = 1 ∧ s.pushRoomFits (c.cap.cdw.getD 1 0) = false)

section
variable {s : State} {a ix : Nat} {c : Cmd}

theorem exec_roomOpen_limit (asked : s.OpensRoom a c) (crossed : s.roomLimitMet c) :
    exec (.roomOpen a) s = .next (s.finish a .capacityExceeded) := by
  obtain ⟨fresh, host, whole, shape⟩ := asked
  unfold State.roomLimitMet at crossed
  change execRoomOpen a s = _
  simp only [execRoomOpen, fresh, host, whole, shape, crossed, Bool.not_true, Bool.or_self, Bool.false_eq_true, if_true, if_false]

theorem exec_roomOpen_within (asked : s.OpensRoom a c) (within : ¬ s.roomLimitMet c) :
    exec (.roomOpen a) s = .next (s.freeRoom.elim (s.finish a .capacityExceeded) fun ix => s.roomOpened a ix (s.roomAsked c ix)) := by
  obtain ⟨fresh, host, whole, shape⟩ := asked
  unfold State.roomLimitMet at within
  change execRoomOpen a s = _
  simp only [execRoomOpen, fresh, host, whole, shape, within, Bool.not_true, Bool.or_self, Bool.false_eq_true, if_false]
  cases s.freeRoom <;> rfl

theorem exec_roomOpen_opened (asked : s.OpensRoom a c) (within : ¬ s.roomLimitMet c) (free : s.freeRoom = some ix) :
    exec (.roomOpen a) s = .next (s.roomOpened a ix (s.roomAsked c ix)) := by
  rw [exec_roomOpen_within asked within, free, Option.elim_some]

theorem exec_roomOpen_exceeded (asked : s.OpensRoom a c)
    (full : s.get Obj.tr_rooms_per_assoc ≤ s.roomsHeld (some c.assoc) ∨ s.freeRoom = none) :
    exec (.roomOpen a) s = .next (s.finish a .capacityExceeded) := by
  by_cases crossed : s.roomLimitMet c
  · exact exec_roomOpen_limit asked crossed
  · have none_free := full.resolve_left fun held => crossed (.inl held)
    rw [exec_roomOpen_within asked crossed, none_free, Option.elim_none]

/-! ### A room is modified and closed by its owner (R280, R285, R286) -/

theorem exec_roomModify_owned {r : Room} (fresh : s.fresh? a .roomModify = some c) (host : c.cap.src ≠ .endpoint)
    (owned : s.ownRoom c = some r) (opened : r.state = 1) (whole : c.cap.refused = false)
    (shape : roomShape r.kind (c.cap.cdw.getD 1 0) (bit (c.cap.cdw.getD 2 0) 0) (bit (c.cap.cdw.getD 2 0) 1) = true) :
    exec (.roomModify a) s = .next ((s.passed a).modRoom r.index fun x => { x with
      modify := some (c.cap.cdw.getD 1 0, bit (c.cap.cdw.getD 2 0) 0, bit (c.cap.cdw.getD 2 0) 1)
      modifiers := x.modifiers ++ [a] }) := by
  change execRoomModify a s = _
  simp only [execRoomModify, fresh, host, owned, opened, whole, shape, and_self, if_true, if_false]

theorem exec_roomModify_unowned (fresh : s.fresh? a .roomModify = some c) (host : c.cap.src ≠ .endpoint)
    (unowned : s.ownRoom c = none) : exec (.roomModify a) s = .next (s.finish a .invalidField) := by
  change execRoomModify a s = _
  simp only [execRoomModify, fresh, host, unowned, if_false]

theorem exec_roomClose_owned {r : Room} (fresh : s.fresh? a .roomClose = some c) (host : c.cap.src ≠ .endpoint)
    (owned : s.ownRoom c = some r) (opened : r.state = 1) (whole : c.cap.refused = false) :
    exec (.roomClose a) s = .next (((s.passed a).roomClosing r.index).modRoom r.index fun x => { x with
      closers := x.closers ++ [a] }) := by
  change execRoomClose a s = _
  simp only [execRoomClose, fresh, host, owned, opened, whole, true_or, and_self, if_true, if_false]

theorem exec_roomClose_unowned (fresh : s.fresh? a .roomClose = some c) (host : c.cap.src ≠ .endpoint)
    (unowned : s.ownRoom c = none) : exec (.roomClose a) s = .next (s.finish a .invalidField) := by
  change execRoomClose a s = _
  simp only [execRoomClose, fresh, host, unowned, if_false]

theorem exec_roomCloseTimeout_late {r : Room} (named : s.tr.rooms.find? (fun x => x.index == ix) = some r) (closing : r.state = 2)
    (late : r.closeLimit ≤ (s.tt.legCount + 2 ^ 32 - r.openLegs) % 2 ^ 32 * 5120) :
    exec (.roomCloseTimeout ix) s = .next (s.modRoom ix fun x => { x with cut := true }) := by
  change execRoomCloseTimeout ix s = _
  simp only [execRoomCloseTimeout, named]
  rw [if_pos ⟨closing, late⟩]

end

/-- Settles O43: an opening by its limits and its free index, the others by the room they name. -/
theorem roomsOpenAndClose : Obligations.RoomsOpenAndClose := by
  unfold Obligations.RoomsOpenAndClose
  intro s a ix c r
  refine ⟨fun fresh host whole shape below fits free => ?opened, fun fresh host whole shape full => ?exceeded,
    exec_roomModify_owned, exec_roomModify_unowned, exec_roomClose_owned, exec_roomClose_unowned, exec_roomCloseTimeout_late⟩
  case opened =>
    have within : ¬ s.roomLimitMet c := by
      rintro (reached | ⟨push, unfit⟩)
      · exact absurd below (Nat.not_lt.mpr reached)
      · exact Bool.eq_false_iff.mp unfit (fits push)
    exact ⟨exec_roomOpen_opened ⟨fresh, host, whole, shape⟩ within free, rfl, rfl, rfl, rfl, rfl, rfl, rfl⟩
  case exceeded => exact exec_roomOpen_exceeded ⟨fresh, host, whole, shape⟩ full

end Sys2Proof.Machine
end

section
/-! Admin commands with a sender: properties, Identify, log pages, features, Keep Alive, Abort, event requests, the end of an
association, and Connect (R306 to R319, R324, R325). -/

namespace Sys2Proof.Machine

section
variable {s u : State} {src : CmdSrc} {cid nsid lid off len fid sel v : Nat} {a : Assoc} {rae : Bool}

/-! ### Properties and Disconnect (R309, R311) -/

section
variable (sender : s.adminFrom src false true = some (a, u))
include sender

theorem exec_propertyGet_cap :
    exec (.propertyGet src cid 0) s = .next (u.respondWith src 0 cid (capValue % 2 ^ 32) (leBytes 8 capValue)) :=
  congrArg _ (State.adminCmd_from cid _ sender)

theorem exec_propertyGet_vs :
    exec (.propertyGet src cid 8) s = .next (u.respondWith src 0 cid 0x00020000 (leBytes 4 0x00020000)) :=
  congrArg _ (State.adminCmd_from cid _ sender)

theorem exec_propertyGet_cc :
    exec (.propertyGet src cid 0x14) s = .next (u.respondWith src 0 cid (a.cc % 2 ^ 32) (leBytes 4 a.cc)) :=
  congrArg _ (State.adminCmd_from cid _ sender)

theorem exec_propertyGet_csts :
    exec (.propertyGet src cid 0x1C) s = .next (u.respondWith src 0 cid (a.csts % 2 ^ 32) (leBytes 4 a.csts)) :=
  congrArg _ (State.adminCmd_from cid _ sender)

theorem exec_propertySet_cc :
    exec (.propertySet src cid 0x14 v) s = .next (State.respond src 0 cid .success (State.shutdownPass (u.modAssoc a.index
      fun x => { x with cc := v % 2 ^ 32, ready := bit v 0, shutdown := bits v 15 14 != 0
                        shutdownDone := (bits v 15 14 != 0) && x.shutdownDone }))) :=
  congrArg _ (State.adminCmd_from cid _ sender)

theorem exec_propertySet_other (other : off ≠ 0x14) :
    exec (.propertySet src cid off v) s = .next (u.respond src 0 cid .invalidField) :=
  congrArg _ ((State.adminCmd_from cid _ sender).trans (if_pos other))

theorem exec_disconnect_from : exec (.disconnect src cid) s = .next (u.endAssoc a.index 1) :=
  congrArg _ (State.adminCmd_from cid _ sender)

end

/-! ### Identify, log pages and Keep Alive (R308, R314 to R318) -/

section
variable (sender : s.adminFrom src true true = some (a, u))
include sender

theorem exec_identifyController_from :
    exec (.identifyController src cid 1) s = .next (u.respondWith src 0 cid 0 (u.idController a)) :=
  congrArg _ (State.adminCmd_from cid _ sender)

theorem exec_keepAlive_from : exec (.keepAlive src cid) s = .next (u.respond src 0 cid .success) :=
  congrArg _ (State.adminCmd_from cid _ sender)

theorem exec_getLogPage_page {p : List Byte} (page : u.logPage a lid nsid = .ok p) (atWord : off % 4 = 0) :
    exec (.getLogPage src cid lid nsid off len rae) s = .next (
      if rae then u.respondWith src 0 cid 0 (slice p off len)
      else (u.respondWith src 0 cid 0 (slice p off len)).pageRead a.index lid) := by
  refine congrArg _ ((State.adminCmd_from cid _ sender).trans ((if_neg (not_not_intro atWord)).trans ?_))
  rw [page]

theorem exec_getLogPage_refused {st : Status} (refused : u.logPage a lid nsid = .error st) (atWord : off % 4 = 0) :
    exec (.getLogPage src cid lid nsid off len rae) s = .next (u.respond src 0 cid st) := by
  refine congrArg _ ((State.adminCmd_from cid _ sender).trans ((if_neg (not_not_intro atWord)).trans ?_))
  rw [refused]

theorem exec_getLogPage_unaligned (unaligned : off % 4 ≠ 0) :
    exec (.getLogPage src cid lid nsid off len rae) s = .next (u.respond src 0 cid .invalidField) :=
  congrArg _ ((State.adminCmd_from cid _ sender).trans (if_pos unaligned))

theorem exec_identifyNamespace_discovery (discovery : a.discovery = true) :
    exec (.identifyNamespace src cid nsid) s = .next (u.respond src 0 cid .invalidField) :=
  congrArg _ ((State.adminCmd_from cid _ sender).trans (if_pos discovery))

theorem exec_namespaceDescriptorList_discovery (discovery : a.discovery = true) :
    exec (.namespaceDescriptorList src cid nsid) s = .next (u.respond src 0 cid .invalidField) :=
  congrArg _ ((State.adminCmd_from cid _ sender).trans (if_pos discovery))

theorem exec_activeNamespaceList_discovery (discovery : a.discovery = true) :
    exec (.activeNamespaceList src cid nsid) s = .next (u.respond src 0 cid .invalidField) :=
  congrArg _ ((State.adminCmd_from cid _ sender).trans (if_pos discovery))

section
variable (io : a.discovery = false)
include io

theorem exec_identifyNamespace_io : exec (.identifyNamespace src cid nsid) s = .next (
    if u.nsActive (u.partyOf a.index) nsid then u.respondWith src 0 cid 0 (idNamespace (u.ns nsid))
    else u.respond src 0 cid .invalidNamespace) :=
  congrArg _ ((State.adminCmd_from cid _ sender).trans (if_neg (Bool.eq_false_iff.mp io)))

theorem exec_namespaceDescriptorList_io : exec (.namespaceDescriptorList src cid nsid) s = .next (
    if u.nsActive (u.partyOf a.index) nsid then
      u.respondWith src 0 cid 0 (List.take 4096
        (leBytes 4 (2 + 16 * 256) ++ beBytes 16 (u.ns nsid).nguid ++ leBytes 4 (3 + 16 * 256) ++
          beBytes 16 (Config.nsUuid (u.ns nsid).nguid).toNat ++ List.replicate 4096 0))
    else u.respond src 0 cid .invalidNamespace) :=
  congrArg _ ((State.adminCmd_from cid _ sender).trans (if_neg (Bool.eq_false_iff.mp io)))

theorem exec_activeNamespaceList_io : exec (.activeNamespaceList src cid nsid) s = .next (
    u.respondWith src 0 cid 0 (List.take 4096 (((u.ce.namespaces.map fun y : Namespace => y.nsid).filter fun m =>
      decide (nsid < m) && u.nsActive (u.partyOf a.index) m).flatMap (leBytes 4) ++ List.replicate 4096 0))) :=
  congrArg _ ((State.adminCmd_from cid _ sender).trans (if_neg (Bool.eq_false_iff.mp io)))

end
end

/-! ### Features, Abort and event requests (R318, R319, R324, R325) -/

section
variable (sender : s.adminFrom src true false = some (a, u))
include sender

theorem exec_setFeatures_unsaved :
    exec (.setFeatures src cid fid nsid v false) s = .next (u.setFeature src cid fid nsid v a) :=
  congrArg _ (State.adminCmd_from cid _ sender)

theorem exec_setFeatures_saved (other : fid ≠ 0x83) :
    exec (.setFeatures src cid fid nsid v true) s = .next (u.respond src 0 cid .invalidField) :=
  congrArg _ ((State.adminCmd_from cid _ sender).trans (if_pos (bne_iff_ne.mpr other)))

theorem exec_getFeatures_current {x : Nat × List Byte} (known : u.feature a fid nsid = some x) (value : sel < 3) :
    exec (.getFeatures src cid fid nsid sel) s = .next (u.respondWith src 0 cid x.1 x.2) := by
  refine congrArg _ ((State.adminCmd_from cid _ sender).trans ?_)
  simp only [known, if_neg (show ¬ 3 < sel by omega), if_neg (show sel ≠ 3 by omega)]

theorem exec_getFeatures_unknown (unknown : u.feature a fid nsid = none) :
    exec (.getFeatures src cid fid nsid sel) s = .next (u.respond src 0 cid .invalidField) := by
  refine congrArg _ ((State.adminCmd_from cid _ sender).trans ?_)
  rw [unknown]

theorem exec_abortCmd_exceeded {sqid target : Nat}
    (full : 4 ≤ ((u.tick Obj.ce_aborts).ce.aborts.filter fun x => x.1 == a.index).length) :
    exec (.abortCmd src cid sqid target) s = .next ((u.tick Obj.ce_aborts).respond src 0 cid .abortLimit) :=
  congrArg _ ((State.adminCmd_from cid _ sender).trans (if_pos full))

theorem exec_abortCmd_decided {sqid target : Nat} {t : State} (counted : t = u.tick Obj.ce_aborts)
    (free : (t.ce.aborts.filter fun x => x.1 == a.index).length < 4) :
    let r := ({ t with ce := { t.ce with aborts := t.ce.aborts ++ [(a.index, cid)] } } : State).abortAt src sqid target
    exec (.abortCmd src cid sqid target) s = .next (r.2.respondWith src 0 cid (b2n (!r.1)) []).pump := by
  subst counted
  exact congrArg _ ((State.adminCmd_from cid _ sender).trans (if_neg (Nat.not_le.mpr free)))

theorem exec_asynchronousEventRequest_exceeded (full : 8 ≤ a.aers.length) :
    exec (.asynchronousEventRequest src cid) s = .next (u.respond src 0 cid .asyncLimit) :=
  congrArg _ ((State.adminCmd_from cid _ sender).trans (if_pos full))

theorem exec_asynchronousEventRequest_held (free : a.aers.length < 8) :
    exec (.asynchronousEventRequest src cid) s = .next ((u.modAssoc a.index fun x => { x with
      aers := x.aers ++ [cid] }).aerServe a.index) :=
  congrArg _ ((State.adminCmd_from cid _ sender).trans (if_neg (Nat.not_le.mpr free)))

end

/-! ### What each feature's value does (R308, R319) -/

theorem State.setFeature_tempThreshold (sensor : bits v 19 16 = 0) (side : bits v 21 20 = 0) :
    u.setFeature src cid 4 nsid v a =
      (u.modAssoc a.index fun x => { x with tempThreshold := v % 65536 }).respond src 0 cid .success :=
  if_neg (not_or.mpr ⟨not_not_intro sensor, not_not_intro side⟩)

theorem State.setFeature_kato (ranged : katoOk v = true) :
    u.setFeature src cid 0xF nsid v a =
      (u.modAssoc a.index fun x => { x with kato := ceilDiv v 100 * 100 }).respond src 0 cid .success :=
  if_pos ranged

theorem State.setFeature_aenConfig :
    u.setFeature src cid 0xB nsid v a =
      (u.modAssoc a.index fun x => { x with aenConfig := v % 2 ^ 32 }).respond src 0 cid .success := rfl

/-! ### Keep alive expiry and Connect (R306 to R308) -/

theorem exec_katoExpiry_expired {i : Nat} (found : s.ce.assocs.find? (fun x => x.index == i) = some a)
    (expired : a.kato * 1000 ≤ s.gh.ticks - a.alive) :
    exec (.katoExpiry i) s = .next (State.endAssoc i 3
      ((s.record 4 0x6003 [(2, s.cntlid i), (4, a.kato)]).tick Obj.ce_kato_expiries)) := by
  change execKatoExpiry i s = _
  simp only [execKatoExpiry, found, if_pos expired]

theorem exec_fabricsConnect_unbound {d : ConnectData} {n : Conn} (on : s.transportOn = true) (conn : s.conn? d.qpn = some n)
    (unbound : n.assoc = none) (queue : n.qid = d.qid) :
    exec (.fabricsConnect d) s = .next (
      if d.qid = 0 then (s.sendIn d.qpn).adminConnect d n else (s.sendIn d.qpn).ioConnect d n) := by
  change execFabricsConnect d s = _
  simp only [execFabricsConnect, on, conn, unbound, queue, if_true, Option.isSome_none, Bool.false_eq_true, ne_eq,
    not_true_eq_false, or_self, if_false]

end

/-- Settles O44: each command by the lemma of its case, for the sender that may send it. -/
theorem adminCommandsAreAnswered : Obligations.AdminCommandsAreAnswered := by
  unfold Obligations.AdminCommandsAreAnswered
  intro s u src cid nsid v i a d n
  refine ⟨fun sender => ?properties, fun sender => ?pages, fun sender => ?features, exec_katoExpiry_expired,
    exec_fabricsConnect_unbound⟩
  case properties =>
    exact ⟨exec_propertyGet_cap sender, exec_propertyGet_vs sender, exec_propertyGet_cc sender, exec_propertyGet_csts sender,
      exec_propertySet_cc sender, fun _ other => exec_propertySet_other sender other, exec_disconnect_from sender⟩
  case pages =>
    refine ⟨exec_identifyController_from sender, exec_keepAlive_from sender, fun p lid off len page atWord =>
      ⟨exec_getLogPage_page sender page atWord, exec_getLogPage_page sender page atWord⟩,
      fun _ _ _ _ _ refused atWord => exec_getLogPage_refused sender refused atWord,
      fun _ _ _ _ unaligned => exec_getLogPage_unaligned sender unaligned,
      fun discovery => ⟨exec_identifyNamespace_discovery sender discovery,
        exec_namespaceDescriptorList_discovery sender discovery, exec_activeNamespaceList_discovery sender discovery⟩,
      fun io => ⟨fun active => ?active, fun inactive => ?inactive, exec_activeNamespaceList_io sender io⟩⟩
    case active =>
      rw [exec_identifyNamespace_io sender io, exec_namespaceDescriptorList_io sender io, if_pos active, if_pos active]
      exact ⟨rfl, rfl⟩
    case inactive =>
      have inactive := Bool.eq_false_iff.mp inactive
      rw [exec_identifyNamespace_io sender io, exec_namespaceDescriptorList_io sender io, if_neg inactive, if_neg inactive]
      exact ⟨rfl, rfl⟩
  case features =>
    have set (fid : Nat) := exec_setFeatures_unsaved (cid := cid) (fid := fid) (nsid := nsid) (v := v) sender
    refine ⟨fun sensor side => (set 4).trans (congrArg _ (State.setFeature_tempThreshold sensor side)),
      fun ranged => (set 0xF).trans (congrArg _ (State.setFeature_kato ranged)),
      (set 0xB).trans (congrArg _ State.setFeature_aenConfig), fun _ other => exec_setFeatures_saved sender other,
      fun _ _ _ known value => exec_getFeatures_current sender known value,
      fun _ _ unknown => exec_getFeatures_unknown sender unknown, ?abort,
      exec_asynchronousEventRequest_exceeded sender, exec_asynchronousEventRequest_held sender⟩
    case abort =>
      intro t counted
      exact ⟨counted ▸ exec_abortCmd_exceeded sender, exec_abortCmd_decided sender counted⟩

end Sys2Proof.Machine
end

section
/-! Bays: the examination of a drive and its outcomes, and the containment of a bay (R338, R339, R343 to R345, R548). -/

namespace Sys2Proof.Machine

section
variable {s : State} {cls bay size link cause q cid : Nat} {cache : Bool}

/-! ### The drive of one bay of the 24 -/

theorem State.drive_congr {t : State} (kept : t.drives.bays = s.drives.bays) : t.drive bay = s.drive bay := by
  unfold State.drive
  rw [kept]

theorem State.drive_modDrive_same (f : Drive → Drive) (there : bay < s.drives.bays.length) :
    (s.modDrive bay f).drive bay = f (s.drive bay) := by
  simp [State.drive, State.modDrive, there]

theorem State.issueDrive_bays (d : DriveCmd) : (s.issueDrive d).drives.bays = s.drives.bays := by
  unfold State.issueDrive
  dsimp only
  split <;> rfl

theorem State.record_drives (sev code : Nat) (p : List (Nat × Nat)) : (s.record sev code p).drives = s.drives :=
  (State.record_moves (.refl 0x200001 s) (.refl _)).frame .drives rfl

/-! ### An examination starts (R345) -/

theorem State.examine_examining (there : bay < s.drives.bays.length) : ((s.examine bay).drive bay).state = .examining := by
  unfold State.examine
  rw [State.drive_congr (State.issueDrive_bays _), State.drive_modDrive_same _ there]

theorem exec_driveExamine_starts (below : bay < 24) (present : s.bayPin bay = true) (mode : s.md.mode ≠ .vigil)
    (untried : (s.drive bay).state = .empty ∨
      (s.bayLost bay = true ∧ (s.drive bay).state ≠ .inUse ∧ (s.drive bay).state ≠ .examining)) :
    exec (.driveExamine bay) s = .next (s.examine bay) :=
  congrArg _ (if_pos ⟨below, present, mode, untried⟩)

theorem exec_ceBayRelease_starts (taken : s.takes (.ceBayRelease cls bay)) (present : s.bayPin bay = true)
    (unused : (s.drive bay).state ≠ .inUse) (idle : (s.drive bay).state ≠ .examining) :
    exec (.ceBayRelease cls bay) s = .next (s.examine bay) :=
  congrArg _ ((State.trigger_taken (State.takesWrite_trigger (taken _ rfl))).trans (if_pos (by simp [present, unused, idle])))

theorem exec_ceBayRelease_kept (taken : s.takes (.ceBayRelease cls bay))
    (kept : s.bayPin bay = false ∨ (s.drive bay).state = .inUse ∨ (s.drive bay).state = .examining) :
    exec (.ceBayRelease cls bay) s = .next s := by
  refine congrArg _ ((State.trigger_taken (State.takesWrite_trigger (taken _ rfl))).trans (if_neg ?_))
  rcases kept with absent | used | examined
  · simp [absent]
  · simp [used]
  · simp [examined]

/-- Acceptance leaves the presence pin and the state of the drive, so the test after it is one before it. -/
theorem exec_ceBayAccept_taken (taken : s.takes (.ceBayAccept cls bay)) (there : bay < s.drives.bays.length) :
    exec (.ceBayAccept cls bay) s = .next (
      if s.bayPin bay = true ∧ (s.drive bay).state = .refused then
        (s.modDrive bay fun x => { x with accepted := true }).examine bay
      else s.modDrive bay fun x => { x with accepted := true }) := by
  refine congrArg _ ((State.trigger_taken (State.takesWrite_trigger (taken _ rfl))).trans ?_)
  have pin : (s.modDrive bay fun x => { x with accepted := true }).bayPin bay = s.bayPin bay := rfl
  simp only [pin, State.drive_modDrive_same _ there, Bool.and_eq_true, beq_iff_eq]

/-! ### An examination ends (R339, R345) -/

theorem State.refuseDrive_refused (there : bay < s.drives.bays.length) :
    ((s.refuseDrive bay cause).drive bay).state = .refused := by
  unfold State.refuseDrive
  rw [State.drive_congr (congrArg DriveSt.bays (State.record_drives ..))]
  exact congrArg Drive.state (State.drive_modDrive_same _ there)

theorem exec_driveExamineTimeout_refuses (below : bay < 24) (examining : (s.drive bay).state = .examining) :
    exec (.driveExamineTimeout bay) s = .next (s.refuseDrive bay 4) :=
  congrArg _ (if_pos ⟨below, examining⟩)

/-- What a fit drive's content decides: this shelf's is accepted, a blank one where the shelf formats them, another shelf's
where the operator has accepted it (R345). -/
def State.contentJudged (bay size link : Nat) (cache : Bool) (s : State) : DriveContent → State
  | .thisShelf => s.examineAccept bay size link cache false false
  | .blank => if s.get Obj.ce_auto_format = 1 then s.examineAccept bay size link cache true false else s.refuseDrive bay 3
  | .otherShelf => if (s.drive bay).accepted then s.examineAccept bay size link cache true true else s.refuseDrive bay 2
  | .invalid => s.refuseDrive bay 3

/-- The Identify of a bay's examination is issued and the bay waits for its end. -/
structure State.Examines (s : State) (bay : Nat) : Prop where
  below : bay < 24
  state : (s.drive bay).state = .examining
  issued : ∃ c ∈ s.drives.cmds, c.bay = bay ∧ c.use = .examine 1

theorem State.Examines.not_dropped (runs : s.Examines bay) : ¬((s.drive bay).state ≠ .examining ∨ 24 ≤ bay ∨
    (s.drives.cmds.all fun c => !(c.bay == bay && c.use == .examine 1)) = true) := by
  obtain ⟨below, state, issued⟩ := runs
  simpa [state, below] using issued

theorem exec_driveExamineDone_unfit {fit queues : Bool} {content : DriveContent} (runs : s.Examines bay)
    (unfit : (fit && queues) = false) :
    exec (.driveExamineDone bay size link fit queues cache content) s = .next (s.refuseDrive bay 1) :=
  congrArg _ ((if_neg runs.not_dropped).trans (if_pos (by rw [unfit]; rfl)))

theorem exec_driveExamineDone_fit (content : DriveContent) (runs : s.Examines bay) :
    exec (.driveExamineDone bay size link true true cache content) s = .next (s.contentJudged bay size link cache content) := by
  refine congrArg _ ((if_neg runs.not_dropped).trans ((if_neg Bool.false_ne_true).trans ?_))
  cases content <;> rfl

/-! ### A contained bay is cut off (R344, R548) -/

theorem State.foldl_freeOwned_moves (cmds : List DriveCmd) :
    Moves 0x208001 s (cmds.foldl (fun t c => c.beds.foldl (fun u h => u.freeOwned h) t) s) :=
  .foldl cmds (.refl _ s) fun _ c moved => .foldl c.beds moved fun _ _ moved => State.freeOwned_moves moved (.refl _)

/-- The drive of a bay that is cut off: held contained where it is still present, its link and clock held off. -/
def Drive.cutOff (present : Bool) (x : Drive) : Drive := { x with
  state := if present then .contained else .empty, link := 0, linkHeld := true, refclk := false, registered := []
  acquired := [], accepted := false }

theorem State.cutBay_drives : (s.cutBay bay).drives = { s.drives with
    cmds := s.drives.cmds.filter fun c => c.bay != bay
    bays := s.drives.bays.modify bay (Drive.cutOff (s.bayPin bay)) } :=
  congrArg (fun d : DriveSt => { d with bays := d.bays.modify bay (Drive.cutOff (s.bayPin bay)) })
    ((State.foldl_freeOwned_moves _).frame .drives rfl)

theorem State.cutBay_tt : (s.cutBay bay).tt = (s.closeUnit (rootUnit bay)).tt := (State.foldl_freeOwned_moves _).frame .tt rfl

theorem State.drive_cutBay (there : bay < s.drives.bays.length) :
    (s.cutBay bay).drive bay = (s.drive bay).cutOff (s.bayPin bay) := by
  simp [State.drive, State.cutBay_drives, there]

theorem mem_addNew_self {α : Type} [BEq α] [LawfulBEq α] (l : List α) (x : α) : x ∈ addNew l x := by
  unfold addNew
  split
  case isTrue known => exact List.contains_iff_mem.mp known
  case isFalse => exact List.mem_append_right l (List.mem_singleton_self x)

theorem State.rootUnit_mem_cutBay_closePend : rootUnit bay ∈ (s.cutBay bay).tt.closePend := by
  rw [State.cutBay_tt]
  exact mem_addNew_self _ _

theorem State.cutBay_cmds_elsewhere : ∀ c ∈ (s.cutBay bay).drives.cmds, c.bay ≠ bay := by
  simp [State.cutBay_drives]

/-! ### Containment (R343) -/

theorem State.contain_of_unheld (unheld : (s.drive bay).state = .empty ∨ (s.drive bay).state = .contained) :
    s.contain bay cause = s := by
  refine if_pos (.inr ?_)
  rcases unheld with state | state <;> simp [state]

theorem exec_ceBayContain_taken (taken : s.takes (.ceBayContain cls bay)) :
    exec (.ceBayContain cls bay) s = .next (s.contain bay 7) :=
  congrArg _ (State.trigger_taken (State.takesWrite_trigger (taken _ rfl)))

theorem exec_driveAbortWaitExpiry_both {d : DriveCmd} (cmd : s.driveCmd? bay q cid = some d) (aborting : d.aborting = true)
    (abort : ∃ x ∈ s.drives.cmds, x.bay = bay ∧ x.use = .driveAbort cid) :
    exec (.driveAbortWaitExpiry bay q cid) s = .next (s.contain bay 1) := by
  refine congrArg _ (if_pos ?_)
  simpa [cmd, aborting] using abort

theorem exec_driveAbortWaitExpiry_ended (ended : s.driveCmd? bay q cid = none) :
    exec (.driveAbortWaitExpiry bay q cid) s = .next s := by
  refine congrArg _ (if_neg ?_)
  simp [ended]

end

/-- Settles O39: an examination by its start and its end, a containment by the one course all its causes take. -/
theorem baysAreExaminedAndContained : Obligations.BaysAreExaminedAndContained := by
  unfold Obligations.BaysAreExaminedAndContained
  refine ⟨fun s cls bay size link cache below => ?examination, fun s cls bay cause q cid d below => ?containment⟩
  case examination =>
    refine ⟨exec_driveExamine_starts below, exec_ceBayRelease_starts, exec_ceBayRelease_kept,
      fun taken present refused whole => ?accepts, fun taken kept whole => ?remembers, exec_driveExamineTimeout_refuses below,
      fun state issued => ?ends, fun whole => ?states⟩
    case accepts => rw [exec_ceBayAccept_taken taken (whole ▸ below), if_pos ⟨present, refused⟩]
    case remembers =>
      rw [exec_ceBayAccept_taken taken (whole ▸ below), if_neg]
      rintro ⟨present, refused⟩
      exact kept.elim (Bool.eq_false_iff.mp · present) (· refused)
    case ends =>
      have runs : s.Examines bay := ⟨below, state, issued⟩
      exact ⟨exec_driveExamineDone_unfit runs rfl, exec_driveExamineDone_unfit runs rfl, exec_driveExamineDone_fit _ runs,
        exec_driveExamineDone_fit _ runs, exec_driveExamineDone_fit _ runs, exec_driveExamineDone_fit _ runs⟩
    case states => exact ⟨State.examine_examining (whole ▸ below), fun _ => State.refuseDrive_refused (whole ▸ below)⟩
  case containment =>
    refine ⟨fun held => ?course, fun unheld => ?unheld, exec_driveAbortWaitExpiry_ended, fun whole => ?cut,
      State.rootUnit_mem_cutBay_closePend, State.cutBay_cmds_elsewhere⟩
    case course =>
      intro mine live cut lost told counted after
      have contains (k : Nat) : s.contain bay k = after k := by
        refine if_neg (not_or.mpr ⟨Nat.not_le.mpr below, ?_⟩)
        rintro ⟨used, examining, refused⟩
        exact held.elim used (·.elim examining refused)
      exact ⟨congrArg _ (contains cause), fun taken => (exec_ceBayContain_taken taken).trans (congrArg _ (contains 7)),
        fun cmd aborting abort => (exec_driveAbortWaitExpiry_both cmd aborting abort).trans (congrArg _ (contains 1))⟩
    case unheld =>
      exact ⟨congrArg _ (State.contain_of_unheld unheld), fun taken =>
        (exec_ceBayContain_taken taken).trans (congrArg _ (State.contain_of_unheld unheld))⟩
    case cut =>
      rw [State.drive_cutBay (whole ▸ below)]
      exact ⟨rfl, rfl, rfl, rfl⟩

end Sys2Proof.Machine
end

section
/-! Single accesses to the object dictionary: writes of numbers, credentials and ep_bar2_class, reads of statistics, the
timeouts of staged writes and datagrams, and the BAR2 mailbox (R385, R476, R477, R483, R488, R492, R497, R507). -/

namespace Sys2Proof.Machine

section
variable {s : State} {cls ix sub v w : Nat} {value : List Byte} {r : ObjRow}

/-! ### A write reaches its object (R476, R477) -/

theorem isDomain_of_absent (absent : objRow ix sub = none) : isDomain ix sub = false := by
  simp [isDomain, absent]

theorem isDomain_of_row (row : objRow ix sub = some r) (notDomain : ∀ n, r.ty ≠ .domain n) : isDomain ix sub = false := by
  unfold isDomain
  rw [row]
  dsimp only
  split
  case h_1 n domain => exact absurd domain (notDomain n)
  case h_2 => rfl

theorem exec_objectWrite_of_value (kind : isDomain ix sub = false) :
    exec (.objectWrite cls ix sub value) s = .next (s.writeObject false cls ix sub value) :=
  congrArg _ (if_neg (ne_true_of_eq_false kind))

theorem exec_objectWrite_absent (absent : objRow ix sub = none) :
    exec (.objectWrite cls ix sub value) s = .next (s.violation cls) := by
  rw [exec_objectWrite_of_value (isDomain_of_absent absent), State.writeObject, absent]

/-- A number whose writes have no behaviour of their own: it is stored (R476, R477). -/
structure StoredNumber (ix sub w : Nat) (r : ObjRow) : Prop where
  row : objRow ix sub = some r
  number : r.ty = .u w
  notCredential : isCredential ix = false
  ordinary : ix ∉ [Obj.gh_bay_enable, Obj.gh_bank_energy_ceiling, Obj.lg_ledger_size, Obj.lg_flush_profile,
    Obj.pe_rebuild_rate, Obj.pe_patrol_enable, Obj.ep_bar2_class]
  offMasks : ix < Obj.ce_ns_party_mask ∨ Obj.ce_ns_party_mask + 1024 ≤ ix
  offCounters : ix < Obj.gb_unit_config ∨ Obj.gb_unit_config + 512 ≤ ix

theorem StoredNumber.not_domain (stored : StoredNumber ix sub w r) : isDomain ix sub = false :=
  isDomain_of_row stored.row fun n domain => by simp [stored.number] at domain

theorem StoredNumber.writeObject (stored : StoredNumber ix sub w r) (bar2 : Bool) :
    s.writeObject bar2 cls ix sub value = s.storeObject cls ix sub value := by
  obtain ⟨row, number, notCredential, ordinary, offMasks, offCounters⟩ := stored
  simp only [List.mem_cons, List.not_mem_nil, or_false, not_or] at ordinary
  obtain ⟨bayEnable, ceiling, ledgerSize, flushProfile, rebuildRate, patrolEnable, bar2Class⟩ := ordinary
  have masks : ¬(Obj.ce_ns_party_mask ≤ ix ∧ ix < Obj.ce_ns_party_mask + 1024) := by omega
  have counters : ¬(Obj.gb_unit_config ≤ ix ∧ ix < Obj.gb_unit_config + 512) := by omega
  have notAction : r.ty ≠ .action := by simp [number]
  simp only [State.writeObject, row, if_neg notAction, notCredential, Bool.false_eq_true, if_false, if_neg bayEnable, if_neg ceiling,
    if_neg ledgerSize, if_neg flushProfile, if_neg rebuildRate, if_neg patrolEnable, if_neg masks, if_neg counters,
    if_neg bar2Class]

theorem StoredNumber.storeObject (stored : StoredNumber ix sub w r) :
    s.storeObject cls ix sub value = s.guarded cls ix sub
      (r.inRange (leNat (value.take w)) && s.keepsOrder ix sub (leNat (value.take w)))
      fun t => t.keepNum ix sub (leNat (value.take w)) := by
  have taken : r.taken value = leNat (value.take w) := by simp [ObjRow.taken, stored.number, OTy.width]
  simp only [State.storeObject, stored.row, stored.number, taken]

theorem exec_objectWrite_stored (stored : StoredNumber ix sub w r) :
    exec (.objectWrite cls ix sub value) s = .next (s.guarded cls ix sub
      (r.inRange (leNat (value.take w)) && s.keepsOrder ix sub (leNat (value.take w)))
      fun t => t.keepNum ix sub (leNat (value.take w))) := by
  rw [exec_objectWrite_of_value stored.not_domain, stored.writeObject, stored.storeObject]

theorem State.guarded_refused {ok : Bool} {act : State → State} (refused : s.mayWrite cls ix sub = false ∨ ok = false) :
    s.guarded cls ix sub ok act = s.violation cls := by
  rcases refused with no | no <;> simp [State.guarded, no]

theorem State.keepNum_atBoundary (waits : atBoundary ix = true) : s.keepNum ix sub v = { s with dict := { s.dict with
    objNext := assign s.dict.objNext (objKey ix sub) v } } := if_pos waits

theorem State.keepNum_now (now : atBoundary ix = false) (plain : isRate ix = false) : s.keepNum ix sub v = s.put ix sub v :=
  (if_neg (ne_true_of_eq_false now)).trans (if_neg (ne_true_of_eq_false plain))

theorem exec_objectWrite_refused (stored : StoredNumber ix sub w r)
    (refused : s.mayWrite cls ix sub = false ∨ r.inRange (leNat (value.take w)) = false) :
    exec (.objectWrite cls ix sub value) s = .next (s.violation cls) := by
  rw [exec_objectWrite_stored stored, State.guarded_refused (refused.imp_right fun out => by rw [out, Bool.false_and])]

theorem exec_objectWrite_kept (stored : StoredNumber ix sub w r) (may : s.mayWrite cls ix sub = true)
    (inRange : r.inRange (leNat (value.take w)) = true) (ordered : s.keepsOrder ix sub (leNat (value.take w)) = true) :
    exec (.objectWrite cls ix sub value) s = .next (s.keepNum ix sub (leNat (value.take w))) := by
  rw [exec_objectWrite_stored stored, State.guarded_taken ⟨may, by rw [inRange, ordered]; rfl⟩]

/-! ### Credentials and ep_bar2_class (R492, R507) -/

theorem exec_credentialWrite_of_credential (credential : isCredential ix = true) :
    exec (.credentialWrite cls ix sub value) s = .next (s.writeCredential cls ix sub value) :=
  congrArg _ (if_pos credential)

theorem exec_epBar2ClassWrite_taken {bar2 : Bool} (scope : s.dict.scope = true) (caller : bar2 = true ∨ 2 ≤ cls)
    (small : v ≤ 2) : exec (.epBar2ClassWrite bar2 cls v) s = .next (s.put Obj.ep_bar2_class 0 v) :=
  congrArg _ (if_pos (by simp [scope, caller, small]))

theorem exec_epBar2ClassWrite_denied (low : cls < 2) : exec (.epBar2ClassWrite false cls v) s = .next (s.violation cls) :=
  congrArg _ (if_neg (by simp [low]))

/-! ### Statistics (R385, R476) -/

theorem State.readItem_denied (denied : s.mayRead cls ix sub = false) :
    s.readItem cls ix sub = (List.replicate 64 0#8, s.violation cls) := if_neg (ne_true_of_eq_false denied)

theorem State.readItem_allowed (may : s.mayRead cls ix sub = true) :
    s.readItem cls ix sub = (padTo 64 (s.valueOf ix sub),
      if (objRow ix sub).elim false (·.stats) && !isDomain ix sub then s.clearStat ix sub else s) := if_pos may

theorem State.readItem_statistics (row : objRow ix sub = some r) (stats : r.stats = true) (notDomain : ∀ n, r.ty ≠ .domain n)
    (may : s.mayRead cls ix sub = true) :
    s.readItem cls ix sub = (padTo 64 (s.valueOf ix sub), s.clearStat ix sub) := by
  rw [State.readItem_allowed may, isDomain_of_row row notDomain, row, Option.elim_some, stats]
  rfl

theorem exec_statisticsRead {seen : List Byte} {left : State} (read : s.readItem cls ix sub = (seen, left)) :
    exec (.statisticsRead cls ix sub) s = .next (left.emit (.value ix sub seen)) :=
  congrArg (fun p : List Byte × State => Host.Outcome.next (p.2.emit (.value ix sub p.1))) read

/-! ### Timeouts of staged writes and datagrams (R483, R488) -/

/-- The caller a staging timeout names: a session, or BAR2 (R483). -/
def stagingCaller : Option Nat → Caller
  | some id => .session id
  | none => .bar2

theorem exec_stagingTimeout {z : Staging} (session : Option Nat) (staged : s.stagedBy (stagingCaller session) = some z) :
    exec (.stagingTimeout session) s = .next
      (if z.last + 10000000000 ≤ s.gh.now then s.setStaged (stagingCaller session) none else s) := by
  change execStagingTimeout session s = _
  cases session with
  | none => rw [execStagingTimeout, show s.stagedBy .bar2 = some z from staged]; rfl
  | some id => rw [execStagingTimeout, show s.stagedBy (.session id) = some z from staged]; rfl

theorem exec_stagingTimeout_due {z : Staging} {session : Option Nat} (staged : s.stagedBy (stagingCaller session) = some z)
    (due : z.last + 10000000000 ≤ s.gh.now) :
    exec (.stagingTimeout session) s = .next (s.setStaged (stagingCaller session) none) := by
  rw [exec_stagingTimeout session staged, if_pos due]

theorem exec_stagingTimeout_early {z : Staging} {session : Option Nat} (staged : s.stagedBy (stagingCaller session) = some z)
    (early : s.gh.now < z.last + 10000000000) : exec (.stagingTimeout session) s = .next s := by
  rw [exec_stagingTimeout session staged, if_neg (Nat.not_le.mpr early)]

theorem exec_reassemblyTimeout_powered {source : Nat} (powered : s.gh.powered = true) :
    exec (.reassemblyTimeout source) s = .next (({ s with dict := { s.dict with
      reassembly := s.dict.reassembly.filter fun x => x.1 != source } } : State).tick Obj.gh_field_rx_drops) :=
  congrArg _ (if_pos powered)

theorem exec_neighbourDiscovery_powered {address : Nat} (powered : s.gh.powered = true) :
    exec (.neighbourDiscovery address) s = .next (if address = beNat fieldAddress then
      ((s.fieldGot none 64).count Obj.gh_field_tx_frames 0 1).emit (.neighbour address) else s.fieldGot none 64) :=
  congrArg _ (if_pos powered)

/-! ### The BAR2 mailbox (R497, R507) -/

/-- The state with a request in the mailbox. -/
def State.bar2Asked (body : List Byte) (s : State) : State := { s with dict := { s.dict with bar2Request := body } }

/-- The state once a request of the mailbox is served and its reply stands there. -/
def State.bar2Served (type : Nat) (body : List Byte) (s : State) : State :=
  let t := (s.bar2Asked body).serveBar2 type body
  { t.2 with dict := { t.2.dict with bar2Reply := t.1 } }

theorem exec_bar2Doorbell_open {type : Nat} {body : List Byte} (isOpen : s.epOpen = true) (scope : s.dict.scope = true)
    (fits : body.length ≤ 4096) : exec (.bar2Doorbell type body) s = .next
      (if (s.bar2Served type body).ep.msix = true then (s.bar2Served type body).msixRaise 63 else s.bar2Served type body) :=
  congrArg _ (if_pos (by simp [isOpen, scope, fits]))

end

/-- Settles O49: a write by its object's row and by what it passes, the class of BAR2 by who writes it, reads, timeouts and the
mailbox by their guards. -/
theorem objectsAreWrittenAndRead : Obligations.ObjectsAreWrittenAndRead := by
  unfold Obligations.ObjectsAreWrittenAndRead
  intro s cls ix sub v a type value body r w
  refine ⟨exec_objectWrite_absent, fun row number notCredential ordinary offMasks offCounters => ?number,
    exec_credentialWrite_of_credential, fun scope small => ?bar2Class,
    fun row stats notDomain may => exec_statisticsRead (State.readItem_statistics row stats notDomain may),
    fun denied => exec_statisticsRead (State.readItem_denied denied),
    fun z staged =>
      ⟨exec_stagingTimeout_due (session := some a) staged, exec_stagingTimeout_early (session := some a) staged⟩,
    fun z staged => exec_stagingTimeout_due (session := none) staged, fun powered => ?fieldNetwork, exec_bar2Doorbell_open⟩
  case number =>
    have stored : StoredNumber ix sub w r := ⟨row, number, notCredential, ordinary, offMasks, offCounters⟩
    refine ⟨exec_objectWrite_refused stored, fun may inRange ordered => ?_⟩
    rw [exec_objectWrite_kept stored may inRange ordered]
    exact ⟨fun waits => congrArg _ (State.keepNum_atBoundary waits),
      fun now plain => congrArg _ (State.keepNum_now now plain)⟩
  case bar2Class =>
    exact ⟨exec_epBar2ClassWrite_taken scope (.inl rfl) small,
      fun custodian => exec_epBar2ClassWrite_taken scope (.inr custodian) small, exec_epBar2ClassWrite_denied⟩
  case fieldNetwork =>
    have answer := exec_neighbourDiscovery_powered (address := a) powered
    exact ⟨exec_reassemblyTimeout_powered powered, fun own => answer.trans (congrArg _ (if_pos own)),
      fun other => answer.trans (congrArg _ (if_neg other))⟩

end Sys2Proof.Machine
end

section
/-! Links: heads and ends of received frames, pause frames, frame boundaries, links coming up and going down, and the port
clock (R347, R352 to R357, R360 to R366, R370, R372, R375, R381). -/

namespace Sys2Proof.Machine

section
variable {s : State} {l tc : Nat}

/-! ### The link of one number -/

theorem State.record_pc (sev code : Nat) (p : List (Nat × Nat)) : (s.record sev code p).pc = s.pc :=
  (State.record_moves (.refl 0x200001 s) (.refl _)).frame .pc rfl

theorem State.link_congr {t : State} (kept : t.pc.links = s.pc.links) : t.link l = s.link l := by
  unfold State.link
  rw [kept]

theorem State.link_modLink_same (f : Link → Link) (there : l < s.pc.links.length) : (s.modLink l f).link l = f (s.link l) := by
  simp [State.link, State.modLink, there]

/-! ### The head of a frame (R352, R354, R355, R357) -/

section
variable {h : FrameHead}

theorem exec_rxFrameHead_up (up : (s.link l).up = true) : exec (.rxFrameHead l h) s = .next (s.rxHead l h) :=
  congrArg _ (if_pos up)

theorem State.rxHead_overfull (port : l < 32) (full : s.get Obj.pc_staging_bytes < s.stagedPort (l / 8) + 9216) :
    s.rxHead l h = s.stageHead l h 4 0 0 8 false := if_pos ⟨port, full⟩

variable (port : l < 32) (room : s.stagedPort (l / 8) + 9216 ≤ s.get Obj.pc_staging_bytes)
include port room

theorem State.rxHead_filtered (other : s.addressOk l h = false) : s.rxHead l h = s.stageHead l h 5 9216 0 8 false := by
  rw [State.rxHead, if_neg fun full => Nat.not_lt.mpr room full.2, if_pos (by rw [other]; rfl), if_neg (Nat.ne_of_lt port)]

theorem State.rxHead_unknownControl (mine : s.addressOk l h = true) (control : h.etype = 0x8808) (notPause : h.macOp ≠ 1)
    (notPfc : h.macOp ≠ 0x0101) : s.rxHead l h = (s.macFrame l).tick Obj.pc_rx_pause_ignored (l + 1) := by
  rw [State.rxHead, if_neg fun full => Nat.not_lt.mpr room full.2, if_neg (by simp [mine]), if_pos ⟨port, control⟩,
    if_neg (not_or.mpr ⟨notPause, notPfc⟩)]

theorem State.rxHead_judged {vid : Nat} (mine : s.addressOk l h = true) (data : h.etype ≠ 0x8808)
    (vlan : s.vidOf l h = some vid) :
    s.rxHead l h = State.flowCheck l false (s.stageHead l h (if s.classify l vid h = 8 then 7 else 0) 9216 (s.tcOf l h)
      (s.classify l vid h)
      (bit (s.get Obj.sw_ct_ingress (l / 8 + 1)) (s.tcOf l h) && (s.classify l vid h == 5 || s.classify l vid h == 6))) := by
  have network : l ≠ 32 := Nat.ne_of_lt port
  rw [State.rxHead, if_neg fun full => Nat.not_lt.mpr room full.2, if_neg (by simp [mine]), if_neg fun control => data control.2]
  simp only [if_neg network, vlan]

theorem State.rxHead_vlanDiscarded (mine : s.addressOk l h = true) (data : h.etype ≠ 0x8808) (vlan : s.vidOf l h = none) :
    s.rxHead l h = State.flowCheck l false (s.stageHead l h 6 9216 0 8 false) := by
  have network : l ≠ 32 := Nat.ne_of_lt port
  rw [State.rxHead, if_neg fun full => Nat.not_lt.mpr room full.2, if_neg (by simp [mine]), if_neg fun control => data control.2]
  simp only [if_neg network, vlan]

end

/-! ### The end of a frame (R352, R360, R381) -/

/-- The codewords of a frame's end counted at its link, the uncorrectable ones also for the second that runs (R352, R386). -/
def State.codewordsCounted (l cor unc : Nat) (s : State) : State :=
  let u := (s.count Obj.pc_fec_corrected (l + 1) cor).count Obj.pc_fec_uncorrected (l + 1) unc
  if unc = 0 then u else u.modPc fun x => { x with fecSecond := assign x.fecSecond l (lookup x.fecSecond l 0 + unc) }

theorem exec_rxFrameEnd_open {id len cor unc : Nat} {fcs : Bool} {f : StagedFrame} (staged : s.frame? id = some f)
    (arriving : f.ended = false) :
    exec (.rxFrameEnd id len fcs cor unc) s = .next (State.rxEnd f len
      (if len < 64 then 1 else if 9216 < len then 2 else if !fcs ∨ unc ≠ 0 then 3 else f.cause)
      (((s.codewordsCounted f.link cor unc).tick Obj.pc_rx_frames (f.link + 1)).count Obj.pc_rx_bytes (f.link + 1) len)) := by
  change execRxFrameEnd id len fcs cor unc s = _
  rw [execRxFrameEnd, staged]
  exact congrArg _ (if_neg (ne_true_of_eq_false arriving))

/-! ### Pause frames (R362 to R366) -/

section
variable {q mask : Nat} {qs : List Nat} (up : (s.link l).up = true)
include up

theorem exec_pauseFrame_honoured (mode : (s.macFrame l).get Obj.pc_flow_mode (l + 1) = 1) :
    exec (.pauseFrame l q) s = .next ((List.range 8).foldl (fun t c => t.setPause l c q)
      ((s.macFrame l).tick Obj.pc_rx_pause_frames (l + 1))) :=
  congrArg _ ((if_neg (by simp [up])).trans (if_pos mode))

theorem exec_pauseFrame_ignored (mode : (s.macFrame l).get Obj.pc_flow_mode (l + 1) ≠ 1) :
    exec (.pauseFrame l q) s = .next ((s.macFrame l).tick Obj.pc_rx_pause_ignored (l + 1)) :=
  congrArg _ ((if_neg (by simp [up])).trans (if_neg mode))

theorem exec_pfcFrame_honoured (mode : (s.macFrame l).get Obj.pc_flow_mode (l + 1) = 2) :
    exec (.pfcFrame l mask qs) s = .next ((List.range 8).foldl (fun t c =>
      if bit mask c then t.setPause l c (qs.getD c 0) else t) ((s.macFrame l).tick Obj.pc_rx_pause_frames (l + 1))) :=
  congrArg _ ((if_neg (by simp [up])).trans (if_pos mode))

theorem exec_pfcFrame_ignored (mode : (s.macFrame l).get Obj.pc_flow_mode (l + 1) ≠ 2) :
    exec (.pfcFrame l mask qs) s = .next ((s.macFrame l).tick Obj.pc_rx_pause_ignored (l + 1)) :=
  congrArg _ ((if_neg (by simp [up])).trans (if_neg mode))

end

theorem exec_pauseStorm_due {p : PauseSt} (paused : (s.link l).pauses.find? (fun x => x.tc == tc) = some p)
    (unlogged : p.logged = false) (long : s.get Obj.pc_pause_storm_limit ≤ s.gh.now - p.since) :
    exec (.pauseStorm l tc) s = .next (State.record 5 0x3004 [(4, l), (4, tc), (8, s.gh.now - p.since)]
      (State.tick Obj.pc_pause_storms (l + 1) (s.modLink l fun k => { k with
        pauses := modFirst (fun x => x.tc == tc) (fun x => { x with logged := true }) k.pauses }))) := by
  change execPauseStorm l tc s = _
  rw [execPauseStorm, paused]
  refine congrArg _ (if_neg ?_)
  rintro (logged | short)
  · exact ne_true_of_eq_false unlogged logged
  · exact Nat.not_lt.mpr long short

/-! ### A frame boundary (R363, R370, R373) -/

section
variable {stomp : Bool} {v : State}

/-- The frame in transmission has ended: it is counted and output, and one found bad is counted as such (R370, R380). -/
def State.frameSent (l : Nat) (stomp : Bool) (s : State) (y : EgressFrame) : State :=
  let t := State.emit (.txFrame l y.tc y.bytes (stomp || y.bad))
    ((s.tick Obj.pc_tx_frames (l + 1)).count Obj.pc_tx_bytes (l + 1) y.bytes)
  if stomp || y.bad then
    (if l < 32 then (t.tick Obj.pc_tx_stomped (l + 1)).tick Obj.sw_ct_bad_egress else t).modPc fun x => { x with
      badSecond := (x.badSecond.1 + (if l < 32 then 1 else 0), x.badSecond.2) }
  else t

/-- What was in transmission on a link, if anything was, has ended. -/
def State.sendingEnded (l : Nat) (stomp : Bool) (s : State) : State :=
  match (s.link l).sending with
  | some y => s.frameSent l stomp y
  | none => s

/-- The link is free and its port has taken what waited for it (R360, R363). -/
def State.boundaryFilled (l : Nat) (v : State) : State := State.fillPort l (v.modLink l fun k => { k with
  sending := none, pauses := k.pauses.map fun x => { x with pending := false } })

/-- The frame a link has chosen is in transmission, with its stamp where it is one of the port clock (R370, R373). -/
def State.startFrame (l stamp : Nat) (u : State) (g : EgressFrame) : State :=
  let t := u.modLink l fun k => { k with sending := some g, vt := g.start, frames := dropFirst (fun x => x == g) k.frames }
  match g.ptp with
  | some n => t.modPc fun x => { x with
      stamps := (x.stamps ++ [(n, l, stamp)]).drop ((x.stamps ++ [(n, l, stamp)]).length - 64) }
  | none => t

/-- The frame a free link sends next, none where every head is paused or no frame waits (R362, R370). -/
def State.nextFrame? (l : Nat) (u : State) : Option EgressFrame := (u.link l).choose (u.get Obj.sw_strict_tc7 == 1)

/-- A free link sends the frame it has chosen, where there is one (R370). -/
def State.sendNext (l stamp : Nat) (u : State) : State :=
  match u.nextFrame? l with
  | some g => u.startFrame l stamp g
  | none => u

theorem State.sendNext_idle {stamp : Nat} (idle : s.nextFrame? l = none) : s.sendNext l stamp = s := by
  rw [State.sendNext, idle]

theorem State.sendNext_chosen {stamp : Nat} {g : EgressFrame} (chosen : s.nextFrame? l = some g) :
    s.sendNext l stamp = s.startFrame l stamp g := by
  rw [State.sendNext, chosen]

theorem State.txBoundary_eq : s.txBoundary l stomp =
    ((s.sendingEnded l stomp).boundaryFilled l).sendNext l (s.stamp Obj.pc_ptp_egress_latency l) := rfl

/-- No frame is in transmission, or the one that was has ended whole and is counted: `v` follows (R370). -/
def State.SentWhole (s : State) (l : Nat) (stomp : Bool) (v : State) : Prop :=
  (s.link l).sending = none ∧ v = s ∨ ∃ y, (s.link l).sending = some y ∧ stomp = false ∧ y.bad = false ∧
    v = State.emit (.txFrame l y.tc y.bytes false) ((s.tick Obj.pc_tx_frames (l + 1)).count Obj.pc_tx_bytes (l + 1) y.bytes)

theorem State.sendingEnded_of_sentWhole (whole : s.SentWhole l stomp v) : s.sendingEnded l stomp = v := by
  obtain ⟨idle, rfl⟩ | ⟨y, sending, rfl, good, rfl⟩ := whole
  · rw [State.sendingEnded, idle]
  · rw [State.sendingEnded, sending]
    simp only [State.frameSent, good, Bool.or_false, Bool.false_eq_true, if_false]

theorem exec_txFrameBoundary_idle (up : (s.link l).up = true) (whole : s.SentWhole l stomp v)
    (idle : (v.boundaryFilled l).nextFrame? l = none) : exec (.txFrameBoundary l stomp) s = .next (v.boundaryFilled l) := by
  refine congrArg _ ((if_pos up).trans ?_)
  rw [State.txBoundary_eq, State.sendingEnded_of_sentWhole whole, State.sendNext_idle idle]

theorem exec_txFrameBoundary_sends {g : EgressFrame} (up : (s.link l).up = true) (whole : s.SentWhole l stomp v)
    (chosen : (v.boundaryFilled l).nextFrame? l = some g) : exec (.txFrameBoundary l stomp) s =
      .next ((v.boundaryFilled l).startFrame l (s.stamp Obj.pc_ptp_egress_latency l) g) := by
  refine congrArg _ ((if_pos up).trans ?_)
  rw [State.txBoundary_eq, State.sendingEnded_of_sentWhole whole, State.sendNext_chosen chosen]

theorem State.startFrame_plain {g : EgressFrame} {stamp : Nat} (plain : g.ptp = none) : s.startFrame l stamp g =
    s.modLink l fun k => { k with sending := some g, vt := g.start, frames := dropFirst (fun x => x == g) k.frames } := by
  rw [State.startFrame, plain]

theorem State.startFrame_stamped {g : EgressFrame} {stamp n : Nat} (timed : g.ptp = some n) : s.startFrame l stamp g =
    State.modPc (fun x => { x with
        stamps := (x.stamps ++ [(n, l, stamp)]).drop ((x.stamps ++ [(n, l, stamp)]).length - 64) })
      (s.modLink l fun k => { k with sending := some g, vt := g.start, frames := dropFirst (fun x => x == g) k.frames }) := by
  rw [State.startFrame, timed]

end

/-! ### Links come up and go down (R347, R372) -/

theorem exec_linkDown_port (port : l ≤ 31) (up : (s.link l).up = true) : exec (.linkDown l) s = .next (s.linkDown l 1) :=
  congrArg _ ((if_pos ⟨by omega, up⟩).trans (if_neg (by omega)))

theorem exec_linkDown_sister (up : (s.link 32).up = true) :
    exec (.linkDown 32) s = .next (s.linkDown 32 1).closeSisterRooms :=
  congrArg _ ((if_pos ⟨Nat.le_refl _, up⟩).trans (if_pos rfl))

theorem exec_linkUp_port (port : l < 32) (ready : s.linkReady l = true) : exec (.linkUp l) s = .next (s.linkUp l) :=
  congrArg _ ((if_neg (not_or.mpr ⟨by omega, by simp [ready]⟩)).trans (if_neg (Nat.ne_of_lt port)))

theorem exec_linkUp_sister (ready : s.linkReady 32 = true) : exec (.linkUp 32) s = .next s.sisterLinkUp :=
  congrArg _ ((if_neg (by simp [ready])).trans (if_pos rfl))

theorem State.link_linkUp (port : l < 32) (there : l < s.pc.links.length) :
    (s.linkUp l).link l = { s.link l with up := true, rate := (modeLinks (s.pc.portMode.getD (l / 8) 4)).2 } := by
  have network : l ≠ 32 := Nat.ne_of_lt port
  unfold State.linkUp
  dsimp only
  rw [State.link_congr (congrArg PortSt.links (State.record_pc ..)), if_pos port]
  refine (State.link_modLink_same _ there).trans ?_
  simp only [if_neg network]

/-! ### The port clock (R375) -/

theorem State.ptpTo_of_ne {v : Nat} (other : s.pc.ptpState ≠ v) : s.ptpTo v = State.record 3 0x3005
    [(1, s.pc.ptpState), (1, v), (8, encInt 64 s.pc.ptpOffset)] (s.modPc fun p => { p with ptpState := v }) := if_neg other

theorem exec_ptpLoss_due (running : s.pc.ptpState = 1 ∨ s.pc.ptpState = 2)
    (silent : s.get Obj.pc_ptp_loss ≤ s.gh.now - s.pc.ptpLast) :
    exec .ptpLoss s = .next (State.record 3 0x3005 [(1, s.pc.ptpState), (1, 3), (8, encInt 64 s.pc.ptpOffset)]
      (s.modPc fun x => { x with ptpGood := 0, ptpState := 3 })) := by
  have other : s.pc.ptpState ≠ 3 := by omega
  exact congrArg _ ((if_pos ⟨running, silent⟩).trans
    (State.ptpTo_of_ne (s := s.modPc fun p => { p with ptpGood := 0 }) other))

end

/-- Settles O50: a head by the checks that judge it, a pause frame by the link's mode, a boundary by what the link chooses, the
rest by their guards. -/
theorem linksCarryAndPauseFrames : Obligations.LinksCarryAndPauseFrames := by
  unfold Obligations.LinksCarryAndPauseFrames
  intro s l tc q mask vid id len cor unc n h qs f g p stomp fcs off
  refine ⟨fun up => ?carries, fun down => ?silent, exec_rxFrameEnd_open, rfl, exec_pauseStorm_due,
    fun port ready => ⟨exec_linkUp_port port ready, fun whole => ?rate⟩, exec_linkUp_sister,
    fun enabled own up => congrArg _ (if_pos ⟨enabled, own, up⟩), exec_ptpLoss_due⟩
  case carries =>
    have head := exec_rxFrameHead_up (h := h) up
    refine ⟨fun port full => head.trans (congrArg _ (State.rxHead_overfull port full)), fun port room => ?room,
      fun mode => ⟨exec_pauseFrame_honoured up mode, exec_pfcFrame_ignored up (by omega)⟩,
      fun mode => ⟨exec_pauseFrame_ignored up (by omega), exec_pfcFrame_honoured up mode⟩,
      congrArg _ (if_pos up), fun v whole => ?boundary, fun port => exec_linkDown_port port up, fun sister => ?sister⟩
    case room =>
      exact ⟨fun other => head.trans (congrArg _ (State.rxHead_filtered port room other)),
        fun mine control notPause notPfc =>
          head.trans (congrArg _ (State.rxHead_unknownControl port room mine control notPause notPfc)),
        fun mine data vlan => head.trans (congrArg _ (State.rxHead_judged port room mine data vlan)),
        fun mine data vlan => head.trans (congrArg _ (State.rxHead_vlanDiscarded port room mine data vlan))⟩
    case boundary =>
      have sends {g : EgressFrame} := exec_txFrameBoundary_sends (g := g) up whole
      exact ⟨exec_txFrameBoundary_idle up whole,
        fun chosen plain => (sends chosen).trans (congrArg _ (State.startFrame_plain plain)),
        fun chosen timed => (sends chosen).trans (congrArg _ (State.startFrame_stamped timed))⟩
    case sister =>
      subst sister
      exact exec_linkDown_sister up
  case silent =>
    have notUp : ¬(s.link l).up = true := ne_true_of_eq_false down
    exact ⟨congrArg _ (if_neg notUp), congrArg _ (if_pos (by simp [down])), congrArg _ (if_neg fun both => notUp both.2),
      congrArg _ (if_neg notUp)⟩
  case rate =>
    rw [State.link_linkUp port (by omega)]
    exact ⟨rfl, rfl⟩

end Sys2Proof.Machine
end

section
/-! The frame and the invariants of every command: what moves under the mask of its areas, and what every step keeps (R439, R471, R475,
R494, R513, R523, R525). -/

namespace Sys2Proof.Machine

/-! ### Masks of areas -/

theorem Area.bit_injective : Function.Injective Area.bit := by
  intro a b
  cases a <;> cases b <;> simp [Area.bit]

theorem testBit_foldl_areas (l : List Area) (m : Nat) (p : Area) :
    (l.foldl (fun n q => Nat.lor n (Nat.shiftLeft 1 q.bit)) m).testBit p.bit = (m.testBit p.bit || decide (p ∈ l)) := by
  induction l generalizing m with
  | nil => simp
  | cons q l ih =>
    have one : (Nat.lor m (Nat.shiftLeft 1 q.bit)).testBit p.bit = (m.testBit p.bit || decide (p = q)) := by
      change (m ||| 1 <<< q.bit).testBit p.bit = _
      rw [Nat.testBit_or, Nat.one_shiftLeft, Nat.testBit_two_pow]
      simp only [Area.bit_injective.eq_iff, eq_comm]
    rw [List.foldl_cons, ih, one]
    simp [Bool.or_assoc]

/-- A mask names the areas of its list, and no other. -/
theorem testBit_areaMask (l : List Area) (p : Area) : (areaMask l).testBit p.bit = decide (p ∈ l) := by
  exact (testBit_foldl_areas l 0 p).trans (by simp)

/-! ### Every command moves the state within its areas -/

theorem exec_moves (c : Instr) (s : State) : OutMoves (areaMask (touches c)) s (exec c s) := by
  have unmoved := Moves.refl (areaMask (touches c)) s
  have within {a : Nat} (named : areaMask (touches c) = a) : Sub a (areaMask (touches c)) := named ▸ .refl _
  cases c with
  | legBoundary => exact execLegBoundary_moves unmoved (within rfl)
  | refclkLoss => exact execRefclkLoss_moves unmoved (within rfl)
  | refclkRelock => exact execRefclkRelock_moves unmoved (within rfl)
  | holdoverEnd => exact execHoldoverEnd_moves unmoved (within rfl)
  | noneCmd => exact execNoneCmd_moves unmoved (within rfl)
  | netIn => exact execNetIn_moves unmoved (within rfl)
  | netOut => exact execNetOut_moves unmoved (within rfl)
  | cipher => exact execCipher_moves unmoved (within rfl)
  | driveIn => exact execDriveIn_moves unmoved (within rfl)
  | driveOut => exact execDriveOut_moves unmoved (within rfl)
  | parityIn => exact execParityIn_moves unmoved (within rfl)
  | parityOut => exact execParityOut_moves unmoved (within rfl)
  | sisterOut => exact execSisterOut_moves unmoved (within rfl)
  | sisterIn => exact execSisterIn_moves unmoved (within rfl)
  | cacheRd => exact execCacheRd_moves unmoved (within rfl)
  | cacheWr => exact execCacheWr_moves unmoved (within rfl)
  | context => exact execContext_moves unmoved (within rfl)
  | journal => exact execJournal_moves unmoved (within rfl)
  | endpoint => exact execEndpoint_moves unmoved (within rfl)
  | vault => exact execVault_moves unmoved (within rfl)
  | control => exact execControl_moves unmoved (within rfl)
  | dump => exact execDump_moves unmoved (within rfl)
  | shadowImageEnd => exact execShadowImageEnd_moves unmoved (within rfl)
  | ttCheck => exact execTtCheck_moves unmoved (within rfl)
  | ttCheckDone => exact execTtCheckDone_moves unmoved (within rfl)
  | ttSwitch => exact execTtSwitch_moves unmoved (within rfl)
  | ttSwitchDigestDone => exact execTtSwitchDigestDone_moves unmoved (within rfl)
  | ttSwitchClassEmpty => exact execTtSwitchClassEmpty_moves unmoved (within rfl)
  | ttSwitchClassTimeout => exact execTtSwitchClassTimeout_moves unmoved (within rfl)
  | ttShadowToF1 => exact execTtShadowToF1_moves unmoved (within rfl)
  | capsuleAccept => exact execCapsuleAccept_moves unmoved (within rfl)
  | fullStripeIssue => exact execFullStripeIssue_moves unmoved (within rfl)
  | copyAckTimeout => exact execCopyAckTimeout_moves unmoved (within rfl)
  | applyStart => exact execApplyStart_moves unmoved (within rfl)
  | driveCompletion => exact execDriveCompletion_moves unmoved (within rfl)
  | blockFix => exact execBlockFix_moves unmoved (within rfl)
  | readHedge => exact execReadHedge_moves unmoved (within rfl)
  | readRoomHoldExpiry => exact execReadRoomHoldExpiry_moves unmoved (within rfl)
  | roomRdmaRead => exact execRoomRdmaRead_moves unmoved (within rfl)
  | bayContain => exact execBayContain_moves unmoved (within rfl)
  | returnEvent => exact execReturnEvent_moves unmoved (within rfl)
  | rebuildStripe => exact execRebuildStripe_moves unmoved (within rfl)
  | rebuildStripeDone => exact execRebuildStripeDone_moves unmoved (within rfl)
  | patrolStripe => exact execPatrolStripe_moves unmoved (within rfl)
  | patrolRewrite => exact execPatrolRewrite_moves unmoved (within rfl)
  | peRebuildRateWrite => exact execPeRebuildRateWrite_moves unmoved (within rfl)
  | pePatrolEnableWrite => exact execPePatrolEnableWrite_moves unmoved (within rfl)
  | pePatrolLogClear => exact execPePatrolLogClear_moves unmoved (within rfl)
  | pfTrip => exact execPfTrip_moves unmoved (within rfl)
  | flushEndPage => exact execFlushEndPage_moves unmoved (within rfl)
  | bankFloorReached => exact execBankFloorReached_moves unmoved (within rfl)
  | comparatorSuspect => exact execComparatorSuspect_moves unmoved (within rfl)
  | journalRecordHeld => exact execJournalRecordHeld_moves unmoved (within rfl)
  | descriptorCommit => exact execDescriptorCommit_moves unmoved (within rfl)
  | lgLedgerSizeWrite => exact execLgLedgerSizeWrite_moves unmoved (within rfl)
  | lgFlushProfileWrite => exact execLgFlushProfileWrite_moves unmoved (within rfl)
  | sisterSbTx => exact execSisterSbTx_moves unmoved (within rfl)
  | sisterSbRx => exact execSisterSbRx_moves unmoved (within rfl)
  | sidebandSilent => exact execSidebandSilent_moves unmoved (within rfl)
  | bayOwnerRelease => exact execBayOwnerRelease_moves unmoved (within rfl)
  | legPacketRx => exact execLegPacketRx_moves unmoved (within rfl)
  | legPacketAck => exact execLegPacketAck_moves unmoved (within rfl)
  | legPacketNak => exact execLegPacketNak_moves unmoved (within rfl)
  | holderSilence => exact execHolderSilence_moves unmoved (within rfl)
  | wardenGrant => exact execWardenGrant_moves unmoved (within rfl)
  | wardenRefuse => exact execWardenRefuse_moves unmoved (within rfl)
  | wardenTimeout => exact execWardenTimeout_moves unmoved (within rfl)
  | holdoffExpiry => exact execHoldoffExpiry_moves unmoved (within rfl)
  | renew => exact execRenew_moves unmoved (within rfl)
  | reservationConflict => exact execReservationConflict_moves unmoved (within rfl)
  | driveWon => exact execDriveWon_moves unmoved (within rfl)
  | preemptTimeout => exact execPreemptTimeout_moves unmoved (within rfl)
  | quorumRetry => exact execQuorumRetry_moves unmoved (within rfl)
  | resyncReq => exact execResyncReq_moves unmoved (within rfl)
  | resyncDone => exact execResyncDone_moves unmoved (within rfl)
  | siHandback => exact execSiHandback_moves unmoved (within rfl)
  | handback => exact execHandback_moves unmoved (within rfl)
  | handbackTimeout => exact execHandbackTimeout_moves unmoved (within rfl)
  | siPromote => exact execSiPromote_moves unmoved (within rfl)
  | cmReq => exact execCmReq_moves unmoved (within rfl)
  | rdmaReadResponse => exact execRdmaReadResponse_moves unmoved (within rfl)
  | rdmaWritePush => exact execRdmaWritePush_moves unmoved (within rfl)
  | acknowledge => exact execAcknowledge_moves unmoved (within rfl)
  | cnp => exact execCnp_moves unmoved (within rfl)
  | sack => exact execSack_moves unmoved (within rfl)
  | sackInterval => exact execSackInterval_moves unmoved (within rfl)
  | spreadTimeout => exact execSpreadTimeout_moves unmoved (within rfl)
  | ackTimeout => exact execAckTimeout_moves unmoved (within rfl)
  | trRekey => exact execTrRekey_moves unmoved (within rfl)
  | rekeyOverlapEnd => exact execRekeyOverlapEnd_moves unmoved (within rfl)
  | contextFetchDone => exact execContextFetchDone_moves unmoved (within rfl)
  | waitEntryTimeout => exact execWaitEntryTimeout_moves unmoved (within rfl)
  | fabricsConnect => exact execFabricsConnect_moves unmoved (within rfl)
  | propertyGet => exact execPropertyGet_moves unmoved (within rfl)
  | propertySet => exact execPropertySet_moves unmoved (within rfl)
  | disconnect => exact execDisconnect_moves unmoved (within rfl)
  | identifyController => exact execIdentifyController_moves unmoved (within rfl)
  | identifyNamespace => exact execIdentifyNamespace_moves unmoved (within rfl)
  | activeNamespaceList => exact execActiveNamespaceList_moves unmoved (within rfl)
  | namespaceDescriptorList => exact execNamespaceDescriptorList_moves unmoved (within rfl)
  | getLogPage => exact execGetLogPage_moves unmoved (within rfl)
  | setFeatures => exact execSetFeatures_moves unmoved (within rfl)
  | getFeatures => exact execGetFeatures_moves unmoved (within rfl)
  | firmwareImageDownload => exact execFirmwareImageDownload_moves unmoved (within rfl)
  | firmwareCommit => exact execFirmwareCommit_moves unmoved (within rfl)
  | firmwareActivationReady => exact execFirmwareActivationReady_moves unmoved (within rfl)
  | mtfaTimeout => exact execMtfaTimeout_moves unmoved (within rfl)
  | abortCmd => exact execAbortCmd_moves unmoved (within rfl)
  | keepAlive => exact execKeepAlive_moves unmoved (within rfl)
  | katoExpiry => exact execKatoExpiry_moves unmoved (within rfl)
  | asynchronousEventRequest => exact execAsynchronousEventRequest_moves unmoved (within rfl)
  | readCmd => exact execReadCmd_moves unmoved (within rfl)
  | writeCmd => exact execWriteCmd_moves unmoved (within rfl)
  | flushCmd => exact execFlushCmd_moves unmoved (within rfl)
  | writeZeroes => exact execWriteZeroes_moves unmoved (within rfl)
  | datasetManagement => exact execDatasetManagement_moves unmoved (within rfl)
  | reservationRegister => exact execReservationRegister_moves unmoved (within rfl)
  | reservationAcquire => exact execReservationAcquire_moves unmoved (within rfl)
  | reservationRelease => exact execReservationRelease_moves unmoved (within rfl)
  | reservationReport => exact execReservationReport_moves unmoved (within rfl)
  | roomOpen => exact execRoomOpen_moves unmoved (within rfl)
  | roomModify => exact execRoomModify_moves unmoved (within rfl)
  | roomClose => exact execRoomClose_moves unmoved (within rfl)
  | roomCloseTimeout => exact execRoomCloseTimeout_moves unmoved (within rfl)
  | cePowerStateSet => exact execCePowerStateSet_moves unmoved (within rfl)
  | ps2EntryComplete => exact execPs2EntryComplete_moves unmoved (within rfl)
  | psEntryLimitExpiry => exact execPsEntryLimitExpiry_moves unmoved (within rfl)
  | ceNsCreate => exact execCeNsCreate_moves unmoved (within rfl)
  | ceNsDelete => exact execCeNsDelete_moves unmoved (within rfl)
  | nsPartyMaskWrite => exact execNsPartyMaskWrite_moves unmoved (within rfl)
  | driveIoTimeout => exact execDriveIoTimeout_moves unmoved (within rfl)
  | driveAdminTimeout => exact execDriveAdminTimeout_moves unmoved (within rfl)
  | driveAbortWaitExpiry => exact execDriveAbortWaitExpiry_moves unmoved (within rfl)
  | ceBayContain => exact execCeBayContain_moves unmoved (within rfl)
  | driveExamine => exact execDriveExamine_moves unmoved (within rfl)
  | driveExamineDone => exact execDriveExamineDone_moves unmoved (within rfl)
  | driveExamineTimeout => exact execDriveExamineTimeout_moves unmoved (within rfl)
  | ceBayRelease => exact execCeBayRelease_moves unmoved (within rfl)
  | ceBayAccept => exact execCeBayAccept_moves unmoved (within rfl)
  | rxFrameHead => exact execRxFrameHead_moves unmoved (within rfl)
  | rxFrameEnd => exact execRxFrameEnd_moves unmoved (within rfl)
  | pauseFrame => exact execPauseFrame_moves unmoved (within rfl)
  | pfcFrame => exact execPfcFrame_moves unmoved (within rfl)
  | pauseExpiry => exact execPauseExpiry_moves unmoved (within rfl)
  | pauseStorm => exact execPauseStorm_moves unmoved (within rfl)
  | pfcRefresh => exact execPfcRefresh_moves unmoved (within rfl)
  | txFrameBoundary => exact execTxFrameBoundary_moves unmoved (within rfl)
  | linkDown => exact execLinkDown_moves unmoved (within rfl)
  | linkUp => exact execLinkUp_moves unmoved (within rfl)
  | ptpSync => exact execPtpSync_moves unmoved (within rfl)
  | ptpLoss => exact execPtpLoss_moves unmoved (within rfl)
  | statisticsRead => exact execStatisticsRead_moves unmoved (within rfl)
  | draw => exact execDraw_moves unmoved (within rfl)
  | drawBySize => exact execDrawBySize_moves unmoved (within rfl)
  | shareCmd => exact execShareCmd_moves unmoved (within rfl)
  | releaseCmd => exact execReleaseCmd_moves unmoved (within rfl)
  | freeCmd => exact execFreeCmd_moves unmoved (within rfl)
  | handover => exact execHandover_moves unmoved (within rfl)
  | cyOwnerRootWrite => exact execCyOwnerRootWrite_moves unmoved (within rfl)
  | cyHostKeyDerive => exact execCyHostKeyDerive_moves unmoved (within rfl)
  | keyDerivationDone => exact execKeyDerivationDone_moves unmoved (within rfl)
  | cyCoreReset => exact execCyCoreReset_moves unmoved (within rfl)
  | coreFault => exact execCoreFault_moves unmoved (within rfl)
  | ghTick => exact execGhTick_moves unmoved (within rfl)
  | feedValid => exact execFeedValid_moves unmoved (within rfl)
  | feedMake => exact execFeedMake_moves unmoved (within rfl)
  | feedReturn => exact execFeedReturn_moves unmoved (within rfl)
  | faultTimerExpiry => exact execFaultTimerExpiry_moves unmoved (within rfl)
  | pgTimeout => exact execPgTimeout_moves unmoved (within rfl)
  | offTimeEnd => exact execOffTimeEnd_moves unmoved (within rfl)
  | accumulatorClear => exact execAccumulatorClear_moves unmoved (within rfl)
  | tripCountClear => exact execTripCountClear_moves unmoved (within rfl)
  | ghBoardUnlatch => exact execGhBoardUnlatch_moves unmoved (within rfl)
  | ghBayUnlatch => exact execGhBayUnlatch_moves unmoved (within rfl)
  | presenceDebounced => exact execPresenceDebounced_moves unmoved (within rfl)
  | bayStagger => exact execBayStagger_moves unmoved (within rfl)
  | carrierRemoval => exact execCarrierRemoval_moves unmoved (within rfl)
  | bayEmptyClear => exact execBayEmptyClear_moves unmoved (within rfl)
  | ghBayEnableWrite => exact execGhBayEnableWrite_moves unmoved (within rfl)
  | measurementSample => exact execMeasurementSample_moves unmoved (within rfl)
  | bankPublish => exact execBankPublish_moves unmoved (within rfl)
  | chargeTargetReached => exact execChargeTargetReached_moves unmoved (within rfl)
  | chargeTimeout => exact execChargeTimeout_moves unmoved (within rfl)
  | ghBankEnergyCeilingWrite => exact execGhBankEnergyCeilingWrite_moves unmoved (within rfl)
  | bankBleedDone => exact execBankBleedDone_moves unmoved (within rfl)
  | capacitanceMeasure => exact execCapacitanceMeasure_moves unmoved (within rfl)
  | ghBankMeasure => exact execGhBankMeasure_moves unmoved (within rfl)
  | bankMeasureDone => exact execBankMeasureDone_moves unmoved (within rfl)
  | railSequence => exact execRailSequence_moves unmoved (within rfl)
  | railPgTimeout => exact execRailPgTimeout_moves unmoved (within rfl)
  | railFault => exact execRailFault_moves unmoved (within rfl)
  | shelfTimeSave => exact execShelfTimeSave_moves unmoved (within rfl)
  | ptpCompare => exact execPtpCompare_moves unmoved (within rfl)
  | ghTimeSet => exact execGhTimeSet_moves unmoved (within rfl)
  | gatehousePowerOnReset => exact execGatehousePowerOnReset_moves unmoved (within rfl)
  | vigilExit => exact execVigilExit_moves unmoved (within rfl)
  | fwStart => exact execFwStart_moves unmoved (within rfl)
  | musterStepEnd => exact execMusterStepEnd_moves unmoved (within rfl)
  | warmReset => exact execWarmReset_moves unmoved (within rfl)
  | fwWarmReset => exact execFwWarmReset_moves unmoved (within rfl)
  | fwShutdown => exact execFwShutdown_moves unmoved (within rfl)
  | shutdownTimeout => exact execShutdownTimeout_moves unmoved (within rfl)
  | fwRecoveryImage => exact execFwRecoveryImage_moves unmoved (within rfl)
  | fwOwnerKeyWrite => exact execFwOwnerKeyWrite_moves unmoved (within rfl)
  | fwConfirmExpiry => exact execFwConfirmExpiry_moves unmoved (within rfl)
  | fwUnitReset => exact execFwUnitReset_moves unmoved (within rfl)
  | unitReady => exact execUnitReady_moves unmoved (within rfl)
  | unitReadyLimit => exact execUnitReadyLimit_moves unmoved (within rfl)
  | stewardWatchdog => exact execStewardWatchdog_moves unmoved (within rfl)
  | thermalTrip => exact execThermalTrip_moves unmoved (within rfl)
  | drvPerstRelease => exact execDrvPerstRelease_moves unmoved (within rfl)
  | hello => exact execHello_moves unmoved (within rfl)
  | auth => exact execAuth_moves unmoved (within rfl)
  | authTimeout => exact execAuthTimeout_moves unmoved (within rfl)
  | close => exact execClose_moves unmoved (within rfl)
  | sessionIdle => exact execSessionIdle_moves unmoved (within rfl)
  | fieldRead => exact execFieldRead_moves unmoved (within rfl)
  | fieldWrite => exact execFieldWrite_moves unmoved (within rfl)
  | objectWrite => exact execObjectWrite_moves unmoved (within rfl)
  | domainRead => exact execDomainRead_moves unmoved (within rfl)
  | domainWrite => exact execDomainWrite_moves unmoved (within rfl)
  | stagingTimeout => exact execStagingTimeout_moves unmoved (within rfl)
  | reassemblyTimeout => exact execReassemblyTimeout_moves unmoved (within rfl)
  | credentialWrite => exact execCredentialWrite_moves unmoved (within rfl)
  | bar2Doorbell => exact execBar2Doorbell_moves unmoved (within rfl)
  | epBar2ClassWrite => exact execEpBar2ClassWrite_moves unmoved (within rfl)
  | epDoorbell => exact execEpDoorbell_moves unmoved (within rfl)
  | createIoSubmissionQueue => exact execCreateIoSubmissionQueue_moves unmoved (within rfl)
  | createIoCompletionQueue => exact execCreateIoCompletionQueue_moves unmoved (within rfl)
  | deleteIoSubmissionQueue => exact execDeleteIoSubmissionQueue_moves unmoved (within rfl)
  | deleteIoCompletionQueue => exact execDeleteIoCompletionQueue_moves unmoved (within rfl)
  | epReadCompletion => exact execEpReadCompletion_moves unmoved (within rfl)
  | epCompletionTimeout => exact execEpCompletionTimeout_moves unmoved (within rfl)
  | epError => exact execEpError_moves unmoved (within rfl)
  | busMasterClear => exact execBusMasterClear_moves unmoved (within rfl)
  | busMasterSet => exact execBusMasterSet_moves unmoved (within rfl)
  | functionLevelReset => exact execFunctionLevelReset_moves unmoved (within rfl)
  | epResetDone => exact execEpResetDone_moves unmoved (within rfl)
  | d3hotEntry => exact execD3hotEntry_moves unmoved (within rfl)
  | interruptModeChange => exact execInterruptModeChange_moves unmoved (within rfl)
  | gbClear => exact execGbClear_moves unmoved (within rfl)
  | gateCopy => exact execGateCopy_moves unmoved (within rfl)
  | gbWindowRead => exact execGbWindowRead_moves unmoved (within rfl)
  | clusterDump => exact execClusterDump_moves unmoved (within rfl)
  | counterConfigWrite => exact execCounterConfigWrite_moves unmoved (within rfl)
  | filterWrite => exact execFilterWrite_moves unmoved (within rfl)
  | tallySave => exact execTallySave_moves unmoved (within rfl)
  | gatehousePowerLoss => exact execGatehousePowerLoss_moves unmoved (within rfl)
  | challenge => exact execChallenge_moves unmoved (within rfl)
  | authOk => exact execAuthOk_moves unmoved (within rfl)
  | lanternResend => exact execLanternResend_moves unmoved (within rfl)
  | d0Entry => exact execD0Entry_moves unmoved (within rfl)
  | temperatureRead => exact execTemperatureRead_moves unmoved (within rfl)
  | interruptUnmask => exact execInterruptUnmask_moves unmoved (within rfl)
  | epCcWrite => exact execEpCcWrite_moves unmoved (within rfl)
  | neighbourDiscovery => exact execNeighbourDiscovery_moves unmoved (within rfl)

/-! ### The canonical object list (R471, R475) -/

theorem mem_objPut {key v : Nat} {l : List (Nat × Nat)} {p : Nat × Nat} (mem : p ∈ objPut key v l) :
    p ∈ l ∨ (p = (key, v) ∧ v ≠ objDefault key) := by
  induction l with
  | nil => unfold objPut at mem; split at mem <;> simp_all
  | cons q r ih =>
    unfold objPut at mem
    split_ifs at mem <;> simp only [List.mem_cons] at mem ⊢ <;> tauto

theorem objRising_iff (lo : Option Nat) (l : List (Nat × Nat)) :
    objRising lo l = true ↔ (∀ k ∈ lo, ∀ p ∈ l, k < p.1) ∧ l.Pairwise fun p q => p.1 < q.1 := by
  induction l generalizing lo with
  | nil => simp [objRising]
  | cons p r ih =>
    simp only [objRising, Bool.and_eq_true, ih, List.pairwise_cons, List.forall_mem_cons, Option.mem_some_iff, forall_eq']
    cases lo with
    | none => simp
    | some k =>
      simp only [decide_eq_true_eq, Option.mem_some_iff, forall_eq']
      exact ⟨fun ⟨low, rest⟩ => ⟨⟨low, fun q mem => low.trans (rest.1 q mem)⟩, rest⟩, fun ⟨low, rest⟩ => ⟨low.1, rest⟩⟩

theorem objsWf_iff (l : List (Nat × Nat)) :
    objsWf l = true ↔ (l.Pairwise fun p q => p.1 < q.1) ∧ ∀ p ∈ l, p.2 ≠ objDefault p.1 := by
  simp [objsWf, objRising_iff]

theorem pairwise_objPut (key v : Nat) {l : List (Nat × Nat)} (rising : l.Pairwise fun p q => p.1 < q.1) :
    (objPut key v l).Pairwise fun p q => p.1 < q.1 := by
  induction l with
  | nil => unfold objPut; split <;> simp
  | cons p r ih =>
    obtain ⟨above, rest⟩ := List.pairwise_cons.mp rising
    unfold objPut
    split_ifs with below default same default
    · exact rising
    · refine List.pairwise_cons.mpr ⟨fun q mem => ?_, rising⟩
      rcases List.mem_cons.mp mem with rfl | mem
      · exact below
      · exact below.trans (above q mem)
    · exact rest
    · exact List.pairwise_cons.mpr ⟨same ▸ above, rest⟩
    · refine List.pairwise_cons.mpr ⟨fun q mem => ?_, ih rest⟩
      rcases mem_objPut mem with mem | ⟨rfl, -⟩
      · exact above q mem
      · exact Nat.lt_of_le_of_ne (Nat.le_of_not_lt below) (Ne.symm same)

theorem objsWf_objPut (key v : Nat) {l : List (Nat × Nat)} (canonical : objsWf l = true) : objsWf (objPut key v l) = true := by
  obtain ⟨rising, entries⟩ := (objsWf_iff l).mp canonical
  refine (objsWf_iff _).mpr ⟨pairwise_objPut key v rising, fun p mem => ?_⟩
  rcases mem_objPut mem with mem | ⟨rfl, other⟩
  · exact entries p mem
  · exact other

theorem objsWf_filter (keep : Nat × Nat → Bool) {l : List (Nat × Nat)} (canonical : objsWf l = true) :
    objsWf (l.filter keep) = true := by
  obtain ⟨rising, entries⟩ := (objsWf_iff l).mp canonical
  exact (objsWf_iff _).mpr ⟨rising.filter _, fun p mem => entries p (List.mem_of_mem_filter mem)⟩

theorem ObjMoves.objsWf {l m : List (Nat × Nat)} (moves : ObjMoves l m) (canonical : objsWf l = true) : objsWf m = true := by
  induction moves with
  | refl => exact canonical
  | put key v _ ih => exact objsWf_objPut key v ih
  | clear keep _ ih => exact objsWf_filter keep ih

theorem objGet_of_absent {key : Nat} {l : List (Nat × Nat)} (absent : ∀ p ∈ l, p.1 ≠ key) : objGet key l = objDefault key := by
  induction l with
  | nil => rfl
  | cons p r ih =>
    obtain ⟨other, rest⟩ := List.forall_mem_cons.mp absent
    exact (if_neg other).trans (ih rest)

theorem objGet_objPut_self (key v : Nat) {l : List (Nat × Nat)} (rising : l.Pairwise fun p q => p.1 < q.1) :
    objGet key (objPut key v l) = v := by
  induction l with
  | nil => unfold objPut; split <;> simp_all [objGet]
  | cons p r ih =>
    obtain ⟨above, rest⟩ := List.pairwise_cons.mp rising
    unfold objPut
    split_ifs with below default same default
    · refine (objGet_of_absent fun q mem => ?_).trans default.symm
      rcases List.mem_cons.mp mem with rfl | mem
      · exact below.ne'
      · exact (below.trans (above q mem)).ne'
    · exact if_pos rfl
    · exact (objGet_of_absent fun q mem => (same ▸ above q mem).ne').trans default.symm
    · exact if_pos rfl
    · exact (if_neg (Ne.symm same)).trans (ih rest)

theorem State.get_put_same {s : State} (canonical : s.objsCanonical) (ix sub v : Nat) : (s.put ix sub v).get ix sub = v :=
  objGet_objPut_self _ _ ((objsWf_iff _).mp canonical).1

theorem objKey_inj {ix sub jx jsub : Nat} (low : sub < 256) (low' : jsub < 256) (same : objKey jx jsub = objKey ix sub) :
    (jx, jsub) = (ix, sub) := by
  unfold objKey at same
  exact Prod.ext (by dsimp only; omega) (by dsimp only; omega)

/-! ### The guestbooks' capacities (R523, R525) -/

theorem sumN_eq_sum (l : List Nat) : sumN l = l.sum := (List.sum_eq_foldl ..).symm

theorem Guestbook.used_eq_sum (g : Guestbook) : g.used = (g.records.map (·.length)).sum := sumN_eq_sum _

/-- Making room ends with `need` bytes free where the records that may be overwritten suffice (R524). -/
theorem gbMakeRoom_fits (cap need sev : Nat) (l : List GbRecord) (used : Nat) (held : (l.map (·.length)).sum ≤ used)
    (enough : used - ((l.filter fun x => decide (x.severity ≤ sev)).map (·.length)).sum + need ≤ cap) :
    used - (l.map (·.length)).sum + ((gbMakeRoom cap need sev l used).1.map (·.length)).sum + need ≤ cap := by
  induction l generalizing used with
  | nil => simpa [gbMakeRoom] using enough
  | cons r rest ih =>
    simp only [List.map_cons, List.sum_cons] at held
    unfold gbMakeRoom
    split_ifs with fits eligible
    · simp only [List.map_cons, List.sum_cons]
      omega
    · have := ih (used - r.length) (by omega) (by
        simp only [List.filter_cons_of_pos, eligible, decide_true, List.map_cons, List.sum_cons] at enough
        omega)
      simp only [List.map_cons, List.sum_cons]
      omega
    · have := ih used (by omega) (by simpa [eligible] using enough)
      simp only [List.map_cons, List.sum_cons]
      omega

theorem Guestbook.used_store_le {cap : Nat} (r : GbRecord) {g : Guestbook} (fits : g.used ≤ cap) :
    (g.store cap r).1.used ≤ cap := by
  unfold Guestbook.store
  dsimp only
  split_ifs with room short
  · simpa [Guestbook.used_eq_sum] using room
  · exact fits
  · have := gbMakeRoom_fits cap r.length r.severity g.records g.used g.used_eq_sum.ge (by
      have within : ((g.records.filter fun x => decide (x.severity ≤ r.severity)).map (·.length)).sum ≤ g.used :=
        g.used_eq_sum ▸ (List.filter_sublist.map _).sum_le_sum fun _ _ => Nat.zero_le _
      rw [sumN_eq_sum] at short
      omega)
    simp only [Guestbook.used_eq_sum, List.map_append, List.sum_append, List.map_cons, List.map_nil, List.sum_cons,
      List.sum_nil] at this ⊢
    omega

theorem BookMoves.used_le {cap : Nat} {g h : Guestbook} (moves : BookMoves cap g h) (fits : g.used ≤ cap) : h.used ≤ cap := by
  induction moves with
  | refl => exact fits
  | store r _ ih => exact Guestbook.used_store_le r ih
  | buckets _ _ ih => exact ih
  | clear => exact Nat.zero_le _
  | reset => exact Nat.zero_le _

/-! ### What the moves of a command keep -/

section
variable {m : Nat} {s t : State}

theorem Moves.interlocked (moves : Moves m s t) (kept : s.interlocked) : t.interlocked :=
  fun both => kept (moves.gate both.1 both.2)

theorem Moves.booksFit (moves : Moves m s t) (fit : s.booksFit) : t.booksFit :=
  ⟨moves.main.used_le fit.1, moves.section_.used_le fit.2⟩

theorem Moves.sessionsFit (moves : Moves m s t) (fit : s.sessionsFit) : t.sessionsFit :=
  moves.sessions.trans (max_le fit le_rfl)

theorem Moves.objsCanonical (moves : Moves m s t) (canonical : s.objsCanonical) : t.objsCanonical := moves.objs.objsWf canonical

end

/-! ### Steps -/

section
variable {s t : State} {c : Instr}

/-- No meaning faults and none is refused. -/
theorem exec_completes (c : Instr) (s : State) : ∃ t, exec c s = .next t := by
  cases c with
  | draw port pool half owner =>
    change ∃ t, execDraw port pool half owner s = .next t
    unfold execDraw
    dsimp only
    split <;> exact ⟨_, rfl⟩
  | drawBySize size half unit =>
    change ∃ t, execDrawBySize size half unit s = .next t
    unfold execDrawBySize
    dsimp only
    (repeat' split) <;> exact ⟨_, rfl⟩
  | _ => exact ⟨_, rfl⟩

theorem step_of_pending {rest : List Instr} (front : s.pending = c :: rest) : step s = exec c { s with pending := rest } := by
  unfold step
  rw [front]
  rfl

theorem step_of_idle (idle : s.pending = []) : step s = .next s := by
  unfold step
  rw [idle]

/-- A step moves the state as the command at the front of its queue does, from the state with the queue's rest. -/
theorem step_moves (stepped : step s = .next t) : ∃ (m : Nat) (rest : List Instr), Moves m { s with pending := rest } t := by
  cases front : s.pending with
  | nil =>
    obtain rfl : s = t := Host.Outcome.next.inj ((step_of_idle front).symm.trans stepped)
    exact ⟨0, s.pending, .refl 0 s⟩
  | cons c rest =>
    exact ⟨areaMask (touches c), rest, exec_moves c _ t ((step_of_pending front).symm.trans stepped)⟩

end

/-- Settles O1: the queue's two cases. -/
theorem stepRunsTheFrontCommand : Obligations.StepRunsTheFrontCommand :=
  ⟨fun _ _ _ front => step_of_pending front, fun _ idle => step_of_idle idle⟩

/-- Settles O2: every meaning answers a next state, and moves it as Moves says. -/
theorem everyCommandCompletes : Obligations.EveryCommandCompletes := by
  intro c s
  obtain ⟨t, ends⟩ := exec_completes c s
  have moves := exec_moves c s t ends
  exact ⟨t, ends, moves.queue, moves.out, moves.fresh⟩

/-- Settles O3: an area outside the list lies outside the mask of the command's moves. -/
theorem frameOfEveryCommand : Obligations.FrameOfEveryCommand := by
  intro c s t ends a untouched
  exact (exec_moves c s t ends).frame a (by rw [testBit_areaMask, decide_eq_false untouched])

/-- Settles O4: no move turns the second of the two drives on while the first is on. -/
theorem stepKeepsInterlock : Obligations.StepKeepsInterlock := by
  intro s t kept stepped
  obtain ⟨_, _, moves⟩ := step_moves stepped
  exact moves.interlocked kept

/-- Settles O5: stores make room before they write, a ninth session is refused, and a tag is taken only while it is free. -/
theorem stepKeepsBounds : Obligations.StepKeepsBounds := by
  intro s t stepped
  obtain ⟨_, _, moves⟩ := step_moves stepped
  exact ⟨moves.booksFit, moves.sessionsFit, moves.tags⟩

/-- Settles O6: writes of single objects and resets of groups keep the canonical list. -/
theorem stepKeepsObjectsCanonical : Obligations.StepKeepsObjectsCanonical := by
  intro s t canonical stepped
  obtain ⟨_, _, moves⟩ := step_moves stepped
  exact moves.objsCanonical canonical

/-- Settles O8: a put is read back in the canonical list, and distinct objects have distinct keys. -/
theorem objectsReadBack : Obligations.ObjectsReadBack := by
  intro s ix sub v canonical low
  exact ⟨State.get_put_same canonical ix sub v,
    fun jx jsub low' other => State.get_put_ne s v fun same => other (objKey_inj low low' same)⟩

end Sys2Proof.Machine
end

section
/-! Draws of beds (R391, R392), gb_clear and the section's copies (R523, R525), counter configurations, filters and cluster dumps
(R534, R537, R538). -/

namespace Sys2Proof.Machine

variable {s : State}

/-! ### Draws (R391, R392) -/

theorem PorterSt.draw_of_pick {p q : PorterSt} {ph b : Nat} (unit : Nat) (picked : p.pick ph = some (b, q)) :
    ∃ r, p.draw ph unit = some (b + (q.word b).gen * 2 ^ 24, r) ∧
      r.word b = { q.word b with state := 1, owner := unit, count := 1 } := by
  simp only [PorterSt.draw, picked, Option.some.injEq, Prod.mk.injEq, true_and, exists_eq_left']
  exact PorterSt.word_setWord q _ b (q.word_handle b)

theorem PorterSt.draw_of_no_pick {p : PorterSt} {ph : Nat} (unit : Nat) (empty : p.pick ph = none) : p.draw ph unit = none := by
  rw [PorterSt.draw, empty]

theorem exec_draw_picked {port pool half unit b : Nat} {q : PorterSt} (picked : s.po.pick (pool * 2 + half % 2) = some (b, q)) :
    ∃ t, exec (.draw port pool half unit) s = .next t ∧ t = { s with po := t.po } ∧
      lookup t.po.drawn port 0 = b + (q.word b).gen * 2 ^ 24 ∧
      t.po.word b = { q.word b with state := 1, owner := unit, count := 1 } := by
  obtain ⟨r, drawn, held⟩ := PorterSt.draw_of_pick unit picked
  have draws : exec (.draw port pool half unit) s = .next { s with po := { r with
      drawn := assign r.drawn port (b + (q.word b).gen * 2 ^ 24), missed := r.missed.filter (· != port) } } := by
    change execDraw port pool half unit s = _
    simp only [execDraw, drawn]
    rfl
  exact ⟨_, draws, rfl, lookup_assign_self .., held⟩

theorem exec_draw_exhausted {port pool half unit : Nat} (empty : s.po.pick (pool * 2 + half % 2) = none) :
    exec (.draw port pool half unit) s = .next { s.tick Obj.po_exhausted (pool + 1) with po := { s.po with
      failedDraws := assign s.po.failedDraws (pool * 2 + half % 2) (lookup s.po.failedDraws (pool * 2 + half % 2) 0 + 1)
      missed := addNew s.po.missed port } } := by
  have number : (pool * 2 + half % 2) / 2 = pool := by omega
  change execDraw port pool half unit s = _
  simp only [execDraw, PorterSt.draw_of_no_pick unit empty, State.drawFailed, number]
  rfl

/-- The smallest pool that fits (R391). -/
theorem poolFor_of_le {size : Nat} (fits : size ≤ 262144) : poolFor size = some (if size ≤ 256 then 0 else if size ≤ 4096 then 1
    else if size ≤ 16384 then 2 else if size ≤ 65536 then 3 else 4) := by
  split_ifs <;> simp [poolFor, bedSize, List.range, List.range.loop, *]

theorem poolFor_of_gt {size : Nat} (large : 262144 < size) : poolFor size = none := by
  simp only [poolFor, bedSize, List.find?_eq_none, List.mem_range]
  intro p low
  interval_cases p <;> simp <;> omega

theorem exec_drawBySize_denied {size half unit : Nat} (large : 262144 < size) :
    exec (.drawBySize size half unit) s = .next (s.emit (.bedReturn unit 0 Oc.denied)) := by
  change execDrawBySize size half unit s = _
  rw [execDrawBySize, poolFor_of_gt large]

section
variable {size half unit p : Nat} (smallest : poolFor size = some p)
include smallest

theorem exec_drawBySize_picked {b : Nat} {q : PorterSt} (picked : s.po.pick (p * 2 + half % 2) = some (b, q)) :
    ∃ t, exec (.drawBySize size half unit) s = .next t ∧ t = { s.tick Obj.po_draws (p + 1) with po := t.po, out := t.out } ∧
      t.out = .bedReturn unit (b + (q.word b).gen * 2 ^ 24) Oc.ok :: s.out ∧
      t.po.word b = { q.word b with state := 1, owner := unit, count := 1 } := by
  have number : (p * 2 + half % 2) / 2 = p := by omega
  obtain ⟨r, drawn, held⟩ := PorterSt.draw_of_pick unit picked
  have draws : exec (.drawBySize size half unit) s = .next { s.tick Obj.po_draws (p + 1) with
      po := r, out := .bedReturn unit (b + (q.word b).gen * 2 ^ 24) Oc.ok :: s.out } := by
    change execDrawBySize size half unit s = _
    simp only [execDrawBySize, smallest, State.drawBed, drawn, number]
    rfl
  exact ⟨_, draws, rfl, rfl, held⟩

theorem exec_drawBySize_exhausted (empty : s.po.pick (p * 2 + half % 2) = none) :
    exec (.drawBySize size half unit) s = .next { s.tick Obj.po_exhausted (p + 1) with
      out := .bedReturn unit 0 Oc.exhausted :: s.out
      po := { s.po with
        failedDraws := assign s.po.failedDraws (p * 2 + half % 2) (lookup s.po.failedDraws (p * 2 + half % 2) 0 + 1) } } := by
  have number : (p * 2 + half % 2) / 2 = p := by omega
  change execDrawBySize size half unit s = _
  simp only [execDrawBySize, smallest, State.drawBed, PorterSt.draw_of_no_pick unit empty, State.drawFailed, number]
  rfl

end

/-! ### The guestbook (R523, R525, R527) -/

theorem Guestbook.store_of_room {cap : Nat} {r : GbRecord} {g : Guestbook} (room : g.used + r.length ≤ cap) :
    g.store cap r = ({ g with records := g.records ++ [{ r with seq := g.seqNext }], seqNext := seqAfter g.seqNext }, false, []) :=
  if_pos room

/-- Record 0xC002 passes the limiter always, and finds room in a book just emptied. -/
theorem State.record_cleared (elsewhere : s.toSection 0xC002 = false) (empty : s.book.main.records = []) :
    s.record 3 0xC002 [] = { s with book := { s.book with main := { s.book.main with
      records := [{ mkRecord false 0 3 0xC002 s.gh.now [] with seq := s.book.main.seqNext }]
      seqNext := seqAfter s.book.main.seqNext } } } := by
  have room : s.book.main.used + (mkRecord false 0 3 0xC002 s.gh.now []).length ≤ gbMainCap := by
    rw [Guestbook.used, empty]
    exact (by decide : 16 ≤ gbMainCap)
  rw [State.record, elsewhere]
  change State.recordMain 3 0xC002 [] s = _
  unfold State.recordMain
  simp only [gbLimit, if_true, Guestbook.store_of_room room, empty]
  rfl

theorem exec_gbClear_taken {cls : Nat} (taken : s.takes (.gbClear cls 1)) : exec (.gbClear cls 1) s = .next
    (State.endRun Obj.gb_clear_result (outcomeVal Oc.ok) (State.record 3 0xC002 []
      ((s.startRun Obj.gb_clear_result).modBook fun b => { b with main := { b.main with records := [] } }))) :=
  congrArg _ ((State.action_taken (State.takesWrite_action (taken _ rfl))).trans (by exact if_pos rfl))

theorem State.copyRecord_of_room {r : GbRecord} (room : s.book.main.used + r.length ≤ gbMainCap) :
    s.copyRecord r = { s with book := { s.book with
      main := { s.book.main with
        records := s.book.main.records ++ [{ r with seq := s.book.main.seqNext }], seqNext := seqAfter s.book.main.seqNext }
      merged := r.seq } } := by
  unfold State.copyRecord
  rw [Guestbook.store_of_room room]
  rfl

theorem exec_gateCopy_copying (copying : s.book.copying = true) : exec .gateCopy s = .next s.copySection :=
  congrArg _ (if_pos copying)

/-! ### Counters (R534, R537, R538) -/

theorem State.unitCtr_modUnitCtr (b : Nat) {f : UnitCtr → UnitCtr} (named : ∀ u, (f u).block = u.block) :
    (s.modUnitCtr b f).unitCtr b = f (s.unitCtr b) := by
  unfold State.modUnitCtr State.unitCtr
  dsimp only [State.modBook]
  cases listed : s.book.units.any fun u => u.block == b with
  | true =>
    obtain ⟨v, found⟩ := Option.isSome_iff_exists.mp (List.find?_isSome.mpr (List.any_eq_true.mp listed))
    rw [if_pos rfl, find_modFirst (fun u => by rw [named]), found]
    rfl
  | false =>
    have absent : s.book.units.find? (fun u => u.block == b) = none :=
      List.find?_eq_none.mpr fun u mem block => List.any_eq_false.mp listed u mem block
    simp [List.find?_append, absent, named]

theorem exec_counterConfigWrite_taken {cls block i v : Nat} (taken : s.takes (.counterConfigWrite cls block i v)) :
    exec (.counterConfigWrite cls block i v) s = .next (s.modUnitCtr block fun u => { u with
      configNext := assign u.configNext i (configMask i v) }) :=
  congrArg _ (State.guarded_taken (State.takesWrite_guarded (taken _ rfl)))

theorem exec_filterWrite_taken {cls i : Nat} {f : List Byte} (taken : s.takes (.filterWrite cls i f)) :
    exec (.filterWrite cls i f) s = .next (s.modBook fun b => { b with filterNext := assign b.filterNext i (filterKept f) }) :=
  congrArg _ (State.guarded_taken (State.takesWrite_guarded (taken _ rfl)))

theorem exec_clusterDump_due (interval : s.get Obj.gb_dump_interval ≠ 0) (due : s.get Obj.gb_dump_interval ≤ s.book.dumpLegs) :
    exec .clusterDump s = .next s.dumpDue :=
  congrArg _ (if_pos ⟨interval, due⟩)

theorem State.dumpDue_idle (idle : s.book.dumping = 0) :
    ∃ t, s.dumpDue = t ∧ t = { s with book := t.book, ce := t.ce } ∧
      t.book = { s.book with
        dumpLegs := 0, dumping := 10, dumpHold := s.book.units, dumpLeg := s.tt.legCount, dumpTime := s.gh.now
        dumpVoq := s.pc.voqNow } ∧
      t.ce = { s.ce with ready := t.ce.ready } ∧ t.ce.ready.length = s.ce.ready.length + 10 := by
  refine ⟨_, rfl, ?_⟩
  rw [State.dumpDue, if_neg (not_not.mpr idle)]
  exact ⟨rfl, rfl, rfl, by simp [dumpCells]⟩

theorem State.dumpDue_busy (busy : s.book.dumping ≠ 0) :
    s.dumpDue = State.tick Obj.gb_dumps_skipped 0 { s with book := { s.book with dumpLegs := 0 } } := if_pos busy

/-- Settles O12: a draw by whether its half has a bed to pick, a draw by size by the pool that fits. -/
theorem bedsAreDrawn : Obligations.BedsAreDrawn := by
  unfold Obligations.BedsAreDrawn
  intro s port pool half unit size b q
  refine ⟨exec_draw_picked, exec_draw_exhausted, exec_drawBySize_denied, ?_⟩
  rintro p rfl fits
  exact ⟨exec_drawBySize_picked (poolFor_of_le fits), exec_drawBySize_exhausted (poolFor_of_le fits)⟩

/-- Settles O14: the clear by the one record it leaves, the copy by the room the main guestbook has. -/
theorem guestbookClearsAndCopies : Obligations.GuestbookClearsAndCopies := by
  unfold Obligations.GuestbookClearsAndCopies
  intro s cls r
  refine ⟨fun taken elsewhere => ⟨_, exec_gbClear_taken taken, ?cleared⟩,
    fun copying only room => ⟨_, exec_gateCopy_copying copying, ?copied⟩⟩
  case cleared =>
    rw [State.record_cleared (s := State.modBook _ (s.startRun _)) elsewhere rfl, State.endRun_eq_results]
    exact ⟨rfl, ⟨_, rfl, rfl, rfl, rfl⟩, rfl, rfl, State.result_endRun_of_startRun _ rfl⟩
  case copied =>
    rw [State.copySection, only, List.foldl_cons, List.foldl_nil, State.copyRecord_of_room room]
    exact ⟨rfl, rfl, rfl, rfl⟩

/-- Settles O15: the writes by what waits for the boundary, the dump by whether a snapshot is being written. -/
theorem countersAreConfiguredAndDumped : Obligations.CountersAreConfiguredAndDumped := by
  unfold Obligations.CountersAreConfiguredAndDumped
  intro s cls block i v f
  refine ⟨fun taken => ⟨_, exec_counterConfigWrite_taken taken, rfl, rfl, State.unitCtr_modUnitCtr block fun _ => rfl⟩,
    exec_filterWrite_taken, fun interval due => ⟨fun idle => ?sampled, fun busy => ?skipped⟩⟩
  case sampled =>
    obtain ⟨t, dumped, effect⟩ := State.dumpDue_idle idle
    exact ⟨t, dumped ▸ exec_clusterDump_due interval due, effect⟩
  case skipped => exact ⟨_, exec_clusterDump_due interval due, State.dumpDue_busy busy⟩

end Sys2Proof.Machine
end

section
/-! Keys (R406, R409, R413); shutdown (R454, R466); recovery packages, the owner key and the confirm time (R459, R462, R464); partial
resets (R419, R420, R468, R469). -/

namespace Sys2Proof.Machine

section
variable {s : State}

/-! ### Areas that runs and records leave -/

@[simp] theorem State.endRun_md (res : Nat) (value : List Byte) : (s.endRun res value).md = s.md :=
  (State.endRun_moves (.refl 0x4 s) (.refl _)).frame .md rfl

@[simp] theorem State.endRun_cy (res : Nat) (value : List Byte) : (s.endRun res value).cy = s.cy :=
  (State.endRun_moves (.refl 0x4 s) (.refl _)).frame .cy rfl

@[simp] theorem State.endRun_gh (res : Nat) (value : List Byte) : (s.endRun res value).gh = s.gh :=
  (State.endRun_moves (.refl 0x4 s) (.refl _)).frame .gh rfl

@[simp] theorem State.record_cy (sev code : Nat) (p : List (Nat × Nat)) : (s.record sev code p).cy = s.cy :=
  (State.record_moves (.refl 0x200001 s) (.refl _)).frame .cy rfl

/-- The end of a run reads and changes the RESULTs alone. -/
theorem State.modMd_endRun (f : ModeSt → ModeSt) (res : Nat) (value : List Byte) :
    (s.endRun res value).modMd f = (s.modMd f).endRun res value := by
  unfold State.endRun
  dsimp only
  split
  case isTrue ready => exact (if_pos ready).symm
  case isFalse running => exact (if_neg running).symm

/-- A run that ends at once leaves its RESULT as it stood before, ended. -/
theorem State.startRun_endRun (res : Nat) (value : List Byte) :
    (s.startRun res).endRun res value = { s with results := ((s.startRun res).endRun res value).results } ∧
      ((s.startRun res).endRun res value).result res = (s.result res).ended value :=
  ⟨State.endRun_eq_results res value, State.result_endRun_of_startRun value rfl⟩

/-! ### Keys (R406, R409, R413) -/

theorem exec_keyDerivationDone_room {k : DerivedKey} {r : List DerivedKey} (queued : s.cy.derivs = k :: r)
    (room : s.cy.store.length < 8192) : exec .keyDerivationDone s = .next
      (({ s with cy := { s.cy with derivs := r, store := k :: s.cy.store } } : State).tick Obj.cy_derivations) := by
  have takes : s.storeTakes = true := by simp [State.storeTakes, room]
  change execKeyDerivationDone s = _
  unfold execKeyDerivationDone
  simp only [queued, takes, if_true, State.storeKey, State.modCy_cy, room]
  rfl

/-- The owner root is held for the next reset, and taken into use at once where the cipher engine is not in service (R406). -/
def State.ownerRootHeld (root : List Byte) (up : Bool) (s : State) : State :=
  s.modCy fun y => { y with ownerRootNext := some (leNat root), ownerRoot := if up then y.ownerRoot else some (leNat root) }

section
variable {cls : Nat} {root : List Byte} (taken : s.takes (.cyOwnerRootWrite cls root))
include taken

theorem exec_cyOwnerRootWrite_taken {up : Bool} (mode : (s.md.mode == .service || s.md.mode == .standby || s.md.mode == .drain) = up) :
    exec (.cyOwnerRootWrite cls root) s = .next (
      if s.get Obj.cy_owner_root_state = 1 ∨ (up = true ∧ !s.ce.namespaces.isEmpty) ∨ root.length ≠ 32 then
        (s.startRun Obj.cy_owner_root_result).endRun Obj.cy_owner_root_result (outcomeVal Oc.denied)
      else State.endRun Obj.cy_owner_root_result (outcomeVal Oc.ok) (State.record 3 0x5005 []
        (((s.startRun Obj.cy_owner_root_result).ownerRootHeld root up).put Obj.cy_owner_root_state 0 1))) := by
  subst mode
  exact congrArg _ (State.action_taken (State.takesWrite_action (taken _ rfl)))

theorem exec_cyOwnerRootWrite_accepted {up : Bool} (mode : (s.md.mode == .service || s.md.mode == .standby || s.md.mode == .drain) = up)
    (unset : s.get Obj.cy_owner_root_state ≠ 1) (whole : root.length = 32) (bare : up = true → s.ce.namespaces = []) :
    ∃ t, exec (.cyOwnerRootWrite cls root) s = .next t ∧ t.cy.ownerRootNext = some (leNat root) ∧
      t.cy.ownerRoot = (if up then s.cy.ownerRoot else some (leNat root)) ∧ t.result Obj.cy_owner_root_result =
        (s.result Obj.cy_owner_root_result).ended (outcomeVal Oc.ok) := by
  have accepted : ¬(s.get Obj.cy_owner_root_state = 1 ∨ (up = true ∧ !s.ce.namespaces.isEmpty) ∨ root.length ≠ 32) := by
    rintro (set | ⟨serving, held⟩ | short)
    · exact unset set
    · simp [bare serving] at held
    · exact short whole
  refine ⟨_, (exec_cyOwnerRootWrite_taken taken mode).trans (congrArg _ (if_neg accepted)), ?_, ?_,
    State.result_endRun_of_startRun _ (State.record_results ..)⟩
  · rw [State.endRun_cy, State.record_cy]
    rfl
  · rw [State.endRun_cy, State.record_cy]
    rfl

theorem exec_cyOwnerRootWrite_denied (mode : (s.md.mode == .service || s.md.mode == .standby || s.md.mode == .drain) = true)
    (held : s.ce.namespaces ≠ []) : exec (.cyOwnerRootWrite cls root) s = .next
      ((s.startRun Obj.cy_owner_root_result).endRun Obj.cy_owner_root_result (outcomeVal Oc.denied)) :=
  (exec_cyOwnerRootWrite_taken taken mode).trans (congrArg _ (if_pos (.inr (.inl ⟨rfl, by simpa using held⟩))))

end

theorem exec_cyHostKeyDerive_taken {cls : Nat} (taken : s.takes (.cyHostKeyDerive cls 1)) : exec (.cyHostKeyDerive cls 1) s = .next
    ((s.startRun Obj.cy_host_key).endRun Obj.cy_host_key
      (s.kHost (beNat (s.blob Obj.cy_host_key_hostid 0 (List.replicate 16 0))))) :=
  congrArg _ ((State.action_taken (State.takesWrite_action (taken _ rfl))).trans (by exact if_pos rfl))

/-! ### Shutdown (R454, R466) -/

theorem exec_fwShutdown_taken {cls : Nat} (taken : s.takes (.fwShutdown cls 1)) :
    exec (.fwShutdown cls 1) s = .next ((s.startRun Obj.fw_shutdown_result).shutdownAsk 1) :=
  congrArg _ (State.action_taken (State.takesWrite_action (taken _ rfl)))

theorem State.shutdownAsk_drains (mode : s.md.mode = .service ∨ s.md.mode = .standby ∨ s.md.mode = .drain) :
    s.shutdownAsk 1 = { s with md := { s.md with shutdown := true, causes := addNew s.md.causes 4 } } := by
  unfold State.shutdownAsk
  rcases mode with mode | mode | mode <;> rw [mode, if_neg (by simp), if_neg (by simp)] <;> rfl

theorem State.shutdownAsk_muster (mode : s.md.mode = .muster) :
    s.shutdownAsk 1 = (s.endRun Obj.fw_shutdown_result (outcomeVal Oc.ok)).enterVigil true 8 := by
  unfold State.shutdownAsk
  rw [mode, if_neg (by simp), if_pos rfl]

theorem State.shutdownAsk_denied (mode : s.md.mode = .vigil ∨ s.md.mode = .holdup) :
    s.shutdownAsk 1 = s.endRun Obj.fw_shutdown_result (outcomeVal Oc.denied) := if_pos (.inr mode)

theorem exec_shutdownTimeout_late (shutdown : s.md.shutdown = true) : exec .shutdownTimeout s = .next ({ s with
    md := { s.md with shutdown := false, causes := s.md.causes.filter (· != 4) } }.endRun Obj.fw_shutdown_result
      (outcomeVal Oc.timeout)) :=
  congrArg _ ((if_pos shutdown).trans (State.modMd_endRun ..))

/-! ### Packages and keys (R459, R462, R464) -/

theorem State.packageCheck_of_bad {p : List Byte} (source : Nat)
    (bad : checkPackage (s.get Obj.gh_tally_rollback_fw) s.md.ownerKey p ≠ 0) :
    s.packageCheck p source = (checkPackage (s.get Obj.gh_tally_rollback_fw) s.md.ownerKey p,
      (s.put Obj.fw_package_cause 0 (checkPackage (s.get Obj.gh_tally_rollback_fw) s.md.ownerKey p)).record 4 0xE005
        [(1, checkPackage (s.get Obj.gh_tally_rollback_fw) s.md.ownerKey p), (1, source)]) := by
  simp only [State.packageCheck, bad, if_false]

theorem exec_fwRecoveryImage_taken {cls : Nat} {p : List Byte} (taken : s.takes (.fwRecoveryImage cls p)) :
    exec (.fwRecoveryImage cls p) s = .next (
      if (s.packageCheck p 3).1 = 0 then ((s.packageCheck p 3).2.putSlot 1 p).warmReset 5 else (s.packageCheck p 3).2) :=
  congrArg _ (State.guarded_taken (State.takesWrite_guarded (taken _ rfl)))

theorem exec_fwOwnerKeyWrite_taken {cls : Nat} {key : List Byte} (taken : s.takes (.fwOwnerKeyWrite cls key)) :
    exec (.fwOwnerKeyWrite cls key) s = .next (
      if (!s.md.ownerKey.isEmpty) = true ∨ key.length ≠ 2592 then
        (s.startRun Obj.fw_owner_key_result).endRun Obj.fw_owner_key_result (outcomeVal Oc.denied)
      else State.endRun Obj.fw_owner_key_result (outcomeVal Oc.ok) (State.record 3 0xE009 [(64, (Config.sha3 key).toNat)]
        ((s.startRun Obj.fw_owner_key_result).modMd fun m => { m with ownerKey := key }))) :=
  congrArg _ (State.action_taken (State.takesWrite_action (taken _ rfl)))

theorem exec_fwConfirmExpiry_confirmed (mode : s.md.mode = .service ∨ s.md.mode = .standby) (confirmed : s.confirmed = true)
    (newer : s.get Obj.gh_tally_rollback_fw < (s.slot s.md.active).security) : exec .fwConfirmExpiry s = .next
      ((s.put Obj.gh_tally_rollback_fw 0 (s.slot s.md.active).security).record 3 0xE006
        [(4, s.get Obj.gh_tally_rollback_fw), (4, (s.slot s.md.active).security)]) :=
  congrArg _ (if_pos ⟨mode, confirmed, newer⟩)

end

/-- Settles O16: the derivation by the store's room, the owner root by the mode, the host key by its run. -/
theorem keysAreDerivedAndReplaced : Obligations.KeysAreDerivedAndReplaced := by
  unfold Obligations.KeysAreDerivedAndReplaced
  intro s cls root k r
  refine ⟨exec_keyDerivationDone_room, fun taken unset whole => ⟨fun service standby drain => ?_, fun mode bare => ?_,
    fun mode held => ⟨_, exec_cyOwnerRootWrite_denied taken ?_ held, State.startRun_endRun ..⟩⟩,
    fun taken => ⟨_, exec_cyHostKeyDerive_taken taken, State.startRun_endRun ..⟩⟩
  · exact exec_cyOwnerRootWrite_accepted taken (up := false) (by simp [service, standby, drain]) unset whole
      fun up => absurd up Bool.false_ne_true
  · exact exec_cyOwnerRootWrite_accepted taken (up := true) (by simpa [or_assoc] using mode) unset whole fun _ => bare
  · simpa [or_assoc] using mode

/-- Settles O19: the request by the mode it finds, the timeout by the shutdown that runs. -/
theorem shutdownPassesThroughDrain : Obligations.ShutdownPassesThroughDrain := by
  unfold Obligations.ShutdownPassesThroughDrain
  intro s cls
  have asked := exec_fwShutdown_taken (s := s) (cls := cls)
  exact ⟨fun taken mode => (asked taken).trans (congrArg _ (State.shutdownAsk_drains (s := s.startRun _) mode)),
    fun taken mode => (asked taken).trans (congrArg _ (State.shutdownAsk_muster (s := s.startRun _) mode)),
    fun taken mode => (asked taken).trans (congrArg _ (State.shutdownAsk_denied (s := s.startRun _) mode)),
    exec_shutdownTimeout_late⟩

/-- Settles O23: the package by its check, the owner key by whether one is held, the floor by the confirm time. -/
theorem packagesAndKeysAreJudged : Obligations.PackagesAndKeysAreJudged := by
  unfold Obligations.PackagesAndKeysAreJudged
  intro s cls p
  refine ⟨fun taken => ⟨fun good => ?good, fun bad => ?bad⟩, fun taken free whole => ?held, fun taken refused => ?denied,
    exec_fwConfirmExpiry_confirmed⟩
  case good => rw [exec_fwRecoveryImage_taken taken, State.packageCheck_of_good 3 good, if_pos rfl]
  case bad => rw [exec_fwRecoveryImage_taken taken, State.packageCheck_of_bad 3 bad, if_neg bad]
  case held =>
    refine ⟨_, (exec_fwOwnerKeyWrite_taken taken).trans (congrArg _ (if_neg (by simp [free, whole]))), State.endRun_eq_results ..,
      State.result_endRun_of_startRun _ (State.record_results ..)⟩
  case denied =>
    exact ⟨_, (exec_fwOwnerKeyWrite_taken taken).trans (congrArg _ (if_pos (by simpa using refused))), State.startRun_endRun ..⟩

end Sys2Proof.Machine
end

section
/-! Partial resets of units: how one starts, and how it ends with the unit ready or at its limit (R419, R420, R468, R469). -/

namespace Sys2Proof.Machine

/-! ### Kinds of units (R469) -/

theorem isCore_of_range {u : Nat} (low : 0x20 ≤ u) (high : u < 0x30) : isCore u = true := by simp [isCore]; omega

theorem not_isCore {u : Nat} (outside : u < 0x20 ∨ 0x30 ≤ u) : ¬isCore u = true := by simp [isCore]; omega

theorem isRoot_of_range {u : Nat} (low : 8 ≤ u) (high : u < 0x20) : isRoot u = true := by simp [isRoot]; omega

theorem not_isRoot {u : Nat} (outside : u < 8 ∨ 0x20 ≤ u) : ¬isRoot u = true := by simp [isRoot]; omega

theorem isSteward_of_range {u : Nat} (low : 0x58 ≤ u) (high : u < 0x60) : isSteward u = true := by simp [isSteward]; omega

theorem not_isSteward {u : Nat} (outside : u < 0x58 ∨ 0x60 ≤ u) : ¬isSteward u = true := by simp [isSteward]; omega

section
variable {s : State} {u : Nat}

/-! ### The start of a reset (R468) -/

/-- The unit stops, and how many requests it returned (R469). -/
def State.unitStopped (u : Nat) (s : State) : State × Nat :=
  if isCore u then s.coreStop (u - 0x20) else if isRoot u then s.rootStop (u - 8)
  else if isSteward u then s.stewardStop (u - 0x58) else s.portStop (u - 1)

/-- The reset has been entered: the unit has stopped, its cells are to close, and the reset is listed (R468). -/
def State.resetEntered (u trigger : Nat) (byObject byCore : Bool) (s : State) : State :=
  ((s.unitStopped u).1.closeUnit u).modMd fun m => { m with
    resets := m.resets ++ [{ unit := u, trigger := trigger, byObject := byObject, byCore := byCore, start := s.gh.now
                             returned := (s.unitStopped u).2 }] }

/-- What follows the entry counts and records the reset, and moves on what it returned: cells and resets stay as entered. -/
theorem State.startReset_moves_entered {trigger : Nat} {byObject byCore : Bool} (fresh : ∀ r ∈ s.md.resets, r.unit ≠ u) (other : u ≠ 6) :
    Moves 0x718ae1 (s.resetEntered u trigger byObject byCore) (s.startReset u trigger byObject byCore) := by
  have entered := Moves.refl 0x718ae1 (s.resetEntered u trigger byObject byCore)
  have within := Sub.refl 0x718ae1
  have recorded {x y : State} {sev code : Nat} {p : List (Nat × Nat)} (moves : Moves 0x718ae1 x y) :
      Moves 0x718ae1 x (y.record sev code p) := State.record_moves moves
  unfold State.startReset
  rw [if_neg (by simpa using fresh), if_neg other]
  have counted := recorded (sev := 4) (code := 0xE007) (p := [(1, u), (1, trigger), (2, (s.unitStopped u).2), (4, 0)])
    (State.tick_moves (a0 := Obj.fw_unit_resets) (a1 := 0) entered)
  exact State.settle_moves (Moves.ite (recorded counted) counted)

theorem State.startReset_enters {trigger : Nat} {byObject byCore : Bool} (fresh : ∀ r ∈ s.md.resets, r.unit ≠ u) (other : u ≠ 6) :
    u ∈ (s.startReset u trigger byObject byCore).tt.closePend ∧
    ∃ r ∈ (s.startReset u trigger byObject byCore).md.resets, r.unit = u ∧ r.phase = .requested ∧ r.trigger = trigger ∧
      r.byObject = byObject ∧ r.byCore = byCore ∧ r.start = s.gh.now := by
  have moves := State.startReset_moves_entered (trigger := trigger) (byObject := byObject) (byCore := byCore) fresh other
  have cells : (s.startReset u trigger byObject byCore).tt = (s.resetEntered u trigger byObject byCore).tt := moves.frame .tt rfl
  have resets : (s.startReset u trigger byObject byCore).md = (s.resetEntered u trigger byObject byCore).md := moves.frame .md rfl
  rw [cells, resets]
  exact ⟨mem_addNew_self .., _, List.mem_append_right _ (List.mem_singleton.mpr rfl), rfl, rfl, rfl, rfl, rfl, rfl⟩

theorem exec_fwUnitReset_taken {cls : Nat} (taken : s.takes (.fwUnitReset cls u)) (may : s.mayReset u = true) :
    exec (.fwUnitReset cls u) s = .next ((s.startRun Obj.fw_unit_reset_result).startReset u 0 true false) :=
  congrArg _ ((State.action_taken (State.takesWrite_action (taken _ rfl))).trans (by exact if_pos may))

theorem exec_cyCoreReset_taken {cls core : Nat} (taken : s.takes (.cyCoreReset cls core)) (low : core < 16)
    (may : s.mayReset (0x20 + core) = true) : exec (.cyCoreReset cls core) s =
      .next ((s.startRun Obj.cy_core_reset_result).startReset (0x20 + core) 0 false true) :=
  congrArg _ ((State.action_taken (State.takesWrite_action (taken _ rfl))).trans (by exact if_pos ⟨low, may⟩))

theorem exec_coreFault_found {core : Nat} {passes pulls : List (Nat × Nat)} (low : core < 16) (may : s.mayReset (0x20 + core) = true)
    (ready : s.cy.coreState.getD core 2 = 0)
    (due : ∀ x ∈ passes, (s.cmd? x.1).any (fun c => c.blocks.any fun b => b.lba == x.2 && b.stage == .inBed) = true)
    (here : ∀ x ∈ pulls, ((passes.foldl (fun t x => t.resetBlock x.1 x.2 core true) s).reqOf (.pullCipher x.1 x.2)).isSome = true) :
    exec (.coreFault core passes pulls) s = .next ((pulls.foldl (fun t x => t.resetPull x.1 x.2 core true)
      (passes.foldl (fun t x => t.resetBlock x.1 x.2 core true) s)).startReset (0x20 + core) 1 false false) := by
  refine congrArg Host.Outcome.next ((if_neg (by rw [may, ready]; simpa using low)).trans ?_)
  dsimp only
  rw [List.filter_eq_self.mpr due, List.filter_eq_self.mpr here]

theorem exec_stewardWatchdog_silent {steward : Nat} (low : steward < 8) (may : s.mayReset (0x58 + steward) = true)
    (live : 0x58 + steward ∉ s.md.closedStewards) :
    exec (.stewardWatchdog steward) s = .next (s.startReset (0x58 + steward) 1 false false) :=
  congrArg _ (if_neg (by simp [may, live]; omega))

/-! ### The end of a reset, with the unit ready (R468) -/

/-- The unit is ready and its cells are to reopen; beds it still owned are freed first. -/
def State.unitReopened (u : Nat) (r : UnitReset) (s : State) : State :=
  State.reopenUnit u ((if r.phase = .requested then s.freeOfUnit u else s).modMd fun m => { m with
    resets := modFirst (fun x => x.unit == u) (fun x => { x with phase := .ready }) m.resets })

section
variable {r : UnitReset} (waits : (s.md.resets.find? fun x => x.unit == u && x.phase != .ready) = some r)
include waits

theorem exec_unitReady_waiting (other : u ≠ 6) : exec (.unitReady u) s = .next (
    if isCore u = true then (s.unitReopened u r).modCy fun y => { y with coreState := y.coreState.set (u - 0x20) 0 }
    else if isRoot u = true then (s.unitReopened u r).rootReady (u - 8) else s.unitReopened u r) := by
  change execUnitReady u s = _
  unfold execUnitReady
  rw [waits]
  exact congrArg _ (if_neg other)

/-! ### The end of a reset at its limit (R468, R469) -/

/-- The limit has passed: the reset is over, recorded, and answered with TIMEOUT where an object asked for it. -/
def State.limitPassed (u : Nat) (r : UnitReset) (s : State) : State :=
  State.resetEnds r Oc.timeout (State.record 6 0xE007
    [(1, u), (1, r.trigger), (2, r.returned), (4, (s.gh.now - r.start) / 1000000)]
    { s.freeOfUnit u with md := { s.md with resets := s.md.resets.filter fun x => x.unit != u } })

omit waits in
theorem State.freeOfUnit_md : (s.freeOfUnit u).md = s.md := (State.freeOfUnit_moves (.refl 0x208001 s) (.refl _)).frame .md rfl

omit waits in
/-- What the limit's passing leaves but the objects, the RESULTs, the porter, the list of resets and the guestbook. -/
theorem State.limitPassed_moves :
    Moves 0x208005 { s with md := { s.md with resets := s.md.resets.filter fun x => x.unit != u } } (s.limitPassed u r) := by
  have within := Sub.refl 0x208005
  have freed : Moves 0x208005 { s with md := { s.md with resets := s.md.resets.filter fun x => x.unit != u } }
      { s.freeOfUnit u with md := { s.md with resets := s.md.resets.filter fun x => x.unit != u } } := by
    have moves := State.freeOfUnit_moves (a0 := u) (.refl 0x208005 s)
    refine { moves with frame := fun p out => ?_ }
    have kept := moves.frame p out
    cases p
    case md => rfl
    all_goals exact kept
  exact State.resetEnds_moves (State.record_moves freed)

theorem exec_unitReadyLimit_late : exec (.unitReadyLimit u) s = .next (
    if isCore u = true then (s.limitPassed u r).modCy fun y => { y with coreState := y.coreState.set (u - 0x20) 2 }
    else if isRoot u = true then (s.limitPassed u r).contain (u - 8) 9
    else if u = 6 then (s.limitPassed u r).modEp fun e => { e with link := 0, rate := 0, width := 0, resetting := false, tags := [] }
    else if isSteward u = true then
      if ((s.limitPassed u r).modMd fun m => { m with closedStewards := addNew m.closedStewards u }).stewardsShort = true then
        ((s.limitPassed u r).modMd fun m => { m with closedStewards := addNew m.closedStewards u }).warmReset 6
      else (s.limitPassed u r).modMd fun m => { m with closedStewards := addNew m.closedStewards u }
    else (s.limitPassed u r).modPc fun p => { p with
      portState := p.portState.set (u - 1) 0, portMode := p.portMode.set (u - 1) 4 }) := by
  have listed : (s.freeOfUnit u).modMd (fun m => { m with resets := m.resets.filter fun x => x.unit != u }) =
      { s.freeOfUnit u with md := { s.md with resets := s.md.resets.filter fun x => x.unit != u } } := by
    unfold State.modMd
    rw [State.freeOfUnit_md]
  change execUnitReadyLimit u s = _
  unfold execUnitReadyLimit
  rw [waits]
  dsimp only
  rw [listed]
  rfl

theorem exec_unitReadyLimit_root (low : 8 ≤ u) (high : u ≤ 0x1F) :
    exec (.unitReadyLimit u) s = .next ((s.limitPassed u r).contain (u - 8) 9) := by
  rw [exec_unitReadyLimit_late waits, if_neg (not_isCore (by omega)), if_pos (isRoot_of_range low (by omega))]

theorem exec_unitReadyLimit_link (link : u = 6) : exec (.unitReadyLimit u) s = .next ((s.limitPassed u r).modEp fun e => { e with
    link := 0, rate := 0, width := 0, resetting := false, tags := [] }) := by
  rw [exec_unitReadyLimit_late waits, if_neg (not_isCore (by omega)), if_neg (not_isRoot (by omega)), if_pos link]

theorem exec_unitReadyLimit_steward (low : 0x58 ≤ u) (high : u ≤ 0x5F) : exec (.unitReadyLimit u) s = .next (
    if ((s.limitPassed u r).modMd fun m => { m with closedStewards := addNew m.closedStewards u }).stewardsShort = true then
      ((s.limitPassed u r).modMd fun m => { m with closedStewards := addNew m.closedStewards u }).warmReset 6
    else (s.limitPassed u r).modMd fun m => { m with closedStewards := addNew m.closedStewards u }) := by
  rw [exec_unitReadyLimit_late waits, if_neg (not_isCore (by omega)), if_neg (not_isRoot (by omega)), if_neg (by omega),
    if_pos (isSteward_of_range low (by omega))]

theorem exec_unitReadyLimit_port (low : 1 ≤ u) (high : u ≤ 4) : exec (.unitReadyLimit u) s = .next ((s.limitPassed u r).modPc
    fun p => { p with portState := p.portState.set (u - 1) 0, portMode := p.portMode.set (u - 1) 4 }) := by
  rw [exec_unitReadyLimit_late waits, if_neg (not_isCore (by omega)), if_neg (not_isRoot (by omega)), if_neg (by omega),
    if_neg (not_isSteward (by omega))]

end

end

/-- Settles O21: each start by what the unit stops with and the reset it lists, each end by the kind of the unit. -/
theorem partialResetsCloseAndEnd : Obligations.PartialResetsCloseAndEnd := by
  unfold Obligations.PartialResetsCloseAndEnd
  refine ⟨fun s cls u may other fresh => ⟨fun taken => exec_fwUnitReset_taken taken may, ?core,
    fun v trigger byObject byCore fresh => State.startReset_enters fresh other, ?fault, ?steward⟩, fun s u r waits => ?ends⟩
  case core =>
    intro low high taken
    obtain ⟨core, rfl⟩ := Nat.exists_eq_add_of_le low
    rw [Nat.add_sub_cancel_left] at taken ⊢
    exact exec_cyCoreReset_taken taken (by omega) may
  case fault =>
    intro low high ready passes pulls due v here
    obtain ⟨core, rfl⟩ := Nat.exists_eq_add_of_le low
    simp only [v, Nat.add_sub_cancel_left] at ready here ⊢
    exact exec_coreFault_found (by omega) may ready due here
  case steward =>
    intro low high live
    obtain ⟨steward, rfl⟩ := Nat.exists_eq_add_of_le low
    rw [Nat.add_sub_cancel_left]
    exact exec_stewardWatchdog_silent (by omega) may live
  case ends =>
    have passed := State.limitPassed_moves (s := s) (u := u) (r := r)
    refine ⟨⟨fun low high => ?coreReady, fun low high => ?rootReady, fun unit => ?ready, mem_addNew_self ..⟩,
      fun low high => ⟨_, (exec_unitReadyLimit_late waits).trans (congrArg _ (if_pos (isCore_of_range low high))),
        congrArg (fun y : CipherSt => y.coreState.set (u - 0x20) 2) (passed.frame .cy rfl), passed.frame .md rfl⟩,
      fun low high => ⟨_, exec_unitReadyLimit_port waits low high,
        congrArg (fun p : PortSt => p.portState.set (u - 1) 0) (passed.frame .pc rfl),
        congrArg (fun p : PortSt => p.portMode.set (u - 1) 4) (passed.frame .pc rfl), passed.frame .md rfl⟩,
      fun link => ⟨_, exec_unitReadyLimit_link waits link, ?link, passed.frame .md rfl⟩,
      exec_unitReadyLimit_root waits, exec_unitReadyLimit_steward waits⟩
    case coreReady =>
      exact (exec_unitReady_waiting waits (by omega)).trans (congrArg _ (if_pos (isCore_of_range low high)))
    case rootReady =>
      rw [exec_unitReady_waiting waits (by omega), if_neg (not_isCore (by omega)), if_pos (isRoot_of_range low high)]
      rfl
    case ready =>
      rw [exec_unitReady_waiting waits (by omega), if_neg (not_isCore (by omega)), if_neg (not_isRoot (by omega))]
      rfl
    case link =>
      exact congrArg (fun e : EndpointSt => { e with link := 0, rate := 0, width := 0, resetting := false, tags := [] })
        (passed.frame .ep rfl)

end Sys2Proof.Machine
end

section
/-! The feeds qualify, change over and are returned to (R424 to R426); the bank floats, charges, bleeds and is measured (R440 to
R443). -/

namespace Sys2Proof.Machine

variable {s : State}

/-! ### Feeds (R424 to R426) -/

/-- A feed that has qualified (R424). -/
def Feed.qualified (y : Feed) : Feed := { y with valid := true, blocked := false, validTicks := 0, state := 1 }

/-- The pair of a feed at the end of a changeover: on, unless the feed is over or blocked (R425). -/
def Feed.made (y : Feed) : Feed := { y with pairOn := y.overT < 2 && !y.blocked }

section
variable {i n : Nat} (powered : s.gh.powered = true)
include powered

theorem exec_feedValid_qualifies (low : i < 2) (invalid : (s.feed i).valid = false) (held : 10000 ≤ (s.feed i).inRange) :
    exec (.feedValid i) s = .next (s.modFeed i Feed.qualified).reselect :=
  congrArg _ (if_pos ⟨powered, low, invalid, held⟩)

theorem exec_feedMake_due (breaking : s.gh.changeover = some (i + 1, n)) (due : 20 ≤ n) :
    exec .feedMake s = .next ((s.modFeed i Feed.made).modGh fun g => { g with changeover := none }).reselect := by
  change execFeedMake s = _
  unfold execFeedMake
  rw [breaking]
  exact congrArg _ (if_neg (by simp [powered]; omega))

theorem exec_feedReturn_due (low : i < 2) (still : s.gh.changeover = none) (fed : s.gh.selected ≠ 0) (other : s.gh.selected ≠ i + 1)
    (best : s.bestFeed = i + 1) (valid : s.get Obj.gh_feed_return_delay ≤ (s.feed i).validTicks * 1000)
    (apart : s.gh.changed = false ∨ 1000000 ≤ s.gh.ticks - s.gh.lastChange) :
    exec (.feedReturn i) s = .next (s.changeover (i + 1) 2) :=
  congrArg _ (if_pos ⟨powered, low, still, fed, other, best, valid, apart⟩)

end

theorem State.changeover_of_fed (new cause : Nat) (fed : s.gh.selected ≠ 0) : s.changeover new cause =
    State.record 4 0x2001 [(1, s.gh.selected), (1, new), (1, cause), (4, (s.feed 0).mv), (4, (s.feed 1).mv)]
      (State.tick Obj.gh_feed_changeovers 0 { s with gh := { s.gh with
        selected := new, changeover := some (new, 0), lastChange := s.gh.ticks, changed := true
        feeds := s.gh.feeds.modify (s.gh.selected - 1) fun y => { y with pairOn := false } } }) := by
  unfold State.changeover
  dsimp only
  rw [if_neg fed]
  rfl

theorem State.reselect_of_unfed {i : Nat} (still : s.gh.changeover = none) (unfed : s.gh.selected = 0) (best : s.bestFeed = i + 1) :
    s.reselect = { s with gh := { s.gh with
      selected := i + 1, feeds := s.gh.feeds.modify i fun y => { y with pairOn := true } } } := by
  unfold State.reselect
  dsimp only
  rw [if_neg (by simp [still]), if_pos unfed, if_neg (by omega), best]
  rfl

/-! ### The bank (R440 to R443) -/

theorem State.mayCharge_put (ix sub v : Nat) : (s.put ix sub v).mayCharge = s.mayCharge := rfl

theorem State.bankC_put_ceiling (v : Nat) : (s.put Obj.gh_bank_energy_ceiling 0 v).bankC = s.bankC := by
  unfold State.bankC
  rw [State.get_put_ne s v (by decide : objKey Obj.gh_bank_capacitance 0 ≠ objKey Obj.gh_bank_energy_ceiling 0),
    State.get_put_ne s v (by decide : objKey Obj.gh_bank_c_nominal 0 ≠ objKey Obj.gh_bank_energy_ceiling 0)]

theorem State.bankEnergy_put_ceiling (v mv : Nat) : (s.put Obj.gh_bank_energy_ceiling 0 v).bankEnergy mv = s.bankEnergy mv := by
  unfold State.bankEnergy
  rw [State.bankC_put_ceiling]

theorem exec_chargeTargetReached_held (charging : s.gh.charging = true) (below : s.gh.floatBand = false)
    (idle : s.gh.measuring = none) (low : s.bankTarget * 998 ≤ s.gh.bankMv * 1000)
    (high : s.gh.bankMv * 1000 ≤ s.bankTarget * 1002) : exec .chargeTargetReached s =
      .next ({ s with gh := { s.gh with floatBand := true, bankState := 2 } } : State).measureStart :=
  congrArg _ (if_pos ⟨charging, below, idle, low, high⟩)

theorem exec_chargeTimeout_late (charging : s.gh.charging = true) (below : s.gh.floatBand = false)
    (unlogged : s.gh.chargeLogged = false) (late : 60000000 ≤ s.gh.ticks - s.gh.chargeAt) :
    exec .chargeTimeout s = .next (({ s with gh := { s.gh with chargeLogged := true } } : State).record 6 0x2204
      [(4, s.gh.bankMv), (4, s.get Obj.gh_bank_charge_power)]) :=
  congrArg _ (if_pos ⟨charging, below, unlogged, late⟩)

section
variable {cls v : Nat} (taken : s.takes (.ghBankEnergyCeilingWrite cls v)) (idle : s.gh.measuring = none)
  (unbled : s.gh.bleedGoal ≠ 1) (mode : s.md.mode ≠ .holdup)
include taken idle unbled mode

theorem exec_ghBankEnergyCeilingWrite_idle : exec (.ghBankEnergyCeilingWrite cls v) s = .next (
    if s.get Obj.gh_bank_energy_ceiling < v then
      if s.mayCharge = true then (s.put Obj.gh_bank_energy_ceiling 0 v).startCharge else s.put Obj.gh_bank_energy_ceiling 0 v
    else if v < s.bankEnergy s.gh.bankMv then (s.put Obj.gh_bank_energy_ceiling 0 v).modGh fun g => { g with
      bleed := true, bleedGoal := 2, floatBand := false, bankState := 5 }
    else s.put Obj.gh_bank_energy_ceiling 0 v) := by
  refine congrArg Host.Outcome.next ((State.guarded_taken (State.takesWrite_guarded (taken _ rfl))).trans
    ((if_neg ?_).trans ?_))
  · rintro (measuring | bled | holdup)
    · exact absurd (idle ▸ measuring : (none : Option Bool).isSome = true) Bool.false_ne_true
    · exact unbled bled
    · exact mode holdup
  · rw [State.bankEnergy_put_ceiling]
    rfl

theorem exec_ghBankEnergyCeilingWrite_raised (raised : s.get Obj.gh_bank_energy_ceiling < v) (may : s.mayCharge = true) :
    exec (.ghBankEnergyCeilingWrite cls v) s = .next (s.put Obj.gh_bank_energy_ceiling 0 v).startCharge := by
  rw [exec_ghBankEnergyCeilingWrite_idle taken idle unbled mode, if_pos raised, if_pos may]

theorem exec_ghBankEnergyCeilingWrite_bleeds (lowered : v ≤ s.get Obj.gh_bank_energy_ceiling) (above : v < s.bankEnergy s.gh.bankMv) :
    exec (.ghBankEnergyCeilingWrite cls v) s = .next { s.put Obj.gh_bank_energy_ceiling 0 v with
      gh := { s.gh with bleed := true, bleedGoal := 2, floatBand := false, bankState := 5 } } := by
  rw [exec_ghBankEnergyCeilingWrite_idle taken idle unbled mode, if_neg (Nat.not_lt.mpr lowered), if_pos above]
  rfl

end

theorem State.measureStart_starts (pending : s.gh.measurePend = true) (float : s.gh.floatBand = true) (still : s.gh.changeover = none)
    (rails : s.gh.sequencing = none) (mode : s.md.mode ≠ .holdup) : s.measureStart = { s with gh := { s.gh with
      measuring := some (!(s.result Obj.gh_bank_measure_result).ready), measurePend := false, bleed := true, bleedGoal := 3
      floatBand := false, bankState := 3 } } := if_pos ⟨pending, float, still, rails, mode⟩

theorem exec_capacitanceMeasure_due (powered : s.gh.powered = true) (idle : s.gh.measuring = none) (mode : s.md.mode ≠ .holdup) :
    exec .capacitanceMeasure s = .next (s.modGh fun g => { g with measurePend := true }).measureStart :=
  congrArg _ (if_pos ⟨powered, idle, mode⟩)

theorem exec_ghBankMeasure_taken {cls : Nat} (taken : s.takes (.ghBankMeasure cls 1)) (mode : s.md.mode ≠ .holdup)
    (idle : s.gh.measuring = none) : exec (.ghBankMeasure cls 1) s = .next
      ((s.startRun Obj.gh_bank_measure_result).modGh fun g => { g with measurePend := true }).measureStart := by
  refine congrArg Host.Outcome.next ((State.action_taken (State.takesWrite_action (taken _ rfl))).trans
    ((if_neg ?_).trans (if_neg ?_)))
  · rintro (other | holdup)
    · exact other rfl
    · exact mode holdup
  · exact fun measuring => absurd (idle ▸ measuring : (none : Option Bool).isSome = true) Bool.false_ne_true

/-- The bank floats again with its figures: the first measurement of a period enters the history (R443). -/
def State.bankMeasured (c esr : Nat) (s : State) : State :=
  let first : Bool := s.gh.capHistory.isEmpty || s.ghSeconds / 2592000 != s.gh.capAt / 2592000
  let hist (g : GateSt) : List (Nat × Nat × Nat) :=
    let l := g.capHistory ++ [(g.now, c, esr)]
    if first then l.drop (l.length - 180) else g.capHistory
  (((s.put Obj.gh_bank_capacitance 0 c).put Obj.gh_bank_esr 0 esr).put Obj.gh_bank_last_measure 0 s.gh.now).modGh fun g => { g with
    measuring := none, bleed := false, bleedGoal := 0, floatBand := true, bankState := 2, capHistory := hist g
    capAt := if first then s.ghSeconds else g.capAt }

/-- The records of a measurement, with its warnings (R443). -/
def State.measureRecorded (c esr warn limit : Nat) (u : State) : State :=
  let measured := u.record 2 0x2201 [(4, c), (4, esr)]
  let warned := if c < warn then measured.record 5 0x2202 [(4, c)] else measured
  if limit < esr then warned.record 5 0x2203 [(4, esr)] else warned

theorem State.measureRecorded_moves (c esr warn limit : Nat) : Moves 0x200001 s (s.measureRecorded c esr warn limit) := by
  have within := Sub.refl 0x200001
  have measured : Moves 0x200001 s (s.record 2 0x2201 [(4, c), (4, esr)]) := State.record_moves (.refl _ s)
  have warned := Moves.ite (c := c < warn) (State.record_moves (a0 := 5) (a1 := 0x2202) (a2 := [(4, c)]) measured) measured
  exact Moves.ite (State.record_moves warned) warned

theorem exec_bankMeasureDone_byObject {c esr : Nat} (measuring : s.gh.measuring = some true) :
    exec (.bankMeasureDone c esr) s = .next (((s.bankMeasured c esr).measureRecorded c esr (s.get Obj.gh_bank_c_warn)
      (s.get Obj.gh_bank_esr_limit)).endRun Obj.gh_bank_measure_result (outcomeWith Oc.ok (leBytes 4 c))) := by
  change execBankMeasureDone c esr s = _
  unfold execBankMeasureDone
  rw [measuring]
  rfl

theorem exec_bankBleedDone_bled (bleeding : s.gh.bleed = true) (goal : s.gh.bleedGoal = 1)
    (residue : s.bankEnergy s.gh.bankMv ≤ s.get Obj.gh_bank_residue) : exec .bankBleedDone s = .next
      (State.record 4 0x2205 [(4, s.bankEnergy s.gh.bankMv), (4, (s.bankEnergy s.gh.bankMv - s.bankEnergy 6000) / 25000)]
        (State.enterVigil true 4 { s with gh := { s.gh with bleed := false, bleedGoal := 0, bankState := 0 } })) :=
  congrArg _ (if_pos ⟨bleeding, goal, residue⟩)

/-- Settles O28: each command by the conditions it waits for, the selection by the feed that is best. -/
theorem feedsChangeOver : Obligations.FeedsChangeOver := by
  unfold Obligations.FeedsChangeOver
  intro s i n powered
  refine ⟨fun low invalid held => ⟨_, exec_feedValid_qualifies powered low invalid held, rfl⟩,
    fun breaking due => ⟨_, exec_feedMake_due powered breaking due, rfl⟩,
    fun low still fed other best valid apart => ⟨_, exec_feedReturn_due powered low still fed other best valid apart,
      State.changeover_of_fed _ _ fed⟩,
    State.reselect_of_unfed⟩

/-- Settles O30: charging and its ceiling by what the bank holds, measurements by their start and their figures. -/
theorem theBankChargesAndMeasures : Obligations.TheBankChargesAndMeasures := by
  unfold Obligations.TheBankChargesAndMeasures
  intro s cls v c esr
  refine ⟨exec_chargeTargetReached_held, exec_chargeTimeout_late, exec_ghBankEnergyCeilingWrite_raised,
    fun taken idle unbled mode lowered above _ =>
      ⟨_, exec_ghBankEnergyCeilingWrite_bleeds taken idle unbled mode lowered above, rfl⟩,
    fun powered idle mode float still rails => (exec_capacitanceMeasure_due powered idle mode).trans
      (congrArg _ (State.measureStart_starts rfl float still rails mode)),
    exec_ghBankMeasure_taken, fun measuring running => ⟨_, exec_bankMeasureDone_byObject measuring, ?_⟩,
    fun bleeding goal residue => ⟨_, exec_bankBleedDone_bled bleeding goal residue, rfl⟩⟩
  have recorded := State.measureRecorded_moves (s := s.bankMeasured c esr) c esr (s.get Obj.gh_bank_c_warn)
    (s.get Obj.gh_bank_esr_limit)
  have gate := recorded.frame .gh rfl
  have result := State.result_congr (s := s) Obj.gh_bank_measure_result (recorded.frame .results rfl)
  rw [State.endRun_gh, gate]
  refine ⟨rfl, rfl, rfl, rfl, State.endRun_eq_results .., ?_⟩
  rw [State.result_endRun _ _ _ (by rw [result]; exact running), result]

end Sys2Proof.Machine
end


section
/-! PROOF. Writes that an object refuses, and reads of RESULTs (R476 to R480). -/

namespace Sys2Proof.Machine

section
variable {s : State} {c : Instr} {w : WriteTo} {cls ix sub res : Nat} {ok : Bool} {row : ObjRow}

/-! ### A refused write counts a violation only (R476 to R479) -/

theorem State.action_refused {run : State → State} (refused : s.takesWrite { cls := cls, ix := ix, res := some res } = false) :
    s.action cls ix res run = s.violation cls := by
  simp only [State.takesWrite, Bool.and_true] at refused
  exact if_neg (ne_true_of_eq_false refused)

theorem State.trigger_refused {act : State → State} (refused : s.takesWrite { cls := cls, ix := ix, ok := ok } = false) :
    s.trigger cls ix ok act = s.violation cls := by
  simp only [State.takesWrite, Bool.and_true] at refused
  exact if_neg (ne_true_of_eq_false refused)

theorem State.guarded_untaken {act : State → State}
    (refused : s.takesWrite { cls := cls, ix := ix, sub := sub, ok := ok } = false) :
    s.guarded cls ix sub ok act = s.violation cls := by
  simp only [State.takesWrite, Bool.and_true] at refused
  exact if_neg (ne_true_of_eq_false refused)

/-- Store 2 is written outside a check and outside a switch to it (R566). -/
theorem State.shadowEnd_eq_guarded (cls : Nat) (image : List Byte) (s : State) :
    s.shadowEnd cls image = s.guarded cls Obj.tt_shadow_image 0
      (!s.tt.checkBusy && !(s.tt.switch.any fun q => q.target == 2) && decide (image.length ≤ 536170))
      fun t => t.modStore 2 fun _ => { image := image, state := .loaded, cause := 0 } := by
  rw [← Bool.not_or]
  unfold State.shadowEnd
  cases s.tt.switch <;> rfl

theorem exec_of_refused (written : writeOf s c = some w) (refused : s.takesWrite w = false) :
    exec c s = .next (s.violation w.cls) := by
  cases c
  case shadowImageEnd image =>
    cases written
    exact congrArg _ ((State.shadowEnd_eq_guarded _ image s).trans (State.guarded_untaken refused))
  case ttCheck | ttSwitch | siHandback | siPromote | trRekey | cePowerStateSet | ceNsCreate | ceNsDelete | cyOwnerRootWrite
      | cyHostKeyDerive | cyCoreReset | ghBoardUnlatch | ghBayUnlatch | ghBankMeasure | ghTimeSet | fwShutdown | fwOwnerKeyWrite
      | fwUnitReset | gbClear =>
    cases written
    exact congrArg _ (State.action_refused refused)
  case ttShadowToF1 | pePatrolLogClear | ceBayContain | ceBayRelease | ceBayAccept | fwStart | fwWarmReset =>
    cases written
    exact congrArg _ (State.trigger_refused refused)
  case peRebuildRateWrite | pePatrolEnableWrite | lgLedgerSizeWrite | lgFlushProfileWrite | nsPartyMaskWrite
      | ghBayEnableWrite | ghBankEnergyCeilingWrite | fwRecoveryImage | counterConfigWrite | filterWrite =>
    cases written
    exact congrArg _ (State.guarded_untaken refused)
  all_goals cases written

/-- Settles O9: a refused write is a violation, and the ends of a run are those of its RESULT. -/
theorem writesAreRefusedOrRun : Obligations.WritesAreRefusedOrRun :=
  ⟨fun _ _ _ => exec_of_refused, fun s res value =>
    ⟨by simp, by simp, by simp, s.result_endRun res value,
      fun _ n => ⟨s.result_startRun_ne n, s.result_endRun_ne value n⟩⟩⟩

/-! ### ACTIONs with a run in progress (R479) -/

theorem State.takesWrite_of_running (run : w.res = some res) (running : (s.result res).ready = false) :
    s.takesWrite w = false := by
  simp [State.takesWrite, run, running]

theorem State.action_of_running {run : State → State} (running : (s.result res).ready = false) :
    s.action cls ix res run = s.violation cls :=
  State.action_refused (State.takesWrite_of_running rfl running)

theorem State.runOf_of_running (paired : resultOf ix = some res) (running : (s.result res).ready = false) :
    s.runOf cls ix sub = 0 := by
  unfold State.runOf
  rw [paired]
  cases objRow ix sub <;> simp [running]

theorem mem_of_lookup {α β : Type} [BEq α] [LawfulBEq α] {l : List (α × Option β)} {k : α} {v : β}
    (found : lookup l k none = some v) : (k, some v) ∈ l := by
  unfold lookup at found
  split at found
  case h_1 p held =>
    have key : p.1 = k := by simpa using List.find?_some held
    exact key ▸ found ▸ List.mem_of_find?_eq_some held
  case h_2 => cases found

/-- Each ACTION with a RESULT is written through `State.action` with that RESULT. -/
theorem State.writeAction_of_running (paired : resultOf ix = some res) (running : (s.result res).ready = false) (v : Nat) :
    s.writeAction cls ix v = s.violation cls := by
  have listed := mem_of_lookup paired
  simp only [List.mem_cons, Prod.mk.injEq, Option.some.injEq, List.not_mem_nil, or_false] at listed
  rcases listed with ⟨rfl, rfl⟩ | ⟨rfl, rfl⟩ | ⟨rfl, rfl⟩ | ⟨rfl, rfl⟩ | ⟨rfl, rfl⟩ | ⟨rfl, rfl⟩ | ⟨rfl, rfl⟩ | ⟨rfl, rfl⟩ |
    ⟨rfl, rfl⟩ | ⟨rfl, rfl⟩ | ⟨rfl, rfl⟩ | ⟨rfl, rfl⟩ | ⟨rfl, rfl⟩ | ⟨rfl, rfl⟩ | ⟨rfl, rfl⟩ | ⟨rfl, rfl⟩ | ⟨rfl, rfl⟩
  all_goals
    simp (disch := decide) only [State.writeAction, if_pos, if_neg, State.after, execSiHandback, execSiPromote,
      execCyCoreReset, execGhBoardUnlatch, execGhBayUnlatch, execGhBankMeasure, execGhTimeSet, execFwShutdown, execFwUnitReset]
    exact State.action_of_running running

theorem State.writeItem_of_running (found : objRow ix sub = some row) (kind : row.ty = .action)
    (paired : resultOf ix = some res) (running : (s.result res).ready = false) (bar2 : Bool) (slot : List Byte) :
    s.writeItem bar2 cls ix sub slot = (0, s.violation cls) := by
  have value : isDomain ix sub = false := isDomain_of_row found fun n domain => by simp [kind] at domain
  have ignored : s.writeObject bar2 cls ix sub (slotValue ix sub slot) = s.violation cls := by
    simp only [State.writeObject, found, kind, if_true]
    exact State.writeAction_of_running paired running _
  rw [State.writeItem, value, State.runOf_of_running paired running, ignored]
  rfl

/-- Settles O56: the ACTION's RESULT is not ready, so the write is a violation on each path. -/
theorem runningActionsIgnoreWrites : Obligations.RunningActionsIgnoreWrites := fun s cls ix sub res row c w slot value bar2 =>
  ⟨fun written run running => exec_of_refused written (State.takesWrite_of_running run running),
    fun found kind paired running => State.writeItem_of_running found kind paired running bar2 slot,
    by simp,
    fun running _ n => by rw [State.result_endRun_ne s value n.symm, running]⟩

/-! ### Reads of RESULTs (R480) -/

/-- A row is no RESULT that a read would clear. -/
def ObjRow.keptByReads (r : ObjRow) : Bool :=
  match r.ty with
  | .result => !r.stats
  | _ => true

theorem all_ite {α : Type} {f : α → Bool} {a b : List α} {p : Prop} [Decidable p] (yes : a.all f = true)
    (no : b.all f = true) : (if p then a else b).all f = true := by
  split <;> assumption

theorem objGroup_keptByReads (g : Nat) : (objGroup g).all ObjRow.keptByReads = true := by
  unfold objGroup
  repeat refine all_ite rfl ?_
  rfl

theorem not_stats_of_result (found : objRow ix sub = some row) (kind : row.ty = .result) : row.stats = false := by
  have kept := List.all_eq_true.mp (objGroup_keptByReads _) row (List.mem_of_find?_eq_some found)
  simpa [ObjRow.keptByReads, kind] using kept

theorem State.valueOf_of_result (found : objRow ix sub = some row) (kind : row.ty = .result) :
    s.valueOf ix sub = (s.result ix).bytes := by
  simp only [State.valueOf, found, kind]

theorem State.readItem_of_result (found : objRow ix sub = some row) (kind : row.ty = .result)
    (may : s.mayRead cls ix sub = true) : s.readItem cls ix sub = (padTo 64 (s.result ix).bytes, s) := by
  rw [State.readItem_allowed may, found, Option.elim_some, not_stats_of_result found kind,
    State.valueOf_of_result found kind]
  rfl

theorem State.results_violation (s : State) (cls : Nat) : (s.violation cls).results = s.results :=
  (State.violation_moves (.refl 0x1 s) (.refl _)).frame .results rfl

theorem State.results_readItem_of_result (found : objRow ix sub = some row) (kind : row.ty = .result) :
    (s.readItem cls ix sub).2.results = s.results := by
  cases may : s.mayRead cls ix sub
  · rw [State.readItem_denied may, State.results_violation]
  · rw [State.readItem_of_result found kind may]

theorem State.readItem_of_result_congr {t : State} (found : objRow ix sub = some row) (kind : row.ty = .result)
    (same : t.results = s.results) (reach : t.mayRead cls ix sub = s.mayRead cls ix sub) :
    (t.readItem cls ix sub).1 = (s.readItem cls ix sub).1 := by
  cases may : s.mayRead cls ix sub
  · rw [State.readItem_denied may, State.readItem_denied (reach.trans may)]
  · rw [State.readItem_of_result found kind may, State.readItem_of_result found kind (reach.trans may),
      State.result_congr ix same]

theorem State.bytes_result_startRun (s : State) (ix : Nat) :
    ((s.startRun ix).result ix).bytes = 0#8 :: (s.result ix).bytes.drop 1 := by
  rw [State.result_startRun]
  rfl

/-- Settles O57: a RESULT is never a statistics object, so a read of it shows its bytes and clears nothing. -/
theorem resultsReadWithoutEffect : Obligations.ResultsReadWithoutEffect := fun s _ ix _ _ found kind =>
  ⟨not_stats_of_result found kind, State.results_readItem_of_result found kind, State.readItem_of_result found kind,
    fun _ => State.readItem_of_result_congr found kind, s.bytes_result_startRun ix⟩

end

end Sys2Proof.Machine
end


section
/-! PROOF. Sessions of the object protocol and the messages they carry (R482, R483, R486, R490 to R494, R528). -/

namespace Sys2Proof.Machine

section
variable {s : State} {vlan : Option Nat} {m : FieldMsg} {x : Session} {body : List Byte} {id bytes type : Nat}

/-! ### What a received message leaves -/

theorem State.dict_fieldGot (s : State) (vlan : Option Nat) (bytes : Nat) : (s.fieldGot vlan bytes).dict = s.dict :=
  (State.fieldGot_moves (.refl 0x1 s) (.refl _)).frame .dict rfl

theorem State.gh_fieldGot (s : State) (vlan : Option Nat) (bytes : Nat) : (s.fieldGot vlan bytes).gh = s.gh :=
  (State.fieldGot_moves (.refl 0x1 s) (.refl _)).frame .gh rfl

theorem State.si_fieldGot (s : State) (vlan : Option Nat) (bytes : Nat) : (s.fieldGot vlan bytes).si = s.si :=
  (State.fieldGot_moves (.refl 0x1 s) (.refl _)).frame .si rfl

theorem State.session?_fieldGot (s : State) (vlan : Option Nat) (bytes id : Nat) :
    (s.fieldGot vlan bytes).session? id = s.session? id := by
  unfold State.session?
  rw [State.dict_fieldGot]

theorem State.dict_tagSend {ks : BitVec 256} {counter request : Nat} :
    (s.tagSend vlan ks id type counter request body).dict = s.dict :=
  (State.tagSend_moves (.refl 0x404001 s) (.refl _)).frame .dict rfl

/-! ### HELLO (R493, R494) -/

section
variable {nonce cls e : Nat} {key : List Byte} (up : s.pathUp vlan = true) (whole : key.length = 2592)

/-- A HELLO as its bytes (R493). -/
def helloBytes (nonce cls : Nat) (key : List Byte) : List Byte :=
  beBytes 32 nonce ++ beBytes 1 cls ++ [0#8, 0#8, 0#8] ++ key

include up whole

theorem exec_hello_unknown
    (unknown : (s.fieldGot vlan (msgBytes (helloBytes nonce cls key) false)).credential 0 key = none) :
    exec (.hello vlan nonce cls key) s =
      .next ((s.fieldGot vlan (msgBytes (helloBytes nonce cls key) false)).tick Obj.fw_auth_failures) := by
  change execHello vlan nonce cls key s = _
  unfold helloBytes at unknown
  simp only [execHello, up, whole, unknown]
  rfl

theorem exec_hello_full (full : 8 ≤ s.dict.sessions.length) :
    exec (.hello vlan nonce cls key) s =
      .next ((s.fieldGot vlan (msgBytes (helloBytes nonce cls key) false)).tick Obj.fw_auth_failures) := by
  cases known : (s.fieldGot vlan (msgBytes (helloBytes nonce cls key) false)).credential 0 key
  case none => exact exec_hello_unknown up whole known
  case some e =>
    change execHello vlan nonce cls key s = _
    unfold helloBytes at known
    simp only [execHello, up, whole, known, State.dict_fieldGot, if_pos full]
    rfl

theorem exec_hello_challenge
    (known : (s.fieldGot vlan (msgBytes (helloBytes nonce cls key) false)).credential 0 key = some e)
    (room : s.dict.sessions.length < 8) :
    let t := s.fieldGot vlan (msgBytes (helloBytes nonce cls key) false)
    let upTo := beBytes 32 (t.drawn.freeVal 256) ++ Config.deviceKey
    let signature := Config.mldsaSign "KA2460 FIELD D" (sha3Bytes (helloBytes nonce cls key ++ upTo))
    exec (.hello vlan nonce cls key) s = .next ((t.drawn.drawn.modDict fun d => { d with sessions := d.sessions ++
      [{ id := t.freeSession, credential := e, vlan := vlan, asked := cls, key := key, last := s.gh.now
         hello := sha3Bytes (helloBytes nonce cls key ++ upTo ++ signature)
         nonces := beBytes 32 nonce ++ beBytes 32 (t.drawn.freeVal 256) }] }).fieldSend vlan
      t.freeSession 2 0 0 (upTo ++ signature) none) := by
  intro t upTo signature
  have free : ¬8 ≤ t.dict.sessions.length := by rw [State.dict_fieldGot]; omega
  have now : t.gh.now = s.gh.now := by rw [State.gh_fieldGot]
  change execHello vlan nonce cls key s = _
  rw [← now]
  unfold helloBytes at known
  simp only [execHello, up, whole, known]
  exact congrArg _ (if_neg free)

end

/-! ### AUTH and its timeout (R492, R493) -/

section
variable {sig : List Byte} (there : s.session? id = some x)
include there

section
variable (up : s.pathUp x.vlan = true)
include up

theorem exec_auth_heard {t : State} (heard : t = s.fieldGot x.vlan (msgBytes sig false)) :
    exec (.auth id sig) s = .next (
      if x.opened then t.tick Obj.fw_tag_failures
      else if Config.mldsaVerify x.key "KA2460 FIELD C" x.hello sig then
        let ks := sessionKey (t.credSecret x.credential) x.nonces id
        let cls := Nat.min x.asked (t.get Obj.fw_cred_class (x.credential + 1))
        (t.modSession id fun y => { y with opened := true, ks := ks, cls := cls, tx := 1, last := s.gh.now }).tagSend x.vlan ks
          id 4 1 0 (beBytes 1 cls ++ [0#8, 0#8, 0#8] ++ beBytes 4 (t.get Obj.fw_session_idle))
      else (t.endSession id none).tick Obj.fw_auth_failures) := by
  subst heard
  change execAuth id sig s = _
  rw [← State.gh_fieldGot s x.vlan (msgBytes sig false)]
  simp only [execAuth, there, Option.elim_some, up, State.session?_fieldGot]
  rfl

end

theorem exec_authTimeout_of :
    exec (.authTimeout id) s = .next (if x.opened ∨ s.gh.now < x.last + 2000000000 then s
      else (s.endSession id none).tick Obj.fw_auth_failures) := by
  change execAuthTimeout id s = _
  rw [execAuthTimeout, there]

theorem exec_sessionIdle_of :
    exec (.sessionIdle id) s = .next (if x.opened ∧ x.last + s.get Obj.fw_session_idle * 1000000 ≤ s.gh.now
      then s.endSession id (some 1) else s) := by
  change execSessionIdle id s = _
  rw [execSessionIdle, there]

end

/-- A session ends: it leaves the table, whether or not a CLOSE is sent (R490, R492, R494). -/
theorem State.sessions_endSession (there : s.session? id = some x) (reason : Option Nat) :
    (s.endSession id reason).dict.sessions = s.dict.sessions.filter fun y => y.id != id := by
  unfold State.session? at there
  cases reason with
  | none =>
    rw [State.endSession, there]
    rfl
  | some n =>
    rw [State.endSession, there]
    dsimp only
    split_ifs
    · rw [State.dict_tagSend]
      rfl
    · rfl

/-! ### Tagged messages (R490) -/

/-- The message carries the tag of the open session, on its path (R490). -/
def Session.tagged (x : Session) (m : FieldMsg) (type : Nat) (body : List Byte) : Prop :=
  x.opened = true ∧ x.vlan = m.vlan ∧ m.tag = msgTag x.ks type m.session m.counter m.request body

theorem Session.untagged_iff :
    (!x.opened || x.vlan != m.vlan || m.tag != msgTag x.ks type m.session m.counter m.request body) = true ↔
      ¬x.tagged m type body := by
  simp only [Session.tagged, Bool.or_eq_true, Bool.not_eq_true', bne_iff_ne]
  cases x.opened
  · simp
  · simp [or_iff_not_imp_left]

theorem State.passes_iff : s.passes m type body x ↔
    s.pathUp m.vlan = true ∧ s.session? m.session = some x ∧ x.tagged m type body ∧ x.rx < m.counter := by
  simp only [State.passes, Session.tagged, and_assoc]

section
variable {reply : Nat} {whole : Bool} {serve : Session → State → List Byte × State}

theorem State.request_down (down : s.pathUp m.vlan = false) : s.request m type reply body whole serve = s := by
  simp [State.request, down]

variable (up : s.pathUp m.vlan = true)
include up

theorem State.request_unnamed (unnamed : s.session? m.session = none) :
    s.request m type reply body whole serve = (s.fieldGot m.vlan (msgBytes body true)).tick Obj.fw_tag_failures := by
  simp only [State.request, up, State.session?_fieldGot, unnamed]
  rfl

variable (there : s.session? m.session = some x)
include there

theorem State.request_untagged (untagged : ¬x.tagged m type body) :
    s.request m type reply body whole serve = (s.fieldGot m.vlan (msgBytes body true)).tick Obj.fw_tag_failures := by
  simp only [State.request, up, State.session?_fieldGot, there]
  exact if_pos (Session.untagged_iff.mpr untagged)

variable (tagged : x.tagged m type body)
include tagged

theorem State.request_stale (stale : m.counter ≤ x.rx) :
    s.request m type reply body whole serve = (s.fieldGot m.vlan (msgBytes body true)).tick Obj.fw_counter_drops := by
  simp only [State.request, up, State.session?_fieldGot, there]
  exact (if_neg fun untagged => Session.untagged_iff.mp untagged tagged).trans (if_pos stale)

variable (new : x.rx < m.counter)
include new

theorem State.request_broken (broken : whole = false) :
    s.request m type reply body whole serve = s.fieldGot m.vlan (msgBytes body true) := by
  simp only [State.request, up, State.session?_fieldGot, there, broken]
  exact (if_neg fun untagged => Session.untagged_iff.mp untagged tagged).trans (if_neg new.not_ge)

/-- The state in which a message that passes is served: its counter and its time are kept (R490). -/
def State.servedFrom (s : State) (m : FieldMsg) (body : List Byte) : State :=
  (s.fieldGot m.vlan (msgBytes body true)).modSession m.session fun y => { y with rx := m.counter, last := s.gh.now }

variable (good : whole = true)
include good

theorem State.request_answered {y : Session} (stays : (serve x (s.servedFrom m body)).2.session? m.session = some y) :
    s.request m type reply body whole serve = State.tagSend y.vlan y.ks y.id reply (y.tx + 1) m.request
      (serve x (s.servedFrom m body)).1
      (State.modSession m.session (fun z => { z with tx := y.tx + 1 }) (serve x (s.servedFrom m body)).2) := by
  unfold State.servedFrom at stays ⊢
  rw [← State.gh_fieldGot s m.vlan (msgBytes body true)] at stays ⊢
  simp only [State.request, up, State.session?_fieldGot, there, good, stays]
  exact (if_neg fun untagged => Session.untagged_iff.mp untagged tagged).trans (if_neg new.not_ge)

theorem State.request_unanswered (gone : (serve x (s.servedFrom m body)).2.session? m.session = none) :
    s.request m type reply body whole serve = (serve x (s.servedFrom m body)).2 := by
  unfold State.servedFrom at gone ⊢
  rw [← State.gh_fieldGot s m.vlan (msgBytes body true)] at gone ⊢
  simp only [State.request, up, State.session?_fieldGot, there, good, gone]
  exact (if_neg fun untagged => Session.untagged_iff.mp untagged tagged).trans (if_neg new.not_ge)

end

theorem exec_of_servedAs {c : Instr} {reply : Nat} {whole : Bool} {serve : Session → State → List Byte × State}
    (served : servedAs c = some (m, body, type, reply, whole, serve)) :
    exec c s = .next (s.request m type reply body whole serve) := by
  cases c
  case fieldRead | fieldWrite | domainRead | domainWrite =>
    cases served
    rfl
  case gbWindowRead =>
    simp only [servedAs] at served
    split_ifs at served with window
    cases served
    exact congrArg _ (if_pos window)
  all_goals cases served

/-- Settles O48: each request message is served by `State.request`, taken case by case. -/
theorem messagesAreServed : Obligations.MessagesAreServed := by
  intro s c m b type reply whole serve x served
  have runs := exec_of_servedAs (s := s) served
  refine ⟨fun passed good => ?_, fun passed broken => ?_, fun up unnamed => ?_, fun up there forged => ?_,
    fun up there opened path tag stale => ?_, fun down => ?_⟩
  · obtain ⟨up, there, tagged, new⟩ := State.passes_iff.mp passed
    exact ⟨fun y stays => runs.trans (congrArg _ (State.request_answered up there tagged new good stays)),
      fun gone => runs.trans (congrArg _ (State.request_unanswered up there tagged new good gone))⟩
  · obtain ⟨up, there, tagged, new⟩ := State.passes_iff.mp passed
    exact runs.trans (congrArg _ (State.request_broken up there tagged new broken))
  · exact runs.trans (congrArg _ (State.request_unnamed up unnamed))
  · exact runs.trans (congrArg _ (State.request_untagged up there fun tagged => forged tagged.2.2))
  · exact runs.trans (congrArg _ (State.request_stale up there ⟨opened, path, tag⟩ stale))
  · exact runs.trans (congrArg _ (State.request_down down))

/-! ### CLOSE (R490) -/

theorem exec_close_of_session (passed : s.passes m 5 body x) (full : body ≠ [])
    (notWarden : m.vlan ≠ none ∨ s.si.wardenSession ≠ 3 ∨ s.si.wardenId ≠ m.session) :
    exec (.close m body) s = .next ((s.fieldGot m.vlan (msgBytes body true)).endSession m.session none) := by
  obtain ⟨up, there, tagged, new⟩ := State.passes_iff.mp passed
  have caller : (m.vlan.isNone && s.si.wardenSession == 3 && s.si.wardenId == m.session) = false := by
    rcases notWarden with path | shut | other
    · simp [path]
    · simp [shut]
    · simp [other]
  change execClose m body s = _
  simp only [execClose, up, State.session?_fieldGot, State.si_fieldGot, caller, there]
  exact congrArg _ ((if_neg fun untagged => Session.untagged_iff.mp untagged tagged).trans
    ((if_neg new.not_ge).trans (if_neg (by simpa using full))))

theorem exec_close_of_warden (path : m.vlan = none) (up : s.pathUp none = true) (opened : s.si.wardenSession = 3)
    (named : s.si.wardenId = m.session) (tag : m.tag = msgTag s.si.wardenKs 5 m.session m.counter m.request body)
    (new : s.si.wardenRx < m.counter) (full : body ≠ []) :
    exec (.close m body) s =
      .next ((s.fieldGot none (msgBytes body true)).modSi fun i => { i with wardenSession := 0 }) := by
  change execClose m body s = _
  simp only [execClose, path, up, State.si_fieldGot, opened, named]
  exact congrArg _ ((if_neg (by decide)).trans ((if_pos (by simp)).trans ((if_neg (by simp [tag])).trans
    ((if_neg new.not_ge).trans (if_neg (by simpa using full))))))

/-- Settles O47: HELLO, AUTH, the timeouts and CLOSE, each by what its command reads. -/
theorem sessionsOpenAndClose : Obligations.SessionsOpenAndClose := by
  intro s vlan nonce cls e id key sig body x m
  refine ⟨fun up whole => ⟨exec_hello_unknown up whole, exec_hello_full up whole, exec_hello_challenge up whole⟩,
    fun there up => ⟨fun closed good => ?_, fun closed bad => ?_, fun opened => ?_⟩,
    fun there closed => ⟨fun late => ?_, fun early => ?_⟩,
    fun there opened => ⟨?_, fun late => ?_, fun early => ?_⟩,
    exec_close_of_session, exec_close_of_warden, State.sessions_endSession⟩
  · exact (exec_auth_heard there up rfl).trans (congrArg _ ((if_neg (by simp [closed])).trans (if_pos good)))
  · exact (exec_auth_heard there up rfl).trans (congrArg _ ((if_neg (by simp [closed])).trans (if_neg (by simp [bad]))))
  · exact (exec_auth_heard there up rfl).trans (congrArg _ (if_pos opened))
  · exact (exec_authTimeout_of there).trans (congrArg _ (if_neg (by simp [closed, late])))
  · exact (exec_authTimeout_of there).trans (congrArg _ (if_pos (.inr early)))
  · exact (exec_authTimeout_of there).trans (congrArg _ (if_pos (.inl opened)))
  · exact (exec_sessionIdle_of there).trans (congrArg _ (if_pos ⟨opened, late⟩))
  · exact (exec_sessionIdle_of there).trans (congrArg _ (if_neg fun idle => early.not_ge idle.2))

end

end Sys2Proof.Machine
end


section
/-! PROOF. The service endpoint: its queues and reads, its interrupts, errors and resets (R503 to R520). -/

namespace Sys2Proof.Machine

section
variable {s u : State} {qid v tag sq size vec cqid base cid : Nat} {a : Assoc} {t : EpTag}

/-! ### Doorbells (R504, R505) -/

section
variable {q : EpQueue} (served : s.epOpen = true) (ready : s.ep.ready = true)
include served ready

theorem exec_epDoorbell_tail (there : epQueue? s.ep.sqs qid = some q) (within : v < q.depth) :
    exec (.epDoorbell qid false v) s = .next (State.modEp
      (fun e => { e with sqs := modFirst (fun x => x.id == qid) (fun x => { x with tail := v }) e.sqs })
      (s.epFetch q ((v + q.depth - q.tail) % Nat.max 1 q.depth) 0)) := by
  change execEpDoorbell qid false v s = _
  simp only [execEpDoorbell, served, ready, there]
  exact congrArg _ (if_neg within.not_ge)

theorem exec_epDoorbell_head (there : epQueue? s.ep.cqs qid = some q) (within : v < q.depth) :
    exec (.epDoorbell qid true v) s = .next (State.intaUpdate (State.epRelease
      { s with ep := { s.ep with cqs := modFirst (fun x => x.id == qid) (fun x => { x with
        head := v, posted := x.posted - Nat.min q.posted ((v + q.depth - q.head) % Nat.max 1 q.depth) }) s.ep.cqs } })) := by
  change execEpDoorbell qid true v s = _
  rw [execEpDoorbell, there]
  exact congrArg _ ((if_neg (by simp [served, ready])).trans ((if_pos rfl).trans (if_neg within.not_ge)))

theorem exec_epDoorbell_absent (cq : Bool) (absent : epQueue? (if cq then s.ep.cqs else s.ep.sqs) qid = none) :
    exec (.epDoorbell qid cq v) s = .next s := by
  change execEpDoorbell qid cq v s = _
  cases cq with
  | false =>
    simp only [Bool.false_eq_true, if_false] at absent
    simp only [execEpDoorbell, served, ready, absent]
    rfl
  | true =>
    simp only [if_true] at absent
    simp only [execEpDoorbell, served, ready, absent]
    rfl

end

/-! ### Controller Configuration (R504) -/

/-- The registers after a write of CC (R504). -/
def State.ccWritten (s : State) (value sqDepth cqDepth sqBase cqBase : Nat) : State := s.modEp fun e => { e with
  cc := value % 2 ^ 32, aqa := (sqDepth - 1) + 2 ^ 16 * (cqDepth - 1), asq := sqBase, acq := cqBase }

/-- The controller as enabled, with its admin queues (R504). -/
def State.ccEnabled (s : State) (sqDepth cqDepth sqBase cqBase : Nat) : State := s.modEp fun e => { e with
  ready := true, shst := 0, sqs := [{ id := 0, depth := sqDepth, base := sqBase }]
  cqs := [{ id := 0, depth := cqDepth, ints := true, base := cqBase }] }

section
variable {value sqDepth cqDepth sqBase cqBase : Nat} (served : s.epOpen = true)
include served

theorem exec_epCcWrite_enable (off : bit s.ep.cc 0 = false) (on : bit value 0 = true) (running : bits value 15 14 = 0) :
    exec (.epCcWrite value sqDepth cqDepth sqBase cqBase) s =
      .next ((s.ccWritten value sqDepth cqDepth sqBase cqBase).ccEnabled sqDepth cqDepth sqBase cqBase) := by
  change execEpCcWrite value sqDepth cqDepth sqBase cqBase s = _
  simp only [execEpCcWrite, served, off, on, running]
  rfl

theorem exec_epCcWrite_enable_shutdown (off : bit s.ep.cc 0 = false) (on : bit value 0 = true) (asked : bits value 15 14 ≠ 0) :
    exec (.epCcWrite value sqDepth cqDepth sqBase cqBase) s =
      .next (((s.ccWritten value sqDepth cqDepth sqBase cqBase).ccEnabled sqDepth cqDepth sqBase cqBase).modEp
        fun e => { e with shst := 1 }).epShutdown := by
  change execEpCcWrite value sqDepth cqDepth sqBase cqBase s = _
  simp only [execEpCcWrite, served, off, on]
  exact congrArg _ ((if_neg (by decide)).trans (if_pos (by simp [asked, State.modEp])))

theorem exec_epCcWrite_disable (on : bit s.ep.cc 0 = true) (off : bit value 0 = false) :
    exec (.epCcWrite value sqDepth cqDepth sqBase cqBase) s =
      .next (s.ccWritten value sqDepth cqDepth sqBase cqBase).epDisable := by
  change execEpCcWrite value sqDepth cqDepth sqBase cqBase s = _
  simp only [execEpCcWrite, served, off, on]
  rfl

end

/-! ### I/O queues are created and deleted (R504, R505) -/

section
variable {ien : Bool} (sender : s.adminFrom .endpoint true false = some (a, u))
include sender

theorem State.epAdmin_of_sender (run : State → Status × State) :
    s.epAdmin .endpoint cid run = (run u).2.respond .endpoint 0 cid (run u).1 :=
  State.adminCmd_from cid _ sender

theorem State.epAdmin_of_run {run : State → Status × State} {status : Status} {left : State} (ran : run u = (status, left)) :
    s.epAdmin .endpoint cid run = left.respond .endpoint 0 cid status := by
  rw [State.epAdmin_of_sender sender, ran]

theorem exec_createIoCompletionQueue_success (notAdmin : 1 ≤ qid) (small : qid ≤ 63) (free : epQueue? u.ep.cqs qid = none)
    (sized : 1 ≤ size) (fits : size ≤ 1023) (vector : vec ≤ 62) :
    exec (.createIoCompletionQueue .endpoint cid qid size vec true ien base) s = .next (State.respond .endpoint 0 cid .success
      { u with ep := { u.ep with
        cqs := u.ep.cqs ++ [{ id := qid, depth := size + 1, vector := vec, ints := ien, base := base }] } }) :=
  congrArg _ (State.epAdmin_of_run sender ((if_neg (by simp [free]; omega)).trans ((if_neg (by omega)).trans
    ((if_neg (by omega)).trans (if_neg (by decide))))))

theorem exec_createIoSubmissionQueue_success (paired : cqid ≠ 0) (there : (epQueue? u.ep.cqs cqid).isSome = true)
    (notAdmin : 1 ≤ qid) (small : qid ≤ 63) (free : epQueue? u.ep.sqs qid = none) (sized : 1 ≤ size) (fits : size ≤ 1023) :
    exec (.createIoSubmissionQueue .endpoint cid qid size cqid true base) s = .next (State.respond .endpoint 0 cid .success
      { u with ep := { u.ep with sqs := u.ep.sqs ++ [{ id := qid, depth := size + 1, cq := cqid, base := base }] } }) :=
  congrArg _ (State.epAdmin_of_run sender ((if_neg (by simp [paired, Option.isSome_iff_ne_none.mp there])).trans
    ((if_neg (by simp [free]; omega)).trans ((if_neg (by omega)).trans (if_neg (by decide))))))

theorem exec_deleteIoCompletionQueue_success (notAdmin : qid ≠ 0) (there : (epQueue? u.ep.cqs qid).isSome = true)
    (unused : ∀ x ∈ u.ep.sqs, x.cq ≠ qid) :
    exec (.deleteIoCompletionQueue .endpoint cid qid) s = .next (State.respond .endpoint 0 cid .success { u with ep := { u.ep with
      cqs := u.ep.cqs.filter fun x => x.id != qid, heldCq := u.ep.heldCq.filter fun x => x.1 != qid } }) :=
  congrArg _ (State.epAdmin_of_run sender ((if_neg (by simp [notAdmin, Option.isSome_iff_ne_none.mp there])).trans
    (if_neg (by simpa using unused))))

theorem exec_deleteIoSubmissionQueue_success (notAdmin : qid ≠ 0) (there : (epQueue? u.ep.sqs qid).isSome = true) :
    let mine := (u.ce.cmds.filter fun c => c.cap.src == .endpoint && c.cap.sqid == qid).map (·.arrival)
    exec (.deleteIoSubmissionQueue .endpoint cid qid) s = .next (State.respond .endpoint 0 cid .success (State.settle
      (State.modEp (fun e => { e with sqs := e.sqs.filter fun x => x.id != qid })
        (State.epDrop (fun g => (g.use == 1 && g.sq == qid) || (g.use != 1 && mine.contains g.arrival))
          (mine.foldl (fun x a => x.dropCmd a) u))))) :=
  congrArg _ (State.epAdmin_of_run sender (if_neg (by simp [notAdmin, Option.isSome_iff_ne_none.mp there])))

theorem exec_deleteIoSubmissionQueue_refused (absent : qid = 0 ∨ epQueue? u.ep.sqs qid = none) :
    exec (.deleteIoSubmissionQueue .endpoint cid qid) s = .next (u.respond .endpoint 0 cid .invalidQueueId) :=
  congrArg _ (State.epAdmin_of_run sender (if_pos (absent.imp_right Option.isNone_iff_eq_none.mpr)))

end

/-! ### Reads complete, or time out (R513, R514) -/

section
variable {good : Bool} {d : Block} {cap : Option Capsule} (there : s.ep.tags.find? (fun x => x.tag == tag) = some t)
include there

theorem exec_epReadCompletion_of_use :
    (t.use = 0 → good = true → exec (.epReadCompletion tag good d cap) s = .next ((s.epRetire tag).epData t d).epReads) ∧
    (t.use = 0 → good = false → exec (.epReadCompletion tag good d cap) s = .next ((s.epRetire tag).epFail t.arrival).epReads) ∧
    (t.use = 2 → exec (.epReadCompletion tag good d cap) s =
      .next (if good then (s.epRetire tag).epListIn t.arrival else (s.epRetire tag).epFail t.arrival).epReads) ∧
    (t.use = 1 → exec (.epReadCompletion tag good d cap) s =
      .next ((s.epRetire tag).epEntry t.sq (if good then cap else none)).epReads) ∧
    (t.use = 3 → exec (.epReadCompletion tag good d cap) s =
      .next ((s.epRetire tag).tick Obj.ep_bme_discards).epReads) := by
  change (_ → _ → execEpReadCompletion tag good d cap s = _) ∧ (_ → _ → execEpReadCompletion tag good d cap s = _) ∧
    (_ → execEpReadCompletion tag good d cap s = _) ∧ (_ → execEpReadCompletion tag good d cap s = _) ∧
    (_ → execEpReadCompletion tag good d cap s = _)
  simp only [execEpReadCompletion, there]
  refine ⟨fun use ok => ?_, fun use bad => ?_, fun use => ?_, fun use => ?_, fun use => ?_⟩
  · rw [use, ok]; rfl
  · rw [use, bad]; rfl
  · rw [use]; rfl
  · rw [use]; rfl
  · rw [use]; rfl

/-- The state in which a late completion is judged: its tag has retired, and the error is signalled (R513, R517). -/
def State.completionLate (s : State) (tag : Nat) : State :=
  State.epError true 14 0 (((s.epRetire tag).tick Obj.ep_cpl_timeouts).modEp fun e => { e with
    resetTimeouts := if e.resetting then e.resetTimeouts + 1 else e.resetTimeouts })

theorem exec_epCompletionTimeout_of_tag : exec (.epCompletionTimeout tag) s = .next
    (if t.use = 0 ∨ t.use = 2 then (s.completionLate tag).epFail t.arrival
      else if t.use = 1 then (s.completionLate tag).epTake t.sq else s.completionLate tag).epReads := by
  change execEpCompletionTimeout tag s = _
  simp only [execEpCompletionTimeout, there]
  rfl

end

theorem exec_epReadCompletion_of_absent {good : Bool} {d : Block} {cap : Option Capsule}
    (absent : s.ep.tags.find? (fun x => x.tag == tag) = none) : exec (.epReadCompletion tag good d cap) s = .next s := by
  change execEpReadCompletion tag good d cap s = _
  simp only [execEpReadCompletion, absent]

theorem exec_epCompletionTimeout_of_absent (absent : s.ep.tags.find? (fun x => x.tag == tag) = none) :
    exec (.epCompletionTimeout tag) s = .next s := by
  change execEpCompletionTimeout tag s = _
  simp only [execEpCompletionTimeout, absent]

/-- Settles O51: doorbells, CC, the queue commands and the ends of reads, each by its own lemma. -/
theorem endpointServesItsQueues : Obligations.EndpointServesItsQueues := by
  intro s u qid v tag sq size vec cqid base cid q t a good ien d cap
  refine ⟨fun served ready => ⟨exec_epDoorbell_tail served ready, exec_epDoorbell_head served ready,
      exec_epDoorbell_absent served ready⟩,
    fun served => ⟨exec_epCcWrite_enable served, exec_epCcWrite_enable_shutdown served, exec_epCcWrite_disable served⟩,
    fun sender => ⟨exec_createIoCompletionQueue_success sender, exec_createIoSubmissionQueue_success sender,
      exec_deleteIoCompletionQueue_success sender, exec_deleteIoSubmissionQueue_success sender,
      exec_deleteIoSubmissionQueue_refused sender⟩,
    fun there => ?_,
    fun absent => ⟨exec_epReadCompletion_of_absent absent, exec_epCompletionTimeout_of_absent absent⟩⟩
  obtain ⟨data, failed, list, entry, discarded⟩ := exec_epReadCompletion_of_use (good := good) (d := d) (cap := cap) there
  have late := exec_epCompletionTimeout_of_tag there
  refine ⟨data, failed, list, entry, discarded, fun use => ?_, fun use => ?_, fun use => ?_⟩
  · rw [late, if_pos use]
    rfl
  · rw [late, if_neg (by omega), if_pos use]
    rfl
  · rw [late, if_neg (by omega), if_neg (by omega)]
    rfl

/-! ### Interrupts, bus mastering and power states (R503, R509, R515, R516) -/

section
variable {msix fn dis mem : Bool} {intms mrrs : Nat} (idle : s.ep.resetting = false) (up : s.ep.link = 2)
include idle up

theorem State.not_epResetting_of_linked : ¬(s.ep.resetting = true ∨ s.ep.link ≠ 2) := by simp [idle, up]

theorem exec_interruptModeChange_kept (already : s.ep.msix = true) :
    exec (.interruptModeChange msix fn dis intms) s = .next (State.msixPending (State.intaUpdate
      { s with ep := { s.ep with msix := msix, fnMask := fn, intxDisable := dis, intms := intms } })) :=
  congrArg _ ((if_neg (State.not_epResetting_of_linked idle up)).trans (if_neg (by simp [already])))

theorem exec_interruptModeChange_msix (off : s.ep.msix = false) :
    exec (.interruptModeChange true fn dis intms) s = .next (State.msixPending (State.msixAgain (State.intaUpdate
      { s with ep := { s.ep with msix := true, fnMask := fn, intxDisable := dis, intms := intms } }))) :=
  congrArg _ ((if_neg (State.not_epResetting_of_linked idle up)).trans (if_pos (by simp [off])))

theorem exec_interruptUnmask_function : exec (.interruptUnmask none) s =
    .next (State.msixPending { s with ep := { s.ep with fnMask := false } }) :=
  congrArg _ (if_neg (State.not_epResetting_of_linked idle up))

theorem exec_interruptUnmask_vector : exec (.interruptUnmask (some v)) s =
    .next (State.msixPending { s with ep := { s.ep with vecMask := s.ep.vecMask.set v false } }) :=
  congrArg _ (if_neg (State.not_epResetting_of_linked idle up))

theorem exec_d3hotEntry_linked : exec .d3hotEntry s = .next (State.intaUpdate { s with ep := { s.ep with d3 := true } }) :=
  congrArg _ (if_neg (State.not_epResetting_of_linked idle up))

theorem exec_busMasterSet_linked : exec (.busMasterSet mem mrrs) s = .next (State.epReads (State.msixPending (State.epRelease
    { s with ep := { s.ep with busMaster := true, memSpace := mem, mrrs := mrrs } }))) :=
  congrArg _ (if_neg (State.not_epResetting_of_linked idle up))

theorem exec_busMasterClear_quiet (quiet : s.ep.busMaster = false ∨ ∀ t ∈ s.ep.tags, t.use = 3) :
    exec (.busMasterClear mem) s = .next { s with ep := { s.ep with busMaster := false, memSpace := mem } } := by
  have none : (!s.ep.busMaster || (s.ep.tags.filter fun t => t.use != 3).isEmpty) = true := by
    rcases quiet with off | discarded
    · simp [off]
    · simpa using .inr discarded
  exact congrArg _ ((if_neg (State.not_epResetting_of_linked idle up)).trans (if_pos none))

theorem exec_busMasterClear_reads (on : s.ep.busMaster = true) (out : ∃ t ∈ s.ep.tags, t.use ≠ 3) :
    let reads := s.ep.tags.filter fun t => t.use != 3
    let hit := (s.ce.cmds.filter fun c => c.cap.src == .endpoint && c.status.isNone && (c.needsHost ||
      (s.ep.tags ++ s.ep.tagWait).any fun t => t.use != 1 && t.use != 3 && t.arrival == c.arrival)).map (·.arrival)
    exec (.busMasterClear mem) s = .next (State.record 4 0xD004 [(2, reads.length), (2, hit.length)]
      (hit.foldl (fun w a => w.epFail a) (s.modEp fun x => { x with
        busMaster := false, memSpace := mem, tags := x.tags.map fun t => { t with use := 3 }
        tagWait := ((reads.filter fun t => t.use == 1).map fun t => { t with tag := 0 }) ++ x.tagWait }))) := by
  intro reads hit
  have some : ¬(!s.ep.busMaster || reads.isEmpty) = true := by simpa [on, reads] using out
  exact congrArg _ ((if_neg (State.not_epResetting_of_linked idle up)).trans (if_neg some))

end

theorem exec_d0Entry_of_d3 (asleep : s.ep.d3 = true) :
    exec .d0Entry s = .next (State.epReads (State.intaUpdate (State.msixPending (State.epRelease
      (s.ep.d3Int.foldl (fun t x => t.msixRaise x) (s.ep.d3Cq.foldl (fun t x => t.epComplete x.2)
        (s.modEp fun x => { x with d3 := false, d3Cq := [], d3Int := [] }))))))) :=
  congrArg _ (if_neg (by simp [asleep]))

theorem exec_d0Entry_of_d0 (awake : s.ep.d3 = false) : exec .d0Entry s = .next s :=
  congrArg _ (if_pos (by simp [awake]))

/-! ### Errors and the partial reset (R511, R512, R517 to R520) -/

section
variable {cause : Nat}

theorem exec_functionLevelReset_of_cause (known : 1 ≤ cause) (small : cause ≤ 4) :
    exec (.functionLevelReset cause) s = .next (s.epReset cause) :=
  congrArg _ (if_neg (by omega))

/-- The counts and the record of a partial reset change nothing but the objects and the guestbook. -/
theorem State.resetCounted_moves {units resets dropped n severity code : Nat} {fields : List (Nat × Nat)} :
    Moves 0x200001 s ((((s.tick units).tick resets).count dropped 0 n).record severity code fields) := by
  have within := Sub.refl 0x200001
  exact State.record_moves (State.count_moves (State.tick_moves (State.tick_moves (.refl _ _))))

/-- What the endpoint's reset does before it is counted and recorded: the endpoint's cells close, its link is in reset and every
read outstanding is to be discarded (R468, R517). -/
theorem State.epReset_enters (on : s.md.mode ≠ .vigil) (present : s.ep.link ≠ 0) (idle : s.ep.resetting = false) :
    ∃ entered : State, Moves 0x200001 entered (s.epReset cause) ∧ 6 ∈ entered.tt.closePend ∧ entered.ep.resetting = true ∧
      entered.ep.link = 3 ∧ ∀ t ∈ entered.ep.tags, t.use = 3 := by
  unfold State.epReset
  rw [if_neg (by simp [on, present]), if_neg (by simp [idle])]
  have within := Sub.refl 0x200001
  refine ⟨_, .ite (State.record_moves State.resetCounted_moves) State.resetCounted_moves,
    mem_addNew_self _ _, rfl, rfl, fun t listed => ?_⟩
  obtain ⟨r, _, rfl⟩ := List.mem_map.mp listed
  rfl

theorem State.epReset_effect (on : s.md.mode ≠ .vigil) (present : s.ep.link ≠ 0) (idle : s.ep.resetting = false) :
    6 ∈ (s.epReset cause).tt.closePend ∧ (s.epReset cause).ep.resetting = true ∧ (s.epReset cause).ep.link = 3 ∧
      ∀ t ∈ (s.epReset cause).ep.tags, t.use = 3 := by
  obtain ⟨entered, moves, closes, entry⟩ := State.epReset_enters (cause := cause) on present idle
  have tt : (s.epReset cause).tt = entered.tt := moves.frame .tt rfl
  have ep : (s.epReset cause).ep = entered.ep := moves.frame .ep rfl
  rw [tt, ep]
  exact ⟨closes, entry⟩

theorem exec_epError_known {unc : Bool} {e hdr : Nat} {regs : EpErrRegs} (present : s.ep.link ≠ 0)
    (known : e ∈ (if unc then epUncorrectable else epCorrectable)) :
    exec (.epError unc e hdr regs) s = .next (
      let u := State.epError unc e hdr { s with ep := { s.ep with
        aerMask := regs.mask, aerSeverity := regs.severity, corMask := regs.corMask, errEnables := regs.enables } }
      if unc = false then u else if e = 5 then u.epReset 3
      else if e = 4 ∨ e = 13 ∨ e = 18 then u.epReset 2 else if e = 22 then u.epReset 5 else u) := by
  have taken : ¬(s.ep.link = 0 || !(if unc then epUncorrectable else epCorrectable).contains e) = true := by
    simp [present, known]
  change execEpError unc e hdr regs s = _
  rw [execEpError, if_neg taken]
  cases unc <;> rfl

section
variable {link : Option (Nat × Nat)}

/-- The endpoint out of its reset: defaults, the settings that waited for it, and record 0xD003 (R517, R520). -/
def State.epAnew (s : State) : State :=
  State.modMd (fun m => { m with resets := modFirst (fun r => r.unit == 6) (fun r => { r with phase := .ready }) m.resets })
    (State.reopenUnit 6 (State.record 3 0xD003 [(1, s.ep.resetTimeouts), (4, (s.gh.now - s.ep.resetAt) / 1000000)]
      { s with ep :=
        { link := if s.ep.linkLost then 1 else 2, rate := if s.ep.linkLost then 0 else s.ep.rate
          width := if s.ep.linkLost then 0 else s.ep.width, errRecs := s.ep.errRecs
          subsystem := s.get Obj.ep_subsystem_id, sris := s.get Obj.ep_sris == 1 } }))

theorem exec_epResetDone_of_retired (resetting : s.ep.resetting = true) (retired : s.ep.tags = []) :
    exec (.epResetDone link) s = .next (if s.ep.linkLost then s.epAnew.epLinkUp link else s.epAnew) :=
  congrArg _ (if_neg (by simp [resetting, retired]))

theorem exec_epResetDone_early (early : s.ep.resetting = false ∨ s.ep.tags ≠ []) : exec (.epResetDone link) s = .next s :=
  congrArg _ (if_pos (by simpa using early))

end

/-- Settles O52: masks and power states, bus mastering, errors and the partial reset, each by its own lemma. -/
theorem endpointSignalsAndResets : Obligations.EndpointSignalsAndResets := by
  intro s msix fn dis mem unc intms v cause e hdr mrrs regs link
  refine ⟨fun idle up => ⟨exec_interruptModeChange_kept idle up, exec_interruptModeChange_msix idle up,
      exec_interruptUnmask_function idle up, exec_interruptUnmask_vector idle up, exec_d3hotEntry_linked idle up,
      exec_busMasterSet_linked idle up, exec_busMasterClear_quiet idle up, exec_busMasterClear_reads idle up⟩,
    exec_d0Entry_of_d3, exec_d0Entry_of_d0, exec_functionLevelReset_of_cause, State.epReset_effect, exec_epError_known,
    fun resetting retired => ⟨fun kept => ?_, fun lost => ?_⟩, exec_epResetDone_early⟩
  · exact (exec_epResetDone_of_retired resetting retired).trans (congrArg _ (if_neg (ne_true_of_eq_false kept)))
  · exact (exec_epResetDone_of_retired resetting retired).trans (congrArg _ (if_pos lost))

end

end

end Sys2Proof.Machine
end
